-- ==== Sys2Proof/Word.lean ====
section
/-! DEFINITION. The word types of the RN-4480: the 32-bit host word (00_scope, "A word is 32 bits") and the byte. -/

namespace Sys2Proof

/-- A 32-bit register or queue word (R3). -/
abbrev Word := BitVec 32

/-- A byte of a memory window, or of an air-interface frame (R4). -/
abbrev Byte := BitVec 8

end Sys2Proof
end

