-- ==== Sys2Proof/Syntax.lean ====
section
/-! DEFINITION. The commands of the RN-4480: one constructor per row of spec/opcode_table.json, with the operands each
row needs: register words and agents, and what the world outside supplies (a pin level, a tick, a measurement, the
bytes of a frame heard). -/

namespace Sys2Proof

/-- The agents that write and read registers (05_register_pages, "Locks and owners"; R141's agent codes). -/
inductive Agent where
  | host | hollyhock | larkspur
  deriving DecidableEq, Repr

/-- What set an action off: a register write by an agent, or an event on the unit's task input (R181). -/
inductive Source where
  | write (ag : Agent)
  | event
  deriving DecidableEq, Repr

/-- The rails whose fall is a power-on reset (R50). -/
inductive CoreRail where
  | vaon | vdda | vddc
  deriving DecidableEq, Repr

/-- Pages 0x00–0x2B (R129). -/
abbrev PageIx := Fin 0x2c
/-- Session slots 0–255; 0 is never a valid slot (R25). -/
abbrev SlotIx := Fin 256
/-- Coils 0–11. -/
abbrev CoilIx := Fin 12
/-- Field engines 0–3. -/
abbrev EngIx := Fin 4
/-- Larkspur players 0–7. -/
abbrev PlayerIx := Fin 8
/-- Compare units 0–31 (R163). -/
abbrev CmpIx := Fin 32
/-- Cadence generators 0–7 (R166). -/
abbrev CadIx := Fin 8
/-- Capture units 0–3 (R170). -/
abbrev CapIx := Fin 4
/-- Event channels 0–63 (R178). -/
abbrev ChanIx := Fin 64
/-- Logic cells 0–15 (R193). -/
abbrev CellIx := Fin 16
/-- Pins GP0–GP15 (R196). -/
abbrev GpIx := Fin 16
/-- Check-value channels 0–7 (R389). -/
abbrev CvuIx := Fin 8

/-- Duty groups 0–3 of the region table (R316). -/
abbrev DutyIx := Fin 4

/-- A mismatch measurement (R207): VPK in mV, IPK in 0.1 mA, and the phase in 0.1°. -/
structure MmMeas where
  vpk : Nat := 0
  ipk : Nat := 0
  phase : Int := 0
  deriving DecidableEq, Repr

/-- What the calibrations of one coil measured (R75 steps 6–8, 13 and 18, R83, R95): the ADC's offset and gain, the channel gain
for CAL_GAIN, the drive-to-current phase at the 32 coarse and the 16 fine codes of a sweep in 0.1°, the direction of the slope, the
mismatch at the code chosen, the mismatch at the retained code (step 18), and the Crocus baseline (magnitude, phase). -/
structure CoilMeas where
  adc : Word := 0
  gain : Word := 0
  coarse : List Int := []
  fine : List Int := []
  sign : Bool := false
  swept : MmMeas := {}
  check : MmMeas := {}
  baseMag : Nat := 0
  basePh : Nat := 0
  deriving DecidableEq, Repr

/-- What the return-band calibrations measured (R75 steps 9–12): the corrections of the eight sub-converters, the 64 band-table
words, the corrections of the 32 PA steps, the reflection |Γ| in 1/256 at each code of the aerial tuner, whether the synthesiser locked at step 18 (R77), with the band and loop gain found there and the ft from request to lock, and
the noise floor in 0.25 dBm. -/
structure RadioMeas where
  interleave : List Word := []
  bands : List Word := []
  paCorr : List Nat := []
  ant : List Nat := []
  locked : Bool := true
  lockBand : Nat := 0
  lockGain : Nat := 0
  lockFt : Nat := 0
  noise : Int := 0
  deriving DecidableEq, Repr

/-- What calibrations measured: by coil, on the return band, and the sensor trims (R75 step 5). -/
structure CalMeas where
  coils : List CoilMeas
  radio : RadioMeas
  sens : List Word
  deriving DecidableEq, Repr

/-- What the start sequence meets in the world (R73–R77): the mean die temperature in °C, VFLD in mV, what its calibration steps
measure, and how many ft steps take that do not take the greatest duration of R75 and R76. -/
structure StartMeas where
  dieTemp : Int
  vfldMv : Nat
  cal : CalMeas
  took : List (Nat × Nat)
  deriving DecidableEq, Repr

/-- One symbol of a reply on air, as the coding of R245 has it: for Manchester the modulation in its first and in its second half; with two
subcarriers that of fc/32 in both halves, then that of fc/28; for BPSK whether the subcarrier's phase is reversed. -/
inductive HfSym where
  | halves (first second : Nat)
  | tones (first32 second32 first28 second28 : Nat)
  | phase (reversed : Bool)
  deriving DecidableEq, Repr

/-- What the decoder finds where a start of frame may stand (R248–R250), with the rate of R264 at which it finds it: a sequence that the
standard fixes, TR1 with the lengths of SOF at logic 0 and at logic 1 in cc for 14443-B, or the preamble bits and the sync bytes of
18092 at 212 and 424 kbit/s. -/
inductive SofShape where
  | fixed (dr : Nat)
  | typeB (dr tr1 low high : Nat)
  | manchester (dr preamble : Nat) (sync : List Byte)
  deriving DecidableEq, Repr

/-- What a command of the receiver brings (R340): baseband samples as the chain gives them, referred to the RB_RFIN ball, 2^24 being the amplitude of
0 dBm; or the 10-bit codes of the converter that the chain takes, with the number of the first, counted in samples of the converter. -/
inductive RbSamples where
  | base (l : List (Int × Int))
  | codes (first : Nat) (l : List Int)
  deriving DecidableEq, Repr

/-- Where the correlation with the long symbol may have found a packet (R351): the number of the baseband sample that is packet sample 0,
and the samples 48–79 of the packet. -/
structure LongSync where
  start : Nat
  samples : RbSamples
  deriving DecidableEq, Repr

/-- The load-modulation state that the decoder finds from a tick at the pins on (R237): d is +1 when `up`. -/
structure LoadState where
  tick : Nat
  up : Bool
  deriving DecidableEq, Repr

/-- A reply as a field engine's decoder hears it (R245, R254, R262): the tick at which it ends, its symbols between start and end of frame in the
order on air, the load-modulation states, earliest first, and for 14443-B the extra guard time after each character and the length of EOF,
in cc. -/
structure HfReply where
  endTick : Nat
  line : List HfSym
  loads : List LoadState := []
  egts : List Nat := []
  eof : Nat := 0
  deriving DecidableEq, Repr

/-- What a search met (R347, R349): the number of the baseband sample on which the conditions are met, the samples up to it, the latest last, and in
survey mode the 5 samples of the first and of the second input that are compared after it. -/
structure Detection where
  sample : Nat
  samples : RbSamples
  first : RbSamples := .base []
  second : RbSamples := .base []
  deriving DecidableEq, Repr

/-- A preamble that the correlator meets during a reception (R354, R356): the number of the baseband sample, the number of the sample on which its packet
starts, and the samples up to the first, the latest last. -/
structure Newer where
  sample : Nat
  start : Nat
  samples : RbSamples
  deriving DecidableEq, Repr

/-- 32-bit words of the score store's window (R287). -/
abbrev ScoreIx := Fin 16384

/-- A layer-4 block that a reader sends the panel tag (R408): an I-block that chains on or one that ends its APDU, R(ACK) or R(NAK). -/
inductive TagBlockKind where
  | iMore
  | iLast
  | ack
  | nak
  deriving DecidableEq, Repr

/-- A block at the panel tag (R408): its kind and block number, its CID, whether its CRC_A and parity hold, and the tick at which the tag's
answer to it ends (R422). -/
structure TagBlock where
  kind : TagBlockKind
  no : Bool
  cid : Option Nat
  good : Bool
  ends : Nat
  deriving DecidableEq, Repr

/-- An APDU that the panel tag receives (R412): its CLA, INS, P1 and P2, data (none without Lc), Le (1–256; none when absent), whether it came
in extended length; how many word writes the tag's reserve allows (R418); and the blocks that carry it and then its answer (R408). The INS is
the row's own, or one that R412 does not list. -/
structure Apdu where
  cla : Nat
  ins : Nat
  p1 : Nat
  p2 : Nat
  data : Option (List Byte)
  le : Option Nat
  extended : Bool
  writes : Nat
  blocks : List TagBlock
  deriving DecidableEq, Repr

/-- 32-bit words of the panel tag memory view (R129). -/
abbrev TagWordIx := Fin 4096

/-- The TAGC registers that hold the tag's configuration (R425). -/
inductive TagcReg where
  | cfg
  | persistLock
  | cntProt
  | regionAcc (q : Fin 4)
  deriving DecidableEq, Repr

/-- What one slot of a Crocus sweep met (R461, R207): the 256 converter codes of cc 16–47, and the mismatch measurement: VPK in mV, IPK in 0.1 mA and the phase in 0.1°. -/
structure CrocusSlot where
  samples : List Int
  vpk : Nat
  ipk : Nat
  phase : Int
  deriving DecidableEq, Repr

/-- A value that a sensor's refresh period gives (R431): a site's temperature in 1/16 °C, a supply in mV, a coil's rms current in
0.1 mA and drive voltage in mV, a coil's delivered power in 0.25 mW and sense amplitude in 0.1 mV. -/
inductive SensorValue where
  | temp (k : Fin 3) (v : Int)
  | supply (r : Fin 6) (mv : Nat)
  | drive (c : CoilIx) (irms vpk : Nat)
  | field (c : CoilIx) (power field : Nat)
  deriving DecidableEq, Repr

/-- The commands. Each constructor stands for the row of spec/opcode_table.json that LAWS.json names for it; the rows without
operands stand last. -/
inductive Instr where
  /-- QSPI_READ (R99). -/
  | qspiRead (addr : Nat) (count : Nat)
  /-- QSPI_WRITE (R99). -/
  | qspiWrite (addr : Nat) (words : List Word)
  /-- QSPI_QREAD (R99). -/
  | qspiQread (addr : Nat) (count : Nat)
  /-- QSPI_QWRITE (R99). -/
  | qspiQwrite (addr : Nat) (words : List Word)
  /-- QSPI_UNKNOWN_COMMAND (R102). -/
  | qspiUnknownCommand (code : Byte)
  /-- REGISTER_WRITE (R139). -/
  | registerWrite (ag : Agent) (addr : Nat) (w : Word)
  /-- PAIR_LO_READ (R150). -/
  | pairLoRead (ag : Agent) (addr : Nat)
  /-- FTB_LO_READ (R158). -/
  | ftbLoRead (ag : Agent)
  /-- CMD_PORT_WRITE (R106). -/
  | cmdPortWrite (w : Word)
  /-- SESSION_CLOSED (R28). -/
  | sessionClosed (slot : SlotIx)
  /-- MIGRATION_COMPLETE (R33). -/
  | migrationComplete (slot : SlotIx)
  /-- PENDING_COMMAND_START (R21). -/
  | pendingCommandStart (slot : SlotIx)
  /-- RESULT_HELD_POST (R23). -/
  | resultHeldPost (tick : Nat)
  /-- QUEUE_FLUSH (R122). -/
  | queueFlush (ag : Agent) (w : Word)
  /-- QUEUE_MARKS_WRITE (R121). -/
  | queueMarksWrite (ag : Agent) (attn : Bool) (w : Word)
  /-- QUEUE_CNT_CLR (R128). -/
  | queueCntClr (ag : Agent) (w : Word)
  /-- HIF_CNT_CLR (R126). -/
  | hifCntClr (ag : Agent) (w : Word)
  /-- SESSION_RAM_WRITE (R31). -/
  | sessionRamWrite (addr : Nat) (w : Word)
  /-- QUIESCE_REQUEST (R142). -/
  | quiesceRequest (ag : Agent) (page : PageIx)
  /-- QUIESCE_REACHED (R142). -/
  | quiesceReached (page : PageIx)
  /-- QUIESCE_RELEASE (R144). -/
  | quiesceRelease (ag : Agent) (page : PageIx)
  /-- BLOCK_DISABLE (R135). -/
  | blockDisable (ag : Agent) (page : PageIx)
  /-- BLOCK_ENABLE (R135). -/
  | blockEnable (ag : Agent) (page : PageIx)
  /-- IRQ_SET_WRITE (R136). -/
  | irqSetWrite (ag : Agent) (page : PageIx) (w : Word)
  /-- IRQ_EN_WRITE (R136). -/
  | irqEnWrite (ag : Agent) (page : PageIx) (w : Word)
  /-- LOCK_WRITE (R137). -/
  | lockWrite (ag : Agent) (page : PageIx) (w : Word)
  /-- OWNER_WRITE (R138). -/
  | ownerWrite (ag : Agent) (page : PageIx) (w : Word)
  /-- ERR_CODE_CLR (R140). -/
  | errCodeClr (ag : Agent) (page : PageIx)
  /-- STAGE_APPLY (R145). -/
  | stageApply (ag : Agent) (page : PageIx)
  /-- STAGE_DISCARD (R145). -/
  | stageDiscard (ag : Agent) (page : PageIx)
  /-- SYS_CLAIM (R155). -/
  | sysClaim (ag : Agent) (w : Word)
  /-- CLK_GATE_RB_OFF (R156). -/
  | clkGateRbOff (ag : Agent)
  /-- CLK_GATE_RB_ON (R156). -/
  | clkGateRbOn (ag : Agent)
  /-- POR_RELEASE (R48). -/
  | porRelease (gp15 : Bool) (refclkIn : Bool) (resetN : Bool)
  /-- CORE_SUPPLY_FAIL (R50). -/
  | coreSupplyFail (rail : CoreRail)
  /-- RESET_N_RELEASE (R73). -/
  | resetNRelease (wakeHeld : Bool)
  /-- SW_RESET_SYSTEM (R86). -/
  | swResetSystem (ag : Agent) (w : Word)
  /-- SW_RESET_MGT (R91). -/
  | swResetMgt (ag : Agent) (w : Word)
  /-- BLOCK_RESET (R92). -/
  | blockReset (ag : Agent) (w : Word)
  /-- REFERENCE_QUALIFIED (R80). -/
  | referenceQualified (qualUs : Nat) (m : StartMeas)
  /-- READY (R78). -/
  | ready (tick : Nat)
  /-- CAL_HF_ADC (R95). -/
  | calHfAdc (ag : Agent) (w : Word)
  /-- CAL_CHANNEL_GAIN_PHASE (R95). -/
  | calChannelGainPhase (ag : Agent) (w : Word)
  /-- CAL_TUNER_SWEEP (R83). -/
  | calTunerSweep (ag : Agent) (w : Word)
  /-- CAL_RB_ADC_INTERLEAVE (R95). -/
  | calRbAdcInterleave (ag : Agent) (w : Word)
  /-- CAL_SYNTH_BAND_TABLE (R95). -/
  | calSynthBandTable (ag : Agent) (w : Word)
  /-- CAL_PA_AERIAL (R95). -/
  | calPaAerial (ag : Agent) (w : Word)
  /-- CAL_SENSORS (R95). -/
  | calSensors (ag : Agent) (w : Word)
  /-- CAL_CROCUS_BASELINE (R95). -/
  | calCrocusBaseline (ag : Agent) (w : Word)
  /-- CAL_RECORD_WRITE (R85). -/
  | calRecordWrite (ag : Agent) (w : Word)
  /-- CAL_DONE (R97). -/
  | calDone (tick : Nat) (m : CalMeas) (skipped : Nat)
  /-- SNAP_GO (R160). -/
  | snapGo (src : Source)
  /-- COMPARE_ARM (R163). -/
  | compareArm (k : CmpIx) (src : Source)
  /-- COMPARE_TARGET_WRITE (R165). -/
  | compareTargetWrite (ag : Agent) (k : CmpIx) (hi : Word)
  /-- COMPARE_FIRE (R163). -/
  | compareFire (k : CmpIx)
  /-- CADENCE_RUN (R166). -/
  | cadenceRun (g : CadIx) (src : Source)
  /-- CADENCE_STOP (R169). -/
  | cadenceStop (g : CadIx) (src : Source)
  /-- CADENCE_WRAP (R166). -/
  | cadenceWrap (g : CadIx)
  /-- CADENCE_PERIOD_CHANGE (R168). -/
  | cadencePeriodChange (ag : Agent) (g : CadIx) (w : Word)
  /-- CAPTURE_EVENT (R170). -/
  | captureEvent (c : CapIx)
  /-- CAPTURE_HI_READ (R171). -/
  | captureHiRead (ag : Agent) (c : CapIx)
  /-- SYNC_GO (R175). -/
  | syncGo (src : Source)
  /-- SYNC_EDGE (R174). -/
  | syncEdge (tick : Nat) (pin : Bool)
  /-- AON_MEAS_UPDATE (R176). -/
  | aonMeasUpdate (ft : Nat)
  /-- EVENT_CHANNEL_ENTRY (R185). -/
  | eventChannelEntry (chan : ChanIx) (edge : Nat) (count : Nat)
  /-- LIMITER_RELEASE (R185). -/
  | limiterRelease (chan : ChanIx)
  /-- EVF_FIRE (R189). -/
  | evfFire (ag : Agent) (k : PlayerIx) (w : Word)
  /-- EVF_FIRE_MASK (R189). -/
  | evfFireMask (ag : Agent) (k : PlayerIx) (hi : Word)
  /-- EVF_CH_RECLAIM (R191). -/
  | evfChReclaim (ag : Agent) (w : Word)
  /-- CELL_OUTPUT_CHANGE (R195). -/
  | cellOutputChange (c : CellIx) (edge : Nat)
  /-- GP_INPUT_EDGE (R197). -/
  | gpInputEdge (n : GpIx) (level : Bool) (tick : Nat)
  /-- GP_EVENT_OUTPUT (R196). -/
  | gpEventOutput (n : GpIx)
  /-- GP_PULSE_END (R196). -/
  | gpPulseEnd (n : GpIx)
  /-- GP_OUT_WRITE (R196). -/
  | gpOutWrite (ag : Agent) (w : Word)
  /-- EVF_CNT_CLR (R200). -/
  | evfCntClr (ag : Agent) (w : Word)
  /-- MM_MEASUREMENT_DONE (R207). -/
  | mmMeasurementDone (c : CoilIx) (vpk : Nat) (ipk : Nat) (phase : Int)
  /-- DRIVER_CURRENT_LIMIT (R57). -/
  | driverCurrentLimit (c : CoilIx)
  /-- TUNE_CODE_APPLY (R206). -/
  | tuneCodeApply (c : CoilIx)
  /-- THETA_RECOMPUTE (R203). -/
  | thetaRecompute (c : CoilIx) (vfld : Nat)
  /-- CHAIN_OUTPUT (R215). -/
  | chainOutput (c : CoilIx) (samples : List Int)
  /-- CHAIN_RESTART (R219). -/
  | chainRestart (ag : Agent) (n : CoilIx) (w : Word)
  /-- PROFILE_CHANGE (R218). -/
  | profileChange (ag : Agent) (n : CoilIx) (w : Word)
  /-- COIL_CNT_CLR (R223). -/
  | coilCntClr (ag : Agent) (n : CoilIx) (w : Word)
  /-- COIL_SET_ADD (R224). -/
  | coilSetAdd (ag : Agent) (n : EngIx) (coils : Nat)
  /-- COIL_SET_REMOVE (R225). -/
  | coilSetRemove (ag : Agent) (n : EngIx) (coils : Nat)
  /-- COIL_RELEASE (R225). -/
  | coilRelease (c : CoilIx)
  /-- BANK_SEL_WRITE (R231). -/
  | bankSelWrite (ag : Agent) (n : EngIx) (bank : Bool)
  /-- BANK_SWAP_EVENT (R231). -/
  | bankSwapEvent (n : EngIx)
  /-- XFADE_END (R230). -/
  | xfadeEnd (n : EngIx)
  /-- WEIGHT_WRITE (R232). -/
  | weightWrite (ag : Agent) (n : EngIx) (bank : Bool) (c : CoilIx) (w : Word)
  /-- GOVERNOR_MEASURE (R235). -/
  | governorMeasure (mw : Nat)
  /-- FWGT_CNT_CLR (R242). -/
  | fwgtCntClr (ag : Agent) (w : Word)
  /-- STEP_ISSUE (R298). -/
  | stepIssue (k : PlayerIx)
  /-- FIELD_STEP (R295). -/
  | fieldStep (n : EngIx)
  /-- BANK_STEP (R231). -/
  | bankStep (n : EngIx)
  /-- TX_STEP (R253). -/
  | txStep (n : EngIx)
  /-- RXWIN_STEP (R254). -/
  | rxwinStep (n : EngIx)
  /-- PUBLISH_STEP (R295). -/
  | publishStep (k : PlayerIx)
  /-- GPIO_STEP (R295). -/
  | gpioStep (k : PlayerIx)
  /-- WRITE_STEP (R296). -/
  | writeStep (k : PlayerIx)
  /-- SNAP_STEP (R160). -/
  | snapStep (k : PlayerIx)
  /-- COMMIT_STEP (R307). -/
  | commitStep (k : PlayerIx)
  /-- NOP_STEP (R295). -/
  | nopStep (k : PlayerIx)
  /-- BRANCH_STEP (R297). -/
  | branchStep (k : PlayerIx)
  /-- END_STEP (R290). -/
  | endStep (k : PlayerIx)
  /-- PLAYER_TRIGGER (R290). -/
  | playerTrigger (k : PlayerIx)
  /-- PLAYER_START (R290). -/
  | playerStart (ag : Agent) (k : PlayerIx) (num : SlotIx)
  /-- PLAYER_STOP (R306). -/
  | playerStop (ag : Agent) (k : PlayerIx)
  /-- PLAYER_HOLD (R306). -/
  | playerHold (ag : Agent) (k : PlayerIx) (on : Bool)
  /-- SWAP_REQ (R304). -/
  | swapReq (ag : Agent) (k : PlayerIx)
  /-- SWAP_CANCEL (R304). -/
  | swapCancel (ag : Agent) (k : PlayerIx)
  /-- VERIFY (R303). -/
  | verify (ag : Agent) (k : PlayerIx)
  /-- VERIFY_DONE (R303). -/
  | verifyDone (k : PlayerIx)
  /-- LSP_CLAIM (R289). -/
  | lspClaim (ag : Agent) (w : Word)
  /-- SCORE_STORE_WRITE (R288). -/
  | scoreStoreWrite (i : ScoreIx) (w : Word)
  /-- PL_SLOT_WRITE (R287). -/
  | plSlotWrite (ag : Agent) (k : PlayerIx) (onB : Bool) (w : Word)
  /-- COMMIT_GO (R307). -/
  | commitGo (ag : Agent) (w : Word)
  /-- LSP_CNT_CLR (R314). -/
  | lspCntClr (ag : Agent) (w : Word)
  /-- HF_TX_END (R247). -/
  | hfTxEnd (n : EngIx)
  /-- GUARD_DONE (R252). -/
  | guardDone (n : EngIx)
  /-- HF_RX_SOF (R254). -/
  | hfRxSof (n : EngIx) (tick ends : Nat) (low : Bool) (shape : SofShape)
  /-- HF_RX_END (R262). -/
  | hfRxEnd (n : EngIx) (r : HfReply)
  /-- RX_WINDOW_CLOSE (R254). -/
  | rxWindowClose (n : EngIx)
  /-- FE_ABORT (R263). -/
  | feAbort (n : EngIx)
  /-- FEN_CNT_CLR (R265). -/
  | fenCntClr (ag : Agent) (n : EngIx) (w : Word)
  /-- SESS_CNT_CLR (R285). -/
  | sessCntClr (ag : Agent) (w : Word)
  /-- RB_SYN_REQ (R321). -/
  | rbSynReq (ag : Agent) (w : Word)
  /-- RADIO_STATE_REACHED (R322). -/
  | radioStateReached (tick : Nat)
  /-- SYNTH_CAL_DONE (R326). -/
  | synthCalDone (tick : Nat) (band : Nat) (gain : Nat)
  /-- SYNTH_LOCK (R326). -/
  | synthLock (tick : Nat)
  /-- LOCK_LOSS (R328). -/
  | lockLoss (tick : Nat)
  /-- TEST_TX_GO (R330). -/
  | testTxGo (ag : Agent) (w : Word)
  /-- TEST_TX_STOP (R330). -/
  | testTxStop (ag : Agent)
  /-- AERIAL_MM_DONE (R334). -/
  | aerialMmDone (gamma : Nat) (phase : Int)
  /-- DUTY_BIN_ADVANCE (R318). -/
  | dutyBinAdvance (g : DutyIx)
  /-- RB_SYN_CNT_CLR (R337). -/
  | rbSynCntClr (ag : Agent) (w : Word)
  /-- RB_TX_CNT_CLR (R338). -/
  | rbTxCntClr (ag : Agent) (w : Word)
  /-- RB_ANT_CNT_CLR (R339). -/
  | rbAntCntClr (ag : Agent) (w : Word)
  /-- PREAMBLE_DET (R347). -/
  | preambleDet (d : Detection)
  /-- AGC_ATTACK (R348). -/
  | agcAttack (block : RbSamples) (clip : Bool)
  /-- AFC_FREEZE (R350). -/
  | afcFreeze (samples : RbSamples)
  /-- LONG_TRAINING_SYNC (R351). -/
  | longTrainingSync (x : LongSync)
  /-- SIGNAL_DECODED (R354). -/
  | signalDecoded (samples : RbSamples)
  /-- NEWER_PREAMBLE (R354). -/
  | newerPreamble (n : Newer)
  /-- DECODE_END (R359). -/
  | decodeEnd (tick : Nat) (samples : RbSamples)
  /-- NOISE_UPDATED (R360). -/
  | noiseUpdated (onB : Bool) (block : RbSamples)
  /-- RB_RX_CNT_CLR (R362). -/
  | rbRxCntClr (ag : Agent) (w : Word)
  /-- RB_DEM_CNT_CLR (R363). -/
  | rbDemCntClr (ag : Agent) (w : Word)
  /-- RB_DEC_CNT_CLR (R364). -/
  | rbDecCntClr (ag : Agent) (w : Word)
  /-- CVU_START (R394). -/
  | cvuStart (ag : Agent) (c : CvuIx) (w : Word)
  /-- CVU_END (R394). -/
  | cvuEnd (ag : Agent) (c : CvuIx) (w : Word)
  /-- CVU_ABORT (R394). -/
  | cvuAbort (ag : Agent) (c : CvuIx) (w : Word)
  /-- CVU_DATA (R395). -/
  | cvuData (ag : Agent) (c : CvuIx) (w : Word)
  /-- CVU_RUN_WRITE (R395). -/
  | cvuRunWrite (ag : Agent) (c : CvuIx) (w : Word)
  /-- CVU_CFG_WRITE (R392). -/
  | cvuCfgWrite (ag : Agent) (c : CvuIx) (w : Word)
  /-- CVU_CHQ_WRITE (R400). -/
  | cvuChqWrite (ag : Agent) (w : Word)
  /-- CVU_CNT_CLR (R402). -/
  | cvuCntClr (ag : Agent) (w : Word)
  /-- TAG_FIELD_ON (R403). -/
  | tagFieldOn (reserve : Bool)
  /-- TAG_REQA (R407). -/
  | tagReqa (t : Nat)
  /-- TAG_WUPA (R407). -/
  | tagWupa (t : Nat)
  /-- TAG_ANTICOLLISION (R406). -/
  | tagAnticollision (level : Nat) (known : List Bool) (t : Nat)
  /-- TAG_SELECT (R406). -/
  | tagSelect (level : Nat) (l : List Byte) (t : Nat)
  /-- TAG_RATS (R408). -/
  | tagRats (param : Nat) (t : Nat)
  /-- TAG_PPS (R408). -/
  | tagPps (cid : Nat) (dsi : Nat) (dri : Nat) (t : Nat)
  /-- TAG_DESELECT (R407). -/
  | tagDeselect (cid : Option Nat) (t : Nat)
  /-- APDU_SELECT (R413). -/
  | apduSelect (x : Apdu)
  /-- APDU_READ_BINARY (R412). -/
  | apduReadBinary (x : Apdu)
  /-- APDU_UPDATE_BINARY (R418). -/
  | apduUpdateBinary (x : Apdu)
  /-- APDU_VERIFY (R415). -/
  | apduVerify (x : Apdu)
  /-- APDU_CHANGE_REFERENCE_DATA (R415). -/
  | apduChangeReferenceData (x : Apdu)
  /-- APDU_INCREMENT_COUNTER (R420). -/
  | apduIncrementCounter (x : Apdu)
  /-- APDU_READ_COUNTER (R419). -/
  | apduReadCounter (x : Apdu)
  /-- I2C_WRITE_TRANSACTION (R424). -/
  | i2cWriteTransaction (addr : Nat) (mem : Nat) (l : List Byte) (first : Nat)
  /-- I2C_READ_TRANSACTION (R424). -/
  | i2cReadTransaction (addr : Nat) (mem : Option Nat) (n : Nat) (first : Nat)
  /-- TAG_VIEW_ACCESS (R132). -/
  | tagViewAccess (write : Bool) (a : TagWordIx) (w : Word)
  /-- TAGC_PW_SET (R417). -/
  | tagcPwSet (ag : Agent) (value : Word) (w : Word)
  /-- TAGC_CNT_INC (R420). -/
  | tagcCntInc (ag : Agent) (w : Word)
  /-- TAGC_CONFIG_WRITE (R425). -/
  | tagcConfigWrite (ag : Agent) (r : TagcReg) (w : Word)
  /-- TAGC_FIELD_WLOCK (R423). -/
  | tagcFieldWlock (ag : Agent) (w : Word)
  /-- TAGC_CNT_CLR (R425). -/
  | tagcCntClr (ag : Agent) (w : Word)
  /-- MBOX_GET_VERSION (R429). -/
  | mboxGetVersion (ag : Agent) (tag : Nat) (args : List Word)
  /-- MBOX_LOG_NOTE (R429). -/
  | mboxLogNote (ag : Agent) (tag : Nat) (args : List Word)
  /-- MBOX_CALIBRATE (R429). -/
  | mboxCalibrate (ag : Agent) (tag : Nat) (args : List Word)
  /-- MBOX_APPLY_RECORD (R445). -/
  | mboxApplyRecord (ag : Agent) (tag : Nat) (args : List Word)
  /-- MBOX_CHECK_STORE (R429). -/
  | mboxCheckStore (ag : Agent) (tag : Nat) (args : List Word)
  /-- MBOX_FW_SWITCH (R442). -/
  | mboxFwSwitch (ag : Agent) (tag : Nat) (args : List Word)
  /-- MBOX_FW_CONFIRM (R443). -/
  | mboxFwConfirm (ag : Agent) (tag : Nat) (args : List Word)
  /-- MBOX_FW_REVERT (R443). -/
  | mboxFwRevert (ag : Agent) (tag : Nat) (args : List Word)
  /-- MBOX_TAG_UNLOCK (R416). -/
  | mboxTagUnlock (ag : Agent) (tag : Nat) (args : List Word)
  /-- MBOX_PROT_CLEAR (R434). -/
  | mboxProtClear (ag : Agent) (tag : Nat) (args : List Word)
  /-- MBOX_UNKNOWN_CODE (R428). -/
  | mboxUnknownCode (ag : Agent) (code : Nat) (tag : Nat) (args : List Word)
  /-- SENSOR_REFRESH (R431). -/
  | sensorRefresh (x : SensorValue)
  /-- HW_TRIP (R432). -/
  | hwTrip (site : Fin 3) (temp : Int)
  /-- SUPPLY_RANGE_REPORT (R434). -/
  | supplyRangeReport (rail : Fin 6) (mv : Nat)
  /-- LOG_SEL_WRITE (R437). -/
  | logSelWrite (ag : Agent) (w : Word)
  /-- LOG_CLEAR (R437). -/
  | logClear (ag : Agent) (w : Word)
  /-- UPD_TARGET_WRITE (R440). -/
  | updTargetWrite (ag : Agent) (w : Word)
  /-- UPD_BEGIN (R439). -/
  | updBegin (ag : Agent)
  /-- UPD_DATA (R439). -/
  | updData (ag : Agent) (w : Word)
  /-- UPD_VERIFY (R439). -/
  | updVerify (ag : Agent)
  /-- UPD_ABORT (R440). -/
  | updAbort (ag : Agent)
  /-- WATCHDOG_TRIP (R473). -/
  | watchdogTrip (pc : Nat)
  /-- SENS_CNT_CLR (R448). -/
  | sensCntClr (ag : Agent) (w : Word)
  /-- MODE_REQ_SLEEP (R453). -/
  | modeReqSleep (ag : Agent) (w : Word)
  /-- MODE_REQ_WATCH (R453). -/
  | modeReqWatch (ag : Agent) (w : Word)
  /-- WAKE_TIMER_EXPIRY (R456). -/
  | wakeTimerExpiry (tick : Nat)
  /-- WAKE_DETECT (R456). -/
  | wakeDetect (causes : Nat) (cycles : Nat) (tick : Nat)
  /-- FTB_RESUME (R458). -/
  | ftbResume (cycles : Nat)
  /-- WAKE_RESTORE (R457). -/
  | wakeRestore (tick : Nat)
  /-- CROCUS_COIL_CLAIM (R460). -/
  | crocusCoilClaim (c : CoilIx)
  /-- CROCUS_SWEEP_START (R461). -/
  | crocusSweepStart (gap : Bool) (tick : Nat)
  /-- CROCUS_SWEEP_END (R463). -/
  | crocusSweepEnd (tick : Nat) (slots : List CrocusSlot)
  /-- CROCUS_BASE_REQ (R462). -/
  | crocusBaseReq (ag : Agent) (w : Word)
  /-- CROCUS_CNT_CLR (R467). -/
  | crocusCntClr (ag : Agent) (w : Word)
  /-- DBG_CNT_CLR_ALL (R475). -/
  | dbgCntClrAll (ag : Agent) (w : Word)
  /-- INJECT_FIELD_LOSS (R476). -/
  | injectFieldLoss (ag : Agent) (w : Word)
  /-- INJECT_LOCK_LOSS (R476). -/
  | injectLockLoss (ag : Agent) (w : Word)
  /-- INJECT_TEMPERATURE (R476). -/
  | injectTemperature (ag : Agent) (w : Word)
  /-- INJECT_CVU_MISMATCH (R476). -/
  | injectCvuMismatch (ag : Agent) (w : Word)
  /-- INJECT_END (R476). -/
  | injectEnd (kind : Nat)
  /-- TAP_EXTEST (R479). -/
  | tapExtest (cells : List Bool)
  /-- TAP_SAMPLE_PRELOAD (R478). -/
  | tapSamplePreload (cells : List Bool)
  /-- BLOCK_RESET_DONE (R92). -/
  | blockResetDone (page : PageIx)
  /-- QSPI_STATUS (R127). -/
  | qspiStatus
  /-- QCS_N_RISE_PARTIAL_WORD (R101). -/
  | qcsNRisePartialWord
  /-- RES_PORT_READ (R113). -/
  | resPortRead
  /-- EVT_PORT_READ (R115). -/
  | evtPortRead
  /-- SESSION_CREATE (R281). -/
  | sessionCreate
  /-- SESSION_DESTROY (R28). -/
  | sessionDestroy
  /-- SESSION_PLACE (R282). -/
  | sessionPlace
  /-- SESSION_MIGRATE (R283). -/
  | sessionMigrate
  /-- HF_EXCHANGE (R261). -/
  | hfExchange
  /-- RB_EXCHANGE (R381). -/
  | rbExchange
  /-- XB_EXCHANGE (R381). -/
  | xbExchange
  /-- DISCOVER (R266). -/
  | discover
  /-- SNAP (R162). -/
  | snap
  /-- SYNC (R175). -/
  | sync
  /-- MARK (R110). -/
  | mark
  /-- STALE_TIMEOUT (R119). -/
  | staleTimeout
  /-- VDDRF_SUPERVISOR (R50). -/
  | vddrfSupervisor
  /-- VDDIO_SUPERVISOR (R50). -/
  | vddioSupervisor
  /-- VFLD_FALL (R51). -/
  | vfldFall
  /-- VFLD_RISE (R51). -/
  | vfldRise
  /-- RESET_N_ASSERT (R67). -/
  | resetNAssert
  /-- CLOCK_LOSS (R90). -/
  | clockLoss
  /-- HOLLYHOCK_RESTART (R91). -/
  | hollyhockRestart
  /-- DRIFT_CHECK (R98). -/
  | driftCheck
  /-- SNAP_CAPTURE (R160). -/
  | snapCapture
  /-- EVF_TASK_IRQ (R181). -/
  | evfTaskIrq
  /-- RADIO_STEP (R321). -/
  | radioStep
  /-- RBWIN_STEP (R352). -/
  | rbwinStep
  /-- RBTX_STEP (R329). -/
  | rbtxStep
  /-- COMMIT_MARGIN (R308). -/
  | commitMargin
  /-- COMMIT_APPLY (R308). -/
  | commitApply
  /-- SYNTH_SEARCH_TIMEOUT (R327). -/
  | synthSearchTimeout
  /-- SYNTH_FULL_SEARCH_FAIL (R327). -/
  | synthFullSearchFail
  /-- TX_RAMP_END (R322). -/
  | txRampEnd
  /-- TX_END (R329). -/
  | txEnd
  /-- TX_TAIL_END (R323). -/
  | txTailEnd
  /-- TEST_TX_TIMEOUT (R330). -/
  | testTxTimeout
  /-- ANT_TUNE_APPLY (R333). -/
  | antTuneApply
  /-- AGC_RELEASE (R348). -/
  | agcRelease
  /-- TIMING_TIMEOUT (R351). -/
  | timingTimeout
  /-- PACKET_END (R323). -/
  | packetEnd
  /-- RB_WINDOW_CLOSE (R352). -/
  | rbWindowClose
  /-- RB_RX_ABORT (R353). -/
  | rbRxAbort
  /-- TAG_FIELD_LOST (R404). -/
  | tagFieldLost
  /-- TAG_HLTA (R407). -/
  | tagHlta
  /-- WIRE_GRANULE (R421). -/
  | wireGranule
  /-- WIRE_TIMEOUT (R422). -/
  | wireTimeout
  /-- MBOX_REPLY (R426). -/
  | mboxReply
  /-- MBOX_NOTIFY (R430). -/
  | mboxNotify
  /-- THERMAL_LEVEL_CHECK (R432). -/
  | thermalLevelCheck
  /-- PROT_CAP_STEP (R432). -/
  | protCapStep
  /-- VFLD_OVERVOLTAGE (R434). -/
  | vfldOvervoltage
  /-- UPD_VERIFY_DONE (R439). -/
  | updVerifyDone
  /-- TRIAL_TIMEOUT (R443). -/
  | trialTimeout
  /-- MODE_ENTERED (R454). -/
  | modeEntered
  /-- CONSOLE_LINE_SENT (R477). -/
  | consoleLineSent
  /-- TAP_IDCODE (R478). -/
  | tapIdcode
  /-- TAP_CLAMP (R479). -/
  | tapClamp
  /-- TAP_HIGHZ (R479). -/
  | tapHighz
  /-- TAP_BYPASS (R478). -/
  | tapBypass
  /-- VDDIO_SUPPLY_RECOVERY (R50). -/
  | vddioSupplyRecovery
  /-- VDDRF_SUPPLY_RECOVERY (R50). -/
  | vddrfSupplyRecovery
  /-- VFLD_OVERVOLTAGE_CLEAR (R434). -/
  | vfldOvervoltageClear
  /-- SURVEY_INPUT_ALTERNATE (R349). -/
  | surveyInputAlternate
  /-- TEST_LOGIC_RESET (R478). -/
  | testLogicReset
  /-- LOG_CLEAR_DONE (R437). -/
  | logClearDone
  deriving DecidableEq, Repr

end Sys2Proof
end

