-- ==== Sys2Proof/Config.lean ====
section
/-! DEFINITION. What one part fixes and the manual does not state: the free values. Each is an opaque constant without a
body, so no proof can see its value and a claim about it holds for every value. -/

namespace Sys2Proof

/-- A value the manual leaves open, fresh at each use: applied to the State's counter of free values (log entry 2). -/
opaque Config.freeValue : Nat → Nat

/-- Whether a quotient whose rounding the manual does not state goes up, by its numerator and denominator (log entry 30). -/
opaque Config.roundsUp : Int → Int → Bool

/-- Whether the check bytes of RN-2210 compatibility mode go out least significant first: the manual gives the on-air order
of the native presets alone (log entry 32). -/
opaque Config.compatLsFirst : Bool

/-- Whether a Manchester bit 0 of 18092 is low in its first half: the manual names the coding alone (log entry 63). -/
opaque Config.manchesterLowFirst : Bool

/-- The code that RB_DEM.ERR_INFO shows for a cause of FALSE_SYNC, of which the manual gives names alone (log entry 42). -/
opaque Config.falseSyncCode : Nat → Nat

/-- The identity area of the panel tag, by address: the UID fused at manufacture, then part and stepping (R406, R409; log entry
43). -/
opaque Config.tagIdentity : Nat → BitVec 8

/-- Voxtier's public key in the boot ROM, a point of P-256 (R438; log entry 51). -/
opaque Config.voxtierKey : Nat × Nat

/-- The boundary cells of chain output `i` (0–4 QRDY, IRQ_N, HOLD_N, ATTN_N, SYNC_OUT; 5 MTX; 6–9 RB_TUNE0–3; 10–25 GP0–15; 26–29 QIO0–3; 30 TSCL; 31 TSDA): that of its
level (R479; log entry 56): the manual leaves the order of the cells to another file. -/
opaque Config.outCell : Nat → Nat
/-- The enable cell of chain output `i`. -/
opaque Config.enableCell : Nat → Nat
/-- The value of its enable cell that drives chain output `i`. -/
opaque Config.enableOn : Nat → Bool

/-- Which of the points of a tuner sweep that lie equally near 0° is taken, by the phases measured (R83; log entry 92): the manual names none. -/
opaque Config.sweepTie : List Int → Nat
/-- The drive-to-current phase, in 0.1°, that the sweep of a calibration request finds, by the request's start tick, coil and point (0–31 coarse,
32–47 fine; R83; log entry 92): CAL_DONE brings the measurements at the request's end. -/
opaque Config.sweepPhase : Nat → Nat → Nat → Int

/-- The record format version of a firmware, by its VERSION (R74, R94; log entry 52): the manual names the field alone. -/
opaque Config.recordFormat : Nat → Nat

/-- What a code of a sub-converter becomes with its interleave correction (R75, R340; log entry 116): the manual names the correction alone. -/
opaque Config.interleaveFix : BitVec 32 → Int → Int
/-- Cosine and sine of the numerically controlled oscillator, by its phase in 1/24,408,000 of a turn (R340; log entry 116). -/
opaque Config.nco : Nat → Int × Int
/-- The coefficients of the first decimator, of the second, and of the channel filter (R340; log entry 116). -/
opaque Config.taps : Nat → List Int
/-- A filtered sample, at an attenuator setting, as referred to the RB_RFIN ball (R340; log entry 116). -/
opaque Config.atBall : Nat → Int → Int

/-- The power at the input, in 0.25 dBm, that brings the converter to full scale with the attenuator at 0 dB: the manual bounds the largest
input alone (R341; log entry 116). -/
opaque Config.fullScale : Int

/-- A ratio in 0.25 dB of two powers of which one is 0 (log entry 116). -/
opaque Config.dbOpen : Nat → Nat → Int

/-- A metric whose denominator is 0 (R358; log entry 116). -/
opaque Config.metricOpen : Int → Int

/-- The noise rms of an input whose floor nobody has measured yet, times 2^20 (R358; log entry 116). -/
opaque Config.noiseRms : Nat

end Sys2Proof
end

