-- ==== Sys2Proof/Machine/Bits.lean ====
section
/-! DEFINITION. Bit fields of a word, saturating counts, byte order and small number helpers used by every family. -/

namespace Sys2Proof.Machine

/-- The value of bits [hi:lo] of a word, written as the manual writes a bit range. -/
def fld (w : Word) (hi lo : Nat) : Nat := (w.toNat >>> lo) % 2 ^ (hi + 1 - lo)

/-- Bit k of a word. -/
def bit (w : Word) (k : Nat) : Bool := w.getLsbD k

/-- The word with ones in bits [hi:lo] and zeros elsewhere. -/
def maskWord (hi lo : Nat) : Word := BitVec.ofNat 32 ((2 ^ (hi + 1 - lo) - 1) <<< lo)

/-- A word with bits [hi:lo] replaced by `v` (taken modulo the field's width). -/
def setFld (w : Word) (hi lo v : Nat) : Word :=
  (w &&& ~~~ maskWord hi lo) ||| BitVec.ofNat 32 ((v % 2 ^ (hi + 1 - lo)) <<< lo)

/-- A word with bit k replaced. -/
def setBit (w : Word) (k : Nat) (b : Bool) : Word := setFld w k k b.toNat

/-- A word from a natural number, modulo 2^32. -/
def wd (n : Nat) : Word := BitVec.ofNat 32 n

/-- The low word of a 64-bit value (R3). -/
def loWord (n : Nat) : Word := BitVec.ofNat 32 n

/-- The high word of a 64-bit value (R3). -/
def hiWord (n : Nat) : Word := BitVec.ofNat 32 (n / 2 ^ 32)

/-- The 64-bit value of a low and a high word (R3). -/
def pair (lo hi : Word) : Nat := lo.toNat + hi.toNat * 2 ^ 32

/-- One more, saturating at `max` (the counts described as "saturates at"). -/
def satAdd (max n d : Nat) : Nat := if n + d < max then n + d else max

/-- The four bytes of a word, the byte of bits [7:0] first (R3). -/
def wordBytes (w : Word) : List Byte :=
  [BitVec.ofNat 8 w.toNat, BitVec.ofNat 8 (w.toNat >>> 8),
   BitVec.ofNat 8 (w.toNat >>> 16), BitVec.ofNat 8 (w.toNat >>> 24)]

/-- Bytes packed into words, the first byte in bits [7:0]; the last word is filled with zeros (R3, R4). -/
def bytesWords : List Byte → List Word
  | [] => []
  | [a] => [wd a.toNat]
  | [a, b] => [wd (a.toNat + b.toNat * 256)]
  | [a, b, c] => [wd (a.toNat + b.toNat * 256 + c.toNat * 65536)]
  | a :: b :: c :: d :: t =>
    wd (a.toNat + b.toNat * 256 + c.toNat * 65536 + d.toNat * 16777216) :: bytesWords t

/-- The bytes of a list of words in storing order (R3). -/
def wordsBytes (ws : List Word) : List Byte := ws.flatMap wordBytes

/-- The first multiple of `m` at or after `n`. -/
def roundUp (n m : Nat) : Nat := if m = 0 then n else (n + m - 1) / m * m

/-- Two's complement value of an `n`-bit field held as a natural number. -/
def signed (n v : Nat) : Int :=
  if v % 2 ^ n < 2 ^ (n - 1) then (v % 2 ^ n : Nat) else ((v % 2 ^ n : Nat) : Int) - (2 ^ n : Nat)

/-- An integer as an `n`-bit two's complement field. -/
def unsigned (n : Nat) (v : Int) : Nat := (v % (2 ^ n : Nat)).toNat

/-- The u in u µs as ft: u × 108.48 (R176), rounded up to a whole tick. -/
def usToFt (u : Nat) : Nat := (u * 10848 + 99) / 100

/-- The bit of a coil taken out of a mask. -/
def clearBit (m c : Nat) : Nat := if m.testBit c then m - 2 ^ c else m

end Sys2Proof.Machine
end

