-- ==== Sys2Proof/Machine/Arith.lean ====
section
/-! DEFINITION. Arithmetic on measured values: square roots, the roundings the manual states, the ones it does not (free), and
cosines and phases in the units of the sense path. -/

namespace Sys2Proof.Machine

/-- floor(√n) for n below 2^128, one bit of the root at a time. -/
def isqrt (n : Nat) : Nat :=
  (List.range 64).reverse.foldl (fun r k => if (r + 2 ^ k) * (r + 2 ^ k) ≤ n then r + 2 ^ k else r) 0

/-- n / d rounded to nearest, halves away from zero (R212, R230); 0 when d is 0. -/
def roundHalf (n : Int) (d : Nat) : Int :=
  if d = 0 then 0
  else if 0 ≤ n then (2 * n + d) / (2 * d) else -((2 * (-n) + d) / (2 * d))

/-- n / d where the manual states no rounding: the exact quotient, or one of its two neighbours (log entry 30). -/
def openDiv (n : Int) (d : Nat) : Int :=
  if d = 0 then 0 else if n % d = 0 then n / d else n / d + (Config.roundsUp n d).toNat

/-- A natural number's openDiv. -/
def openDivNat (n d : Nat) : Nat := (openDiv n d).toNat

/-- √(n / d) where the manual states no rounding: the root, or one of its two neighbours (log entry 30). -/
def openRoot (n d : Nat) : Nat :=
  let k := isqrt (n / d)
  if k * k * d = n then k else k + (Config.roundsUp n d).toNat

/-- An integer saturated to `n` bits of two's complement (R213). -/
def satInt (n : Nat) (v : Int) : Int := max (-(2 : Int) ^ (n - 1)) (min ((2 : Int) ^ (n - 1) - 1) v)

/-- The scale of the cosines below. -/
abbrev trigOne : Nat := 2 ^ 40

/-- cos(π·n/d) for 0 ≤ n/d ≤ 1/2, times 2^60: twelve terms of the power series, whose error is below 2^-50. -/
def cosSeries (n d : Nat) : Int :=
  let x : Int := ((3622009729038561421 * n / d : Nat) : Int)
  let q := x * x / 2 ^ 60
  ((List.range 12).foldl (fun (p : Int × Int) k =>
    let t := -(p.2 * q / 2 ^ 60 / (((2 * k + 1) * (2 * k + 2) : Nat) : Int))
    (p.1 + t, t)) ((2 : Int) ^ 60, (2 : Int) ^ 60)).1

/-- cos(π·n/d) for 0 ≤ n/d ≤ 1/2, times 2^40. -/
def cosQuad (n d : Nat) : Int := if n = 0 then trigOne else if 2 * n = d then 0 else roundHalf (cosSeries n d) (2 ^ 20)

/-- cos(2π·a/t), times 2^40, of an angle of `a` steps of which `t` (a multiple of 4) make a turn. -/
def cosStep (a : Int) (t : Nat) : Int :=
  let r := (a % (t : Int)).toNat
  if 4 * r ≤ t then cosQuad (2 * r) t
  else if 2 * r ≤ t then -cosQuad (t - 2 * r) t
  else if 4 * r ≤ 3 * t then -cosQuad (2 * r - t) t
  else cosQuad (2 * t - 2 * r) t

/-- sin(2π·a/t), times 2^40. -/
def sinStep (a : Int) (t : Nat) : Int := cosStep (a - ((t / 4 : Nat) : Int)) t

/-- floor of the angle of (x, y) in the first quadrant, in steps of 2π/65,536: at most 16,384. -/
def quadrantPhase (x y : Int) : Nat :=
  (List.range 15).reverse.foldl (fun (r : Nat) k =>
    let c : Nat := r + 2 ^ k
    if c ≤ 16384 ∧ x * sinStep c 65536 ≤ y * cosStep c 65536 then c else r) 0

/-- The angle of (x, y) in the first quadrant; between two steps it is one of them (log entry 30). -/
def firstPhase (x y : Int) : Int :=
  if y = 0 then 0 else if x = 0 then 16384 else if x = y then 8192
  else (quadrantPhase x y : Int) + (Config.roundsUp y x).toNat

/-- atan2(q, i) in steps of 2π/65,536, as signed 16 bits; the phase of (0, 0) is 0 (R215). -/
def phaseOf (i q : Int) : Int :=
  if i = 0 ∧ q = 0 then 0
  else if 0 ≤ i then (if 0 ≤ q then firstPhase i q else -firstPhase i (-q))
  else if 0 ≤ q then signed 16 (32768 - firstPhase (-i) q).toNat
  else firstPhase (-i) (-q) - 32768

/-- The last step of 2π/2,048 at or below the angle of (x, y), from 0 for a turn. -/
def turnStep (x y : Int) : Nat :=
  (if 0 < x ∧ 0 ≤ y then quadrantPhase x y
  else if x ≤ 0 ∧ 0 < y then 16384 + quadrantPhase y (-x)
  else if x < 0 ∧ y ≤ 0 then 32768 + quadrantPhase (-x) (-y)
  else if 0 ≤ x ∧ y < 0 then 49152 + quadrantPhase (-y) x
  else 0) / 32

/-- The angle of (x, y) in steps of π/1,024, from 0 for a turn; between two steps it is one of them (log entry 30). -/
def drivePhase (x y : Int) : Nat :=
  let exact := x == 0 || y == 0 || x.natAbs == y.natAbs
  (turnStep x y + (!exact && Config.roundsUp y x).toNat) % 2048

end Sys2Proof.Machine
end

