-- ==== Sys2Proof/Machine/Regs.lean ====
section
/-! DEFINITION. The register map: one row per register table of the spec (name, page, offset, index strides, and each
field with its bits, access type of R5, staged mark of R145 and reset value), the address of every register by name,
and the word that every register holds at reset. Register page n sits at byte address n × 0x1000 (00_scope). -/

namespace Sys2Proof.Machine

/-- The access types of R5. -/
inductive Acc where
  | rw | ro | w1c | w1s | wo | rwl | rws
  deriving DecidableEq, Repr

/-- One field of a register table. -/
structure Field where
  name : String
  hi : Nat
  lo : Nat
  acc : Acc
  staged : Bool
  reset : Nat
  deriving DecidableEq, Repr

/-- One register, or an array of them: the register at offset `off + s1 × i + s2 × j` for i < c1 and j < c2. -/
structure RegRow where
  name : String
  off : Nat
  s1 : Nat
  c1 : Nat
  s2 : Nat
  c2 : Nat
  fields : List Field
  deriving DecidableEq, Repr

/-- A field that is not staged. -/
def fu (name : String) (hi lo : Nat) (acc : Acc) (reset : Nat) : Field := ⟨name, hi, lo, acc, false, reset⟩

/-- A field that a block's chapter marks "staged" (R145). -/
def fs (name : String) (hi lo : Nat) (acc : Acc) (reset : Nat) : Field := ⟨name, hi, lo, acc, true, reset⟩

/-- A register without an index. -/
def rr (name : String) (off : Nat) (fields : List Field) : RegRow := ⟨name, off, 0x1000, 1, 0x1000, 1, fields⟩

/-- A register with one index. -/
def ri (name : String) (off s c : Nat) (fields : List Field) : RegRow := ⟨name, off, s, c, s, 1, fields⟩

/-- A register with two indices. -/
def rj (name : String) (off s1 c1 s2 c2 : Nat) (fields : List Field) : RegRow := ⟨name, off, s1, c1, s2, c2, fields⟩

/-! Page numbers (R130). -/

abbrev Page.sys : Nat := 0x0
abbrev Page.clk : Nat := 0x1
abbrev Page.pwr : Nat := 0x2
abbrev Page.rst : Nat := 0x3
abbrev Page.hif : Nat := 0x4
abbrev Page.queue : Nat := 0x5
abbrev Page.evf : Nat := 0x6
abbrev Page.evfLut : Nat := 0x7
abbrev Page.ftb : Nat := 0x8
abbrev Page.cvu : Nat := 0x9
abbrev Page.sess : Nat := 0xa
abbrev Page.lsp : Nat := 0xb
abbrev Page.fe (n : Nat) : Nat := 0xc + n
abbrev Page.coil (n : Nat) : Nat := 0x10 + n
abbrev Page.fwgt : Nat := 0x1c
abbrev Page.crocus : Nat := 0x1d
abbrev Page.tagc : Nat := 0x1e
abbrev Page.rbSyn : Nat := 0x1f
abbrev Page.rbRx : Nat := 0x20
abbrev Page.rbDem : Nat := 0x21
abbrev Page.rbDec : Nat := 0x22
abbrev Page.rbTx : Nat := 0x23
abbrev Page.rbAnt : Nat := 0x24
abbrev Page.mbox : Nat := 0x25
abbrev Page.sens : Nat := 0x26
abbrev Page.log : Nat := 0x27
abbrev Page.upd : Nat := 0x28
abbrev Page.cal : Nat := 0x29
abbrev Page.pinmux : Nat := 0x2a
abbrev Page.dbg : Nat := 0x2b

/-! Addresses of the registers every page holds (R133). -/

abbrev Reg.pageId (p : Nat) : Nat := p * 0x1000 + 0x0
abbrev Reg.pageVer (p : Nat) : Nat := p * 0x1000 + 0x4
abbrev Reg.ctrl (p : Nat) : Nat := p * 0x1000 + 0x8
abbrev Reg.status (p : Nat) : Nat := p * 0x1000 + 0xc
abbrev Reg.irqRaw (p : Nat) : Nat := p * 0x1000 + 0x10
abbrev Reg.irqEn (p : Nat) : Nat := p * 0x1000 + 0x14
abbrev Reg.irqStat (p : Nat) : Nat := p * 0x1000 + 0x18
abbrev Reg.irqSet (p : Nat) : Nat := p * 0x1000 + 0x1c
abbrev Reg.lock (p : Nat) : Nat := p * 0x1000 + 0x20
abbrev Reg.owner (p : Nat) : Nat := p * 0x1000 + 0x24
abbrev Reg.errCode (p : Nat) : Nat := p * 0x1000 + 0x28
abbrev Reg.errInfo (p : Nat) : Nat := p * 0x1000 + 0x2c
abbrev Reg.stageCtrl (p : Nat) : Nat := p * 0x1000 + 0x30

/-! Addresses of the registers of the blocks, by name. -/

abbrev Reg.sysChipId : Nat := 0x40
abbrev Reg.sysClaim : Nat := 0x80
abbrev Reg.sysClaimResult : Nat := 0x84
abbrev Reg.sysEpochStatus : Nat := 0xc0
abbrev Reg.sysEpochAppliedLo : Nat := 0xc4
abbrev Reg.sysEpochAppliedHi : Nat := 0xc8
abbrev Reg.sysEpochNotreadyLo : Nat := 0xcc
abbrev Reg.sysEpochNotreadyHi : Nat := 0xd0
abbrev Reg.sysEpochTickLo : Nat := 0xd4
abbrev Reg.sysEpochTickHi : Nat := 0xd8
abbrev Reg.sysResClaim (i : Nat) : Nat := 0x200 + 0x4 * i
abbrev Reg.clkRef : Nat := 0x1040
abbrev Reg.clkRun : Nat := 0x1044
abbrev Reg.clkGate : Nat := 0x1048
abbrev Reg.pwrModeReq : Nat := 0x2040
abbrev Reg.pwrMode : Nat := 0x2044
abbrev Reg.pwrWakeEn : Nat := 0x2048
abbrev Reg.pwrWakeCause : Nat := 0x204c
abbrev Reg.pwrWakeTimer : Nat := 0x2050
abbrev Reg.pwrGpWake : Nat := 0x2054
abbrev Reg.pwrWakeTickLo : Nat := 0x2058
abbrev Reg.pwrWakeTickHi : Nat := 0x205c
abbrev Reg.pwrDur : Nat := 0x2060
abbrev Reg.pwrCnt : Nat := 0x2064
abbrev Reg.rstCause : Nat := 0x3040
abbrev Reg.rstSwReset : Nat := 0x3044
abbrev Reg.rstBlockRst : Nat := 0x3048
abbrev Reg.rstBoot : Nat := 0x304c
abbrev Reg.rstBootTime : Nat := 0x3050
abbrev Reg.rstBootFlags : Nat := 0x3054
abbrev Reg.hifCfg : Nat := 0x4040
abbrev Reg.hifCount : Nat := 0x4044
abbrev Reg.hifIrqSum0 : Nat := 0x4048
abbrev Reg.hifIrqSum1 : Nat := 0x404c
abbrev Reg.queueCmdLevel : Nat := 0x5040
abbrev Reg.queueResLevel : Nat := 0x5044
abbrev Reg.queueEvtLevel : Nat := 0x5048
abbrev Reg.queueHoldMarks : Nat := 0x504c
abbrev Reg.queueAttnMarks : Nat := 0x5050
abbrev Reg.queueEvtMark : Nat := 0x5054
abbrev Reg.queueTimers : Nat := 0x5058
abbrev Reg.queueNotice : Nat := 0x505c
abbrev Reg.queueCrossCnt : Nat := 0x5060
abbrev Reg.queueLossCnt : Nat := 0x5064
abbrev Reg.queueCntClr : Nat := 0x5068
abbrev Reg.queueFlush : Nat := 0x506c
abbrev Reg.queueDispatch : Nat := 0x5070
abbrev Reg.evfFire : Nat := 0x6040
abbrev Reg.evfFireMaskLo : Nat := 0x6044
abbrev Reg.evfFireMaskHi : Nat := 0x6048
abbrev Reg.evfChReclaim : Nat := 0x604c
abbrev Reg.evfCnt : Nat := 0x6050
abbrev Reg.evfDropCnt : Nat := 0x6054
abbrev Reg.evfCntClr : Nat := 0x6058
abbrev Reg.evfCoincideFlag (j : Nat) : Nat := 0x6060 + 0x4 * j
abbrev Reg.evfOverrunFlag (j : Nat) : Nat := 0x6080 + 0x4 * j
abbrev Reg.evfChCfg (n : Nat) : Nat := 0x6100 + 0x10 * n
abbrev Reg.evfChStatus (n : Nat) : Nat := 0x6104 + 0x10 * n
abbrev Reg.evfChCount (n : Nat) : Nat := 0x6108 + 0x10 * n
abbrev Reg.evfChSnap (n : Nat) : Nat := 0x610c + 0x10 * n
abbrev Reg.evfPub (p : Nat) : Nat := 0x6600 + 0x4 * p
abbrev Reg.evfSub (i : Nat) : Nat := 0x6a00 + 0x4 * i
abbrev Reg.evfGpCfg (n : Nat) : Nat := 0x6d00 + 0x4 * n
abbrev Reg.evfGpOut : Nat := 0x6d40
abbrev Reg.evfGpIn : Nat := 0x6d44
abbrev Reg.evfLutCellCfg (c : Nat) : Nat := 0x7040 + 0x10 * c
abbrev Reg.evfLutCellStatus (c : Nat) : Nat := 0x7044 + 0x10 * c
abbrev Reg.evfLutCellLevel : Nat := 0x7140
abbrev Reg.ftbFtbLo : Nat := 0x8040
abbrev Reg.ftbFtbHi : Nat := 0x8044
abbrev Reg.ftbSnapLo : Nat := 0x8048
abbrev Reg.ftbSnapHi : Nat := 0x804c
abbrev Reg.ftbSnapCtrl : Nat := 0x8050
abbrev Reg.ftbSyncCtrl : Nat := 0x8054
abbrev Reg.ftbSyncStampLo : Nat := 0x8058
abbrev Reg.ftbSyncStampHi : Nat := 0x805c
abbrev Reg.ftbAonMeas : Nat := 0x8060
abbrev Reg.ftbCmpFired : Nat := 0x8068
abbrev Reg.ftbCmpLate : Nat := 0x806c
abbrev Reg.ftbCmpCtrl (k : Nat) : Nat := 0x8100 + 0x10 * k
abbrev Reg.ftbCmpTargetLo (k : Nat) : Nat := 0x8108 + 0x10 * k
abbrev Reg.ftbCmpTargetHi (k : Nat) : Nat := 0x810c + 0x10 * k
abbrev Reg.ftbCadCtrl (g : Nat) : Nat := 0x8300 + 0x20 * g
abbrev Reg.ftbCadPeriod (g : Nat) : Nat := 0x8304 + 0x20 * g
abbrev Reg.ftbCadCount (g : Nat) : Nat := 0x8308 + 0x20 * g
abbrev Reg.ftbCadStartLo (g : Nat) : Nat := 0x830c + 0x20 * g
abbrev Reg.ftbCadStartHi (g : Nat) : Nat := 0x8310 + 0x20 * g
abbrev Reg.ftbCadWraps (g : Nat) : Nat := 0x8314 + 0x20 * g
abbrev Reg.ftbCadSnap (g : Nat) : Nat := 0x8318 + 0x20 * g
abbrev Reg.ftbCadStatus (g : Nat) : Nat := 0x831c + 0x20 * g
abbrev Reg.ftbCapCtrl (c : Nat) : Nat := 0x8400 + 0x10 * c
abbrev Reg.ftbCapStatus (c : Nat) : Nat := 0x8404 + 0x10 * c
abbrev Reg.ftbCapLo (c : Nat) : Nat := 0x8408 + 0x10 * c
abbrev Reg.ftbCapHi (c : Nat) : Nat := 0x840c + 0x10 * c
abbrev Reg.cvuChq : Nat := 0x9040
abbrev Reg.cvuCntClr : Nat := 0x9044
abbrev Reg.cvuCCfg (c : Nat) : Nat := 0x9100 + 0x40 * c
abbrev Reg.cvuCPoly (c : Nat) : Nat := 0x9104 + 0x40 * c
abbrev Reg.cvuCInit (c : Nat) : Nat := 0x9108 + 0x40 * c
abbrev Reg.cvuCXor (c : Nat) : Nat := 0x910c + 0x40 * c
abbrev Reg.cvuCCtrl (c : Nat) : Nat := 0x9110 + 0x40 * c
abbrev Reg.cvuCData (c : Nat) : Nat := 0x9114 + 0x40 * c
abbrev Reg.cvuCRun (c : Nat) : Nat := 0x9118 + 0x40 * c
abbrev Reg.cvuCResult (c : Nat) : Nat := 0x911c + 0x40 * c
abbrev Reg.cvuCExpect (c : Nat) : Nat := 0x9120 + 0x40 * c
abbrev Reg.cvuCLast (c : Nat) : Nat := 0x9124 + 0x40 * c
abbrev Reg.cvuCStatus (c : Nat) : Nat := 0x9128 + 0x40 * c
abbrev Reg.cvuCCnt (c : Nat) : Nat := 0x912c + 0x40 * c
abbrev Reg.cvuCSnap (c : Nat) : Nat := 0x9130 + 0x40 * c
abbrev Reg.sessDiscCfg : Nat := 0xa040
abbrev Reg.sessUse : Nat := 0xa044
abbrev Reg.sessMigCnt : Nat := 0xa048
abbrev Reg.sessFollowMap (n : Nat) : Nat := 0xa050 + 0x4 * n
abbrev Reg.sessCntClr : Nat := 0xa060
abbrev Reg.lspCommitCfg : Nat := 0xb040
abbrev Reg.lspCommitCtrl : Nat := 0xb044
abbrev Reg.lspCommitTickLo : Nat := 0xb048
abbrev Reg.lspCommitTickHi : Nat := 0xb04c
abbrev Reg.lspCntClr : Nat := 0xb050
abbrev Reg.lspClaim : Nat := 0xb054
abbrev Reg.lspClaimResult : Nat := 0xb058
abbrev Reg.lspPlCtrl (k : Nat) : Nat := 0xb100 + 0x40 * k
abbrev Reg.lspPlStatus (k : Nat) : Nat := 0xb104 + 0x40 * k
abbrev Reg.lspPlSlota (k : Nat) : Nat := 0xb108 + 0x40 * k
abbrev Reg.lspPlSlotb (k : Nat) : Nat := 0xb10c + 0x40 * k
abbrev Reg.lspPlCfg (k : Nat) : Nat := 0xb110 + 0x40 * k
abbrev Reg.lspPlAnchorLo (k : Nat) : Nat := 0xb114 + 0x40 * k
abbrev Reg.lspPlAnchorHi (k : Nat) : Nat := 0xb118 + 0x40 * k
abbrev Reg.lspPlStartLo (k : Nat) : Nat := 0xb11c + 0x40 * k
abbrev Reg.lspPlStartHi (k : Nat) : Nat := 0xb120 + 0x40 * k
abbrev Reg.lspPlCnt (k : Nat) : Nat := 0xb124 + 0x40 * k
abbrev Reg.lspPlSectCnt (k : Nat) : Nat := 0xb128 + 0x40 * k
abbrev Reg.lspPlScoreId (k : Nat) : Nat := 0xb12c + 0x40 * k
abbrev Reg.lspPlLateLo (k : Nat) : Nat := 0xb130 + 0x40 * k
abbrev Reg.lspPlLateHi (k : Nat) : Nat := 0xb134 + 0x40 * k
abbrev Reg.lspPlSnap (k : Nat) : Nat := 0xb138 + 0x40 * k
abbrev Reg.feMode (n : Nat) : Nat := 0xc040 + 0x1000 * n
abbrev Reg.feTxEnv (n : Nat) : Nat := 0xc044 + 0x1000 * n
abbrev Reg.fePause (n : Nat) : Nat := 0xc048 + 0x1000 * n
abbrev Reg.feGuard (n : Nat) : Nat := 0xc04c + 0x1000 * n
abbrev Reg.feFieldStatus (n : Nat) : Nat := 0xc050 + 0x1000 * n
abbrev Reg.feRxCfg (n : Nat) : Nat := 0xc054 + 0x1000 * n
abbrev Reg.feCvu (n : Nat) : Nat := 0xc058 + 0x1000 * n
abbrev Reg.feL4Cfg (n : Nat) : Nat := 0xc05c + 0x1000 * n
abbrev Reg.feExchStatus (n : Nat) : Nat := 0xc060 + 0x1000 * n
abbrev Reg.feLastFdt (n : Nat) : Nat := 0xc064 + 0x1000 * n
abbrev Reg.feLastSofLo (n : Nat) : Nat := 0xc068 + 0x1000 * n
abbrev Reg.feLastSofHi (n : Nat) : Nat := 0xc06c + 0x1000 * n
abbrev Reg.feFrameCnt (n : Nat) : Nat := 0xc070 + 0x1000 * n
abbrev Reg.feErrCnt (n : Nat) : Nat := 0xc074 + 0x1000 * n
abbrev Reg.feGuardCnt (n : Nat) : Nat := 0xc078 + 0x1000 * n
abbrev Reg.feCntClr (n : Nat) : Nat := 0xc07c + 0x1000 * n
abbrev Reg.feSnapFrame (n : Nat) : Nat := 0xc080 + 0x1000 * n
abbrev Reg.coilTuneCap (n : Nat) : Nat := 0x10040 + 0x1000 * n
abbrev Reg.coilTuneTrack (n : Nat) : Nat := 0x10044 + 0x1000 * n
abbrev Reg.coilDriveStatus (n : Nat) : Nat := 0x10048 + 0x1000 * n
abbrev Reg.coilMmCfg (n : Nat) : Nat := 0x1004c + 0x1000 * n
abbrev Reg.coilMmWin (n : Nat) : Nat := 0x10050 + 0x1000 * n
abbrev Reg.coilMmResult (n : Nat) : Nat := 0x10054 + 0x1000 * n
abbrev Reg.coilMmMeas (n : Nat) : Nat := 0x10058 + 0x1000 * n
abbrev Reg.coilMmRef (n : Nat) : Nat := 0x1005c + 0x1000 * n
abbrev Reg.coilDrvCnt (n : Nat) : Nat := 0x10060 + 0x1000 * n
abbrev Reg.coilSenseCfg (n : Nat) : Nat := 0x10064 + 0x1000 * n
abbrev Reg.coilSenseCnt (n : Nat) : Nat := 0x10068 + 0x1000 * n
abbrev Reg.coilChainCtrl (n : Nat) : Nat := 0x1006c + 0x1000 * n
abbrev Reg.coilChainStatus (n : Nat) : Nat := 0x10070 + 0x1000 * n
abbrev Reg.coilCalGain (n : Nat) : Nat := 0x10074 + 0x1000 * n
abbrev Reg.coilThrCtrl (n : Nat) : Nat := 0x10078 + 0x1000 * n
abbrev Reg.coilThrStatus (n : Nat) : Nat := 0x1007c + 0x1000 * n
abbrev Reg.coilThrMagUpper (n : Nat) : Nat := 0x10080 + 0x1000 * n
abbrev Reg.coilThrMagLower (n : Nat) : Nat := 0x10084 + 0x1000 * n
abbrev Reg.coilThrPh (n : Nat) : Nat := 0x10088 + 0x1000 * n
abbrev Reg.coilThrPhRef (n : Nat) : Nat := 0x1008c + 0x1000 * n
abbrev Reg.coilCntClr (n : Nat) : Nat := 0x10090 + 0x1000 * n
abbrev Reg.coilProfStage (n : Nat) (p : Nat) (k : Nat) : Nat := 0x100a0 + 0x1000 * n + 0x10 * p + 0x4 * k
abbrev Reg.coilOutI (n : Nat) : Nat := 0x100c0 + 0x1000 * n
abbrev Reg.coilOutQ (n : Nat) : Nat := 0x100c4 + 0x1000 * n
abbrev Reg.coilOutMag (n : Nat) : Nat := 0x100c8 + 0x1000 * n
abbrev Reg.coilOutPhase (n : Nat) : Nat := 0x100cc + 0x1000 * n
abbrev Reg.coilOutTickLo (n : Nat) : Nat := 0x100d0 + 0x1000 * n
abbrev Reg.coilOutTickHi (n : Nat) : Nat := 0x100d4 + 0x1000 * n
abbrev Reg.coilOutCount (n : Nat) : Nat := 0x100d8 + 0x1000 * n
abbrev Reg.coilSnapCount (n : Nat) : Nat := 0x100e0 + 0x1000 * n
abbrev Reg.coilSnapMag (n : Nat) : Nat := 0x100e4 + 0x1000 * n
abbrev Reg.coilSnapPhase (n : Nat) : Nat := 0x100e8 + 0x1000 * n
abbrev Reg.coilSnapMm (n : Nat) : Nat := 0x100ec + 0x1000 * n
abbrev Reg.coilPwrTable (n : Nat) (e : Nat) : Nat := 0x10400 + 0x1000 * n + 0x4 * e
abbrev Reg.fwgtGovBudget : Nat := 0x1c040
abbrev Reg.fwgtGovCfg : Nat := 0x1c044
abbrev Reg.fwgtGovStatus : Nat := 0x1c048
abbrev Reg.fwgtGovMeas : Nat := 0x1c04c
abbrev Reg.fwgtGovCnt : Nat := 0x1c050
abbrev Reg.fwgtGovSnap : Nat := 0x1c054
abbrev Reg.fwgtCntClr : Nat := 0x1c058
abbrev Reg.fwgtLocCfg : Nat := 0x1c060
abbrev Reg.fwgtLocMin : Nat := 0x1c064
abbrev Reg.fwgtLocFloor : Nat := 0x1c068
abbrev Reg.fwgtGeo (c : Nat) : Nat := 0x1c080 + 0x4 * c
abbrev Reg.fwgtGeoPop : Nat := 0x1c0b0
abbrev Reg.fwgtFeCoils (n : Nat) : Nat := 0x1c100 + 0x100 * n
abbrev Reg.fwgtFeBank (n : Nat) : Nat := 0x1c104 + 0x100 * n
abbrev Reg.fwgtFeSwapCnt (n : Nat) : Nat := 0x1c108 + 0x100 * n
abbrev Reg.fwgtFeWa (n : Nat) (c : Nat) : Nat := 0x1c120 + 0x100 * n + 0x4 * c
abbrev Reg.fwgtFeWb (n : Nat) (c : Nat) : Nat := 0x1c160 + 0x100 * n + 0x4 * c
abbrev Reg.fwgtFeLocXy (n : Nat) : Nat := 0x1c1a0 + 0x100 * n
abbrev Reg.fwgtFeLocInfo (n : Nat) : Nat := 0x1c1a4 + 0x100 * n
abbrev Reg.fwgtFeLocM (n : Nat) (c : Nat) : Nat := 0x1c1c0 + 0x100 * n + 0x4 * c
abbrev Reg.fwgtRegMin (r : Nat) : Nat := 0x1c600 + 0x10 * r
abbrev Reg.fwgtRegMax (r : Nat) : Nat := 0x1c604 + 0x10 * r
abbrev Reg.fwgtRegId (r : Nat) : Nat := 0x1c608 + 0x10 * r
abbrev Reg.crocusCfg : Nat := 0x1d040
abbrev Reg.crocusSet : Nat := 0x1d044
abbrev Reg.crocusGap : Nat := 0x1d048
abbrev Reg.crocusStatus : Nat := 0x1d04c
abbrev Reg.crocusSweepCnt : Nat := 0x1d050
abbrev Reg.crocusTripCnt : Nat := 0x1d054
abbrev Reg.crocusLastLo : Nat := 0x1d058
abbrev Reg.crocusLastHi : Nat := 0x1d05c
abbrev Reg.crocusCntClr : Nat := 0x1d060
abbrev Reg.crocusBaseReq : Nat := 0x1d064
abbrev Reg.crocusInvalid : Nat := 0x1d068
abbrev Reg.crocusThr (k : Nat) : Nat := 0x1d100 + 0x10 * k
abbrev Reg.crocusBaseX (k : Nat) : Nat := 0x1d104 + 0x10 * k
abbrev Reg.crocusBaseW (k : Nat) : Nat := 0x1d108 + 0x10 * k
abbrev Reg.crocusMeas (k : Nat) : Nat := 0x1d10c + 0x10 * k
abbrev Reg.tagcTagStatus : Nat := 0x1e040
abbrev Reg.tagcCfg : Nat := 0x1e044
abbrev Reg.tagcFieldWlock : Nat := 0x1e048
abbrev Reg.tagcPersistLock : Nat := 0x1e04c
abbrev Reg.tagcRegionAcc (q : Nat) : Nat := 0x1e050 + 0x4 * q
abbrev Reg.tagcCntProt : Nat := 0x1e060
abbrev Reg.tagcPwCtrl : Nat := 0x1e064
abbrev Reg.tagcPwValue : Nat := 0x1e068
abbrev Reg.tagcPwStatus : Nat := 0x1e06c
abbrev Reg.tagcCntCtrl : Nat := 0x1e070
abbrev Reg.tagcCntValue (k : Nat) : Nat := 0x1e080 + 0x4 * k
abbrev Reg.tagcWireStatus : Nat := 0x1e0a0
abbrev Reg.tagcArbCnt : Nat := 0x1e0a4
abbrev Reg.tagcFieldCnt : Nat := 0x1e0a8
abbrev Reg.tagcLastFwrite : Nat := 0x1e0ac
abbrev Reg.tagcUidLo : Nat := 0x1e0b0
abbrev Reg.tagcUidHi : Nat := 0x1e0b4
abbrev Reg.tagcCntClr : Nat := 0x1e0b8
abbrev Reg.rbSynReq : Nat := 0x1f040
abbrev Reg.rbSynState : Nat := 0x1f044
abbrev Reg.rbSynDef : Nat := 0x1f048
abbrev Reg.rbSynCnt : Nat := 0x1f050
abbrev Reg.rbSynCnt2 : Nat := 0x1f054
abbrev Reg.rbSynLastCal : Nat := 0x1f058
abbrev Reg.rbSynSnap : Nat := 0x1f05c
abbrev Reg.rbSynCntClr : Nat := 0x1f060
abbrev Reg.rbSynBand (k : Nat) : Nat := 0x1f100 + 0x4 * k
abbrev Reg.rbRxAgcCfg : Nat := 0x20040
abbrev Reg.rbRxAgcStatus : Nat := 0x20044
abbrev Reg.rbRxDetCfg : Nat := 0x20048
abbrev Reg.rbRxNoise : Nat := 0x2004c
abbrev Reg.rbRxLevel : Nat := 0x20050
abbrev Reg.rbRxRxCnt : Nat := 0x20054
abbrev Reg.rbRxRxSnap : Nat := 0x20058
abbrev Reg.rbRxCntClr : Nat := 0x2005c
abbrev Reg.rbDemCapCfg : Nat := 0x21040
abbrev Reg.rbDemEqCfg : Nat := 0x21044
abbrev Reg.rbDemAfc : Nat := 0x21048
abbrev Reg.rbDemSignal : Nat := 0x2104c
abbrev Reg.rbDemStartLo : Nat := 0x21050
abbrev Reg.rbDemStartHi : Nat := 0x21054
abbrev Reg.rbDemOutcome : Nat := 0x21058
abbrev Reg.rbDemSyncCnt : Nat := 0x2105c
abbrev Reg.rbDemSyncCnt2 : Nat := 0x21060
abbrev Reg.rbDemCapCnt : Nat := 0x21064
abbrev Reg.rbDemCntClr : Nat := 0x21068
abbrev Reg.rbDemChEst (i : Nat) : Nat := 0x21100 + 0x4 * i
abbrev Reg.rbDecDecCfg : Nat := 0x22040
abbrev Reg.rbDecDecStatus : Nat := 0x22044
abbrev Reg.rbDecDecQual : Nat := 0x22048
abbrev Reg.rbDecDecCnt : Nat := 0x2204c
abbrev Reg.rbDecDecSnap : Nat := 0x22050
abbrev Reg.rbDecCntClr : Nat := 0x22054
abbrev Reg.rbTxCtrl : Nat := 0x23040
abbrev Reg.rbTxStatus : Nat := 0x23044
abbrev Reg.rbTxRegionId : Nat := 0x23048
abbrev Reg.rbTxDuty (g : Nat) : Nat := 0x23050 + 0x4 * g
abbrev Reg.rbTxDutyUse (g : Nat) : Nat := 0x23060 + 0x4 * g
abbrev Reg.rbTxCnt : Nat := 0x23070
abbrev Reg.rbTxCnt2 : Nat := 0x23074
abbrev Reg.rbTxCntClr : Nat := 0x23078
abbrev Reg.rbTxCh (k : Nat) : Nat := 0x23100 + 0x4 * k
abbrev Reg.rbTxPa (s : Nat) : Nat := 0x23200 + 0x4 * s
abbrev Reg.rbAntMode : Nat := 0x24040
abbrev Reg.rbAntTune : Nat := 0x24044
abbrev Reg.rbAntMmCfg : Nat := 0x24048
abbrev Reg.rbAntMmResult : Nat := 0x2404c
abbrev Reg.rbAntMmCnt : Nat := 0x24050
abbrev Reg.rbAntStatus : Nat := 0x24054
abbrev Reg.rbAntSurvCnta : Nat := 0x24060
abbrev Reg.rbAntSurvCntb : Nat := 0x24064
abbrev Reg.rbAntSurvLvla : Nat := 0x24068
abbrev Reg.rbAntSurvLvlb : Nat := 0x2406c
abbrev Reg.rbAntCntClr : Nat := 0x24070
abbrev Reg.mboxReq : Nat := 0x25040
abbrev Reg.mboxCtrl : Nat := 0x25044
abbrev Reg.mboxState : Nat := 0x25048
abbrev Reg.mboxReply : Nat := 0x2504c
abbrev Reg.mboxReplyTag : Nat := 0x25050
abbrev Reg.mboxNotifyCnt : Nat := 0x25054
abbrev Reg.mboxArg (i : Nat) : Nat := 0x25100 + 0x4 * i
abbrev Reg.mboxRdata (i : Nat) : Nat := 0x25200 + 0x4 * i
abbrev Reg.sensTemp (k : Nat) : Nat := 0x26040 + 0x4 * k
abbrev Reg.sensSupply (r : Nat) : Nat := 0x26050 + 0x4 * r
abbrev Reg.sensThermCfg : Nat := 0x26070
abbrev Reg.sensProt : Nat := 0x26074
abbrev Reg.sensProtCnt : Nat := 0x26078
abbrev Reg.sensCntClr : Nat := 0x2607c
abbrev Reg.sensCoilDrv (n : Nat) : Nat := 0x26100 + 0x8 * n
abbrev Reg.sensCoilFld (n : Nat) : Nat := 0x26104 + 0x8 * n
abbrev Reg.logHead : Nat := 0x27040
abbrev Reg.logInfo : Nat := 0x27044
abbrev Reg.logSel : Nat := 0x27048
abbrev Reg.logCtrl : Nat := 0x2704c
abbrev Reg.logFilter : Nat := 0x27050
abbrev Reg.logStatus2 : Nat := 0x27054
abbrev Reg.logRec (w : Nat) : Nat := 0x27060 + 0x4 * w
abbrev Reg.updTarget : Nat := 0x28040
abbrev Reg.updCtrl : Nat := 0x28044
abbrev Reg.updStatus : Nat := 0x28048
abbrev Reg.updOffset : Nat := 0x2804c
abbrev Reg.updData : Nat := 0x28050
abbrev Reg.updDir : Nat := 0x28054
abbrev Reg.updRollback : Nat := 0x28058
abbrev Reg.updConfirmCfg : Nat := 0x2805c
abbrev Reg.updSlotVer (x : Nat) : Nat := 0x28060 + 0x8 * x
abbrev Reg.updSlotSvn (x : Nat) : Nat := 0x28064 + 0x8 * x
abbrev Reg.calReq : Nat := 0x29040
abbrev Reg.calStatus : Nat := 0x29044
abbrev Reg.calCoilStatus : Nat := 0x29048
abbrev Reg.calRecInfo : Nat := 0x2904c
abbrev Reg.calDrift : Nat := 0x29050
abbrev Reg.pinmuxGpPad (n : Nat) : Nat := 0x2a040 + 0x4 * n
abbrev Reg.pinmuxHostPad : Nat := 0x2a080
abbrev Reg.pinmuxStrap : Nat := 0x2a090
abbrev Reg.dbgFaultSum : Nat := 0x2b040
abbrev Reg.dbgFirst : Nat := 0x2b044
abbrev Reg.dbgFirstTickLo : Nat := 0x2b048
abbrev Reg.dbgFirstTickHi : Nat := 0x2b04c
abbrev Reg.dbgWdog : Nat := 0x2b050
abbrev Reg.dbgInject : Nat := 0x2b054
abbrev Reg.dbgCntClrAll : Nat := 0x2b058
abbrev Reg.dbgConsole : Nat := 0x2b05c

/-! The register tables, page by page. -/

/-- Registers of the SYS page (00_scope.md and the chapters its rows name). -/
def rowsSys : List RegRow :=
  [ rr "SYS.CHIP_ID" 0x40 [fu "PART" 31 16 .ro 0x4480, fu "STEP" 15 8 .ro 0xb0, fu "GRADE" 7 0 .ro 1],
    rr "SYS.CLAIM" 0x80 [fu "RELEASE" 31 31 .wo 0, fu "INDEX" 6 0 .wo 0],
    rr "SYS.CLAIM_RESULT" 0x84 [fu "ERR" 31 24 .ro 0, fu "INDEX" 23 16 .ro 0, fu "HOLDER" 15 0 .ro 0],
    rr "SYS.EPOCH_STATUS" 0xc0 [fu "NUMBER" 31 16 .ro 0, fu "LAST_ERR" 15 8 .ro 0, fu "STATE" 2 0 .ro 0],
    rr "SYS.EPOCH_APPLIED_LO" 0xc4 [fu "PAGES" 31 0 .ro 0],
    rr "SYS.EPOCH_APPLIED_HI" 0xc8 [fu "PAGES" 31 0 .ro 0],
    rr "SYS.EPOCH_NOTREADY_LO" 0xcc [fu "PAGES" 31 0 .ro 0],
    rr "SYS.EPOCH_NOTREADY_HI" 0xd0 [fu "PAGES" 31 0 .ro 0],
    rr "SYS.EPOCH_TICK_LO" 0xd4 [fu "TICK" 31 0 .ro 0],
    rr "SYS.EPOCH_TICK_HI" 0xd8 [fu "TICK" 31 0 .ro 0],
    ri "SYS.RES_CLAIM" 0x200 0x4 128 [fu "HANDLE" 31 16 .ro 0, fu "CLAIMANT" 15 12 .ro 0, fu "DETAIL" 11 0 .ro 0] ]

/-- Registers of the CLK page (05_register_pages.md and the chapters its rows name). -/
def rowsClk : List RegRow :=
  [ rr "CLK.REF" 0x40 [fu "QUAL_TIME" 31 16 .ro 0, fu "QUALIFIED" 2 2 .ro 0, fu "SOURCE" 1 0 .ro 0],
    rr "CLK.RUN" 0x44 [fu "ISLANDS" 13 0 .ro 0],
    rr "CLK.GATE" 0x48 [fu "RB_OFF" 0 0 .rw 0] ]

/-- Registers of the PWR page (19_crocus_low_power.md and the chapters its rows name). -/
def rowsPwr : List RegRow :=
  [ rr "PWR.MODE_REQ" 0x40 [fu "KEY" 31 16 .wo 0, fu "TARGET" 1 0 .wo 0],
    rr "PWR.MODE" 0x44 [fu "MODE" 2 0 .ro 0],
    rr "PWR.WAKE_EN" 0x48 [fu "GP" 11 8 .rw 0, fu "COMPARE" 5 5 .rw 0, fu "TIMER" 4 4 .rw 0, fu "HOST" 3 3 .rw 1, fu "TAG_FIELD" 2 2 .rw 0, fu "CROCUS" 1 1 .rw 1, fu "WAKE_N" 0 0 .ro 1],
    rr "PWR.WAKE_CAUSE" 0x4c [fu "GP" 11 8 .w1c 0, fu "COMPARE" 5 5 .w1c 0, fu "TIMER" 4 4 .w1c 0, fu "HOST" 3 3 .w1c 0, fu "TAG_FIELD" 2 2 .w1c 0, fu "CROCUS" 1 1 .w1c 0, fu "WAKE_N" 0 0 .w1c 0],
    rr "PWR.WAKE_TIMER" 0x50 [fu "CYCLES" 31 0 .rw 0],
    rr "PWR.GP_WAKE" 0x54 [fu "EDGEm" 7 0 .rw 0],
    rr "PWR.WAKE_TICK_LO" 0x58 [fu "TICK" 31 0 .ro 0],
    rr "PWR.WAKE_TICK_HI" 0x5c [fu "TICK" 31 0 .ro 0],
    rr "PWR.DUR" 0x60 [fu "CYCLES" 31 0 .ro 0],
    rr "PWR.CNT" 0x64 [fu "WAKES" 31 16 .ro 0, fu "REFUSED" 15 0 .ro 0] ]

/-- Registers of the RST page (03_startup_calibration.md and the chapters its rows name). -/
def rowsRst : List RegRow :=
  [ rr "RST.CAUSE" 0x40 [fu "MGT_FW" 9 9 .w1c 0, fu "BLOCK" 8 8 .w1c 0, fu "RF_SUPPLY" 7 7 .w1c 0, fu "HIF_SUPPLY" 6 6 .w1c 0, fu "MGT_SW" 5 5 .w1c 0, fu "MGT_WDOG" 4 4 .w1c 0, fu "CLOCK_LOSS" 3 3 .w1c 0, fu "SW_SYSTEM" 2 2 .w1c 0, fu "PIN" 1 1 .w1c 0, fu "POR" 0 0 .w1c 1],
    rr "RST.SW_RESET" 0x44 [fu "KEY" 31 16 .wo 0, fu "FULL_CAL" 2 2 .wo 0, fu "MGT" 1 1 .wo 0, fu "SYSTEM" 0 0 .wo 0],
    rr "RST.BLOCK_RST" 0x48 [fu "KEY" 31 16 .wo 0, fu "PAGE" 7 0 .wo 0],
    rr "RST.BOOT" 0x4c [fu "STEP" 31 24 .ro 2, fu "RB_STEP" 23 16 .ro 0, fu "KIND" 9 8 .ro 0, fu "SLOT" 5 4 .ro 0, fu "STATE" 2 0 .ro 1],
    rr "RST.BOOT_TIME" 0x50 [fu "TICK" 31 0 .ro 0],
    rr "RST.BOOT_FLAGS" 0x54 [fu "RECORD_COPY_BAD" 3 3 .w1c 0, fu "RECORD_REJECTED" 2 2 .w1c 0, fu "SLOT_FALLBACK" 1 1 .w1c 0, fu "EARLY_WR" 0 0 .w1c 0] ]

/-- Registers of the HIF page (04_host_port_queues.md and the chapters its rows name). -/
def rowsHif : List RegRow :=
  [ rr "HIF.CFG" 0x40 [fu "CNT_CLR" 8 8 .wo 0, fu "DUMMY" 3 0 .rw 8],
    rr "HIF.COUNT" 0x44 [fu "PARTIAL" 31 16 .ro 0, fu "BADCMD" 15 0 .ro 0],
    rr "HIF.IRQ_SUM0" 0x48 [fu "PAGES" 31 0 .ro 0],
    rr "HIF.IRQ_SUM1" 0x4c [fu "PAGES" 11 0 .ro 0] ]

/-- Registers of the QUEUE page (04_host_port_queues.md and the chapters its rows name). -/
def rowsQueue : List RegRow :=
  [ rr "QUEUE.CMD_LEVEL" 0x40 [fu "ITEMS" 27 16 .ro 0, fu "WORDS" 11 0 .ro 0],
    rr "QUEUE.RES_LEVEL" 0x44 [fu "ITEMS" 26 16 .ro 0, fu "WORDS" 12 0 .ro 0],
    rr "QUEUE.EVT_LEVEL" 0x48 [fu "ITEMS" 24 16 .ro 0, fu "WORDS" 9 0 .ro 0],
    rr "QUEUE.HOLD_MARKS" 0x4c [fu "LOW" 27 16 .rw 0x400, fu "HIGH" 11 0 .rw 0x700],
    rr "QUEUE.ATTN_MARKS" 0x50 [fu "LOW" 28 16 .rw 0x400, fu "HIGH" 12 0 .rw 0xc00],
    rr "QUEUE.EVT_MARK" 0x54 [fu "MARK" 9 0 .rw 1],
    rr "QUEUE.TIMERS" 0x58 [fu "STALE_TIMEOUT" 31 16 .rw 0xc8, fu "AGE_LIMIT" 15 0 .rw 0x3e8],
    rr "QUEUE.NOTICE" 0x5c [fu "PROMOTED" 4 4 .w1c 0, fu "EVT_LOST" 3 3 .w1c 0, fu "STALE" 2 2 .w1c 0, fu "ATTN_CROSS" 1 1 .w1c 0, fu "HOLD_CROSS" 0 0 .w1c 0],
    rr "QUEUE.CROSS_CNT" 0x60 [fu "ATTN" 31 16 .ro 0, fu "HOLD" 15 0 .ro 0],
    rr "QUEUE.LOSS_CNT" 0x64 [fu "PROMOTED" 31 16 .ro 0, fu "EVT_LOST" 15 0 .ro 0],
    rr "QUEUE.CNT_CLR" 0x68 [fu "LOSS" 1 1 .wo 0, fu "CROSS" 0 0 .wo 0],
    rr "QUEUE.FLUSH" 0x6c [fu "EVT" 2 2 .wo 0, fu "RES" 1 1 .wo 0, fu "CMD" 0 0 .wo 0],
    rr "QUEUE.DISPATCH" 0x70 [fu "PENDING_MAX" 2 0 .rws 2] ]

/-- Registers of the EVF page (07_event_fabric.md and the chapters its rows name). -/
def rowsEvf : List RegRow :=
  [ rr "EVF.FIRE" 0x40 [fu "CHANNEL" 5 0 .wo 0],
    rr "EVF.FIRE_MASK_LO" 0x44 [fu "MASK" 31 0 .wo 0],
    rr "EVF.FIRE_MASK_HI" 0x48 [fu "MASK" 31 0 .wo 0],
    rr "EVF.CH_RECLAIM" 0x4c [fu "KEY" 31 16 .wo 0, fu "CHANNEL" 5 0 .wo 0],
    rr "EVF.CNT" 0x50 [fu "COINCIDE" 31 16 .ro 0, fu "OVERRUN" 15 0 .ro 0],
    rr "EVF.DROP_CNT" 0x54 [fu "CHANNEL" 31 16 .ro 0, fu "TASK" 15 0 .ro 0],
    rr "EVF.CNT_CLR" 0x58 [fu "CH" 2 2 .wo 0, fu "DROP" 1 1 .wo 0, fu "CNT" 0 0 .wo 0],
    ri "EVF.COINCIDE_FLAGj" 0x60 0x4 5 [fu "INPUT" 31 0 .w1c 0],
    ri "EVF.OVERRUN_FLAGj" 0x80 0x4 5 [fu "INPUT" 31 0 .w1c 0],
    ri "EVF.CHn_CFG" 0x100 0x10 64 [fs "SPACING" 31 16 .rw 4, fu "OWNER" 15 14 .rw 0, fu "SECURE" 13 13 .ro 0, fs "TO_QUEUE" 12 12 .rw 0],
    ri "EVF.CHn_STATUS" 0x104 0x10 64 [fu "RATE_LIMITED" 31 16 .ro 0, fu "HELD" 2 2 .ro 0, fu "MERGED" 1 1 .w1c 0, fu "LIMITED" 0 0 .w1c 0],
    ri "EVF.CHn_COUNT" 0x108 0x10 64 [fu "PASSED" 31 0 .ro 0],
    ri "EVF.CHn_SNAP" 0x10c 0x10 64 [fu "PASSED" 31 0 .ro 0],
    ri "EVF.PUBp" 0x600 0x4 256 [fs "CHANNEL" 6 0 .rw 0x7f],
    ri "EVF.SUBi" 0xa00 0x4 160 [fs "SRC" 6 0 .rw 0x7f],
    ri "EVF.GPn_CFG" 0xd00 0x4 16 [fs "PULSE" 31 16 .rw 0x6c, fs "CELL" 11 8 .rw 0, fs "ACTION" 7 6 .rw 0, fs "IN_EDGE" 5 4 .rw 0, fs "FUNC" 2 0 .rw 0],
    rr "EVF.GP_OUT" 0xd40 [fu "MASK" 31 16 .wo 0, fu "VALUE" 15 0 .rw 0],
    rr "EVF.GP_IN" 0xd44 [fu "LEVEL" 15 0 .ro 0] ]

/-- Registers of the EVF_LUT page (07_event_fabric.md and the chapters its rows name). -/
def rowsEvfLut : List RegRow :=
  [ ri "EVF_LUT.CELLc_CFG" 0x40 0x10 16 [fs "TRUTH" 31 16 .rw 0, fs "FILT" 15 12 .rw 0, fs "REG" 11 11 .rw 0, fs "EDGE" 10 9 .rw 0, fs "INIT" 8 8 .rw 0],
    ri "EVF_LUT.CELLc_STATUS" 0x44 0x10 16 [fu "OUT" 1 1 .ro 0, fu "Q" 0 0 .ro 0],
    rr "EVF_LUT.CELL_LEVEL" 0x140 [fu "OUT" 15 0 .ro 0] ]

/-- Registers of the FTB page (06_time_base_timers.md and the chapters its rows name). -/
def rowsFtbA : List RegRow :=
  [ rr "FTB.FTB_LO" 0x40 [fu "TICK" 31 0 .ro 0],
    rr "FTB.FTB_HI" 0x44 [fu "TICK" 31 0 .ro 0],
    rr "FTB.SNAP_LO" 0x48 [fu "TICK" 31 0 .ro 0],
    rr "FTB.SNAP_HI" 0x4c [fu "TICK" 31 0 .ro 0],
    rr "FTB.SNAP_CTRL" 0x50 [fu "SEQ" 31 16 .ro 0, fu "GO" 0 0 .wo 0],
    rr "FTB.SYNC_CTRL" 0x54 [fu "COUNT" 31 16 .ro 0, fu "GO" 2 2 .wo 0, fu "OUT_EN" 1 1 .rwl 0, fu "IN_EN" 0 0 .rwl 0],
    rr "FTB.SYNC_STAMP_LO" 0x58 [fu "TICK" 31 0 .ro 0],
    rr "FTB.SYNC_STAMP_HI" 0x5c [fu "TICK" 31 0 .ro 0],
    rr "FTB.AON_MEAS" 0x60 [fu "FT" 23 0 .ro 0],
    rr "FTB.CMP_FIRED" 0x68 [fu "UNIT" 31 0 .w1c 0],
    rr "FTB.CMP_LATE" 0x6c [fu "UNIT" 31 0 .w1c 0],
    ri "FTB.CMPk_CTRL" 0x100 0x10 32 [fu "IRQ" 1 1 .rw 0, fu "ARM" 0 0 .rw 0],
    ri "FTB.CMPk_TARGET_LO" 0x108 0x10 32 [fu "TICK" 31 0 .rw 0],
    ri "FTB.CMPk_TARGET_HI" 0x10c 0x10 32 [fu "TICK" 31 0 .rw 0],
    ri "FTB.CADg_CTRL" 0x300 0x20 8 [fu "IRQ" 2 2 .rw 0, fu "AT" 1 1 .rws 0, fu "RUN" 0 0 .rw 0],
    ri "FTB.CADg_PERIOD" 0x304 0x20 8 [fs "PERIOD" 31 0 .rw 0x3500],
    ri "FTB.CADg_COUNT" 0x308 0x20 8 [fu "COUNT" 31 0 .ro 0],
    ri "FTB.CADg_START_LO" 0x30c 0x20 8 [fs "TICK" 31 0 .rw 0],
    ri "FTB.CADg_START_HI" 0x310 0x20 8 [fs "TICK" 31 0 .rw 0],
    ri "FTB.CADg_WRAPS" 0x314 0x20 8 [fu "WRAPS" 31 0 .ro 0],
    ri "FTB.CADg_SNAP" 0x318 0x20 8 [fu "COUNT" 31 0 .ro 0],
    ri "FTB.CADg_STATUS" 0x31c 0x20 8 [fu "MISSED" 31 16 .ro 0, fu "LATE" 1 1 .w1c 0, fu "WRAP" 0 0 .w1c 0],
    ri "FTB.CAPc_CTRL" 0x400 0x10 4 [fu "IRQ" 2 2 .rw 0, fu "KEEP" 1 1 .rw 0, fu "EN" 0 0 .rw 0],
    ri "FTB.CAPc_STATUS" 0x404 0x10 4 [fu "OVR_CNT" 31 16 .ro 0, fu "OVR" 1 1 .w1c 0, fu "VALID" 0 0 .ro 0] ]

/-- Registers of the FTB page (06_time_base_timers.md and the chapters its rows name). -/
def rowsFtbB : List RegRow :=
  [ ri "FTB.CAPc_LO" 0x408 0x10 4 [fu "TICK" 31 0 .ro 0],
    ri "FTB.CAPc_HI" 0x40c 0x10 4 [fu "TICK" 31 0 .ro 0] ]

/-- Registers of the CVU page (16_check_value_units.md and the chapters its rows name). -/
def rowsCvu : List RegRow :=
  [ rr "CVU.CHQ" 0x40 [fu "DONE" 23 16 .ro 0, fu "REQ" 7 0 .rw 0],
    rr "CVU.CNT_CLR" 0x44 [fu "CHAN" 7 0 .wo 0],
    ri "CVU.Cc_CFG" 0x100 0x40 8 [fu "WIDTH" 21 16 .rw 0, fu "REFOUT" 9 9 .rw 0, fu "REFIN" 8 8 .rw 0, fu "CMP_EN" 4 4 .rw 0, fu "PRESET" 3 0 .rw 0],
    ri "CVU.Cc_POLY" 0x104 0x40 8 [fu "VALUE" 31 0 .rw 0],
    ri "CVU.Cc_INIT" 0x108 0x40 8 [fu "VALUE" 31 0 .rw 0],
    ri "CVU.Cc_XOR" 0x10c 0x40 8 [fu "VALUE" 31 0 .rw 0],
    ri "CVU.Cc_CTRL" 0x110 0x40 8 [fu "FEED" 9 8 .rw 0, fu "ABORT" 2 2 .wo 0, fu "END" 1 1 .wo 0, fu "START" 0 0 .wo 0],
    ri "CVU.Cc_DATA" 0x114 0x40 8 [fu "BYTES" 31 0 .wo 0],
    ri "CVU.Cc_RUN" 0x118 0x40 8 [fu "VALUE" 31 0 .rw 0],
    ri "CVU.Cc_RESULT" 0x11c 0x40 8 [fu "VALUE" 31 0 .ro 0],
    ri "CVU.Cc_EXPECT" 0x120 0x40 8 [fu "VALUE" 31 0 .rw 0],
    ri "CVU.Cc_LAST" 0x124 0x40 8 [fu "VALUE" 31 0 .ro 0],
    ri "CVU.Cc_STATUS" 0x128 0x40 8 [fu "BYTES" 31 16 .ro 0, fu "VALID" 3 3 .ro 0, fu "MISMATCH" 2 2 .w1c 0, fu "MATCH" 1 1 .ro 0, fu "FRAME" 0 0 .ro 0],
    ri "CVU.Cc_CNT" 0x12c 0x40 8 [fu "MISMATCHES" 31 20 .ro 0, fu "ABORTS" 19 16 .ro 0, fu "FRAMES" 15 0 .ro 0],
    ri "CVU.Cc_SNAP" 0x130 0x40 8 [fu "MISMATCHES" 31 20 .ro 0, fu "ABORTS" 19 16 .ro 0, fu "FRAMES" 15 0 .ro 0] ]

/-- Registers of the SESS page (11_discovery_anticollision.md and the chapters its rows name). -/
def rowsSess : List RegRow :=
  [ rr "SESS.DISC_CFG" 0x40 [fu "FOLLOW_COUNT" 15 8 .rw 2, fu "ANTICOL_MAX" 7 0 .rw 0x20],
    rr "SESS.USE" 0x44 [fu "PEAK" 15 8 .ro 0, fu "IN_USE" 7 0 .ro 0],
    rr "SESS.MIG_CNT" 0x48 [fu "AUTO" 31 16 .ro 0, fu "CMD" 15 0 .ro 0],
    ri "SESS.FOLLOW_MAPn" 0x50 0x4 4 [fu "REGIONS" 15 0 .rw 0],
    rr "SESS.CNT_CLR" 0x60 [fu "PEAK" 1 1 .wo 0, fu "MIG" 0 0 .wo 0] ]

/-- Registers of the LSP page (12_larkspur_scores.md and the chapters its rows name). -/
def rowsLsp : List RegRow :=
  [ rr "LSP.COMMIT_CFG" 0x40 [fu "MARGIN" 10 0 .rw 0x40],
    rr "LSP.COMMIT_CTRL" 0x44 [fu "GO" 0 0 .wo 0],
    rr "LSP.COMMIT_TICK_LO" 0x48 [fu "TICK" 31 0 .rw 0],
    rr "LSP.COMMIT_TICK_HI" 0x4c [fu "TICK" 31 0 .rw 0],
    rr "LSP.CNT_CLR" 0x50 [fu "PLAYERS" 0 0 .wo 0],
    rr "LSP.CLAIM" 0x54 [fu "RELEASE" 31 31 .wo 0, fu "PLAYER" 10 8 .wo 0, fu "INDEX" 6 0 .wo 0],
    rr "LSP.CLAIM_RESULT" 0x58 [fu "RESULT" 31 0 .ro 0],
    ri "LSP.PLk_CTRL" 0x100 0x40 8 [fu "SECTION" 15 8 .wo 0, fu "START" 5 5 .wo 0, fu "STOP" 4 4 .wo 0, fu "SWAP_CANCEL" 3 3 .wo 0, fu "SWAP_REQ" 2 2 .wo 0, fu "VERIFY" 1 1 .wo 0, fu "HOLD" 0 0 .rw 0],
    ri "LSP.PLk_STATUS" 0x104 0x40 8 [fu "SECTION" 31 24 .ro 0, fu "PLAYING" 23 23 .ro 0, fu "HELD" 22 22 .ro 0, fu "TRIG_PEND" 21 21 .ro 0, fu "ACTIVE" 20 20 .ro 0, fu "STBY" 19 16 .ro 0, fu "STEP" 12 0 .ro 0],
    ri "LSP.PLk_SLOTA" 0x108 0x40 8 [fu "SIZE" 29 16 .rw 0x200, fu "BASE" 12 0 .rw 0],
    ri "LSP.PLk_SLOTB" 0x10c 0x40 8 [fu "SIZE" 29 16 .rw 0x200, fu "BASE" 12 0 .rw 0],
    ri "LSP.PLk_CFG" 0x110 0x40 8 [fu "TRIG_OFFSET" 15 0 .rw 0x180],
    ri "LSP.PLk_ANCHOR_LO" 0x114 0x40 8 [fu "TICK" 31 0 .rw 0],
    ri "LSP.PLk_ANCHOR_HI" 0x118 0x40 8 [fu "TICK" 31 0 .rw 0],
    ri "LSP.PLk_START_LO" 0x11c 0x40 8 [fu "TICK" 31 0 .ro 0],
    ri "LSP.PLk_START_HI" 0x120 0x40 8 [fu "TICK" 31 0 .ro 0],
    ri "LSP.PLk_CNT" 0x124 0x40 8 [fu "LATE" 31 16 .ro 0, fu "SHORT_LEAD" 15 0 .ro 0],
    ri "LSP.PLk_SECT_CNT" 0x128 0x40 8 [fu "SECTIONS" 31 16 .ro 0, fu "SWAPS" 15 0 .ro 0],
    ri "LSP.PLk_SCORE_ID" 0x12c 0x40 8 [fu "ID" 31 0 .ro 0],
    ri "LSP.PLk_LATE_LO" 0x130 0x40 8 [fu "TICK" 31 0 .ro 0],
    ri "LSP.PLk_LATE_HI" 0x134 0x40 8 [fu "TICK" 31 0 .ro 0],
    ri "LSP.PLk_SNAP" 0x138 0x40 8 [fu "SECTION" 31 24 .ro 0, fu "PLAYING" 23 23 .ro 0, fu "HELD" 22 22 .ro 0, fu "TRIG_PEND" 21 21 .ro 0, fu "ACTIVE" 20 20 .ro 0, fu "STBY" 19 16 .ro 0, fu "STEP" 12 0 .ro 0] ]

/-- Registers of the FE page (10_hf_air_interfaces.md and the chapters its rows name). -/
def rowsFe : List RegRow :=
  [ rr "FEn.MODE" 0x40 [fs "STD" 3 0 .rw 0],
    rr "FEn.TX_ENV" 0x44 [fs "MOD10" 29 24 .rw 2, fs "MOD100" 21 16 .rw 1, fs "EDGE" 13 12 .rw 0, fs "CARRIER" 5 0 .rw 0],
    rr "FEn.PAUSE" 0x48 [fs "P848" 31 24 .rw 4, fs "P424" 23 16 .rw 8, fs "P212" 15 8 .rw 0x10, fs "P106" 7 0 .rw 0x20],
    rr "FEn.GUARD" 0x4c [fs "MIN" 23 0 .rw 0],
    rr "FEn.FIELD_STATUS" 0x50 [fu "GUARD_DONE" 31 31 .ro 0, fu "FIELD_ON" 30 30 .ro 0],
    rr "FEn.RX_CFG" 0x54 [fs "COLL_RATIO" 31 24 .rw 0x40, fs "SOF_LEVEL" 23 0 .rw 0x400],
    rr "FEn.CVU" 0x58 [fu "SPARE_EN" 15 15 .rws 0, fu "SPARE" 14 12 .rws 0, fu "CHAN" 2 0 .rws 0],
    rr "FEn.L4_CFG" 0x5c [fs "RETRY_MAX" 3 0 .rw 2],
    rr "FEn.EXCH_STATUS" 0x60 [fu "HANDLE" 31 16 .ro 0, fu "PHASE" 10 8 .ro 0, fu "LAST_ERR" 7 0 .ro 0],
    rr "FEn.LAST_FDT" 0x64 [fu "FDT" 31 0 .ro 0xffffffff],
    rr "FEn.LAST_SOF_LO" 0x68 [fu "TICK" 31 0 .ro 0],
    rr "FEn.LAST_SOF_HI" 0x6c [fu "TICK" 31 0 .ro 0],
    rr "FEn.FRAME_CNT" 0x70 [fu "RX" 31 16 .ro 0, fu "TX" 15 0 .ro 0],
    rr "FEn.ERR_CNT" 0x74 [fu "NO_REPLY" 31 24 .ro 0, fu "EARLY" 23 16 .ro 0, fu "CHECK" 15 8 .ro 0, fu "CODING" 7 0 .ro 0],
    rr "FEn.GUARD_CNT" 0x78 [fu "VIOLATIONS" 31 16 .ro 0, fu "WTX" 15 0 .ro 0],
    rr "FEn.CNT_CLR" 0x7c [fu "GUARD" 1 1 .wo 0, fu "FRAMES" 0 0 .wo 0],
    rr "FEn.SNAP_FRAME" 0x80 [fu "RX" 31 16 .ro 0, fu "TX" 15 0 .ro 0] ]

/-- Registers of the COIL page (08_coil_channels.md and the chapters its rows name). -/
def rowsCoilA : List RegRow :=
  [ rr "COILn.TUNE_CAP" 0x40 [fu "CAL_CODE" 15 8 .ro 0, fs "CODE" 7 0 .rw 0],
    rr "COILn.TUNE_TRACK" 0x44 [fu "DEADBAND" 15 8 .rw 0x1e, fu "SPAN" 7 4 .rw 8, fu "SIGN" 1 1 .rw 0, fu "EN" 0 0 .rw 0],
    rr "COILn.DRIVE_STATUS" 0x48 [fu "HOLDER" 19 16 .ro 0, fu "ENTRY" 13 8 .ro 0, fu "HEADROOM" 2 2 .ro 0, fu "VFLD_OK" 1 1 .ro 0, fu "FIELD_ON" 0 0 .ro 0],
    rr "COILn.MM_CFG" 0x4c [fu "ACT" 23 22 .rw 0, fu "SAFE_ENTRY" 21 16 .rw 0, fu "MAG_DET" 15 8 .rw 0x19, fu "PHASE_DET" 7 0 .rw 0xc8],
    rr "COILn.MM_WIN" 0x50 [fu "MEAS" 15 8 .rw 0x20, fu "SETTLE" 7 0 .rw 0x10],
    rr "COILn.MM_RESULT" 0x54 [fu "ZRATIO" 31 16 .ro 0, fu "DPHASE" 15 0 .ro 0],
    rr "COILn.MM_MEAS" 0x58 [fu "VALID" 31 31 .ro 0, fu "IPK" 30 16 .ro 0, fu "VPK" 15 0 .ro 0],
    rr "COILn.MM_REF" 0x5c [fu "PHREF" 31 16 .ro 0, fu "ZREF" 15 0 .ro 0],
    rr "COILn.DRV_CNT" 0x60 [fu "LIMIT" 31 16 .ro 0, fu "DETUNED" 15 0 .ro 0],
    rr "COILn.SENSE_CFG" 0x64 [fu "SRC" 1 0 .rws 0],
    rr "COILn.SENSE_CNT" 0x68 [fu "CLIP" 31 16 .ro 0, fu "SAT" 15 0 .ro 0],
    rr "COILn.CHAIN_CTRL" 0x6c [fu "RESTART" 2 2 .wo 0, fs "PROFILE" 1 1 .rw 0, fu "RUN" 0 0 .rw 0],
    rr "COILn.CHAIN_STATUS" 0x70 [fu "PROFILE" 2 2 .ro 0, fu "SETTLING" 1 1 .ro 0, fu "RUNNING" 0 0 .ro 0],
    rr "COILn.CAL_GAIN" 0x74 [fu "GI" 31 16 .ro 0, fu "GQ" 15 0 .ro 0],
    rr "COILn.THR_CTRL" 0x78 [fs "HOLDOFF" 23 16 .rw 0, fs "COUNT" 11 8 .rw 1, fs "SEL" 3 2 .rw 1, fs "PH_EN" 1 1 .rw 0, fs "MAG_EN" 0 0 .rw 0],
    rr "COILn.THR_STATUS" 0x7c [fu "CROSS" 31 16 .ro 0, fu "PH_STATE" 3 2 .ro 0, fu "MAG_STATE" 1 0 .ro 0],
    rr "COILn.THR_MAG_UPPER" 0x80 [fs "MARK" 23 0 .rw 0xffffff],
    rr "COILn.THR_MAG_LOWER" 0x84 [fs "MARK" 23 0 .rw 0],
    rr "COILn.THR_PH" 0x88 [fs "UPPER" 31 16 .rw 0x7fff, fs "LOWER" 15 0 .rw 0x8000],
    rr "COILn.THR_PH_REF" 0x8c [fs "REF" 15 0 .rw 0],
    rr "COILn.CNT_CLR" 0x90 [fu "THR" 2 2 .wo 0, fu "SENSE" 1 1 .wo 0, fu "DRV" 0 0 .wo 0],
    rj "COILn.PROFp_STAGEk" 0xa0 0x10 2 0x4 3 [fu "SCS" 24 24 .rw 0, fu "SHIFT" 20 16 .rw 0, fu "DEC_M1" 13 8 .rw 0, fu "LEN_M1" 7 0 .rw 0],
    rr "COILn.OUT_I" 0xc0 [fu "SIGN" 31 24 .ro 0, fu "VALUE" 23 0 .ro 0],
    rr "COILn.OUT_Q" 0xc4 [fu "SIGN" 31 24 .ro 0, fu "VALUE" 23 0 .ro 0] ]

/-- Registers of the COIL page (08_coil_channels.md and the chapters its rows name). -/
def rowsCoilB : List RegRow :=
  [ rr "COILn.OUT_MAG" 0xc8 [fu "SETTLING" 31 31 .ro 0, fu "MAG" 23 0 .ro 0],
    rr "COILn.OUT_PHASE" 0xcc [fu "SETTLING" 31 31 .ro 0, fu "PHASE" 15 0 .ro 0],
    rr "COILn.OUT_TICK_LO" 0xd0 [fu "TICK" 31 0 .ro 0],
    rr "COILn.OUT_TICK_HI" 0xd4 [fu "TICK" 31 0 .ro 0],
    rr "COILn.OUT_COUNT" 0xd8 [fu "COUNT" 31 0 .ro 0],
    rr "COILn.SNAP_COUNT" 0xe0 [fu "COUNT" 31 0 .ro 0],
    rr "COILn.SNAP_MAG" 0xe4 [fu "SETTLING" 31 31 .ro 0, fu "MAG" 23 0 .ro 0],
    rr "COILn.SNAP_PHASE" 0xe8 [fu "SETTLING" 31 31 .ro 0, fu "PHASE" 15 0 .ro 0],
    rr "COILn.SNAP_MM" 0xec [fu "MM" 31 0 .ro 0],
    ri "COILn.PWR_TABLE" 0x400 0x4 64 [fs "PMAX" 25 16 .rw 0, fs "AMPL" 9 0 .rw 0] ]

/-- Registers of the FWGT page (09_field_shaping.md and the chapters its rows name). -/
def rowsFwgt : List RegRow :=
  [ rr "FWGT.GOV_BUDGET" 0x40 [fs "TOTAL" 11 0 .rw 0x7d0],
    rr "FWGT.GOV_CFG" 0x44 [fu "RMIN" 31 24 .rw 0xf, fu "FLOOR" 21 12 .rw 0x200, fu "RAMP" 7 0 .rw 0x10],
    rr "FWGT.GOV_STATUS" 0x48 [fu "LIMITING" 31 31 .ro 0, fu "FACTOR" 26 16 .ro 0x400, fu "PRED" 11 0 .ro 0],
    rr "FWGT.GOV_MEAS" 0x4c [fu "GRANT" 27 16 .ro 0, fu "MEAS" 11 0 .ro 0],
    rr "FWGT.GOV_CNT" 0x50 [fu "CAP" 31 16 .ro 0, fu "TOTAL" 15 0 .ro 0],
    rr "FWGT.GOV_SNAP" 0x54 [fu "GRANT" 27 16 .ro 0, fu "MEAS" 11 0 .ro 0],
    rr "FWGT.CNT_CLR" 0x58 [fu "SWAP" 1 1 .wo 0, fu "GOV" 0 0 .wo 0],
    rr "FWGT.LOC_CFG" 0x60 [fs "WIN" 31 16 .rw 0x200, fs "POW" 0 0 .rw 0],
    rr "FWGT.LOC_MIN" 0x64 [fs "LEVEL" 23 0 .rw 0x100],
    rr "FWGT.LOC_FLOOR" 0x68 [fs "LEVEL" 23 0 .rw 0],
    ri "FWGT.GEOc" 0x80 0x4 12 [fs "X" 31 16 .rw 0, fs "Y" 15 0 .rw 0],
    rr "FWGT.GEO_POP" 0xb0 [fs "POP" 11 0 .rw 0xfff],
    ri "FWGT.FEn_COILS" 0x100 0x100 4 [fs "LOC_EN" 31 31 .rw 0, fu "HELD" 27 16 .ro 0, fs "SET" 11 0 .rw 0],
    ri "FWGT.FEn_BANK" 0x104 0x100 4 [fs "XFADE" 26 16 .rw 0, fs "COMP" 5 5 .rw 0, fu "WAIT" 4 4 .ro 0, fu "FADING" 3 3 .ro 0, fu "ACTIVE" 2 2 .ro 0, fs "SEL" 0 0 .rw 0],
    ri "FWGT.FEn_SWAP_CNT" 0x108 0x100 4 [fu "REJECTED" 31 16 .ro 0, fu "SWAPS" 15 0 .ro 0],
    rj "FWGT.FEn_WA" 0x120 0x100 4 0x4 12 [fu "I" 31 16 .rw 0x4000, fu "Q" 15 0 .rw 0],
    rj "FWGT.FEn_WB" 0x160 0x100 4 0x4 12 [fu "I" 31 16 .rw 0, fu "Q" 15 0 .rw 0],
    ri "FWGT.FEn_LOC_XY" 0x1a0 0x100 4 [fu "X" 31 16 .ro 0x8000, fu "Y" 15 0 .ro 0x8000],
    ri "FWGT.FEn_LOC_INFO" 0x1a4 0x100 4 [fu "REGION" 31 24 .ro 0xff, fu "SUM" 23 0 .ro 0],
    rj "FWGT.FEn_LOC_M" 0x1c0 0x100 4 0x4 12 [fu "M" 23 0 .ro 0],
    ri "FWGT.REGr_MIN" 0x600 0x10 16 [fs "X" 31 16 .rw 0, fs "Y" 15 0 .rw 0],
    ri "FWGT.REGr_MAX" 0x604 0x10 16 [fs "X" 31 16 .rw 0, fs "Y" 15 0 .rw 0],
    ri "FWGT.REGr_ID" 0x608 0x10 16 [fs "EN" 8 8 .rw 0, fs "ID" 7 0 .rw 0] ]

/-- Registers of the CROCUS page (19_crocus_low_power.md and the chapters its rows name). -/
def rowsCrocus : List RegRow :=
  [ rr "CROCUS.CFG" 0x40 [fu "PACE" 31 30 .rw 0, fu "DEFER" 29 29 .rw 1, fu "ENTRY" 21 16 .rw 0x3f, fu "COUNT" 11 8 .rw 1, fu "TRACK" 3 0 .rw 6],
    rr "CROCUS.SET" 0x44 [fu "COILS" 11 0 .rw 0],
    rr "CROCUS.GAP" 0x48 [fu "GAP" 15 0 .rw 0x2000],
    rr "CROCUS.STATUS" 0x4c [fu "SWEEPING" 31 31 .ro 0, fu "OSC" 30 30 .ro 0, fu "HELD" 27 16 .ro 0, fu "TRIPPED" 11 0 .ro 0],
    rr "CROCUS.SWEEP_CNT" 0x50 [fu "SWEEPS" 31 16 .ro 0, fu "SKIPPED" 15 0 .ro 0],
    rr "CROCUS.TRIP_CNT" 0x54 [fu "SWEEPS" 31 16 .ro 0, fu "SKIPPED" 15 0 .ro 0],
    rr "CROCUS.LAST_LO" 0x58 [fu "TICK" 31 0 .ro 0],
    rr "CROCUS.LAST_HI" 0x5c [fu "TICK" 31 0 .ro 0],
    rr "CROCUS.CNT_CLR" 0x60 [fu "CNT" 0 0 .wo 0],
    rr "CROCUS.BASE_REQ" 0x64 [fu "COILS" 11 0 .wo 0],
    rr "CROCUS.INVALID" 0x68 [fu "COILS" 11 0 .ro 0],
    ri "CROCUS.THRk" 0x100 0x10 12 [fu "PH_DELTA" 15 8 .rw 0x1e, fu "MAG_DELTA" 7 0 .rw 0x14],
    ri "CROCUS.BASE_Xk" 0x104 0x10 12 [fu "MAG" 31 16 .ro 0, fu "PHASE" 15 0 .ro 0],
    ri "CROCUS.BASE_Wk" 0x108 0x10 12 [fu "MAG" 31 16 .ro 0, fu "PHASE" 15 0 .ro 0],
    ri "CROCUS.MEASk" 0x10c 0x10 12 [fu "MAG" 31 16 .ro 0, fu "PHASE" 15 0 .ro 0] ]

/-- Registers of the TAGC page (17_panel_tag.md and the chapters its rows name). -/
def rowsTagc : List RegRow :=
  [ rr "TAGC.TAG_STATUS" 0x40 [fu "AUTH" 23 20 .ro 0, fu "L4" 19 19 .ro 0, fu "AIR_STATE" 18 16 .ro 0, fu "SELECTED" 3 3 .ro 0, fu "FIELD_CMD" 2 2 .ro 0, fu "RESERVE_OK" 1 1 .ro 0, fu "FIELD" 0 0 .ro 0],
    rr "TAGC.CFG" 0x44 [fu "FIELD_EN" 9 9 .rw 0, fu "WIRE_EN" 8 8 .rw 0, fu "I2C_ADDR" 6 0 .rw 0],
    rr "TAGC.FIELD_WLOCK" 0x48 [fu "REGIONS" 15 0 .rw 0],
    rr "TAGC.PERSIST_LOCK" 0x4c [fu "REGIONS" 15 0 .rwl 0],
    ri "TAGC.REGION_ACCq" 0x50 0x4 4 [fu "ACC" 31 0 .rw 0],
    rr "TAGC.CNT_PROT" 0x60 [fu "COUNTERS" 7 0 .rw 0],
    rr "TAGC.PW_CTRL" 0x64 [fu "SET" 8 8 .wo 0, fu "LIMIT" 7 4 .wo 0, fu "PW_NUM" 1 0 .wo 0],
    rr "TAGC.PW_VALUE" 0x68 [fu "VALUE" 31 0 .wo 0],
    rr "TAGC.PW_STATUS" 0x6c [fu "LIMIT" 31 16 .ro 0, fu "ATTEMPTS" 15 0 .ro 0],
    rr "TAGC.CNT_CTRL" 0x70 [fu "INC" 31 31 .wo 0, fu "INDEX" 26 24 .wo 0, fu "AMOUNT" 23 0 .wo 0],
    ri "TAGC.CNT_VALUEk" 0x80 0x4 8 [fu "BAD" 31 31 .ro 0, fu "VALUE" 23 0 .ro 0],
    rr "TAGC.WIRE_STATUS" 0xa0 [fu "WR_REFUSED" 1 1 .w1c 0, fu "TAG_BUSY" 0 0 .w1c 0],
    rr "TAGC.ARB_CNT" 0xa4 [fu "STRETCHES" 31 16 .ro 0, fu "BUSY" 15 0 .ro 0],
    rr "TAGC.FIELD_CNT" 0xa8 [fu "APDUS" 31 16 .ro 0, fu "ERRORS" 15 8 .ro 0, fu "STOPPED" 7 0 .ro 0],
    rr "TAGC.LAST_FWRITE" 0xac [fu "LENGTH" 31 16 .ro 0, fu "ADDR" 15 0 .ro 0],
    rr "TAGC.UID_LO" 0xb0 [fu "UID" 31 0 .ro 0],
    rr "TAGC.UID_HI" 0xb4 [fu "UID" 31 0 .ro 0],
    rr "TAGC.CNT_CLR" 0xb8 [fu "FIELD" 1 1 .wo 0, fu "ARB" 0 0 .wo 0] ]

/-- Registers of the RB_SYN page (13_return_band_radio.md and the chapters its rows name). -/
def rowsRbSyn : List RegRow :=
  [ rr "RB_SYN.REQ" 0x40 [fu "GO" 31 31 .wo 0, fu "RETURN" 18 15 .wo 0, fu "PA_STEP" 14 10 .wo 0, fu "CHANNEL" 9 4 .wo 0, fu "STATE" 3 0 .wo 0],
    rr "RB_SYN.STATE" 0x44 [fu "PA_STEP" 23 19 .ro 0, fu "RETURN" 18 15 .ro 0, fu "PENDING" 14 14 .ro 0, fu "CALIBRATING" 13 13 .ro 0, fu "LOCKED" 12 12 .ro 0, fu "CHANNEL" 9 4 .ro 0, fu "STATE" 3 0 .ro 0],
    rr "RB_SYN.DEF" 0x48 [fu "DEF_RETURN" 18 15 .rw 2, fu "IDLE_CHANNEL" 9 4 .rw 0, fu "IDLE_STATE" 3 0 .rw 2],
    rr "RB_SYN.CNT" 0x50 [fu "CAL" 31 16 .ro 0, fu "LOCK_LOSS" 15 8 .ro 0, fu "FAIL" 7 0 .ro 0],
    rr "RB_SYN.CNT2" 0x54 [fu "TX_MISSED" 31 16 .ro 0, fu "RX_PREEMPTED" 15 0 .ro 0],
    rr "RB_SYN.LAST_CAL" 0x58 [fu "CHANNEL" 21 16 .ro 0, fu "DUR" 15 0 .ro 0],
    rr "RB_SYN.SNAP" 0x5c [fu "PA_STEP" 23 19 .ro 0, fu "RETURN" 18 15 .ro 0, fu "PENDING" 14 14 .ro 0, fu "CALIBRATING" 13 13 .ro 0, fu "LOCKED" 12 12 .ro 0, fu "CHANNEL" 9 4 .ro 0, fu "STATE" 3 0 .ro 0],
    rr "RB_SYN.CNT_CLR" 0x60 [fu "CNT2" 1 1 .wo 0, fu "CNT" 0 0 .wo 0],
    ri "RB_SYN.BANDk" 0x100 0x4 64 [fu "VALID" 31 31 .ro 0, fu "GAIN" 23 16 .ro 0, fu "BAND" 5 0 .ro 0] ]

/-- Registers of the RB_RX page (14_return_band_receiver.md and the chapters its rows name). -/
def rowsRbRx : List RegRow :=
  [ rr "RB_RX.AGC_CFG" 0x40 [fu "TARGET" 23 16 .rw 0x12, fu "TRIG" 11 8 .rw 3],
    rr "RB_RX.AGC_STATUS" 0x44 [fu "FROZEN" 31 31 .ro 0, fu "DGAIN" 23 16 .ro 0, fu "ATTEN" 3 0 .ro 0],
    rr "RB_RX.DET_CFG" 0x48 [fu "THR" 31 24 .rw 0xc0, fu "HOLD" 19 16 .rw 4, fu "MIN_SNR" 15 8 .rw 0xc, fu "WIN" 4 0 .rw 0x10],
    rr "RB_RX.NOISE" 0x4c [fu "FLOOR" 15 0 .ro 0x8000],
    rr "RB_RX.LEVEL" 0x50 [fu "LEVEL" 31 16 .ro 0x8000, fu "SNR" 15 0 .ro 0],
    rr "RB_RX.RX_CNT" 0x54 [fu "DETECT" 31 16 .ro 0, fu "CLIP_ATTACKS" 15 0 .ro 0],
    rr "RB_RX.RX_SNAP" 0x58 [fu "DETECT" 31 16 .ro 0, fu "CLIP_ATTACKS" 15 0 .ro 0],
    rr "RB_RX.CNT_CLR" 0x5c [fu "CNT" 0 0 .wo 0] ]

/-- Registers of the RB_DEM page (14_return_band_receiver.md and the chapters its rows name). -/
def rowsRbDem : List RegRow :=
  [ rr "RB_DEM.CAP_CFG" 0x40 [fu "CAPTURE_EN" 8 8 .rw 1, fu "SEEN" 7 4 .rw 3, fu "MARGIN" 3 0 .rw 6],
    rr "RB_DEM.EQ_CFG" 0x44 [fu "PILOT_TRACK" 1 1 .rw 1, fu "CSI" 0 0 .rw 1],
    rr "RB_DEM.AFC" 0x48 [fu "COARSE" 31 16 .ro 0, fu "TOTAL" 15 0 .ro 0],
    rr "RB_DEM.SIGNAL" 0x4c [fu "OK" 31 31 .ro 0, fu "HCS" 23 16 .ro 0, fu "LEN" 15 4 .ro 0, fu "FLAG" 3 3 .ro 0, fu "RATE" 2 0 .ro 0],
    rr "RB_DEM.START_LO" 0x50 [fu "TICK" 31 0 .ro 0],
    rr "RB_DEM.START_HI" 0x54 [fu "TICK" 31 0 .ro 0],
    rr "RB_DEM.OUTCOME" 0x58 [fu "FALSE_SYNCS" 11 8 .ro 0, fu "CAPTURED" 7 7 .ro 0, fu "RESTARTED" 6 6 .ro 0, fu "CODE" 3 0 .ro 1],
    rr "RB_DEM.SYNC_CNT" 0x5c [fu "SIGNAL_OK" 31 16 .ro 0, fu "FALSE_HCS" 15 0 .ro 0],
    rr "RB_DEM.SYNC_CNT2" 0x60 [fu "FALSE_TIMING" 31 16 .ro 0, fu "NEWER" 15 0 .ro 0],
    rr "RB_DEM.CAP_CNT" 0x64 [fu "CAPTURED" 31 16 .ro 0, fu "LOST" 15 0 .ro 0],
    rr "RB_DEM.CNT_CLR" 0x68 [fu "CNT" 0 0 .wo 0],
    ri "RB_DEM.CH_EST" 0x100 0x4 14 [fu "I" 31 16 .ro 0, fu "Q" 15 0 .ro 0] ]

/-- Registers of the RB_DEC page (14_return_band_receiver.md and the chapters its rows name). -/
def rowsRbDec : List RegRow :=
  [ rr "RB_DEC.DEC_CFG" 0x40 [fu "SOFT_SCALE" 7 0 .rw 0x20],
    rr "RB_DEC.DEC_STATUS" 0x44 [fu "BUSY" 31 31 .ro 0, fu "RATE" 30 28 .ro 0, fu "LEN" 27 16 .ro 0, fu "SYMBOLS" 12 0 .ro 0],
    rr "RB_DEC.DEC_QUAL" 0x48 [fu "CORRECTED" 31 16 .ro 0, fu "RATIO" 15 0 .ro 0],
    rr "RB_DEC.DEC_CNT" 0x4c [fu "PACKETS" 31 16 .ro 0, fu "SIGNALS" 15 0 .ro 0],
    rr "RB_DEC.DEC_SNAP" 0x50 [fu "PACKETS" 31 16 .ro 0, fu "SIGNALS" 15 0 .ro 0],
    rr "RB_DEC.CNT_CLR" 0x54 [fu "CNT" 0 0 .wo 0] ]

/-- Registers of the RB_TX page (13_return_band_radio.md and the chapters its rows name). -/
def rowsRbTx : List RegRow :=
  [ rr "RB_TX.CTRL" 0x40 [fu "DUR_MS" 31 16 .rw 0xa, fu "STOP" 3 3 .wo 0, fu "TEST" 2 1 .rw 0, fu "GO" 0 0 .wo 0],
    rr "RB_TX.STATUS" 0x44 [fu "STEP" 20 16 .ro 0, fu "CLAMPED" 8 8 .w1c 0, fu "DUTY_FULL" 7 4 .ro 0, fu "TX_ON" 0 0 .ro 0],
    rr "RB_TX.REGION_ID" 0x48 [fu "ID" 31 16 .ro 0, fu "FORMAT" 15 8 .ro 0, fu "LOADED" 0 0 .ro 0],
    ri "RB_TX.DUTYg" 0x50 0x4 4 [fu "WINDOW" 31 16 .ro 0, fu "LIMIT" 15 0 .ro 0],
    ri "RB_TX.DUTY_USEg" 0x60 0x4 4 [fu "USED" 15 0 .ro 0],
    rr "RB_TX.CNT" 0x70 [fu "PACKETS" 31 16 .ro 0, fu "CLAMPS" 15 0 .ro 0],
    rr "RB_TX.CNT2" 0x74 [fu "REGION_REFUSED" 31 16 .ro 0, fu "DUTY_REFUSED" 15 0 .ro 0],
    rr "RB_TX.CNT_CLR" 0x78 [fu "CNT" 0 0 .wo 0],
    ri "RB_TX.CHk" 0x100 0x4 64 [fu "TX_EN" 31 31 .ro 0, fu "GROUP" 25 24 .ro 0, fu "MAX_PWR" 23 16 .ro 0],
    ri "RB_TX.PA" 0x200 0x4 32 [fu "TARGET" 31 24 .ro 0, fu "CORR" 23 16 .ro 0, fu "DRIVE" 15 8 .ro 0, fu "BIAS" 7 0 .ro 0] ]

/-- Registers of the RB_ANT page (13_return_band_radio.md and the chapters its rows name). -/
def rowsRbAnt : List RegRow :=
  [ rr "RB_ANT.MODE" 0x40 [fu "MODE" 1 0 .rws 0],
    rr "RB_ANT.TUNE" 0x44 [fu "CAL_CODE" 7 4 .ro 0, fu "CODE" 3 0 .rw 0],
    rr "RB_ANT.MM_CFG" 0x48 [fu "ACT" 23 22 .rw 0, fu "SAFE_STEP" 20 16 .rw 8, fu "GAMMA_DET" 7 0 .rw 0x80],
    rr "RB_ANT.MM_RESULT" 0x4c [fu "VALID" 31 31 .ro 0, fu "GAMMA" 23 16 .ro 0, fu "PHASE" 15 0 .ro 0],
    rr "RB_ANT.MM_CNT" 0x50 [fu "MISMATCH" 15 0 .ro 0],
    rr "RB_ANT.STATUS" 0x54 [fu "TX_BLOCKED" 2 2 .w1c 0, fu "REDUCED" 1 1 .w1c 0, fu "AERIAL" 0 0 .ro 0],
    rr "RB_ANT.SURV_CNTA" 0x60 [fu "PACKETS" 31 16 .ro 0, fu "CHOSEN" 15 0 .ro 0],
    rr "RB_ANT.SURV_CNTB" 0x64 [fu "PACKETS" 31 16 .ro 0, fu "CHOSEN" 15 0 .ro 0],
    rr "RB_ANT.SURV_LVLA" 0x68 [fu "LEVEL" 31 16 .ro 0x8000, fu "NOISE" 15 0 .ro 0x8000],
    rr "RB_ANT.SURV_LVLB" 0x6c [fu "LEVEL" 31 16 .ro 0x8000, fu "NOISE" 15 0 .ro 0x8000],
    rr "RB_ANT.CNT_CLR" 0x70 [fu "SURV" 1 1 .wo 0, fu "MM" 0 0 .wo 0] ]

/-- Registers of the MBOX page (18_hollyhock_management.md and the chapters its rows name). -/
def rowsMbox : List RegRow :=
  [ rr "MBOX.REQ" 0x40 [fu "CODE" 31 24 .rw 0, fu "ARGS" 23 16 .rw 0, fu "TAG" 15 0 .rw 0],
    rr "MBOX.CTRL" 0x44 [fu "GO" 0 0 .wo 0],
    rr "MBOX.STATE" 0x48 [fu "CODE" 31 24 .ro 0, fu "STATE" 1 0 .ro 3],
    rr "MBOX.REPLY" 0x4c [fu "CODE" 31 24 .ro 0, fu "WORDS" 23 16 .ro 0, fu "ERR" 15 8 .ro 0],
    rr "MBOX.REPLY_TAG" 0x50 [fu "VALUE" 15 0 .ro 0],
    rr "MBOX.NOTIFY_CNT" 0x54 [fu "VALUE" 15 0 .ro 0],
    ri "MBOX.ARG" 0x100 0x4 64 [fu "WORD" 31 0 .rw 0],
    ri "MBOX.RDATA" 0x200 0x4 64 [fu "WORD" 31 0 .ro 0] ]

/-- Registers of the SENS page (18_hollyhock_management.md and the chapters its rows name). -/
def rowsSens : List RegRow :=
  [ ri "SENS.TEMPk" 0x40 0x4 3 [fu "VALID" 31 31 .ro 0, fu "TEMP" 15 0 .ro 0],
    ri "SENS.SUPPLYr" 0x50 0x4 6 [fu "MIN" 31 16 .ro 0xffff, fu "VALUE" 15 0 .ro 0],
    rr "SENS.THERM_CFG" 0x70 [fu "LIMIT" 23 16 .rwl 0x7a, fu "WARN" 7 0 .rwl 0x73],
    rr "SENS.PROT" 0x74 [fu "LEVEL" 31 30 .ro 0, fu "HW_TRIP" 29 29 .ro 0, fu "LATCHED" 28 28 .ro 0, fu "CAP" 11 0 .ro 0x7d0],
    rr "SENS.PROT_CNT" 0x78 [fu "CRIT" 31 24 .ro 0, fu "LIMIT" 23 16 .ro 0, fu "WARN" 15 0 .ro 0],
    rr "SENS.CNT_CLR" 0x7c [fu "CLR" 0 0 .wo 0],
    ri "SENS.COILn_DRV" 0x100 0x8 12 [fu "IRMS" 31 16 .ro 0, fu "VPK" 15 0 .ro 0],
    ri "SENS.COILn_FLD" 0x104 0x8 12 [fu "IRMS" 31 16 .ro 0, fu "VPK" 15 0 .ro 0] ]

/-- Registers of the LOG page (18_hollyhock_management.md and the chapters its rows name). -/
def rowsLog : List RegRow :=
  [ rr "LOG.HEAD" 0x40 [fu "SEQ" 31 0 .ro 0],
    rr "LOG.INFO" 0x44 [fu "COUNT" 28 16 .ro 0, fu "NEXT" 11 0 .ro 0],
    rr "LOG.SEL" 0x48 [fu "INDEX" 11 0 .rw 0],
    rr "LOG.CTRL" 0x4c [fu "KEY" 31 16 .wo 0, fu "CLR" 0 0 .wo 0],
    rr "LOG.FILTER" 0x50 [fu "MIN_SEV" 1 0 .rwl 1],
    rr "LOG.STATUS2" 0x54 [fu "BAD_CNT" 31 16 .ro 0, fu "REC_OK" 0 0 .ro 0],
    ri "LOG.RECw" 0x60 0x4 8 [fu "WORD" 31 0 .ro 0] ]

/-- Registers of the UPD page (18_hollyhock_management.md and the chapters its rows name). -/
def rowsUpd : List RegRow :=
  [ rr "UPD.TARGET" 0x40 [fu "TARGET" 1 0 .rw 0],
    rr "UPD.CTRL" 0x44 [fu "ABORT" 2 2 .wo 0, fu "VERIFY" 1 1 .wo 0, fu "BEGIN" 0 0 .wo 0],
    rr "UPD.STATUS" 0x48 [fu "STATE" 31 24 .ro 0, fu "FAIL" 23 16 .ro 0],
    rr "UPD.OFFSET" 0x4c [fu "OFFSET" 18 0 .ro 0],
    rr "UPD.DATA" 0x50 [fu "WORD" 31 0 .wo 0],
    rr "UPD.DIR" 0x54 [fu "TRIAL_RUN" 5 5 .ro 0, fu "COUNT" 4 4 .ro 0, fu "TRIAL" 3 2 .ro 0, fu "ACTIVE" 1 0 .ro 0],
    rr "UPD.ROLLBACK" 0x58 [fu "COUNTER" 15 0 .ro 0],
    rr "UPD.CONFIRM_CFG" 0x5c [fu "TIMEOUT" 15 0 .rwl 0x3c],
    ri "UPD.SLOTx_VER" 0x60 0x8 2 [fu "VERSION" 31 0 .ro 0],
    ri "UPD.SLOTx_SVN" 0x64 0x8 2 [fu "VALID" 16 16 .ro 0, fu "SVN" 15 0 .ro 0] ]

/-- Registers of the CAL page (03_startup_calibration.md and the chapters its rows name). -/
def rowsCal : List RegRow :=
  [ rr "CAL.REQ" 0x40 [fu "KIND" 31 28 .wo 0, fu "COILS" 27 16 .wo 0],
    rr "CAL.STATUS" 0x44 [fu "BUSY" 31 31 .ro 0, fu "KIND" 27 24 .ro 0, fu "HOLDER" 23 8 .ro 0, fu "ERR" 7 0 .ro 0],
    rr "CAL.COIL_STATUS" 0x48 [fu "COILk" 23 0 .ro 0],
    rr "CAL.REC_INFO" 0x4c [fu "FORMAT" 31 24 .ro 0, fu "TEMP" 23 16 .ro 0, fu "SEQ" 15 0 .ro 0],
    rr "CAL.DRIFT" 0x50 [fu "LIMIT" 7 0 .rw 0x14] ]

/-- Registers of the PINMUX page (02_package_pins_power.md and the chapters its rows name). -/
def rowsPinmux : List RegRow :=
  [ ri "PINMUX.GP_PADn" 0x40 0x4 16 [fu "SCHMITT" 5 5 .rw 1, fu "SLEW" 4 4 .rw 0, fu "DRIVE" 3 2 .rw 1, fu "PULL" 1 0 .rw 1],
    rr "PINMUX.HOST_PAD" 0x80 [fu "QIO_SLEW" 4 4 .rw 1, fu "CTRL_DRIVE" 3 2 .rw 1, fu "QIO_DRIVE" 1 0 .rw 2],
    rr "PINMUX.STRAP" 0x90 [fu "VDDIO_33" 0 0 .ro 0] ]

/-- Registers of the DBG page (20_faults_recovery.md and the chapters its rows name). -/
def rowsDbg : List RegRow :=
  [ rr "DBG.FAULT_SUM" 0x40 [fu "INJECTED" 31 31 .w1c 0, fu "SENSE" 17 17 .w1c 0, fu "TAG" 16 16 .w1c 0, fu "WATCHDOG" 15 15 .w1c 0, fu "RECORD" 14 14 .w1c 0, fu "IMAGE" 13 13 .w1c 0, fu "SUPPLY" 12 12 .w1c 0, fu "THERMAL" 11 11 .w1c 0, fu "REFUSED" 10 10 .w1c 0, fu "SWAP" 9 9 .w1c 0, fu "RADIO" 8 8 .w1c 0, fu "CHECK" 7 7 .w1c 0, fu "OVERRUN" 6 6 .w1c 0, fu "GUARD" 5 5 .w1c 0, fu "LATE" 4 4 .w1c 0, fu "BUDGET" 3 3 .w1c 0, fu "AERIAL" 2 2 .w1c 0, fu "DETUNED" 1 1 .w1c 0, fu "FIELD_LOST" 0 0 .w1c 0],
    rr "DBG.FIRST" 0x44 [fu "VALID" 31 31 .ro 0, fu "CLASS" 28 24 .ro 0, fu "PAGE" 23 16 .ro 0, fu "CODE" 15 8 .ro 0],
    rr "DBG.FIRST_TICK_LO" 0x48 [fu "TICK" 31 0 .ro 0],
    rr "DBG.FIRST_TICK_HI" 0x4c [fu "TICK" 31 0 .ro 0],
    rr "DBG.WDOG" 0x50 [fu "TRIPS" 31 16 .ro 0, fu "HALTED" 0 0 .ro 0],
    rr "DBG.INJECT" 0x54 [fu "KEY" 31 16 .wo 0, fu "KIND" 15 12 .wo 0, fu "ARG" 11 0 .wo 0],
    rr "DBG.CNT_CLR_ALL" 0x58 [fu "KEY" 31 16 .wo 0, fu "GO" 0 0 .wo 0],
    rr "DBG.CONSOLE" 0x5c [fu "DROPPED" 8 1 .ro 0, fu "EN" 0 0 .rw 0] ]

/-- The register tables of a page (R129, R130). -/
def rowsOf (p : Nat) : List RegRow :=
  if p = 0x0 then rowsSys
  else if p = 0x1 then rowsClk
  else if p = 0x2 then rowsPwr
  else if p = 0x3 then rowsRst
  else if p = 0x4 then rowsHif
  else if p = 0x5 then rowsQueue
  else if p = 0x6 then rowsEvf
  else if p = 0x7 then rowsEvfLut
  else if p = 0x8 then rowsFtbA ++ rowsFtbB
  else if p = 0x9 then rowsCvu
  else if p = 0xa then rowsSess
  else if p = 0xb then rowsLsp
  else if 0xc ≤ p ∧ p ≤ 0xf then rowsFe
  else if 0x10 ≤ p ∧ p ≤ 0x1b then rowsCoilA ++ rowsCoilB
  else if p = 0x1c then rowsFwgt
  else if p = 0x1d then rowsCrocus
  else if p = 0x1e then rowsTagc
  else if p = 0x1f then rowsRbSyn
  else if p = 0x20 then rowsRbRx
  else if p = 0x21 then rowsRbDem
  else if p = 0x22 then rowsRbDec
  else if p = 0x23 then rowsRbTx
  else if p = 0x24 then rowsRbAnt
  else if p = 0x25 then rowsMbox
  else if p = 0x26 then rowsSens
  else if p = 0x27 then rowsLog
  else if p = 0x28 then rowsUpd
  else if p = 0x29 then rowsCal
  else if p = 0x2a then rowsPinmux
  else if p = 0x2b then rowsDbg
  else []

/-- Whether a row covers the offset `o` (a multiple of 4). -/
def RegRow.covers (r : RegRow) (o : Nat) : Bool :=
  decide (r.off ≤ o) && decide ((o - r.off) / r.s1 < r.c1) &&
    decide ((o - r.off) % r.s1 % r.s2 = 0) && decide ((o - r.off) % r.s1 / r.s2 < r.c2)

/-- The row that gives the register at byte address `a`, if one does; no row: a reserved offset (R9) or an unmapped
address (R131). Rows of the common header have no entry here. -/
def rowAt (a : Nat) : Option RegRow := (rowsOf (a / 0x1000)).find? (fun r => r.covers (a % 0x1000))

/-- The bits of a field, in place. -/
def Field.mask (f : Field) : Nat := (2 ^ (f.hi + 1 - f.lo) - 1) <<< f.lo

/-- The bits of a row's fields that satisfy `p`. -/
def RegRow.maskOf (r : RegRow) (p : Field → Bool) : Word :=
  BitVec.ofNat 32 (r.fields.foldl (fun m f => if p f then m ||| f.mask else m) 0)

/-- The word a register of this row holds at reset (R10). -/
def RegRow.resetWord (r : RegRow) : Nat := r.fields.foldl (fun m f => m ||| (f.reset <<< f.lo)) 0

/-- IRQ_EN resets to 0 but where a chapter states otherwise: RST (R93), MBOX (R447), PWR (R468), DBG (R481). -/
def irqEnReset (p : Nat) : Nat :=
  if p = Page.rst then 3 else if p = Page.mbox ∨ p = Page.pwr then 1 else if p = Page.dbg then 2 else 0

/-- Pages 0x00–0x2B exist (R129). -/
def pageExists (p : Nat) : Bool := decide (p ≤ 0x2b)

/-- The INSTANCE field of PAGE_ID: n on FEn and COILn (R133). -/
def pageInstance (p : Nat) : Nat :=
  if 0xc ≤ p ∧ p ≤ 0xf then p - 0xc else if 0x10 ≤ p ∧ p ≤ 0x1b then p - 0x10 else 0

/-- Pages that cannot be disabled or quiesced: SYS, RST and HIF (R134). -/
def pageFixed (p : Nat) : Bool := decide (p = Page.sys ∨ p = Page.rst ∨ p = Page.hif)

/-- Reset words of the common header (R133, R134, R136–R138). A header register not named here resets to 0. CTRL.EN,
whose reset the spec gives as "cal", is 0 here but on the pages of R134, where it reads 1 (log entry 3). -/
def headerReset (p o : Nat) : Nat :=
  if o = 0x0 then 0x44800000 + pageInstance p * 256 + p
  else if o = 0x4 then 0x00010000
  else if o = 0x8 then (if pageFixed p then 1 else 0)
  else if o = 0x14 then irqEnReset p
  else if o = 0x24 then (if p = Page.rst ∨ p = Page.hif ∨ p = Page.pinmux then 0 else 1)
  else 0

/-- The words of R217: PROF0 holds HF-SC and PROF1 holds KEY-SCS. -/
def profileReset (o : Nat) : Nat :=
  if o = 0xa0 then 0x00000307 else if o = 0xa4 then 0x00000303 else if o = 0xa8 then 0
  else if o = 0xb0 then 0x01000f0f else if o = 0xb4 then 0x01000f0f else if o = 0xb8 then 0x01023f3f else 0

/-- The word every register holds at reset, by byte address: the Reset column of its table (R10), the common header's
values, the indexed defaults of LSP.PLk_SLOTA and PLk_SLOTB (R314) and the profiles of R217. An address that no table
covers reads 0 (R9, R131). -/
def regReset (a : Nat) : Word :=
  let p := a / 0x1000
  let o := a % 0x1000
  if !pageExists p then 0
  else if o < 0x40 then wd (headerReset p o)
  else if p = Page.lsp ∧ 0x100 ≤ o ∧ o % 0x40 = 0x08 ∧ o < 0x300 then wd (1024 * ((o - 0x100) / 0x40) + 512 <<< 16)
  else if p = Page.lsp ∧ 0x100 ≤ o ∧ o % 0x40 = 0x0c ∧ o < 0x300 then
    wd (1024 * ((o - 0x100) / 0x40) + 512 + 512 <<< 16)
  else if 0x10 ≤ p ∧ p ≤ 0x1b ∧ 0xa0 ≤ o ∧ o < 0xbc then wd (profileReset o)
  else
    match rowAt a with
    | some r => wd r.resetWord
    | none => 0

/-- Whether the register at `a` has a staged field (R145). -/
def hasStaged (a : Nat) : Bool :=
  match rowAt a with
  | some r => r.fields.any (fun f => f.staged)
  | none => false

/-- Whether a page holds any staged field (R145). -/
def pageStaged (p : Nat) : Bool := (rowsOf p).any (fun r => r.fields.any (fun f => f.staged))

end Sys2Proof.Machine
end

