-- ==== Sys2Proof/Machine/Trellis.lean ====
section
/-! DEFINITION. The Opkar packet code (14_return_band_receiver, R344–R346, R358, R359): rates, symbols, interleaving, puncturing,
scrambling, the header check, the convolutional code and the 64-state trellis decoder. -/

namespace Sys2Proof.Machine

/-! ## Rates and lengths (R345) -/

/-- Data bits per symbol of a RATE. -/
def rateBits (r : Nat) : Nat := [6, 8, 9, 12, 16, 18].getD r 6
/-- Whether a RATE is QPSK. -/
def rateQpsk (r : Nat) : Bool := decide (3 ≤ r)
/-- Coded bits per symbol of a RATE. -/
def rateCoded (r : Nat) : Nat := if rateQpsk r then 24 else 12
/-- N_SYM of a packet. -/
def nSym (r len : Nat) : Nat := (8 * len + 6 + rateBits r - 1) / rateBits r
/-- The length of a packet in thirds of a tick: 6,400/3 ft a symbol period. -/
def packetThirds (r len : Nat) : Nat := 6400 * (8 + nSym r len)

/-! ## The code (R346) -/

/-- The parity of a number's bits. -/
def parity (n : Nat) : Bool := ((List.range 7).filter (fun k => n.testBit k)).length % 2 == 1

/-- The two coded bits of an encoder in state `st` (the last six inputs, the latest in bit 5) taking `b`; the generators' most
significant bit is the present input (DEDUCED, log entry 41). -/
def coded (st : Nat) (b : Bool) : Bool × Bool :=
  let reg := b.toNat * 64 + st
  (parity (reg &&& 0o133), parity (reg &&& 0o171))

/-- The encoder's next state. -/
def codeNext (st : Nat) (b : Bool) : Nat := (b.toNat * 64 + st) / 2

/-- Whether output A (first) and B of the `j`-th input bit of a symbol are sent (R346). -/
def kept (r j : Nat) : Bool × Bool :=
  if r % 3 = 1 then (true, j % 2 == 0)
  else if r % 3 = 2 then (j % 3 != 2, j % 3 != 1)
  else (true, true)

/-- Coded bit `k` of a symbol goes to this position among its received values (R346): data subcarriers in order, I before Q. -/
def codedAt (qpsk : Bool) (k : Nat) : Nat :=
  if qpsk then 2 * (3 * (k / 2 % 4) + k / 2 / 4) + k % 2 else 3 * (k % 4) + k / 4

/-! ## Soft values (R358) -/

/-- The soft values of one symbol in the order of its coded bits, dropped positions as 0: a pair for each input bit. -/
def symbolPairs (r : Nat) (vals : List Int) : List (Int × Int) :=
  ((List.range (rateBits r)).foldl (fun (a : Nat × List (Int × Int)) j =>
    let kp := kept r j
    let va := if kp.1 then vals.getD (codedAt (rateQpsk r) a.1) 0 else 0
    let k1 := a.1 + kp.1.toNat
    let vb := if kp.2 then vals.getD (codedAt (rateQpsk r) k1) 0 else 0
    (k1 + kp.2.toNat, a.2 ++ [(va, vb)])) (0, [])).2

/-- The soft values of `n` symbols. -/
def allPairs (r n : Nat) (vals : List Int) : List (Int × Int) :=
  (List.range n).flatMap (fun i => symbolPairs r ((vals.drop (rateCoded r * i)).take (rateCoded r)))

/-! ## The trellis decoder (R359) -/

/-- The metric of a branch: values of the sign of its coded bits count for it. -/
def branchMetric (st : Nat) (b : Bool) (v : Int × Int) : Int :=
  let c := coded st b
  (if c.1 then v.1 else -v.1) + (if c.2 then v.2 else -v.2)

/-- The predecessor of state `n` by the bit that leaves the encoder. -/
def predState (n : Nat) (x : Bool) : Nat := n % 32 * 2 + x.toNat

/-- One trellis step: for each state its metric and which predecessor it kept. Of two equal ones it keeps either (free). -/
def trellisStep (tie : Nat → Bool) (m : List Int) (v : Int × Int) : List (Int × Bool) :=
  (List.range 64).map (fun n =>
    let b := decide (32 ≤ n)
    let a0 := m.getD (predState n false) 0 + branchMetric (predState n false) b v
    let a1 := m.getD (predState n true) 0 + branchMetric (predState n true) b v
    if a0 = a1 then (a0, tie n) else if a0 < a1 then (a1, true) else (a0, false))

/-- Runs the trellis over soft values: the final metrics and the decisions, latest first. -/
def trellisRun (tie : Nat → Nat → Bool) (m : List Int) (vs : List (Int × Int)) : List Int × List (List Bool) :=
  vs.foldl (fun a v =>
    let r := trellisStep (tie a.2.length) a.1 v
    (r.map Prod.fst, r.map Prod.snd :: a.2)) (m, [])

/-- Traces back from a state through decisions, latest first: the input bits, earliest first. -/
def traceback (st : Nat) (ds : List (List Bool)) : List Bool :=
  (ds.foldl (fun (a : Nat × List Bool) d => (predState a.1 (d.getD a.1 false), decide (32 ≤ a.1) :: a.2)) (st, [])).2

/-- A state with the best metric; of equal ones either (free). -/
def bestState (pick : Nat → Bool) (m : List Int) : Nat :=
  let top := m.foldl max (m.headD 0)
  match (List.range 64).filter (fun n => decide (m.getD n 0 = top)) with
  | [] => 0
  | b :: r => r.foldl (fun b n => if pick n then n else b) b

/-- The 24 bits of SIGNAL (R359): three times around the circle, the second pass kept. -/
def decodeSignal (tie : Nat → Nat → Bool) (vs : List (Int × Int)) : List Bool :=
  let r := trellisRun tie (List.replicate 64 0) (vs ++ vs ++ vs)
  ((traceback (bestState (tie 72) r.1) r.2).drop vs.length).take vs.length

/-- The bits of DATA (R359): each decided by a traceback of 48 steps, the last ones from state 0 after the tail. -/
def decodeData (tie : Nat → Nat → Bool) (vs : List (Int × Int)) : List Bool :=
  let start : List Int := 0 :: List.replicate 63 (-100000000)
  let r := vs.foldl (fun (a : List Int × List (List Bool) × List Bool) v =>
    let step := trellisStep (tie a.2.1.length) a.1 v
    let m := step.map Prod.fst
    let ds := step.map Prod.snd :: a.2.1
    if 48 < ds.length then
      (m, ds.take 48, a.2.2 ++ (traceback (bestState (tie 48) m) (ds.take 49)).take 1)
    else (m, ds, a.2.2)) (start, [], [])
  r.2.2 ++ traceback 0 r.2.1

/-! ## Scrambling, bytes and checks (R344, R346) -/

/-- The scrambler x^7 + x^4 + 1 from state 0x7F. -/
def scramble (l : List Bool) : List Bool :=
  (l.foldl (fun (a : Nat × List Bool) b =>
    let x := a.1.testBit 6 != a.1.testBit 3
    ((a.1 * 2 + x.toNat) % 128, a.2 ++ [b != x])) (0x7f, [])).2

/-- The value of bits, the first least significant. -/
def lsbValue (l : List Bool) : Nat := l.foldr (fun b v => b.toNat + 2 * v) 0

/-- Bytes from bits in the order sent, the first in bit 0 (DEDUCED, log entry 41). -/
def bytesOfBits (n : Nat) (l : List Bool) : List Byte :=
  (List.range n).map (fun i => BitVec.ofNat 8 (lsbValue ((l.drop (8 * i)).take 8)))

/-- HCS over bits in the order sent: CRC-8 with polynomial 0x1D, initial value and final XOR 0xFF. -/
def hcsOf (l : List Bool) : Nat :=
  (l.foldl (fun c b => let d := c * 2; if (c.testBit 7) != b then (d % 256) ^^^ 0x1d else d % 256) 0xff) ^^^ 0xff

/-- A decoded SIGNAL field. -/
structure Signal where
  rate : Nat
  flag : Bool
  len : Nat
  hcs : Nat
  ok : Bool
  deriving DecidableEq, Repr

/-- SIGNAL from its 24 bits (R344); bit 16 is the HCS's most significant. -/
def signalOf (l : List Bool) : Signal :=
  let h := (l.drop 16).foldl (fun v b => 2 * v + b.toNat) 0
  ⟨lsbValue (l.take 3), l.getD 3 false, lsbValue ((l.drop 4).take 12), h, h == hcsOf (l.take 16)⟩

/-- How many coded positions disagree in sign with a non-zero soft value once the decisions are coded again (R359). -/
def disagree (vs : List (Int × Int)) (bits : List Bool) : Nat :=
  ((vs.zip bits).foldl (fun (a : Nat × Nat) p =>
    let c := coded a.1 p.2
    let one := fun (v : Int) (b : Bool) => if v = 0 then 0 else if decide (0 < v) != b then 1 else 0
    (codeNext a.1 p.2, a.2 + one p.1.1 c.1 + one p.1.2 c.2)) (0, 0)).2

end Sys2Proof.Machine
end

