-- ==== Sys2Proof/Machine/Packet.lean ====
section
/-! DEFINITION. The Opkar packet as it is sent (14_return_band_receiver, R342–R346): its training fields, the code, the symbols and
their bins, and its baseband samples. -/

namespace Sys2Proof.Machine

/-! ## Training (R342, R343) -/

/-- S[k]: the tones of the short symbol, k × 101.7 kHz, each with its real and imaginary part (R343). -/
def shortTones : List (Int × (Int × Int)) :=
  [(-4, 0, -1), (-3, -1, 0), (-2, 0, -1), (-1, 1, 0), (1, 1, 0), (2, 0, 1), (3, -1, 0), (4, 0, 1)]

/-- L[b]: the bins of the long symbol (R343). -/
def longBins : List (Int × Int) :=
  [(-7, 1), (-6, 1), (-5, -1), (-4, 1), (-3, -1), (-2, -1), (-1, 1), (1, 1), (2, -1), (3, 1), (4, 1), (5, -1), (6, -1), (7, -1)]

/-- The channel taps H[b] = (Y1[b] + Y2[b]) / (2 × L[b]) of the two long symbols, bin after bin (R357). -/
def tapsOf (y1 y2 : List (Int × Int)) : List (Int × Int) :=
  (List.range 14).map (fun i =>
    let l := (longBins.getD i (0, 1)).2
    let a := y1.getD i (0, 0)
    let b := y2.getD i (0, 0)
    (openDiv (l * (a.1 + b.1)) 2, openDiv (l * (a.2 + b.2)) 2))

/-! ## The symbols of a packet (R344–R346) -/

/-- The coded bits of one symbol's data bits, from encoder state `st`, and the state after it. -/
def codeSymbol (r st : Nat) (l : List Bool) : Nat × List Bool :=
  (l.foldl (fun (a : Nat × Nat × List Bool) b =>
    let c := coded a.2.1 b
    let kp := kept r a.1
    (a.1 + 1, codeNext a.2.1 b, a.2.2 ++ (if kp.1 then [c.1] else []) ++ (if kp.2 then [c.2] else []))) (0, st, [])).2

/-- The values of a symbol's data subcarriers d = 0–11, ±1 on I and, with QPSK, on Q (R346). -/
def mapped (qpsk : Bool) (code : List Bool) : List (Int × Int) :=
  let one := fun p =>
    let k := ((List.range (if qpsk then 24 else 12)).find? (fun k => codedAt qpsk k == p)).getD 0
    if code.getD k false then (1 : Int) else -1
  (List.range 12).map (fun d => if qpsk then (one (2 * d), one (2 * d + 1)) else (one d, 0))

/-- The symbols of bits that fill `n` of them, from encoder state `st` (R346). -/
def symbolsOf (r : Nat) : Nat → Nat → List Bool → List (List (Int × Int))
  | 0, _, _ => []
  | n + 1, st, l =>
    let c := codeSymbol r st (l.take (rateBits r))
    mapped (rateQpsk r) c.2 :: symbolsOf r n c.1 (l.drop (rateBits r))

/-- The 24 bits of SIGNAL (R344). -/
def signalBits (r : Nat) (flag : Bool) (len : Nat) : List Bool :=
  let a := (List.range 3).map r.testBit ++ [flag] ++ (List.range 12).map len.testBit
  a ++ (List.range 8).map (fun i => (hcsOf a).testBit (7 - i))

/-- The bits of DATA, scrambled, the six tail bits 0 (R345, R346). -/
def dataFieldBits (r : Nat) (l : List Byte) : List Bool :=
  let n := 8 * l.length
  let b := scramble ((l.flatMap (fun x => (List.range 8).map x.getLsbD)) ++
    List.replicate (nSym r l.length * rateBits r - n) false)
  b.take n ++ List.replicate 6 false ++ b.drop (n + 6)

/-- The encoder's state after bits. -/
def codeState (l : List Bool) : Nat := l.foldl codeNext 0

/-- A packet to send: RATE and the data subcarriers of its SIGNAL and data symbols. -/
structure AirPacket where
  rate : Nat
  symbols : List (List (Int × Int))
  deriving DecidableEq, Repr

/-- The packet of a frame (R344–R346): SIGNAL starts tail-biting, from its bits 18–23. -/
def packetOf (r : Nat) (flag : Bool) (l : List Byte) : AirPacket :=
  let g := signalBits r flag l.length
  ⟨r, symbolsOf 0 4 (codeState (g.drop 18)) g ++ symbolsOf r (nSym r l.length) 0 (dataFieldBits r l)⟩

/-! ## Samples (R342) -/

/-- The sum of tones at `n` of `t` samples a turn, times 2^40. -/
def toneSum (l : List (Int × (Int × Int))) (n t : Nat) : Int × Int :=
  let turn := 4 * t
  l.foldl (fun a x =>
    let c := cosStep (4 * x.1 * (n : Int)) turn
    let d := sinStep (4 * x.1 * (n : Int)) turn
    (a.1 + x.2.1 * c - x.2.2 * d, a.2 + x.2.1 * d + x.2.2 * c)) (0, 0)

/-- A sum scaled by √(p / q), to 2^-20. -/
def scaled (p q : Nat) (v : Int × Int) : Int × Int :=
  let k : Int := isqrt (p * 2 ^ 40 / q)
  (roundHalf (v.1 * k) (2 ^ 20), roundHalf (v.2 * k) (2 ^ 20))

/-- The bins of symbol `n` of a packet, counted from the first SIGNAL symbol: the data subcarriers, scaled to unit power, and the pilots of
R346. -/
def symbolSum (p : AirPacket) (n m : Nat) : Int × Int :=
  let bins : List Int := [-7, -6, -4, -3, -2, -1, 1, 2, 3, 4, 6, 7]
  let v := toneSum (bins.zip (p.symbols.getD n [])) m 16
  let d := if 4 ≤ n ∧ rateQpsk p.rate then scaled 1 2 v else v
  let sgn : Int := if n % 2 = 0 then 1 else -1
  let q := toneSum [(-5, sgn, 0), (5, -sgn, 0)] m 16
  (d.1 + q.1, d.2 + q.2)

/-- Sample `n` of a packet (R342), in units in which a bin of unit power has amplitude 2^40: every field has the mean power of the data
symbols, 14 bins (R343). -/
def AirPacket.sample (p : AirPacket) (n : Nat) : Int × Int :=
  let long := longBins.map (fun b => (b.1, (b.2, (0 : Int))))
  if n < 40 then scaled 14 8 (toneSum shortTones (n % 10) 10)
  else if n < 48 then toneSum long (n - 32) 16
  else if n < 80 then toneSum long ((n - 48) % 16) 16
  else symbolSum p ((n - 80) / 20) (((n - 80) % 20 + 12) % 16)

end Sys2Proof.Machine
end

