-- ==== Sys2Proof/Machine/Baseband.lean ====
section
/-! DEFINITION. What the receiver computes from baseband samples (14_return_band_receiver, R340, R347, R348, R350, R351, R354, R357–R359):
powers and ratios in quarters of a dB, the lag-10 autocorrelation, the offsets, the correlation with the long symbol, the channel taps, the
metrics and their soft values. Samples are complex integers at the RB_RFIN ball, 2^24 being the amplitude of 0 dBm (log entry 116). -/

namespace Sys2Proof.Machine

/-- The tick of baseband sample `m` (R176): the last whole one at or before it. -/
def sampleTick (m : Nat) : Nat := 320 * m / 3
/-- The number of the first baseband sample at or after a tick (R17, R176). -/
def sampleNo (t : Nat) : Nat := (3 * t + 319) / 320
/-- The tick of the first baseband sample at or after a tick (R17, R176). -/
def sampleAt (t : Nat) : Nat := sampleTick (sampleNo t)

/-! ## Ratios in dB -/

/-- Whether the power ratio p / q is at least `x` quarters of a dB: (p / q)^40 ≥ 10^x. -/
def dbAtLeast (p q : Nat) (x : Int) : Bool :=
  if 0 ≤ x then decide (q ^ 40 * 10 ^ x.toNat ≤ p ^ 40) else decide (q ^ 40 ≤ p ^ 40 * 10 ^ (-x).toNat)

/-- Whether the power ratio p / q is above `x` quarters of a dB. -/
def dbAbove (p q : Nat) (x : Int) : Bool := !dbAtLeast q p (-x)

/-- The last whole quarter of a dB at or below the power ratio p / q, within ±512 dB. -/
def dbFloor (p q : Nat) : Int :=
  (List.range 12).reverse.foldl (fun r k => if dbAtLeast p q (r + ((2 ^ k : Nat) : Int)) then r + ((2 ^ k : Nat) : Int) else r) (-2048)

/-- The power ratio p / q in quarters of a dB, between two of them one of them (log entry 30); a ratio of which either side is 0 has a value that the manual
does not state. -/
def dbOf (p q : Nat) : Int :=
  if p = 0 ∨ q = 0 then Config.dbOpen p q
  else if dbAtLeast q p (-(dbFloor p q)) then dbFloor p q
  else dbFloor p q + (Config.roundsUp p q).toNat

/-- 10^(x / 80) times 2^44, rounded down: the amplitude ratio of `x` quarters of a dB, below 2^60. -/
def dbAmp (x : Int) : Nat :=
  (List.range 60).reverse.foldl (fun r k =>
    let c := r + 2 ^ k
    if (if 0 ≤ x then decide (c ^ 80 ≤ 10 ^ x.toNat * 2 ^ 3520) else decide (c ^ 80 * 10 ^ (-x).toNat ≤ 2 ^ 3520)) then c else r) 0

/-- The power of 0 dBm in the units of a sample's square. -/
abbrev dbmUnit : Nat := 2 ^ 48

/-! ## Sums over samples -/

/-- The product x × conj(y). -/
def mulConj (x y : Int × Int) : Int × Int := (x.1 * y.1 + x.2 * y.2, x.2 * y.1 - x.1 * y.2)

/-- |x|². -/
def normSq (x : Int × Int) : Nat := (x.1 * x.1 + x.2 * x.2).toNat

/-- The energy of samples: Σ|r|². -/
def energy (l : List (Int × Int)) : Nat := (l.map normSq).sum

/-- The sum of complex numbers. -/
def sumC (l : List (Int × Int)) : Int × Int := l.foldl (fun a x => (a.1 + x.1, a.2 + x.2)) (0, 0)

/-- Mean power of samples, in 0.25 dBm (R340: at the ball). -/
def powerOf (l : List (Int × Int)) : Int := dbOf (energy l) (l.length * dbmUnit)

/-! ## The lag-10 autocorrelation (R347) -/

/-- The lag-10 autocorrelation C and the energy Σ|r|² of the `win` samples that end `back` samples before the end of `l`, the latest sample last. -/
def lag10 (win back : Nat) (l : List (Int × Int)) : (Int × Int) × Nat :=
  let r := l.reverse.drop back
  (sumC ((r.take win).zip ((r.drop 10).take win) |>.map (fun p => mulConj p.1 p.2)), energy (r.take win))

/-- Whether ρ = |C| / Σ|r|² reaches `thr` / 256. -/
def rhoReaches (thr : Nat) (c : (Int × Int) × Nat) : Bool :=
  decide (0 < c.2 ∧ thr * thr * (c.2 * c.2) ≤ 65536 * normSq c.1)

/-- WIN of DET_CFG as it acts (R362): 8–24. -/
def detWin (cfg : Word) : Nat := max 8 (min 24 (fld cfg 4 0))
/-- HOLD of DET_CFG as it acts (R362): 0 acts as 1. -/
def detHold (cfg : Word) : Nat := max 1 (fld cfg 19 16)

/-- Whether ρ reaches THR / 256 on HOLD consecutive samples, the latest the last of `l` (R347). -/
def rhoHeld (cfg : Word) (l : List (Int × Int)) : Bool :=
  (List.range (detHold cfg)).all (fun b => rhoReaches (fld cfg 31 24) (lag10 (detWin cfg) b l))

/-- Whether |C| compares with a strength |C0| as `f` says on HOLD consecutive samples (R354). -/
def strengthHeld (cfg : Word) (l : List (Int × Int)) (f : Nat → Bool) : Bool :=
  (List.range (detHold cfg)).all (fun b => f (normSq (lag10 (detWin cfg) b l).1))

/-- The phase of C over 10 samples as an offset in 10 Hz: arg(C) / (2π × 10 samples), within ±50.85 kHz (R350). -/
def coarseOf (c : Int × Int) : Int := openDiv (phaseOf c.1 c.2 * 10170) 65536

/-! ## Long training (R343, R350, R351, R357) -/

/-- A sample turned back by an offset in 10 Hz, `n` samples after the reference of the turn. -/
def turnBack (offset : Int) (n : Nat) (r : Int × Int) : Int × Int :=
  let c := cosStep (offset * n) 101700
  let d := sinStep (offset * n) 101700
  (roundHalf (r.1 * c + r.2 * d) trigOne, roundHalf (r.2 * c - r.1 * d) trigOne)

/-- Samples from packet sample `n` on, turned back by an offset. -/
def turnAll (offset : Int) (n : Nat) (l : List (Int × Int)) : List (Int × Int) :=
  (l.zip (List.range l.length)).map (fun p => turnBack offset (n + p.2) p.1)

/-- Sample `k` of the long symbol (R343), to 2^-14 of a bin. -/
def longSample (k : Nat) : Int × Int :=
  let v := toneSum (longBins.map (fun b => (b.1, (b.2, (0 : Int))))) k 16
  (roundHalf v.1 (2 ^ 26), roundHalf v.2 (2 ^ 26))

/-- Whether 16 samples reach half of the autocorrelation energy against the long symbol (R351): |Σ r × conj(l)|² against Σ|r|² × Σ|l|². -/
def longPeak (l : List (Int × Int)) : Bool :=
  let s := (List.range 16).map longSample
  decide (l.length = 16 ∧ 0 < energy l ∧
    energy l * energy s ≤ 2 * normSq (sumC ((l.zip s).map (fun p => mulConj p.1 p.2))))

/-- The residual after the coarse correction, in 10 Hz, from the phase between the two long symbols at lag 16, within ±31.78 kHz (R350). -/
def fineOf (coarse : Int) (l : List (Int × Int)) : Int :=
  let x := turnAll coarse 48 (l.take 32)
  let f := sumC (((x.drop 16).zip (x.take 16)).map (fun p => mulConj p.1 p.2))
  openDiv (phaseOf f.1 f.2 * 25425) (4 * 65536)

/-- The active bins (R342). -/
abbrev activeBins : List Int := [-7, -6, -5, -4, -3, -2, -1, 1, 2, 3, 4, 5, 6, 7]

/-- The 14 active bins of 16 samples, scaled so that a signal whose samples have rms A has bins of rms A (R342, R357). -/
def binsOf (l : List (Int × Int)) : List (Int × Int) :=
  activeBins.map (fun b =>
    let v := (l.zip (List.range 16)).foldl (fun (a : Int × Int) p =>
      let c := cosStep (b * p.2) 16
      let d := sinStep (b * p.2) 16
      (a.1 + p.1.1 * c + p.1.2 * d, a.2 + p.1.2 * c - p.1.1 * d)) (0, 0)
    scaled 14 256 (roundHalf v.1 trigOne, roundHalf v.2 trigOne))

/-- |Y1 + Y2|² and |Y1 − Y2|², summed over the bins (R357). -/
def snrPair (y1 y2 : List (Int × Int)) : Nat × Nat :=
  (energy ((y1.zip y2).map (fun p => (p.1.1 + p.2.1, p.1.2 + p.2.2))), energy ((y1.zip y2).map (fun p => (p.1.1 - p.2.1, p.1.2 - p.2.2))))

/-- A tap as CH_EST shows it, `gain` quarters of a dB from the ball to the target level: 0x4000 is 1.0 there (R357, R363). -/
def tapShow (gain : Int) (h : Int × Int) : Word :=
  let k := dbAmp gain
  let one := fun v : Int => satInt 16 (openDiv (v * k) (2 ^ 54))
  wd (unsigned 16 (one h.1) * 65536 + unsigned 16 (one h.2))

/-! ## Metrics and soft values (R346, R357, R358) -/

/-- The common phase of symbol `n`, counted from the first SIGNAL symbol: Σ Y[b] × conj(H[b] × P_n[b]) over the two pilot bins. -/
def pilotSum (n : Nat) (y h : List (Int × Int)) : Int × Int :=
  let sgn : Int := if n % 2 = 0 then 1 else -1
  let one := fun (i : Nat) (p : Int) => let m := mulConj (y.getD i (0, 0)) (h.getD i (0, 0)); (p * m.1, p * m.2)
  sumC [one 2 sgn, one 11 (-sgn)]

/-- The places of the data subcarriers d = 0–11 among the active bins (R342). -/
abbrev dataPlaces : List Nat := [0, 1, 3, 4, 5, 6, 7, 8, 9, 10, 12, 13]

/-- rms of |H| over the data bins, times 2^8. -/
def tapRms (h : List (Int × Int)) : Nat := isqrt (energy (dataPlaces.map (fun i => h.getD i (0, 0))) * 65536 / 12)

/-- A soft value (R358): num / den × SOFT_SCALE / 16, rounded and clamped to 4 bits; without a denominator the manual states no value. -/
def softOf (scale : Nat) (num : Int) (den : Nat) : Int :=
  max (-8) (min 7 (if den = 0 then Config.metricOpen num else roundHalf (num * (max 1 scale : Nat)) (16 * den)))

/-- What the metrics of a packet rest on: EQ_CFG, SOFT_SCALE, σ times 2^20 and the taps. -/
structure Equal where
  eq : Word
  scale : Nat
  sigma : Nat
  taps : List (Int × Int)
  deriving DecidableEq, Repr

/-- The soft values of symbol `n`, data subcarrier after data subcarrier, I before Q with QPSK, from its bins (R358). -/
def softSymbol (e : Equal) (qpsk : Bool) (n : Nat) (y : List (Int × Int)) : List Int :=
  let p := pilotSum n y e.taps
  let turn := bit e.eq 1 && p != (0, 0)
  let mag := if turn then isqrt (normSq p) else 1
  dataPlaces.flatMap (fun i =>
    let h := e.taps.getD i (0, 0)
    let v := mulConj (y.getD i (0, 0)) h
    let z := if turn then mulConj v p else v
    let d := if bit e.eq 0 then tapRms e.taps else isqrt (normSq h * 65536)
    let den := mag * e.sigma * d
    let one := fun x : Int => softOf e.scale (x * 2 ^ 28) den
    if qpsk then [one z.1, one z.2] else [one z.1])

/-- The soft values of the symbols `n`, `n` + 1, … whose samples, 20 to a symbol with the cyclic prefix first, are `l`, from packet sample `at_` on, with the
packet's offset taken back. -/
def softSymbols (e : Equal) (qpsk : Bool) (offset : Int) (count n at_ : Nat) (l : List (Int × Int)) : List Int :=
  (List.range count).flatMap (fun j =>
    let x := turnAll offset (at_ + 20 * j + 4) ((l.drop (20 * j + 4)).take 16)
    softSymbol e qpsk (n + j) (binsOf x))

end Sys2Proof.Machine
end

