-- ==== Sys2Proof/Machine/Envelope.lean ====
section
/-! DEFINITION. The envelope of a field engine's frame (10_hf_air_interfaces, R245–R251): its low intervals in carrier cycles from the
start of the frame, and its reference tick. -/

namespace Sys2Proof.Machine

/-- A low interval of an envelope: its first carrier cycle, its length in carrier cycles, and whether it is a 10 % level (entry
MOD10) or a pause (entry MOD100). -/
structure Low where
  first : Nat
  len : Nat
  ten : Bool
  deriving DecidableEq, Repr

/-- A frame on air as its encoder needs it: the standard, DS of R264, the pause of 14443-A in cc, the valid bits of the last byte (0 for
8), whether it is an EOF-only frame, and every byte on air. -/
structure Wave where
  std : Nat
  ds : Nat
  pause : Nat
  last : Nat
  eof : Bool
  bytes : List Byte
  deriving DecidableEq, Repr

/-- The bit period of 14443 and 18092 at a rate, in cc (R245). -/
def bitCc (rate : Nat) : Nat := 128 >>> rate

/-- The bits of a byte, least significant first. -/
def byteBits (b : Byte) : List Bool := (List.range 8).map (fun i => b.getLsbD i)

/-- The bits of bytes, first bit first. -/
def bytesBits (l : List Byte) : List Bool := l.flatMap byteBits

/-! ## 14443-A (R247) -/

/-- The odd-parity bit of a byte. -/
def oddParity (b : Byte) : Bool := ((List.range 8).filter (fun i => b.getLsbD i)).length % 2 == 0

/-- The data and parity bits of a 14443-A frame and its last bit (R247): a parity bit follows each whole byte. -/
def aBits (last : Nat) (l : List Byte) : Nat × Bool :=
  let b := l.getLastD 0
  if last = 0 then (9 * l.length, oddParity b) else (9 * (l.length - 1) + last, b.getLsbD (last - 1))

/-- The data and parity bits of a 14443-A frame, in the order on air. -/
def aBitList (last : Nat) : List Byte → List Bool
  | [] => []
  | [b] => if last = 0 then byteBits b ++ [oddParity b] else (byteBits b).take last
  | b :: l => byteBits b ++ oddParity b :: aBitList last l

/-- The pauses of bit periods of `p` cc from `at_` on, by the modified Miller rule: sequence X for a 1, Z for a 0 after a 0, Y for a 0
after a 1; `prev` is the bit before. -/
def miller (p pause : Nat) : Nat → Bool → List Bool → List Low
  | _, _, [] => []
  | t, prev, b :: l =>
    (if b then [⟨t + p / 2, pause, false⟩] else if prev then [] else [⟨t, pause, false⟩]) ++ miller p pause (t + p) b l

/-! ## Levels -/

/-- The low intervals of a sequence of levels of `u` cc each, from cc `t` on: a run of low levels is one interval. -/
def lowRuns (u : Nat) : Nat → List Bool → List Low
  | _, [] => []
  | t, true :: l => lowRuns u (t + u) l
  | t, false :: l =>
    match lowRuns u (t + u) l with
    | [] => [⟨t, u, true⟩]
    | a :: r => if a.first = t + u then ⟨t, a.len + u, true⟩ :: r else ⟨t, u, true⟩ :: a :: r

/-- The levels of a 14443-B frame by etu (R248): SOF, the characters, EOF. -/
def bLevels (l : List Byte) : List Bool :=
  List.replicate 10 false ++ [true, true] ++ l.flatMap (fun b => false :: (byteBits b ++ [true])) ++ List.replicate 10 false

/-- The half-bits of an 18092 frame at 212 or 424 kbit/s (R250), most significant bit first; which half of a 0 is low is open
(log entry 63). -/
def halfBits (l : List Byte) : List Bool :=
  l.flatMap (fun b => (byteBits b).reverse.flatMap (fun x => let h := x == Config.manchesterLowFirst; [!h, h]))

/-! ## 15693 (R249) and Opkar HF (R251) -/

/-- The pairs of bits of a byte, least significant first. -/
def bytePairs (b : Byte) : List Nat := (List.range 4).map (fun i => b.toNat / 4 ^ i % 4)

/-- The pauses of a 15693 frame, by their first cc: SOF, data and EOF. The first pause of SOF and those of EOF are the rule's; where the
second one of SOF lies and which half of its slot a data pause takes is the standard's (PRESUMED, log entry 63). -/
def vcdPauses (one256 : Bool) (eof : Bool) (l : List Byte) : List Nat :=
  let body := if one256 then l.map (fun b => 256 * b.toNat + 128) else (l.flatMap bytePairs).map (fun v => 256 * v + 128)
  let u := if one256 then 65536 else 1024
  if eof then [128]
  else [0, if one256 then 896 else 640] ++ (body.zipIdx.map (fun p => 1024 + u * p.2 + p.1)) ++ [1024 + u * body.length + 128]

/-- The pauses of an Opkar HF frame, by their first cc: a SOF symbol, the data symbols and an EOF symbol. -/
def opkarPauses (l : List Byte) : List Nat :=
  let body := l.flatMap bytePairs
  [0, 64] ++ (body.zipIdx.map (fun p => 128 * (p.2 + 1) + 32 * p.1)) ++
    [128 * (body.length + 1) + 32, 128 * (body.length + 1) + 96]

/-! ## The frame -/

/-- The low intervals of a frame (R246–R251). -/
def Wave.lows (w : Wave) : List Low :=
  let p := bitCc w.ds
  match w.std with
  | 2 => lowRuns p 0 (bLevels w.bytes)
  | 3 => (vcdPauses (w.ds.testBit 0) w.eof w.bytes).map (fun t => ⟨t, 128, !w.ds.testBit 1⟩)
  | 5 => (opkarPauses w.bytes).map (fun t => ⟨t, 8, false⟩)
  | k =>
    if k = 4 ∧ w.ds ≠ 0 then lowRuns (p / 2) 0 (halfBits w.bytes)
    else ⟨0, w.pause, false⟩ :: miller p w.pause p false (aBitList w.last w.bytes ++ [false])

/-- The first modulated cc of a frame, from its start (R265). -/
def Wave.firstMod (w : Wave) : Nat := (({ w with bytes := w.bytes.take 1 } : Wave).lows.head?.map Low.first).getD 0

/-- The length in cc from a frame's start to its reference tick (R247–R251). -/
def Wave.refCc (w : Wave) : Nat :=
  let p := bitCc w.ds
  if w.eof then 256
  else if w.std = 2 then (22 + 10 * w.bytes.length) * p
  else if w.std = 3 then 1280 + (if w.ds.testBit 0 then 65536 else 4096) * w.bytes.length
  else if w.std = 4 ∧ w.ds ≠ 0 then 8 * w.bytes.length * p
  else if w.std = 5 then 232 + 512 * w.bytes.length
  else
    let b := aBits w.last w.bytes
    if b.2 then b.1 * p + p / 2 + w.pause else (b.1 + 1) * p + w.pause

/-- The cc from a frame's start to the end of its byte `i` (R245, R247–R251). -/
def Wave.byteEnd (w : Wave) (i : Nat) : Nat :=
  let p := bitCc w.ds
  if w.std = 2 then (22 + 10 * i) * p
  else if w.std = 3 then 1024 + (if w.ds.testBit 0 then 65536 else 4096) * (i + 1)
  else if w.std = 4 ∧ w.ds ≠ 0 then 8 * (i + 1) * p
  else if w.std = 5 then 128 + 512 * (i + 1)
  else (10 + 9 * i) * p

/-- The entry that a low interval selects on its carrier cycle `j` (R246): with EDGE `k` the falling edge passes through the entries
after MODx, and the rising edge in reverse. -/
def Low.entry (o : Low) (mod100 mod10 k j : Nat) : Nat :=
  let m := if o.ten then mod10 else mod100
  if j < k then m + 1 + j else if o.len - j ≤ k then m + (o.len - j) else m

/-- The entry of carrier cycle `x` of a frame: CARRIER outside its low intervals (R246). -/
def Wave.entry (w : Wave) (carrier mod100 mod10 k x : Nat) : Nat :=
  match w.lows.find? (fun o => decide (o.first ≤ x ∧ x < o.first + o.len)) with
  | some o => o.entry mod100 mod10 k (x - o.first) % 64
  | none => carrier

end Sys2Proof.Machine
end

