-- ==== Sys2Proof/Machine/Sparse.lean ====
section
/-! DEFINITION. A map from keys to values held as plain data: a list of (key, value) pairs in one canonical form (keys
strictly rising, no entry equal to what an unlisted key reads as), so that equal maps are equal lists. The register file,
the shadows and the memory windows are held in it. -/

namespace Sys2Proof.Machine

/-- What key `k` reads as: its entry's value, or `d k` when no entry lists it. -/
def Sparse.get {V : Type} (d : Nat → V) : List (Nat × V) → Nat → V
  | [], k => d k
  | p :: t, k => if p.1 = k then p.2 else Sparse.get d t k

/-- The list with an entry for `k`, put at its place among rising keys. -/
def Sparse.insert {V : Type} (k : Nat) (v : V) : List (Nat × V) → List (Nat × V)
  | [] => [(k, v)]
  | p :: t =>
    if k < p.1 then (k, v) :: p :: t
    else if k = p.1 then (k, v) :: t
    else p :: Sparse.insert k v t

/-- The list with no entry for `k`. -/
def Sparse.erase {V : Type} (k : Nat) (l : List (Nat × V)) : List (Nat × V) := l.filter (fun p => decide (p.1 ≠ k))

/-- Writes key `k`: a value that an unlisted key reads as removes the entry. -/
def Sparse.put {V : Type} [DecidableEq V] (d : Nat → V) (l : List (Nat × V)) (k : Nat) (v : V) : List (Nat × V) :=
  if v = d k then Sparse.erase k l else Sparse.insert k v l

/-- Whether the keys rise strictly. -/
def Sparse.rising {V : Type} : List (Nat × V) → Bool
  | [] => true
  | [_] => true
  | p :: q :: t => decide (p.1 < q.1) && Sparse.rising (q :: t)

/-- The canonical form: rising keys, and no entry equal to what its key reads as when unlisted. -/
def Sparse.wf {V : Type} [DecidableEq V] (d : Nat → V) (l : List (Nat × V)) : Bool :=
  Sparse.rising l && l.all (fun p => decide (p.2 ≠ d p.1))

end Sys2Proof.Machine
end

