-- ==== Sys2Proof/Machine/Memory.lean ====
section
/-! DEFINITION. The memory windows of R129 and what a byte that nothing has written reads as. The windows keep their host
byte addresses; the parts of MRAM that no window shows sit above the 24-bit address space. -/

namespace Sys2Proof.Machine

/-- Session RAM view (R129): record n is 192 bytes at this address + 192 × n (R30, R31). -/
abbrev sessBase : Nat := 0x040000
/-- Frame pool view: block b at this address + 0x200 × b (R129). -/
abbrev poolBase : Nat := 0x060000
/-- Score store, 64 KB (R129). -/
abbrev scoreBase : Nat := 0x080000
/-- Fyine image store, 256 KB (R129). -/
abbrev imageBase : Nat := 0x100000
/-- Panel tag memory view, 16 KB (R129). -/
abbrev tagBase : Nat := 0x180000
/-- Firmware slots A and B, 256 KB each (R81), in MRAM. -/
abbrev fwBase (slot : Nat) : Nat := 0x1000000 + 0x40000 * slot

/-- The panel tag's memory as it leaves the factory (R411, R416, R419): I2C_ADDR, FLAGS, PW_LIMIT, the attempt counts at the
limit, and the counters with copy A at 0 with SEQ 0 and copy B at 0 with SEQ 0xFF, each with its complement. -/
def tagFactory (a : Nat) : Byte :=
  if a = 0x20 then 0x52
  else if a = 0x21 then 0x03
  else if a = 0x34 ∨ a = 0x35 then 0x88
  else if 0x70 ≤ a ∧ a < 0x74 then 8
  else if 0x80 ≤ a ∧ a < 0x100 then
    (match a % 16 with
    | 4 | 5 | 6 | 7 | 11 | 12 | 13 | 14 => 0xff
    | _ => 0)
  else 0

/-- What a byte of memory reads as before anything has written it: the factory contents in the panel tag, 0 elsewhere (DESIGN
CHOICE, log entry 4: the manual gives no contents there). -/
def memDefault (a : Nat) : Byte := if tagBase ≤ a ∧ a < tagBase + 0x4000 then tagFactory (a - tagBase) else 0

end Sys2Proof.Machine
end

