-- ==== Sys2Proof/Machine/State.lean ====
section
/-! DEFINITION. The state of the RN-4480 as plain data: the register file and the shadows of every page, the memory windows
and MRAM, the queues, the session table's lists, the units' internal state, the supplies and pins, and the queue of the
commands that wait. State.reset is the machine in power-on reset. -/

namespace Sys2Proof.Machine

/-- The reasons a command could stop with a fault. No command of this block does: an access the spec gives no target
reads 0 or has no effect (R9, R131), so no constructor is needed. -/
inductive Fault where
  deriving DecidableEq, Repr

/-- The reasons a command is refused. -/
inductive Refusal where
  /-- Raised by exec's arms for a command whose meaning is not written. Safe: the machine stops. -/
  | notModelled (mnemonic : String)
  deriving DecidableEq, Repr

/-- A map from a unit's number to its state, in the canonical form of Sparse. -/
abbrev Tab (V : Type) : Type := List (Nat × V)

/-- An item of a queue (R108): header fields, the timestamp of words 2–3, the payload, and the tick at which it was
posted (for a command: accepted, R21). `page` and `cls` are the page and the class that R474 and
R487 give for the fault its ERR reports. -/
structure Item where
  typ : Nat
  prio : Nat
  seq : Nat
  handle : Nat
  err : Nat
  flags : Nat
  ts : Nat
  payload : List Word
  posted : Nat
  page : Nat
  cls : Option Nat
  deriving DecidableEq, Repr

/-- A result waiting to be posted (R23, R123): the item, its producer (0–3 FEn, 4 the return band, 5 another, 6 one
whose results wait behind none) and the
session slot whose frame-pool blocks are kept until it is posted (0 for none). -/
structure Held where
  item : Item
  src : Nat
  slot : Nat
  deriving DecidableEq, Repr

/-- A malformed command item in arrival (R111): its word 0, the handle of its word 1 when that has come, the words taken
so far, the words it counts, and the ERR of the refusal. -/
structure BadItem where
  head : Word
  handle : Nat
  got : Nat
  total : Nat
  err : Nat
  deriving DecidableEq, Repr

/-- The three queues (R106–R128). `cmdPart` holds the words received of an item not yet whole; `swallow` counts words still
to be swallowed after a flush; `bad` is a malformed item in arrival; `flushing` tells that a flush of the command queue is in
progress (R117). `resPart` and `evtPart` hold the words left of an item
the host has partly read (R107). -/
structure QueueSt where
  cmd : List Item := []
  cmdPart : List Word := []
  swallow : Nat := 0
  bad : Option BadItem := none
  res : List Item := []
  resPart : List Word := []
  evt : List Item := []
  evtPart : List Word := []
  held : List Held := []
  lastPost : Tab Nat := []
  resSeq : Nat := 0
  evtSeq : Nat := 0
  flushing : Bool := false
  holdLatch : Bool := false
  attnLatch : Bool := false
  holdLow : Bool := true
  attnLow : Bool := false
  staleFrom : Nat := 0
  stale : Bool := false
  evtDropped : Nat := 0
  evtDropTick : Nat := 0
  deriving DecidableEq, Repr

/-- Where the chip stands between power-on reset and READY (R73–R82). -/
inductive Phase where
  /-- The internal power-on reset is held (R48). -/
  | powerOn
  /-- RESET_N is low (R67). -/
  | pinHeld
  /-- Step 1: waiting for the reference to qualify (R80). -/
  | waitRef
  /-- QRDY has risen; the start sequence runs. -/
  | starting
  /-- Neither firmware slot passed (R82). -/
  | noImage
  /-- The start sequence is complete (R78). -/
  | ready
  deriving DecidableEq, Repr

/-- The start sequence under way (R75–R77): what it measures, whether a retained record was accepted, the populated coils as a mask, the
steps of the main track that are left, each with its coil in step 8, the first in progress and the tick at which it ends, the same of
the return-band track, whether VFLD has been low since the step in progress began (R84), the coils whose turn in step 8 has ended with
those of them that were skipped, and whether a Hollyhock reset has had the sequence begin again (R91). -/
structure StartPlan where
  meas : StartMeas
  warm : Bool := false
  pop : Nat := 0
  main : List (Nat × Nat) := []
  ends : Nat := 0
  rb : List (Nat × Nat) := []
  rbEnds : Nat := 0
  low : Bool := false
  swept : Nat := 0
  skipped : Nat := 0
  again : Bool := false
  deriving DecidableEq, Repr

/-- Supplies (R50), reference and reset inputs (R47–R52, R67, R72–R74). `fullCal` and `wakeHeld` are the reasons of R74 to reject
the record; `porStart` tells a start after power-on; `oscWarm` that the reference oscillator runs through the reset; `mgtDown`
that Hollyhock is in reset (R91); `plan` is the start sequence under way; `blocks` are the pages whose block reset runs (R92). -/
structure BootSt where
  phase : Phase := .powerOn
  vddrf : Bool := true
  vddio : Bool := true
  vaon : Bool := false
  vfld : Bool := true
  overvolt : Bool := false
  resetN : Bool := true
  refclkIn : Bool := false
  oscWarm : Bool := false
  fullCal : Bool := false
  wakeHeld : Bool := false
  porStart : Bool := true
  mgtDown : Bool := false
  plan : Option StartPlan := none
  blocks : List Nat := []
  deriving DecidableEq, Repr

/-- A sync job (R175): the tick of its edge, whether it drives SYNC_OUT, and the command it answers. -/
structure SyncJob where
  edge : Nat
  out : Bool
  item : Option Item
  deriving DecidableEq, Repr

/-- The time base and its units (R157–R177). `cmpArmed` holds the tick A of R163 of each armed compare unit; `cadZero` and
`cadNext` the tick at which a running generator's COUNT is 0 and its next wrap; `capWait` the capture behind a latched pair
(R171); `ftbHi` the latch of R158 by agent; `snapWait` the requests for the next capture edge (`none` asks for no result);
`lastSync` the last sync edge, `lastOut` the rise of SYNC_OUT before the last one that had it driven, `lastPin` the reference edge of
the last transition of SYNC_IN that counted (R66), `localSnap` the local tick counters at the last capture edge (R15), and `cadMissed`
the wraps that a quiesced page has not published (R173); `measFrom` is the tick from which the measurement of AON_MEAS in progress
counts (R176). -/
structure TimeSt where
  ftb : Nat := 0
  cmpArmed : Tab Nat := []
  cadZero : Tab Nat := []
  cadNext : Tab Nat := []
  capLatched : Tab Bool := []
  capWait : Tab Nat := []
  targetLo : Tab (Option Word) := []
  latch : Tab (Option Word) := []
  snapWait : List (Option Item) := []
  snapReq : Bool := false
  syncJobs : List SyncJob := []
  lastSync : Option Nat := none
  lastOut : Option Nat := none
  lastPin : Option Nat := none
  localSnap : List Nat := []
  cadMissed : Tab Nat := []
  measFrom : Nat := 0
  deriving DecidableEq, Repr

/-- An event that has not entered its channel (R178, R179): its producer, its tick, and the channel that a fire or a
publish step names (R189). -/
structure Event where
  prod : Nat
  tick : Nat
  named : Option Nat
  deriving DecidableEq, Repr

/-- A limiter's held event (R185) with its MERGED mark, the edge on which it passes, and its routing as it was on the edge on which it
entered (R183): whether the event queue is offered it, and its task inputs. -/
structure HeldEvent where
  prod : Nat
  tick : Nat
  merged : Bool
  due : Nat
  queue : Bool
  inputs : List Nat
  deriving DecidableEq, Repr

/-- A channel's limiter (R185): the LSP edge P on which it last passed an event, and the held event. -/
structure Limiter where
  last : Option Nat := none
  held : Option HeldEvent := none
  deriving DecidableEq, Repr

/-- An event on its way to a task input (R181): the input, its tick, its channel and the LSP edge on which it passed. -/
structure Task where
  input : Nat
  tick : Nat
  chan : Nat
  edge : Nat
  deriving DecidableEq, Repr

/-- The event fabric's internal state: events not yet in a channel, limiters, task deliveries, the LSP edge from which a
cell's output has differed from its filtered output (R195), the LSP edges on which a cell has to be evaluated again, an input of it having
changed or a pulse having ended (R193), the edge of the last change of its filtered output with the value before
(R193), GP drive levels and pulse ends (R196), and the LSP edge from which the level at a driven pin has differed from GP_IN (R197). -/
structure FabricSt where
  waiting : List Event := []
  limiters : Tab Limiter := []
  tasks : List Task := []
  cellSince : Tab (Option Nat) := []
  cellNext : Tab (List Nat) := []
  cellLast : Tab (Option (Nat × Bool)) := []
  gpDrive : Tab Bool := []
  gpPulse : Tab (Option Nat) := []
  gpSince : Tab (Option Nat) := []
  deriving DecidableEq, Repr

/-- One stage of a moving-average chain (R213): its inputs since the reset edge that the next output needs, newest first,
and how many inputs have come since the last output (sliding: since the last multiple of D). -/
structure StageSt where
  hist : List (Int × Int) := []
  count : Nat := 0
  deriving DecidableEq, Repr

/-- A threshold unit's run of outputs above UPPER or below LOWER (R221). -/
structure ThrSt where
  above : Nat := 0
  below : Nat := 0
  deriving DecidableEq, Repr

/-- An output of a coil's chain (R215): OUT_TICK, its centre at the pins in half ticks (R216), whether it is eligible (R220), I and Q after
CAL_GAIN, the engine that used the coil as the output came (4 for none), and conj(u) × z times 2^64, once that engine has weighed
it (R229). -/
structure ChainRec where
  tick : Nat
  at2 : Nat
  good : Bool
  i : Int
  q : Int
  eng : Nat := 4
  sum : Option (Int × Int) := none
  deriving DecidableEq, Repr

/-- A coil channel's internal state (R202–R222). `cap` is the code in force at the tuner, which TUNE_CAP.CODE joins under
R206; `mmSeen` that MISMATCH has been published since field-on, `pulseSeen` the same of the latest Crocus pulse (R208); `mmNewer` and `mmGone`
that since the start of that pulse's sweep a measurement of the coil's own has completed, or been abandoned (R207); `mmDue` the tick at which the mismatch measurement in progress ends; `act` MM_CFG.ACT in force until the field goes
off (R209); `vfld` VFLD in mV as the last recompute of θ measured it, none before one (R203); `damped` a coil without weight in a powered field (R225, R228), `left` the engine that used it last before the one that does, with
the tick at which it left (R229);
`entryWanted` the entry that the holder selects; `resetEdge` the edge E of R219, `nextTick` the tick of the next sample,
`pendReset` a reset edge that is still to come with the stage words that the chain loads on it, `loaded` the profile's stage words in use, `past` the outputs without SETTLING since the reset edge, up to 255 (HOLDOFF, R220), `outs` its outputs, the latest first (R215, R229, R254); `stopTo` the
boundary up to which a trip of the current limit has stopped the bridge (R57). -/
structure Coil where
  cap : Nat := 0
  mmDue : Option Nat := none
  mmSeen : Bool := false
  pulseSeen : Bool := false
  mmNewer : Bool := false
  mmGone : Bool := false
  act : Nat := 0
  vfld : Option Nat := none
  damped : Bool := false
  left : Option (Nat × Nat) := none
  entryWanted : Nat := 0
  capped : Bool := false
  crocus : Bool := false
  injected : Bool := false
  restart : Bool := false
  resetEdge : Nat := 0
  nextTick : Nat := 0
  pendReset : Option (Nat × List Word) := none
  loaded : List Word := []
  st1 : StageSt := {}
  st2 : StageSt := {}
  st3 : StageSt := {}
  outs : List ChainRec := []
  past : Nat := 0
  magRun : ThrSt := {}
  phRun : ThrSt := {}
  stopTo : Nat := 0
  deriving DecidableEq, Repr

/-! ## Sessions, engines and players -/

/-- A fence (R33): the target engine, and the command that set it (`none` for an automatic migration, R284). -/
structure Fence where
  target : Nat
  item : Option Item
  deriving DecidableEq, Repr

/-- The allocator state and the session lists (R27–R34, R112): generations, slots freed after use (longest free first), the
pending list, fence and destroy command of each slot, and the frame-pool blocks that each slot holds (R22). -/
structure SessSt where
  gens : Tab Nat := []
  freed : List Nat := []
  used : Tab Bool := []
  pend : Tab (List Item) := []
  fences : Tab (Option Fence) := []
  closing : Tab (Option Item) := []
  blocks : Tab (List Nat) := []
  deriving DecidableEq, Repr

/-- The layer-4 state of an exchange (R256): INF bytes still to send, those of the block on air, whether that block chains,
the reader's block number, the bytes assembled, whether the tag is chaining, the resends of the present block, the block to
send next (0 I-block, 1 R(ACK), 2 R(NAK), 3 S(WTX)), the WTXM that the next window applies, and whether another block is to be sent. -/
structure L4St where
  rest : List Byte := []
  sent : List Byte := []
  chain : Bool := false
  nr : Nat := 0
  first : Bool := true
  got : List Byte := []
  total : Nat := 0
  rxChain : Bool := false
  tries : Nat := 0
  next : Nat := 0
  wtxm : Nat := 0
  more : Bool := false
  deriving DecidableEq, Repr

/-- A frame as the engine sends it (R244, R259, R261): its bytes without the check, the valid bits of the last byte (0 for
8), whether the check bytes are appended and the reply's checked, BITS framing with RX_ALIGN, and an EOF-only frame. -/
structure TxFrame where
  data : List Byte := []
  last : Nat := 0
  txCrc : Bool := true
  rxCrc : Bool := true
  bits : Bool := false
  align : Nat := 0
  eof : Bool := false
  deriving DecidableEq, Repr

/-- The frame on air and its reply (R247–R254): the delay D of R253 in cc, the tick at which the frame starts, the frame,
its envelope, its reference tick, the reply window, the SOF tick and its level, and the number of the section that opened the window
(R294). -/
structure Air where
  delay : Nat := 0
  start : Nat := 0
  frame : TxFrame := {}
  wave : Wave := ⟨0, 0, 0, 0, false, []⟩
  ref : Option Nat := none
  opened : Option Nat := none
  close : Option Nat := none
  sof : Option Nat := none
  level : Nat := 0
  sec : Nat := 0
  deriving DecidableEq, Repr

/-- The exchange in flight on a field engine (R261–R263): the command, the session's slot, the start tick S, its frame and
whether it is still to send, FRAMING L4, the codes that arose so far, the resends, the
tick from which its guard time counts when a coil joined since, and the layer-4 state. `xb` marks the HF
half of a cross-band exchange, and `begun` one whose first frame has started (R226). -/
structure Exch where
  item : Item
  slot : Nat
  start : Nat
  frame : TxFrame := {}
  toSend : Bool := true
  isL4 : Bool := false
  errs : List Nat := []
  retries : Nat := 0
  guard : Option Nat := none
  l4 : L4St := {}
  xb : Bool := false
  begun : Bool := false
  deriving DecidableEq, Repr

/-- An entry of a discovery's branch stack (R270, R272): the cascade level, the identifier bytes of earlier levels, and the
known bits of the level or mask, first bit first. -/
structure Branch where
  level : Nat
  done : List Byte
  bits : List Bool
  deriving DecidableEq, Repr

/-- A discovery (R266–R274): the command, the step of the procedure, the branch being followed, the stack, the tag being
identified (ATQA, SAK), rounds, and the counts of the END item. `slotNo` is the slot of the frame on air, `exps` the slot
exponent k in use, `collided` the slots that collided in this round, `seen` the identifiers reported,
`rate` the rate of an 18092 discovery, `sent` whether a frame has been sent whose reply is awaited, `resume` that the poll
precedes a stored branch, `resel` the earlier levels of that branch selected again, `levelRounds` the rounds of the present
tag and level, `quiet` the 15693 tags still to be sent Stay Quiet, `heard` that the window gave a reply, and `begun` that the first
frame has started (R226). -/
structure Disc where
  item : Item
  step : Nat := 0
  cur : Branch := ⟨1, [], []⟩
  stack : List Branch := []
  atqa : Nat := 0
  rounds : Nat := 0
  total : Nat := 0
  badBcc : Bool := false
  firstColl : Nat := 0
  tags : Nat := 0
  unresolved : Nat := 0
  dropped : Nat := 0
  slotNo : Nat := 0
  exps : Nat := 0
  collided : List Nat := []
  seen : List (List Byte) := []
  rate : Nat := 0
  sent : Bool := false
  resume : Bool := false
  resel : Nat := 0
  levelRounds : Nat := 0
  quiet : List (List Byte) := []
  heard : Bool := false
  begun : Bool := false
  errs : List Nat := []
  deriving DecidableEq, Repr

/-- A frame of a field engine on a check-value channel (R397): the channel, whether it is the spare claimed for that frame alone,
the session's slot, the preset, and the covered bytes of a frame sent that are still to be fed, each with the tick of its effect. -/
structure Check where
  chan : Nat
  spare : Bool
  slot : Option Nat
  pr : Nat
  bytes : List (Nat × Byte)
  deriving DecidableEq, Repr

/-- A step that a player has issued and its consumer holds (R17, R18): its class, target tick, operand word, data word, word
index, the tick of its issue, the tick from which the consumer acts (later than the target when R19 applies), the slot of the session
that its section serves (0 for none), and the number of that section among those the player has started. -/
structure Issued where
  op : Nat
  target : Nat
  operand : Nat
  data : Nat
  index : Nat
  issued : Nat
  act : Nat
  slot : Nat := 0
  sec : Nat := 0
  deriving DecidableEq, Repr

/-- A field engine's internal state (R224–R236, R243–R263): the frame on air, the exchange or discovery in flight and the discovery that waits,
the tick from which the guard time counts, the ticks from which the turnaround floors run, the end of the last answer to select with the slot of
its session, the last
reception (its end tick, whether no reply came, whether it was OK), the end of the previous exchange, the running fade (its
first boundary and N), the boundary at which the bank in use last changed with the N of that change (R229), the waiting swap, the receive sum of R229, whether STAGE_CTRL.APPLY waits for the boundary of R243, the
frame that runs on a check-value channel, the one that is to start there on a later first bit with that tick, the TX and RXWIN steps that wait for an exchange that was moved (R253) or for the channel
(R260), the end of the moved exchange for which they wait (0 for none), a reply whose check waits for its quiesced channel (R260), and
the number of the section whose discovery has ended (R268; 0 before one has). -/
structure Eng where
  air : Air := {}
  exch : Option Exch := none
  disc : Option Disc := none
  discWait : Option Item := none
  guardFrom : Option Nat := none
  lastTx : Option Nat := none
  lastRx : Option Nat := none
  atsEnd : Option (Nat × Nat) := none
  rxEnd : Option Nat := none
  rxNone : Bool := false
  rxOk : Bool := false
  ended : Nat := 0
  fade : Option (Nat × Nat) := none
  lastSwap : Option (Nat × Nat) := none
  swapTo : Option Nat := none
  sumI : Int := 0
  sumQ : Int := 0
  applyWait : Bool := false
  check : Option Check := none
  opening : Option (Nat × Check) := none
  waits : List Issued := []
  floor : Nat := 0
  heard : Option HfReply := none
  discSec : Nat := 0
  deriving DecidableEq, Repr

/-- A Larkspur player's internal state (R286–R306): whether a section plays, its KIND, S, P and the anchor taken, the next
word, the tick of the last issue and the tick from which the next step can issue, the steps in flight, the session slot it
serves (0 none), the tick of the trigger event that waits, the tick at which the previous section ended, by how many ticks
the targets after tick `shiftFrom` move (R387), whether a reset left the active slot EMPTY with words in the store (R86, R313), and how
many sections it has started (R294). -/
structure Player where
  kind : Nat := 0
  sS : Nat := 0
  p : Nat := 0
  anchor : Nat := 0
  pc : Nat := 0
  lastIssue : Nat := 0
  avail : Nat := 0
  flight : List Issued := []
  slot : Nat := 0
  trig : Option Nat := none
  ended : Nat := 0
  shift : Nat := 0
  shiftFrom : Nat := 0
  emptied : Bool := false
  sec : Nat := 0
  deriving DecidableEq, Repr

/-- The commit unit (R307): the commit tick C and margin tick M of the request, and the participants. -/
structure Commit where
  tick : Nat
  margin : Nat
  pages : List Nat
  issued : Bool
  deriving DecidableEq, Repr

/-- A masked write of a WRITE step (R296): the player, the word index of the step, its target tick, its data word, and the slot of the
session that its section serves. -/
structure StepWrite where
  player : Nat
  index : Nat
  target : Nat
  data : Nat
  slot : Nat := 0
  deriving DecidableEq, Repr

/-- A register write that a commit holds (R147, R308): its agent, address and word, and the WRITE step that made it, if one did. -/
structure HeldWrite where
  ag : Agent
  addr : Nat
  w : Word
  step : Option StepWrite
  deriving DecidableEq, Repr

/-- The check-value unit's internal state (R394–R400): channels whose START waits for their release, and channels whose next
END an injection makes compare with EXPECT bit 0 inverted (R476). -/
structure CvuSt where
  waits : Tab Bool := []
  inject : Tab Bool := []
  deriving DecidableEq, Repr

/-- The budget governor's factor g (R234): it moves from `base` at tick `start` to `goal` in linear steps over `len` carrier
cycles; `defer` tells that several changes of one boundary are under way, of which the governor takes the whole, `live` that amplitudes
moved when it last computed g, `total` is the predicted total of that time (R235), and `seen` its tick. -/
structure GovSt where
  base : Nat := 1024
  goal : Nat := 1024
  start : Nat := 0
  len : Nat := 1
  defer : Bool := false
  live : Bool := false
  total : Nat := 0
  seen : Nat := 0
  deriving DecidableEq, Repr

/-- Crocus (R460–R466): the running sweep (its start tick and its coils in slot order), the coils whose slot it has lost to a
yield (a mask, R40), those whose drive was stopped in their slot (R51, R207), those of both whose mismatch measurement had ended before, whether it runs on the sweep oscillator, the coils whose BASE_Wk is to be loaded since the entry to WATCH
(R462), the consecutive deviating and clearing sweeps of each coil, the coils whose baseline is to be reloaded, the tick
from which a sweep waits under DEFER (R466), GAP as loaded at the latest sweep's start, and the tick of the request that started it (R465). -/
structure CrocusSt where
  sweep : Option (Nat × List Nat) := none
  lost : Nat := 0
  dark : Nat := 0
  met : Nat := 0
  onW : Bool := false
  loadW : Nat := 0
  dev : Tab Nat := []
  clr : Tab Nat := []
  reload : Nat := 0
  waits : Option Nat := none
  gap : Nat := 0
  began : Option Nat := none
  deriving DecidableEq, Repr
/-- A radio state request (R321): STATE, CHANNEL, PA_STEP and RETURN, the target tick that a RADIO step gives it, and the slot of the
session that the step's section serves. -/
structure RadioReq where
  st : Nat
  chan : Nat
  pa : Nat
  ret : Nat
  target : Option Nat
  slot : Nat := 0
  deriving DecidableEq, Repr

/-- A transmission (R329, R330): its bytes and RATE, PA step, channel, the tick of TX_RAMP's start, the tick of the first
preamble sample, by how many ninths of a tick that sample lies after it (R17), the tick of the last sample, and its length in thirds of a tick; `test` names the signal of a test transmission
(R330: 1 a carrier, 2 PRBS9, 0 for a packet), `own` the
frame of the link exchange in flight, `slot` the session whose frame it is, `measured` that the reflection has been measured. -/
structure RadioTx where
  bytes : List Byte
  rate : Nat
  step : Nat
  chan : Nat
  ramp : Nat
  first : Nat
  ninths : Nat := 0
  last : Nat
  air : Nat
  test : Nat
  own : Bool
  slot : Nat := 0
  measured : Bool := false
  deriving DecidableEq, Repr

/-- The radio (R320–R330): the state to be reached, the leg of R322 that runs (the state at its end, its start and its
bound), the phase of the synthesiser (0 idle, 1 three-band search, 2 full search, 3 waiting for the lock detector after a three-band
search, 4 the same without one, 5 the same after a full search), the tick at which it began and that at which it has waited for the lock
detector since, whether a lost lock is regained before the radio goes to its return state (R328), the tick of the request that started it, whether a
channel has been calibrated, the waiting request, the transmission, a test transmission that waits for lock, whether a protection latch has stopped it until a request reaches it
(R434), the duty bins in
thirds of a tick (newest first) by group with the tick at which the newest began (R318), and the code at the tuner pins. -/
structure RadioSt where
  goal : Option Nat := none
  legTo : Option Nat := none
  legStart : Nat := 0
  legMax : Nat := 0
  phase : Nat := 0
  synthStart : Nat := 0
  lockFrom : Nat := 0
  regain : Bool := false
  reqTick : Nat := 0
  everCal : Bool := false
  waiting : Option RadioReq := none
  tx : Option RadioTx := none
  testWaits : Option RadioTx := none
  stopped : Bool := false
  bins : Tab (List Nat) := []
  binFrom : Tab Nat := []
  tune : Nat := 0
  deriving DecidableEq, Repr

/-- A receive window (R352, R353): its open and close tick, and what its outcome has gathered. `live` until it closes, `late`
that the search has yet to begin, `lost` that a newcomer was lost in it, `got` that a packet was received to its end, `done`
that its outcome has been recorded, `forEx` that the exchange in flight awaits its reply in it, `sec` the number of the section that
opened it (R294). -/
structure RbWindow where
  opened : Nat
  close : Nat
  live : Bool := true
  late : Bool := false
  detected : Bool := false
  falseSyncs : Nat := 0
  restarted : Bool := false
  captured : Bool := false
  lost : Bool := false
  early : Bool := false
  aborted : Bool := false
  got : Bool := false
  done : Bool := false
  forEx : Bool := false
  sec : Nat := 0
  deriving DecidableEq, Repr

/-- A preamble that the correlator has met (R347, R354, R356): the number of its baseband sample, that of the sample on which its packet starts,
its correlation C and the power of its short training in 0.25 dBm. -/
structure Preamble where
  sample : Nat
  start : Nat
  c : Int × Int
  power : Int
  deriving DecidableEq, Repr

/-- A reception (R347–R359): the baseband sample of its detection, the correlation C of its preamble, the latest newer preamble seen, its phase (1
header, 2 data), the baseband sample on which the packet starts once timing is found, SIGNAL's RATE, FLAG and LEN, the window it belongs to (0
none, 1 the present one, 2 the one before), the levels on the two inputs when they were compared (A, B), the tick of its end, the frozen total offset
in 10 Hz, and what its metrics rest on. -/
structure RbRx where
  det : Nat
  c : Int × Int
  seen : Option Preamble := none
  phase : Nat := 1
  start : Nat := 0
  timed : Bool := false
  rate : Nat := 0
  flag : Bool := false
  len : Nat := 0
  of : Nat := 0
  levels : Option (Int × Int) := none
  ended : Nat := 0
  offset : Int := 0
  equal : Equal := ⟨0, 0, 0, []⟩
  deriving DecidableEq, Repr

/-- The receiver (R347–R362): the present window and one that still waits for its reception, the reception, the packet whose
decoding runs on after its end, the last reception's end as R294 and R297 need it (its tick, whether no packet came, whether
it was OK), the input in use (false A, true B), the noise floors in 0.25 dBm (`none` before the first measurement) and whether a block has set each since
step 12 or a block reset (R360), and the
configuration of the search that runs (R361): AGC_CFG, DET_CFG, CAP_CFG, EQ_CFG and DEC_CFG. Of that search, in numbers of baseband samples: its
first sample, the sample from which the detection window counts, the first of the next AGC block, how many samples in a row have stayed more than 12 dB
below the target, and whether a clip attack repeats (R347, R348); the alternations of the input (R349); the last sample that spoils a noise block, and the
last sample of the latest block of each input (R360). `owed` that a window closed in which no packet was detected while an earlier packet was being
received (R323), `kept` the decoded packets whose check waits for player 4's quiesced channel (R400), `past` the converter's codes that its filters still need, up to before converter sample `pastTo` (R340). -/
structure RxSt where
  win : Option RbWindow := none
  old : Option RbWindow := none
  rx : Option RbRx := none
  dec : Option RbRx := none
  lastEnd : Option Nat := none
  lastNone : Bool := false
  lastOk : Bool := false
  inputB : Bool := false
  floorA : Option Int := none
  floorB : Option Int := none
  ownA : Bool := false
  ownB : Bool := false
  agc : Word := 0
  detCfg : Word := 0
  capCfg : Word := 0
  eqCfg : Word := 0
  decCfg : Word := 0
  search : Nat := 0
  winFrom : Nat := 0
  agcFrom : Nat := 0
  quiet : Nat := 0
  attack : Bool := false
  alts : Nat := 0
  spoil : Option Nat := none
  noiseA : Nat := 0
  noiseB : Nat := 0
  owed : Bool := false
  kept : List (RbRx × List Byte) := []
  past : List Int := []
  pastTo : Nat := 0
  deriving DecidableEq, Repr

/-- The RB or XB exchange in flight (R381–R387), or a WAKE discovery (R378): the command, the session's slot, whether it is
cross-band, its section of player 4, the codes that arose and whether a lock failure or loss is among their causes, whether its
frame has been sent, the HF half's end, its reference tick, its RX_STATUS and error, the resends, whether it waits for another
section; and for WAKE the round, K, the packets of the train still to send, the slots that collided in the round, the slots met
and the TAG_IDs reported. -/
structure LinkEx where
  item : Item
  slot : Nat
  xb : Bool := false
  section4 : Nat := 0
  errs : List Nat := []
  radioFault : Bool := false
  sent : Bool := false
  hfDone : Bool := false
  ref : Option Nat := none
  hfStatus : Nat := 0
  hfErr : Nat := 0
  retries : Nat := 0
  again : Bool := false
  round : Nat := 0
  k : Nat := 0
  trainLeft : Nat := 0
  slotNo : Nat := 0
  collided : Nat := 0
  reported : List Nat := []
  deriving DecidableEq, Repr

/-- The link layer (R365–R388): the exchange in flight, the EVENT that an ACK step answers (session slot and FCNT, R380), and
the tick at which the last exchange ended. -/
structure LinkSt where
  ex : Option LinkEx := none
  event : Option (Nat × Nat) := none
  ended : Nat := 0
  deriving DecidableEq, Repr

/-- AIR_STATE of the panel tag (R407). -/
inductive AirState where
  | noField
  | idle
  | ready
  | active
  | halted
  deriving DecidableEq, Repr

/-- A field command in progress (R422): the tick at which its reply ends and, for an APDU, whether the reply counts as an error
(R425). -/
structure FieldCmd where
  ends : Nat
  apdu : Option Bool
  deriving DecidableEq, Repr

/-- A wired access to the panel tag (R421–R425): an I²C write or read from an address with the bytes still to go (for a read how
many, and those read), a word of the memory view, bytes that a TAGC register writes, a password set, a counter increment. -/
inductive WireOp where
  | i2cWrite (a : Nat) (l : List Byte) (acked : Nat)
  | i2cRead (a n : Nat) (got : List Byte)
  | viewRead (a : Nat)
  | viewWrite (a : Nat) (w : Word)
  | poke (a : Nat) (l : List Byte)
  | pwSet (k limit : Nat) (v : Word)
  | counterInc (k amount : Nat)
  deriving DecidableEq, Repr

/-- A wired access that waits (R421, R422): what is left of it, the tick at which its next granule was needed (none before that), and whether a
field command has delayed that granule. -/
structure WireWait where
  op : WireOp
  need : Option Nat := none
  held : Bool := false
  deriving DecidableEq, Repr

/-- The panel tag (R403–R425): the field, the air state with the cascade level reached, layer 4 with its CID, the reader's frame size and the
tag's block number, the security state (SELECTED, verified passwords as a mask), the reserve, the field command in progress, the last answer
(for an APDU its response), the frames sent for the last reader frame or APDU, the parts of a chained response still to send and whether
that response counts as an error, the wired accesses that wait, the I²C address that acts until the next STOP (none: that of the
configuration), the I²C memory address, the sticky bits of the I²C status byte (TAG_BUSY, WR_REFUSED), and PW_VALUE. -/
structure TagSt where
  field : Bool := false
  air : AirState := .noField
  level : Nat := 1
  l4 : Bool := false
  cid : Nat := 0
  selected : Bool := false
  auth : Nat := 0
  fsd : Nat := 0
  blockNo : Bool := true
  reserve : Bool := false
  cmd : Option FieldCmd := none
  reply : List Byte := []
  sent : List (List Byte) := []
  rest : List (List Byte) := []
  restErr : Bool := false
  waiting : List WireWait := []
  i2cHeld : Option Nat := none
  i2cAddr : Nat := 0
  i2cBusy : Bool := false
  i2cRefused : Bool := false
  pwValue : Word := 0
  deriving DecidableEq, Repr

/-- The power modes (R451–R459): the mode being entered or left (1 SLEEP, 2 WATCH), whether FLD is off, the FTB and AON_MEAS
latched at entry to WATCH, MBOX.STATE before the entry, the events that waited for their channels when LSP was gated, the levels of IRQ_N and ATTN_N then (R452), the wake
sources that have fired since the last AON edge (CROCUS, COMPARE), and of the wake in progress its causes, the FTB value of W
and the AON cycles spent; and the AON cycles since the entry to WATCH that the events stamped in it have shown (R458). -/
structure PwrSt where
  target : Nat := 0
  ftbOff : Bool := false
  entryFtb : Nat := 0
  entryMeas : Nat := 0
  mbox : Nat := 0
  before : List Event := []
  irqHeld : Option Bool := none
  attnHeld : Option Bool := none
  due : Nat := 0
  causes : Nat := 0
  wakeAt : Nat := 0
  cycles : Option Nat := none
  shown : Nat := 0
  deriving DecidableEq, Repr

/-- A log record as it arises (R435): its tick, CODE, SOURCE, SEVERITY, INFO and DETAIL. -/
structure LogRec where
  tick : Nat
  code : Nat
  source : Nat
  sev : Nat
  info : Nat
  detail : Nat
  deriving DecidableEq, Repr

/-- What the slot directory knows of a firmware slot (R439, R440, R442): whether its image passed verification since its last BEGIN, whether it is
marked empty, and the VERSION and SVN of the image. -/
structure FwSlot where
  verified : Bool := false
  empty : Bool := false
  version : Nat := 0
  svn : Nat := 0
  deriving DecidableEq, Repr

/-- A copy of the retained calibration record (R85): sequence number, temperature in °C, VFLD in mV, firmware format, stepping, the
calibrated register values by address, and the trims that no register shows (by unit: 0–11 ADC offset and gain of a coil,
16–23 the return-band sub-converters, 32–40 the sensors), and whether it passes its check. -/
structure CalRec where
  seq : Nat
  temp : Int
  vfld : Nat
  format : Nat
  step : Nat
  words : List (Nat × Word)
  trims : Tab Word
  ok : Bool := true
  deriving DecidableEq, Repr

/-- A copy of the rollback counter, in the manner of R85 (R444): its sequence number, its value and the CRC-32 over both. -/
structure RollCopy where
  seq : Nat
  value : Nat
  check : Nat
  deriving DecidableEq, Repr

/-- The MRAM that no window shows (18_hollyhock_management, R85, R435, R441, R444): the log's records by index with the SEQ of the
newest, NEXT and COUNT; the count of resets; the slot directory (active slot, trial slot, trial count, whether the running
firmware is a trial); the slots; the two copies of the rollback counter; the slot that becomes active at the next system reset (R440); the two
copies of the calibration record; and the header (CODE, TAG) of a mailbox command that a Hollyhock reset interrupted, with whether no error had been found for its answer. -/
structure NvmSt where
  log : Tab (List Word) := []
  logSeq : Nat := 0
  logNext : Nat := 0
  logCount : Nat := 0
  boots : Nat := 0
  active : Nat := 0
  trial : Option Nat := none
  trialCount : Nat := 0
  trialRun : Bool := false
  slots : Tab FwSlot := [(0, { verified := true })]
  rolls : Tab (Option RollCopy) := []
  nextActive : Option Nat := none
  recs : Tab (Option CalRec) := []
  header : Option (Nat × Nat × Bool) := none
  deriving DecidableEq, Repr

/-- What a mailbox reply waits for (R429, R445): a calibration, the panel tag, a commit or the radio before APPLY_RECORD with its
argument can go on, or the swap of player `k`. -/
inductive JobWait where
  | none
  | cal
  | tag
  | commit (arg : Nat)
  | swap (k : Nat)
  | radio (arg : Nat)
  deriving DecidableEq, Repr

/-- The mailbox command that runs (R426): its TAG, the error and the reply words so far, what the reply waits for, the pages that
Hollyhock has taken with their former agents, and the pages of the radio that it quiesces for a table, when it does (R445). -/
structure Job where
  tag : Nat
  err : Nat := 0
  words : List Word := []
  wait : JobWait := .none
  owned : List (Nat × Nat) := []
  shut : Option (List Nat) := none
  deriving DecidableEq, Repr

/-- A calibration request that runs (R95): its KIND, its coils, the tick of its start, whether VFLD was below its threshold during it, whether it was so all
the time, and the pages that Hollyhock has taken with their former agents (R138). -/
structure CalJob where
  kind : Nat
  coils : Nat
  start : Nat
  low : Bool
  allLow : Bool
  owned : List (Nat × Nat)
  deriving DecidableEq, Repr

/-- Hollyhock's working state: the firmware slot that runs, the mailbox command, a GO held by quiesce (R446), records that arose while
none could be written (R435, R437), the temperatures in 1/16 °C by site, a LOG.SEL write held by quiesce, console lines with the
one being sent first (R477), the ticks of watchdog trips under confirmed firmware (R473), whether and why a trial
was reverted (R441), the tick at which the trial began, the calibration request, the requests that wait for CAL with whether a CALIBRATE made them (R446), the trims in use,
the values of the cal fields by address (R92), the temperature, as the sum of the three sites, at which each coil (0–11) and the
return band (12) were last calibrated (R98), the temperature that an injection shows to the level logic (R476), the SUPPLY reports that wait for Hollyhock (R434), the target of the latest
UPD.CTRL.BEGIN (R440: 1 slot A, 2 slot B, 3 the image store), and what the sensors gave last (R431, R74): the three die sites in 1/16 °C under 0–2, and VFLD in mV under 3. -/
structure MgtSt where
  run : Nat := 0
  job : Option Job := none
  goHeld : Bool := false
  logWaits : List LogRec := []
  temps : Tab (Option Int) := []
  selHeld : Bool := false
  console : List (List Word) := []
  trips : List Nat := []
  reverted : Option Nat := none
  trialFrom : Nat := 0
  cal : Option CalJob := none
  calHeld : List (Word × Bool) := []
  trims : Tab Word := []
  calCopy : Tab Word := []
  calTemp : Tab (Option Int) := []
  injTemp : Option Int := none
  supply : Nat := 0
  begun : Nat := 0
  reads : Tab Int := []
  deriving DecidableEq, Repr

/-- The test access port (R478, R479): the instruction, and the boundary register's cells. -/
structure TapSt where
  ir : Nat := 2
  cells : List Bool := List.replicate 91 false
  deriving DecidableEq, Repr


/-- A transaction of the host that QRDY holds before its next word (R103): a read burst, on QIO1 or quad, with the address of that word and the words still to
come, a write burst with those still to be taken, or the status byte. With none to come the last word's access waits. -/
inductive BusTx where
  | read (quad : Bool) (addr count : Nat)
  | write (addr : Nat) (words : List Word)
  | status
  deriving DecidableEq, Repr

/-- The RN-4480 (R13). `regs` holds the value in use of every register, `shadow` the shadow of every register with staged
fields (R145), `mem` the memory windows and MRAM; all three in the canonical form of Sparse. `free` counts the free values
taken (log entry 2), `bus` is the host's transaction that QRDY holds, `applied` holds, by register address, the values that a commit has applied on a quiesced page and that take
effect when it resumes (R146), and `dataOut` holds the words that the last read command returned: both are the model's own. -/
structure State where
  regs : List (Nat × Word) := []
  shadow : List (Nat × Word) := []
  mem : List Host.Cell := []
  queue : QueueSt := {}
  bus : Option BusTx := none
  boot : BootSt := {}
  time : TimeSt := {}
  fab : FabricSt := {}
  coils : Tab Coil := []
  sess : SessSt := {}
  engs : Tab Eng := []
  players : Tab Player := []
  commit : Option Commit := none
  cvu : CvuSt := {}
  gov : GovSt := {}
  crocus : CrocusSt := {}
  radio : RadioSt := {}
  rx : RxSt := {}
  link : LinkSt := {}
  tag : TagSt := {}
  pwr : PwrSt := {}
  nvm : NvmSt := {}
  mgt : MgtSt := {}
  tap : TapSt := {}
  heldWrites : List HeldWrite := []
  applied : Tab (Option Word) := []
  dataOut : List Word := []
  free : Nat := 0
  pending : List Instr := []
  deriving DecidableEq, Repr

/-- The machine in power-on reset (R48, R86): every register at its Reset value (R10), the windows empty, the queues empty,
and no command waiting. -/
def State.reset : State := {}

end Sys2Proof.Machine
end

