-- ==== Sys2Proof/Machine/Ops.lean ====
section
/-! DEFINITION. The named operations on the state: registers and their fields, shadows, memory bytes and words, the session
contexts, per-unit tables, free values and the field time base. -/

namespace Sys2Proof.Machine

/-! ## Registers -/

/-- The value in use of the register at byte address `a`. -/
def State.reg (s : State) (a : Nat) : Word := Sparse.get regReset s.regs a

/-- The shadow of the register at `a` (R145). -/
def State.shade (s : State) (a : Nat) : Word := Sparse.get regReset s.shadow a

/-- Writes the value in use of a register. -/
def setReg (a : Nat) (w : Word) (s : State) : State := { s with regs := Sparse.put regReset s.regs a w }

/-- Writes the shadow of a register. -/
def setShade (a : Nat) (w : Word) (s : State) : State := { s with shadow := Sparse.put regReset s.shadow a w }

/-- Bits [hi:lo] of a register. -/
def State.rf (s : State) (a hi lo : Nat) : Nat := fld (s.reg a) hi lo

/-- Bit k of a register. -/
def State.rb (s : State) (a k : Nat) : Bool := bit (s.reg a) k

/-- Writes bits [hi:lo] of a register. -/
def setRf (a hi lo v : Nat) (s : State) : State := setReg a (setFld (s.reg a) hi lo v) s

/-- Writes bit k of a register. -/
def setRb (a k : Nat) (b : Bool) (s : State) : State := setReg a (setBit (s.reg a) k b) s

/-- Adds `n` to bits [hi:lo] of a register, saturating at all ones. -/
def addRf (a hi lo n : Nat) (s : State) : State := setRf a hi lo (satAdd (2 ^ (hi + 1 - lo) - 1) (s.rf a hi lo) n) s

/-- Adds `n` to bits [hi:lo] of a register, modulo the field's width. -/
def wrapRf (a hi lo n : Nat) (s : State) : State := setRf a hi lo (s.rf a hi lo + n) s

/-- Loads a 64-bit value into a LO register at `a` and the HI register above it (R150). -/
def setPair (a v : Nat) (s : State) : State := setReg (a + 4) (hiWord v) (setReg a (loWord v) s)

/-- The 64-bit value of a LO register at `a` and the HI register above it. -/
def State.regPair (s : State) (a : Nat) : Nat := pair (s.reg a) (s.reg (a + 4))

/-! ## Tables of units -/

/-- A unit's entry of a table, or what an untouched unit holds. -/
def tabGet {V : Type} (d : V) (t : Tab V) (k : Nat) : V := Sparse.get (fun _ => d) t k

/-- Replaces a unit's entry of a table. -/
def tabSet {V : Type} [DecidableEq V] (d : V) (t : Tab V) (k : Nat) (v : V) : Tab V := Sparse.put (fun _ => d) t k v

/-- The internal state of COILn. -/
def State.coil (s : State) (n : Nat) : Coil := tabGet {} s.coils n

/-- Replaces the internal state of COILn. -/
def setCoil (n : Nat) (c : Coil) (s : State) : State := { s with coils := tabSet {} s.coils n c }

/-- Changes the internal state of COILn. -/
def modCoil (n : Nat) (f : Coil → Coil) (s : State) : State := setCoil n (f (s.coil n)) s

/-- The internal state of FEn. -/
def State.eng (s : State) (n : Nat) : Eng := tabGet {} s.engs n

/-- Replaces the internal state of FEn. -/
def setEng (n : Nat) (e : Eng) (s : State) : State := { s with engs := tabSet {} s.engs n e }

/-- Changes the internal state of FEn. -/
def modEng (n : Nat) (f : Eng → Eng) (s : State) : State := setEng n (f (s.eng n)) s

/-- The internal state of player `k`. -/
def State.player (s : State) (k : Nat) : Player := tabGet {} s.players k

/-- Replaces the internal state of player `k`. -/
def setPlayer (k : Nat) (p : Player) (s : State) : State := { s with players := tabSet {} s.players k p }

/-- Changes the internal state of player `k`. -/
def modPlayer (k : Nat) (f : Player → Player) (s : State) : State := setPlayer k (f (s.player k)) s

/-- Changes the session table's lists. -/
def modSess (f : SessSt → SessSt) (s : State) : State := { s with sess := f s.sess }

/-! ## Memory -/

/-- The byte at address `a` of the windows and MRAM. -/
def State.byte (s : State) (a : Nat) : Byte := Sparse.get memDefault s.mem a

/-- Writes one byte. -/
def setByte (a : Nat) (b : Byte) (s : State) : State := { s with mem := Sparse.put memDefault s.mem a b }

/-- Writes bytes from `a` upward. -/
def setBytes (a : Nat) : List Byte → State → State
  | [], s => s
  | b :: t, s => setBytes (a + 1) t (setByte a b s)

/-- `n` bytes from `a` upward. -/
def State.bytes (s : State) (a : Nat) : Nat → List Byte
  | 0 => []
  | n + 1 => s.byte a :: State.bytes s (a + 1) n

/-- The 16-bit value at `a`, least significant byte first. -/
def State.mem16 (s : State) (a : Nat) : Nat := (s.byte a).toNat + 256 * (s.byte (a + 1)).toNat

/-- The 32-bit value at `a`, least significant byte first (R3). -/
def State.mem32 (s : State) (a : Nat) : Nat := s.mem16 a + 65536 * s.mem16 (a + 2)

/-- Writes an `n`-byte value at `a`, least significant byte first. -/
def setMem (n a v : Nat) (s : State) : State :=
  setBytes a ((List.range n).map (fun i => BitVec.ofNat 8 (v / 256 ^ i))) s

/-! ## Session contexts (R30, R31) -/

/-- The address of byte `o` of slot `k`'s context. -/
def ctxAddr (k o : Nat) : Nat := sessBase + 192 * k + o

/-- Byte `o` of slot `k`'s context. -/
def State.ctx (s : State) (k o : Nat) : Nat := (s.byte (ctxAddr k o)).toNat

/-- The 16-bit value at byte `o` of slot `k`'s context. -/
def State.ctx16 (s : State) (k o : Nat) : Nat := s.mem16 (ctxAddr k o)

/-- The 32-bit value at byte `o` of slot `k`'s context. -/
def State.ctx32 (s : State) (k o : Nat) : Nat := s.mem32 (ctxAddr k o)

/-- Writes byte `o` of slot `k`'s context. -/
def setCtx (k o v : Nat) (s : State) : State := setByte (ctxAddr k o) (BitVec.ofNat 8 v) s

/-- Writes the 16-bit value at byte `o` of slot `k`'s context. -/
def setCtx16 (k o v : Nat) (s : State) : State := setMem 2 (ctxAddr k o) v s

/-- Writes the 32-bit value at byte `o` of slot `k`'s context. -/
def setCtx32 (k o v : Nat) (s : State) : State := setMem 4 (ctxAddr k o) v s

/-- Adds 1 to a 16-bit statistics count, saturating at 0xFFFF (R489). -/
def incCtx16 (k o : Nat) (s : State) : State := setCtx16 k o (satAdd 0xffff (s.ctx16 k o) 1) s

/-- Adds 1 to a 32-bit statistics count, modulo 2^32 (R489). -/
def incCtx32 (k o : Nat) (s : State) : State := setCtx32 k o ((s.ctx32 k o + 1) % 2 ^ 32) s

/-! ## Free values and time -/

/-- The state after one free value has been taken (log entry 2). -/
def nextFree (s : State) : State := { s with free := s.free + 1 }

/-- The free value that the state offers next. -/
def State.freeVal (s : State) : Nat := Config.freeValue s.free

/-- Whether the SYS and FLD islands are out of reset: from the end of step 2 of the start on (R75). -/
def State.started (s : State) : Bool := s.boot.phase == .starting || s.boot.phase == .noImage || s.boot.phase == .ready

/-- Whether the FLD island runs and the FTB counts (R157): not in WATCH, until the FTB resumes (R458). -/
def State.fldRuns (s : State) : Bool := s.started && !s.pwr.ftbOff

/-- PWR.MODE as the device holds it: 0 RUN (or IDLE), 2 ENTERING, 3 SLEEP, 4 WATCH, 5 WAKING (R468). -/
def State.mode (s : State) : Nat := s.rf Reg.pwrMode 2 0

/-- Whether the islands that R451 names are gated: from the end of the entry to the restore step of the wake. -/
def State.gated (s : State) : Bool := decide (3 ≤ s.mode)

/-- Whether EXTEST, CLAMP and HIGHZ take effect: only while RESET_N is low (R479). -/
def State.scanOpen (s : State) : Bool := !s.boot.resetN

/-- Whether a chain output is driven from its boundary cell: EXTEST or CLAMP in effect (R479). -/
def State.scanDrives (s : State) : Bool := s.scanOpen && (s.tap.ir == 0 || s.tap.ir == 4)

/-- Whether every chain output is high-impedance: HIGHZ in effect (R479). -/
def State.scanFloats (s : State) : Bool := s.scanOpen && s.tap.ir == 5

/-- Whether a wired access is one to the memory view. -/
def WireOp.view : WireOp → Bool
  | .viewRead _ | .viewWrite _ _ => true
  | _ => false

/-- Whether an access to the panel tag's memory view waits for the tag's arbitration and holds QRDY (R105, R132, R422). -/
def State.viewHeld (s : State) : Bool := s.tag.waiting.any (fun w => w.op.view)

/-- Whether the host port takes transactions: QRDY has risen after the reset, and VDDIO is up (R50, R80, R105). -/
def State.portTakes (s : State) : Bool := s.boot.vddio && s.started

/-- Whether the words of the host port reach the device: it takes transactions, and is neither in SLEEP or WATCH nor entering them or waking,
which hold every word (R105, R452). -/
def State.hostUp (s : State) : Bool := s.portTakes && decide (s.mode < 2)

/-- Wake source `k` fires (R456): when enabled, between the request of a mode and the wake, it is due at the next AON edge.
COMPARE wakes from SLEEP alone. -/
def wakeSource (k : Nat) (s : State) : State :=
  if 2 ≤ s.mode ∧ s.mode ≤ 4 ∧ s.rb Reg.pwrWakeEn k ∧ (k ≠ 5 ∨ s.pwr.target = 1) then
    { s with pwr := { s.pwr with due := s.pwr.due ||| 2 ^ k } }
  else s

/-- Whether RST.BOOT.STATE is READY. -/
def State.isReady (s : State) : Bool := s.boot.phase == .ready

/-- The FTB (R157). -/
def State.now (s : State) : Nat := s.time.ftb

/-- Moves the FTB on to tick `t`; it never steps back (R157). -/
def advance (t : Nat) (s : State) : State := { s with time := { s.time with ftb := max s.time.ftb t % 2 ^ 64 } }

/-- The first carrier-cycle boundary at or after the present tick: a multiple of 8 (R17). -/
def State.ccNow (s : State) : Nat := (s.now + 7) / 8 * 8

/-- The next carrier-cycle boundary, after the present tick. -/
def State.nextCc (s : State) : Nat := (s.now / 8 + 1) * 8

/-! ## Changes of one part of the state -/

/-- Changes the queues' state. -/
def modQueue (f : QueueSt → QueueSt) (s : State) : State := { s with queue := f s.queue }
/-- Changes the supplies' and start sequence's state. -/
def modBoot (f : BootSt → BootSt) (s : State) : State := { s with boot := f s.boot }
/-- Changes the timers' state. -/
def modTime (f : TimeSt → TimeSt) (s : State) : State := { s with time := f s.time }
/-- Changes the fabric's state. -/
def modFab (f : FabricSt → FabricSt) (s : State) : State := { s with fab := f s.fab }

/-- Runs an effect for each number of a list, in order. -/
def forEach (l : List Nat) (f : Nat → State → State) (s : State) : State := l.foldl (fun t k => f k t) s

/-- Runs an effect when a condition holds. -/
def sif (c : Bool) (f : State → State) (s : State) : State := if c then f s else s

/-- The numbers of the set bits of a mask, below `n`. -/
def bitsOf (n m : Nat) : List Nat := (List.range n).filter (fun k => m.testBit k)

end Sys2Proof.Machine
end

