-- ==== Sys2Proof/Machine/Flags.lean ====
section
/-! DEFINITION. What the commands of every family report: interrupts (R136), the first error of a page (R140), the fault
summary (R474, R487), events on their way to channels (R178), results and event items in the queues (R23, R107–R123), and
the queue pins (R117–R120). -/

namespace Sys2Proof.Machine

/-! ## Interrupts -/

/-- One occurrence of event source `k` of page `p` (R136). -/
def irq (p k : Nat) (s : State) : State :=
  let t := setRb (Reg.irqRaw p) k true s
  if s.rb (Reg.irqEn p) k then setRb (Reg.irqStat p) k true t else t

/-- Level source `k` of page `p` follows its condition; a rise is an occurrence (R136). -/
def irqLevel (p k : Nat) (b : Bool) (s : State) : State :=
  let t := setRb (Reg.irqRaw p) k b s
  if b && !s.rb (Reg.irqRaw p) k && s.rb (Reg.irqEn p) k then setRb (Reg.irqStat p) k true t else t

/-- Whether IRQ_N is low: some page holds a set bit in IRQ_STAT (R125). -/
def State.irqLow (s : State) : Bool := (List.range 0x2c).any (fun p => s.reg (Reg.irqStat p) != 0)

/-! ## The hottest site -/

/-- Keeps what the sensors last gave (R431; log entry 100): the three die sites in 1/16 °C under 0–2, and VFLD in mV under 3. -/
def readSensor (k : Nat) (v : Int) : State → State := fun s => { s with mgt := { s.mgt with reads := tabSet 0 s.mgt.reads k v } }

/-- What the sensor under `k` gave last. -/
def State.read (s : State) (k : Nat) : Int := tabGet 0 s.mgt.reads k

/-- The sites whose temperature is known, with it. -/
def State.sites (s : State) : List (Nat × Int) :=
  (List.range 3).filterMap (fun k => (tabGet none s.mgt.temps k).map (fun v => (k, v)))

/-- The hottest site and its temperature in 1/16 °C; an injection replaces the temperature (R476). -/
def State.hottest (s : State) : Option (Nat × Int) :=
  let h := s.sites.foldl (fun (m : Option (Nat × Int)) p =>
    match m with
    | none => some p
    | some q => if q.2 < p.2 then some p else m) none
  match s.mgt.injTemp with
  | none => h
  | some v => some ((h.map Prod.fst).getD 0, 16 * v)

/-- The details of THERMAL (R141): the hottest site and its temperature in °C; 0 while no temperature is known (R488). -/
def State.hotSite (s : State) : Nat × Nat := (s.hottest.map (fun p => (p.1, unsigned 16 (p.2 / 16)))).getD (0, 0)

/-! ## Shared error codes (R141) -/

abbrev Err.none : Nat := 0x00
abbrev Err.resourceBusy : Nat := 0x01
abbrev Err.badHandle : Nat := 0x02
abbrev Err.staleHandle : Nat := 0x03
abbrev Err.late : Nat := 0x04
abbrev Err.txMissed : Nat := 0x05
abbrev Err.overrun : Nat := 0x06
abbrev Err.truncated : Nat := 0x07
abbrev Err.crcFail : Nat := 0x08
abbrev Err.authLocked : Nat := 0x09
abbrev Err.detuned : Nat := 0x0a
abbrev Err.modeAbort : Nat := 0x0b
abbrev Err.flushed : Nat := 0x0c
abbrev Err.notQuiesced : Nat := 0x0d
abbrev Err.ownerDenied : Nat := 0x0e
abbrev Err.secureDenied : Nat := 0x0f
abbrev Err.rateLimited : Nat := 0x10
abbrev Err.swapRejected : Nat := 0x11
abbrev Err.captured : Nat := 0x12
abbrev Err.falseSync : Nat := 0x13
abbrev Err.fieldLost : Nat := 0x14
abbrev Err.thermal : Nat := 0x15
abbrev Err.imageInvalid : Nat := 0x16
abbrev Err.budgetLimit : Nat := 0x17
abbrev Err.collisionUnresolved : Nat := 0x18
abbrev Err.guardViolation : Nat := 0x19

/-- The class of DBG.FAULT_SUM that a code sets when nothing about its cause says otherwise (R487); `none` for no class. -/
def errClass (code : Nat) : Option Nat :=
  match code with
  | 0x00 | 0x0c => none
  | 0x04 | 0x05 => some 4
  | 0x06 | 0x10 => some 6
  | 0x08 | 0x12 | 0x13 | 0x18 => some 7
  | 0x09 => some 16
  | 0x0a => some 1
  | 0x11 => some 9
  | 0x14 => some 0
  | 0x15 => some 11
  | 0x16 => some 13
  | 0x17 => some 3
  | 0x19 => some 5
  | _ => some 10

/-- Whether a fault of class `cls` at page `p` is the one that DBG.FIRST captures (R474): the first since all bits were 0, and of those in one SYS cycle
that of the lowest class, then of the lowest page. -/
def State.firstIs (s : State) (cls p : Nat) : Bool :=
  let w := s.reg Reg.dbgFirst
  s.reg Reg.dbgFaultSum == 0 || (bit w 31 && s.regPair Reg.dbgFirstTickLo == s.now && decide (cls * 256 + p < fld w 28 24 * 256 + fld w 23 16))

/-- A fault of class `cls` arises at page `p` with a code (R474); `same` tells that it may share its SYS cycle with the one that FIRST holds. -/
def faultIn (same : Bool) (cls p code : Nat) (s : State) : State :=
  sif (if same then s.firstIs cls p else s.reg Reg.dbgFaultSum == 0) (fun t => setPair Reg.dbgFirstTickLo t.now
      (setReg Reg.dbgFirst (wd (2 ^ 31 + cls * 2 ^ 24 + p * 2 ^ 16 + code * 2 ^ 8)) t))
    (sif (!s.rb Reg.dbgFaultSum cls) (fun t => irq Page.dbg 0 (setRb Reg.dbgFaultSum cls true t)) s)

/-- A fault of class `cls` arises at page `p` with a code (R474). -/
def fault (cls p code : Nat) (s : State) : State := faultIn true cls p code s

/-- A fault of the class given, if one is. -/
def faultOpt (cls : Option Nat) (p code : Nat) (s : State) : State :=
  match cls with
  | some c => fault c p code s
  | none => s

/-- Stands for a detail of an error that neither R141 nor the block's chapter gives: a free value takes its place (log entry 61).
No detail has this value, for each is a word or half a word. -/
abbrev openDetail : Nat := 2 ^ 64

/-- A detail as it is recorded. -/
def State.detail (s : State) (d : Nat) : Nat := if d = openDetail then s.freeVal else d

/-- The state after a detail has been recorded. -/
def detailUsed (d : Nat) (s : State) : State := if d = openDetail then nextFree s else s

/-- ERR_INFO and ERR_CODE take a page's first error. -/
def noteFirst (p code info extra : Nat) (s : State) : State :=
  let t := detailUsed info s
  detailUsed extra (setReg (Reg.errInfo p) (wd (s.detail info))
    (setReg (Reg.errCode p) (wd ((t.detail extra % 2 ^ 16) * 2 ^ 16 + 2 ^ 10 + code)) t))

/-- Page `p` records an error (R140): the first since the last clear with its detail, a later one in COUNT alone; the fault
class is given (R487). -/
def recErrAs (cls : Option Nat) (p code info extra : Nat) (s : State) : State :=
  let t := if s.rf (Reg.errCode p) 15 10 = 0 then noteFirst p code info extra s else addRf (Reg.errCode p) 15 10 1 s
  faultOpt cls p code (irq p 31 t)

/-- Page `p` records an error with its usual class. -/
def recErr (p code info extra : Nat) (s : State) : State := recErrAs (errClass code) p code info extra s

/-- Page `p` records the error of a write or another command that it refuses: a command has a SYS cycle of its own (log entry 9), so FIRST stays
with a fault that stands. -/
def refusalErr (p code info extra : Nat) (s : State) : State :=
  let t := recErrAs none p code info extra s
  match errClass code with
  | some c => faultIn false c p code t
  | none => t

/-- Page `p` records LATE for a target tick and the tick at which it acted (R141). -/
def recLate (p target actual : Nat) (s : State) : State :=
  recErr p Err.late (target % 2 ^ 32) (min 0xffff (actual - target)) s

/-! ## Events -/

/-- The channel an event enters now (R183): the one its fire names, or the one PUBp names; 64 and above is none. -/
def State.chanOf (s : State) (e : Event) : Nat := e.named.getD (s.rf (Reg.evfPub e.prod) 6 0)

/-- Whether an event has come to its edge with no channel to enter (R178, R183): its producer stands at 0x7F, and the 2 LSP cycles
in which it crosses into LSP are over (R182). -/
def State.lapsed (s : State) (e : Event) : Bool := decide (64 ≤ s.chanOf e ∧ e.tick + 1 < s.now)

/-- The events that no channel carried are gone. -/
def dropLapsed (s : State) : State := modFab (fun f => { f with waiting := f.waiting.filter (fun e => !s.lapsed e) }) s

/-- Producer `p` publishes an event with tick `t` (R178): it waits to enter the channel that EVF.PUBp names on its edge. -/
def publish (p t : Nat) (s : State) : State :=
  modFab (fun f => { f with waiting := f.waiting ++ [⟨p, t, none⟩] }) (dropLapsed s)

/-- An event for a channel that its producer names (R189, R180). -/
def publishOn (p chan t : Nat) (s : State) : State :=
  modFab (fun f => { f with waiting := f.waiting ++ [⟨p, t, some chan⟩] }) s

/-! ## Queue items -/

/-- The words of an item (R108). -/
def Item.words (i : Item) : List Word :=
  [wd (i.prio % 4 * 2 ^ 30 + i.typ % 64 * 2 ^ 24 + (4 + i.payload.length) % 4096 * 2 ^ 12 + i.seq % 4096),
   wd (i.handle % 65536 * 2 ^ 16 + i.err % 256 * 2 ^ 8 + i.flags % 256), loWord i.ts, hiWord i.ts] ++ i.payload

/-- How many words an item takes (R108). -/
def Item.len (i : Item) : Nat := 4 + i.payload.length

/-- Words in a queue of whole items and one partly read or written. -/
def fillOf (l : List Item) (part : List Word) : Nat := (l.map Item.len).sum + part.length

/-- Words in the command queue, those of a partly written item included (R117). -/
def State.cmdFill (s : State) : Nat := fillOf s.queue.cmd s.queue.cmdPart
/-- Words in the result queue. -/
def State.resFill (s : State) : Nat := fillOf s.queue.res s.queue.resPart
/-- Words in the event queue. -/
def State.evtFill (s : State) : Nat := fillOf s.queue.evt s.queue.evtPart

/-- Whether a page's STATUS reads QUIESCED: it is quiesced, or disabled (R133, R135). -/
def State.quiesced (s : State) (p : Nat) : Bool := s.rb (Reg.status p) 0 || !s.rb (Reg.ctrl p) 0

/-- A command to the block of page `p`: while EN is 0 it has no effect, and the page records MODE_ABORT (R135; log entry 84). -/
def pageWork (p : Nat) (f : State → State) (s : State) : State :=
  if s.rb (Reg.ctrl p) 0 then f s else refusalErr p Err.modeAbort openDetail openDetail s

/-- The HOLD watermark latch and what each crossing of HIGH from the released state records (R117, R120). -/
def holdLatch (s : State) : State :=
  if !s.queue.holdLatch && decide (s.rf Reg.queueHoldMarks 11 0 ≤ s.cmdFill) then
    addRf Reg.queueCrossCnt 15 0 1 (irq Page.queue 3 (setRb Reg.queueNotice 0 true
      (modQueue (fun q => { q with holdLatch := true }) s)))
  else if s.queue.holdLatch && decide (s.cmdFill ≤ s.rf Reg.queueHoldMarks 27 16) then
    modQueue (fun q => { q with holdLatch := false }) s
  else s

/-- The ATTN watermark latch and what each crossing of HIGH from the released state records (R118, R120). -/
def attnLatch (s : State) : State :=
  if !s.queue.attnLatch && decide (s.rf Reg.queueAttnMarks 12 0 ≤ s.resFill) then
    addRf Reg.queueCrossCnt 31 16 1 (irq Page.queue 4 (setRb Reg.queueNotice 1 true
      (modQueue (fun q => { q with attnLatch := true }) s)))
  else if s.queue.attnLatch && decide (s.resFill ≤ s.rf Reg.queueAttnMarks 28 16) then
    modQueue (fun q => { q with attnLatch := false }) s
  else s

/-- Whether HOLD_N is asserted (R117): a command-queue flush is in progress from the write until FLUSHED is posted (R122). -/
def State.holdNow (s : State) : Bool :=
  s.queue.holdLatch || s.queue.flushing || s.quiesced Page.queue || !s.isReady

/-- Whether ATTN_N is asserted (R118). -/
def State.attnNow (s : State) : Bool := s.queue.attnLatch || s.queue.stale

/-- HOLD_N takes the level of its condition and publishes each assertion (R128). -/
def holdPin (s : State) : State :=
  let t := modQueue (fun q => { q with holdLow := s.holdNow }) s
  if s.holdNow && !s.queue.holdLow then publish 0xea s.now t else t

/-- ATTN_N takes the level of its condition, QUEUE.IRQ_RAW[0] follows it, and each assertion publishes (R118, R128). -/
def attnPin (s : State) : State :=
  let t := irqLevel Page.queue 0 s.attnNow (modQueue (fun q => { q with attnLow := s.attnNow }) s)
  if s.attnNow && !s.queue.attnLow then publish 0xe9 s.now t else t

/-- Brings latches, pins and level sources into step with the fills of the queues (R117–R120, R128). -/
def settle (s : State) : State :=
  let t := attnPin (holdPin (attnLatch (holdLatch (modQueue (fun q =>
    { q with stale := q.stale && decide (0 < s.resFill) }) s))))
  irqLevel Page.queue 1 (decide (0 < s.rf Reg.queueEvtMark 9 0) && decide (s.rf Reg.queueEvtMark 9 0 ≤ s.evtFill)) t

/-! ## Claims (R37–R39) -/

/-- The claimant code that holds resource `i`; 0 when it is free (R154). -/
def State.holder (s : State) (i : Nat) : Nat := s.rf (Reg.sysResClaim i) 15 12

/-- The holder entry of resource `i` (R154). -/
def State.resEntry (s : State) (i : Nat) : Nat := (s.reg (Reg.sysResClaim i)).toNat

/-- Cell `c` is to be evaluated on an LSP edge too (R193). -/
def cellMark (c edge : Nat) : State → State :=
  modFab (fun f => { f with cellNext := tabSet [] f.cellNext c (edge :: (tabGet [] f.cellNext c).filter (· != edge)) })

/-- The channel's flip-flop takes INIT when the claim of cell `c` is taken, and the look-up result from there on (R194). -/
def cellClaimed (c : Nat) (s : State) : State :=
  cellMark c (2 * s.now) (setRb (Reg.evfLutCellStatus c) 0 (s.rb (Reg.evfLutCellCfg c) 11 && s.rb (Reg.evfLutCellCfg c) 8) s)

/-- Resource `i` passes to a claimant with a handle and a detail (R154). -/
def claimRes (i claimant handle detail : Nat) (s : State) : State :=
  sif (decide (0x50 ≤ i ∧ i < 0x60)) (cellClaimed (i - 0x50))
    (setReg (Reg.sysResClaim i) (wd (handle % 65536 * 65536 + claimant * 4096 + detail % 4096)) s)

/-- A released GP pin returns to FUNC 0b000, in use and in the shadow, and its pulse ends (R196). -/
def gpRelease (g : Nat) (s : State) : State :=
  modFab (fun f => { f with gpPulse := tabSet none f.gpPulse g none, gpSince := tabSet none f.gpSince g none })
    (setShade (Reg.evfGpCfg g) (setFld (s.shade (Reg.evfGpCfg g)) 2 0 0) (setRf (Reg.evfGpCfg g) 2 0 0 s))

/-- Resource `i` becomes free. -/
def releaseRes (i : Nat) (s : State) : State :=
  sif (decide (0x68 ≤ i ∧ i < 0x78)) (gpRelease (i - 0x68)) (setReg (Reg.sysResClaim i) 0 s)

/-- Releases every resource for which the holder entry satisfies `p`. -/
def releaseAll (p : Nat → Nat → Bool) (s : State) : State :=
  forEach (List.range 0x79) (fun i t => if s.holder i ≠ 0 ∧ p i (s.resEntry i) then releaseRes i t else t) s

/-! ## Fields (R51, R83, R202, R461) -/

/-- Whether VFLD is present. -/
def State.vfldOk (s : State) : Bool := s.boot.vfld && !s.boot.overvolt

/-- Why the drivers cannot be switched on (R51, R432, R434, R470): the code a field-on step completes with. -/
def State.driveBar (s : State) : Option Nat :=
  if s.rb Reg.sensProt 28 then some Err.thermal else if !s.vfldOk then some Err.fieldLost else none

/-- The coil that Crocus holds and whose pulse falls on the present tick: 54 cc of each slot of 64 (R461), unless its drive has been
stopped in the slot. -/
def State.crocusTurn (s : State) : Option Nat :=
  match s.crocus.sweep with
  | none => none
  | some (start, l) =>
    match l[(s.now - start) / 512]? with
    | none => none
    | some c =>
      if start ≤ s.now ∧ (s.now - start) % 512 < 432 ∧ s.holder c = 8 ∧ !s.crocus.dark.testBit c then some c else none

/-- The coil of the Crocus pulse at the present tick (R461). -/
def State.crocusPulse (s : State) : Option Nat :=
  s.crocusTurn.filter (fun c => s.driveBar.isNone && !(s.coil c).injected)

/-- The 1,600 µs of one coil's tuner sweep (R83), in ft. -/
abbrev sweepFt : Nat := 173568

/-- The coils that a calibration would drive at the present tick: of a requested tuner sweep its coils in turn (R83, R95); at a start
that of step 8, or every populated coil in step 18 (R75, R76). -/
def State.sweepTurn (s : State) : List Nat :=
  match s.mgt.cal, s.boot.plan with
  | some j, _ =>
    if j.kind ≠ 3 then []
    else ((List.range 12).filter (fun c => j.coils.testBit c))[(s.now - j.start) / sweepFt]?.toList
  | none, some p =>
    match p.main with
    | (8, c) :: _ => [c]
    | (18, _) :: _ => (List.range 12).filter (fun c => p.pop.testBit c)
    | _ => []
  | none, none => []

/-- The coils that a calibration drives at the present tick. -/
def State.sweptNow (s : State) : List Nat :=
  s.sweepTurn.filter (fun c => s.holder c == 2 && s.driveBar.isNone && !(s.coil c).injected)

/-- Whether the field of coil `c` is on (R202), whoever holds it. -/
def State.coilOn (s : State) (c : Nat) : Bool :=
  s.rb (Reg.coilDriveStatus c) 0 || s.crocusPulse == some c || s.sweptNow.contains c

/-! ## Session states (R30) -/

/-- STATE of slot `k`. -/
def State.sessState (s : State) (k : Nat) : Nat := s.ctx k 3 % 8
/-- Writes STATE of slot `k`. -/
def setSessState (k v : Nat) (s : State) : State := setCtx k 3 (s.ctx k 3 / 8 * 8 + v) s

/-- Sessions not FREE. -/
def State.inUse (s : State) : Nat := ((List.range 256).filter (fun k => k != 0 && s.sessState k != 0)).length

/-- SESS.USE follows the session table (R285). -/
def useCount (s : State) : State :=
  setRf Reg.sessUse 15 8 (max (s.rf Reg.sessUse 15 8) s.inUse) (setRf Reg.sessUse 7 0 s.inUse s)

/-- Whether slot `k` holds an HF or XB session placed on FEn (R30, R280). -/
def State.placedOn (s : State) (n k : Nat) : Bool :=
  k != 0 && decide (2 ≤ s.sessState k ∧ s.sessState k ≤ 4) && s.ctx k 2 % 4 != 1 && s.ctx k 4 % 16 == n

/-- LARKSPUR holds a field engine on behalf of its placements (R37, R39): while no claimant holds an engine that serves a
session, player n claims it for the session of the lowest slot (log entry 83). -/
def engineClaims (s : State) : State :=
  forEach (List.range 4) (fun n t =>
    match if t.holder (0x10 + n) = 0 then (List.range 256).find? (t.placedOn n) else none with
    | some k => claimRes (0x10 + n) 3 (t.ctx16 k 0) n t
    | none => t) s

/-! ## Results -/

/-- The least spacing of one producer's results (R123), in ft. -/
abbrev postSpacing : Nat := 8192

/-- The producers that R123 spaces: the engines (0–3) and the return band (4). -/
def spaced (src : Nat) : Bool := decide (src < 5)

/-- Whether a result of producer `src` and handle `h` with `len` words may be posted at tick `t`, with the results `ahead`
waiting before it: the queue is not quiesced (R128) and has room (R23), no result of the same session or the same producer
waits before it (R24), and the producer's spacing has passed (R123). A result of producer 6, which is posted at a cycle of its
own (R110, R111), waits behind none. -/
def State.canPost (s : State) (t : Nat) (ahead : List Held) (src h len : Nat) : Bool :=
  !s.quiesced Page.queue && decide (s.resFill + len ≤ 4096) &&
    ahead.all (fun x => (x.item.handle != h || h == 0 || src == 6 || x.src == 6) && (x.src != src || !spaced src)) &&
    (!spaced src || decide (tabGet 0 s.queue.lastPost src ≤ t))

/-- The device has written the frames area of slot `k`'s context, of which the manual gives no layout (R31): its 32 bytes take
free values (log entry 79). -/
def framesArea (k : Nat) (s : State) : State :=
  { setBytes (ctxAddr k 0x60) ((List.range 32).map (fun j => BitVec.ofNat 8 (Config.freeValue (s.free + j)))) s with
    free := s.free + 32 }

/-- Frees the frame-pool blocks of slot `k`'s oldest exchange, FRAME_MAX of them (R22); slot 0 keeps none. -/
def freeBlocks (k : Nat) (s : State) : State :=
  if k = 0 then s
  else framesArea k (modSess (fun x => { x with blocks := tabSet [] x.blocks k ((tabGet [] x.blocks k).drop (s.ctx k 6 % 16)) }) s)

/-- The timestamp of a result whose producer's chapter defines none (R111): the tick of its posting, not yet known. -/
abbrev postTick : Nat := 2 ^ 64

/-- The slot of the session that a handle names, when it lives (R25, R26). -/
def State.slotOf (s : State) (h : Nat) : Option Nat :=
  let k := h % 256
  if k ≠ 0 ∧ s.ctx16 k 0 = h ∧ s.sessState k ≠ 0 then some k else none

/-- A session's statistics of a result (R489); producers 0–4 alone post what became of a received frame. -/
def countResult (i : Item) (src : Nat) (s : State) : State :=
  match s.slotOf i.handle with
  | none => s
  | some k =>
    if i.err = Err.none then s
    else if i.err = Err.crcFail ∨ i.err = Err.falseSync ∨ i.err = Err.captured ∨ (i.err = Err.truncated ∧ spaced src) then
      incCtx16 k 0xb8 s
    else incCtx16 k 0xbc s

/-- SESSION_CLOSED of a handle has been posted (R28, R30, R39): the slot's generation counts, its claims end and it is free. -/
def closeSlot (h : Nat) (s : State) : State :=
  let k := h % 256
  engineClaims (useCount (setSessState k 0 (releaseAll (fun _ e => e / 65536 == h) (modSess (fun x => { x with
    closing := tabSet none x.closing k none
    gens := tabSet 0 x.gens k ((tabGet 0 x.gens k + 1) % 256)
    freed := x.freed ++ [k]
    blocks := tabSet [] x.blocks k [] }) s))))

/-- What a posted item ends: a flush its FLUSHED item (R122), a session its SESSION_CLOSED item (R28). The refusal of a malformed item of
either type (R111) ends nothing. -/
def postedEnds (i : Item) (t : Nat) (s : State) : State :=
  if i.typ = 0x31 ∧ i.err = 0 then
    publish 0xeb t (irq Page.queue 5 (setRb (Reg.status Page.queue) 1 false (modQueue (fun q => { q with flushing := false }) s)))
  else if i.typ = 0x30 ∧ i.err = 0 then closeSlot i.handle s
  else s

/-- Writes a result into the queue at tick `t` (R107), which stamps it when it has no other timestamp: it starts the stale clock
of an empty queue (R119), publishes RES_POSTED (R128), counts for its session (R489), and raises the fault of its code (R474). -/
def putResult (i : Item) (src slot t : Nat) (s : State) : State :=
  let u := modQueue (fun q =>
    { q with res := q.res ++ [{ i with ts := if i.ts = postTick then t else i.ts, posted := t }]
             staleFrom := if s.resFill = 0 then t else q.staleFrom
             lastPost := if spaced src then tabSet 0 q.lastPost src (t + postSpacing) else q.lastPost }) s
  settle (postedEnds i t (faultOpt i.cls i.page i.err (publish 0xe8 t (freeBlocks slot (countResult i src u)))))

/-- A producer hands over a result (R23): it is posted at once or, when it cannot be, waits with FLAGS.HELD. -/
def postResult (i : Item) (src slot : Nat) (s : State) : State :=
  if s.canPost s.now s.queue.held src i.handle i.len then putResult i src slot s.now s
  else modQueue (fun q => { q with held := q.held ++ [⟨{ i with flags := i.flags ||| 0x20 }, src, slot⟩] }) s

/-- A result that answers a command (R108–R110): its TYPE, PRIO, SEQ and handle, with a timestamp. -/
def answer (c : Item) (handle err flags ts : Nat) (payload : List Word) : Item :=
  { c with handle := handle, err := err, flags := flags, ts := ts, payload := payload, cls := errClass err }

/-- FLAGS.PLACE of an item for a handle (R109): the placement number of an HF or XB session, 0 otherwise. -/
def State.placeOf (s : State) (h : Nat) : Nat :=
  match s.slotOf h with
  | some k => if s.ctx k 2 % 4 = 1 then 0 else s.ctx k 3 / 16
  | none => 0

/-- A detail word of a refusal: 0 where no rule names it (R488). -/
def refusalWord (d : Nat) : Nat := if d = openDetail then 0 else d

/-- The refusal of a command (R488): LEN 6, the handle as written, and the two details; `slot` names the session whose blocks
go with it (R22). -/
def refuseFor (slot : Nat) (c : Item) (err d4 d5 : Nat) (s : State) : State :=
  postResult (answer c c.handle err (s.placeOf c.handle) postTick [wd (refusalWord d4), wd (refusalWord d5 % 65536)]) 5 slot s

/-- The refusal of a command that holds no blocks. -/
def refuse : Item → Nat → Nat → Nat → State → State := refuseFor 0

/-- A result that no command asked for carries the next count of the result queue (R108). -/
def postUnsolicited (i : Item) (src slot : Nat) (s : State) : State :=
  postResult { i with seq := s.queue.resSeq } src slot
    (modQueue (fun q => { q with resSeq := (q.resSeq + 1) % 4096 }) s)

/-- Writes an item into the event queue. -/
def putEvent (i : Item) (s : State) : State :=
  modQueue (fun q => { q with evt := q.evt ++ [{ i with seq := q.evtSeq }], evtSeq := (q.evtSeq + 1) % 4096 }) s

/-- The EVT_OVERRUN item that reports dropped events (R116). -/
def State.overrunItem (s : State) : Item :=
  ⟨0x39, 0, 0, 0, Err.overrun, 0, s.queue.evtDropTick, [wd (min 0xffffffff s.queue.evtDropped)], s.now, Page.queue, some 6⟩

/-- Offers an event item to the event queue (R116): admitted only with room for it and 5 words, after an EVT_OVERRUN item
for the events dropped before it; otherwise dropped and counted. -/
def offerEvent (i : Item) (s : State) : State :=
  if s.evtFill + i.len + 5 ≤ 512 then
    let t :=
      if s.queue.evtDropped = 0 then s
      else fault 6 Page.queue Err.overrun (modQueue (fun q => { q with evtDropped := 0 }) (putEvent s.overrunItem s))
    settle (putEvent i t)
  else
    fault 6 Page.queue Err.overrun (irq Page.queue 2 (setRb Reg.queueNotice 3 true (addRf Reg.queueLossCnt 15 0 1
      (modQueue (fun q => { q with evtDropTick := if q.evtDropped = 0 then i.ts else q.evtDropTick
                                   evtDropped := q.evtDropped + 1 }) s))))

end Sys2Proof.Machine
end

