-- ==== Sys2Proof/Machine/Operands.lean ====
section
/-! DEFINITION. The operand forms of the commands: agents and claimants, the checks that every register write passes
(R139), the registers written as pairs (R150), the items the host writes (R108), and task inputs (R181, R186, R187). -/

namespace Sys2Proof.Machine

/-! ## Agents and claimants -/

/-- The agent codes of OWNER.AGENT and of ERR_INFO[31:30] (R138, R141). -/
def agentCode : Agent → Nat
  | .host => 0
  | .hollyhock => 1
  | .larkspur => 2

/-- The claimant code of an agent in SYS.RES_CLAIM (R154). -/
def agentClaimant : Agent → Nat
  | .host => 1
  | .hollyhock => 2
  | .larkspur => 3

/-- Whether an index names a resource (R153). -/
def resListed (i : Nat) : Bool :=
  decide (i < 0x0c) || decide (0x10 ≤ i ∧ i < 0x14) || decide (0x18 ≤ i ∧ i < 0x4c) ||
    decide (0x50 ≤ i ∧ i < 0x78) || decide (i = 0x78)

/-- Whether an agent holds resource `i`. -/
def State.holds (s : State) (ag : Agent) (i : Nat) : Bool := s.holder i == agentClaimant ag

/-- Whether FEn, as a claimant, holds resource `i`. -/
def State.feHolds (s : State) (n i : Nat) : Bool := s.holder i == 4 + n

/-! ## Register writes -/

/-- Whether page `p`'s island is out of reset and powered (R131): the return-band pages also need VDDRF and an open gate
(R50, R156). -/
def State.pageUp (s : State) (p : Nat) : Bool :=
  pageExists p && !(decide (0x1f ≤ p ∧ p ≤ 0x24) && (s.rb Reg.clkGate 0 || !s.boot.vddrf))

/-- The detail of OWNER_DENIED, NOT_QUIESCED and SECURE_DENIED for a register write (R141). -/
def writeInfo (ag : Agent) (a : Nat) : Nat := agentCode ag * 2 ^ 30 + a % 0x1000

/-- Whether the register at `a` has a field of access type `x` among the bits `m` that a write carries. -/
def hasAcc (m : Word) (a : Nat) (x : Acc) : Bool :=
  match rowAt a with
  | some r => r.maskOf (fun f => f.acc == x) &&& m != 0
  | none => false

/-- Whether OWNER.SECURE keeps an agent out of page `p` (R139 check 2). -/
def State.secureOut (s : State) (ag : Agent) (p : Nat) : Bool := s.rb (Reg.owner p) 8 && ag != .hollyhock

/-- Check 1 of R139 and the rule of R79: the effect runs when the page is up and, before READY, when the page may be
written then; otherwise SYS records MODE_ABORT, or the page OWNER_DENIED. A write of the host does not come while QRDY holds every
word (R105; log entry 45). -/
def availGuard (ag : Agent) (a : Nat) (eff : State → State) (s : State) : State :=
  let p := a / 0x1000
  if ag == .host && !s.hostUp then s
  else if !s.pageUp p then refusalErr Page.sys Err.modeAbort a 0 s
  else if ag == .host && !s.isReady &&
      !(p == Page.rst || p == Page.hif || p == Page.pinmux || (p == Page.upd && s.boot.phase == .noImage)) then
    refusalErr p Err.ownerDenied (writeInfo ag a) 0 s
  else eff s

/-- Checks 1 and 2 of R139, for the writes that are exempt from the others. -/
def secureGuard (ag : Agent) (a : Nat) (eff : State → State) (s : State) : State :=
  availGuard ag a (fun t =>
    if t.secureOut ag (a / 0x1000) then refusalErr (a / 0x1000) Err.secureDenied (writeInfo ag a) 0 t else eff t) s

/-- Checks 1, 2, 4 and 5 of R139 on a write that carries the bits `m`, with `own` in place of check 3. -/
def guardedFor (m : Word) (own : Bool) (ag : Agent) (a : Nat) (eff : State → State) (s : State) : State :=
  let p := a / 0x1000
  secureGuard ag a (fun t =>
    if !own then refusalErr p Err.ownerDenied (writeInfo ag a) 0 t
    else if hasAcc m a .rwl && t.rb (Reg.lock p) 0 then refusalErr p Err.ownerDenied (writeInfo ag a) 0 t
    else if hasAcc m a .rws && !t.quiesced p then refusalErr p Err.notQuiesced (writeInfo ag a) 0 t
    else eff t) s

/-- The same checks on a write of the whole word. -/
def guardedBy (own : Bool) : Agent → Nat → (State → State) → State → State := guardedFor (BitVec.allOnes 32) own

/-- All the checks of R139 on a write by `ag` to the register at `a`. -/
def guarded (ag : Agent) (a : Nat) (eff : State → State) (s : State) : State :=
  guardedBy (s.rf (Reg.owner (a / 0x1000)) 1 0 == agentCode ag) ag a eff s

/-- The latch of a register pair that an agent has read the LO word of (R150, R158), by agent code and LO address. -/
def latchKey (ag : Agent) (a : Nat) : Nat := agentCode ag * 2 ^ 24 + a

/-- Reads the LO word of a pair and latches the HI word for the agent (R150). -/
def latchPair (ag : Agent) (a : Nat) (hi : Word) (s : State) : State :=
  modTime (fun t => { t with latch := tabSet none t.latch (latchKey ag a) (some hi) }) s

/-- Releases an agent's latch of the pair at `a`. -/
def unlatch (ag : Agent) (a : Nat) (s : State) : State :=
  modTime (fun t => { t with latch := tabSet none t.latch (latchKey ag a) none }) s

/-- The HI word that an agent's latch of the pair at `a` holds, if it holds one. -/
def State.latched (s : State) (ag : Agent) (a : Nat) : Option Word := tabGet none s.time.latch (latchKey ag a)

/-- Whether an access by an agent can come: the host's needs its port (R105). -/
def State.portUp (s : State) (ag : Agent) : Bool := ag != .host || s.hostUp

/-- Whether an agent's read can come: its port is up, and every earlier write of it has taken effect (R149); one that a commit holds
keeps it waiting. -/
def State.readsNow (s : State) (ag : Agent) : Bool := s.portUp ag && !s.heldWrites.any (fun h => h.ag == ag)

/-- A write of a LO word is held until its HI word is written (R150). -/
def holdLo (a : Nat) (w : Word) (s : State) : State :=
  modTime (fun t => { t with targetLo := tabSet none t.targetLo a (some w) }) s

/-- The LO word that goes with a write of the HI word: the one held, else the one in use. -/
def State.loFor (s : State) (a : Nat) : Word := (tabGet none s.time.targetLo a).getD (s.reg a)

/-- Ends the hold of a LO word. -/
def dropLo (a : Nat) (s : State) : State :=
  modTime (fun t => { t with targetLo := tabSet none t.targetLo a none }) s

/-- A write of the host into a memory window at byte `a` (R132). Before READY the host writes only the pages of R79 (log
entry 62). -/
def windowWrite (a : Nat) (eff : State → State) (s : State) : State :=
  if !s.hostUp then s else if !s.isReady then refusalErr Page.sys Err.ownerDenied a 0 s else eff s

/-! ## Storing a written word -/

/-- The access types whose written value is stored (R5). -/
def Acc.stores (x : Acc) : Bool := x == .rw || x == .rwl || x == .rws

/-- The value in use of the register at `a` after a write of `w` (R5, R145): stored fields take the written value, staged
ones only with STAGE at 0; W1C bits clear, W1S bits set, RO and WO fields keep. -/
def newInUse (a : Nat) (stage : Bool) (w old : Word) : Word :=
  match rowAt a with
  | none => old
  | some r =>
    let m := r.maskOf (fun f => f.acc.stores && !(stage && f.staged))
    let c := r.maskOf (fun f => f.acc == .w1c)
    let t := r.maskOf (fun f => f.acc == .w1s)
    (((old &&& ~~~ m) ||| (w &&& m)) &&& ~~~ (w &&& c)) ||| (w &&& t)

/-- The shadow of the register at `a` after a write of `w`: the staged fields take the written value (R145). -/
def newShadow (a : Nat) (w old : Word) : Word :=
  match rowAt a with
  | none => old
  | some r =>
    let m := r.maskOf (fun f => f.acc.stores && f.staged)
    (old &&& ~~~ m) ||| (w &&& m)

/-- What a commit applied to the register at `a` of a quiesced page waits no longer (R146). -/
def dropApplied (a : Nat) (s : State) : State := { s with applied := tabSet none s.applied a none }

/-- Stores a written word into the register at `a` and its shadow (R5, R145); `inUse` is what the new value in use does. A value in use
that is written supersedes one that a commit applied before it. -/
def storeWith (a : Nat) (w : Word) (inUse : Word → State → State) (s : State) : State :=
  let st := s.rb (Reg.stageCtrl (a / 0x1000)) 0
  inUse (newInUse a st w (s.reg a))
    (if hasStaged a then setShade a (newShadow a w (s.shade a)) (sif (!st) (dropApplied a) s) else s)

/-- Stores a written word whose value in use has no further effect. -/
def storeReg (a : Nat) (w : Word) : State → State := storeWith a w (setReg a)

/-! ## Staged values (R145–R147) -/

/-- The staged bits of the register at `a`. -/
def stagedMask (a : Nat) : Word := ((rowAt a).map (fun r => r.maskOf Field.staged)).getD 0

/-- The registers of page `p` that have staged fields. -/
def stagedRegs (p : Nat) : List Nat :=
  ((rowsOf p).filter (fun r => r.fields.any Field.staged)).flatMap (fun r =>
    (List.range r.c1).flatMap (fun i => (List.range r.c2).map (fun j => p * 0x1000 + r.off + r.s1 * i + r.s2 * j)))

/-- Nothing that a commit applied to page `p` waits any longer (R146). -/
def dropStaged (p : Nat) (s : State) : State := forEach (stagedRegs p) dropApplied s

/-- The word in use with the shadow's staged fields. -/
def State.merged (s : State) (a : Nat) : Word := (s.reg a &&& ~~~ stagedMask a) ||| (s.shade a &&& stagedMask a)

/-- The word that the register at `a` takes when its staged value goes into use: what a commit applied while the page was quiesced
(R146), else what the shadow gives; its fields that are not staged stand. -/
def State.stageWord (s : State) (a : Nat) : Word :=
  match tabGet none s.applied a with
  | some v => (s.reg a &&& ~~~ stagedMask a) ||| (v &&& stagedMask a)
  | none => s.merged a

/-- Whether a write by an agent to the register at `a` is held: by a commit that has been issued (R147, R308), or behind an earlier
write of the agent to the same page that is held (R149). -/
def State.holdsWrite (s : State) (ag : Agent) (a : Nat) : Bool :=
  s.heldWrites.any (fun h => h.ag == ag && h.addr / 0x1000 == a / 0x1000) ||
    s.commit.any (fun c => c.issued && c.pages.contains (a / 0x1000) && (hasStaged a || a % 0x1000 == 0x30))

/-- A write by an agent is held until the commit tick. -/
def pushHeld (ag : Agent) (a : Nat) (w : Word) (s : State) : State := { s with heldWrites := s.heldWrites ++ [⟨ag, a, w, none⟩] }

/-- A write that a commit may hold. -/
def hold (ag : Agent) (a : Nat) (w : Word) (f : State → State) (s : State) : State :=
  if s.holdsWrite ag a && s.portUp ag then pushHeld ag a w s else f s

/-- The staged values of page `p` go into use, for registers that need no more than that. -/
def stagePlain (p : Nat) (only : Nat → Bool) (s : State) : State :=
  forEach ((stagedRegs p).filter only) (fun a t => if t.stageWord a = t.reg a then t else setReg a (t.stageWord a) t) s

/-- Page `p` has applied its staged values: STATUS.APPLIED and IRQ_RAW[29] (R146). -/
def stageReport (p : Nat) (s : State) : State := irq p 29 (setRb (Reg.status p) 2 true s)

/-! ## Items as the host writes them -/

/-- The LEN of a header word. -/
def headLen (w : Word) : Nat := fld w 23 12
/-- The TYPE of a header word. -/
def headType (w : Word) : Nat := fld w 29 24

/-- The command types of R110. -/
def isCommandType (t : Nat) : Bool :=
  t == 0x01 || t == 0x02 || t == 0x03 || t == 0x04 || t == 0x08 || t == 0x09 || t == 0x0a || t == 0x0c ||
    t == 0x10 || t == 0x11 || t == 0x20

/-- The page that R474 gives for a refusal at dispatch of an item of a type; an exchange's own result takes its block's
page later. -/
def typePage (t : Nat) : Nat :=
  if t = 0x10 ∨ t = 0x11 then Page.ftb
  else if t = 0x20 then Page.queue
  else Page.sess

/-- A whole item from its words, accepted at tick `t` (R108). -/
def itemOf (ws : List Word) (t : Nat) : Item :=
  let h := ws.getD 0 0
  let k := ws.getD 1 0
  ⟨headType h, fld h 31 30, fld h 11 0, fld k 31 16, fld k 15 8, fld k 7 0, pair (ws.getD 2 0) (ws.getD 3 0),
    ws.drop 4, t, typePage (headType h), none⟩

/-- Whether a command item names an absolute start tick (FLAGS.AT, R109). -/
def Item.hasTick (i : Item) : Bool := i.flags.testBit 4

/-- Word `k` of an item, counted from the header as the manual counts. -/
def Item.word (i : Item) (k : Nat) : Word := i.payload.getD (k - 4) 0

/-- The slot of an item's handle (R25). -/
def Item.slot (i : Item) : Nat := i.handle % 256

/-! ## Task inputs -/

/-- The cycle length, in LSP cycles, of the island that takes task input `i` (R181, R13), AON excepted. -/
def taskCycle (i : Nat) : Nat :=
  if i ≤ 0x35 ∧ i ≠ 0x34 then 2
  else if 0x90 ≤ i ∧ i ≤ 0x97 then 4
  else if i = 0x9a then 2
  else 1

/-- The page of the block that takes task input `i` (R187). -/
def taskPage (i : Nat) : Nat :=
  if i < 0x34 ∨ i = 0x35 then Page.ftb
  else if i = 0x34 then Page.ftb
  else if i < 0x48 then Page.evf
  else if i < 0x88 then Page.evfLut
  else if i < 0x90 then Page.lsp
  else if i < 0x94 then Page.fe (i - 0x90)
  else if i < 0x98 then Page.fwgt
  else if i = 0x98 then Page.rbRx
  else if i = 0x99 then Page.crocus
  else if i = 0x9a then Page.mbox
  else Page.evf

/-- Records a coincidence at task input `i` (R186): one, however many events merge (log entry 113). -/
def coincide (i : Nat) (s : State) : State :=
  irq Page.evf 2 (addRf Reg.evfCnt 31 16 1 (setRb (Reg.evfCoincideFlag (i / 32)) (i % 32) true s))

/-- Drops an event at task input `i`, whose busy condition holds (R187). -/
def taskOverrun (i chan : Nat) (s : State) : State :=
  recErr Page.evf Err.overrun i chan
    (irq Page.evf 1 (addRf Reg.evfCnt 15 0 1 (setRb (Reg.evfOverrunFlag (i / 32)) (i % 32) true s)))

/-- A nominal AON cycle in LSP cycles (R13). AON has no grid on the FTB, so what arrives less than one cycle after the first
delivery counts as of its cycle (log entry 85). -/
abbrev aonCycle : Nat := 6621

/-- The deliveries that wait at task input `i` and reach it in the consumer cycle of the first (R186). -/
def State.arriving (s : State) (i : Nat) : List Task :=
  let l := s.fab.tasks.filter (fun t => t.input == i)
  match l with
  | [] => []
  | t :: _ => l.filter (fun u => if i = 0x99 then decide (u.edge < t.edge + aonCycle) else u.edge / taskCycle i == t.edge / taskCycle i)

/-- Takes the deliveries `l` away. -/
def takeTasks (l : List Task) (s : State) : State :=
  modFab (fun f => { f with tasks := l.foldl List.erase f.tasks }) s

/-- An event reaches task input `i` (R181): deliveries of one consumer cycle merge with the earliest tick (R186); at a
quiesced or disabled consumer the event is dropped and counted, at a busy one it overruns (R187); otherwise the action runs
with the event's tick. Without a delivery nothing happens. -/
def onTask (i : Nat) (busy : State → Bool) (act : Nat → State → State) (s : State) : State :=
  match if s.gated then [] else s.arriving i with
  | [] => s
  | t :: r =>
    let u := sif (decide (r ≠ [])) (coincide i) (takeTasks (t :: r) s)
    if u.quiesced (taskPage i) then addRf Reg.evfDropCnt 15 0 1 u
    else if busy u then taskOverrun i t.chan u
    else act ((r.map Task.tick).foldl min t.tick) u

/-- A unit acts on a register write by an agent or on an event at its task input (R181). The write is checked by the
caller's guard. -/
def bySource (src : Source) (i : Nat) (busy : State → Bool) (onWrite : Agent → State → State)
    (act : Nat → State → State) (s : State) : State :=
  match src with
  | .write ag => onWrite ag s
  | .event => onTask i busy act s

end Sys2Proof.Machine
end

