-- ==== Sys2Proof/Machine/Governor.lean ====
section
/-! DEFINITION. Effective weights and the receive sum (R227–R230), amplitudes and the conduction angle (R203, R204), the budget governor
(R233–R236), and what happens as time passes: the governor's boundaries and the reset edges of the chains (R218, R219). -/

namespace Sys2Proof.Machine

/-! ## Holders and sets -/

/-- Whether FEn uses coil `c` (R225): it holds it, and has not removed it from SET. -/
def State.usesCoil (s : State) (n c : Nat) : Bool := s.feHolds n c && !(s.coil c).damped

/-- The coils FEn holds. -/
def State.heldCoils (s : State) (n : Nat) : List Nat := (List.range 12).filter (fun c => s.feHolds n c)

/-- A set of coils as a mask. -/
def maskOfCoils (l : List Nat) : Nat := (l.map (fun c => 2 ^ c)).sum

/-- FEn_COILS.HELD follows the resource table (R224). -/
def heldRefresh (n : Nat) (s : State) : State := setRf (Reg.fwgtFeCoils n) 27 16 (maskOfCoils (s.heldCoils n)) s

/-- The engine that drives coil `c`, if one does. -/
def State.driver (s : State) (c : Nat) : Option Nat :=
  if s.coilOn c then (List.range 4).find? (fun n => s.usesCoil n c) else none

/-- Whether FEn has the field of at least one coil on, those included that it keeps damped. -/
def State.engOn (s : State) (n : Nat) : Bool := (List.range 12).any (fun c => s.coilOn c && s.feHolds n c)

/-- Whether FEn drives at least one coil (R209). -/
def State.engDrives (s : State) (n : Nat) : Bool := (List.range 12).any (fun c => s.coilOn c && s.usesCoil n c)

/-! ## Weights -/

/-- A weight's I and Q (R227). -/
def weightOf (w : Word) : Int × Int := (signed 16 (fld w 31 16), signed 16 (fld w 15 0))

/-- The weight of coil `c` in bank `b` of FEn. -/
def State.bankWeight (s : State) (n b c : Nat) : Int × Int :=
  weightOf (s.reg (if b = 0 then Reg.fwgtFeWa n c else Reg.fwgtFeWb n c))

/-- The weight of step `k` of a swap over `len` carrier cycles (R230): `a` before it, `b` when nothing is left. -/
def fadeWeight (a b : Int × Int) (k len : Nat) : Int × Int :=
  if k = 0 then a
  else if len ≤ k then b
  else (roundHalf (a.1 * len + (b.1 - a.1) * k) len, roundHalf (a.2 * len + (b.2 - a.2) * k) len)

/-- The step of a swap from boundary `start` in which the carrier cycle of tick `t` lies: 0 before it, k on the k-th cycle after it. -/
def fadeStep (start t : Nat) : Nat := if t < start then 0 else (t - start) / 8 + 1

/-- The weight w of coil `c` on the carrier cycle of tick `t`: of the bank in use, of the running fade, or of the swap that ended last
(R229, R230). -/
def State.weightAt (s : State) (n c t : Nat) : Int × Int :=
  let b := s.rf (Reg.fwgtFeBank n) 2 2
  match (s.eng n).fade, (s.eng n).lastSwap with
  | some (start, len), _ => fadeWeight (s.bankWeight n b c) (s.bankWeight n (1 - b) c) (fadeStep start t) len
  | none, some (e, len) =>
    if e ≤ t then s.bankWeight n b c
    else fadeWeight (s.bankWeight n (1 - b) c) (s.bankWeight n b c) (fadeStep (e - 8 * len) t) len
  | none, none => s.bankWeight n b c

/-- The weight on the present carrier cycle. -/
def State.weightNow (s : State) (n c : Nat) : Int × Int := s.weightAt n c s.now

/-- |v| in 1/1,024 (R228); with no valid result yet MM_RESULT counts as it stands (log entry 145). -/
def State.compMag (s : State) (n c : Nat) : Nat :=
  if s.rb (Reg.fwgtFeBank n) 5 then max 512 (min 2048 (s.rf (Reg.coilMmResult c) 31 16)) else 1024

/-- arg(v) in 0.1° (R228). -/
def State.compArg (s : State) (n c : Nat) : Int :=
  if s.rb (Reg.fwgtFeBank n) 5 then max (-450) (min 450 (-signed 16 (s.rf (Reg.coilMmResult c) 15 0))) else 0

/-- |u|² × 2^48, with |u| limited to 2.0 (R228). -/
def State.uSquared (s : State) (n c : Nat) : Nat :=
  let w := s.weightNow n c
  let z := s.compMag n c
  min (4 * 2 ^ 48) ((w.1 * w.1 + w.2 * w.2).toNat * z * z)

/-- u × 2^64 on the carrier cycle of tick `t`: real and imaginary part. -/
def State.uWeight (s : State) (n c t : Nat) : Int × Int :=
  let w := s.weightAt n c t
  let z : Int := s.compMag n c
  let cs := cosStep (s.compArg n c) 3600
  let sn := sinStep (s.compArg n c) 3600
  ((w.1 * cs - w.2 * sn) * z, (w.1 * sn + w.2 * cs) * z)

/-- conj(u) × z of an output of coil `c` in FEn, times 2^64, with the weight of the carrier cycle of the output's last input sample (R229). -/
def State.sumTerm (s : State) (n c : Nat) (o : ChainRec) : Int × Int :=
  let u := s.uWeight n c o.tick
  (u.1 * o.i + u.2 * o.q, u.1 * o.q - u.2 * o.i)

/-- The outputs of coil `c` have their terms in the receive sum of the engine that uses the coil: each is formed as the output comes, with the
weights then in force. -/
def weighOuts (c : Nat) (s : State) : State :=
  let n := ((List.range 4).find? (fun n => s.usesCoil n c)).getD 4
  modCoil c (fun x => { x with outs := x.outs.map (fun o =>
    if o.sum.isSome then o else { o with eng := n, sum := some (if n < 4 then s.sumTerm n c o else (0, 0)) }) }) s

/-- FEn uses coil `c` no longer: its outputs count in the engine's receive sum up to now (R229). -/
def coilLeaves (n c : Nat) (s : State) : State := sif (s.usesCoil n c) (modCoil c (fun x => { x with left := some (n, s.now) })) s

/-- Whether FEn used coil `c` at tick `t`. -/
def State.usedAt (s : State) (n c t : Nat) : Bool := s.usesCoil n c || (s.coil c).left.any (fun x => x.1 == n && decide (t < x.2))

/-- The receive sum y of FEn (R229) at an output's tick `t`: over the coils it used then, the latest output of each by that tick. The one
division by 16,384 is that of w (log entry 131); a half is rounded away from zero (log entry 130). -/
def State.receiveSumAt (s : State) (n t : Nat) : Int × Int :=
  let l := ((List.range 12).filter (fun c => s.usedAt n c t)).map (fun c =>
    (((s.coil c).outs.find? (fun o => decide (o.tick ≤ t))).bind (fun o => if o.eng = n then o.sum else none)).getD (0, 0))
  (satInt 24 (roundHalf (l.map Prod.fst).sum (2 ^ 64)), satInt 24 (roundHalf (l.map Prod.snd).sum (2 ^ 64)))

/-- The latest receive sum of FEn. -/
def State.receiveSum (s : State) (n : Nat) : Int × Int :=
  s.receiveSumAt n (((List.range 12).filter (fun c => s.usesCoil n c)).foldl (fun a c =>
    max a (((s.coil c).outs.head?.map ChainRec.tick).getD 0)) 0)

/-- How many outputs of a coil stay behind when no engine that holds it has a window; more than the 16 of R254's baseline. -/
abbrev outsKept : Nat := 256

/-- The outputs of coil `c` that no window needs any longer go. -/
def trimOuts (c : Nat) (s : State) : State :=
  if (List.range 4).any (fun n => s.feHolds n c && (s.eng n).air.opened.isSome) then s
  else modCoil c (fun x => { x with outs := x.outs.take outsKept }) s

/-! ## Amplitude and power -/

/-- The unit of power of the governor: 2^-20 µW (log entry 31). -/
abbrev powerUnit : Nat := 2 ^ 20

/-- g at the present tick: a rise moves in linear steps (R234). -/
def State.govG (s : State) : Nat :=
  let v := s.gov
  if v.goal ≤ v.base then v.goal
  else v.base + openDivNat ((v.goal - v.base) * min v.len ((s.now - v.start) / 8)) v.len

/-- The entry that a selected one becomes: SAFE_ENTRY while REDUCE stands (R209). -/
def State.actEntry (s : State) (c e : Nat) : Nat := if (s.coil c).act = 1 then s.rf (Reg.coilMmCfg c) 21 16 else e

/-- Whether a frame of FEn is on air at the present tick. -/
def State.onAir (s : State) (n : Nat) : Bool :=
  s.rf (Reg.feExchStatus n) 10 8 == 2 && decide ((s.eng n).air.start ≤ s.now) && (s.eng n).air.ref.any (fun r => decide (s.now < r))

/-- The entry that the encoder of FEn selects at the present tick (R246). -/
def State.encoderEntry (s : State) (n : Nat) : Nat :=
  let w := s.reg (Reg.feTxEnv n)
  (s.eng n).air.wave.entry (fld w 5 0) (fld w 21 16) (fld w 29 24) (fld w 13 12) ((s.now - (s.eng n).air.start) / 8)

/-- The power-table entry in use of coil `c`: the encoder's while its engine has a frame on air (R246), Crocus's in its pulse (R461), else the one
selected. -/
def State.entryInUse (s : State) (c : Nat) : Nat :=
  match s.driver c with
  | some n => if s.onAir n then s.actEntry c (s.encoderEntry n) else s.rf (Reg.coilDriveStatus c) 13 8
  | none => if s.crocusPulse = some c then s.rf Reg.crocusCfg 21 16 else s.rf (Reg.coilDriveStatus c) 13 8

/-- A² of coil `c` before the governor, in mV² × 2^48 (R203, R228). -/
def State.ampSquared (s : State) (n c : Nat) : Nat :=
  let a := 8 * s.rf (Reg.coilPwrTable c (s.entryInUse c)) 9 0
  a * a * s.uSquared n c

/-- The impedance of coil `c`: R_c in Ω × 2^57 × 100 from the last valid measurement, which MM_RESULT keeps, or RMIN (R233). Without
one MM_RESULT is 0. -/
def State.coilR (s : State) (c : Nat) : Nat :=
  let rmin := max 1 (s.rf Reg.fwgtGovCfg 31 24) * 100 * 1024 * trigOne
  let ph := signed 16 (s.rf (Reg.coilMmRef c) 31 16) + signed 16 (s.rf (Reg.coilMmResult c) 15 0)
  let r := ((s.rf (Reg.coilMmRef c) 15 0 * s.rf (Reg.coilMmResult c) 31 16 : Nat) : Int) * cosStep ph 3600
  max rmin r.toNat

/-- P_c, the predicted power of coil `c` driven by FEn (R233). -/
def State.predicted (s : State) (n c : Nat) : Nat :=
  s.ampSquared n c * 100 * 1024 * trigOne * powerUnit / (2 * 2 ^ 48 * s.coilR c)

/-- C_c, the cap of coil `c` (R205, R233). -/
def State.capOf (s : State) (c : Nat) : Nat :=
  min 1000 (s.rf (Reg.coilPwrTable c (s.entryInUse c)) 25 16) * 250 * powerUnit

/-- The power of the Crocus pulse at the present tick, its entry's PMAX (R461), and the 5 mW of each coil at the sweep drive (R76, R83). -/
def State.pulsePower (s : State) : Nat :=
  s.sweptNow.length * 5000 * powerUnit +
    s.crocusPulse.elim 0 (fun c => min 1000 (s.rf (Reg.coilPwrTable c (s.rf Reg.crocusCfg 21 16)) 25 16) * 250 * powerUnit)

/-- The budget in force in mW: TOTAL as it acts, or the protection cap when that is lower (R234, R433). -/
def State.budget (s : State) : Nat := min (min 2000 (s.rf Reg.fwgtGovBudget 11 0)) (s.rf Reg.sensProt 11 0)

/-- B (R234). -/
def State.budgetB (s : State) : Nat := s.budget * 1000 * powerUnit - s.pulsePower

/-- The driven coils, each with its engine. -/
def State.driven (s : State) : List (Nat × Nat) :=
  (List.range 12).filterMap (fun c => (s.driver c).map (fun n => (n, c)))

/-- ΣP′_c (R233, R234). -/
def State.totalP (s : State) : Nat := (s.driven.map (fun p => min (s.predicted p.1 p.2) (s.capOf p.2))).sum

/-! ## The governor -/

/-- The factor that the prediction asks for (R234). -/
def State.govWanted (s : State) : Nat :=
  if s.totalP ≤ s.budgetB then 1024 else isqrt (1024 * 1024 * s.budgetB / s.totalP)

/-- The granted total in mW (R235, R236). -/
def State.granted (s : State) (g : Nat) : Nat := s.totalP * g * g / (1024 * 1024 * 1000 * powerUnit)

/-- The exchanges on air when g lies below FLOOR carry BUDGET_LIMIT (R236). -/
def floorMark (g : Nat) (s : State) : State :=
  if g < s.rf Reg.fwgtGovCfg 21 12 then
    forEach (List.range 4) (fun n t =>
      if t.onAir n then
        modEng n (fun e => { e with exch := e.exch.map (fun x =>
          if x.errs.contains Err.budgetLimit then x else { x with errs := x.errs ++ [Err.budgetLimit] }) }) t
      else t) s
  else s

/-- The registers that show g: GOV_STATUS, GRANT and the LIMITING source (R236, R242). -/
def govShow (g : Nat) (s : State) : State :=
  irqLevel Page.fwgt 3 (decide (g < 1024)) (setRf Reg.fwgtGovMeas 27 16 (min 4095 (s.granted g))
    (setReg Reg.fwgtGovStatus (wd ((decide (g < 1024)).toNat * 2 ^ 31 + g * 2 ^ 16 +
      min 4095 (s.totalP / (1000 * powerUnit)))) s))

/-- What R236 reports: `old` and `g` are the factor before and after, `newly` the coils that became capped. -/
def govReport (old g : Nat) (newly : List Nat) (s : State) : State :=
  let fall := old == 1024 && decide (g < 1024)
  if fall ∨ newly ≠ [] then
    recErr Page.fwgt Err.budgetLimit (maskOfCoils (if fall then s.driven.map Prod.snd else newly)) (s.granted g)
      (irq Page.fwgt 2 (sif fall (addRf Reg.fwgtGovCnt 15 0 1) (addRf Reg.fwgtGovCnt 31 16 newly.length s)))
  else s

/-- g takes a value at the present tick (R234): a lower one at once, a higher one over RAMP carrier cycles. -/
def govSet (g : Nat) (s : State) : State :=
  let cur := s.govG
  if g ≤ cur then { s with gov := { s.gov with base := g, goal := g, start := s.now, len := 1 } }
  else if s.gov.goal = g then s
  else { s with gov := { s.gov with base := cur, goal := g, start := s.now, len := max 1 (s.rf Reg.fwgtGovCfg 7 0) } }

/-- The coils whose predicted power exceeds their cap (R233). -/
def State.overCap (s : State) : List Nat :=
  (s.driven.filter (fun p => decide (s.capOf p.2 < s.predicted p.1 p.2))).map Prod.snd

/-- LIMITING ends when g has risen to 1,024 (R236). -/
def limitEnd (s : State) : State :=
  sif (s.rb (Reg.irqRaw Page.fwgt) 3 && s.govG == 1024) (fun t => setReg Reg.fwgtGovStatus
    (setBit (setFld (t.reg Reg.fwgtGovStatus) 26 16 1024) 31 false) (irqLevel Page.fwgt 3 false t)) s

/-- IRQ_RAW of page `p` at the present tick: LIMITING of FWGT follows g (R136, R236), and FIELD of TAGC the field at the tag (R425). -/
def State.rawNow (s : State) (p : Nat) : Word :=
  let w := s.reg (Reg.irqRaw p)
  if p = Page.fwgt ∧ s.govG = 1024 then setBit w 3 false else if p = Page.tagc then setBit w 7 s.tag.field else w

/-! ## The conduction angle and the bridge (R203, R204, R228) -/

/-- A² of coil `c` after its cap, amplitude reduced by √(C_c / P_c) (R233), in mV² × 2^48. -/
def State.ampCapped (s : State) (n c : Nat) : Nat :=
  if s.capOf c < s.predicted n c then s.ampSquared n c * s.capOf c / s.predicted n c else s.ampSquared n c

/-- A² with the governor's factor, in mV² × 2^68. -/
def State.ampGoverned (s : State) (n c : Nat) : Nat := s.ampCapped n c * s.govG * s.govG

/-- A² of coil `c`, whoever drives it, in mV² × 2^68: Crocus at its own entry, capped at its PMAX (R58, R205, R461), a tuner sweep at the 5 mW of R83 into the last
impedance measured. -/
def State.amp2 (s : State) (c : Nat) : Nat :=
  match s.driver c with
  | some n => s.ampGoverned n c
  | none =>
    if s.crocusPulse = some c then
      let a := 8 * s.rf (Reg.coilPwrTable c (s.rf Reg.crocusCfg 21 16)) 9 0
      let p := a * a * 100 * 1024 * trigOne * powerUnit / (2 * s.coilR c)
      if s.capOf c < p then a * a * 2 ^ 68 * s.capOf c / p else a * a * 2 ^ 68
    else if s.sweptNow.contains c then 10000 * 2 ^ 68 * s.coilR c / (100 * 1024 * trigOne)
    else 0

/-- Whether A exceeds 1.2732 × VFLD, VFLD in mV (R204). -/
def overHead (a2 vfld : Nat) : Bool := decide ((12732 * vfld) * (12732 * vfld) * 2 ^ 68 < a2 * 100000000)

/-- θ in π/1,024 for A² (in mV² × 2^68) at VFLD in mV (R203): the last step at or below the exact angle, or the one above it
(log entry 30). -/
def thetaOf (a2 vfld : Nat) : Nat :=
  let le (k : Nat) : Bool :=
    decide (((sinStep k 4096) * (sinStep k 4096)).toNat * ((12732 * vfld) * (12732 * vfld)) * 2 ^ 68 ≤
      a2 * 100000000 * trigOne * trigOne)
  let k := (List.range 11).reverse.foldl (fun r j => if r + 2 ^ j ≤ 1024 ∧ le (r + 2 ^ j) then r + 2 ^ j else r) 0
  if overHead a2 vfld then 1024 else min 1024 (k + (a2 != 0 && Config.roundsUp a2 vfld).toNat)

/-- θ of coil `c` at the present tick, in π/1,024 (R203): from the amplitude now and VFLD as the last recompute measured it. -/
def State.theta (s : State) (c : Nat) : Nat := thetaOf (s.amp2 c) ((s.coil c).vfld.getD 0)

/-- Whether the bridge of coil `c` cannot reach its amplitude (R204); nothing is known of it before VFLD has been measured (log entry 88). -/
def State.noHead (s : State) (c : Nat) : Bool := (s.coil c).vfld.any (overHead (s.amp2 c))

/-- HEADROOM of coil `c` and its level source follow (R204). -/
def headFollow (c : Nat) (s : State) : State :=
  irqLevel (Page.coil c) 6 (s.noHead c) (setRb (Reg.coilDriveStatus c) 2 (s.noHead c) s)

/-- What a coil's bridge does (R44, R202, R204, R228). -/
inductive Bridge where
  /-- High-impedance: the field is off. -/
  | off
  /-- Both low-side switches on: AMPL 0, or a coil that is held damped. -/
  | lowSide
  /-- Switching with conduction angle `theta`, the positive peak `phase` after the carrier-cycle boundary, both in π/1,024. -/
  | drives (theta phase : Nat)
  deriving DecidableEq, Repr

/-- The bridge of coil `c` at the present tick; a trip of the current limit stops it for the rest of its carrier cycle (R57), in which the
model shows it high-impedance (log entry 129). -/
def State.bridge (s : State) (c : Nat) : Bridge :=
  if !s.coilOn c ∨ s.now < (s.coil c).stopTo then .off
  else if s.amp2 c = 0 then .lowSide
  else .drives (s.theta c) (match s.driver c with
    | some n => let u := s.uWeight n c s.now; drivePhase u.1 u.2
    | none => 0)

/-! ## The governor's acts -/

/-- Whether amplitudes change from carrier cycle to carrier cycle: a fade, a frame on air or a pulse (R230, R234, R246, R461). -/
def State.changing (s : State) : Bool :=
  (List.range 4).any (fun n => (s.eng n).fade.isSome || s.onAir n) || s.crocusPulse.isSome || s.sweptNow != []

/-- Whether the governor has a change of amplitudes to take at the present boundary: they move, or did when it last computed g. -/
def State.moving (s : State) : Bool := s.changing || s.gov.live

/-- The governor computes g for the present carrier-cycle boundary (R233, R234, R236), and HEADROOM follows the amplitudes (R204). -/
def govern (r : State) : State :=
  if r.gov.defer then r
  else
    let s := limitEnd r
    let high := s.overCap
    let newly := high.filter (fun c => !(s.coil c).capped)
    let t0 := govSet s.govWanted (forEach (List.range 12) (fun c => modCoil c (fun x => { x with capped := high.contains c })) s)
    let t := { t0 with gov := { t0.gov with live := s.changing, total := s.totalP, seen := s.now } }
    let u := floorMark t.govG (govReport s.govG t.govG newly (govShow t.govG t))
    forEach ((List.range 12).filter (fun c => u.coilOn c || u.rb (Reg.coilDriveStatus c) 2)) headFollow u

/-- The changes that follow belong to one boundary, of which the governor takes the whole (R234); or they have all been made. -/
def govDefer (b : Bool) (s : State) : State := { s with gov := { s.gov with defer := b } }

/-! ## Time that passes while amplitudes move (R234) -/

/-- The ticks at which a low interval of a frame that starts at tick `t` changes the entry (R246), with EDGE `k`. -/
def Low.ticks (t k : Nat) (o : Low) : List Nat :=
  (List.range (min k o.len + 1)).map (fun j => t + 8 * (o.first + j)) ++
    (List.range (min k o.len + 1)).reverse.map (fun j => t + 8 * (o.first + o.len - j))

/-- The boundaries at which FEn's amplitudes change: the entries of the frame on air, and the steps of the fade. -/
def State.engTicks (s : State) (n : Nat) : List Nat :=
  let a := (s.eng n).air
  (if a.ref.isSome ∧ s.rf (Reg.feExchStatus n) 10 8 = 2 then
      a.start :: a.wave.lows.flatMap (Low.ticks a.start (s.rf (Reg.feTxEnv n) 13 12)) ++ a.ref.toList
    else []) ++
    (s.eng n).fade.elim [] (fun f => (List.range (f.2 + 1)).map (fun k => f.1 + 8 * k))

/-- The ends of the pulses of a sweep, and their beginnings (R461). -/
def State.sweepTicks (s : State) : List Nat :=
  s.crocus.sweep.elim [] (fun w => (List.range w.2.length).flatMap (fun j => [w.1 + 512 * j, w.1 + 512 * j + 432]))

/-- A tick takes its place in a rising list. -/
def tickInto (t : Nat) : List Nat → List Nat
  | [] => [t]
  | a :: l => if t < a then t :: a :: l else if t = a then a :: l else a :: tickInto t l

/-- The boundaries at which amplitudes change, in order, after the one for which the governor has computed g last up to tick `t`. -/
def State.boundaries (s : State) (t : Nat) : List Nat :=
  (((List.range 4).flatMap s.engTicks ++ s.sweepTicks).filter (fun b => decide (s.gov.seen < b ∧ b ≤ t))).foldr tickInto []

/-- The governor computes g for boundary `b`, which may have passed. -/
def governAt (b : Nat) (s : State) : State := modTime (fun t => { t with ftb := s.now }) (govern (modTime (fun t => { t with ftb := b }) s))

/-- Time moves to tick `t`: while coils are driven the governor computes g at every boundary passed at which amplitudes change (R234, R236),
those that other commands passed among them. -/
def passGov (t : Nat) (s : State) : State :=
  advance t (if s.driven = [] ∧ s.crocus.sweep.isNone then s else (s.boundaries (max s.now t)).foldl (fun u b => governAt b u) s)

/-! ## Reset edges of the chains (R218, R219) -/

/-- A reset edge at tick `e` for the chain of COILn (R219): accumulators and counters clear, the count of outputs restarts,
and the threshold units are UNKNOWN (R221). The latest output stands, and CHAIN_STATUS.SETTLING with it (R223). -/
def chainReset (n e : Nat) (s : State) : State :=
  setReg (Reg.coilOutCount n) 0 (setRf (Reg.coilThrStatus n) 3 0 0
    (modCoil n (fun c => { c with
      resetEdge := e, nextTick := e, st1 := {}, st2 := {}, st3 := {}, magRun := {}, phRun := {}, past := 0 }) s))

/-- The stage words of profile `p` of COILn. -/
def State.profile (s : State) (n p : Nat) : List Word := (List.range 3).map (fun k => s.reg (Reg.coilProfStage n p k))

/-- The profile in use of COILn. -/
def State.profileInUse (s : State) (n : Nat) : Nat := s.rf (Reg.coilChainCtrl n) 1 1

/-- The chain of COILn, stopped so far, runs from tick `e` with the stages of the profile in use (R219). -/
def chainStart (n e : Nat) (s : State) : State :=
  let p := s.profileInUse n
  chainReset n e (setRf (Reg.coilChainStatus n) 2 2 p (setRb (Reg.coilChainStatus n) 0 true
    (modCoil n (fun c => { c with pendReset := none, loaded := s.profile n p }) s)))

/-- A reset edge that was to come has come by tick `t` (R218, R219): the chain loads its stages and starts anew, or starts. -/
def chainEdge (n t : Nat) (s : State) : State :=
  match (s.coil n).pendReset with
  | none => s
  | some (e, ws) =>
    if t < e then s
    else if s.rb (Reg.coilChainStatus n) 0 = false then chainStart n e s
    else chainReset n e (setRf (Reg.coilChainStatus n) 2 2 (s.rf (Reg.coilChainCtrl n) 1 1)
      (modCoil n (fun c => { c with pendReset := none, loaded := ws }) s))

/-- Every chain whose reset edge has come by the present tick takes it. -/
def chainsNow (s : State) : State := forEach (List.range 12) (fun n => chainEdge n s.now) s

/-- Time moves to tick `t`, with what falls on the ticks passed: the governor's boundaries (R234) and the chains' reset edges (R219). -/
def passTo (t : Nat) (s : State) : State := chainsNow (passGov t s)

/-- The time moves to the carrier-cycle boundary from which a change acts (R17, log entry 104), while the FTB counts. -/
def toCc (s : State) : State := if s.fldRuns then passTo s.ccNow s else s

end Sys2Proof.Machine
end

