-- ==== Sys2Proof/Machine/Queue.lean ====
section
/-! DEFINITION. The host port and the queues (04_host_port_queues, R99–R128): the port windows, flow-control pins, the
stale clock, flushes and the counters of the HIF and QUEUE pages. -/

namespace Sys2Proof.Machine

/-! ## Command port -/

/-- The refusal of a malformed item when its last word has come (R111), with the placement number of the session its handle
names (R109). -/
def postBad (b : BadItem) (s : State) : State :=
  postResult ⟨headType b.head, fld b.head 31 30, fld b.head 11 0, b.handle, b.err, s.placeOf b.handle, postTick,
    [b.head, wd b.got], s.now, Page.queue, some 10⟩ 6 0 s

/-- A malformed item goes on arriving, or is refused when it is complete (R111). -/
def takeBad (b : BadItem) (s : State) : State :=
  if b.total ≤ b.got then postBad b (modQueue (fun q => { q with bad := none, cmdPart := [] }) s)
  else modQueue (fun q => { q with bad := some b, cmdPart := [] }) s

/-- A header has been found malformed (R111): QUEUE.IRQ_RAW[6] is set, and the item is discarded. -/
def startBad (b : BadItem) (s : State) : State := takeBad b (irq Page.queue 6 s)

/-- One word joins the command queue (R106, R111): a swallowed word, a word of a malformed item, a header, a second header
word, or a later word, the last of which completes the item with its acceptance tick (R21). A malformed item of one word has no
word 1, so its refusal carries HANDLE 0 (log entry 80). -/
def pushCmd (w : Word) (s : State) : State :=
  if 0 < s.queue.swallow then modQueue (fun q => { q with swallow := q.swallow - 1 }) s
  else
    match s.queue.bad with
    | some b => takeBad { b with handle := if b.got = 1 then fld w 31 16 else b.handle, got := b.got + 1 } s
    | none =>
      match s.queue.cmdPart with
      | [] =>
        if headLen w = 0 then recErrAs (some 10) Page.queue Err.truncated 0 0 (irq Page.queue 6 s)
        else if headLen w < 4 ∨ 1028 < headLen w then startBad ⟨w, 0, 1, headLen w, Err.truncated⟩ s
        else if !isCommandType (headType w) then startBad ⟨w, 0, 1, headLen w, Err.modeAbort⟩ s
        else modQueue (fun q => { q with cmdPart := [w] }) s
      | h :: r =>
        if r = [] ∧ (fld w 15 5 ≠ 0 ∨ fld w 3 0 ≠ 0) then
          startBad ⟨h, fld w 31 16, 2, headLen h, Err.modeAbort⟩ s
        else if r.length + 2 = headLen h then
          modQueue (fun q => { q with cmdPart := [], cmd := q.cmd ++ [itemOf (h :: r ++ [w]) s.now] }) s
        else modQueue (fun q => { q with cmdPart := h :: r ++ [w] }) s

/-- Whether QRDY is high for a word of the command port (R105): the queue has a free word, or the word takes no space. -/
def State.cmdRoom (s : State) : Bool :=
  decide (s.cmdFill < 2048) || decide (0 < s.queue.swallow) || s.queue.bad.isSome || !s.isReady

/-- A word written to the command port: discarded before READY (R79), held off by QRDY when the queue is full (R105). -/
def cmdPortWrite (w : Word) (s : State) : State :=
  if !s.hostUp then s
  else if !s.isReady then setRb Reg.rstBootFlags 0 true s
  else if s.cmdRoom then settle (pushCmd w s)
  else s

/-- CMD_PORT_WRITE (R106). -/
def execCmdPortWrite (w : Word) (s : State) : Host.Outcome State Fault Refusal := .next (cmdPortWrite w s)

/-! ## Result and event ports -/

/-- The effective class of a result at the present tick (R113). -/
def State.effClass (s : State) (i : Item) : Nat :=
  if s.rf Reg.queueTimers 15 0 = 0 then i.prio
  else min 3 (i.prio + (s.now - i.posted) * 100 / (s.rf Reg.queueTimers 15 0 * 10848))

/-- The result that the next header read returns (R113, R114): of the highest effective class the earliest posted, or the
earliest unread one of the same non-zero handle. -/
def State.choose (s : State) : Option Item :=
  let top := (s.queue.res.map s.effClass).foldl max 0
  match s.queue.res.find? (fun i => s.effClass i == top) with
  | none => none
  | some i => if i.handle = 0 then some i else s.queue.res.find? (fun j => j.handle == i.handle)

/-- Counts a promoted read (R113). -/
def notePromoted (s : State) : State :=
  setRb Reg.queueNotice 4 true (addRf Reg.queueLossCnt 31 16 1 s)

/-- Pops the next result word (R107, R113): the rest of a partly read item first; an empty port gives 0. -/
def popRes (s : State) : Word × State :=
  match s.queue.resPart with
  | w :: r => (w, settle (modQueue (fun q => { q with resPart := r, staleFrom := s.now }) s))
  | [] =>
    match s.choose with
    | none => (0, s)
    | some i =>
      let pro := decide (i.prio < s.effClass i)
      let ws := ({ i with flags := if pro then i.flags ||| 0x40 else i.flags } : Item).words
      (ws.headD 0, settle (sif pro notePromoted
        (modQueue (fun q => { q with res := q.res.erase i, resPart := ws.tail, staleFrom := s.now }) s)))

/-- Pops the next event word in arrival order (R115). -/
def popEvt (s : State) : Word × State :=
  match s.queue.evtPart with
  | w :: r => (w, settle (modQueue (fun q => { q with evtPart := r }) s))
  | [] =>
    match s.queue.evt with
    | [] => (0, s)
    | i :: t => (i.words.headD 0, settle (modQueue (fun q => { q with evt := t, evtPart := i.words.tail }) s))

/-- Gives the words of a read to the reader. -/
def giveOut (l : List Word) (s : State) : State := { s with dataOut := l }

/-- RES_PORT_READ (R113). -/
def execResPortRead (s : State) : Host.Outcome State Fault Refusal :=
  .next (if s.readsNow .host then giveOut [(popRes s).1] (popRes s).2 else s)

/-- EVT_PORT_READ (R115). -/
def execEvtPortRead (s : State) : Host.Outcome State Fault Refusal :=
  .next (if s.readsNow .host then giveOut [(popEvt s).1] (popEvt s).2 else s)

/-! ## Held results and the stale clock -/

/-- The first held result that may be posted at tick `t`, with those that wait before it. -/
def State.firstPostable (s : State) (t : Nat) : List Held → List Held → Option Held
  | _, [] => none
  | ahead, x :: r =>
    if s.canPost t ahead x.src x.item.handle x.item.len then some x else s.firstPostable t (ahead ++ [x]) r

/-- RESULT_HELD_POST (R23): at tick `t` the first held result that may be posted is posted. -/
def execResultHeldPost (t : Nat) (s : State) : Host.Outcome State Fault Refusal :=
  let u := passTo t s
  .next (match u.firstPostable u.now [] u.queue.held with
    | none => s
    | some x => putResult x.item x.src x.slot u.now (modQueue (fun q => { q with held := q.held.erase x }) u))

/-- The tick at which the stale condition begins (R119). -/
def State.staleDue (s : State) : Nat := s.queue.staleFrom + usToFt (max 1 (s.rf Reg.queueTimers 31 16))

/-- STALE_TIMEOUT (R119): with the result queue non-empty, the stale condition begins at its tick. -/
def execStaleTimeout (s : State) : Host.Outcome State Fault Refusal :=
  .next (if 0 < s.resFill ∧ s.queue.stale = false ∧ s.gated = false then
    settle (setRb Reg.queueNotice 2 true (modQueue (fun q => { q with stale := true }) (passTo s.staleDue s)))
  else s)

/-! ## Flush, marks and counters -/

/-- The FLUSHED item's word for one queue (R122). -/
def flushWord (sel : Bool) (whole : Nat) (part : Bool) : Word :=
  if sel then wd (whole % 65536 * 65536 + part.toNat) else 0

/-- The flush of R122: whole items and partly read ones go and the pins follow (R117–R120), the rest of a partly written command
item will be swallowed, and then the FLUSHED item is posted, with ERR 0x00 (log entry 121). A malformed item in arrival is in no queue: it goes on to its
refusal (log entry 81). -/
def flush (w : Word) (s : State) : State :=
  let c := bit w 0
  let r := bit w 1
  let e := bit w 2
  let q := s.queue
  let rest := match q.cmdPart with
    | [] => 0
    | h :: t => headLen h - (t.length + 1)
  let t := settle (setRb (Reg.status Page.queue) 1 true (modQueue (fun q => { q with
    flushing := c
    cmd := if c then [] else q.cmd, cmdPart := if c then [] else q.cmdPart, swallow := if c then q.swallow + rest else q.swallow
    res := if r then [] else q.res, resPart := if r then [] else q.resPart
    evt := if e then [] else q.evt, evtPart := if e then [] else q.evtPart }) s))
  settle (postUnsolicited ⟨0x31, 3, 0, 0, 0, 0, postTick,
    [wd (fld w 2 0), flushWord c q.cmd.length (q.cmdPart ≠ []), flushWord r q.res.length (q.resPart ≠ []),
      flushWord e q.evt.length (q.evtPart ≠ [])], s.now, Page.queue, none⟩ 5 0 t)

/-- QUEUE.STATUS.BUSY (R122, R133): a flush runs, or a quiesce that has been requested is not reached. -/
def State.queueBusy (s : State) : Bool :=
  s.rb (Reg.status Page.queue) 1 || (s.rb (Reg.ctrl Page.queue) 1 && !s.rb (Reg.status Page.queue) 0)

/-- A write to QUEUE.FLUSH (R122). -/
def queueFlush (ag : Agent) (w : Word) : State → State :=
  guarded ag Reg.queueFlush (fun s =>
    if s.queueBusy then refusalErr Page.queue Err.resourceBusy openDetail openDetail s else flush w s)

/-- QUEUE_FLUSH (R122). -/
def execQueueFlush (ag : Agent) (w : Word) (s : State) : Host.Outcome State Fault Refusal := .next (queueFlush ag w s)

/-- A write of HOLD_MARKS or ATTN_MARKS (R121). -/
def marksWrite (ag : Agent) (attn : Bool) (w : Word) : State → State :=
  let a := if attn then Reg.queueAttnMarks else Reg.queueHoldMarks
  let lo := if attn then fld w 28 16 else fld w 27 16
  let hi := if attn then fld w 12 0 else fld w 11 0
  guarded ag a (fun s =>
    if hi ≤ lo ∨ (if attn then 4096 else 2048) < hi then refusalErr Page.queue Err.modeAbort openDetail openDetail s
    else settle (setReg a (wd (lo * 65536 + hi)) s))

/-- QUEUE_MARKS_WRITE (R121). -/
def execQueueMarksWrite (ag : Agent) (attn : Bool) (w : Word) (s : State) : Host.Outcome State Fault Refusal :=
  .next (marksWrite ag attn w s)

/-- A write to QUEUE.CNT_CLR (R128). -/
def queueCntClr (ag : Agent) (w : Word) : State → State :=
  guarded ag Reg.queueCntClr (fun s =>
    sif (bit w 1) (setReg Reg.queueLossCnt 0) (sif (bit w 0) (setReg Reg.queueCrossCnt 0) s))

/-- QUEUE_CNT_CLR (R128). -/
def execQueueCntClr (ag : Agent) (w : Word) (s : State) : Host.Outcome State Fault Refusal := .next (queueCntClr ag w s)

/-- A write to HIF.CFG (R126): DUMMY is stored, and CNT_CLR clears HIF.COUNT. -/
def hifCfgWrite (ag : Agent) (w : Word) : State → State :=
  guarded ag Reg.hifCfg (fun s => sif (bit w 8) (setReg Reg.hifCount 0) (setRf Reg.hifCfg 3 0 (fld w 3 0) s))

/-- HIF_CNT_CLR (R126). -/
def execHifCntClr (ag : Agent) (w : Word) (s : State) : Host.Outcome State Fault Refusal := .next (hifCfgWrite ag w s)

/-! ## Dispatch (R112) -/

/-- The head item of the command queue, when it is of type `typ` and may be dispatched: the device is READY and the queue
is not quiesced (R112, R128). -/
def State.headCmd (s : State) (typ : Nat) : Option Item :=
  match s.queue.cmd with
  | [] => none
  | i :: _ => if i.typ = typ ∧ s.isReady ∧ s.quiesced Page.queue = false then some i else none

/-- Takes the head item out of the command queue: its words are freed and CMD_DISPATCH is published (R112, R128). -/
def popCmd (s : State) : State :=
  settle (publish 0xec s.now (modQueue (fun q => { q with cmd := q.cmd.tail }) s))

/-- Dispatches the head item when it is of type `typ`; otherwise nothing happens. -/
def dispatch (typ : Nat) (f : Item → State → State) (s : State) : State :=
  match s.headCmd typ with
  | none => s
  | some i => f i (popCmd s)

/-- MARK (R110): answered at its dispatch, every earlier command having been dispatched; the payload is copied. -/
def execMark (s : State) : Host.Outcome State Fault Refusal :=
  .next (dispatch 0x20 (fun i s => postResult (answer i i.handle 0 0 postTick i.payload) 6 0 s) s)

/-! ## Transactions without data words -/

/-- The STATUS byte (R127); what is left of a partly read item counts as a readable item (log entry 122). -/
def State.statusByte (s : State) : Nat :=
  (decide (2048 ≤ s.cmdFill)).toNat * 64 + (decide (0 < s.evtFill)).toNat * 32 + (decide (0 < s.resFill)).toNat * 16 +
    s.irqLow.toNat * 8 + s.queue.attnLow.toNat * 4 + s.queue.holdLow.toNat * 2 + s.isReady.toNat

/-- QCS_N has risen: the transaction that QRDY held is ended without loss, an access to the memory view that waited with it (R103). -/
def busEnd (s : State) : State :=
  { s with bus := none, tag := { s.tag with waiting := s.tag.waiting.filter (fun w => !w.op.view) } }

/-- QSPI_STATUS (R127): the byte is given to the host, when QRDY lets it come (R105). -/
def execQspiStatus (s : State) : Host.Outcome State Fault Refusal :=
  .next (if !s.portTakes then s
  else if s.hostUp then giveOut [wd s.statusByte] (busEnd s)
  else { busEnd s with bus := some .status })

/-- The command that a transaction is, by its command byte (R99), with the address, the count of words to read and the words to write. -/
def qspiCommand (code : Byte) (addr count : Nat) (l : List Word) : Instr :=
  if code = 0x0b then .qspiRead addr count
  else if code = 0x02 then .qspiWrite addr l
  else if code = 0xeb then .qspiQread addr count
  else if code = 0x38 then .qspiQwrite addr l
  else if code = 0x05 then .qspiStatus
  else .qspiUnknownCommand code

/-- Whether a command byte is one of R99. -/
def qspiListed (c : Byte) : Bool :=
  match qspiCommand c 0 0 [] with
  | .qspiUnknownCommand _ => false
  | _ => true

/-- QSPI_UNKNOWN_COMMAND (R102): an unlisted command byte is ignored and counted. -/
def execQspiUnknownCommand (c : Byte) (s : State) : Host.Outcome State Fault Refusal :=
  .next (if s.hostUp && !qspiListed c then addRf Reg.hifCount 15 0 1 (busEnd s) else busEnd s)

/-- QCS_N_RISE_PARTIAL_WORD (R101): the partial word has no effect and is counted. -/
def execQcsNRisePartialWord (s : State) : Host.Outcome State Fault Refusal :=
  .next (if s.hostUp then addRf Reg.hifCount 31 16 1 (busEnd s) else busEnd s)

end Sys2Proof.Machine
end

