-- ==== Sys2Proof/Machine/Time.lean ====
section
/-! DEFINITION. Field time base and timers (06_time_base_timers, R157–R177): snapshots, compare units, cadence generators,
capture units, sync edges and the AON measurement. The FTB moves on to the tick at which each timed event falls. -/

namespace Sys2Proof.Machine

/-! ## Ticks in WATCH -/

/-- The FTB value of the AON edge `c` cycles after the entry to WATCH (R458). -/
def State.watchTick (s : State) (c : Nat) : Nat := s.pwr.entryFtb + openDivNat (c * s.pwr.entryMeas) 256

/-! ## Snapshots -/

/-- Requests a capture on the next capture edge; `some` command is answered after it (R160). -/
def snapRequest (i : Option Item) : State → State :=
  modTime (fun t => { t with snapWait := t.snapWait ++ [i], snapReq := true })

/-- Runs `f` unless the FTB page is disabled: then the command is refused (R135). -/
def ftbCmd (f : Item → State → State) (i : Item) (s : State) : State :=
  if s.rb (Reg.ctrl Page.ftb) 0 then f i s else refuse i Err.modeAbort openDetail openDetail s

/-- A write of an action bit of the FTB page, which a disabled one refuses (R135). -/
def ftbAct (f : State → State) (s : State) : State := pageWork Page.ftb f s

/-- SNAP (R162): at dispatch the command requests a capture. LEN is not checked (log entry 112). -/
def execSnap (s : State) : Host.Outcome State Fault Refusal :=
  .next (dispatch 0x10 (ftbCmd (fun i => snapRequest (some i))) s)

/-- A write of 1 to FTB.SNAP_CTRL.GO (R160). -/
def snapGoWrite (ag : Agent) : State → State := 
  hold ag Reg.ftbSnapCtrl 1 (guarded ag Reg.ftbSnapCtrl (ftbAct (snapRequest none)))

/-- SNAP_GO (R160): a write of GO, or an event on task input 0x34. -/
def execSnapGo (src : Source) (s : State) : Host.Outcome State Fault Refusal :=
  .next (bySource src 0x34 (fun _ => false) snapGoWrite (fun _ => snapRequest none) s)

/-- COUNT of cadence generator `g`: the ticks since its last wrap while it runs (R166), never PERIOD itself, for until the wrap
that is due it stands at PERIOD − 1; the held value otherwise (R169). -/
def State.cadCount (s : State) (g : Nat) : Nat :=
  if s.rb (Reg.ftbCadCtrl g) 0 then
    min (s.now - tabGet 0 s.time.cadZero g) (tabGet 0 s.time.cadNext g - 1 - tabGet 0 s.time.cadZero g)
  else (s.reg (Reg.ftbCadCount g)).toNat

/-- The tick-aligned islands besides FLD that keep a local tick counter, each by its cycle in 1/90 ft (R13, R15): HFP, LSP, SYS,
RBA, RBD, VIT, RBT, MGT. -/
abbrev localCycles : List Nat := [180, 45, 45, 4, 32, 64, 160, 90]

/-- The local tick counter of an island with a cycle of `c`/90 ft, in 1/90 ft (R15): it was loaded from the FTB when the island
left reset, so it holds the FTB value of the island's present edge. -/
def State.localTick (s : State) (c : Nat) : Nat := s.now * 90 / c * c

/-- Whether page `p` captures its snapshot set (R148). -/
def State.snapArmed (s : State) (p : Nat) : Bool := s.rb (Reg.ctrl p) 2

/-- GOV_MEAS at the present tick: GRANT follows g (R235). -/
def State.govMeas (s : State) : Word :=
  setFld (s.reg Reg.fwgtGovMeas) 27 16 (min 4095 (s.gov.total * s.govG * s.govG / (1024 * 1024 * 1000 * powerUnit)))

/-- Copies one register into its snapshot register. -/
def snapCopy (from_ to_ : Nat) (s : State) : State := setReg to_ (s.reg from_) s

/-- The snapshot set of page `p` (R161, R200, R223, R242, R265, R314, R336, R362, R364 and R402 name them; other pages have none). -/
def snapPage (p : Nat) (s : State) : State :=
  if p = Page.ftb then forEach (List.range 8) (fun g t => setReg (Reg.ftbCadSnap g) (wd (t.cadCount g)) t) s
  else if p = Page.evf then forEach (List.range 64) (fun n => snapCopy (Reg.evfChCount n) (Reg.evfChSnap n)) s
  else if 0x10 ≤ p ∧ p ≤ 0x1b then
    snapCopy (Reg.coilMmResult (p - 0x10)) (Reg.coilSnapMm (p - 0x10))
      (snapCopy (Reg.coilOutPhase (p - 0x10)) (Reg.coilSnapPhase (p - 0x10))
        (snapCopy (Reg.coilOutMag (p - 0x10)) (Reg.coilSnapMag (p - 0x10))
          (snapCopy (Reg.coilOutCount (p - 0x10)) (Reg.coilSnapCount (p - 0x10)) s)))
  else if p = Page.fwgt then setReg Reg.fwgtGovSnap s.govMeas s
  else if p = Page.cvu then forEach (List.range 8) (fun c => snapCopy (Reg.cvuCCnt c) (Reg.cvuCSnap c)) s
  else if p = Page.lsp then forEach (List.range 8) (fun k => snapCopy (Reg.lspPlStatus k) (Reg.lspPlSnap k)) s
  else if 0xc ≤ p ∧ p ≤ 0xf then snapCopy (Reg.feFrameCnt (p - 0xc)) (Reg.feSnapFrame (p - 0xc)) s
  else if p = Page.rbSyn then snapCopy Reg.rbSynState Reg.rbSynSnap s
  else if p = Page.rbRx then snapCopy Reg.rbRxRxCnt Reg.rbRxRxSnap s
  else if p = Page.rbDec then snapCopy Reg.rbDecDecCnt Reg.rbDecDecSnap s
  else s

/-- The result of a SNAP command (R162). -/
def snapAnswer (i : Option Item) (s : State) : State :=
  match i with
  | none => s
  | some c => postResult (answer c 0 0 0 (s.regPair Reg.ftbSnapLo) [wd (s.rf Reg.ftbSnapCtrl 31 16)]) 6 0 s

/-- The capture edge (R160, R148): the FTB, the local tick counters (R15) and every armed page's snapshot set are captured, SEQ counts, and every request
is answered. -/
def capture (s : State) : State :=
  let l := s.time.snapWait
  let t := irq Page.ftb 6 (publish 0x29 s.now (wrapRf Reg.ftbSnapCtrl 31 16 1 (setPair Reg.ftbSnapLo s.now
    (modTime (fun t => { t with snapWait := [], snapReq := false, localSnap := localCycles.map s.localTick }) s))))
  let u := forEach (List.range 0x2c) (fun p v => if s.snapArmed p then snapPage p v else v) t
  l.foldl (fun v i => snapAnswer i v) u

/-- SNAP_CAPTURE (R160): the next LSP edge that starts a tick serves every waiting request. -/
def execSnapCapture (s : State) : Host.Outcome State Fault Refusal :=
  .next (if s.time.snapReq ∧ s.gated = false then capture (passTo (s.now + 1) s) else s)

/-! ## Compare units -/

/-- TARGET of compare unit `k`. -/
def State.cmpTarget (s : State) (k : Nat) : Nat := s.regPair (Reg.ftbCmpTargetLo k)

/-- The edge A of R163 for compare unit `k` is the present tick. -/
def cmpFrom (k : Nat) (s : State) : State :=
  modTime (fun t => { t with cmpArmed := tabSet 0 t.cmpArmed k s.now }) s

/-- The tick F on which armed compare unit `k` fires (R163, R164). -/
def State.cmpFires (s : State) (k : Nat) : Nat := max (s.cmpTarget k) (tabGet 0 s.time.cmpArmed k + 1)

/-- Whether the unit's firing counts as late: TARGET ≤ A (R164). -/
def State.cmpLate (s : State) (k : Nat) : Bool := decide (s.cmpTarget k ≤ tabGet 0 s.time.cmpArmed k)

/-- What a firing does (R163, R164), at tick `f`. -/
def cmpFired (k f : Nat) (late : Bool) (s : State) : State :=
  let t := sif (s.rb (Reg.ftbCmpCtrl k) 1) (fun u => wakeSource 5 (irq Page.ftb 0 u))
    (setRb Reg.ftbCmpFired k true (setRb (Reg.ftbCmpCtrl k) 0 false (publish k f s)))
  sif late (fun u => recLate Page.ftb (s.cmpTarget k) f (irq Page.ftb 1 (setRb Reg.ftbCmpLate k true u))) t

/-- Whether compare unit `k` fires by the present tick: it is armed, and its page is not quiesced (R163, R173). -/
def State.cmpDue (s : State) (k : Nat) : Bool :=
  s.rb (Reg.ftbCmpCtrl k) 0 && s.fldRuns && !s.quiesced Page.ftb && decide (s.cmpFires k ≤ s.now)

/-- A unit whose firing tick has come fires before what comes at it on that tick acts (R165). -/
def cmpSettle (k : Nat) (s : State) : State := sif (s.cmpDue k) (cmpFired k (s.cmpFires k) (s.cmpLate k)) s

/-- Compare unit `k` is armed on the present FLD edge (R163). -/
def cmpArm (k : Nat) (s : State) : State := cmpFrom k (setRb (Reg.ftbCmpCtrl k) 0 true s)

/-- ARM becomes 1, unless it is 1 and its unit does not fire on this tick (R163, R165). -/
def cmpRearm (k : Nat) (s : State) : State :=
  let t := cmpSettle k s
  sif (!t.rb (Reg.ftbCmpCtrl k) 0) (cmpArm k) t

/-- The checks on a write, of the bits `m`, to a register of a compare, cadence or capture unit: the unit is driven by the agent that
holds it (R172), which stands in place of check 3 of R139 (log entry 13). -/
def unitGuardFor (m : Word) (ag : Agent) (res a : Nat) (eff : State → State) (s : State) : State :=
  guardedFor m (s.holds ag res) ag a eff s

/-- The same checks on a write of the whole word. -/
def unitGuard : Agent → Nat → Nat → (State → State) → State → State := unitGuardFor (BitVec.allOnes 32)

/-- A write of FTB.CMPk_CTRL (R163, R165): IRQ is stored; ARM = 1 arms a unit, ARM = 0 disarms it. On its firing tick the unit fires first. -/
def cmpCtrlWrite (ag : Agent) (k : Nat) (w : Word) : State → State :=
  hold ag (Reg.ftbCmpCtrl k) w <| unitGuard ag (0x20 + k) (Reg.ftbCmpCtrl k) (fun u =>
    let s := cmpSettle k u
    let t := setRb (Reg.ftbCmpCtrl k) 1 (bit w 1) s
    if bit w 0 then (if t.rb (Reg.ftbCmpCtrl k) 0 then t else ftbAct (cmpArm k) t) else setRb (Reg.ftbCmpCtrl k) 0 false t)

/-- COMPARE_ARM (R163): a write of ARM = 1, or an event on the unit's task input. -/
def execCompareArm (k : CmpIx) (src : Source) (s : State) : Host.Outcome State Fault Refusal :=
  .next (bySource src k (fun t => t.rb (Reg.ftbCmpCtrl k) 0 && !t.cmpDue k)
    (fun ag u => hold ag (Reg.ftbCmpCtrl k) (u.reg (Reg.ftbCmpCtrl k) ||| 1)
      (unitGuard ag (0x20 + k) (Reg.ftbCmpCtrl k) (ftbAct (cmpRearm k))) u) (fun _ => cmpRearm k) s)

/-- A write of CMPk_TARGET_HI: with the held LO word the new target takes effect whole, and an armed unit compares from this
edge (R165). -/
def cmpTargetWrite (ag : Agent) (k : Nat) (hi : Word) : State → State :=
  hold ag (Reg.ftbCmpTargetHi k) hi <| unitGuard ag (0x20 + k) (Reg.ftbCmpTargetHi k) (fun s =>
    let t := setReg (Reg.ftbCmpTargetHi k) hi (setReg (Reg.ftbCmpTargetLo k) (s.loFor (Reg.ftbCmpTargetLo k))
      (dropLo (Reg.ftbCmpTargetLo k) s))
    sif (s.rb (Reg.ftbCmpCtrl k) 0) (cmpFrom k) t)

/-- COMPARE_TARGET_WRITE (R165). -/
def execCompareTargetWrite (ag : Agent) (k : CmpIx) (hi : Word) (s : State) : Host.Outcome State Fault Refusal :=
  .next (cmpTargetWrite ag k hi s)

/-- COMPARE_FIRE (R163): an armed unit fires on its tick. While the page is quiesced nothing fires (R173). -/
def execCompareFire (k : CmpIx) (s : State) : Host.Outcome State Fault Refusal :=
  .next (if s.rb (Reg.ftbCmpCtrl k) 0 ∧ s.fldRuns ∧ s.quiesced Page.ftb = false then
    cmpFired k (s.cmpFires k) (s.cmpLate k) (passTo (s.cmpFires k) s)
  else s)

/-! ## Cadence generators -/

/-- The period of generator `g` as it acts: below 16 it acts as 16 (R168). -/
def State.cadPeriod (s : State) (g : Nat) : Nat := max 16 (s.reg (Reg.ftbCadPeriod g)).toNat

/-- Sets the tick at which the generator's COUNT is 0 and the tick of its next wrap. -/
def cadSet (g z next : Nat) (s : State) : State :=
  modTime (fun t => { t with cadZero := tabSet 0 t.cadZero g z, cadNext := tabSet 0 t.cadNext g next }) s

/-- Generator `g` starts (R166): at the next tick, at START, or, when START has passed, on START's grid (R167). A START equal to the tick on
which RUN takes effect counts as passed (log entry 111). -/
def cadRun (g : Nat) (s : State) : State :=
  let t := setRb (Reg.ftbCadCtrl g) 0 true s
  let st := s.regPair (Reg.ftbCadStartLo g)
  let p := s.cadPeriod g
  if s.rb (Reg.ftbCadCtrl g) 1 = false then cadSet g (s.now + 1) (s.now + 1) t
  else if s.now < st then cadSet g st st t
  else
    let c := (s.now - st) % p
    recLate Page.ftb st s.now (setRb (Reg.ftbCadStatus g) 1 true (cadSet g (s.now - c) (s.now - c + p) t))

/-- Generator `g` stops and COUNT holds its value (R169). -/
def cadStop (g : Nat) (s : State) : State :=
  setRb (Reg.ftbCadCtrl g) 0 false (setReg (Reg.ftbCadCount g) (wd (s.cadCount g)) s)

/-- A write of CADg_CTRL that carries the bits `m` (R166, R169). -/
def cadCtrlWrite (m : Word) (ag : Agent) (g : Nat) (w : Word) : State → State :=
  hold ag (Reg.ftbCadCtrl g) w <| unitGuardFor m ag (0x40 + g) (Reg.ftbCadCtrl g) (fun s =>
    let t := setRb (Reg.ftbCadCtrl g) 2 (bit w 2) (setRb (Reg.ftbCadCtrl g) 1 (bit w 1) s)
    if bit w 0 = s.rb (Reg.ftbCadCtrl g) 0 then t else if bit w 0 then ftbAct (cadRun g) t else cadStop g t)

/-- A write of the whole of CADg_CTRL that changes RUN alone: it carries AT, so it needs the page quiesced (R139; log entry 12). -/
def cadRunWrite (ag : Agent) (g : Nat) (b : Bool) (s : State) : State :=
  cadCtrlWrite (BitVec.allOnes 32) ag g (setBit (s.reg (Reg.ftbCadCtrl g)) 0 b) s

/-- CADENCE_RUN (R166): a write of RUN = 1, or an event on the START task input. -/
def execCadenceRun (g : CadIx) (src : Source) (s : State) : Host.Outcome State Fault Refusal :=
  .next (bySource src (0x20 + g) (fun t => t.rb (Reg.ftbCadCtrl g) 0)
    (fun ag => cadRunWrite ag g true) (fun _ => cadRun g) s)

/-- CADENCE_STOP (R169): a write of RUN = 0, or an event on the STOP task input. -/
def execCadenceStop (g : CadIx) (src : Source) (s : State) : Host.Outcome State Fault Refusal :=
  .next (bySource src (0x28 + g) (fun _ => false)
    (fun ag => cadRunWrite ag g false)
    (fun _ t => if t.rb (Reg.ftbCadCtrl g) 0 then cadStop g t else t) s)

/-- A wrap that publishes (R166): WRAPS, STATUS.WRAP and the interrupt. -/
def cadWrapped (g : Nat) (s : State) : State :=
  sif (s.rb (Reg.ftbCadCtrl g) 2) (irq Page.ftb 2)
    (setRb (Reg.ftbCadStatus g) 0 true (wrapRf (Reg.ftbCadWraps g) 31 0 1 (publish (0x20 + g) s.now s)))

/-- CADENCE_WRAP (R166): a running generator's count wraps on its tick; while the page is quiesced the wrap is only noted
as missed (R173). -/
def execCadenceWrap (g : CadIx) (s : State) : Host.Outcome State Fault Refusal :=
  .next (if s.rb (Reg.ftbCadCtrl g) 0 ∧ s.fldRuns then
    let n := tabGet 0 s.time.cadNext g
    let t := cadSet g n (n + s.cadPeriod g) (passTo n s)
    if s.quiesced Page.ftb then modTime (fun u => { u with cadMissed := tabSet 0 u.cadMissed g (tabGet 0 u.cadMissed g + 1) }) t
    else cadWrapped g t
  else s)

/-- When the FTB page resumes, every generator adds the wraps that it did not publish to CADg_STATUS.MISSED (R173). -/
def cadPublished (s : State) : State :=
  modTime (fun t => { t with cadMissed := [] })
    (forEach (List.range 8) (fun g t => addRf (Reg.ftbCadStatus g) 31 16 (tabGet 0 s.time.cadMissed g) t) s)

/-- A new PERIOD takes effect in generator `g` (R168): the period in progress ends after COUNT reaches P′ − 1, or the
generator wraps on the next tick. Before its first wrap a generator keeps its start tick. -/
def cadPeriodInUse (g : Nat) (w : Word) (s : State) : State :=
  let t := setReg (Reg.ftbCadPeriod g) w s
  let z := tabGet 0 s.time.cadZero g
  if s.rb (Reg.ftbCadCtrl g) 0 = true ∧ z ≤ s.now then
    (if s.cadCount g + 2 ≤ t.cadPeriod g then cadSet g z (z + t.cadPeriod g) t else cadSet g z (s.now + 1) t)
  else t

/-- A write of CADg_PERIOD (R168, R172). -/
def cadPeriodWrite (ag : Agent) (g : Nat) (w : Word) : State → State :=
  hold ag (Reg.ftbCadPeriod g) w <| unitGuard ag (0x40 + g) (Reg.ftbCadPeriod g)
    (storeWith (Reg.ftbCadPeriod g) w (cadPeriodInUse g))

/-- CADENCE_PERIOD_CHANGE (R168). -/
def execCadencePeriodChange (ag : Agent) (g : CadIx) (w : Word) (s : State) : Host.Outcome State Fault Refusal :=
  .next (cadPeriodWrite ag g w s)

/-! ## Capture units -/

/-- Stores a captured tick (R170). -/
def capStore (c t : Nat) (s : State) : State :=
  sif (s.rb (Reg.ftbCapCtrl c) 2) (irq Page.ftb 3)
    (setRb (Reg.ftbCapStatus c) 0 true (setPair (Reg.ftbCapLo c) t s))

/-- An overrun of a capture unit (R171), of class OVERRUN (R469). -/
def capOverrun (c : Nat) (s : State) : State :=
  fault 6 Page.ftb Err.overrun (irq Page.ftb 4 (addRf (Reg.ftbCapStatus c) 31 16 1 (setRb (Reg.ftbCapStatus c) 1 true s)))

/-- An event with tick `t` reaches capture unit `c` (R170, R171): a latched pair makes it wait. Of several that arrive meanwhile the newest
waits (log entry 109). -/
def capEvent (c t : Nat) (s : State) : State :=
  if s.rb (Reg.ftbCapCtrl c) 0 = false then s
  else if tabGet false s.time.capLatched c then
    modTime (fun u => { u with capWait := tabSet 0 u.capWait c (t + 1) }) s
  else if s.rb (Reg.ftbCapStatus c) 0 then
    sif (!s.rb (Reg.ftbCapCtrl c) 1) (capStore c t) (capOverrun c s)
  else capStore c t s

/-- CAPTURE_EVENT (R170): an event on the unit's task input. -/
def execCaptureEvent (c : CapIx) (s : State) : Host.Outcome State Fault Refusal :=
  .next (onTask (0x30 + c) (fun _ => false) (capEvent c) s)

/-- A read of CAPc_LO latches the pair for the agent (R171). -/
def capLoRead (ag : Agent) (c : Nat) (s : State) : Word × State :=
  (s.reg (Reg.ftbCapLo c), modTime (fun t => { t with capLatched := tabSet false t.capLatched c true })
    (latchPair ag (Reg.ftbCapLo c) (s.reg (Reg.ftbCapHi c)) s))

/-- A read of CAPc_HI releases the latch and clears VALID; a capture that waited is stored (R171). The latch that makes captures wait is the
unit's, whichever agent reads (log entry 109). -/
def capHiRead (ag : Agent) (c : Nat) (s : State) : Word × State :=
  let w := (s.latched ag (Reg.ftbCapLo c)).getD (s.reg (Reg.ftbCapHi c))
  let wait := tabGet 0 s.time.capWait c
  let t := setRb (Reg.ftbCapStatus c) 0 false (modTime (fun t =>
    { t with capLatched := tabSet false t.capLatched c false, capWait := tabSet 0 t.capWait c 0 })
      (unlatch ag (Reg.ftbCapLo c) s))
  (w, if wait = 0 then t else capStore c (wait - 1) t)

/-- CAPTURE_HI_READ (R171). -/
def execCaptureHiRead (ag : Agent) (c : CapIx) (s : State) : Host.Outcome State Fault Refusal :=
  .next (if s.readsNow ag then giveOut [(capHiRead ag c s).1] (capHiRead ag c s).2 else s)

/-! ## Reads of the FTB -/

/-- A read of FTB_LO latches the high word for the agent (R158). -/
def ftbLoRead (ag : Agent) (s : State) : Word × State :=
  (loWord s.now, latchPair ag Reg.ftbFtbLo (hiWord s.now) s)

/-- A read of FTB_HI gives the latched word and releases the latch; without a latch the live word (R158). -/
def ftbHiRead (ag : Agent) (s : State) : Word × State :=
  ((s.latched ag Reg.ftbFtbLo).getD (hiWord s.now), unlatch ag Reg.ftbFtbLo s)

/-- FTB_LO_READ (R158). -/
def execFtbLoRead (ag : Agent) (s : State) : Host.Outcome State Fault Refusal :=
  .next (if s.readsNow ag then giveOut [(ftbLoRead ag s).1] (ftbLoRead ag s).2 else s)

/-! ## Sync -/

/-- The first start tick that R21 allows for a command accepted at tick `t`: a multiple of 8, 1,024 ft later. -/
def boundTick (t : Nat) : Nat := roundUp (t + 1024) 8

/-- The refusal of a start tick that R21 cannot meet: LEN 8 with the named tick and the earliest one; `slot` names the session
whose blocks go with it (R22). -/
def refuseLate (slot : Nat) (c : Item) (named first : Nat) (s : State) : State :=
  postResult (answer c c.handle Err.late (s.placeOf c.handle) postTick [loWord named, hiWord named, loWord first, hiWord first]) 5 slot s

/-- Requests a sync edge that SYNC_OUT would lead from tick `rise` at the earliest: the edge falls 20 ft after it, or at the tick named
(R175); a named edge that has passed by then is taken at once, without LATE (log entry 124). Jobs stand in the order of their edges. -/
def syncRequest (named : Option Nat) (rise : Nat) (out : Bool) (i : Option Item) (s : State) : State :=
  let e := named.getD (max rise (roundUp (s.now + 1) 8) + 20)
  modTime (fun t => { t with syncJobs := t.syncJobs.filter (fun j => decide (j.edge ≤ e)) ++
    ⟨e, out, i⟩ :: t.syncJobs.filter (fun j => decide (e < j.edge)) }) s

/-- SYNC (R175): OUT needs OUT_EN; with FLAGS.AT the edge is the first multiple of 4 at or after the named tick, and SYNC_OUT
rises 20 ft before it, to which R21 applies; without a named tick SYNC_OUT rises on the tick that R21 gives (log entry 15). What words 4–7 of the
refusal hold, and that LEN is not checked, are choices (log entry 112). -/
def execSync (s : State) : Host.Outcome State Fault Refusal :=
  .next (dispatch 0x11 (ftbCmd (fun i s =>
    let out := bit (i.word 4) 0
    let edge := roundUp i.ts 4
    if out && !s.rb Reg.ftbSyncCtrl 1 then refuse i Err.modeAbort openDetail openDetail s
    else if i.hasTick ∧ edge - 20 < boundTick i.posted then
      refuseLate 0 i i.ts (boundTick i.posted) s
    else syncRequest (if i.hasTick then some edge else none) (boundTick i.posted) out (some i) s)) s)

/-- A write of 1 to SYNC_CTRL.GO acts as a SYNC with OUT at OUT_EN and no start tick (R175). -/
def syncGo (s : State) : State := syncRequest none (boundTick s.now) (s.rb Reg.ftbSyncCtrl 1) none s

/-- The tick of the edge of a waiting sync job: its own, and 8 reference periods after the previous sync edge (R66, R175). -/
def State.syncDue (s : State) (j : SyncJob) : Nat := max j.edge ((s.time.lastSync.map (· + 32)).getD 0)

/-- The reference edge at which SYNC_OUT last rose or will next rise (R66, R174): 20 ft before the edge of the first job that drives it,
when that has come, or of the last sync edge that had it driven. -/
def State.outRise (s : State) : Option Nat :=
  match s.time.syncJobs with
  | j :: _ => if j.out ∧ s.syncDue j - 20 ≤ s.now then some (s.syncDue j - 20) else s.time.lastOut
  | [] => s.time.lastOut

/-- The level of SYNC_OUT (R66, R174): high from reference edge j to j + 4. -/
def State.syncOut (s : State) : Bool := s.outRise.any (fun j => j ≤ s.now ∧ s.now < j + 16)

/-- Whether the SYNC task input is busy (R181): SYNC_OUT is driven, or fewer than 8 reference periods have passed since the last sync
edge. -/
def State.syncBusy (s : State) : Bool := s.syncOut || s.time.lastSync.any (fun e => s.now < e + 32)

/-- Whether a rising transition first seen on SYNC_IN at reference edge `k` is ignored (R66, R174): from the rise of SYNC_OUT at
edge j until j + 8, and fewer than 8 reference periods after the previous transition that counted. -/
def State.pinIgnored (s : State) (k : Nat) : Bool :=
  (match s.time.syncJobs with
    | j :: _ => j.out && decide (s.syncDue j - 20 ≤ k)
    | [] => false) ||
    s.time.lastOut.any (fun j => j ≤ k ∧ k < j + 32) || s.time.lastPin.any (fun p => k < p + 32)

/-- SYNC_GO (R175): a write of GO, or an event on task input 0x35. -/
def execSyncGo (src : Source) (s : State) : Host.Outcome State Fault Refusal :=
  .next (bySource src 0x35 State.syncBusy (fun ag u =>
    hold ag Reg.ftbSyncCtrl (u.reg Reg.ftbSyncCtrl &&& 3 ||| 4) (guarded ag Reg.ftbSyncCtrl (ftbAct syncGo)) u) (fun _ => syncGo) s)

/-- Every running chain takes a sync edge as its reset edge, once reset edges that were to come by then have come (R219). -/
def syncChains (s : State) : State :=
  forEach (List.range 12) (fun n t =>
    let u := chainEdge n t.now t
    sif (u.rb (Reg.coilChainStatus n) 0) (chainReset n u.now) u) s

/-- What the device does on a sync edge at the present tick (R174). -/
def syncAct (s : State) : State :=
  publish 0x28 s.now (irq Page.ftb 5 (wrapRf Reg.ftbSyncCtrl 31 16 1 (setPair Reg.ftbSyncStampLo s.now
    (syncChains (modTime (fun t => { t with lastSync := some s.now }) s)))))

/-- The result of a SYNC command on the present tick, its sync edge (R175). -/
def syncAnswer (j : SyncJob) (s : State) : State :=
  match j.item with
  | none => s
  | some c => postResult (answer c 0 0 0 s.now [wd (s.rf Reg.ftbSyncCtrl 31 16)]) 6 0 s

/-- A rising transition on SYNC_IN first seen at reference edge `k` (R66): unless it is ignored, the device acts 4 reference periods later. -/
def syncPin (k : Nat) (s : State) : State :=
  if s.rb Reg.ftbSyncCtrl 0 && !s.pinIgnored k then
    syncAct (passTo (k + 16) (modTime (fun t => { t with lastPin := some k }) s))
  else s

/-- The edge of the earliest sync job (R174, R175): it acts, and its command is answered. -/
def syncJobEdge (s : State) : State :=
  match s.time.syncJobs with
  | [] => s
  | j :: r =>
    let e := s.syncDue j
    syncAnswer j (syncAct (passTo e (modTime (fun t => { t with
      syncJobs := r, lastOut := if j.out then some (e - 20) else t.lastOut }) s)))

/-- SYNC_EDGE (R174): from the pin, a rising transition first seen at the reference edge at or after tick `t`; otherwise the edge of
the earliest sync job. -/
def execSyncEdge (t : Nat) (pin : Bool) (s : State) : Host.Outcome State Fault Refusal :=
  .next (if s.fldRuns = false then s else if pin then syncPin (roundUp t 4) s else syncJobEdge s)

/-! ## The AON measurement -/

/-- The ft that 256 AON cycles can last within the ±1 % of the oscillator (R176). -/
def aonFt (ft : Nat) : Nat := max 839025 (min 855975 ft)

/-- A measurement of the AON oscillator counts from the present tick (R176). -/
def measStart (s : State) : State := modTime (fun t => { t with measFrom := t.ftb }) s

/-- AON_MEAS_UPDATE (R176): 256 AON cycles after the refresh before, or after the start of the FTB, FTB.AON_MEAS is refreshed with the ft
counted over them. -/
def execAonMeasUpdate (ft : Nat) (s : State) : Host.Outcome State Fault Refusal :=
  .next (if s.fldRuns then
    let e := s.time.measFrom + aonFt ft
    setRf Reg.ftbAonMeas 23 0 (aonFt ft) (modTime (fun t => { t with measFrom := e }) (passTo e s))
  else s)

end Sys2Proof.Machine
end

