-- ==== Sys2Proof/Machine/Fabric.lean ====
section
/-! DEFINITION. Event fabric (07_event_fabric, R178–R201): channels with their limiters, fires, routing and channel owners,
logic cells and GP pins. Edges count LSP cycles, two to the ft. -/

namespace Sys2Proof.Machine

/-! ## Channels -/

/-- Spacing of channel `n` as it acts (R185). -/
def State.spacing (s : State) (n : Nat) : Nat := max 1 (s.rf (Reg.evfChCfg n) 31 16)

/-- The limiter of channel `n`. -/
def State.limiter (s : State) (n : Nat) : Limiter := tabGet {} s.fab.limiters n

/-- Replaces the limiter of channel `n` and shows HELD (R200). -/
def setLimiter (n : Nat) (l : Limiter) (s : State) : State :=
  setRb (Reg.evfChStatus n) 2 l.held.isSome (modFab (fun f => { f with limiters := tabSet {} f.limiters n l }) s)

/-- The EVENT item of a passed event (R198). -/
def eventItem (n prod tick : Nat) (merged deferred : Bool) (t : Nat) : Item :=
  ⟨0x38, 0, 0, 0, 0, 0, tick, [wd (merged.toNat * 2 ^ 31 + deferred.toNat * 2 ^ 30 + prod * 256 + n)], t, Page.queue, none⟩

/-- The task inputs subscribed to channel `n` (R178). -/
def State.subscribers (s : State) (n : Nat) : List Nat := (List.range 160).filter (fun i => s.rf (Reg.evfSub i) 6 0 == n)

/-- Whether channel `n` offers its events to the event queue: TO_QUEUE is set and the channel is not secure (R192, R198). -/
def State.toQueue (s : State) (n : Nat) : Bool := s.rb (Reg.evfChCfg n) 12 && !s.rb (Reg.evfChCfg n) 13

/-- Whether task input `i` is an input of a logic cell whose page is quiesced: an event there is dropped and counted (R187). -/
def State.cellShut (s : State) (i : Nat) : Bool := decide (0x48 ≤ i ∧ i < 0x88) && s.quiesced Page.evfLut

/-- An event with a tick goes from channel `n` to the task inputs `l` on an edge. -/
def sendTasks (n edge tick : Nat) (l : List Nat) (s : State) : State :=
  modFab (fun f => { f with tasks := f.tasks ++ (l.filter (fun i => !s.cellShut i)).map (fun i => ⟨i, tick, n, edge⟩) })
    (addRf Reg.evfDropCnt 15 0 (l.filter s.cellShut).length s)

/-- Channel `n` passes an event on an edge (R178, R185, R198): it is counted, offered to the event queue when `q` says so, and sent to
the task inputs `l`. -/
def passEvent (n edge prod tick : Nat) (merged deferred q : Bool) (l : List Nat) (s : State) : State :=
  let t := setLimiter n { last := some edge } (wrapRf (Reg.evfChCount n) 31 0 1 s)
  sendTasks n edge tick l (sif q (offerEvent (eventItem n prod tick merged deferred s.now)) t)

/-- The held event of channel `n` passes on its edge, marked DEFERRED (R185), routed as it was when it entered (R183). -/
def releaseHeld (n : Nat) (s : State) : State :=
  match (s.limiter n).held with
  | some h => passEvent n h.due h.prod h.tick h.merged true h.queue h.inputs s
  | none => s

/-- An event suppressed by the limiter of channel `n` (R185). -/
def suppressed (n : Nat) (s : State) : State :=
  recErr Page.evf Err.rateLimited n 0
    (irq Page.evf 3 (setRb (Reg.evfChStatus n) 0 true (addRf (Reg.evfChStatus n) 31 16 1 s)))

/-- The limiter judges an event that reaches channel `n` on an edge, a held event whose edge has come having passed (R185). -/
def limit (n edge prod tick : Nat) (merged : Bool) (s : State) : State :=
  let l := s.limiter n
  if l.held.isSome then suppressed n s
  else if l.last.any (fun p => decide (edge < p + s.spacing n)) then
    setLimiter n { l with held := some ⟨prod, tick, merged, l.last.getD 0 + s.spacing n, s.toQueue n, s.subscribers n⟩ } s
  else passEvent n edge prod tick merged false (s.toQueue n) (s.subscribers n) s

/-- Whether a held event of channel `n` has passed by an edge. -/
def State.heldDue (s : State) (n edge : Nat) : Bool := (s.limiter n).held.any (fun h => decide (h.due ≤ edge))

/-- Events enter channel `n` on one edge: merged into one with the earliest tick and the lowest producer (R184), then judged
by the limiter; while EVF is quiesced each is dropped and counted (R199). -/
def enterChannel (n edge : Nat) (l : List Event) (s : State) : State :=
  match l with
  | [] => s
  | e :: r =>
    let u := modFab (fun f => { f with waiting := l.foldl List.erase f.waiting }) s
    if s.quiesced Page.evf then addRf Reg.evfDropCnt 31 16 l.length u
    else
      let tick := fun x : Event => if x.prod = 0xf8 ∨ x.prod = 0xf9 then edge / 2 else x.tick
      let v := if r = [] then u else irq Page.evf 4 (setRb (Reg.evfChStatus n) 1 true u)
      limit n edge ((r.map Event.prod).foldl min e.prod) ((r.map tick).foldl min (tick e)) (r ≠ [])
        (sif (v.heldDue n edge) (releaseHeld n) v)

/-- EVENT_CHANNEL_ENTRY (R185): on LSP edge `edge`, the first `count` waiting events of the channel enter it. -/
def execEventChannelEntry (chan : ChanIx) (edge count : Nat) (s : State) : Host.Outcome State Fault Refusal :=
  .next (if s.gated then s
  else enterChannel chan edge ((s.fab.waiting.filter (fun e => s.chanOf e == chan)).take count) (passTo (edge / 2) s))

/-- LIMITER_RELEASE (R185): a held event passes S cycles after the one before. -/
def execLimiterRelease (chan : ChanIx) (s : State) : Host.Outcome State Fault Refusal :=
  .next (if s.gated then s
  else
    match (s.limiter chan).held with
    | some h => releaseHeld chan (passTo (h.due / 2) s)
    | none => s)

/-! ## Fires and owners -/

/-- The player of a WRITE step that makes a write, with the step's target tick when it is a step that does (R189). -/
abbrev StepOf : Type := Nat × Option Nat

/-- The tick that a fire carries (R179, R189): a WRITE step's target tick; another fire takes that of the edge on which it enters its
channel (enterChannel). -/
def State.fireTick (s : State) (k : StepOf) : Nat := k.2.getD s.now

/-- The producer of a fire written by an agent, `k` being the player of a WRITE step (R189). -/
def firer (ag : Agent) (k : Nat) : Nat :=
  match ag with
  | .host => 0xf8
  | .hollyhock => 0xf9
  | .larkspur => 0x50 + k

/-- A secure channel takes no write or fire from an agent other than HOLLYHOCK (R189, R192). -/
def State.chanSecure (s : State) (ag : Agent) (n : Nat) : Bool := s.rb (Reg.evfChCfg n) 13 && ag != .hollyhock

/-- A write to EVF.FIRE (R189), exempt from checks 3 and 4 of R139; a disabled page refuses it (R135). -/
def fireWrite (ag : Agent) (k : StepOf) (w : Word) : State → State :=
  hold ag Reg.evfFire w <| secureGuard ag Reg.evfFire (fun s =>
    if s.chanSecure ag (fld w 5 0) then refusalErr Page.evf Err.secureDenied (writeInfo ag Reg.evfFire) 0 s
    else pageWork Page.evf (publishOn (firer ag k.1) (fld w 5 0) (s.fireTick k)) s)

/-- EVF_FIRE (R189). -/
def execEvfFire (ag : Agent) (k : PlayerIx) (w : Word) (s : State) : Host.Outcome State Fault Refusal :=
  .next (fireWrite ag (k, none) w s)

/-- A write of FIRE_MASK_HI fires every channel set in the held LO word and this one, or none when one is secure (R189). -/
def fireMaskWrite (ag : Agent) (k : StepOf) (hi : Word) : State → State :=
  hold ag Reg.evfFireMaskHi hi <| secureGuard ag Reg.evfFireMaskHi (fun s =>
    let l := bitsOf 64 (pair (s.loFor Reg.evfFireMaskLo) hi)
    let t := dropLo Reg.evfFireMaskLo s
    if l.any (s.chanSecure ag) then refusalErr Page.evf Err.secureDenied (writeInfo ag Reg.evfFireMaskHi) 0 t
    else pageWork Page.evf (forEach l (fun n => publishOn (firer ag k.1) n (s.fireTick k))) t)

/-- EVF_FIRE_MASK (R189). -/
def execEvfFireMask (ag : Agent) (k : PlayerIx) (hi : Word) (s : State) : Host.Outcome State Fault Refusal :=
  .next (fireMaskWrite ag (k, none) hi s)

/-- A write to EVF.CH_RECLAIM (R191): HOST takes a channel back from LARKSPUR with the key. The same write by another agent records
OWNER_DENIED (log entry 126). -/
def chReclaim (ag : Agent) (w : Word) : State → State :=
  hold ag Reg.evfChReclaim w <| secureGuard ag Reg.evfChReclaim (fun s =>
    if fld w 31 16 ≠ 0xc35a ∨ ag ≠ .host then refusalErr Page.evf Err.ownerDenied (writeInfo ag Reg.evfChReclaim) 0 s
    else if s.rf (Reg.evfChCfg (fld w 5 0)) 15 14 = 2 then setRf (Reg.evfChCfg (fld w 5 0)) 15 14 0 s
    else s)

/-- EVF_CH_RECLAIM (R191). -/
def execEvfChReclaim (ag : Agent) (w : Word) (s : State) : Host.Outcome State Fault Refusal := .next (chReclaim ag w s)

/-- Whether an agent owns channel `n` (R190); no channel (0x7F) needs no owner. -/
def State.ownsChan (s : State) (ag : Agent) (n : Nat) : Bool :=
  decide (64 ≤ n) || s.rf (Reg.evfChCfg n) 15 14 == agentCode ag

/-- A write of CHn_CFG (R190–R192): OWNER 0b11 is refused; only HOLLYHOCK changes SECURE. -/
def chCfgWrite (ag : Agent) (n : Nat) (w : Word) : State → State :=
  let a := Reg.evfChCfg n
  hold ag a w <| fun s => guardedBy (s.ownsChan ag n || s.chanSecure ag n) ag a (fun t =>
    if t.chanSecure ag n then refusalErr Page.evf Err.secureDenied (writeInfo ag a) 0 t
    else if fld w 15 14 = 3 then refusalErr Page.evf Err.modeAbort openDetail openDetail t
    else sif (ag == .hollyhock) (setRb a 13 (bit w 13)) (storeReg a w t)) s

/-- The resource of the unit that owns producer `p`, where R190 asks for its claim. -/
def unitOfProducer (p : Nat) : Option Nat :=
  if p < 0x20 then some (0x20 + p)
  else if p < 0x28 then some (0x40 + (p - 0x20))
  else if 0x30 ≤ p ∧ p < 0x40 then some (0x68 + (p - 0x30))
  else if 0x40 ≤ p ∧ p < 0x50 then some (0x50 + (p - 0x40))
  else if 0x50 ≤ p ∧ p < 0x70 then some (0x18 + p % 8)
  else none

/-- The resource of the unit that owns task input `i`, where R190 asks for its claim. -/
def unitOfTask (i : Nat) : Option Nat :=
  if i < 0x20 then some (0x20 + i)
  else if i < 0x30 then some (0x40 + i % 8)
  else if i < 0x34 then some (0x48 + (i - 0x30))
  else if 0x38 ≤ i ∧ i < 0x48 then some (0x68 + (i - 0x38))
  else if 0x48 ≤ i ∧ i < 0x88 then some (0x50 + (i - 0x48) / 4)
  else if 0x88 ≤ i ∧ i < 0x90 then some (0x18 + (i - 0x88))
  else none

/-- Producers whose PUBp ignores writes and reads 0x7F (R180): numbers not listed, the players' publish steps, the fires. -/
def pubFixed (p : Nat) : Bool :=
  decide (0x2a ≤ p ∧ p < 0x30) || decide (0x50 ≤ p ∧ p < 0x58) || p == 0xcf || decide (0xe4 ≤ p ∧ p < 0xe8) ||
    decide (0xf6 ≤ p)

/-- Task inputs that are not listed (R181). -/
def subFixed (i : Nat) : Bool := i == 0x36 || i == 0x37 || decide (0x9c ≤ i)

/-- The checks of R190 and R192 on a write that routes a producer or task input from channel `old` to channel `n`; a number that
names no channel is refused with MODE_ABORT. -/
def routeWrite (ag : Agent) (a old n : Nat) (unit : Option Nat) (bad : Bool) (w : Word) (s : State) : State :=
  let claimOk := match unit with
    | none => true
    | some r => s.holds ag r
  let sec := (decide (n < 64) && s.chanSecure ag n) || (decide (old < 64) && s.chanSecure ag old)
  guardedBy (sec || (claimOk && s.ownsChan ag n && s.ownsChan ag old)) ag a (fun t =>
    if sec then refusalErr Page.evf Err.secureDenied (writeInfo ag a) 0 t
    else if bad then refusalErr Page.evf Err.modeAbort openDetail openDetail t
    else storeReg a w (dropLapsed t)) s

/-- A write of PUBp (R180, R190); a fixed one takes none, after the checks of R139 but the third, which R190 replaces. -/
def pubWrite (ag : Agent) (p : Nat) (w : Word) : State → State :=
  let n := fld w 6 0
  let a := Reg.evfPub p
  if pubFixed p then hold ag a w (guardedBy true ag a id)
  else hold ag a w <| fun s =>
    routeWrite ag a (s.rf a 6 0) n (unitOfProducer p) (decide (64 ≤ n ∧ n ≠ 0x7f)) w s

/-- EVF_CNT_CLR's effect (R200). -/
def evfCntClr (ag : Agent) (w : Word) : State → State :=
  hold ag Reg.evfCntClr w <| guarded ag Reg.evfCntClr (fun s =>
    sif (bit w 2) (forEach (List.range 64) (fun n => setRf (Reg.evfChStatus n) 31 16 0))
      (sif (bit w 1) (setReg Reg.evfDropCnt 0) (sif (bit w 0) (setReg Reg.evfCnt 0) s)))

/-- EVF_CNT_CLR (R200). -/
def execEvfCntClr (ag : Agent) (w : Word) (s : State) : Host.Outcome State Fault Refusal := .next (evfCntClr ag w s)

/-- EVF_TASK_IRQ (R181): an event on task input 0x9B sets EVF.IRQ_RAW[0]. -/
def execEvfTaskIrq (s : State) : Host.Outcome State Fault Refusal :=
  .next (onTask 0x9b (fun _ => false) (fun _ => irq Page.evf 0) s)

/-! ## GP pins -/

/-- Every cell with an input on level source `n` is to be evaluated on an LSP edge (R193). -/
def markReaders (n edge : Nat) (s : State) : State :=
  forEach (List.range 16) (fun c t =>
    if (List.range 4).any (fun j => t.rf (Reg.evfSub (0x48 + 4 * c + j)) 6 0 == n) then cellMark c edge t else t) s

/-- The synchronised level of pin `n` becomes `b` at a tick: GP_IN shows it, the cells that take it see it (R193), and a selected edge
publishes (R197). -/
def pinSeen (n : Nat) (b : Bool) (t : Nat) (s : State) : State :=
  if s.rb Reg.evfGpIn n = b then s
  else sif ((s.reg (Reg.evfGpCfg n)).getLsbD (if b then 4 else 5)) (publish (0x30 + n) t)
    (markReaders (64 + n) (2 * t) (setRb Reg.evfGpIn n b (modFab (fun f => { f with gpSince := tabSet none f.gpSince n none }) s)))

/-- The LSP edge on which the level at driven pin `n` has held for 2 cycles and is seen (R197). -/
def State.pinDue (s : State) (n : Nat) : Option Nat := (tabGet none s.fab.gpSince n).map (· + 2)

/-- The level at driven pin `n` is seen, when that is due by an LSP edge (R197). -/
def pinTurn (edge n : Nat) (s : State) : State :=
  match s.pinDue n with
  | some e => if e ≤ edge then pinSeen n (tabGet false s.fab.gpDrive n) (e / 2) s else s
  | none => s

/-- The device drives pin `n` to a level from an LSP edge on: one that has held for 2 cycles by then has been seen, and this one will be when
it has (R197). -/
def drivePin (n : Nat) (b : Bool) (edge : Nat) (r : State) : State :=
  let s := pinTurn edge n r
  modFab (fun f => { f with
    gpDrive := tabSet false f.gpDrive n b
    gpSince := tabSet none f.gpSince n (if b = s.rb Reg.evfGpIn n then none else some ((tabGet none f.gpSince n).getD edge)) }) s

/-- Pin `n` takes the level that its function gives it from an LSP edge on (R196): GP_OUT for a host output, the cell for a cell level, and
what it drove last for an event or timed output (log entry 125). -/
def gpFollow (n edge : Nat) (s : State) : State :=
  let f := s.rf (Reg.evfGpCfg n) 2 0
  if f = 1 then drivePin n (s.rb Reg.evfGpOut n) edge s
  else if f = 3 then drivePin n (s.rb (Reg.evfLutCellStatus (s.rf (Reg.evfGpCfg n) 11 8)) 1) edge s
  else if f = 2 ∨ f = 4 then drivePin n (tabGet false s.fab.gpDrive n) edge s
  else modFab (fun g => { g with gpSince := tabSet none g.gpSince n none }) s

/-! ## Logic cells -/

/-- The filtered output of cell `d` as it stood after the LSP edge before `edge` (R193). -/
def State.cellBefore (s : State) (d edge : Nat) : Bool :=
  match tabGet none s.fab.cellLast d with
  | some (e, b) => if e = edge then b else s.rb (Reg.evfLutCellStatus d) 1
  | none => s.rb (Reg.evfLutCellStatus d) 1

/-- Input `j` of cell `c` on an edge (R193), with or without the channel pulses that wait at the cell: an event that has passed to the
input arrives whatever SUBi has become since (R183); a level source gives its level. -/
def State.cellIn (s : State) (pulses : Bool) (edge c j : Nat) : Bool :=
  let i := 0x48 + 4 * c + j
  let n := s.rf (Reg.evfSub i) 6 0
  (pulses && s.fab.tasks.any (fun t => t.input == i)) ||
    (if n < 64 then false
    else if n < 0x50 then s.rb Reg.evfGpIn (n - 64)
    else if n < 0x60 then s.cellBefore (n - 0x50) edge
    else false)

/-- The look-up result of cell `c` on an edge; a registered cell has Q in place of input 3 (R193, R194). -/
def State.cellOut (s : State) (pulses : Bool) (edge c : Nat) : Bool :=
  let x := s.cellIn pulses edge c
  let i3 := if s.rb (Reg.evfLutCellCfg c) 11 then s.rb (Reg.evfLutCellStatus c) 0 else x 3
  s.rb (Reg.evfLutCellCfg c) (16 + (8 * i3.toNat + 4 * (x 2).toNat + 2 * (x 1).toNat + (x 0).toNat))

/-- The filtered output of cell `c` changes on an LSP edge (R195): CELL_LEVEL shows it, following pins 1 ft later (R196), the cells that take it
see it on the next edge (R193), and a selected edge publishes. -/
def cellChange (c : Nat) (b : Bool) (edge : Nat) (s : State) : State :=
  let u := sif ((s.reg (Reg.evfLutCellCfg c)).getLsbD (if b then 9 else 10)) (publish (0x40 + c) (edge / 2))
    (setRb Reg.evfLutCellLevel c b (setRb (Reg.evfLutCellStatus c) 1 b
      (modFab (fun f => { f with cellLast := tabSet none f.cellLast c (some (edge, s.rb (Reg.evfLutCellStatus c) 1)) })
        (markReaders (0x50 + c) (edge + 1) s))))
  forEach (List.range 16) (fun n v =>
    if v.rf (Reg.evfGpCfg n) 2 0 = 3 ∧ v.rf (Reg.evfGpCfg n) 11 8 = c then gpFollow n (edge + 2) v else v) u

/-- Records since which edge the output of cell `c` has differed from its filtered output (R195). -/
def setSince (c : Nat) (e : Option Nat) (s : State) : State :=
  modFab (fun f => { f with cellSince := tabSet none f.cellSince c e }) s

/-- The edge on which the filter of cell `c` passes what its output holds now (R195): FILT edges after the one on which it took it. -/
def State.filterDue (s : State) (c : Nat) : Option Nat :=
  (tabGet none s.fab.cellSince c).map (· + s.rf (Reg.evfLutCellCfg c) 15 12)

/-- The filter of cell `c` by an LSP edge (R195): an output that has held its new value for FILT cycles has changed the filtered
output. -/
def cellFilter (c edge : Nat) (s : State) : State :=
  match s.filterDue c with
  | some e => if e ≤ edge then cellChange c (!s.rb (Reg.evfLutCellStatus c) 1) e (setSince c none s) else s
  | none => s

/-- The output of cell `c` is `o` on an LSP edge: without a filter the filtered output follows it at once; with one its difference from
the filtered output counts from this edge. -/
def cellTake (c edge : Nat) (o : Bool) (s : State) : State :=
  if o = s.rb (Reg.evfLutCellStatus c) 1 then setSince c none s
  else if s.rf (Reg.evfLutCellCfg c) 15 12 = 0 then cellChange c o edge (setSince c none s)
  else if (tabGet none s.fab.cellSince c).isSome then s
  else setSince c (some edge) s

/-- Cell `c` has output `o` on an LSP edge: the filter passes what has held long enough, and Q takes the look-up result (R194, R195), which the
next edge sees. -/
def cellStep (c edge : Nat) (o : Bool) (s : State) : State :=
  let q := s.rb (Reg.evfLutCellCfg c) 11 && o
  let t := sif (q != s.rb (Reg.evfLutCellStatus c) 0) (cellMark c (edge + 1)) s
  cellTake c edge o (cellFilter c edge (setRb (Reg.evfLutCellStatus c) 0 q t))

/-- The channel pulses that wait at the inputs of cell `c` (R193). -/
def State.cellPulses (s : State) (c : Nat) : List Task :=
  s.fab.tasks.filter (fun x => decide (0x48 + 4 * c ≤ x.input ∧ x.input < 0x4c + 4 * c))

/-- The edges on which something is due at cell `c`: its filter passes a change, or an input has changed. -/
def State.cellDue (s : State) (c : Nat) : List Nat := (s.filterDue c).toList ++ tabGet [] s.fab.cellNext c

/-- The earliest edge on which something is due at a cell or a driven pin. -/
def State.firstDue (s : State) : Option Nat :=
  ((List.range 16).flatMap s.cellDue ++ (List.range 16).filterMap s.pinDue).foldl
    (fun m e => some (match m with | some a => min a e | none => e)) none

/-- The marks of cell `c` for edges up to `edge` are used up. -/
def cellUnmark (c edge : Nat) : State → State :=
  modFab (fun f => { f with cellNext := tabSet [] f.cellNext c ((tabGet [] f.cellNext c).filter (fun e => decide (edge < e))) })

/-- Cell `c` on an edge on which it is due: pulses that wait at its inputs are of a later edge. -/
def cellTurn (edge c : Nat) (s : State) : State :=
  let t := cellFilter c edge s
  if (tabGet [] t.fab.cellNext c).any (fun e => decide (e ≤ edge)) then cellStep c edge (t.cellOut false edge c) (cellUnmark c edge t) else t

/-- Driven pins and cells take the edges before `edge` on which something is due, one after another (R193, R195, R197). A ring of cells is due
on every edge, so `fuel` bounds them by their number. -/
def cellsRun (edge : Nat) : Nat → State → State
  | 0, s => s
  | fuel + 1, s =>
    match s.firstDue with
    | some e => if e < edge then cellsRun edge fuel (forEach (List.range 16) (cellTurn e) (forEach (List.range 16) (pinTurn e) s)) else s
    | none => s

/-- The pins have taken every edge before `edge` while LSP runs, and the cells while their page is not quiesced. -/
def cellsTo (edge : Nat) (s : State) : State :=
  if s.gated then s
  else if s.quiesced Page.evfLut then forEach (List.range 16) (pinTurn (edge - 1)) s
  else
    match s.firstDue with
    | some e => cellsRun edge (edge - e) s
    | none => s

/-- Pins and cells have taken every edge before the present tick. -/
def cellsNow (s : State) : State := cellsTo (2 * s.now) s

/-- Cell `c` evaluates on an LSP edge (R193–R195). The channel pulses at its inputs are used up: on the next edge they are 0 again. -/
def cellEval (c edge : Nat) (s : State) : State :=
  let l := s.cellPulses c
  cellStep c edge (s.cellOut true edge c) (sif (l != []) (cellMark c (edge + 1)) (cellUnmark c edge (takeTasks l s)))

/-- CELL_OUTPUT_CHANGE (R195): cell `c` evaluates on an edge; while EVF_LUT is quiesced nothing changes. -/
def execCellOutputChange (c : CellIx) (edge : Nat) (s : State) : Host.Outcome State Fault Refusal :=
  .next (if s.quiesced Page.evfLut ∨ s.gated then s else cellEval c edge (cellsTo edge (passTo (edge / 2) s)))

/-- A new word takes effect in CELLc_CFG (R194): a rise of REG loads INIT into Q, and Q is 0 without REG; the cell evaluates anew. A
shorter FILT passes what it finds held long enough from the present edge on (R195). -/
def cellCfgInUse (c : Nat) (v : Word) (s : State) : State :=
  let a := Reg.evfLutCellCfg c
  let t := cellFilter c (2 * s.now) (cellsNow s)
  let q := if bit v 11 then (if s.rb a 11 then t.rb (Reg.evfLutCellStatus c) 0 else bit v 8) else false
  cellMark c (2 * s.now) (setSince c ((tabGet none t.fab.cellSince c).map (fun e => max e (2 * s.now - fld v 15 12)))
    (setRb (Reg.evfLutCellStatus c) 0 q (setReg a v t)))

/-- Every cell is to be evaluated on the present edge: they run again, or their inputs have been routed anew (R193). -/
def cellsWake (s : State) : State := forEach (List.range 16) (fun c => cellMark c (2 * s.now)) s

/-- Cell inputs have new sources (R193): a cell with one of them is evaluated on the present edge. -/
def subMark (i : Nat) (s : State) : State := if 0x48 ≤ i ∧ i < 0x88 then cellMark ((i - 0x48) / 4) (2 * s.now) s else s

/-- A write of SUBi (R181, R190, R193): level sources go to cell inputs alone; an input that is not listed takes no write. -/
def subWrite (ag : Agent) (i : Nat) (w : Word) : State → State :=
  let n := fld w 6 0
  let a := Reg.evfSub i
  if subFixed i then hold ag a w (guardedBy true ag a id)
  else hold ag a w <| fun s =>
    subMark i (routeWrite ag a (s.rf a 6 0) n (unitOfTask i)
      (decide ((0x60 ≤ n ∧ n ≠ 0x7f) ∨ (64 ≤ n ∧ n < 0x60 ∧ ¬(0x48 ≤ i ∧ i < 0x88)))) w (cellsNow s))

/-! ## Pin functions -/

/-- A new word takes effect in GPn_CFG (R196): a pulse that runs ends when FUNC changes. A pin that becomes an event or a timed output
keeps the level last driven until its first event or step (log entry 125). -/
def gpCfgInUse (n : Nat) (v : Word) (s : State) : State :=
  gpFollow n (2 * s.now) (sif (decide (fld v 2 0 ≠ s.rf (Reg.evfGpCfg n) 2 0)) (modFab (fun f => { f with gpPulse := tabSet none f.gpPulse n none }))
    (setReg (Reg.evfGpCfg n) v (cellsNow s)))

/-- A write of GPn_CFG (R190, R196): the writer holds the pin; a timed output is LARKSPUR's. -/
def gpCfgWrite (ag : Agent) (n : Nat) (w : Word) : State → State :=
  let a := Reg.evfGpCfg n
  hold ag a w <| fun s => guardedBy (s.holds ag (0x68 + n) && (fld w 2 0 != 4 || ag == .larkspur)) ag a (fun t =>
    if 5 ≤ fld w 2 0 then refusalErr Page.evf Err.modeAbort openDetail openDetail t
    else storeWith a w (gpCfgInUse n) t) s

/-- Pin `n` does what an ACTION code says (R196): high, low, toggle, or high for PULSE ft. -/
def gpSet (n act : Nat) (s : State) : State :=
  let e := 2 * s.now
  if act = 0 then drivePin n true e s
  else if act = 1 then drivePin n false e s
  else if act = 2 then drivePin n (!tabGet false s.fab.gpDrive n) e s
  else modFab (fun f => { f with
    gpPulse := tabSet none f.gpPulse n (some (s.now + max 1 (s.rf (Reg.evfGpCfg n) 31 16))) }) (drivePin n true e s)

/-- What an event output does on an event (R196). -/
def gpAction (n : Nat) (s : State) : State :=
  let a := s.rf (Reg.evfGpCfg n) 7 6
  if s.rf (Reg.evfGpCfg n) 2 0 ≠ 2 then s
  else gpSet n a s

/-- GP_EVENT_OUTPUT (R196): an event on task input 0x38 + n, busy while a pulse runs. -/
def execGpEventOutput (n : GpIx) (s : State) : Host.Outcome State Fault Refusal :=
  .next (onTask (0x38 + n) (fun t => (tabGet none t.fab.gpPulse n).isSome) (fun _ => gpAction n ∘ cellsNow) s)

/-- GP_PULSE_END (R196): a pulse ends after PULSE ft and the pin goes low. -/
def execGpPulseEnd (n : GpIx) (s : State) : Host.Outcome State Fault Refusal :=
  .next (match if s.gated then none else tabGet none s.fab.gpPulse n with
    | none => s
    | some t =>
      let u := cellsNow (passTo t s)
      drivePin n false (2 * u.now) (modFab (fun f => { f with gpPulse := tabSet none f.gpPulse n none }) u))

/-- A write to EVF.GP_OUT (R196): the masked pins must all be the writer's. -/
def gpOutWrite (ag : Agent) (w : Word) : State → State :=
  hold ag Reg.evfGpOut w <| guarded ag Reg.evfGpOut (fun s =>
    let l := bitsOf 16 (fld w 31 16)
    if l.any (fun n => !s.holds ag (0x68 + n)) then refusalErr Page.evf Err.ownerDenied (writeInfo ag Reg.evfGpOut) 0 s
    else forEach l (fun n t => gpFollow n (2 * t.now) (setRb Reg.evfGpOut n (bit w n) t)) (cellsNow s))

/-- GP_OUT_WRITE (R196). -/
def execGpOutWrite (ag : Agent) (w : Word) (s : State) : Host.Outcome State Fault Refusal := .next (gpOutWrite ag w s)

/-- GP_INPUT_EDGE (R197): a level that holds for at least 2 LSP cycles is seen at a tick; the cells have taken every edge before it. -/
def execGpInputEdge (n : GpIx) (level : Bool) (t : Nat) (s : State) : Host.Outcome State Fault Refusal :=
  .next (if s.gated then s
  else
    let u := cellsNow (passTo t s)
    pinSeen n level u.now u)

/-- A write of CELLc_CFG (R190, R194): the writer holds the cell. -/
def cellCfgWrite (ag : Agent) (c : Nat) (w : Word) : State → State :=
  let a := Reg.evfLutCellCfg c
  hold ag a w <| fun s => guardedBy (s.holds ag (0x50 + c)) ag a (storeWith a w (cellCfgInUse c)) s

end Sys2Proof.Machine
end

