-- ==== Sys2Proof/Machine/Session.lean ====
section
/-! DEFINITION. Sessions (01_surface_architecture, R25–R34; 11_discovery_anticollision, R280–R285): handles, the header of a
session context, creation, destruction, placement, migration, the pending lists and the session RAM view. -/

namespace Sys2Proof.Machine

/-! ## The session header (R280) -/

/-- States of a session (R30), coded as R280. -/
abbrev SessState.free : Nat := 0
abbrev SessState.opened : Nat := 1
abbrev SessState.placed : Nat := 2
abbrev SessState.busy : Nat := 3
abbrev SessState.fenced : Nat := 4
abbrev SessState.closing : Nat := 5

/-- KIND of slot `k`: 0 HF, 1 RB, 2 XB. -/
def State.sessKind (s : State) (k : Nat) : Nat := s.ctx k 2 % 4
/-- PLACE of slot `k` (R32). -/
def State.sessPlace (s : State) (k : Nat) : Nat := s.ctx k 3 / 16
/-- ENGINE of slot `k`. -/
def State.sessEngine (s : State) (k : Nat) : Nat := s.ctx k 4 % 16
/-- PLAYER of slot `k`. -/
def State.sessPlayer (s : State) (k : Nat) : Nat := s.ctx k 5
/-- FRAME_MAX of slot `k`, in blocks of 512 bytes. -/
def State.frameMax (s : State) (k : Nat) : Nat := s.ctx k 6 % 16
/-- HANDLE of slot `k` (R25). -/
def State.sessHandle (s : State) (k : Nat) : Nat := s.ctx16 k 0
/-- FLAGS.PLACE of the items of slot `k` (R109): the placement number for HF and XB sessions. -/
def State.placeFlag (s : State) (k : Nat) : Nat := if s.sessKind k = 1 then 0 else s.sessPlace k
/-- The pending list of slot `k` (R112). -/
def State.pendOf (s : State) (k : Nat) : List Item := tabGet [] s.sess.pend k
/-- Replaces the pending list of slot `k`. -/
def setPend (k : Nat) (l : List Item) : State → State := modSess (fun x => { x with pend := tabSet [] x.pend k l })
/-- The fence of slot `k` (R33). -/
def State.fence (s : State) (k : Nat) : Option Fence := tabGet none s.sess.fences k
/-- Replaces the fence of slot `k`. -/
def setFence (k : Nat) (f : Option Fence) : State → State :=
  modSess (fun x => { x with fences := tabSet none x.fences k f })

/-- Holder entries that appear only in refusals (R154): the session table, the frame pool with its free blocks, a session. -/
def holderTable : Nat := 0x9000
def holderPool (free : Nat) : Nat := 0xa000 + free
def holderSession (handle : Nat) : Nat := handle * 65536 + 0xb000

/-- The index shown when the holder has none (R488). -/
abbrev noIndex : Nat := 0x7f

/-! ## Handles -/

/-- What R26 and R28 find wrong with a command's handle: the code and its EXTRA. -/
def State.badHandle (s : State) (i : Item) : Option (Nat × Nat) :=
  if i.slot = 0 ∨ s.sessState i.slot = SessState.free then some (Err.badHandle, 0)
  else if s.sessHandle i.slot ≠ i.handle ∨ s.sessState i.slot = SessState.closing then
    some (Err.staleHandle, tabGet 0 s.sess.gens i.slot % 256)
  else none

/-- Dispatches a command that names a session (R26, R112): a bad or stale handle is refused with the handle as detail. -/
def dispatchSession (typ : Nat) (f : Item → Nat → State → State) : State → State :=
  dispatch typ (fun i s =>
    match s.badHandle i with
    | some (e, x) => refuse i e i.handle x s
    | none => f i i.slot s)

/-! ## Creation and destruction -/

/-- The free slot that has been free longest, the lowest-numbered of those never used (R27, R281). -/
def State.pickSlot (s : State) : Option Nat :=
  match (List.range 256).find? (fun k => k != 0 && !tabGet false s.sess.used k) with
  | some k => some k
  | none => s.sess.freed.head?

/-- The handle of a new session in slot `k` (R25). -/
def State.newHandle (s : State) (k : Nat) : Nat := tabGet 0 s.sess.gens k % 256 * 256 + k

/-- Creates a session in slot `k` (R280, R281): header, and protocol, identity and statistics areas cleared. -/
def openSession (k kind : Nat) (follow : Bool) (fmax : Nat) (s : State) : State :=
  useCount (setBytes (ctxAddr k 0xb0) (List.replicate 16 0) (setBytes (ctxAddr k 0)
    ([BitVec.ofNat 8 k, BitVec.ofNat 8 (tabGet 0 s.sess.gens k), BitVec.ofNat 8 (kind + 4 * follow.toNat),
      BitVec.ofNat 8 SessState.opened, 0x0f, 0, BitVec.ofNat 8 fmax, 0] ++ List.replicate 56 0)
    (modSess (fun x => { x with used := tabSet false x.used k true, freed := x.freed.erase k }) s)))

/-- FRAME_MAX as a command gives it: 0 acts as 4 (R267, R281). -/
def fmaxOf (v : Nat) : Nat := if v = 0 then 4 else v

/-- A refusal because every slot is in use (R27, R285). -/
def tableFull (i : Item) (s : State) : State := refuse i Err.resourceBusy holderTable noIndex (irq Page.sess 2 s)

/-- Whether commands for the session table wait (R143): the SESS page is quiesced, but not disabled. -/
def State.sessWaits (s : State) : Bool := s.rb (Reg.status Page.sess) 0 && s.rb (Reg.ctrl Page.sess) 0

/-- The session table's commands: they wait while SESS is quiesced (R143) and are refused while it is disabled (R135). -/
def sessTable (d : (Item → State → State) → State → State) (f : Item → State → State) (s : State) : State :=
  if s.sessWaits then s
  else d (fun i t => if t.rb (Reg.ctrl Page.sess) 0 then f i t else refuse i Err.modeAbort openDetail openDetail t) s

/-- SESSION_CREATE (R281). -/
def execSessionCreate (s : State) : Host.Outcome State Fault Refusal :=
  .next (sessTable (dispatch 0x01) (fun i s =>
    let w := i.word 4
    if fld w 31 30 = 3 ∨ 8 < fld w 23 20 then refuse i Err.modeAbort openDetail openDetail s
    else
      match s.pickSlot with
      | none => tableFull i s
      | some k =>
        postResult (answer i (s.newHandle k) 0 0 postTick []) 5 0
          (openSession k (fld w 31 30) (bit w 29) (fmaxOf (fld w 23 20)) s)) s)

/-- Ends a fence because of a destroy (R34): the command that set it is refused with the old placement number. -/
def dropFence (k : Nat) (s : State) : State :=
  match s.fence k with
  | none => s
  | some f =>
    match f.item with
    | none => setFence k none s
    | some c => refuse c Err.modeAbort openDetail openDetail (setFence k none s)

/-- SESSION_DESTROY (R28, R34): the session is CLOSING at once. -/
def execSessionDestroy (s : State) : Host.Outcome State Fault Refusal :=
  .next (sessTable (fun g => dispatchSession 0x02 (fun i _ => g i)) (fun i s =>
    setSessState i.slot SessState.closing (modSess (fun x => { x with closing := tabSet none x.closing i.slot (some i) })
      (dropFence i.slot s))) s)

/-- Whether an exchange of slot `k` is in flight on its engine, on the radio under player 4, or in the link layer, which may
await a packet, its decoding or a resend (R365). -/
def State.inFlight (s : State) (k : Nat) : Bool :=
  (List.range 4).any (fun n => ((s.eng n).exch.map Exch.slot) == some k) || (s.player 4).slot == k ||
    s.link.ex.map LinkEx.slot == some k

/-- Releases every claim made for a session (R39). -/
def releaseFor (handle : Nat) : State → State := releaseAll (fun _ e => e / 65536 == handle)

/-- Whether SESSION_CLOSED of a destroyed slot is due (R28): no command waiting, no frame in flight and no result held. -/
def State.closeDue (s : State) (k : Nat) (i : Item) : Bool :=
  s.pendOf k == [] && !s.inFlight k && !s.queue.held.any (fun h => h.item.handle == i.handle)

/-- SESSION_CLOSED (R28): the destroyed session is answered; the slot becomes free when that result is posted (closeSlot). -/
def execSessionClosed (slot : SlotIx) (s : State) : Host.Outcome State Fault Refusal :=
  let k : Nat := slot
  .next (match tabGet none s.sess.closing k with
    | none => s
    | some i =>
      if s.closeDue k i then postResult { answer i i.handle 0 (s.placeFlag k) postTick [] with typ := 0x30 } 5 0 s else s)

/-! ## Placement -/

/-- Signed 16-bit value of a field. -/
def s16 (v : Nat) : Int := signed 16 v

/-- The lowest-numbered enabled region that holds a position (R239). -/
def State.regionAt (s : State) (x y : Int) : Option Nat :=
  (List.range 16).find? (fun r => s.rb (Reg.fwgtRegId r) 8 &&
    decide (s16 (s.rf (Reg.fwgtRegMin r) 31 16) ≤ x ∧ x ≤ s16 (s.rf (Reg.fwgtRegMax r) 31 16) ∧
      s16 (s.rf (Reg.fwgtRegMin r) 15 0) ≤ y ∧ y ≤ s16 (s.rf (Reg.fwgtRegMax r) 15 0)))

/-- The region index of a session's stored position; an invalid position (0x8000) has none (R238, R239). -/
def State.sessRegion (s : State) (k : Nat) : Option Nat :=
  if s.ctx16 k 0x38 = 0x8000 then none else s.regionAt (s16 (s.ctx16 k 0x38)) (s16 (s.ctx16 k 0x3a))

/-- The lowest-numbered engine, `but` excepted, whose follow map holds region `r` (R282, R284). -/
def State.mapEngine (s : State) (r but : Nat) : Option Nat :=
  (List.range 4).find? (fun n => n != but && s.rb (Reg.sessFollowMap n) r)

/-- The engine that a placement names; 0xF names one by the session's position (R282). -/
def State.targetEngine (s : State) (k t : Nat) : Option Nat :=
  if s.sessKind k = 1 then (if t = 0xe ∨ t = 0xf then some 0xe else none)
  else if t < 4 then some t
  else if t = 0xf then (s.sessRegion k).bind (fun r => s.mapEngine r 0xff)
  else none

/-- Whether an engine can take a session (R282): the standard agrees, the page is enabled, and the engine holds a coil. -/
def State.engineFits (s : State) (k n : Nat) : Bool :=
  s.rf (Reg.feMode n) 3 0 == s.ctx k 8 % 16 && s.rb (Reg.ctrl (Page.fe n)) 0 && s.rf (Reg.fwgtFeCoils n) 27 16 != 0

/-- The player that serves an engine, or the return band (R282, R286). -/
def servedBy (n : Nat) : Nat := if n = 0xe then 4 else n

/-- Word 4 of a placement result (R282). -/
def placeWord (n place : Nat) : Word := wd (n * 2 ^ 28 + servedBy n * 2 ^ 24 + place)

/-- Binds slot `k` to an engine with a placement number, PLACED; the engine is claimed for its placements (R37). -/
def bindTo (k n place : Nat) (s : State) : State :=
  engineClaims <| setCtx k 3 (SessState.placed + 16 * place) (setCtx k 5 (servedBy n) (setCtx k 4 (s.ctx k 4 / 16 * 16 + n) s))

/-- SESSION_PLACE (R282). -/
def execSessionPlace (s : State) : Host.Outcome State Fault Refusal :=
  .next (dispatchSession 0x03 (fun i k s =>
    match s.targetEngine k (fld (i.word 4) 31 28) with
    | none => refuse i Err.modeAbort openDetail openDetail s
    | some n =>
      if s.sessState k ≠ SessState.opened ∨ (n ≠ 0xe ∧ s.engineFits k n = false) then refuse i Err.modeAbort openDetail openDetail s
      else postResult (answer i i.handle 0 0 postTick [placeWord n 0]) 5 0 (bindTo k n 0 s)) s)

/-! ## Migration -/

/-- SESSION_MIGRATE (R283, R34). -/
def execSessionMigrate (s : State) : Host.Outcome State Fault Refusal :=
  .next (dispatchSession 0x04 (fun i k s =>
    let n := fld (i.word 4) 31 28
    if s.sessKind k = 1 then refuse i Err.modeAbort openDetail openDetail s
    else if s.sessState k = SessState.fenced then
      refuse i Err.resourceBusy (holderSession (s.sessHandle k)) noIndex s
    else if s.sessState k ≠ SessState.placed ∧ s.sessState k ≠ SessState.busy then refuse i Err.modeAbort openDetail openDetail s
    else if n = s.sessEngine k then
      postResult (answer i i.handle 0 (s.placeFlag k) postTick [placeWord n (s.sessPlace k)]) 5 0 s
    else if 4 ≤ n ∨ s.engineFits k n = false then refuse i Err.modeAbort openDetail openDetail s
    else setSessState k SessState.fenced (setFence k (some ⟨n, some i⟩) s)) s)

/-- An automatic migration (R284): to the lowest-numbered other engine whose map holds region `r`, or FOLLOW_BLOCKED. -/
def autoMigrate (k : Nat) (r : Option Nat) (s : State) : State :=
  let t := setCtx k 4 (s.sessEngine k) s
  match r.bind (fun r => s.mapEngine r (s.sessEngine k)) with
  | none => irq Page.sess 1 t
  | some n =>
    if s.engineFits k n then setSessState k SessState.fenced (setFence k (some ⟨n, none⟩) t) else irq Page.sess 1 t

/-- The test of R284 on a localised reply of slot `k`: `valid` tells a valid position, `r` the region matched. Under a fence and in CLOSING the run is
counted and no migration starts (log entry 114). -/
def followTest (k : Nat) (valid : Bool) (r : Option Nat) (s : State) : State :=
  if !(s.ctx k 2).testBit 2 || !valid then s
  else if (r.map (fun r => s.rb (Reg.sessFollowMap (s.sessEngine k)) r)) = some true then setCtx k 4 (s.sessEngine k) s
  else
    let run := s.ctx k 4 / 16 + 1
    if (s.fence k).isSome || s.sessState k == SessState.closing then setCtx k 4 (s.sessEngine k + 16 * min 15 run) s
    else if max 1 (min 15 (s.rf Reg.sessDiscCfg 15 8)) ≤ run then autoMigrate k r s
    else setCtx k 4 (s.sessEngine k + 16 * run) s

/-- The result of a migration (R283, R284): to the command that asked, or unsolicited, then of class 0 (log entry 82). -/
def migrateAnswer (k : Nat) (f : Fence) (s : State) : State :=
  let i : Item := ⟨0x04, 0, 0, s.sessHandle k, 0, s.placeFlag k, postTick, [placeWord f.target (s.sessPlace k)], s.now,
    Page.sess, none⟩
  match f.item with
  | some c => postResult (answer c c.handle 0 i.flags postTick i.payload) 5 0 (addRf Reg.sessMigCnt 15 0 1 s)
  | none => postUnsolicited i 5 0 (irq Page.sess 0 (addRf Reg.sessMigCnt 31 16 1 s))

/-- MIGRATION_COMPLETE (R33, R283): once the old engine's frame has ended, the new engine takes the session with the next
placement number, and the claims of the old placement are released (R39). -/
def execMigrationComplete (slot : SlotIx) (s : State) : Host.Outcome State Fault Refusal :=
  let k : Nat := slot
  .next (match s.fence k with
    | none => s
    | some f =>
      if s.inFlight k then s
      else migrateAnswer k f (bindTo k f.target ((s.sessPlace k + 1) % 16)
        (setFence k none (releaseFor (s.sessHandle k) s))))

/-! ## Pending lists and the frame pool -/

/-- The length of a pending list (QUEUE.DISPATCH.PENDING_MAX as it acts). -/
def State.pendMax (s : State) : Nat := max 1 (min 4 (s.rf Reg.queueDispatch 2 0))

/-- Frame-pool blocks that no session holds (R22); the pool has 256. -/
def State.freePool (s : State) : List Nat :=
  (List.range 256).filter (fun b => !s.sess.blocks.any (fun p => p.2.contains b))

/-- Reserves FRAME_MAX blocks for an exchange of slot `k` at its dispatch, the lowest-numbered free ones (R22, log entry
20), and lays the transmit payload in them (R4). -/
def reserve (k : Nat) (tx : List Byte) (s : State) : State :=
  let b := s.freePool.take (s.frameMax k)
  let t := framesArea k (modSess (fun x => { x with blocks := tabSet [] x.blocks k (tabGet [] x.blocks k ++ b) }) s)
  (List.range b.length).foldl (fun u j => setBytes (poolBase + 512 * b.getD j 0) ((tx.drop (512 * j)).take 512) u) t

/-- How many results of slot `k` wait with their blocks (R23). -/
def State.heldFor (s : State) (k : Nat) : Nat := (s.queue.held.filter (fun h => h.slot == k)).length

/-- Writes received bytes into the blocks of slot `k`'s exchange in flight, those after the blocks of the results that wait. -/
def poolStore (k : Nat) (rx : List Byte) (s : State) : State :=
  let b := ((tabGet [] s.sess.blocks k).drop (s.frameMax k * s.heldFor k)).take (s.frameMax k)
  framesArea k <| (List.range b.length).foldl (fun u j => setBytes (poolBase + 512 * b.getD j 0) ((rx.drop (512 * j)).take 512) u) s

/-- A command for a placed session is dispatched into its pending list (R112) after `check`, with the reservation of R22;
with the list full, dispatch stops at the item. An OPEN session's exchange is refused. `note` is what a refusal leaves in the page concerned. -/
def dispatchExchange (typ : Nat) (check : Item → Nat → State → Option (Nat × Nat × Nat)) (note : Item → Nat → State → State)
    (tx : Item → List Byte) (s : State) : State :=
  match s.headCmd typ with
  | none => s
  | some i =>
    if s.badHandle i = none ∧ s.sessState i.slot ≠ SessState.opened ∧ s.pendMax ≤ (s.pendOf i.slot).length then s
    else
      dispatchSession typ (fun i k s =>
        if s.sessState k = SessState.opened then refuse i Err.modeAbort openDetail openDetail s
        else
          match check i k s with
          | some (e, d, x) => refuse i e d x (note i k s)
          | none =>
            if s.freePool.length < s.frameMax k then
              refuse i Err.resourceBusy (holderPool s.freePool.length) noIndex s
            else setPend k (s.pendOf k ++ [i]) (reserve k (tx i) s)) s

/-! ## Session RAM view and counters -/

/-- The bits of byte `o` of a context that hold a field (R264, R276, R388, R398, R489); the others read as 0 (R8). The layout of the Frames area is
the model's own (log entry 20). -/
def ctxBits (o : Nat) : Byte :=
  if o = 0x08 ∨ o = 0x0e ∨ o = 0x40 ∨ o = 0x89 ∨ o = 0x8b then 0x0f
  else if o = 0x41 then 0x07
  else if o = 0x58 ∨ o = 0x86 ∨ o = 0x87 then 0x3f
  else if o = 0x59 then 0x03
  else if o = 0x88 then 0x1f
  else if o = 0x8a then 0xf7
  else if o = 0x0f ∨ (0x14 ≤ o ∧ o < 0x20) ∨ o = 0x37 ∨ o = 0x3e ∨ o = 0x3f ∨ o = 0x42 ∨ o = 0x43 ∨ (0x5a ≤ o ∧ o < 0x60) ∨ o = 0x8f ∨ o = 0x93 ∨
      (0x98 ≤ o ∧ o < 0xb0) then 0
  else 0xff

/-- The bytes that a host's word stores from byte `o` of a context on. -/
def ctxWord (o : Nat) (w : Word) : List Byte := (wordBytes w).zipIdx.map (fun p => p.1 &&& ctxBits (o + p.2))

/-- A host write to a session context (R31, R132, R280): record 0 takes none; a context only while OPEN or PLACED; of the
header only FOLLOW, and elsewhere the bits that hold a field (R8). Which page records OWNER_DENIED, of which R31 and R132 name different ones, is a choice (log entry 108). -/
def sessionRamWrite (a : Nat) (w : Word) (s : State) : State :=
  let o := a - sessBase
  let k := o / 192
  if k = 0 then refusalErr Page.sys Err.ownerDenied a 0 s
  else if s.sessState k ≠ SessState.opened ∧ s.sessState k ≠ SessState.placed then
    refusalErr Page.sess Err.ownerDenied a 0 s
  else if o % 192 = 0 then setCtx k 2 (s.ctx k 2 % 4 + 4 * (bit w 18).toNat) s
  else if o % 192 = 4 then s
  else setBytes a (ctxWord (o % 192) w) s

/-- SESSION_RAM_WRITE (R31): at the word boundary below the address. -/
def execSessionRamWrite (addr : Nat) (w : Word) (s : State) : Host.Outcome State Fault Refusal :=
  let a := addr / 4 * 4
  .next (if sessBase ≤ a ∧ a < sessBase + 0xc000 then windowWrite a (sessionRamWrite a w) s else s)

/-- A write to SESS.CNT_CLR (R285). -/
def sessCntClr (ag : Agent) (w : Word) : State → State :=
  guarded ag Reg.sessCntClr (fun s =>
    sif (bit w 1) (setRf Reg.sessUse 15 8 (s.rf Reg.sessUse 7 0)) (sif (bit w 0) (setReg Reg.sessMigCnt 0) s))

/-- SESS_CNT_CLR (R285). -/
def execSessCntClr (ag : Agent) (w : Word) (s : State) : Host.Outcome State Fault Refusal := .next (sessCntClr ag w s)

end Sys2Proof.Machine
end

