-- ==== Sys2Proof/Machine/Cvu.lean ====
section
/-! DEFINITION. Check-value units (16_check_value_units, R389–R402): the CRC in its parametric form, the presets, frames on a
channel, and quiescing single channels. -/

namespace Sys2Proof.Machine

/-! ## The algorithm (R391) -/

/-- The parameters of a CRC: width, polynomial, initial value, reflections and final XOR. -/
structure CrcPar where
  w : Nat
  poly : Nat
  init : Nat
  refin : Bool
  refout : Bool
  xorout : Nat
  deriving DecidableEq, Repr

/-- Reverses the low `w` bits. -/
def reflect (w v : Nat) : Nat := (List.range w).foldl (fun r i => if v.testBit i then r + 2 ^ (w - 1 - i) else r) 0

/-- RUN at START (R391). -/
def CrcPar.start (p : CrcPar) : Nat := if p.refin then reflect p.w p.init else p.init % 2 ^ p.w

/-- One bit into RUN (R391). -/
def CrcPar.bitIn (p : CrcPar) (run : Nat) (b : Bool) : Nat :=
  if p.refin then (run / 2) ^^^ (if (run.testBit 0) != b then reflect p.w p.poly else 0)
  else (run * 2 % 2 ^ p.w) ^^^ (if (run.testBit (p.w - 1)) != b then p.poly else 0)

/-- One byte into RUN: least significant bit first with REFIN at 1, most significant first with REFIN at 0 (R391). -/
def CrcPar.byteIn (p : CrcPar) (run : Nat) (b : Byte) : Nat :=
  (List.range 8).foldl (fun r i => p.bitIn r (b.getLsbD (if p.refin then i else 7 - i))) run

/-- RESULT for a value of RUN (R391). -/
def CrcPar.result (p : CrcPar) (run : Nat) : Nat :=
  (if p.refin = p.refout then run else reflect p.w run) ^^^ p.xorout

/-- The CRC of a message. -/
def CrcPar.crc (p : CrcPar) (l : List Byte) : Nat := p.result (l.foldl p.byteIn p.start)

/-- The native presets 0x1–0x7 (R392). -/
def preset : Nat → Option CrcPar
  | 1 => some ⟨16, 0x1021, 0xc6c6, true, true, 0⟩
  | 2 => some ⟨16, 0x1021, 0xffff, true, true, 0xffff⟩
  | 3 => some ⟨16, 0x1021, 0xffff, true, true, 0xffff⟩
  | 4 => some ⟨16, 0x1021, 0, false, false, 0⟩
  | 5 => some ⟨8, 0x1d, 0xff, false, false, 0xff⟩
  | 6 => some ⟨24, 0xb2e4c5, 0xffffff, false, false, 0⟩
  | 7 => some ⟨32, 0x04c11db7, 0xffffffff, true, true, 0xffffffff⟩
  | _ => none

/-- The CRC-32 of preset 7, used on images and records (R85, R310, R311). -/
def crc32 (l : List Byte) : Nat := (CrcPar.mk 32 0x04c11db7 0xffffffff true true 0xffffffff).crc l

/-- The check bytes of a CRC on air: least significant first for presets 1–3, most significant first for 4 and 6 (R397). -/
def checkBytes (pr v : Nat) : List Byte :=
  match pr with
  | 1 | 2 | 3 => [BitVec.ofNat 8 v, BitVec.ofNat 8 (v / 256)]
  | 4 => [BitVec.ofNat 8 (v / 256), BitVec.ofNat 8 v]
  | 5 => [BitVec.ofNat 8 v]
  | 6 => [BitVec.ofNat 8 (v / 65536), BitVec.ofNat 8 (v / 256), BitVec.ofNat 8 v]
  | _ => [BitVec.ofNat 8 v, BitVec.ofNat 8 (v / 256), BitVec.ofNat 8 (v / 65536), BitVec.ofNat 8 (v / 16777216)]

/-- The check value that on-air check bytes spell (R397). -/
def checkValue (pr : Nat) (l : List Byte) : Nat :=
  if pr = 4 ∨ pr = 6 then l.foldl (fun v b => v * 256 + b.toNat) 0
  else l.foldr (fun b v => v * 256 + b.toNat) 0

/-! ## A channel's registers -/

/-- The parameters that channel `c`'s registers hold. -/
def State.cvuPar (s : State) (c : Nat) : CrcPar :=
  ⟨s.rf (Reg.cvuCCfg c) 21 16, (s.reg (Reg.cvuCPoly c)).toNat, (s.reg (Reg.cvuCInit c)).toNat, s.rb (Reg.cvuCCfg c) 8,
    s.rb (Reg.cvuCCfg c) 9, (s.reg (Reg.cvuCXor c)).toNat⟩

/-- Loads RUN of channel `c`; RESULT shows what the frame would give (R394). Bits above W read 0 in both (R391). -/
def cvuSetRun (c v : Nat) (s : State) : State :=
  let p := s.cvuPar c
  let r := v % 2 ^ p.w
  setReg (Reg.cvuCResult c) (wd (p.result r % 2 ^ p.w)) (setReg (Reg.cvuCRun c) (wd r) s)

/-- RUN and RESULT of channel `c` follow its parameters (R391, R394). -/
def cvuFollow (c : Nat) (s : State) : State := cvuSetRun c (s.reg (Reg.cvuCRun c)).toNat s

/-- Loads CFGc; a native preset shows its parameters in the channel's registers (R392). -/
def cvuLoadCfg (c : Nat) (w : Word) (s : State) : State :=
  cvuFollow c (match preset (fld w 3 0) with
  | none => setReg (Reg.cvuCCfg c) (w &&& 0x003f031f) s
  | some p =>
    setReg (Reg.cvuCXor c) (wd p.xorout) (setReg (Reg.cvuCInit c) (wd p.init) (setReg (Reg.cvuCPoly c) (wd p.poly)
      (setReg (Reg.cvuCCfg c)
        (wd (p.w * 65536 + p.refout.toNat * 512 + p.refin.toNat * 256 + (bit w 4).toNat * 16 + fld w 3 0)) s))))

/-- What a START finds wrong with channel `c`'s parameters (R392, R393): the offset of the offending register. -/
def State.cvuBad (s : State) (c : Nat) : Option Nat :=
  let p := s.cvuPar c
  let pr := s.rf (Reg.cvuCCfg c) 3 0
  if pr = 0 then some 0
  else if pr ≠ 0xf then none
  else if p.w = 0 ∨ 32 < p.w then some (Reg.cvuCCfg c % 0x1000)
  else if p.poly % 2 = 0 ∨ 2 ^ p.w ≤ p.poly then some (Reg.cvuCPoly c % 0x1000)
  else if 2 ^ p.w ≤ p.init then some (Reg.cvuCInit c % 0x1000)
  else if 2 ^ p.w ≤ p.xorout then some (Reg.cvuCXor c % 0x1000)
  else none

/-- Whether channel `c` is quiesced, alone or with its page (R400). -/
def State.cvuOff (s : State) (c : Nat) : Bool := s.rb Reg.cvuChq (16 + c) || s.quiesced Page.cvu

/-- Whether channel `c` is asked to quiesce, alone or with its page (R400). -/
def State.chqAsked (s : State) (c : Nat) : Bool := s.rb Reg.cvuChq c || s.rb (Reg.ctrl Page.cvu) 1

/-- Abandons a frame in progress (R394). -/
def cvuDrop (c : Nat) (s : State) : State :=
  if s.rb (Reg.cvuCStatus c) 0 then
    sif (s.chqAsked c) (setRb Reg.cvuChq (16 + c) true)
      (setRb (Reg.cvuCStatus c) 0 false (addRf (Reg.cvuCCnt c) 19 16 1 s))
  else s

/-- Begins a frame (R394): RUN is loaded, BYTES and VALID clear, FRAME is set; a frame in progress is abandoned. -/
def cvuBegin (c : Nat) (s : State) : State :=
  let t := cvuDrop c s
  setRf (Reg.cvuCStatus c) 31 16 0 (setRb (Reg.cvuCStatus c) 3 false (setRb (Reg.cvuCStatus c) 0 true
    (cvuSetRun c (t.cvuPar c).start t)))

/-- Begins a frame whose parameters START accepts (R393). -/
def cvuCheckedBegin (c : Nat) (s : State) : State :=
  match s.cvuBad c with
  | some o => recErr Page.cvu Err.modeAbort o 0 s
  | none => cvuBegin c s

/-- A START by the channel's holder (R392–R394); at a channel that is quiesced, or that the frame now abandoned kept from it, it waits
(R400), and at a disabled page it is refused (R135). -/
def cvuStart (c : Nat) : State → State := pageWork Page.cvu (fun s =>
  if (s.cvuBad c).isNone && (s.cvuOff c || s.chqAsked c) then
    cvuDrop c { s with cvu := { s.cvu with waits := tabSet false s.cvu.waits c true } }
  else cvuCheckedBegin c s)

/-- Feeds bytes into a running frame (R395). -/
def cvuFeed (c : Nat) (l : List Byte) (s : State) : State :=
  addRf (Reg.cvuCStatus c) 31 16 l.length
    (cvuSetRun c (l.foldl (s.cvuPar c).byteIn (s.reg (Reg.cvuCRun c)).toNat) s)

/-- EXPECTc as END compares it: an injection inverts its bit 0 (R476). -/
def State.cvuExpect (s : State) (c : Nat) : Nat :=
  let e := (s.reg (Reg.cvuCExpect c)).toNat % 2 ^ (s.cvuPar c).w
  if tabGet false s.cvu.inject c then e ^^^ 1 else e

/-- The comparison of R396 on LASTc. -/
def cvuCompare (c : Nat) (s : State) : State :=
  if s.rb (Reg.cvuCCfg c) 4 = false then s
  else if (s.reg (Reg.cvuCLast c)).toNat = s.cvuExpect c then setRb (Reg.cvuCStatus c) 1 true s
  else
    let t := fault 7 Page.cvu Err.crcFail <| irq Page.cvu (8 + c) (publish (0xd8 + c) s.now (addRf (Reg.cvuCCnt c) 31 20 1
      (setRb (Reg.cvuCStatus c) 2 true (setRb (Reg.cvuCStatus c) 1 false s))))
    sif (s.holder (0x60 + c) == 1) (recErr Page.cvu Err.crcFail (s.reg (Reg.cvuCLast c)).toNat c) t

/-- Ends a frame (R394, R396): RESULT is latched and compared, the end is published, and a requested quiesce of the channel
is reached. -/
def cvuFinish (c : Nat) (s : State) : State :=
  let t := setRb (Reg.cvuCStatus c) 3 true (setRb (Reg.cvuCStatus c) 0 false
    (setReg (Reg.cvuCLast c) (s.reg (Reg.cvuCResult c)) s))
  let u := irq Page.cvu c (publish (0xd0 + c) s.now (addRf (Reg.cvuCCnt c) 15 0 1 (cvuCompare c t)))
  { sif (s.chqAsked c) (setRb Reg.cvuChq (16 + c) true) u with
    cvu := { u.cvu with inject := tabSet false u.cvu.inject c false } }

/-- An END by the channel's holder (R394). -/
def cvuEnd (c : Nat) (s : State) : State :=
  if s.rb (Reg.cvuCStatus c) 0 then cvuFinish c s else refusalErr Page.cvu Err.modeAbort openDetail openDetail s

/-! ## Writes -/

/-- The guard of R390: the writer holds the channel. -/
def cvuGuard (ag : Agent) (c a : Nat) (eff : State → State) (s : State) : State :=
  guardedBy (s.holds ag (0x60 + c)) ag a eff s

/-- A write of Cc_CTRL: FEED is stored, and END, ABORT and START act in this order (log entry 21). -/
def cvuCtrlWrite (ag : Agent) (c : Nat) (w : Word) : State → State :=
  cvuGuard ag c (Reg.cvuCCtrl c) (fun s =>
    sif (bit w 0) (cvuStart c) (sif (bit w 2) (cvuDrop c) (sif (bit w 1) (cvuEnd c)
      (setRf (Reg.cvuCCtrl c) 9 8 (fld w 9 8) s))))

/-- CVU_START (R394). -/
def execCvuStart (ag : Agent) (c : CvuIx) (w : Word) (s : State) : Host.Outcome State Fault Refusal :=
  .next (cvuCtrlWrite ag c ((w &&& 0x300) ||| 1) s)

/-- CVU_END (R394). -/
def execCvuEnd (ag : Agent) (c : CvuIx) (w : Word) (s : State) : Host.Outcome State Fault Refusal :=
  .next (cvuCtrlWrite ag c ((w &&& 0x300) ||| 2) s)

/-- CVU_ABORT (R394). -/
def execCvuAbort (ag : Agent) (c : CvuIx) (w : Word) (s : State) : Host.Outcome State Fault Refusal :=
  .next (cvuCtrlWrite ag c ((w &&& 0x300) ||| 4) s)

/-- A write to Cc_DATA feeds FEED bytes of the word, 0b00 meaning four (R395). -/
def cvuDataWrite (ag : Agent) (c : Nat) (w : Word) : State → State :=
  cvuGuard ag c (Reg.cvuCData c) (fun s =>
    let n := s.rf (Reg.cvuCCtrl c) 9 8
    if s.rb (Reg.cvuCStatus c) 0 then cvuFeed c ((wordBytes w).take (if n = 0 then 4 else n)) s
    else refusalErr Page.cvu Err.modeAbort openDetail openDetail s)

/-- CVU_DATA (R395). -/
def execCvuData (ag : Agent) (c : CvuIx) (w : Word) (s : State) : Host.Outcome State Fault Refusal :=
  .next (cvuDataWrite ag c w s)

/-- A write to Cc_RUN replaces the running value; bits above W read 0 (R391, R395). -/
def cvuRunWrite (ag : Agent) (c : Nat) (w : Word) : State → State :=
  cvuGuard ag c (Reg.cvuCRun c) (cvuSetRun c w.toNat)

/-- CVU_RUN_WRITE (R395). -/
def execCvuRunWrite (ag : Agent) (c : CvuIx) (w : Word) (s : State) : Host.Outcome State Fault Refusal :=
  .next (cvuRunWrite ag c w s)

/-- A write to CFGc (R392, R401). -/
def cvuCfgWrite (ag : Agent) (c : Nat) (w : Word) : State → State :=
  cvuGuard ag c (Reg.cvuCCfg c) (fun s =>
    if s.rb (Reg.cvuCStatus c) 0 then refusalErr Page.cvu Err.resourceBusy (s.resEntry (0x60 + c)) (0x60 + c) s
    else if 8 ≤ fld w 3 0 ∧ fld w 3 0 ≠ 0xf then refusalErr Page.cvu Err.modeAbort openDetail openDetail s
    else cvuLoadCfg c w s)

/-- CVU_CFG_WRITE (R392). -/
def execCvuCfgWrite (ag : Agent) (c : CvuIx) (w : Word) (s : State) : Host.Outcome State Fault Refusal :=
  .next (cvuCfgWrite ag c w s)

/-- A write to POLYc, INITc or XORc, at address `a` (R392, R401). -/
def cvuParWrite (ag : Agent) (c a : Nat) (w : Word) : State → State :=
  cvuGuard ag c a (fun s =>
    if s.rb (Reg.cvuCStatus c) 0 then refusalErr Page.cvu Err.resourceBusy (s.resEntry (0x60 + c)) (0x60 + c) s
    else if (preset (s.rf (Reg.cvuCCfg c) 3 0)).isSome then refusalErr Page.cvu Err.modeAbort openDetail openDetail s
    else cvuFollow c (setReg a w s))

/-- A START that waited begins when its channel is released (R400). Its parameters may have been written since, and are checked as it begins
(R393). -/
def cvuResume (c : Nat) (s : State) : State :=
  if tabGet false s.cvu.waits c ∧ s.cvuOff c = false then
    cvuCheckedBegin c { s with cvu := { s.cvu with waits := tabSet false s.cvu.waits c false } }
  else s

/-- The CVU channel that player 4 holds through LSP.CLAIM (R367). -/
def State.linkChan (s : State) : Option Nat :=
  (List.range 8).find? (fun c => s.holder (0x60 + c) == 3 && s.resEntry (0x60 + c) % 4096 == 4)

/-- Whether channel `c` is at a frame (R400): one runs, or the ramp of one of the return band has begun, which is never shortened (R329; log entry
149). -/
def State.chanAt (s : State) (c : Nat) : Bool :=
  s.rb (Reg.cvuCStatus c) 0 ||
    (s.rf Reg.rbSynState 3 0 == 6 && s.radio.tx.any (fun x => x.test == 0) && s.linkChan == some c && !s.cvuOff c)

/-- Channel `c` follows the requests to quiesce it (R400): an idle channel is quiesced at once, and one asked no longer is released. -/
def chqFollow (c : Nat) (s : State) : State :=
  if s.chqAsked c then (if s.chanAt c then s else setRb Reg.cvuChq (16 + c) true s)
  else cvuResume c (setRb Reg.cvuChq (16 + c) false s)

/-- CHQ.REQ for channel `c` becomes `b` (R400). -/
def chqBit (c : Nat) (b : Bool) (s : State) : State := chqFollow c (setRb Reg.cvuChq c b s)

/-- A write of CVU.CHQ (R400). -/
def chqWrite (ag : Agent) (w : Word) : State → State :=
  guarded ag Reg.cvuChq (forEach (List.range 8) (fun c => chqBit c (bit w c)))

/-- CVU_CHQ_WRITE (R400). -/
def execCvuChqWrite (ag : Agent) (w : Word) (s : State) : Host.Outcome State Fault Refusal := .next (chqWrite ag w s)

/-- A write to CVU.CNT_CLR, honoured for the channels that the writer holds (R402). -/
def cvuCntClr (ag : Agent) (w : Word) : State → State :=
  guarded ag Reg.cvuCntClr (forEach (List.range 8) (fun c s =>
    if bit w c ∧ s.holds ag (0x60 + c) then setReg (Reg.cvuCCnt c) 0 s else s))

/-- CVU_CNT_CLR (R402). -/
def execCvuCntClr (ag : Agent) (w : Word) (s : State) : Host.Outcome State Fault Refusal := .next (cvuCntClr ag w s)

end Sys2Proof.Machine
end

