-- ==== Sys2Proof/Machine/Chain.lean ====
section
/-! DEFINITION. The sense path of a coil channel (08_coil_channels, R211–R223): converter samples, mixer, moving-average
chain, outputs, threshold units, and the writes of the chain's and the units' registers. -/

namespace Sys2Proof.Machine

/-! ## Mixer and stages -/

/-- The mixer's coefficients at FTB mod 8, in 1/256 (R212). -/
def mixCoef (t : Nat) : Int × Int :=
  match t % 8 with
  | 0 => (256, 0)
  | 1 => (181, 181)
  | 2 => (0, 256)
  | 3 => (-181, 181)
  | 4 => (-256, 0)
  | 5 => (-181, -181)
  | 6 => (0, -256)
  | _ => (181, -181)

/-- I and Q of a sample taken at tick `t`, in 12 bits (R212). -/
def mix (t : Nat) (x : Int) : Int × Int :=
  (satInt 12 (roundHalf (x * (mixCoef t).1) 256), satInt 12 (roundHalf (x * (mixCoef t).2) 256))

/-- L, D and S of a stage word, and whether it is in single-cycle-settling mode (R213, R223). -/
def stageLen (w : Word) : Nat := fld w 7 0 + 1
def stageDec (w : Word) : Nat := fld w 13 8 + 1
def stageShift (w : Word) : Nat := fld w 20 16
def stageScs (w : Word) : Bool := bit w 24

/-- D_k as R216 counts it: L_k in SCS mode. -/
def stageStep (w : Word) : Nat := if stageScs w then stageLen w else stageDec w

/-- A sum shifted right arithmetically, after half of the last place is added (R213). -/
def shiftRound (v : Int) (k : Nat) : Int := if k = 0 then v else (v + 2 ^ (k - 1)) / 2 ^ k

/-- The output of a stage from the inputs it sums (R213), and how many of its two sums saturated. -/
def stageSum (w : Word) (l : List (Int × Int)) : (Int × Int) × Nat :=
  let i := shiftRound (l.map Prod.fst).sum (stageShift w)
  let q := shiftRound (l.map Prod.snd).sum (stageShift w)
  ((satInt 24 i, satInt 24 q), (satInt 24 i != i).toNat + (satInt 24 q != q).toNat)

/-- One input of a stage (R213): its new state and the output it emits, if it emits one. -/
def stagePush (w : Word) (st : StageSt) (x : Int × Int) : StageSt × Option ((Int × Int) × Nat) :=
  let h := (x :: st.hist).take (stageLen w)
  let n := st.count + 1
  if n < stageStep w then (⟨h, n⟩, none)
  else (⟨if stageScs w then [] else h, 0⟩, some (stageSum w h))

/-- The group delay of three stage words, in half ticks (R216). -/
def groupDelay2 (ws : List Word) : Nat :=
  let w k := ws.getD k 0
  (stageLen (w 0) - 1) + stageStep (w 0) * (stageLen (w 1) - 1) +
    stageStep (w 0) * stageStep (w 1) * (stageLen (w 2) - 1)

/-! ## Threshold units (R221, R222) -/

/-- A unit's run after an output: consecutive outputs above UPPER or below LOWER. -/
def thrRun (v upper lower : Int) (r : ThrSt) : ThrSt :=
  if upper < v then ⟨r.above + 1, 0⟩ else if v < lower then ⟨0, r.below + 1⟩ else ⟨0, 0⟩

/-- The state that a run of COUNT outputs gives a unit in state `st` (0 UNKNOWN, 1 HIGH, 2 LOW). -/
def thrNext (count : Nat) (r : ThrSt) (st : Nat) : Nat :=
  if count ≤ r.above ∧ st ≠ 1 then 1 else if count ≤ r.below ∧ st ≠ 2 then 2 else st

/-- COUNT of COILn: 0 acts as 1. -/
def State.thrCount (s : State) (n : Nat) : Nat := max 1 (s.rf (Reg.coilThrCtrl n) 11 8)

/-- A transition of COILn's unit whose STATE field is at `lo` of THR_STATUS (R222): interrupt, count and new state. -/
def thrMove (n lo st : Nat) (s : State) : State :=
  irq (Page.coil n) (st - 1) (addRf (Reg.coilThrStatus n) 31 16 1 (setRf (Reg.coilThrStatus n) (lo + 1) lo st s))

/-- One eligible output meets one unit: `en` tells whether it is enabled. -/
def thrUnit (n lo : Nat) (en : Bool) (r : ThrSt) (s : State) : State :=
  let st := s.rf (Reg.coilThrStatus n) (lo + 1) lo
  let nx := thrNext (s.thrCount n) r st
  if en ∧ nx ≠ st then thrMove n lo nx s else s

/-- The phase that the phase unit reads: OUT_PHASE less THR_PH_REF, wrapped (R221). -/
def State.thrPhase (s : State) (n : Nat) : Int :=
  signed 16 (unsigned 16 (s16f (s.rf (Reg.coilOutPhase n) 15 0) - s16f (s.rf (Reg.coilThrPhRef n) 15 0)))
where
  /-- Signed 16-bit value of a field. -/
  s16f (v : Nat) : Int := signed 16 v

/-- One eligible output meets both units, and the transitions of the units that SEL includes publish, one event of each kind
(R221, R222), at tick `t`. -/
def thrOutput (n t : Nat) (s : State) : State :=
  let c := s.coil n
  let rm := thrRun (s.rf (Reg.coilOutMag n) 23 0) (s.rf (Reg.coilThrMagUpper n) 23 0)
    (s.rf (Reg.coilThrMagLower n) 23 0) c.magRun
  let rp := thrRun (s.thrPhase n) (signed 16 (s.rf (Reg.coilThrPh n) 31 16)) (signed 16 (s.rf (Reg.coilThrPh n) 15 0))
    c.phRun
  let u := thrUnit n 2 (s.rb (Reg.coilThrCtrl n) 1) rp (thrUnit n 0 (s.rb (Reg.coilThrCtrl n) 0) rm
    (modCoil n (fun c => { c with magRun := rm, phRun := rp }) s))
  let moved (lo st : Nat) : Bool := s.rb (Reg.coilThrCtrl n) (2 + lo / 2) &&
    u.rf (Reg.coilThrStatus n) (lo + 1) lo != s.rf (Reg.coilThrStatus n) (lo + 1) lo &&
    u.rf (Reg.coilThrStatus n) (lo + 1) lo == st
  sif (moved 0 2 || moved 2 2) (publish (0x91 + 4 * n) t) (sif (moved 0 1 || moved 2 1) (publish (0x90 + 4 * n) t) u)

/-! ## Outputs -/

/-- A 24-bit value with its sign extended to the word (R223). -/
def signWord (v : Int) : Word := wd (unsigned 32 v)

/-- An output after CAL_GAIN (R215); halves are rounded away from zero, which the rule leaves open (log entry 130). -/
def calGain (g : Word) (z : Int × Int) : Int × Int :=
  let gi := signed 16 (fld g 31 16)
  let gq := signed 16 (fld g 15 0)
  (satInt 24 (roundHalf (z.1 * gi - z.2 * gq) 0x4000), satInt 24 (roundHalf (z.1 * gq + z.2 * gi) 0x4000))

/-- The tick at which an output whose last sample had tick `t` is presented: the first HFP edge at or after t + 8 (R215). -/
def presentTick (t : Nat) : Nat := roundUp (t + 8) 2

/-- A stage-3 output whose last input sample had tick `t` is presented (R215, R220): the OUT registers, and the threshold
units unless the output settles or is one of the HOLDOFF outputs after that. -/
def chainOut (n t : Nat) (z : Int × Int) (s : State) : State :=
  let c := s.coil n
  let y := calGain (s.reg (Reg.coilCalGain n)) z
  let settling := decide (2 * (t - c.resetEdge) < groupDelay2 c.loaded)
  let flag := settling.toNat * 2 ^ 31
  let u := passGov (presentTick t) (setRb (Reg.coilChainStatus n) 1 settling
    (setReg (Reg.coilOutCount n) (wd ((s.reg (Reg.coilOutCount n)).toNat + 1))
    (setPair (Reg.coilOutTickLo n) t
    (setReg (Reg.coilOutPhase n) (wd (flag + unsigned 16 (phaseOf y.1 y.2)))
    (setReg (Reg.coilOutMag n) (wd (flag + isqrt (y.1 * y.1 + y.2 * y.2).toNat % 2 ^ 24))
    (setReg (Reg.coilOutQ n) (signWord y.2) (setReg (Reg.coilOutI n) (signWord y.1)
    (modCoil n (fun c => { c with outs := ⟨t, 2 * t - groupDelay2 c.loaded, !settling, y.1, y.2, 4, none⟩ :: c.outs }) s))))))))
  if settling then u
  else
    let w := modCoil n (fun c => { c with past := min 255 (c.past + 1) }) u
    if c.past < s.rf (Reg.coilThrCtrl n) 23 16 then w else thrOutput n (presentTick t) w

/-- Counts the saturations of a stage output (R213), of class SENSE (R469). -/
def countSat (n sat : Nat) (s : State) : State :=
  sif (decide (0 < sat)) (fun t => fault 17 (Page.coil n) 0 (irq (Page.coil n) 5 (addRf (Reg.coilSenseCnt n) 15 0 sat t))) s

/-- Counts a clipped converter code (R211), of class SENSE (R469). -/
def countClip (n : Nat) (clip : Bool) (s : State) : State :=
  sif clip (fun t => fault 17 (Page.coil n) 0 (irq (Page.coil n) 4 (addRf (Reg.coilSenseCnt n) 31 16 1 t))) s

/-- A sample as the converter gives it: 12 bits of two's complement (R211). -/
def adc (x : Int) : Int := satInt 12 x

/-- Whether a converter code is clipped (R211). -/
def clipped (x : Int) : Bool := x == -2048 || x == 2047

/-- One converter sample of COILn, taken at the chain's next tick (R211–R215). -/
def chainSample (n : Nat) (raw : Int) (r : State) : State :=
  let s := chainEdge n (r.coil n).nextTick r
  let x := adc raw
  let c := s.coil n
  let w k := c.loaded.getD k 0
  let t := c.nextTick
  let s0 := countClip n (clipped x) s
  let p1 := stagePush (w 0) c.st1 (mix t x)
  match p1.2 with
  | none => modCoil n (fun c => { c with nextTick := t + 1, st1 := p1.1 }) s0
  | some (z1, b1) =>
    let p2 := stagePush (w 1) c.st2 z1
    let s1 := countSat n b1 s0
    match p2.2 with
    | none => modCoil n (fun c => { c with nextTick := t + 1, st1 := p1.1, st2 := p2.1 }) s1
    | some (z2, b2) =>
      let p3 := stagePush (w 2) c.st3 z2
      let s2 := modCoil n (fun c => { c with nextTick := t + 1, st1 := p1.1, st2 := p2.1, st3 := p3.1 }) (countSat n b2 s1)
      match p3.2 with
      | none => s2
      | some (z3, b3) => chainOut n t z3 (countSat n b3 s2)

/-- Samples of COILn, one per FLD edge: from its chain's next tick on while the chain runs or is about to; a chain that is stopped takes
none, and the converter counts its clipped codes all the same (R211). -/
def chainSamples (n : Nat) (l : List Int) (s : State) : State :=
  l.foldl (fun t x =>
    if t.rb (Reg.coilChainStatus n) 0 || (t.coil n).pendReset.isSome then chainSample n x t else countClip n (clipped (adc x)) t) s

/-! ## Running the chain (R218, R219) -/

/-- The running chain of COILn meets a reset edge at boundary `e`, with stage words `ws` from then on; it samples until then. -/
def chainWaits (n e : Nat) (ws : List Word) (x : State) : State :=
  let s := chainEdge n x.now x
  chainEdge n s.now (modCoil n (fun c => { c with pendReset := some (e, ws) }) s)

/-- The chain runs when RUN is 1 and the page is not quiesced; a start is a reset edge on the next carrier-cycle boundary. -/
def chainFollow (n : Nat) (x : State) : State :=
  let s := chainEdge n x.now x
  let run := s.rb (Reg.coilChainCtrl n) 0 && !s.quiesced (Page.coil n)
  if run then
    if s.rb (Reg.coilChainStatus n) 0 || (s.coil n).pendReset.isSome then s
    else chainEdge n s.now (modCoil n (fun c => { c with pendReset := some (s.ccNow, []), nextTick := s.ccNow }) s)
  else setRb (Reg.coilChainStatus n) 0 false (modCoil n (fun c => { c with pendReset := none }) s)

/-- The value in use of CHAIN_CTRL becomes `w` (R218): a new PROFILE restarts a running chain with its stages. -/
def chainCtrlInUse (n : Nat) (w : Word) (x : State) : State :=
  let s := chainEdge n x.now x
  let old := s.profileInUse n
  let t := setReg (Reg.coilChainCtrl n) (w &&& 3) s
  if t.profileInUse n ≠ old ∧ t.rb (Reg.coilChainCtrl n) 0 ∧ t.rb (Reg.coilChainStatus n) 0 then
    chainWaits n t.ccNow (t.profile n (t.profileInUse n)) t
  else chainFollow n t

/-- A write of COILn.CHAIN_CTRL: RESTART of a running chain is a reset edge on the next carrier-cycle boundary (R219). RESTART of
a stopped chain does nothing (log entry 143). -/
def chainCtrlWrite (ag : Agent) (n : Nat) (w : Word) : State → State :=
  hold ag (Reg.coilChainCtrl n) w <| guarded ag (Reg.coilChainCtrl n) (fun s =>
    let t := storeWith (Reg.coilChainCtrl n) w (chainCtrlInUse n) (chainEdge n s.now s)
    if bit w 2 ∧ t.rb (Reg.coilChainStatus n) 0 then
      chainWaits n t.nextCc (((t.coil n).pendReset.map Prod.snd).getD (t.coil n).loaded) t
    else t)

/-- Whether R214 refuses stage `k` (0–2) of a profile. -/
def stageBad (k : Nat) (w : Word) : Bool :=
  let l := stageLen w
  let d := stageDec w
  (k != 2 && decide (64 < l)) || (!stageScs w && (decide ((if k = 2 then 64 else 16) < d) || decide (l < d)))

/-- A write of PROFp_STAGEk (R214, R218), after a reset edge that has come. EXTRA of a refused stage's record is not stated (log entry 61). -/
def profWrite (ag : Agent) (n p k : Nat) (w : Word) : State → State :=
  hold ag (Reg.coilProfStage n p k) w <| guarded ag (Reg.coilProfStage n p k) (fun x =>
    let s := chainEdge n x.now x
    if p = s.profileInUse n ∧ s.rb (Reg.coilChainStatus n) 0 then
      refusalErr (Page.coil n) Err.notQuiesced (writeInfo ag (Reg.coilProfStage n p k)) 0 s
    else if stageBad k w then refusalErr (Page.coil n) Err.modeAbort (Reg.coilProfStage n p k % 0x1000) openDetail s
    else storeReg (Reg.coilProfStage n p k) w s)

/-! ## The threshold units' registers -/

/-- The units that a mask names (bit 0 magnitude, bit 1 phase) become UNKNOWN (R221). -/
def thrUnknown (n : Nat) (mag ph : Bool) (s : State) : State :=
  sif ph (fun t => setRf (Reg.coilThrStatus n) 3 2 0 (modCoil n (fun c => { c with phRun := {} }) t))
    (sif mag (fun t => setRf (Reg.coilThrStatus n) 1 0 0 (modCoil n (fun c => { c with magRun := {} }) t)) s)

/-- The value in use of THR_CTRL becomes `w`: an enable leaves its unit UNKNOWN (R221). -/
def thrCtrlInUse (n : Nat) (w : Word) (s : State) : State :=
  thrUnknown n (bit w 0 && !s.rb (Reg.coilThrCtrl n) 0) (bit w 1 && !s.rb (Reg.coilThrCtrl n) 1)
    (setReg (Reg.coilThrCtrl n) w s)

/-- The value in use of a mark register becomes `w`: a change leaves its unit UNKNOWN (R221). -/
def thrMarkInUse (n a : Nat) (w : Word) (s : State) : State :=
  let ch := s.reg a != w
  thrUnknown n (ch && (a == Reg.coilThrMagUpper n || a == Reg.coilThrMagLower n)) (ch && a == Reg.coilThrPh n)
    (setReg a w s)

/-- Whether R222 refuses mark `w` for the register at `a`: LOWER would not lie below UPPER. -/
def State.marksBad (s : State) (n a : Nat) (w : Word) : Bool :=
  let other (b : Nat) : Word := if s.rb (Reg.stageCtrl (Page.coil n)) 0 then s.shade b else s.reg b
  if a = Reg.coilThrMagUpper n then decide (fld w 23 0 ≤ fld (other (Reg.coilThrMagLower n)) 23 0)
  else if a = Reg.coilThrMagLower n then decide (fld (other (Reg.coilThrMagUpper n)) 23 0 ≤ fld w 23 0)
  else decide (signed 16 (fld w 31 16) ≤ signed 16 (fld w 15 0))

/-- A write of THR_MAG_UPPER, THR_MAG_LOWER or THR_PH, at address `a` (R222). -/
def thrMarkWrite (ag : Agent) (n a : Nat) (w : Word) : State → State :=
  hold ag a w <| guarded ag a (fun s =>
    if s.marksBad n a w then refusalErr (Page.coil n) Err.modeAbort openDetail openDetail s
    else storeWith a w (thrMarkInUse n a) s)

/-- A write of THR_CTRL. -/
def thrCtrlWrite (ag : Agent) (n : Nat) (w : Word) : State → State :=
  hold ag (Reg.coilThrCtrl n) w <| guarded ag (Reg.coilThrCtrl n) (storeWith (Reg.coilThrCtrl n) w (thrCtrlInUse n))

/-- A write of SENSE_CFG: SRC 0b11 is refused (R223). -/
def senseCfgWrite (ag : Agent) (n : Nat) (w : Word) : State → State :=
  hold ag (Reg.coilSenseCfg n) w <| guarded ag (Reg.coilSenseCfg n) (fun s =>
    if fld w 1 0 = 3 then refusalErr (Page.coil n) Err.modeAbort openDetail openDetail s
    else storeReg (Reg.coilSenseCfg n) w s)

/-- A write to COILn.CNT_CLR (R223). -/
def coilCntClr (ag : Agent) (n : Nat) (w : Word) : State → State :=
  hold ag (Reg.coilCntClr n) w <| guarded ag (Reg.coilCntClr n) (fun s =>
    sif (bit w 2) (setRf (Reg.coilThrStatus n) 31 16 0) (sif (bit w 1) (setReg (Reg.coilSenseCnt n) 0)
      (sif (bit w 0) (setReg (Reg.coilDrvCnt n) 0) s)))

/-! ## The rows -/

/-- CHAIN_RESTART (R219): a write of CHAIN_CTRL with RESTART 1. -/
def execChainRestart (ag : Agent) (n : CoilIx) (w : Word) (s : State) : Host.Outcome State Fault Refusal :=
  .next (chainCtrlWrite ag n ((w &&& 3) ||| 4) s)

/-- PROFILE_CHANGE (R218): a write of CHAIN_CTRL with a PROFILE and RUN. -/
def execProfileChange (ag : Agent) (n : CoilIx) (w : Word) (s : State) : Host.Outcome State Fault Refusal :=
  .next (chainCtrlWrite ag n (w &&& 3) s)

/-- COIL_CNT_CLR (R223). -/
def execCoilCntClr (ag : Agent) (n : CoilIx) (w : Word) (s : State) : Host.Outcome State Fault Refusal :=
  .next (coilCntClr ag n w s)

end Sys2Proof.Machine
end

