-- ==== Sys2Proof/Machine/Drive.lean ====
section
/-! DEFINITION. Driving the coils: the governor's measurement (R235), VFLD for the conduction angle (R203, R204), tuner sweeps (R83), and
field-on and field-off of one coil (R202, R207). -/

namespace Sys2Proof.Machine

/-! ## The governor's measurement -/

/-- The governor's measurement (R235): `mw` is the measured total. A correction acts on the next carrier-cycle boundary. -/
def govMeasure (mw : Nat) (s : State) : State :=
  let m := mw * 1000 * powerUnit
  let t := setRf Reg.fwgtGovMeas 11 0 (min 4095 mw) s
  if 105 * t.budgetB < 100 * m then
    let u := limitEnd (passTo t.nextCc t)
    let g := min u.govG (openRoot (u.govG * u.govG * u.budgetB) m)
    floorMark g (govReport u.govG g [] (govShow g (govSet g u)))
  else t

/-- GOVERNOR_MEASURE (R235). -/
def execGovernorMeasure (mw : Nat) (s : State) : Host.Outcome State Fault Refusal := .next (govMeasure mw s)

/-- THETA_RECOMPUTE (R203, R204): θ follows VFLD as measured, in mV. While amplitudes move the governor takes the present step (R234). -/
def execThetaRecompute (c : CoilIx) (vfld : Nat) (s : State) : Host.Outcome State Fault Refusal :=
  .next (headFollow c (sif s.moving govern (modCoil c (fun x => { x with vfld := some vfld }) s)))

/-! ## One coil's field -/

/-! ## Tuner sweeps (R83) -/

/-- The measurements of coil `c`. -/
def measOf (m : CalMeas) (c : Nat) : CoilMeas := m.coils.getD c {}

/-- The point whose phase lies nearest 0°; of several it is one of them, the manual naming none (log entry 92). -/
def nearest (pick : Nat) (l : List (Nat × Int)) : Nat :=
  let m := (l.map (fun p => p.2.natAbs)).foldl min 0x10000
  let best := l.filter (fun p => decide (p.2.natAbs ≤ m))
  ((best[pick % max 1 best.length]?).map Prod.fst).getD 0

/-- The coarse points of a sweep, each with its phase; one not measured lies farther from 0° than any other. -/
def coarsePoints (m : CoilMeas) : List (Nat × Int) := (List.range 32).map (fun k => (8 * k, m.coarse.getD k 0x10000))

/-- The best coarse code of a tuner sweep (R83). -/
def sweepBest (m : CoilMeas) : Nat := nearest (Config.sweepTie m.coarse) (coarsePoints m)

/-- The code that a tuner sweep chooses (R83): of 32 coarse codes and of 16 fine ones about the best of them. -/
def sweepCode (m : CoilMeas) : Nat :=
  nearest (Config.sweepTie (m.coarse ++ m.fine))
    (coarsePoints m ++ (List.range 16).map (fun j => (min 255 (sweepBest m + j - 8), m.fine.getD j 0x10000)))

/-- What the sweep of a calibration request that began at tick `t` finds at coil `c`, before CAL_DONE brings it (log entry 92). -/
def sweepSeen (t c : Nat) : CoilMeas :=
  { coarse := (List.range 32).map (Config.sweepPhase t c), fine := (List.range 16).map (fun k => Config.sweepPhase t c (32 + k)) }

/-- The code of a sweep's point at `dt` ft from its start (R83): points of 32 µs (3,471.36 ft), 32 coarse ones, then 16 about the best coarse
code `b`, then the code chosen, `c`. -/
def sweepPoint (b c dt : Nat) : Nat :=
  let k := 100 * dt / 347136
  if k < 32 then 8 * k else if k < 48 then min 255 (b + (k - 32) - 8) else c

/-- The code in force at the tuner of coil `c` (R83, R206). What a request's sweep measures comes with its end, so until then its phases are
free values of the sweep; a start sequence has them in its measurements. -/
def State.tunerCode (s : State) (c : Nat) : Nat :=
  if !s.sweptNow.contains c then (s.coil c).cap
  else
    match s.mgt.cal, s.boot.plan with
    | some j, _ =>
      let n := ((List.range c).filter (fun i => j.coils.testBit i)).length
      let m := sweepSeen j.start c
      sweepPoint (sweepBest m) (sweepCode m) (s.now - j.start - sweepFt * n)
    | none, some p =>
      if (p.main.head?.map Prod.fst) = some 8 then
        let m := measOf p.meas.cal c
        sweepPoint (sweepBest m) (sweepCode m) (s.now - (p.ends - sweepFt))
      else (s.coil c).cap
    | none, none => (s.coil c).cap

/-- TUNE_CAP.CODE of coil `c` as it stands: a sweep steps it (R83), once the register has been loaded (R79). -/
def State.capCode (s : State) (c : Nat) : Nat :=
  if s.sweptNow.contains c && (s.mgt.cal.isSome || s.boot.plan.any StartPlan.warm) then s.tunerCode c
  else s.rf (Reg.coilTuneCap c) 7 0

/-- Abandons a mismatch measurement in progress (R207); MM_RESULT is kept. -/
def mmAbandon (c : Nat) (s : State) : State :=
  if (s.coil c).mmDue.isSome then setRb (Reg.coilMmMeas c) 31 false (modCoil c (fun x => { x with mmDue := none, mmGone := true }) s)
  else s

/-- The holder of coil `c` selects entry `e` at tick `t` (R203); a change ends a measurement in progress. -/
def coilEntry (c e : Nat) (s : State) : State :=
  let u := modCoil c (fun x => { x with entryWanted := e }) s
  let a := s.actEntry c e
  if s.rf (Reg.coilDriveStatus c) 13 8 = a then u else setRf (Reg.coilDriveStatus c) 13 8 a (mmAbandon c u)

/-- The field of coil `c` comes on at the present tick with entry `e` (R202, R207): the mismatch monitor starts. -/
def coilFieldOn (c e : Nat) (s : State) : State :=
  let win := 8 * (s.rf (Reg.coilMmWin c) 7 0 + max 8 (s.rf (Reg.coilMmWin c) 15 8))
  setRb (Reg.coilDriveStatus c) 0 true (setRf (Reg.coilDriveStatus c) 13 8 e
    (modCoil c (fun x => { x with entryWanted := e, act := 0, mmSeen := false, mmDue := some (s.now + win) }) s))

/-- The field of coil `c` goes off (R202, R207, R209). -/
def coilFieldOff (c : Nat) (s : State) : State :=
  setRb (Reg.coilDriveStatus c) 0 false (modCoil c (fun x => { x with act := 0 }) (mmAbandon c s))

/-- FEn.FIELD_STATUS.FIELD_ON follows the engine's coils. -/
def fieldFollow (n : Nat) (s : State) : State := setRb (Reg.feFieldStatus n) 30 (s.engOn n) s

/-- CHAIN_OUTPUT (R211–R222, R229): converter samples of one coil, the first taken at its chain's next tick; its outputs enter the receive
sum of the engine that holds it. While amplitudes move the governor takes the steps that the time passes (R234). -/
def execChainOutput (c : CoilIx) (samples : List Int) (s : State) : Host.Outcome State Fault Refusal :=
  let v := chainSamples c samples (passGov (chainSamples c samples s).now s)
  .next (trimOuts c (forEach (List.range 4) (fun n t =>
    let y := t.receiveSum n
    sif (t.feHolds n c) (modEng n (fun e => { e with sumI := y.1, sumQ := y.2 })) t) (weighOuts c v)))

end Sys2Proof.Machine
end

