-- ==== Sys2Proof/Machine/Score.lean ====
section
/-! DEFINITION. Scores as a player reads them (12_larkspur_scores, R286–R294, R310): score slots, the words of the score
store, section tables, the start and the end of a section, and what a player reports. -/

namespace Sys2Proof.Machine

/-! ## Slots and words -/

/-- The slot register of player `k`: slot 0 is A, 1 is B. -/
def slotReg (k b : Nat) : Nat := if b = 0 then Reg.lspPlSlota k else Reg.lspPlSlotb k
/-- The first word of a slot. -/
def State.slotBase (s : State) (k b : Nat) : Nat := s.rf (slotReg k b) 12 0
/-- The size of a slot in words. -/
def State.slotSize (s : State) (k b : Nat) : Nat := s.rf (slotReg k b) 29 16
/-- The active slot of player `k`: 0 A, 1 B. -/
def State.activeSlot (s : State) (k : Nat) : Nat := s.rf (Reg.lspPlStatus k) 20 20
/-- The standby slot of player `k`. -/
def State.standbySlot (s : State) (k : Nat) : Nat := 1 - s.activeSlot k

/-- Word `i` of the score store, 64 bits. -/
def State.storeWord (s : State) (i : Nat) : Nat := s.mem32 (scoreBase + 8 * i) + 2 ^ 32 * s.mem32 (scoreBase + 8 * i + 4)

/-- Word `i` of slot `b` of player `k`. -/
def State.slotWord (s : State) (k b i : Nat) : Nat := s.storeWord (s.slotBase k b + i)

/-- Bits [hi:lo] of a 64-bit word. -/
def bits64 (w hi lo : Nat) : Nat := (w >>> lo) % 2 ^ (hi + 1 - lo)

/-- LENGTH of the image in a slot (R310). -/
def State.imageLen (s : State) (k b : Nat) : Nat := bits64 (s.slotWord k b 0) 13 0

/-! ## Sections -/

/-- An entry of the section table (R310). -/
structure Section where
  num : Nat
  kind : Nat
  std : Nat
  framing : Nat
  auto : Bool
  link : Nat
  entry : Nat
  deriving DecidableEq, Repr

/-- A section entry from its word. -/
def sectionOf (w : Nat) : Section :=
  ⟨bits64 w 63 56, bits64 w 55 52, bits64 w 51 48, bits64 w 47 44, w.testBit 40, bits64 w 39 32, bits64 w 12 0⟩

/-- Whether a slot holds an image: its header has the magic and the format of R310. -/
def State.holdsImage (s : State) (k b : Nat) : Bool :=
  bits64 (s.slotWord k b 0) 63 48 == 0x5c0e && bits64 (s.slotWord k b 0) 47 40 == 1 && s.slotSize k b != 0

/-- The section table of a slot. -/
def State.sections (s : State) (k b : Nat) : List Section :=
  if s.holdsImage k b then
    (List.range (bits64 (s.slotWord k b 0) 39 32)).map (fun j => sectionOf (s.slotWord k b (2 + j)))
  else []

/-- The section table of player `k`'s active slot: none of an EMPTY one (R313). -/
def State.activeSections (s : State) (k : Nat) : List Section :=
  if (s.player k).emptied then [] else s.sections k (s.activeSlot k)

/-- Kinds of a section (R290). -/
abbrev Kind.command : Nat := 0
abbrev Kind.exchange : Nat := 1
abbrev Kind.discover : Nat := 2
abbrev Kind.turnaround : Nat := 3
abbrev Kind.trigger : Nat := 4
abbrev Kind.free : Nat := 5

/-- The section that a command starts (R290): the COMMAND section it names, or the player's default of kind `kind` for its
STD and FRAMING. A named section of another non-zero STD than the engine's does not serve; on players 4–7 STD is not compared. -/
def State.commandSection (s : State) (k num kind std framing : Nat) : Option Section :=
  (s.activeSections k).find? (fun c =>
    if num = 0 then
      c.kind == kind && (4 ≤ k || c.std == std) && (kind != Kind.exchange || c.framing == framing || 4 ≤ k)
    else c.kind == Kind.command && c.num == num && (4 ≤ k || c.std == 0 || c.std == std))

/-- The TURNAROUND section of player `k` for a standard (R290). -/
def State.turnSection (s : State) (k std : Nat) : Option Section :=
  (s.activeSections k).find? (fun c => c.kind == Kind.turnaround && c.std == std)

/-- Whether player `k` plays. -/
def State.playing (s : State) (k : Nat) : Bool := s.rb (Reg.lspPlStatus k) 23
/-- Whether player `k` is held (R306, R313). -/
def State.heldPlayer (s : State) (k : Nat) : Bool := s.rb (Reg.lspPlStatus k) 22
/-- Whether player `k` must start nothing: it is to be held, or the LSP page quiesces or is quiesced (R306, R313). -/
def State.holdAsked (s : State) (k : Nat) : Bool :=
  s.rb (Reg.lspPlCtrl k) 0 || s.rb (Reg.ctrl Page.lsp) 1 || s.quiesced Page.lsp || s.heldPlayer k

/-- Whether player `k` can start a section: idle, not held, no trigger waiting (R291). -/
def State.playerFree (s : State) (k : Nat) : Bool :=
  !s.playing k && !s.holdAsked k && !s.rb (Reg.lspPlStatus k) 21

/-- The bound of R290: the first multiple of 8 at least 1,024 ft after a tick. -/
def boundAfter (t : Nat) : Nat := boundTick t

/-- A section of player `k` starts with start tick `S` for session slot `slot` (R290, R294). A trigger that waits goes on waiting
(R291). -/
def startSection (k : Nat) (c : Section) (S slot : Nat) (s : State) : State :=
  setRf (Reg.lspPlStatus k) 31 24 c.num (setRb (Reg.lspPlStatus k) 23 true (setPair (Reg.lspPlStartLo k) S
    (addRf (Reg.lspPlSectCnt k) 31 16 1 (modPlayer k (fun p => { p with
      kind := c.kind, sS := S, p := S, anchor := s.regPair (Reg.lspPlAnchorLo k), pc := c.entry
      avail := s.now, slot := slot, sec := p.sec + 1 }) s))))

/-! ## Reports of a player (R301, R302) -/

/-- Adds a code to a list of codes that arose. -/
def addErr (e : Nat) (l : List Nat) : List Nat := if l.contains e then l else l ++ [e]

/-- The code that an exchange's result carries for a refusal: NOT_QUIESCED is carried as MODE_ABORT (R302). -/
def carried (e : Nat) : Nat := if e = Err.notQuiesced then Err.modeAbort else e

/-- The exchange in flight on FEn takes a code. -/
def engErr (n e : Nat) : State → State :=
  modEng n (fun x => { x with exch := x.exch.map (fun y => { y with errs := addErr e y.errs }) })

/-- The exchange of the session in `slot` that a section of player `k` serves takes a code (R301, R302); a section that serves no session,
a discovery's among them, has none. -/
def sectionErr (k slot e : Nat) (s : State) : State :=
  if slot = 0 then s
  else if k < 4 then
    (if ((s.eng k).exch.map Exch.slot) = some slot then engErr k (carried e) s else s)
  else if k = 4 ∧ (s.link.ex.map LinkEx.slot) = some slot then
    { s with link := { s.link with ex := s.link.ex.map (fun y => { y with errs := addErr (carried e) y.errs }) } }
  else s

/-- A consumer refuses the step at word `index` of player `k`, of a section for the session in `slot` (R302). -/
def stepRefused (k slot e index : Nat) (s : State) : State :=
  sectionErr k slot e (recErr Page.lsp e k index (irq Page.lsp 6 s))

/-- A step of player `k` with target `T` is late, issued at tick `t` (R301). The event of producer 0x58 + k has the tick of the issue
(DESIGN CHOICE, log entry 110). -/
def stepLate (k slot T t : Nat) (s : State) : State :=
  sectionErr k slot Err.late (recLate Page.lsp T t (irq Page.lsp 0 (setPair (Reg.lspPlLateLo k) T
    (addRf (Reg.lspPlCnt k) 31 16 1 (publish (0x58 + k) t s)))))

/-- A consumer's page acts at tick `t` on the step `i`, which it has had from tick `have_` on: LATE when that is past the target (R19). -/
def stepActed (k page : Nat) (i : Issued) (have_ t : Nat) (s : State) : State :=
  if i.target < have_ then sectionErr k i.slot Err.late (recLate page i.target t s) else s

/-- The first carrier-cycle boundary at or after a tick (R17). -/
def ccAt (t : Nat) : Nat := roundUp t 8

/-- Whether one of the pages 0x1F–0x24 is quiesced, as a disabled one is (R135), or to be (R336). -/
def State.radioHeld (s : State) : Bool := (List.range 6).any (fun j => s.quiesced (0x1f + j) || s.rb (Reg.ctrl (0x1f + j)) 1)

/-- Whether the check-value channel of player 4 is quiesced (R400). -/
def State.linkChanOff (s : State) : Bool := s.linkChan.any (fun c => s.rb Reg.cvuChq (16 + c) || s.quiesced Page.cvu)

/-- Whether the consumer of a step of class `op` of player `k` is quiesced and holds it (R143, R144); a disabled page refuses its steps
(R135). -/
def State.stepHeld (s : State) (k op : Nat) : Bool :=
  let off := fun p => s.rb (Reg.status p) 0 && s.rb (Reg.ctrl p) 0
  if 1 ≤ op ∧ op ≤ 4 then off (Page.fe k)
  else if op = 6 then s.radioHeld && s.rb (Reg.ctrl Page.rbRx) 0
  else if op = 7 then (s.radioHeld || s.linkChanOff) && s.rb (Reg.ctrl Page.rbTx) 0
  else if op = 8 ∨ op = 9 then off Page.evf
  else if op = 0xb then off Page.ftb
  else false

/-- The step of player `k` that acts next: of those in flight that no quiesced consumer holds, the one with the earliest tick (R299). -/
def State.nextStep (s : State) (k : Nat) : Option Issued :=
  ((s.player k).flight.filter (fun i => !s.stepHeld k i.op)).foldl (fun (o : Option Issued) i =>
    match o with
    | none => some i
    | some j => if i.act < j.act then some i else o) none

/-- Lets the next step of player `k` act when its class is `op` and its consumer's page is not quiesced (R144): `f` is given
the step. -/
def takeStep (k op : Nat) (page : Nat) (f : Issued → State → State) (s : State) : State :=
  match s.nextStep k with
  | none => s
  | some i =>
    if i.op ≠ op ∨ (s.rb (Reg.status page) 0 ∧ s.rb (Reg.ctrl page) 0) then s
    else f i (modPlayer k (fun p => { p with flight := p.flight.erase i }) s)

/-- The next step of player `k`, when its class is `op`, whatever is quiesced. -/
def takeAny (k op : Nat) (f : Issued → State → State) (s : State) : State :=
  match s.nextStep k with
  | none => s
  | some i => if i.op ≠ op then s else f i (modPlayer k (fun p => { p with flight := p.flight.erase i }) s)

/-- Whether the block of page `p`, quiesced, holds a step of class `op` of player `k`; any page of the radio holds its steps (R143). -/
def stepHeldBy (k op p : Nat) : Bool :=
  if 1 ≤ op ∧ op ≤ 4 then p == Page.fe k
  else if op = 6 ∨ op = 7 then decide (0x1f ≤ p ∧ p < 0x25)
  else if op = 8 ∨ op = 9 then p == Page.evf
  else if op = 0xb then p == Page.ftb
  else false

/-- Steps that page `p` held past their ticks act from now on, each on its own boundary point (R17, R19, R144). -/
def freeSteps (p : Nat) (s : State) : State :=
  forEach (List.range 8) (fun k => modPlayer k (fun x => { x with flight := x.flight.map (fun i =>
    if stepHeldBy k i.op p ∧ i.act < s.now then { i with act := s.now, issued := max i.issued s.now } else i) })) s

/-! ## What every exchange's end shares (R263, R371, R489) -/

/-- The first code of a precedence list that arose. -/
def firstErr (prec l : List Nat) : Nat := (prec.find? (fun e => l.contains e)).getD Err.none

/-- Adds a code unless it is NONE. -/
def addCode (e : Nat) (l : List Nat) : List Nat := if e = Err.none then l else addErr e l

/-- The codes that an exchange met beside the one that its result carries set their classes too (R470). -/
def faultsMet (p : Nat) (cls : Nat → Option Nat) (l : List Nat) (s : State) : State := l.foldl (fun t e => faultOpt (cls e) p e t) s

/-- The session's frame has completed: BUSY falls back to PLACED (R30). -/
def frameDone (k : Nat) (s : State) : State :=
  sif (s.sessState k == SessState.busy) (setSessState k SessState.placed) s

/-- TX_FCNT of slot `k` (R371). -/
def State.txFcnt (s : State) (k : Nat) : Nat := s.ctx16 k 0x8c + 65536 * s.ctx k 0x8e
/-- TX_FCNT counts a frame built (R371). -/
def fcntUsed (k : Nat) (s : State) : State := setMem 3 (ctxAddr k 0x8c) ((s.txFcnt k + 1) % 2 ^ 24) s

end Sys2Proof.Machine
end

