-- ==== Sys2Proof/Machine/Frames.lean ====
section
/-! DEFINITION. What the frames of the field engines and of the return band share: the engine's page and the check of a frame
on a check-value channel (10_hf_air_interfaces, R259, R260; 16_check_value_units, R397–R399). -/

namespace Sys2Proof.Machine

/-! ## The page -/

/-- The standard of FEn (R243). -/
def State.feStd (s : State) (n : Nat) : Nat := s.rf (Reg.feMode n) 3 0
/-- FEn publishes its producer `k` of R265 with tick `t`. -/
def feEvent (n k t : Nat) : State → State := publish (0x70 + 8 * n + k) t
/-- Writes EXCH_STATUS.PHASE. -/
def fePhase (n v : Nat) : State → State := setRf (Reg.feExchStatus n) 10 8 v
/-- Changes the frame on air. -/
def modAir (n : Nat) (f : Air → Air) : State → State := modEng n (fun e => { e with air := f e.air })
/-- Changes the exchange in flight. -/
def modExch (n : Nat) (f : Exch → Exch) : State → State := modEng n (fun e => { e with exch := e.exch.map f })

/-! ## Check values (R259, R260, R397–R399) -/

/-- The preset that R259 gives for a standard and rate. -/
def presetFor (std rate : Nat) : Nat :=
  match std with
  | 1 => 1
  | 2 => 2
  | 3 => 3
  | 4 => if rate = 0 then 1 else 4
  | _ => 5

/-- The parameters of preset `pr`, with slot `slot`'s own for 0xF (R398). -/
def State.framePar (s : State) (slot : Option Nat) (pr : Nat) : CrcPar :=
  let k := slot.getD 0
  (preset pr).getD ⟨s.ctx k 0x58 % 64, s.ctx32 k 0x4c, s.ctx32 k 0x50, (s.ctx k 0x59).testBit 0, (s.ctx k 0x59).testBit 1,
    s.ctx32 k 0x54⟩

/-- Whether START accepts the parameters of preset 0xF (R393). -/
def CrcPar.fits (p : CrcPar) : Bool :=
  decide (1 ≤ p.w ∧ p.w ≤ 32 ∧ p.poly % 2 = 1 ∧ p.poly < 2 ^ p.w ∧ p.init < 2 ^ p.w ∧ p.xorout < 2 ^ p.w)

/-- How many check bytes a CRC takes on air. -/
def CrcPar.len (p : CrcPar) : Nat := (p.w + 7) / 8

/-- The check bytes on air; the order of preset 0xF is not stated (log entry 32). -/
def airCheck (pr : Nat) (p : CrcPar) (v : Nat) : List Byte :=
  if pr = 0xf then
    let l := (List.range p.len).map (fun i => BitVec.ofNat 8 (v / 256 ^ i))
    if Config.compatLsFirst then l else l.reverse
  else checkBytes pr v

/-- The value that check bytes on air spell. -/
def airValue (pr : Nat) (l : List Byte) : Nat :=
  if pr = 0xf then (if Config.compatLsFirst then checkValue 1 l else checkValue 4 l) else checkValue pr l

/-- CV_SPAN of a session (R264); the frames of the link layer do not use it (R399). -/
def State.cvSpan (s : State) (slot : Option Nat) : Bool :=
  match slot with
  | none => false
  | some k => s.sessKind k == 0 && (s.ctx k 0x0e).testBit 3

/-- The channel that serves the next frame of FEn (R260): its own, or, with its own quiesced, the spare it can claim. An engine that a block reset
has left without its channel waits until it holds it again (R401). -/
def State.engChan (s : State) (n : Nat) : Option Nat :=
  let c := s.rf (Reg.feCvu n) 2 0
  let d := s.rf (Reg.feCvu n) 14 12
  if !s.feHolds n (0x60 + c) then none
  else if !s.cvuOff c then some c
  else if s.rb (Reg.feCvu n) 15 && !s.cvuOff d && (s.holder (0x60 + d) == 0 || s.feHolds n (0x60 + d)) then some d
  else none

/-- Loads a preset into channel `c` for a frame, with CMP_EN (R397). -/
def loadFrameCfg (c : Nat) (slot : Option Nat) (pr : Nat) (cmp : Bool) (s : State) : State :=
  let p := s.framePar slot pr
  let t := cvuLoadCfg c
    (wd (p.w * 65536 + p.refout.toNat * 512 + p.refin.toNat * 256 + cmp.toNat * 16 + pr)) s
  if pr = 0xf then
    setReg (Reg.cvuCXor c) (wd p.xorout) (setReg (Reg.cvuCInit c) (wd p.init) (setReg (Reg.cvuCPoly c) (wd p.poly) t))
  else t

/-- A frame starts on channel `c` (R397, R399), if START accepts its parameters (R393). -/
def checkOpen (c : Nat) (slot : Option Nat) (pr : Nat) (cmp : Bool) (s : State) : State :=
  let a := cvuCheckedBegin c (loadFrameCfg c slot pr cmp s)
  if s.cvSpan slot then cvuSetRun c (s.ctx32 (slot.getD 0) 0x44) a else a

/-- A frame of the bytes `l` ends on channel `c`, compared with `expect` when the frame is received; the session's check-value area
takes what R398 and R399 put there. -/
def checkClose (c : Nat) (slot : Option Nat) (l : List Byte) (expect : Option Nat) (s : State) : State :=
  let e := match expect with
    | none => s
    | some v => setReg (Reg.cvuCExpect c) (wd v) s
  let f := cvuFinish c (cvuFeed c l e)
  match slot with
  | none => f
  | some k =>
    let g := setCtx k 0x41 c (if s.cvSpan slot then setCtx32 k 0x44 (f.reg (Reg.cvuCRun c)).toNat f else f)
    match expect with
    | none => g
    | some v => setCtx32 k 0x48 v g

/-- Runs a frame's check on channel `c` at once (R397). -/
def checkOn (c : Nat) (slot : Option Nat) (pr : Nat) (l : List Byte) (expect : Option Nat) (s : State) : State :=
  checkClose c slot l expect (checkOpen c slot pr expect.isSome s)

/-- The check value of a frame's bytes. -/
def State.frameCheck (s : State) (slot : Option Nat) (pr : Nat) (l : List Byte) : Nat :=
  let p := s.framePar slot pr
  p.result (l.foldl p.byteIn (if s.cvSpan slot then s.ctx32 (slot.getD 0) 0x44 % 2 ^ p.w else p.start))

/-- A frame of FEn starts on its channel, or on the spare, which it claims for that frame alone (R400); `bytes` are those of a frame
sent, each with the tick at which it has reached RESULT. -/
def engOpen (n : Nat) (slot : Option Nat) (pr : Nat) (cmp : Bool) (bytes : List (Nat × Byte)) (s : State) : State :=
  match s.engChan n with
  | none => s
  | some c =>
    let own := s.feHolds n (0x60 + c)
    modEng n (fun e => { e with check := some ⟨c, !own, slot, pr, bytes⟩ })
      (checkOpen c slot pr cmp (if own then s else claimRes (0x60 + c) (4 + n) ((slot.map (fun k => s.ctx16 k 0)).getD 0) 0 s))

/-- FEn is done with its channel: a spare is released (R400). -/
def engFree (n : Nat) (k : Check) (s : State) : State :=
  sif (k.spare && s.feHolds n (0x60 + k.chan)) (releaseRes (0x60 + k.chan)) (modEng n (fun e => { e with check := none }) s)

/-- The frame that FEn runs on a channel ends there with the bytes `l`; a block reset of CVU may have abandoned it (R401). -/
def engClose (n : Nat) (l : List Byte) (expect : Option Nat) (s : State) : State :=
  match (s.eng n).check with
  | none => s
  | some k => engFree n k (if s.rb (Reg.cvuCStatus k.chan) 0 then checkClose k.chan k.slot l expect s else s)

/-- The frame that FEn runs on a channel is abandoned, and one that is to start there does not. -/
def engDrop (n : Nat) (s : State) : State :=
  let t := modEng n (fun e => { e with opening := none }) s
  match (t.eng n).check with
  | none => t
  | some k => engFree n k (cvuDrop k.chan t)

/-- The linked section of a cross-band exchange, if it has one, moves with its HF half (R387): by `d` ft, for targets after tick `t`; steps
already issued are held. -/
def linkShift (n t d : Nat) (s : State) : State :=
  if ((s.eng n).exch.map Exch.xb) = some true ∧ s.link.ex.any (fun x => x.section4 != 0) then
    modPlayer 4 (fun p => { p with shift := p.shift + d, shiftFrom := t, p := if t < p.p then p.p + d else p.p, flight := p.flight.map (fun i =>
      if t < i.target then { i with target := i.target + d, act := i.act + d } else i) }) s
  else s

/-- The tick of the first modulated carrier cycle of FEn's frame (R265). -/
def Air.modStart (a : Air) : Nat := a.start + 8 * a.wave.firstMod

/-- The frame of FEn that waits for its first bit starts `d` ft later: its reference tick, its window and its bytes move with it, and so does what is
bound to it (R253, R387). -/
def engShift (n d : Nat) (s : State) : State :=
  let old := (s.eng n).air.modStart
  let up := fun o : Option Nat => o.map (· + d)
  linkShift n (s.player 4).shiftFrom d
    (modFab (fun f => { f with waiting := f.waiting.map (fun e => if e.prod = 0x70 + 8 * n ∧ e.tick = old then { e with tick := old + d } else e) })
      (modEng n (fun e => { e with
        opening := e.opening.map (fun o => (o.1 + d, { o.2 with bytes := o.2.bytes.map (fun b => (b.1 + d, b.2)) }))
        air := { e.air with
          delay := e.air.delay + d / 8, start := e.air.start + d, ref := up e.air.ref, opened := up e.air.opened, close := up e.air.close } }) s))

/-- What has passed on FEn's channel by now (R397): the frame that was to start there starts on its first bit, or waits on for a channel that has
been quiesced since (R400), and every byte that has been sent is fed. -/
def engFeed (n : Nat) (s : State) : State :=
  let t := match (s.eng n).opening with
    | some (st, k) =>
      if s.now < st then s
      else if (s.engChan n).isNone then engShift n (roundUp (s.now + 1) 8 - st) s
      else engOpen n k.slot k.pr false k.bytes (modEng n (fun e => { e with opening := none }) s)
    | none => s
  match (t.eng n).check with
  | none => t
  | some k =>
    let l := k.bytes.takeWhile (fun b => decide (b.1 ≤ t.now))
    if l = [] ∨ t.rb (Reg.cvuCStatus k.chan) 0 = false then t
    else cvuFeed k.chan (l.map Prod.snd) (modEng n (fun e => { e with check := some { k with bytes := k.bytes.drop l.length } }) t)

/-- A frame that FEn sends from tick `st` takes its channel on its first bit (R397). -/
def engSends (n st : Nat) (slot : Option Nat) (pr : Nat) (bytes : List (Nat × Byte)) : State → State :=
  engFeed n ∘ modEng n (fun e => { e with opening := some (st, ⟨0, false, slot, pr, bytes⟩) })

end Sys2Proof.Machine
end

