-- ==== Sys2Proof/Machine/Radio.lean ====
section
/-! DEFINITION. The return-band radio (13_return_band_radio, R315–R339): states and the legs between them, requests, the
synthesiser, the region and duty checks, the aerial's reflection and tuner, and the airtime bins. -/

namespace Sys2Proof.Machine

/-! ## The radio's registers -/

/-- Changes the radio's internal state. -/
def modRadio (f : RadioSt → RadioSt) (s : State) : State := { s with radio := f s.radio }
/-- Changes the receiver's internal state. -/
def modRx (f : RxSt → RxSt) (s : State) : State := { s with rx := f s.rx }
/-- Changes the link layer's internal state. -/
def modLink (f : LinkSt → LinkSt) (s : State) : State := { s with link := f s.link }
/-- Changes the link exchange in flight. -/
def modEx (f : LinkEx → LinkEx) : State → State := modLink (fun l => { l with ex := l.ex.map f })

/-- The radio's state (R320). -/
def State.rbState (s : State) : Nat := s.rf Reg.rbSynState 3 0
/-- The channel in use. -/
def State.rbChannel (s : State) : Nat := s.rf Reg.rbSynState 9 4
/-- Whether the synthesiser is locked. -/
def State.rbLocked (s : State) : Bool := s.rb Reg.rbSynState 12
/-- The return state in force (R323). -/
def State.rbReturn (s : State) : Nat := s.rf Reg.rbSynState 18 15
/-- Writes LOCKED. -/
def setLocked (b : Bool) : State → State := setRb Reg.rbSynState 12 b

/-- Whether a packet is being received or sent (R324). -/
def State.radioBusy (s : State) : Bool := s.rx.rx.isSome || s.radio.tx.isSome

/-- A search starts at tick `t` (R347, R361): the receiver takes its configuration in use, the AGC is free, and the detection window, the AGC's and the
noise blocks and the alternation begin. -/
def searchCfg (t : Nat) (s : State) : State :=
  let m := sampleNo t
  modRx (fun x => { x with
    agc := s.reg Reg.rbRxAgcCfg, detCfg := s.reg Reg.rbRxDetCfg, capCfg := s.reg Reg.rbDemCapCfg, eqCfg := s.reg Reg.rbDemEqCfg
    decCfg := s.reg Reg.rbDecDecCfg, search := m, winFrom := m, agcFrom := m, quiet := 0, attack := false, alts := 0, spoil := none })
    (setRb Reg.rbRxAgcStatus 31 false s)

/-- A window whose opening found the radio short of RX_WAIT begins to search at tick `t` (R352). -/
def lateSearch (t : Nat) (s : State) : State :=
  match s.rx.win with
  | none => s
  | some w =>
    if w.live && w.late then recLate Page.rbRx w.opened t (modRx (fun x => { x with win := some { w with late := false } }) s)
    else s

/-- The radio enters state `v` at tick `t` (R320, R322); TX_ON follows it. -/
def setRbState (v t : Nat) (s : State) : State :=
  if s.rbState = v then s
  else
    let u := publish 0xcd t (irq Page.rbSyn 4 (setRb Reg.rbTxStatus 0 (decide (6 ≤ v)) (setRf Reg.rbSynState 3 0 v s)))
    if v = 4 then lateSearch t (searchCfg t u) else u

/-! ## Region and power (R317, R331, R334) -/

/-- TARGET of PA step `k`, in 0.25 dBm. -/
def State.paTarget (s : State) (k : Nat) : Int := signed 8 (s.rf (Reg.rbTxPa k) 31 24)

/-- The step that a transmission on a channel uses (R317): the one asked for, or the highest whose TARGET the channel allows;
none when no step does. The flag tells a clamped step. -/
def State.paStep (s : State) (chan ask : Nat) : Option (Nat × Bool) :=
  let top := signed 8 (s.rf (Reg.rbTxCh chan) 23 16)
  if s.paTarget ask ≤ top then some (ask, false)
  else (((List.range 32).reverse.find? (fun k => decide (s.paTarget k ≤ top))).map (fun k => (k, true)))

/-- The step that REDUCED leaves (R334). -/
def State.askedStep (s : State) (ask : Nat) : Nat :=
  if s.rb Reg.rbAntStatus 1 then min ask (s.rf Reg.rbAntMmCfg 20 16) else ask

/-! ## Airtime (R318) -/

/-- The bins of a duty group, newest first. -/
def State.dutyBins (s : State) (g : Nat) : List Nat := tabGet [] s.radio.bins g
/-- The airtime counted in a group's window, in thirds of a tick. -/
def State.dutyUsed (s : State) (g : Nat) : Nat := ((s.dutyBins g).take 16).sum
/-- LIMIT of a group. -/
def State.dutyLimit (s : State) (g : Nat) : Nat := s.rf (Reg.rbTxDuty g) 15 0
/-- WINDOW of a group, in s. -/
def State.dutyWindow (s : State) (g : Nat) : Nat := s.rf (Reg.rbTxDuty g) 31 16

/-- Thirds of a tick in 1 s: 3 × 108,480,000. -/
abbrev thirdsPerSecond : Nat := 325440000

/-- The length of a bin of a group: 1/16 of its WINDOW, 0 without a table. -/
def State.binLength (s : State) (g : Nat) : Nat := 6780000 * s.dutyWindow g

/-- Whether a group's window has no room for `air` more (R318); LIMIT 10,000 means no limit (R316). -/
def State.dutyOver (s : State) (g air : Nat) : Bool :=
  s.dutyLimit g != 10000 &&
    decide (s.dutyLimit g * s.dutyWindow g * thirdsPerSecond < 10000 * (s.dutyUsed g + air))

/-- DUTY_USEg and DUTY_FULL follow a group's bins. -/
def dutyShow (g : Nat) (s : State) : State :=
  let used := s.dutyUsed g
  let lim := s.dutyLimit g * s.dutyWindow g * thirdsPerSecond
  let full := s.dutyLimit g != 10000 && decide (99 * lim < 100 * (10000 * used))
  setRb Reg.rbTxStatus (4 + g) full (setRf (Reg.rbTxDutyUse g) 15 0
    (min 0xffff (openDivNat (10000 * used) (s.dutyWindow g * thirdsPerSecond))) s)

/-- Replaces a group's bins. -/
def setBins (g : Nat) (l : List Nat) (s : State) : State :=
  dutyShow g (modRadio (fun r => { r with bins := tabSet [] r.bins g l }) s)

/-- A group's bins start anew at the present tick. -/
def clearBins (g : Nat) (s : State) : State :=
  setBins g [] (modRadio (fun r => { r with binFrom := tabSet 0 r.binFrom g s.now }) s)

/-- The bins of a group whose time has passed make way for empty ones (R318). -/
def dutySettle (g : Nat) (s : State) : State :=
  let from_ := tabGet 0 s.radio.binFrom g
  let n := if s.binLength g = 0 then 0 else (s.now - from_) / s.binLength g
  if n = 0 then s
  else setBins g ((List.replicate (min 16 n) 0 ++ s.dutyBins g).take 16)
    (modRadio (fun r => { r with binFrom := tabSet 0 r.binFrom g (from_ + n * s.binLength g) }) s)

/-- Counts airtime into a group's present bin. -/
def dutyAdd (g air : Nat) (s : State) : State :=
  let t := dutySettle g s
  setBins g (match t.dutyBins g with
    | [] => [air]
    | b :: r => (b + air) :: r) t

/-- DUTY_BIN_ADVANCE (R318): the present bin of a group ends, WINDOW / 16 s after it began, and a new one begins. Without a region table a group has no
window. -/
def execDutyBinAdvance (g : DutyIx) (s : State) : Host.Outcome State Fault Refusal :=
  .next (if s.fldRuns ∧ s.binLength g ≠ 0 then
    dutySettle g (passTo (tabGet 0 s.radio.binFrom g + s.binLength g) s)
  else s)

/-! ## The checks before a ramp (R317, R318, R334) -/

/-- A transmission refused (R317): the cause and the channel; `cls` is the fault's class. -/
def txRefused (cls code cause chan : Nat) (s : State) : State :=
  irq Page.rbTx 2 (recErrAs (some cls) Page.rbTx code (chan * 256 + cause) 0 s)

/-- What the checks on a transmission give: the step to use, or the code of its refusal. -/
inductive TxCheck where
  | go (step : Nat)
  | no (code : Nat)

/-- The checks of R334, R317 and R318, in that order, on a transmission of `air` thirds of a tick, and the state after them. -/
def txCheck (chan ask air : Nat) (s0 : State) : TxCheck × State :=
  let s := dutySettle (s0.rf (Reg.rbTxCh chan) 25 24) s0
  if s.rb Reg.rbAntStatus 2 then (.no Err.detuned, txRefused 2 Err.detuned (s.freeVal % 256) chan (nextFree s))
  else if !s.rb (Reg.rbTxCh chan) 31 then
    (.no Err.modeAbort, addRf Reg.rbTxCnt2 31 16 1 (txRefused 10 Err.modeAbort 1 chan s))
  else
    match s.paStep chan (s.askedStep ask) with
    | none => (.no Err.modeAbort, addRf Reg.rbTxCnt2 31 16 1 (txRefused 10 Err.modeAbort 3 chan s))
    | some (k, clamped) =>
      let u := sif clamped (fun v => setRb Reg.rbTxStatus 8 true (irq Page.rbTx 1 (addRf Reg.rbTxCnt 15 0 1 v))) s
      if s.dutyOver (s.rf (Reg.rbTxCh chan) 25 24) air then
        (.no Err.modeAbort, irq Page.rbTx 3 (addRf Reg.rbTxCnt2 15 0 1 (txRefused 10 Err.modeAbort 2 chan u)))
      else (.go k, u)

/-! ## Legs (R322) -/

/-- The leg from a state toward a goal: the state at its end and its bound in ft. Legs to SYNTH from STANDBY and to RX_WAIT
without lock are the synthesiser's. -/
def radioLeg (st goal : Nat) (locked : Bool) : Option (Nat × Nat) :=
  if st = goal then none
  else if st = 0 ∧ goal ≠ 1 then some (2, 4340)
  else if st = 1 ∧ 2 ≤ goal then some (2, 1302)
  else if goal ≤ 2 then some (goal, 109)
  else if goal = 4 then (if st = 3 && locked then some (4, 434) else none)
  else if st = 4 ∨ st = 5 then some (3, 109)
  else none

/-- The synthesiser starts on the channel in use at tick `t` (R326): a search of three bands, or, on the channel last
calibrated, the wait for the lock detector alone. -/
def startSynth (t : Nat) (s : State) : State :=
  let same := s.radio.everCal && s.rf Reg.rbSynLastCal 21 16 == s.rbChannel
  let u := modRadio (fun r => { r with phase := if same then 4 else 1, synthStart := t, lockFrom := t }) (setLocked false s)
  setRb Reg.rbSynState 13 (!same) (sif (!same) (addRf Reg.rbSynCnt 31 16 1) u)

/-- The synthesiser stops where it stands. -/
def stopSynth (s : State) : State :=
  setRb Reg.rbSynState 13 false (setLocked false (modRadio (fun r => { r with phase := 0 }) s))

/-- What the radio can do toward its goal at once, at tick `t`: enter SYNTH from STANDBY, RX_WAIT from RX, or SYNTH without
lock, and start the synthesiser. -/
def radioEnter (g t : Nat) (s : State) : State :=
  let st := s.rbState
  let a :=
    if 3 ≤ g ∧ st = 2 then setRbState 3 t s
    else if g = 4 ∧ st = 5 ∧ s.rbLocked then setRbState 4 t s
    else if 3 ≤ g ∧ (st = 4 ∨ st = 5) ∧ !s.rbLocked then setRbState 3 t s
    else s
  if 3 ≤ g ∧ a.rbState = 3 ∧ !a.rbLocked ∧ a.radio.phase = 0 then startSynth t a else a

/-- How far the radio goes toward a goal: while one of its pages is to be quiesced, to STANDBY from below it, and from above it nowhere until the
quiesce takes effect (R336). -/
def State.goalNow (s : State) (g : Nat) : Nat :=
  if s.radioHeld then (if s.rbState ≤ 2 then min 2 g else s.rbState) else g

/-- The radio goes on toward its goal from tick `t` (R322): a leg already under way keeps its start. -/
def radioMove (t : Nat) (s : State) : State :=
  match s.radio.goal.map s.goalNow with
  | none => s
  | some g =>
    let a := radioEnter g t s
    if a.rbState = g then modRadio (fun r => { r with goal := none, legTo := none }) a
    else
      match radioLeg a.rbState g a.rbLocked with
      | none => modRadio (fun r => { r with legTo := none }) a
      | some (v, m) =>
        if a.radio.legTo = some v then a
        else modRadio (fun r => { r with legTo := some v, legStart := t, legMax := m }) (sif (decide (g ≤ 2)) stopSynth a)

/-- The radio heads for state `g` from tick `t`. -/
def radioTo (g t : Nat) (s : State) : State := radioMove t (modRadio (fun r => { r with goal := some g }) s)

/-- RETURN of a request: 0xF names DEF.DEF_RETURN (R323). -/
def State.retOf (s : State) (v : Nat) : Nat := if v = 0xf then s.rf Reg.rbSynDef 18 15 else v

/-- A state request acts at tick `t` (R321, R322, R324), and one that waited is replaced: another channel needs the synthesiser anew. While a
protection latch stands the radio does not leave STANDBY (R432). -/
def radioAct (q : RadioReq) (t : Nat) (r : State) : State :=
  let s := setRb Reg.rbSynState 14 false (modRadio (fun r => { r with waiting := none }) r)
  let other := s.rbChannel ≠ q.chan
  let u := setRf Reg.rbSynState 18 15 (s.retOf q.ret) (setRf Reg.rbSynState 23 19 q.pa (setRf Reg.rbSynState 9 4 q.chan s))
  radioTo (if s.rb Reg.sensProt 28 then min 2 q.st else q.st) t
    (modRadio (fun r => { r with reqTick := t, regain := false, stopped := false }) (sif (decide other) stopSynth u))

/-- A state request is made at tick `t`: it waits while a packet or a quiesce is in progress, and replaces one that waits
(R324, R336). Without VDDRF or behind the gate the radio stays in OFF (R50, R156). -/
def radioAsk (q : RadioReq) (t : Nat) (s : State) : State :=
  if !s.pageUp Page.rbSyn then s
  else if s.radioBusy ∨ s.radioHeld then
    setRb Reg.rbSynState 14 true (modRadio (fun r => { r with waiting := some q }) s)
  else radioAct q t s

/-- The waiting request acts at tick `t`; past its target tick, R19 applies (R324). -/
def radioTake (q : RadioReq) (t : Nat) (s : State) : State :=
  let u := radioAct q t s
  match q.target with
  | none => u
  | some T => if T < t then sectionErr 4 q.slot Err.late (recLate Page.rbSyn T t u) else u

/-- A quiesce of the radio's pages takes effect (R336): STANDBY, with lock and channel kept; a calibration under way is given up. A radio
below STANDBY goes up to it, unless it is without its supply or a power mode keeps it in OFF (R50, R452). -/
def radioStandby (t : Nat) (s : State) : State :=
  if s.rbState ≤ 2 then
    let u := modRadio (fun r => { r with goal := r.goal.map (min 2), regain := false }) s
    if s.pageUp Page.rbSyn && decide (s.mode < 2) then radioTo 2 t u else u
  else setRbState 2 t (sif (!s.rbLocked) stopSynth (modRadio (fun r => { r with goal := none, legTo := none, regain := false }) s))

/-- TX_RAMP starts at tick `r` for a transmission whose first sample follows 192 ft later (R322, R329). The receiver is off. -/
def rampStart (x : RadioTx) (s : State) : State :=
  setRbState 6 x.ramp (setRf Reg.rbTxStatus 20 16 x.step (modRadio (fun r => { r with
    tx := some x, goal := none, legTo := none, testWaits := none }) s))

/-- A test transmission moved to start its ramp at tick `t`. -/
def RadioTx.at_ (x : RadioTx) (t : Nat) : RadioTx :=
  { x with ramp := t, first := t + 192, last := t + 192 + (x.last - x.first) }

/-- A test transmission that waits, as the channel and the PA step of the last request now have it (R330): the checks of R317 and R318 are
made again when these have changed since they were made. -/
def testCheck (x : RadioTx) (s : State) : TxCheck × State :=
  let ask := s.rf Reg.rbSynState 23 19
  if s.rbChannel = x.chan ∧ (s.paStep x.chan (s.askedStep ask)).map Prod.fst = some x.step then (.go x.step, s)
  else txCheck s.rbChannel ask x.air s

/-- The test that waits ramps at tick `t` when the synthesiser is locked, no packet is in progress and no page of the radio holds it (R330,
R336); from STANDBY with the lock kept, through SYNTH. One that is refused goes, and the radio heads for its return state (R317). -/
def testRamp (t : Nat) (s : State) : State :=
  match s.radio.testWaits with
  | none => s
  | some x =>
    if s.rbLocked ∧ !s.radioHeld ∧ s.radio.tx = none ∧ s.rx.rx = none ∧ 2 ≤ s.rbState ∧ s.rbState ≤ 4 then
      match testCheck x s with
      | (.go k, u) => rampStart { x.at_ t with step := k, chan := u.rbChannel } (sif (u.rbState == 2) (setRbState 3 t) u)
      | (.no _, u) => radioTo u.rbReturn t (modRadio (fun r => { r with testWaits := none }) u)
    else s

/-- A packet or a window has ended at tick `t`: the waiting request acts, or the radio goes to its return state (R323, R324), unless a protection
latch has stopped it (R434); a test transmission that waited for it ramps when it can (R330). -/
def radioReturn (t : Nat) (s : State) : State :=
  if s.radioHeld then radioStandby t s
  else
    testRamp t (match s.radio.waiting with
    | some q => radioTake q t s
    | none => if s.radio.stopped then s else radioTo s.rbReturn t s)

/-- With the radio unclaimed it takes DEF.IDLE_STATE on DEF.IDLE_CHANNEL (R325), which is then its return state too; one that a protection latch has
stopped waits for a request (R434). -/
def radioIdle (t : Nat) (s : State) : State :=
  if s.holder 0x78 = 0 ∧ !s.radio.stopped then
    radioAsk ⟨s.rf Reg.rbSynDef 3 0, s.rf Reg.rbSynDef 9 4, s.rf Reg.rbSynState 23 19, s.rf Reg.rbSynDef 3 0, none, 0⟩ t s
  else s

/-- R325 after an effect that may have released the radio. -/
def radioFreed (was : Nat) (s : State) : State := if was ≠ 0 then radioIdle s.now s else s

/-- The pages 0x1F–0x24 are all released at tick `t` (R336): the waiting request acts, and a test transmission that waits ramps if the
radio is locked (R330). -/
def radioResume (t : Nat) (s : State) : State :=
  if s.radioHeld ∨ s.radioBusy then s
  else
    testRamp t (match s.radio.waiting with
    | some q => radioTake q t s
    | none => radioIdle t s)

/-- VDDRF is lost (R50): OFF, with the calibration values kept. -/
def radioOff (t : Nat) (s : State) : State :=
  setRbState 0 t (stopSynth (setRb Reg.rbSynState 14 false (modRadio (fun r => { r with
    goal := none, legTo := none, waiting := none, tx := none, testWaits := none, regain := false }) s)))

/-- RADIO_STATE_REACHED (R322): the leg under way ends, at `tick` within its bound. -/
def execRadioStateReached (tick : Nat) (s : State) : Host.Outcome State Fault Refusal :=
  .next (match s.radio.legTo with
    | none => s
    | some v =>
      let t := min (max tick (max s.now s.radio.legStart)) (s.radio.legStart + s.radio.legMax)
      testRamp t (radioMove t (setRbState v t (modRadio (fun r => { r with legTo := none }) (passTo t s)))))

/-! ## Requests (R321) -/

/-- The request that a word in the layout of R295 makes. -/
def reqOf (w : Nat) (target : Option Nat) (slot : Nat) : RadioReq :=
  ⟨w % 16, w / 2 ^ 4 % 64, w / 2 ^ 10 % 32, w / 2 ^ 15 % 16, target, slot⟩

/-- Whether a request is refused with MODE_ABORT. -/
def RadioReq.bad (q : RadioReq) : Bool := decide (5 ≤ q.st) || (decide (5 ≤ q.ret) && q.ret != 0xf)

/-- A write of RB_SYN.REQ (R135, R321). -/
def rbSynReqWrite (ag : Agent) (w : Word) : State → State :=
  guarded ag Reg.rbSynReq (fun s =>
    let q := reqOf w.toNat none 0
    if !bit w 31 then s
    else if !s.rb (Reg.ctrl Page.rbSyn) 0 then refusalErr Page.rbSyn Err.modeAbort openDetail openDetail s
    else if !s.holds ag 0x78 then refusalErr Page.rbSyn Err.resourceBusy (s.resEntry 0x78) 0x78 s
    else if q.bad then refusalErr Page.rbSyn Err.modeAbort openDetail openDetail s
    else radioAsk q s.now s)

/-- RB_SYN_REQ (R321). -/
def execRbSynReq (ag : Agent) (w : Word) (s : State) : Host.Outcome State Fault Refusal := .next (rbSynReqWrite ag w s)

/-- Whether a return-band page takes steps: it is up and enabled. -/
def State.rbPageOn (s : State) (p : Nat) : Bool := s.pageUp p && s.rb (Reg.ctrl p) 0

/-- RADIO_STEP (R321): the request is made on the step's tick; it waits in a quiesce (R336). -/
def execRadioStep (s : State) : Host.Outcome State Fault Refusal :=
  .next (takeAny 4 5 (fun i s =>
    let q := reqOf i.operand (some i.target) i.slot
    if !s.rbPageOn Page.rbSyn ∨ q.bad then stepRefused 4 i.slot Err.modeAbort i.index s
    else radioAsk q i.act (stepActed 4 Page.rbSyn i i.act i.act (passTo i.act s))) s)

/-! ## The synthesiser (R326, R327) -/

/-- The band that a three-band search leaves on channel `k` (R326): the entry of BANDk or a neighbour. -/
def State.bandFor (s : State) (k band : Nat) : Nat :=
  let b := s.rf (Reg.rbSynBand k) 5 0
  max (b - 1) (min (min 63 (b + 1)) band)

/-- SYNTH_CAL_DONE (R326): the search under way ends, within its bound, with a band and a loop gain; a search of three bands keeps to the
neighbours of the entry. -/
def execSynthCalDone (tick band gain : Nat) (s : State) : Host.Outcome State Fault Refusal :=
  let r := s.radio
  let top := if r.phase = 1 then 5641 else 11282
  .next (if r.phase = 1 ∨ r.phase = 2 then
    let t := min (max tick (max s.now r.synthStart)) (r.synthStart + top)
    let b := if r.phase = 1 then s.bandFor s.rbChannel (band % 64) else band % 64
    publish 0xc9 t (setRb Reg.rbSynState 13 false (setRf Reg.rbSynLastCal 21 16 s.rbChannel
      (setReg (Reg.rbSynBand s.rbChannel) (wd (2 ^ 31 + gain % 256 * 2 ^ 16 + b))
        (modRadio (fun r => { r with phase := if r.phase = 1 then 3 else 5, everCal := true, lockFrom := t }) (passTo t s)))))
  else s)

/-- The tick by which a synthesiser that waits for its lock detector locks: 434 ft after a search, and within the bound of R322 in any
case. -/
def RadioSt.lockBy (r : RadioSt) : Nat :=
  if r.phase = 4 then r.synthStart + 2170
  else min (r.lockFrom + 434) (r.synthStart + (if r.phase = 3 then 5641 else 11282))

/-- SYNTH_LOCK (R326): the lock detector reports, within its bound. A test transmission that waits ramps (R330). A lock regained after the
transmission in which it was lost lets the radio go to its return state (R328). -/
def execSynthLock (tick : Nat) (s : State) : Host.Outcome State Fault Refusal :=
  let r := s.radio
  .next (if r.phase = 3 ∨ r.phase = 4 ∨ r.phase = 5 then
    let t := min (max tick (max s.now r.lockFrom)) r.lockBy
    let u := publish 0xc8 t (irq Page.rbSyn 0 (setLocked true
      (setRf Reg.rbSynLastCal 15 0 (min 0xffff (t - r.reqTick)) (modRadio (fun r => { r with phase := 0, regain := false }) (passTo t s)))))
    testRamp t (if r.regain ∧ !s.radioBusy then radioReturn t u else radioMove t u)
  else s)

/-- SYNTH_SEARCH_TIMEOUT (R327): the three-band search has found no lock, and a full search starts. -/
def execSynthSearchTimeout (s : State) : Host.Outcome State Fault Refusal :=
  .next (if s.radio.phase = 1 then
    modRadio (fun r => { r with phase := 2 }) (passTo (s.radio.synthStart + 5641) s)
  else s)

/-! ## On air -/

/-- The last sample of a transmission has gone out at tick `t`: TX_TAIL begins. -/
def tailStart (x : RadioTx) (t : Nat) (s : State) : State :=
  setRbState 8 t (modRadio (fun r => { r with tx := some { x with
    last := t, air := if t = x.last then x.air else 3 * (t + 192 - x.ramp) } }) (passTo t s))

/-- A mismatch at the aerial (R334), with MM_CFG.ACT; the packet in progress is not changed. -/
def aerialMismatch (t : Nat) (s : State) : State :=
  let u := recErrAs (some 2) Page.rbAnt Err.detuned (s.reg Reg.rbAntMmResult).toNat (s.rf Reg.rbAntTune 3 0)
    (publish 0xce t (irq Page.rbAnt 0 (addRf Reg.rbAntMmCnt 15 0 1 s)))
  match s.rf Reg.rbAntMmCfg 23 22 with
  | 1 => setRb Reg.rbAntStatus 1 true u
  | 2 => irqLevel Page.rbAnt 1 true (setRb Reg.rbAntStatus 2 true u)
  | _ => u

/-- AERIAL_MM_DONE (R334): the reflection measured over the 512 ft after TX_RAMP, |Γ| in 1/256 and its phase in 0.1°. -/
def execAerialMmDone (gamma : Nat) (phase : Int) (s : State) : Host.Outcome State Fault Refusal :=
  .next (match s.radio.tx with
    | none => s
    | some x =>
      let t := x.first + 512
      if s.rbState ≠ 7 ∨ x.measured ∨ x.last < t then s
      else
        let u := setReg Reg.rbAntMmResult (wd (2 ^ 31 + min 255 gamma * 2 ^ 16 + unsigned 16 phase))
          (modRadio (fun r => { r with tx := some { x with measured := true } }) (passTo t s))
        if s.rf Reg.rbAntMmCfg 7 0 < gamma then aerialMismatch t u else u)

/-- ANT_TUNE_APPLY (R333): TUNE.CODE reaches the pins at the next edge, once no packet is in progress. -/
def execAntTuneApply (s : State) : Host.Outcome State Fault Refusal :=
  .next (if s.radioBusy then s else modRadio (fun r => { r with tune := s.rf Reg.rbAntTune 3 0 }) (passTo (s.now + 1) s))

/-! ## Counters -/

/-- A write to RB_SYN.CNT_CLR (R337). -/
def rbSynCntClr (ag : Agent) (w : Word) : State → State :=
  guarded ag Reg.rbSynCntClr (fun s =>
    sif (bit w 1) (setReg Reg.rbSynCnt2 0) (sif (bit w 0) (setReg Reg.rbSynCnt 0) s))

/-- RB_SYN_CNT_CLR (R337). -/
def execRbSynCntClr (ag : Agent) (w : Word) (s : State) : Host.Outcome State Fault Refusal := .next (rbSynCntClr ag w s)

/-- A write to RB_TX.CNT_CLR (R338). -/
def rbTxCntClr (ag : Agent) (w : Word) : State → State :=
  guarded ag Reg.rbTxCntClr (sif (bit w 0) (fun s => setReg Reg.rbTxCnt2 0 (setReg Reg.rbTxCnt 0 s)))

/-- RB_TX_CNT_CLR (R338). -/
def execRbTxCntClr (ag : Agent) (w : Word) (s : State) : Host.Outcome State Fault Refusal := .next (rbTxCntClr ag w s)

/-- The survey statistics cleared (R339). -/
def survClear (s : State) : State :=
  setReg Reg.rbAntSurvLvlb 0x80008000 (setReg Reg.rbAntSurvLvla 0x80008000
    (setReg Reg.rbAntSurvCntb 0 (setReg Reg.rbAntSurvCnta 0 s)))

/-- A write to RB_ANT.CNT_CLR (R339). -/
def rbAntCntClr (ag : Agent) (w : Word) : State → State :=
  guarded ag Reg.rbAntCntClr (fun s => sif (bit w 1) survClear (sif (bit w 0) (setReg Reg.rbAntMmCnt 0) s))

/-- RB_ANT_CNT_CLR (R339). -/
def execRbAntCntClr (ag : Agent) (w : Word) (s : State) : Host.Outcome State Fault Refusal := .next (rbAntCntClr ag w s)

end Sys2Proof.Machine
end

