-- ==== Sys2Proof/Machine/Link.lean ====
section
/-! DEFINITION. The Opkar link layer (15_opkar_link, R365–R388): frames, their check values, counters and passwords, the
acceptance of a received frame, and the results of RB and XB exchanges. -/

namespace Sys2Proof.Machine

/-! ## The return-band context (R388) -/

/-- TAG_ID of slot `k`. -/
def State.tagId (s : State) (k : Nat) : Nat := s.ctx32 k 0x80
/-- PANEL_ID of slot `k`. -/
def State.panelId (s : State) (k : Nat) : Nat := s.ctx16 k 0x84
/-- CHANNEL of slot `k`. -/
def State.lkChannel (s : State) (k : Nat) : Nat := s.ctx k 0x86 % 64
/-- TX_RATE of slot `k`. -/
def State.lkTxRate (s : State) (k : Nat) : Nat := s.ctx k 0x87 % 8
/-- REPLY_RATE of slot `k`. -/
def State.lkReplyRate (s : State) (k : Nat) : Nat := s.ctx k 0x87 / 8 % 8
/-- RX_FCNT of slot `k` (R371). -/
def State.rxFcnt (s : State) (k : Nat) : Nat := s.ctx16 k 0x90 + 65536 * s.ctx k 0x92
/-- Writes TX_FCNT of slot `k`. -/
def setTxFcnt (k v : Nat) : State → State := setMem 3 (ctxAddr k 0x8c) (min v 0xffffff)
/-- Writes RX_FCNT of slot `k`. -/
def setRxFcnt (k v : Nat) : State → State := setMem 3 (ctxAddr k 0x90) v
/-- The broadcast address (R378). -/
abbrev everyTag : Nat := 0xffffffff
/-- Whether slot `k` is the broadcast session (R378). -/
def State.isBroadcast (s : State) (k : Nat) : Bool := s.tagId k == everyTag
/-- The return-band sessions: RB and XB, in use; one that is CLOSING among them. -/
def State.linkSlots (s : State) : List Nat :=
  (List.range 256).filter (fun k => k != 0 && s.sessState k != 0 && s.sessKind k != 0)

/-! ## Commands (R375, R381) -/

abbrev Cmd.wake : Nat := 0x01
abbrev Cmd.auth : Nat := 0x03
abbrev Cmd.write : Nat := 0x05
abbrev Cmd.halt : Nat := 0x06
abbrev Cmd.counterReset : Nat := 0x07
abbrev Cmd.ack : Nat := 0x08
abbrev Cmd.setPassword : Nat := 0x09
abbrev Cmd.announce : Nat := 0x81
abbrev Cmd.status : Nat := 0x82
abbrev Cmd.event : Nat := 0x88

/-- The device codes that an exchange may name. -/
def deviceCmd (c : Nat) : Bool := c == 1 || c == 3 || c == 4 || c == 5 || c == 6 || c == 7 || c == 9
/-- The tag-to-device codes. -/
def tagCmd (c : Nat) : Bool := c == 0x81 || c == 0x82 || c == 0x84 || c == 0x88

/-- CMD of a command item. -/
def linkCmd (i : Item) : Nat := fld (i.word 4) 31 24
/-- NO_REPLY of a command item. -/
def linkNoReply (i : Item) : Bool := bit (i.word 4) 22
/-- PL_LEN of a command item. -/
def linkLen (i : Item) : Nat := fld (i.word 4) 15 0
/-- The payload of a command item. -/
def linkPayload (i : Item) : List Byte := (wordsBytes (i.payload.drop 2)).take (linkLen i)
/-- SECTION of a command item. -/
def linkSection (i : Item) : Nat := fld (i.word 5) 31 24
/-- TRAIN of a WAKE. -/
def linkTrain (i : Item) : Nat := fld (i.word 5) 23 12
/-- K of a WAKE. -/
def linkK (i : Item) : Nat := fld (i.word 5) 11 8
/-- The password number that a command names. -/
def namedPw (i : Item) : Option Nat :=
  if linkCmd i = Cmd.auth ∨ linkCmd i = Cmd.counterReset ∨ linkCmd i = Cmd.setPassword then
    some ((linkPayload i).headD 0).toNat
  else none

/-- ATTEMPTS_LEFT as recorded for a password of slot `k` (R377): 0 admin, 1 user. -/
def State.attempts (s : State) (k pw : Nat) : Nat :=
  if pw = 0 then s.ctx k 0x8a / 16 else if pw = 1 then s.ctx k 0x8b % 16 else 0xf

/-- Records ATTEMPTS_LEFT of a password. -/
def setAttempts (k pw v : Nat) (s : State) : State :=
  if pw = 0 then setCtx k 0x8a (s.ctx k 0x8a % 16 + v % 16 * 16) s
  else if pw = 1 then setCtx k 0x8b (v % 16) s
  else s

/-! ## Frames (R365–R367) -/

/-- A value as `n` bytes, least significant first. -/
def leBytes (n v : Nat) : List Byte := (List.range n).map (fun i => BitVec.ofNat 8 (v / 256 ^ i))

/-- A device frame of slot `k` without its CRC (R365, R366). -/
def State.linkFrame (s : State) (k cmd fcnt : Nat) (payload : List Byte) : List Byte :=
  BitVec.ofNat 8 (s.lkReplyRate k * 8 + 1) :: (leBytes 4 (s.tagId k) ++ leBytes 2 (s.panelId k) ++ leBytes 3 fcnt ++
    [BitVec.ofNat 8 cmd] ++ payload)

/-- The CRC-24 of R392. -/
def crc24 (l : List Byte) : Nat := (CrcPar.mk 24 0xb2e4c5 0xffffff false false 0).crc l

/-- A frame starts on player 4's channel (R367, R397), with CMP_EN `cmp`; on a quiesced channel it does not run (R400). -/
def linkOpen (cmp : Bool) (s : State) : State :=
  match s.linkChan with
  | none => s
  | some c => if s.linkChanOff then s else checkOpen c none 6 cmp s

/-- Whether a frame runs on player 4's channel. -/
def State.linkRuns (s : State) : Bool := s.linkChan.any (fun c => s.rb (Reg.cvuCStatus c) 0)

/-- The frame on player 4's channel ends there with the bytes `l`, compared with `expect` when it is received (R397); the session's
check-value area takes its channel and its check (R398). -/
def linkShut (slot : Option Nat) (l : List Byte) (expect : Option Nat) (s : State) : State :=
  match s.linkChan with
  | none => s
  | some c =>
    if !s.linkRuns then s
    else
      let t := checkClose c none l expect s
      match slot with
      | none => t
      | some k => setCtx k 0x41 c (match expect with
        | none => t
        | some v => setCtx32 k 0x48 v t)

/-- The frame on player 4's channel is abandoned. -/
def linkDrop (s : State) : State :=
  match s.linkChan with
  | none => s
  | some c => cvuDrop c s

/-- The bytes of a received frame that its CRC covers. -/
def linkBody (l : List Byte) : List Byte := l.take (l.length - 3)
/-- The CRC at the end of a received frame. -/
def linkCrc (l : List Byte) : Nat := checkValue 6 (l.drop (l.length - 3))

/-- Whether the CRC-24 of received bytes matches (R367): what player 4's channel found in the state `t` after it has run them, or the
comparison itself while it runs none. -/
def State.linkGood (s t : State) (l : List Byte) : Bool :=
  match if s.linkRuns then s.linkChan else none with
  | some c => t.rb (Reg.cvuCStatus c) 1
  | none => crc24 (linkBody l) == linkCrc l

/-- A frame with its CRC-24 appended. -/
def withCrc (l : List Byte) : List Byte := l ++ checkBytes 6 (crc24 l)

/-! ## Results (R382, R383) -/

/-- What an exchange or a frame came to. -/
structure LinkOut where
  status : Nat
  outcome : Nat := 1
  rcmd : Nat := 0
  rxLen : Nat := 0
  delay : Nat := 0xffffffff
  tagStatus : Nat := 0
  rate : Nat := 0
  level : Word := 0
  fcnt : Nat := 0
  crc : Nat := 0
  stored : List Byte := []
  ts : Nat := 0
  codes : List Nat := []
  deriving DecidableEq, Repr

/-- The payload of R382. -/
def linkWords (o : LinkOut) (attempts retries hf : Nat) : List Word :=
  [wd (o.status % 16 * 2 ^ 28 + o.outcome % 16 * 2 ^ 24 + o.rcmd % 256 * 2 ^ 16 + min 0xffff o.rxLen), wd o.delay,
    wd (o.tagStatus % 256 * 2 ^ 24 + attempts % 16 * 2 ^ 20 + o.rate % 16 * 2 ^ 16 + o.stored.length % 65536), o.level,
    wd (o.fcnt % 2 ^ 24 * 256 + retries % 256), wd (o.crc % 2 ^ 24 * 256 + hf % 256)] ++ bytesWords o.stored

/-- The precedence of R383. -/
def linkPrecedence : List Nat :=
  [Err.thermal, Err.fieldLost, Err.modeAbort, Err.resourceBusy, Err.detuned, Err.secureDenied, Err.ownerDenied, Err.late,
    Err.txMissed, Err.overrun, Err.captured, Err.falseSync, Err.truncated, Err.crcFail, Err.authLocked,
    Err.collisionUnresolved, Err.swapRejected, Err.guardViolation, Err.budgetLimit]

/-- The code that a window's OUTCOME gives (R353). -/
def outcomeErr (code : Nat) : Nat :=
  match code with
  | 4 => Err.modeAbort
  | 3 => Err.overrun
  | 2 => Err.falseSync
  | _ => Err.none

/-- The code that a LINK_STATUS gives (R383). -/
def linkErr (o : LinkOut) : Nat :=
  match o.status with
  | 2 => outcomeErr o.outcome
  | 3 => Err.crcFail
  | 6 => if o.tagStatus = 3 then Err.authLocked else Err.none
  | 7 => Err.truncated
  | _ => Err.none

/-- The class of an RB or XB result (R487): a lock failure or loss is RADIO, a refused transmission AERIAL. -/
def linkClass (x : LinkEx) (err : Nat) : Option Nat :=
  if err = Err.modeAbort ∧ x.radioFault then some 8
  else if err = Err.detuned ∧ x.hfErr ≠ Err.detuned then some 2
  else if err = Err.truncated then some 7
  else errClass err

/-- The result item of exchange `x`. -/
def State.linkItem (s : State) (x : LinkEx) (o : LinkOut) (err : Nat) : Item :=
  { answer x.item x.item.handle err (s.placeFlag x.slot) o.ts
      (linkWords o (s.attempts x.slot ((namedPw x.item).getD 1)) (if o.status = 0xa then x.round + (!x.again).toNat else x.retries) x.hfStatus) with
    page := Page.rbDem, cls := linkClass x err }

/-- Password bytes leave the frame pool before their blocks are released (R377). -/
def wipe (i : Item) (k : Nat) (s : State) : State :=
  if (namedPw i).isSome then poolStore k (List.replicate (s.frameMax k * 512) 0) s else s

/-- No window awaits a reply any longer. -/
def windowsIdle : State → State :=
  modRx (fun x => { x with win := x.win.map (fun w => { w with forEx := false }), old := x.old.map (fun w => { w with forEx := false }) })

/-- What ends exchange `x`: a discovery ends with DONE and its tags, whatever ended it (R382). -/
def LinkEx.ending (x : LinkEx) (o : LinkOut) : LinkOut :=
  if linkCmd x.item = Cmd.wake ∧ o.status ≠ 8 then { o with status := 0xa, rxLen := x.reported.length } else o

/-- A reset ends the exchange in flight and drops the commands that wait: the password bytes of all of them leave the frame pool (R377). The blocks
of a slot are those of the results that wait, of the exchange in flight, and of the commands that wait, in this order. -/
def wipeAll (s : State) : State :=
  let clear := fun (k n : Nat) (i : Item) (u : State) =>
    let b := ((tabGet [] s.sess.blocks k).drop (s.frameMax k * n)).take (s.frameMax k)
    sif (namedPw i).isSome (forEach b (fun x => setBytes (poolBase + 512 * x) (List.replicate 512 0))) u
  let waiting := s.sess.pend.flatMap (fun p => if s.sessKind p.1 = 0 then [] else
    (List.range p.2.length).filterMap (fun j => p.2[j]?.map (fun i =>
      (p.1, s.heldFor p.1 + (if s.link.ex.any (fun x => x.slot == p.1) then 1 else 0) + j, i))))
  let flying := (s.link.ex.map (fun x => (x.slot, s.heldFor x.slot, x.item))).toList
  (flying ++ waiting).foldl (fun u e => clear e.1 e.2.1 e.2.2 u) s

/-- The exchange in flight is over: its result is posted once (R384). -/
def closeLink (x : LinkEx) (o0 : LinkOut) (s : State) : State :=
  let met := addCode (linkErr o0) (x.errs ++ o0.codes)
  let err := firstErr linkPrecedence met
  let o := x.ending o0
  let t := windowsIdle <| faultsMet Page.rbDem (linkClass x) (met.erase err) (modLink (fun l => { l with ex := none, ended := s.now }) s)
  frameDone x.slot (sif (o.status == 1) (incCtx16 x.slot 0xba) (postResult (s.linkItem x o err) 4 x.slot (wipe x.item x.slot t)))

/-- Whether an exchange that came to `o` is sent again (R384): one that missed its tick too, but none that was refused before air. -/
def State.resends (s : State) (x : LinkEx) (o : LinkOut) : Bool :=
  (o.status == 1 || o.status == 2 || o.status == 3) && (x.sent || x.errs.contains Err.txMissed || (x.xb && x.hfStatus == 9)) &&
    linkCmd x.item != Cmd.wake && !linkNoReply x.item && decide (x.retries < s.ctx x.slot 0x89 % 16)

/-- The exchange in flight has come to `o`: its result, or another attempt as a new section (R384). -/
def finishLink (o : LinkOut) (s : State) : State :=
  match s.link.ex with
  | none => s
  | some x =>
    if s.resends x o then
      if s.txFcnt x.slot = 0xffffff ∧ linkCmd x.item ≠ Cmd.counterReset then
        closeLink { x with errs := addErr Err.modeAbort x.errs } o s
      else
        windowsIdle (incCtx16 x.slot 0xbe (modEx (fun x => { x with
          retries := x.retries + 1, again := true, errs := [], radioFault := false, sent := false, hfDone := false, ref := none
          hfStatus := 0, hfErr := 0 }) (faultsMet Page.rbDem (linkClass x) (addCode (linkErr o) (x.errs ++ o.codes)) s)))
    else closeLink x o s

/-- The exchange ends at tick `t` without a packet: HF_FAILED when its HF half failed (R387), RX_FAILED or NO_REPLY by the
window's OUTCOME. -/
def noPacket (outcome t : Nat) (s : State) : State :=
  match s.link.ex with
  | none => s
  | some x =>
    if x.xb ∧ x.hfDone ∧ x.hfStatus ≠ 9 then
      finishLink { status := 9, outcome := outcome, ts := t, codes := addCode x.hfErr [] } s
    else finishLink { status := if 2 ≤ outcome then 2 else 1, outcome := outcome, ts := t } s

/-- The exchange in flight takes code `e` and ends at tick `t` (R327, R328): a lock failure or loss is its cause. -/
def linkFault (e t : Nat) (s : State) : State :=
  match s.link.ex with
  | none => s
  | some _ =>
    noPacket 1 t (modEx (fun x => { x with errs := addErr e x.errs, radioFault := true }) s)

/-! ## Accepting a frame (R369–R373, R377) -/

/-- A frame as the decoder gives it: its bytes, RATE, FLAG and start tick, its window's OUTCOME flag CAPTURED, whether its CRC
matches, as the channel found (R367), and its window's OUTCOME code. -/
structure LinkRx where
  bytes : List Byte
  rate : Nat
  flag : Bool
  start : Nat
  captured : Bool
  good : Bool
  outcome : Nat
  deriving DecidableEq, Repr

/-- Byte `j` of a frame. -/
def LinkRx.at_ (f : LinkRx) (j : Nat) : Nat := (f.bytes.getD j 0).toNat
/-- TAG_ID of a frame. -/
def LinkRx.tag (f : LinkRx) : Nat := f.at_ 1 + 256 * f.at_ 2 + 65536 * f.at_ 3 + 16777216 * f.at_ 4
/-- PANEL_ID of a frame. -/
def LinkRx.panel (f : LinkRx) : Nat := f.at_ 5 + 256 * f.at_ 6
/-- FCNT of a frame. -/
def LinkRx.fcnt (f : LinkRx) : Nat := f.at_ 7 + 256 * f.at_ 8 + 65536 * f.at_ 9
/-- The bytes that a frame's CRC covers. -/
def LinkRx.body (f : LinkRx) : List Byte := linkBody f.bytes
/-- The CRC received. -/
def LinkRx.crc (f : LinkRx) : Nat := linkCrc f.bytes
/-- Check 1 of R370. -/
def LinkRx.sound (f : LinkRx) : Bool :=
  decide (14 ≤ f.bytes.length) && f.good && f.at_ 0 % 8 == 1 && decide (128 ≤ f.at_ 0)
/-- Check 2 of R370. -/
def LinkRx.known (f : LinkRx) : Bool := tagCmd (f.at_ 10)

/-- Checks 3 and 4 of R370 against slot `k`. -/
def State.forUs (s : State) (f : LinkRx) (k : Nat) : Bool :=
  (s.panelId k == 0xffff || f.panel == s.panelId k) && (s.isBroadcast k || f.tag == s.tagId k)

/-- LINK_STATUS of a frame of slot `k`, or of no session (R370). -/
def State.linkStatus (s : State) (f : LinkRx) (k : Option Nat) : Nat :=
  if !f.sound || !f.known then 3
  else
    match k with
    | none => 0
    | some k =>
      if !s.forUs f k then 5
      else if !s.isBroadcast k && decide (f.fcnt ≤ s.rxFcnt k) then 4
      else 0

/-- What a frame with LINK_STATUS `st` comes to (R369, R382): TAG_STATUS and TRUNCATED among them. -/
def State.linkOut (s : State) (f : LinkRx) (k : Option Nat) (st delay : Nat) : LinkOut :=
  let cap := match k with
    | none => 2048
    | some k => s.frameMax k * 512
  let long := decide (cap < f.body.length) && (st == 0 || st == 3)
  let tagSt := if f.at_ 10 = Cmd.status ∧ st ≠ 3 then f.at_ 11 else 0
  let st' := if st = 0 ∧ tagSt ≠ 0 then 6 else if st = 0 ∧ long then 7 else st
  { status := st', outcome := f.outcome, rcmd := f.at_ 10, rxLen := f.bytes.length - 3, delay := delay, tagStatus := tagSt
    rate := f.rate, level := s.reg Reg.rbRxLevel, fcnt := f.fcnt, crc := f.crc
    stored := if st = 0 ∨ st = 3 then f.body.take cap else [], ts := f.start
    codes := (if long then [Err.truncated] else []) ++ (if f.captured then [Err.captured] else []) }

/-- An accepted ANNOUNCE (R372, R374, R377): the counters of every session of that tag and panel, and the attempts and the state of every
session of the tag that takes the frame. -/
def announced (f : LinkRx) (s : State) : State :=
  let last := f.at_ 13 + 256 * f.at_ 14 + 65536 * f.at_ 15
  forEach (s.linkSlots.filter (fun k => s.tagId k == f.tag && s.forUs f k)) (fun k t =>
    setAttempts k 1 (f.at_ 18 % 16) (setAttempts k 0 (f.at_ 18 / 16) (setCtx k 0x8a (t.ctx k 0x8a / 16 * 16 + 1)
      (sif (t.panelId k == f.panel) (setTxFcnt k (max (t.txFcnt k) (last + 1))) t)))) s

/-- TAG_STATE and AUTH that a reply to command `cmd` implies (R374): a DATA, or a STATUS code. -/
def tagStateAfter (cmd rcmd code old : Nat) : Nat :=
  let st := old % 4
  if rcmd = Cmd.status ∧ code = 1 then 1
  else if rcmd = Cmd.status ∧ code = 0 ∧ cmd = Cmd.auth then 2 + 4
  else if rcmd = Cmd.status ∧ code = 0 ∧ cmd = Cmd.halt then 3
  else if rcmd = Cmd.status ∧ code = 0 ∧ (cmd = Cmd.write ∨ cmd = Cmd.setPassword ∨ cmd = Cmd.counterReset) then
    2 + old / 4 % 2 * 4
  else if st = 2 then old % 8
  else 1

/-- An accepted frame of slot `k` updates the session (R371–R373, R377): `cmd` is the command it answers. -/
def linkAccept (f : LinkRx) (k : Nat) (cmd : Option Item) (s : State) : State :=
  let code := f.at_ 11
  let a := if s.isBroadcast k then s else setRxFcnt k f.fcnt s
  match cmd with
  | none => a
  | some i =>
    if f.at_ 10 ≠ Cmd.status ∧ f.at_ 10 ≠ 0x84 then a
    else
      let b := setCtx k 0x8a (a.ctx k 0x8a / 16 * 16 + tagStateAfter (linkCmd i) (f.at_ 10) code (a.ctx k 0x8a % 16)) a
      if f.at_ 10 ≠ Cmd.status then b
      else
        let c := match namedPw i with
          | some pw => if f.at_ 12 = 0xff then b else setAttempts k pw (f.at_ 12 % 16) b
          | none => b
        let d := if code = 3 then recErr Page.rbDem Err.authLocked ((namedPw i).getD 0) 0 c else c
        if linkCmd i = Cmd.counterReset ∧ code = 0 then setRxFcnt k 0 (setTxFcnt k 1 d) else d

/-! ## Frames that answer nothing (R379, R380) -/

/-- The session that a frame outside exchanges belongs to (R379): the lowest slot whose TAG_ID matches. -/
def State.frameSlot (s : State) (f : LinkRx) : Option Nat :=
  if f.bytes.length < 5 then none else s.linkSlots.find? (fun k => s.tagId k == f.tag)

/-- Whether a frame is a repeat of the last EVENT of slot `k` (R379). -/
def State.isRepeat (s : State) (f : LinkRx) (k : Nat) : Bool :=
  f.sound && f.at_ 10 == Cmd.event && s.forUs f k && !s.isBroadcast k && f.fcnt == s.rxFcnt k

/-- What an ACK step answers after a frame of slot `k` (R380): an EVENT with ACK_REQ, accepted or a repeat. -/
def State.ackFor (s : State) (f : LinkRx) (k : Option Nat) : Option (Nat × Nat) :=
  match k with
  | none => none
  | some k =>
    if f.at_ 10 = Cmd.event ∧ f.at_ 0 / 64 % 2 = 1 ∧ (s.linkStatus f (some k) = 0 ∨ s.isRepeat f k) then some (k, f.fcnt)
    else none

/-- The unsolicited result of a frame (R379). -/
def postFrame (f : LinkRx) (k : Option Nat) (o : LinkOut) (s : State) : State :=
  let err := firstErr linkPrecedence (addCode (linkErr o) o.codes)
  let h := (k.map s.sessHandle).getD 0
  postUnsolicited ⟨0x09, if f.at_ 10 = Cmd.event then 2 else 0, 0, h, err, s.placeOf h, f.start,
    linkWords o ((k.map (fun k => s.attempts k 1)).getD 0xf) 0 0, s.now, Page.rbDem,
    if err = Err.truncated then some 7 else errClass err⟩ 4 0 s

/-- A frame received outside every exchange (R379): a repeated EVENT is only counted. -/
def unsolicited (f : LinkRx) (s : State) : State :=
  let k := s.frameSlot f
  let t := match k with
    | none => s
    | some k => incCtx32 k 0xb4 s
  if (k.map (fun k => s.isRepeat f k)) = some true then incCtx16 (k.getD 0) 0xbe t
  else
    let st := s.linkStatus f k
    let u := match k with
      | some k => if st = 0 then linkAccept f k none t else t
      | none => t
    let v := if st = 0 ∧ f.at_ 10 = Cmd.announce then announced f u else u
    postFrame f k (s.linkOut f k st 0xffffffff) v

/-! ## Replies and slots -/

/-- DELAY of a reply (R382, R386): from the reference tick of a cross-band exchange; an exchange of the return band alone has no
reference tick, and its DELAY is free (log entry 40). -/
def State.replyDelay (s : State) (x : LinkEx) (start : Nat) : Nat :=
  match x.ref with
  | some r => unsigned 32 ((start : Int) - (r : Int))
  | none => s.freeVal % 2 ^ 32

/-- The reply of the exchange in flight (R370, R382); after an HF half that failed the result is HF_FAILED (R387). -/
def linkReply (x : LinkEx) (f : LinkRx) (s : State) : State :=
  let k := x.slot
  let st := s.linkStatus f (some k)
  let d := s.replyDelay x f.start
  let o := s.linkOut f (some k) st d
  let t := incCtx32 k 0xb4 (poolStore k o.stored (if x.ref.isSome then s else nextFree s))
  let u := if st = 0 then setCtx32 k 0x94 d (linkAccept f k (some x.item) t) else t
  let failed := x.xb && x.hfDone && x.hfStatus != 9
  finishLink (if failed then { o with status := 9, codes := addCode x.hfErr o.codes } else o) (if st = 0 ∧ f.at_ 10 = Cmd.announce then announced f u else u)

/-- Whether a discovery slot with this OUTCOME and frame counts as collided (R378). -/
def wakeCollided (outcome : Nat) (captured lost : Bool) : Bool :=
  outcome == 2 || outcome == 3 || (outcome == 0 && captured) || lost

/-- A frame in a slot of a WAKE discovery (R378): each accepted ANNOUNCE of a tag not yet reported posts one result. A frame that
fails check 1 only makes its slot collided. -/
def wakeFrame (x : LinkEx) (f : LinkRx) (s : State) : State :=
  let k := x.slot
  let st := s.linkStatus f (some k)
  if !f.sound then incCtx32 k 0xb4 (fault 7 Page.rbDem Err.crcFail s)
  else if f.at_ 10 ≠ Cmd.announce then unsolicited f s
  else if st ≠ 0 then incCtx32 k 0xb4 s
  else
    let d := s.freeVal % 2 ^ 32
    let t := setCtx32 k 0x94 d (announced f (linkAccept f k none (incCtx32 k 0xb4 s)))
    if x.reported.contains f.tag then nextFree t
    else
      let o := s.linkOut f (some k) 0 d
      let err := firstErr linkPrecedence o.codes
      postResult { t.linkItem x o err with cls := if err = Err.truncated then some 7 else errClass err } 4 0
        (modEx (fun x => { x with reported := f.tag :: x.reported }) (nextFree t))

/-- Whether a frame would be the reply of the exchange in flight. -/
def State.isReply (s : State) (f : LinkRx) (mine : Bool) : Bool :=
  match s.link.ex with
  | none => false
  | some x =>
    mine && linkCmd x.item != Cmd.wake && (!x.xb || (f.flag && s.linkStatus f (some x.slot) == 0))

/-- A frame decoded to its end (R379): `mine` is what the window it came in is to the exchange in flight, whose session the reply belongs
to. A cross-band reply has FLAG 1 and passes R370 (R386). -/
def linkIn (f : LinkRx) (mine : Bool) (s : State) : State :=
  let s := modLink (fun l => { l with event := s.ackFor f (if s.isReply f mine then s.link.ex.map LinkEx.slot else s.frameSlot f) }) s
  match s.link.ex with
  | none => unsolicited f s
  | some x =>
    if !mine then unsolicited f s
    else if linkCmd x.item = Cmd.wake then wakeFrame x f s
    else if x.xb ∧ (f.flag = false ∨ s.linkStatus f (some x.slot) ≠ 0) then unsolicited f s
    else linkReply x f s

/-! ## The end of a section (R378, R384) -/

/-- The least number of rounds of a discovery (R378). -/
def wakeRounds (k : Nat) : Nat := if k = 0 then 1 else (32 + k - 1) / k

/-- A round of a WAKE discovery is over (R378): the discovery ends, at its limit with COLLISION_UNRESOLVED, or another round
is to follow, with K 1 after a collision at K 0. -/
def wakeRoundEnd (x : LinkEx) (s : State) : State :=
  let run := x.round + 1
  let done : LinkOut := { status := 0xa, outcome := s.rf Reg.rbDemOutcome 3 0, rxLen := x.reported.length, ts := s.now }
  if wakeRounds (linkK x.item) ≤ run ∧ x.collided = 0 then closeLink x done s
  else if max 1 (min 40 (s.rf Reg.sessDiscCfg 7 0)) ≤ run then
    closeLink x { done with codes := [Err.collisionUnresolved] }
      (recErr Page.rbDem Err.collisionUnresolved x.collided 0 s)
  else
    modEx (fun x => { x with
      round := run, again := true, sent := false, k := if x.k = 0 ∧ x.collided ≠ 0 then 1 else x.k, collided := 0
      slotNo := 0 }) s

/-- Whether player `k` still has something to send or to receive: it plays, or its consumers hold a TX, RXWIN, RBWIN or RBTX
step. -/
def State.stepsLeft (s : State) (k : Nat) : Bool :=
  s.playing k || decide (k < 4 ∧ (s.eng k).waits ≠ []) || (s.player k).flight.any (fun i => i.op == 3 || i.op == 4 || i.op == 6 || i.op == 7)

/-- Whether the exchange in flight still has something to come: a step, its frame on air, or a window that waits. -/
def State.linkPending (s : State) (x : LinkEx) : Bool :=
  s.rx.win.any RbWindow.forEx || s.rx.old.any RbWindow.forEx || s.radio.tx.any RadioTx.own || ((!x.xb || x.section4 != 0) && s.stepsLeft 4) ||
    (x.xb && (!x.hfDone || s.stepsLeft (s.sessEngine x.slot)))

/-- With nothing to come for the exchange in flight, its round or the exchange is over. -/
def linkSettle (s : State) : State :=
  match s.link.ex with
  | none => s
  | some x =>
    if x.again || s.linkPending x then s
    else if linkCmd x.item = Cmd.wake then wakeRoundEnd x s
    else if x.xb ∧ linkNoReply x.item ∧ x.hfStatus = 9 then closeLink x { status := 8, ts := x.ref.getD s.now } s
    else noPacket 1 s.now s

/-! ## Dispatch (R367, R373, R381, R388) -/

/-- Whether a page of the return band is down or disabled, so that its commands are refused (R135, R156). -/
def State.radioShut (s : State) : Bool := (List.range 6).any (fun j => !s.pageUp (0x1f + j) || !s.rb (Reg.ctrl (0x1f + j)) 0)

/-- Whether the preset of an XB session suits its HF frame (R259, R398), which the CRC-8 of R251 protects (R385): preset 0xF does with its
parameters. -/
def State.xbPresetOk (s : State) (k : Nat) : Bool :=
  s.ctx k 0x40 % 16 == 5 || (s.ctx k 0x40 % 16 == 0xf && some (s.framePar (some k) 0xf) == preset 5)

/-- The checks on an RB or XB exchange at dispatch: TX_RATE is checked where the exchange uses it (R388). -/
def linkCheck (xb : Bool) (i : Item) (k : Nat) (s : State) : Option (Nat × Nat × Nat) :=
  let n := linkLen i
  let cmd := linkCmd i
  let top := min (s.frameMax k * 512) (if xb then 53 else 4081)
  if s.sessKind k ≠ (if xb then 2 else 1) then some (Err.modeAbort, openDetail, openDetail)
  else if s.radioShut then some (Err.modeAbort, openDetail, openDetail)
  else if s.linkChan = none then some (Err.resourceBusy, 0xc000, noIndex)
  else if !deviceCmd cmd then some (Err.modeAbort, openDetail, openDetail)
  else if xb ∧ (s.feStd (s.sessEngine k) ≠ 5 ∨ s.rb (Reg.ctrl (Page.fe (s.sessEngine k))) 0 = false ∨ s.isBroadcast k ∨ s.xbPresetOk k = false) then
    some (Err.modeAbort, openDetail, openDetail)
  else if (cmd = Cmd.wake) ≠ (s.isBroadcast k = true) then some (Err.modeAbort, openDetail, openDetail)
  else if top < n then some (Err.truncated, n, top)
  else if i.len < 6 + (n + 3) / 4 then some (Err.truncated, n, i.len)
  else if (!xb ∧ cmd ≠ Cmd.wake ∧ 5 < s.lkTxRate k) ∨ 5 < s.lkReplyRate k then some (Err.modeAbort, openDetail, openDetail)
  else if cmd = Cmd.wake ∧ (linkTrain i = 0 ∨ 4 < linkK i) then some (Err.modeAbort, openDetail, openDetail)
  else if s.txFcnt k = 0xffffff ∧ cmd ≠ Cmd.counterReset then some (Err.modeAbort, openDetail, openDetail)
  else none

/-- RB_EXCHANGE (R381). -/
def execRbExchange (s : State) : Host.Outcome State Fault Refusal :=
  .next (dispatchExchange 0x09 (linkCheck false) (fun _ _ => id) linkPayload s)

/-- XB_EXCHANGE (R381). -/
def execXbExchange (s : State) : Host.Outcome State Fault Refusal :=
  .next (dispatchExchange 0x0a (linkCheck true) (fun _ _ => id) linkPayload s)

end Sys2Proof.Machine
end

