-- ==== Sys2Proof/Machine/Hf.lean ====
section
/-! DEFINITION. A field engine's frames (10_hf_air_interfaces, R243–R264): guard times and floors, check values on a channel,
frames and their reference ticks, the reception of a reply, its localisation (R237–R239), and the end of an exchange. -/

namespace Sys2Proof.Machine

/-! ## Guard times and floors (R252, R253) -/

/-- The guard floor of a standard, in cc. -/
def guardFloor (std : Nat) : Nat :=
  match std with
  | 1 | 2 | 4 => 69156
  | 3 => 13560
  | 5 => 6780
  | _ => 0

/-- The turnaround floor of a standard at a rate, in cc. -/
def turnFloor (std rate : Nat) : Nat :=
  if std = 0 then 0
  else if std = 2 ∨ (std = 4 ∧ rate ≠ 0) then 1280
  else if std = 3 then 4192
  else 1172

/-- The tick at which the guard time of FEn ends. -/
def State.guardEnd (s : State) (n : Nat) : Option Nat :=
  (s.eng n).guardFrom.map (fun t => t + 8 * max (s.rf (Reg.feGuard n) 23 0) (guardFloor (s.feStd n)))

/-- The tick at which the guard time ends that FEn's next frame keeps: a coil that joined since does not move an exchange in
flight. -/
def State.frameGuard (s : State) (n : Nat) : Option Nat :=
  match (s.eng n).exch.bind Exch.guard with
  | some t => some (t + 8 * max (s.rf (Reg.feGuard n) 23 0) (guardFloor (s.feStd n)))
  | none => s.guardEnd n

/-- The guard time counts from a coil's field-on at tick `t` (log entry 33). -/
def guardCount (n t : Nat) (s : State) : State :=
  setRb (Reg.feFieldStatus n) 31 false (modEng n (fun e => { e with
    guardFrom := some t, exch := e.exch.map (fun x => { x with guard := if x.guard.isSome then x.guard else e.guardFrom }) }) s)

/-- The field of FEn is off: no guard time runs, and none that an exchange in flight kept. -/
def guardClear (n : Nat) (s : State) : State :=
  setRb (Reg.feFieldStatus n) 31 false (modEng n (fun e => { e with
    guardFrom := none, exch := e.exch.map (fun x => { x with guard := none }) }) s)

/-- The tick at which the turnaround floor of FEn ends; the engine's own frame counts to its reference tick (log entry 148). After an answer to select SFGT counts, by SFGI of the session that received it. -/
def State.turnEnd (s : State) (n rate : Nat) : Nat :=
  let e := s.eng n
  let fl := fun o : Option Nat => (o.map (fun t => t + 8 * turnFloor (s.feStd n) rate)).getD 0
  let sf := match e.atsEnd with
    | some (t, k) =>
      let g := s.ctx k 0x0b / 16
      if 1 ≤ g ∧ g ≤ 14 then t + 8 * (4096 * 2 ^ g) else 0
    | none => 0
  max (max (fl e.lastTx) (fl e.lastRx)) (max (fl e.air.ref) sf)

/-! ## Frames (R247–R251) -/

/-- The 14443-A pause at a rate (R246). -/
def State.pauseCc (s : State) (n rate : Nat) : Nat :=
  let w := s.reg (Reg.fePause n)
  match rate with
  | 0 => fld w 7 0
  | 1 => fld w 15 8
  | 2 => fld w 23 16
  | _ => fld w 31 24

/-- The bytes that a frame's check covers: LEN precedes the payload of 18092 at 212 and 424 kbit/s and of Opkar HF. -/
def covered (std rate : Nat) (f : TxFrame) : List Byte :=
  if std = 5 then BitVec.ofNat 8 f.data.length :: f.data
  else if std = 4 ∧ rate ≠ 0 then BitVec.ofNat 8 (f.data.length + 1) :: f.data
  else f.data

/-- What comes before the covered bytes: the preamble and sync bytes of 18092 (R250). -/
def preamble (std rate : Nat) : List Byte := if std = 4 ∧ rate ≠ 0 then [0, 0, 0, 0, 0, 0, 0xb2, 0x4d] else []

/-- A measurement that the envelope of a frame starting at tick `st` would cut is abandoned (R207). -/
def envelopeCuts (n st : Nat) (s : State) : State :=
  forEach ((List.range 12).filter (fun c => s.driver c == some n)) (fun c t =>
    sif ((s.coil c).mmDue.any (fun m => decide (st < m))) (mmAbandon c) t) s

/-- After a frame of FEn its coils stand at TX_ENV.CARRIER (R246). -/
def envelopeEnd (n : Nat) (s : State) : State :=
  let e := s.rf (Reg.feTxEnv n) 5 0
  govern (forEach ((List.range 12).filter (fun c => s.driver c == some n)) (fun c t =>
    setRf (Reg.coilDriveStatus c) 13 8 (t.actEntry c e) (modCoil c (fun x => { x with entryWanted := e }) t)) s)

/-- Whether a frame carries its check whatever TX_CRC says (R250, R251). -/
def alwaysChecked (std rate : Nat) : Bool := std == 5 || (std == 4 && rate != 0)

/-- Sends a frame whose step acts at tick `t` (R252, R253): moved by D when a floor asks for it, its check appended, and its
first modulated carrier cycle published (R265). Every frame but an EOF runs on the channel (R397), its whole bytes (log entry 133). `slot` is the session, `none` in a discovery; `floor` is the end of an exchange that was moved past `t`, and
`waited` the tick until which the frame waited for its check-value channel (R260; log entry 89). -/
def sendFrame (n : Nat) (f : TxFrame) (slot : Option Nat) (rate floor waited t : Nat) (s : State) : State :=
  let std := s.feStd n
  let need := max floor (max ((if s.engOn n then s.frameGuard n else none).getD 0) (s.turnEnd n rate))
  let d := (max need waited - t + 7) / 8
  let u := sif (decide (t < need)) (fun v => engErr n Err.guardViolation (addRf (Reg.feGuardCnt n) 31 16 1 (irq (Page.fe n) 4
    (recErr (Page.fe n) Err.guardViolation (t % 2 ^ 32) (min 0xffff ((need - t + 7) / 8)) v)))) s
  let pr := match slot with
    | none => presetFor std rate
    | some k => s.ctx k 0x40 % 16
  let body := covered std rate f
  let crc := (f.txCrc || alwaysChecked std rate) && !f.eof
  let l := preamble std rate ++ body ++ (if crc then airCheck pr (s.framePar slot pr) (s.frameCheck slot pr body) else [])
  let st := t + 8 * d
  let wave : Wave := ⟨std, rate, s.pauseCc n rate, if f.bits && !f.txCrc then f.last else 0, f.eof, l⟩
  let ref := st + 8 * wave.refCc
  let whole := if f.bits && !f.txCrc && f.last % 8 != 0 then body.dropLast else body
  let fed := whole.zipIdx.map (fun b => (st + 8 * wave.byteEnd ((preamble std rate).length + b.2) + 2, b.1))
  let v := modAir n (fun _ => { delay := d, start := st, frame := f, wave := wave, ref := some ref }) (linkShift n t (8 * d)
    (envelopeCuts n st (sif (!f.eof) (engSends n st slot pr fed) u)))
  govern (feEvent n 0 (st + 8 * wave.firstMod) (fePhase n 2 v))

/-! ## Results (R262, R263, R489) -/

/-- The precedence of R263. -/
def hfPrecedence : List Nat :=
  [Err.thermal, Err.fieldLost, Err.modeAbort, Err.resourceBusy, Err.detuned, Err.secureDenied, Err.ownerDenied, Err.late,
    Err.overrun, Err.truncated, Err.crcFail, Err.swapRejected, Err.guardViolation, Err.budgetLimit]

/-- The code that an RX_STATUS maps to (R263). -/
def statusErr (st : Nat) : Nat :=
  match st with
  | 2 => Err.overrun
  | 3 => Err.crcFail
  | 4 => Err.truncated
  | 6 => Err.crcFail
  | 7 => Err.modeAbort
  | 8 => Err.truncated
  | _ => Err.none

/-- The code that an exchange's RX_STATUS adds to those it met: ABORTED adds none to the cause that stopped the field, which
R469 has the result carry. -/
def endErr (st : Nat) (errs : List Nat) : Nat :=
  if st = 7 ∧ (errs.contains Err.thermal ∨ errs.contains Err.fieldLost ∨ errs.contains Err.detuned) then Err.none else statusErr st

/-- Whether the check of a frame received is good: what its channel found, in the state `t` after the frame's end there, or `pure`
when no channel runs the frame. -/
def State.checkGood (s : State) (n : Nat) (t : State) (pure : Bool) : Bool :=
  match (s.eng n).check with
  | some k => if s.rb (Reg.cvuCStatus k.chan) 0 then t.rb (Reg.cvuCStatus k.chan) 1 else pure
  | none => pure

/-- What a reception gave: RX_STATUS, RX_LAST_BITS, COLL_POS, RX_LEN, FDT, LEVEL, CHECK, the bytes stored, the timestamp,
the codes that the reception adds, and the tick of the end when no reception and no window of its own gives it. -/
structure RxOut where
  status : Nat
  lastBits : Nat := 0
  collPos : Nat := 0
  len : Nat := 0
  fdt : Nat := 0xffffffff
  level : Nat := 0
  check : Nat := 0
  stored : List Byte := []
  ts : Nat := 0
  codes : List Nat := []
  endsAt : Option Nat := none
  deriving DecidableEq, Repr

/-- The payload of an HF_EXCHANGE result (R262). -/
def rxPayload (o : RxOut) (retries : Nat) : List Word :=
  [wd (o.status * 2 ^ 28 + o.lastBits % 16 * 2 ^ 24 + min 255 o.collPos * 2 ^ 16 + min 0xffff o.len), wd o.fdt,
    wd (retries % 256 * 2 ^ 24 + min 0xffffff o.level), wd (o.stored.length % 65536 * 65536 + o.check % 65536)] ++
    bytesWords o.stored

/-- The class of a code that an exchange met (R487): TRUNCATED there describes a received frame. -/
def frameClass (err : Nat) : Option Nat := if err = Err.truncated then some 7 else errClass err

/-- A result item of a session, with the class that R487 gives a code of a received frame. -/
def sessionResult (c : Item) (page err place ts : Nat) (payload : List Word) : Item :=
  { answer c c.handle err place ts payload with page := page, cls := frameClass err }

/-- Whether FEn is at its boundary for staged values (R243): no exchange in flight, and no command waiting in the pending list of a
session placed on it. -/
def State.stdFree (s : State) (n : Nat) : Bool :=
  (s.eng n).exch.isNone && (s.eng n).disc.isNone &&
    !((List.range 256).any (fun k => k != 0 && decide (2 ≤ s.sessState k) && s.sessEngine k == n && s.pendOf k != []))

/-- A STAGE_CTRL.APPLY of FEn that waits is carried out at the boundary (R145, R243). -/
def stdSettle (n : Nat) (s : State) : State :=
  if (s.eng n).applyWait && s.stdFree n then
    stageReport (Page.fe n) (stagePlain (Page.fe n) (fun _ => true) (modEng n (fun e => { e with applyWait := false })
      (dropStaged (Page.fe n) s)))
  else s

/-- A frame whose first modulated carrier cycle has not come when its exchange ends publishes no TX_START. -/
def noStart (n : Nat) (s : State) : State :=
  let st := (s.eng n).air.modStart
  if s.now < st then modFab (fun f => { f with waiting := f.waiting.filter (fun e => e.prod != 0x70 + 8 * n || e.tick != st) }) s
  else s

/-- The engine is idle again: a frame cut short is abandoned on its check-value channel, and its coils stand unmodulated. Steps that wait
for a moved exchange are kept, with its end (R253). -/
def engIdle (n err : Nat) (s : State) : State :=
  let u := sif (s.onAir n) (envelopeEnd n) (setReg (Reg.feExchStatus n) (wd err)
    (modEng n (fun e => { e with
      exch := none, ended := s.now, air := {}, heard := none
      floor := if 0 < e.air.delay ∧ e.waits ≠ [] then max e.floor (ccAt s.now) else e.floor }) (engDrop n (noStart n s))))
  stdSettle n u

/-- The HF half of a cross-band exchange ends (R385, R387): the link layer takes its status, codes and reference tick, and with nothing
more to come the exchange is over. -/
def halfDone (status err ts : Nat) (errs : List Nat) (s : State) : State :=
  linkSettle (modEx (fun x => { x with
    hfDone := true, hfStatus := status, hfErr := err, errs := errs.foldl (fun l e => addErr e l) x.errs
    ref := if status = 9 then some ts else none }) s)

/-- RX_ERR at the end of an exchange whose RX_STATUS is not OK, on the tick of RX_END or of the window close (R265); an Opkar HF frame,
which has neither, gives none (log entry 90). -/
def exchErr (n : Nat) (o : RxOut) (s : State) : State :=
  sif (o.status != 0 && o.status != 9) (fun t => feEvent n 4 (o.endsAt.getD ((t.eng n).rxEnd.getD t.now)) (irq (Page.fe n) 2 t)) s

/-- LAST_FDT takes an FDT. -/
def setFdt (n fdt : Nat) : State → State := setReg (Reg.feLastFdt n) (wd fdt)

/-- BLOCK_NR of the protocol area after an exchange (R264): an L4 exchange leaves its block number. -/
def saveBlockNr (x : Exch) (s : State) : State :=
  sif x.isL4 (setCtx x.slot 0x0e (s.ctx x.slot 0x0e / 2 * 2 + x.l4.nr)) s

/-- The exchange of FEn ends with what was received (R262, R263), and LAST_FDT is its FDT (R265). -/
def finishExch (n : Nat) (o : RxOut) (s : State) : State :=
  match (s.eng n).exch with
  | none => s
  | some x =>
    let met := addCode (endErr o.status (x.errs ++ o.codes)) (x.errs ++ o.codes)
    let err := firstErr hfPrecedence met
    let t := engIdle n err <| faultsMet (Page.fe n) frameClass (met.erase err) (saveBlockNr x (exchErr n o (setFdt n o.fdt s)))
    if x.xb then halfDone o.status err o.ts x.errs t
    else
      frameDone x.slot (sif (o.status == 1) (incCtx16 x.slot 0xba) (postResult
        (sessionResult x.item (Page.fe n) err (s.placeFlag x.slot) o.ts (rxPayload o x.retries)) n x.slot t))

/-! ## Localisation (R237–R239) -/

/-- The coils whose outputs FEn uses to localise: populated, held, and not removed from its set (R225, R237). -/
def State.locCoils (s : State) (n : Nat) : List Nat :=
  (List.range 12).filter (fun c => s.usesCoil n c && s.rb Reg.fwgtGeoPop c)

/-- d of an output whose centre lies at `c2` half ticks (R237): the state that the decoder has found last by then; −1, the unmodulated carrier,
before the first. -/
def loadUp (l : List LoadState) (c2 : Nat) : Bool := ((l.reverse.find? (fun x => decide (2 * x.tick ≤ c2))).map LoadState.up).getD false

/-- M_c of coil `c` in a reply whose start of frame and end have these ticks (R237), from the outputs of its chain whose centres lie in it and in
the window of LOC_CFG.WIN. -/
def State.locAmp (s : State) (sof ends c : Nat) (l : List LoadState) : Nat :=
  let top := min ends (sof + 8 * max 1 (s.rf Reg.fwgtLocCfg 31 16))
  let k := (s.coil c).outs.filter (fun o => decide (2 * sof ≤ o.at2 ∧ o.at2 ≤ 2 * top))
  let sum (f : ChainRec → Int) : Int := (k.map (fun o => if loadUp l o.at2 then f o else -(f o))).sum
  let i := sum ChainRec.i
  let q := sum ChainRec.q
  min 0xffffff (openRoot (i * i + q * q).toNat (k.length * k.length))

/-- M_c of every coil in a reply. -/
def State.locAmps (s : State) (sof ends : Nat) (l : List LoadState) : List Nat :=
  (List.range 12).map (fun c => s.locAmp sof ends c l)

/-- A position, or none when it is invalid: X, Y and the number of the matched region. A half is rounded away from zero (log entry 130), and a
sum of 0 is invalid also where LOC_MIN is 0 (log entry 147). -/
def State.position (s : State) (n : Nat) (m : List Nat) : Option (Int × Int × Option Nat) :=
  let l := s.locCoils n
  let w := fun c => (min 0xffffff (m.getD c 0)) - s.rf Reg.fwgtLocFloor 23 0
  let sum := (l.map w).sum
  if sum < s.rf Reg.fwgtLocMin 23 0 ∨ sum = 0 then none
  else
    let v := fun c => if s.rb Reg.fwgtLocCfg 0 then w c * w c else w c
    let tot := (l.map v).sum
    let x := roundHalf ((l.map (fun c => ((v c : Nat) : Int) * s16 (s.rf (Reg.fwgtGeo c) 31 16))).sum) tot
    let y := roundHalf ((l.map (fun c => ((v c : Nat) : Int) * s16 (s.rf (Reg.fwgtGeo c) 15 0))).sum) tot
    some (x, y, s.regionAt x y)

/-- X, Y and REGION as the registers hold them. -/
def State.posFields (s : State) (p : Option (Int × Int × Option Nat)) : Nat × Nat × Nat :=
  match p with
  | none => (0x8000, 0x8000, 0xff)
  | some (x, y, r) => (unsigned 16 x, unsigned 16 y, (r.map (fun r => s.rf (Reg.fwgtRegId r) 7 0)).getD 0xff)

/-- Localises a reply of FEn (R237–R239, R242). -/
def localise (n : Nat) (m : List Nat) (s : State) : State :=
  let l := s.locCoils n
  let f := s.posFields (s.position n m)
  let sum := (l.map (fun c => min 0xffffff (m.getD c 0) - s.rf Reg.fwgtLocFloor 23 0)).sum
  irq Page.fwgt 4 (setReg (Reg.fwgtFeLocInfo n) (wd (f.2.2 * 2 ^ 24 + min 0xffffff sum))
    (setReg (Reg.fwgtFeLocXy n) (wd (f.1 * 65536 + f.2.1))
      (forEach l (fun c => setReg (Reg.fwgtFeLocM n c) (wd (min 0xffffff (m.getD c 0)))) s)))

/-- Writes a position into slot `k`'s context (R239). -/
def setPosition (k : Nat) (f : Nat × Nat × Nat) (s : State) : State :=
  setCtx k 0x3d 0 (setCtx k 0x3c f.2.2 (setCtx16 k 0x3a f.2.1 (setCtx16 k 0x38 f.1 s)))

/-- A reply of a placed session is localised when LOC_EN is set, and the session follows its tag (R277, R284). -/
def localiseReply (n k : Nat) (m : List Nat) (s : State) : State :=
  if s.rb (Reg.fwgtFeCoils n) 31 then
    let p := s.position n m
    followTest k p.isSome (p.bind (fun q => q.2.2)) (setPosition k (s.posFields p) (localise n m s))
  else s

/-! ## Receiving a reply -/

/-- Packs bits into bytes, the first bit in bit 0 of byte 0; the last byte is filled with zeros. -/
def packBits : List Bool → List Byte
  | a :: b :: c :: d :: e :: f :: g :: h :: t =>
    BitVec.ofNat 8 (a.toNat + 2 * b.toNat + 4 * c.toNat + 8 * d.toNat + 16 * e.toNat + 32 * f.toNat + 64 * g.toNat +
      128 * h.toNat) :: packBits t
  | [] => []
  | l => [BitVec.ofNat 8 ((List.range l.length).map (fun i => (l.getD i false).toNat * 2 ^ i)).sum]

/-- Bytes sent most significant bit first, as bits with the least significant bit of each byte first; a last byte cut short is filled
with zeros. -/
def flipBytes : List Bool → List Bool
  | a :: b :: c :: d :: e :: f :: g :: h :: t => h :: g :: f :: e :: d :: c :: b :: a :: flipBytes t
  | [] => []
  | l => List.replicate (8 - l.length) false ++ l.reverse

/-- What the decoder meets in a reply, in the order on air (R262): a parity error, a coding error, or two alternatives of a data bit or of a
parity bit that both carry modulation, of which the weaker and the stronger level are given. -/
inductive HfMark where
  | parity
  | coding
  | halves (weak strong : Nat)
  | parityHalves (weak strong : Nat)
  deriving DecidableEq, Repr

/-- Whether a mark is a collision, by FEN.RX_CFG.COLL_RATIO (R262). -/
def isCollision (ratio : Nat) : HfMark → Bool
  | .halves w st => decide (ratio * st ≤ 256 * w)
  | .parityHalves w st => decide (ratio * st ≤ 256 * w)
  | _ => false

/-- Whether a mark belongs to a parity bit. -/
def markOnParity : HfMark → Bool
  | .parityHalves _ _ => true
  | _ => false

/-- The RX_STATUS of a mark, if it gives one. -/
def markStatus (ratio : Nat) (m : HfMark) : Option Nat :=
  match m with
  | .parity => some 3
  | .coding => some 4
  | m => if isCollision ratio m then some 5 else none

/-- The first of what was found, in the order on air (R262): bit by bit, and within one bit as listed. -/
def firstMark (l : List (Nat × Nat)) : Option (Nat × Nat) :=
  l.foldl (fun o m =>
    match o with
    | none => some m
    | some a => if m.1 < a.1 then some m else o) none

/-- The rate of a tag's replies to FEn (R264): DR of the session, or the rate of the discovery. -/
def State.replyRate (s : State) (n : Nat) : Nat :=
  match (s.eng n).disc, (s.eng n).exch with
  | some d, _ => d.rate
  | none, some x => s.ctx x.slot 9 / 16
  | none, none => 0

/-- The least time that a data bit of a reply takes, in cc (R245). -/
def replyBitCc (std dr : Nat) : Nat :=
  if std = 3 then (if dr.testBit 0 then 508 else 512) * (if dr.testBit 1 then 4 else 1) else bitCc dr

/-- How a tag codes the symbols of a reply (R245): Manchester as on-off keying of a subcarrier, Manchester with two subcarriers, BPSK of a
subcarrier, or Manchester load modulation without one. Subcarriers stand by their periods in cc. -/
inductive ReplyCoding where
  | onOff (sub : Nat)
  | twoTone (sub sub2 : Nat)
  | bpsk (sub : Nat)
  | load
  deriving DecidableEq, Repr

/-- The coding of a tag's replies under a standard at rate `dr` (R245). -/
def replyCoding (std dr : Nat) : ReplyCoding :=
  match std with
  | 1 => if dr = 0 then .onOff 16 else .bpsk 16
  | 2 => .bpsk 16
  | 3 => if dr.testBit 0 then .twoTone 32 28 else .onOff 32
  | _ => if dr = 0 then .onOff 16 else .load

/-- The time over which R254 averages |y − ȳ|, in cc: a half-cycle of the subcarrier, with two subcarriers that of the one that the output
stands in, and without one a half-bit. -/
def halfCycle (std dr : Nat) (low : Bool) : Nat :=
  match replyCoding std dr with
  | .onOff p => p / 2
  | .twoTone p q => (if low then p else q) / 2
  | .bpsk p => p / 2
  | .load => replyBitCc std dr / 2

/-- The levels of the two values that a symbol may have, that of 0 first; none where the coding has no such symbol. Which half is a 1 is that of
the standard named (log entry 119); with BPSK the phase of TR1 or of the start of frame is a 1. -/
def symLevels (std : Nat) (c : ReplyCoding) : HfSym → Option (Nat × Nat)
  | .halves a b =>
    match c with
    | .onOff _ => if std = 3 then some (a, b) else some (b, a)
    | .load => if Config.manchesterLowFirst then some (a, b) else some (b, a)
    | _ => none
  | .tones a b x y =>
    match c with
    | .twoTone _ _ => some (a + y, b + x)
    | _ => none
  | .phase r =>
    match c with
    | .bpsk _ => some (r.toNat, (!r).toNat)
    | _ => none

/-- The characters of a reply (R247–R250): data alone, bytes each with a parity bit, or bytes each between a start and a stop bit. -/
inductive Chars where
  | plain
  | parity
  | framed
  deriving DecidableEq, Repr

/-- The characters of a standard's replies at rate `dr`. -/
def replyChars (std dr : Nat) : Chars :=
  if std = 1 then .parity else if std = 2 then .framed else if std = 4 ∧ dr = 0 then .parity else .plain

/-- What decoding has come to: the data bits and the marks, each with its data bit counted from the first (a parity bit counts as the data bit
before it, R490), the latest first, the place in the present character, the parity of its bits, and whether the character began before
the reply, in a split byte. -/
structure LineSt where
  bits : List Bool := []
  marks : List (Nat × HfMark) := []
  place : Nat := 0
  odd : Bool := false
  split : Bool := false
  deriving DecidableEq, Repr

/-- The value of a symbol's levels, `tie` between equal ones, and the mark that they give: none of them is a coding error, and the weaker
beside the stronger may be a collision. -/
def symValue (tie : Bool) (l : Option (Nat × Nat)) : Bool × Option HfMark :=
  match l with
  | none => (tie, some .coding)
  | some (z, o) =>
    (if z = o then tie else decide (z < o), if z = 0 ∧ o = 0 then some .coding else if z = 0 ∨ o = 0 then none
      else some (.halves (min z o) (max z o)))

/-- A mark of a parity bit. -/
def onParity : HfMark → HfMark
  | .halves w t => .parityHalves w t
  | m => m

/-- A data bit joins, with its mark. -/
def LineSt.data (st : LineSt) (v : Bool) (m : Option HfMark) : LineSt :=
  { st with bits := v :: st.bits, marks := (m.map (fun x => (st.bits.length, x))).toList ++ st.marks, place := st.place + 1,
            odd := xor st.odd v }

/-- One symbol of a reply. -/
def lineStep (ch : Chars) (st : LineSt) (p : Bool × Option HfMark) : LineSt :=
  match ch with
  | .plain => st.data p.1 p.2
  | .parity =>
    if st.place < 8 then st.data p.1 p.2
    else
      let k := st.bits.length - 1
      { st with place := 0, odd := false, split := false,
                marks := (if st.split ∨ p.1 != st.odd then [] else [(k, .parity)]) ++ (p.2.map (fun m => (k, onParity m))).toList ++ st.marks }
  | .framed =>
    if st.place = 0 ∨ st.place = 9 then
      { st with place := (st.place + 1) % 10, marks := (if p.1 = decide (st.place = 9) then [] else [(st.bits.length, .coding)]) ++ st.marks }
    else st.data p.1 p.2

/-- The data bits and the marks of a reply's symbols, in the order on air: `off` bits of the first byte came before (RX_ALIGN), and `free` has the
value of symbols that show none. A character that the end cuts is a parity or a coding error. -/
def lineBits (free std dr off : Nat) (line : List HfSym) : List Bool × List (Nat × HfMark) :=
  let ch := replyChars std dr
  let st := (line.zipIdx.map (fun p => symValue (free.testBit (8 + p.2)) (symLevels std (replyCoding std dr) p.1))).foldl (lineStep ch)
    (if ch = .parity ∧ 0 < off then { place := off, split := true } else {})
  let cut : List (Nat × HfMark) := match ch with
    | .parity => if st.place = 8 then [(st.bits.length - 1, .parity)] else []
    | .framed => if st.place = 0 then [] else [(st.bits.length, .coding)]
    | .plain => []
  (st.bits.reverse, (cut ++ st.marks).reverse)

/-- RX_ALIGN of the reply that FEn awaits (R247, R261). -/
def State.rxAlign (s : State) (n : Nat) : Nat := if (s.eng n).air.frame.bits then (s.eng n).air.frame.align else 0

/-- What FEn's decoder makes of a reply's symbols. -/
def State.heardBits (s : State) (n : Nat) (r : HfReply) : List Bool × List (Nat × HfMark) :=
  lineBits s.freeVal (s.feStd n) (s.replyRate n) (s.rxAlign n) r.line

/-- The coding errors of a 14443-B reply outside its characters (R248): an extra guard time above 2 etu, or an EOF that is not 10–11 etu
long, at data bit `last`. -/
def guardMarks (std dr last : Nat) (r : HfReply) : List (Nat × Nat) :=
  let p := bitCc dr
  if std = 2 then
    (r.egts.zipIdx.filterMap (fun g => if 2 * p < g.1 then some (8 * (g.2 + 1), 4) else none)) ++
      (if r.eof < 10 * p ∨ 11 * p < r.eof then [(last, 4)] else [])
  else []

/-- S of R257: the bytes that FEn stores of a frame of slot `k`; for a layer-4 block no more than FSD. -/
def frameSize (code : Nat) : Nat :=
  [16, 24, 32, 40, 48, 64, 96, 128, 256, 512, 1024, 2048, 4096].getD code 4096

/-- The bits of a reply that belong to its frame, and its coding errors: an 18092 frame at 212 or 424 kbit/s ends after the bytes that
its LEN counts and two more, and a LEN below 3 or a frame that ends before is a coding error (R250). -/
def frameBits (manchester : Bool) (l : List Bool) : List Bool × List (Nat × Nat) :=
  if !manchester then (l, [])
  else
    let len := ((packBits (flipBytes (l.take 8))).headD 0).toNat
    if len < 3 then (l.take 8, [(8, 4)])
    else
      let k := l.take (8 * (len + 2))
      (k, if k.length < 8 * (len + 2) then [(k.length, 4)] else [])

/-- What FEn makes of a reply at its end tick, and the state after its check has run (R254–R262): `slot` is the session
(`none` in a discovery), `store` the bytes that may be stored. -/
def receive (n : Nat) (slot : Option Nat) (pr store : Nat) (r : HfReply) (s : State) : RxOut × State :=
  let a := (s.eng n).air
  let ratio := s.rf (Reg.feRxCfg n) 31 24
  let dr := s.replyRate n
  let msb := s.feStd n == 4 && dr != 0
  let heard := s.heardBits n r
  let frame := frameBits msb heard.1
  let off := s.rxAlign n
  let met := heard.2.filter (fun m => !msb || decide (m.1 < frame.1.length))
  let coll := met.filter (fun m => isCollision ratio m.2)
  let ones := (coll.filter (fun m => !markOnParity m.2)).map Prod.fst
  let raw := (List.range frame.1.length).map (fun i => frame.1.getD i false || (a.frame.bits && ones.contains i))
  let low := (List.range off).map (fun i => s.freeVal.testBit i)
  let s0 := nextFree s
  let all := packBits (if msb then flipBytes raw else low ++ raw)
  let lastBits := (off + raw.length) % 8
  let par := s.framePar slot pr
  let nc := par.len
  let short := a.frame.rxCrc && (decide (all.length < nc) || lastBits != 0)
  let strip := a.frame.rxCrc && !short
  let data := if strip then all.take (all.length - nc) else all
  let value := airValue pr (all.drop (all.length - nc))
  let s1 := if strip then engClose n data (some value) s0 
    else if a.frame.rxCrc then engClose n (all.take (all.length - nc)) (some (airValue pr (all.drop (all.length - nc)))) s0
    else engClose n all none s0
  let long := decide (store < data.length) || decide (65535 < all.length)
  let bad := strip && !s.checkGood n s1 (s.frameCheck slot pr data == value)
  let marks := frame.2 ++ guardMarks (s.feStd n) dr heard.1.length r ++ met.filterMap (fun m => (markStatus ratio m.2).map (fun st => (m.1, st)))
  let early := firstMark (marks.filter (fun m => !long || decide (m.1 < 8 * store)))
  let status := match early with
    | some m => m.2
    | none => if long then 8 else if short then 4 else if bad then 6 else 0
  let s2 := sif bad (recErr (Page.fe n) Err.crcFail value (((s.eng n).check.map Check.chan).getD (s.rf (Reg.feCvu n) 2 0))) s1
  let s3 := sif long (irq (Page.fe n) 6) s2
  let s5 := sif (bad || status == 3) (addRf (Reg.feErrCnt n) 15 8 1) (sif (status == 4) (addRf (Reg.feErrCnt n) 7 0 1) s3)
  let place (p : Nat) : Nat := if msb then p / 8 * 8 + 7 - p % 8 else off + p
  (⟨status, if long then 0 else lastBits, ((coll.map Prod.fst).head?.map (fun p => place p + 1)).getD 0,
    if 65535 < all.length then 0xffff else data.length, unsigned 32 ((a.sof.getD 0 : Int) - (a.ref.getD 0 : Int)),
    a.level, if strip then value else 0, data.take store, a.sof.getD 0,
    (if bad then [Err.crcFail] else []) ++ (if long then [Err.truncated] else []), none⟩, s5)

/-- The counts, the interrupt and the event at the end of a reply (R265), and the reception that RX_END steps and branches see. -/
def replyEnded (n t status : Nat) (s : State) : State :=
  feEvent n 3 t (irq (Page.fe n) 1 (addRf (Reg.feFrameCnt n) 31 16 1 (modEng n (fun e => { e with
    lastRx := some t, rxEnd := some t, rxNone := false, rxOk := status == 0 }) s)))

/-- The counts of an exchange without a reply (R254, R265): NO_REPLY, or EARLY. -/
def noReplyCount (n status : Nat) (s : State) : State :=
  setFdt n 0xffffffff (if status = 1 then irq (Page.fe n) 3 (addRf (Reg.feErrCnt n) 31 24 1 s) else addRf (Reg.feErrCnt n) 23 16 1 s)

/-- The outcome of a window that gave no reply at tick `t` (R254): NO_REPLY, or EARLY. -/
def noReply (n t status : Nat) (s : State) : State :=
  noReplyCount n status (modEng n (fun e => { e with rxEnd := some t, rxNone := true, rxOk := false }) s)

/-- A reception, or a window of FEn that stands open, ends at tick `t` without a reply (R294); without one the latest reception stands. -/
def rxCut (n t : Nat) : State → State := modEng n (fun e =>
  if e.air.sof.isSome ∨ e.air.opened.isSome then { e with rxEnd := some t, rxNone := true, rxOk := false } else e)

/-! ## Ending an exchange early -/

/-- FDT of a reply whose start of frame FEn has found; 0xFFFF_FFFF before one (R262). -/
def Air.fdt (a : Air) : Nat :=
  match a.sof with
  | some t => unsigned 32 ((t : Int) - (a.ref.getD 0 : Int))
  | none => 0xffffffff

/-- The exchange of FEn takes a code and ends at tick `t`. Its timestamp is the start of frame that was sampled, whose FDT and LEVEL it
shows; before one it is the tick of the end, for the rule names no other (R24; log entry 90). -/
def engFault (n cause t : Nat) (s : State) : State :=
  let a := (s.eng n).air
  finishExch n { status := 7, ts := a.sof.getD t, fdt := a.fdt, level := a.level, endsAt := some t }
    (engErr n cause (rxCut n t s))

/-- BLOCK_NR of every session placed on FEn becomes 0 (R471). -/
def clearBlockNr (n : Nat) (s : State) : State :=
  forEach (List.range 256) (fun k t =>
    if k ≠ 0 ∧ SessState.placed ≤ t.sessState k ∧ t.sessEngine k = n ∧ (t.ctx k 0x0e).testBit 0 then
      setCtx k 0x0e (t.ctx k 0x0e / 2 * 2) t
    else t) s

/-! ## Dispatch checks (R243, R258, R259, R261, R264) -/

/-- Whether a FRAMING applies to a standard at a rate (R261). -/
def framingFits (fr std rate : Nat) : Bool :=
  fr == 0 || (fr == 1 && (std == 1 || (std == 4 && rate == 0))) || (fr == 2 && (std == 1 || std == 2)) ||
    (fr == 3 && std == 3)

/-- Whether DS and DR of the protocol area are rates of the standard (R244, R264). -/
def State.ratesOk (s : State) (k : Nat) : Bool :=
  let std := s.ctx k 8 % 16
  let top := if std = 4 then 2 else 3
  std == 5 || decide (s.ctx k 9 % 16 ≤ top ∧ s.ctx k 9 / 16 ≤ top)

/-- Whether the protocol area's fields lie in their ranges (R264). -/
def State.protocolOk (s : State) (k fr : Nat) : Bool :=
  let std := s.ctx k 8 % 16
  let l4 := decide (s.ctx k 0x0a % 16 ≤ 12 ∧ s.ctx k 0x0a / 16 ≤ 12 ∧ s.ctx k 0x0b % 16 ≤ 14 ∧ s.ctx k 0x0b / 16 ≤ 14)
  s.ratesOk k && (fr != 2 || l4) && (!(std == 1 || std == 4) || decide (s.ctx k 0x0b / 16 ≤ 14))

/-- Whether a session's preset suits its standard (R259, R398); preset 0xF does with parameters that START accepts (R393). -/
def State.presetOk (s : State) (k : Nat) : Bool :=
  let pr := s.ctx k 0x40 % 16
  if pr = 0xf then (s.framePar (some k) 0xf).fits else pr == presetFor (s.ctx k 8 % 16) (s.ctx k 9 % 16)

/-- The bytes of an HF_EXCHANGE (R261). -/
def hfTx (i : Item) : List Byte := (wordsBytes (i.payload.drop 2)).take (fld (i.word 4) 15 0)

/-- What R258 finds wrong with a length: the true length and the largest allowed, or TX_LEN and LEN. -/
def State.lengthBad (s : State) (i : Item) (k std fr : Nat) : Option (Nat × Nat × Nat) :=
  let n := fld (i.word 4) 15 0
  let top := if std = 5 then min 64 (s.frameMax k * 512) else min (s.frameMax k * 512) 4088
  if top < n ∨ (n = 0 ∧ fr ≠ 3) then some (Err.truncated, n, top)
  else if i.len < 6 + (n + 3) / 4 then some (Err.truncated, n, i.len)
  else none

/-- The checks on an HF_EXCHANGE at dispatch, for a session of kind `kind`. -/
def hfCheck (kind : Nat) (i : Item) (k : Nat) (s : State) : Option (Nat × Nat × Nat) :=
  let n := s.sessEngine k
  let fr := fld (i.word 4) 31 28
  let std := s.ctx k 8 % 16
  if s.sessKind k ≠ kind ∨ s.rb (Reg.ctrl (Page.fe n)) 0 = false ∨ std ≠ s.feStd n ∨ std = 0 ∨ 5 < std then
    some (Err.modeAbort, openDetail, openDetail)
  else if framingFits fr std (s.ctx k 9 % 16) = false ∨ s.protocolOk k fr = false ∨ s.presetOk k = false then
    some (Err.modeAbort, openDetail, openDetail)
  else if fr = 1 ∧ (7 < fld (i.word 4) 23 20 ∨ 7 < fld (i.word 4) 19 16) then some (Err.modeAbort, openDetail, openDetail)
  else s.lengthBad i k std fr

/-- A rate that the standard's row of R244 does not support leaves MODE_ABORT in the engine's page too (R1). -/
def rateNote (_i : Item) (k : Nat) (s : State) : State :=
  let n := s.sessEngine k
  sif (s.sessKind k == 0 && s.ctx k 8 % 16 == s.feStd n && !s.ratesOk k) (recErr (Page.fe n) Err.modeAbort openDetail openDetail) s

/-- HF_EXCHANGE (R261): dispatched into its session's pending list. -/
def execHfExchange (s : State) : Host.Outcome State Fault Refusal :=
  .next (dispatchExchange 0x08 (hfCheck 0) rateNote hfTx s)

/-- The frame that an HF_EXCHANGE gives (R261). -/
def hfFrame (i : Item) : TxFrame :=
  let w := i.word 4
  let bits := fld w 31 28 == 1
  { data := hfTx i, last := if bits then fld w 23 20 else 0, txCrc := bit w 27 && fld w 31 28 != 3, rxCrc := bit w 26,
    bits := bits, align := if bits then fld w 19 16 else 0, eof := fld w 31 28 == 3 }

end Sys2Proof.Machine
end

