-- ==== Sys2Proof/Machine/L4.lean ====
section
/-! DEFINITION. Layer 4 (R256, R257): the block protocol of ISO/IEC 14443-4 that an engine runs for FRAMING L4, and the
TURNAROUND sections in which further blocks go out. -/

namespace Sys2Proof.Machine

/-- CID_EN of a session. -/
def State.cidEn (s : State) (k : Nat) : Bool := (s.ctx k 0x0e).testBit 1
/-- NAD_EN of a session. -/
def State.nadEn (s : State) (k : Nat) : Bool := (s.ctx k 0x0e).testBit 2

/-- The layer-4 state at the start of an exchange: INF to send, and the session's block number. -/
def l4Start (inf : List Byte) (nr : Nat) : L4St := { rest := inf, nr := nr }

/-- The INF bytes that fit beside the prologue and the check bytes (FSC of R264). -/
def State.l4Room (s : State) (k : Nat) (first : Bool) : Nat :=
  frameSize (s.ctx k 0x0a / 16) - 3 - (s.cidEn k).toNat - (s.nadEn k && first).toNat

/-- A block whose PCB is `pcb` with its CID bit and byte; `nad` adds NAD. -/
def State.l4Block (s : State) (k pcb : Nat) (nad : Bool) (inf : List Byte) : TxFrame :=
  { data := BitVec.ofNat 8 (pcb + 8 * (s.cidEn k).toNat + 4 * nad.toNat) ::
      ((if s.cidEn k then [BitVec.ofNat 8 (s.ctx k 0x0c)] else []) ++
        (if nad then [BitVec.ofNat 8 (s.ctx k 0x0d)] else []) ++ inf) }

/-- The next block of an exchange, and the state once it is sent (R256): 0 an I-block with the next INF, 1 R(ACK), 2 R(NAK),
3 S(WTX), 4 the last I-block again. -/
def State.l4Frame (s : State) (k : Nat) (l : L4St) : TxFrame × L4St :=
  let nad := s.nadEn k && l.first
  match l.next with
  | 0 =>
    let room := s.l4Room k l.first
    let inf := l.rest.take room
    let rest := l.rest.drop room
    (s.l4Block k (0x02 + 16 * (rest ≠ [] : Bool).toNat + l.nr) nad inf,
      { l with rest := rest, sent := inf, chain := rest ≠ [], more := false })
  | 1 => (s.l4Block k (0xa2 + l.nr) false [], { l with more := false })
  | 2 => (s.l4Block k (0xb2 + l.nr) false [], { l with more := false })
  | 3 => (s.l4Block k 0xf2 false [BitVec.ofNat 8 l.wtxm], { l with more := false })
  | _ => (s.l4Block k (0x02 + 16 * l.chain.toNat + l.nr) nad l.sent, { l with more := false })

/-- The end of the window after S(WTX), in cc after the reference tick (R256). -/
def State.wtxWindow (s : State) (k wtxm : Nat) : Nat :=
  let fwt := if s.ctx32 k 0x10 = 0 then 4096 * 2 ^ (s.ctx k 0x0b % 16) else s.ctx32 k 0x10
  min (fwt * wtxm) (4096 * 2 ^ 14) + 49152

/-- The layer-4 exchange of FEn ends: its block number goes to the protocol area (R264), and the assembled INF is delivered (R256, R257).
What was cut, in whichever block, came before what the last reception found, so RX_STATUS is TRUNCATED (R262). -/
def l4Finish (n : Nat) (x : Exch) (l : L4St) (o : RxOut) (s : State) : State :=
  let top := s.frameMax x.slot * 512
  let long := decide (top < l.total)
  let cut := long || (s.eng n).exch.any (fun y => y.errs.contains Err.truncated)
  finishExch n { o with
    lastBits := 0, len := min 0xffff l.total, stored := l.got.take top
    status := if cut then 8 else o.status
    codes := if cut then addCode (statusErr o.status) (addErr Err.truncated o.codes) else o.codes } (sif long (irq (Page.fe n) 6) (modExch n (fun y => { y with l4 := l }) s))

/-- The exchange has another block to send: a section in TURNAROUND starts for it when the player is free (R256, R290). -/
def turnaround (n : Nat) (s : State) : State :=
  match (s.eng n).exch with
  | none => s
  | some x =>
    if x.isL4 && x.l4.more && x.toSend && !s.playing n && !s.holdAsked n then
      match s.turnSection n (s.feStd n) with
      | some c => startSection n c ((s.eng n).rxEnd.getD s.now) x.slot s
      | none => engFault n Err.modeAbort s.now s
    else s

/-- The exchange of FEn goes on with the layer-4 state `l`. -/
def l4Go (n : Nat) (l : L4St) (s : State) : State :=
  turnaround n (fePhase n 5 (modExch n (fun x => { x with l4 := { l with more := true }, toSend := true }) s))

/-- A block in error (R256): R(NAK), or R(ACK) while receiving a chain, up to RETRY_MAX times for a block. Its window is not extended. -/
def l4Retry (n : Nat) (x : Exch) (l : L4St) (next : Nat) (o : RxOut) (s : State) : State :=
  if l.tries < s.rf (Reg.feL4Cfg n) 3 0 then
    l4Go n { l with tries := l.tries + 1, next := next, wtxm := 0 }
      (incCtx16 x.slot 0xbe (modExch n (fun y => { y with retries := y.retries + 1 }) s))
  else l4Finish n x l o s

/-- The block that answers an error. -/
def nakOf (l : L4St) : Nat := if l.rxChain then 1 else 2

/-- A block received without error, its check stripped (R256): `b` its bytes. Anything unexpected is a coding error. -/
def l4Block (n : Nat) (x : Exch) (b : List Byte) (o : RxOut) (s : State) : State :=
  let l := x.l4
  let pcb := (b.headD 0).toNat
  let cid := pcb.testBit 3
  let cidOk := !cid || (s.cidEn x.slot && b.getD 1 0 == BitVec.ofNat 8 (s.ctx x.slot 0x0c))
  let bad := fun t => l4Retry n x l (nakOf l) { o with status := 4 } (addRf (Reg.feErrCnt n) 7 0 1 t)
  if !cidOk then bad s
  else if pcb &&& 0xe2 = 0x02 then
    let inf := b.drop (1 + cid.toNat + (pcb.testBit 2).toNat)
    if l.chain then bad s
    else if pcb % 2 ≠ l.nr then l4Retry n x l (nakOf l) { o with status := 4 } s
    else
      let m := { l with nr := 1 - l.nr, first := false, tries := 0, wtxm := 0, total := l.total + (o.len - (b.length - inf.length)),
                        got := (l.got ++ inf).take (s.frameMax x.slot * 512), rxChain := pcb.testBit 4 }
      if pcb.testBit 4 then l4Go n { m with next := 1 } s else l4Finish n x m o s
  else if pcb &&& 0xf6 = 0xa2 then
    if pcb % 2 ≠ l.nr then l4Retry n x l 4 { o with status := 4 } s
    else if l.chain then
      l4Go n { l with nr := 1 - l.nr, first := false, chain := false, tries := 0, wtxm := 0, next := 0 } s
    else bad s
  else if pcb &&& 0xf7 = 0xf2 then
    let m := (b.getD (1 + cid.toNat) 0).toNat % 64
    if 1 ≤ m ∧ m ≤ 59 then l4Go n { l with wtxm := m, next := 3, tries := 0 } (addRf (Reg.feGuardCnt n) 15 0 1 s) else bad s
  else bad s

/-- The outcome of one layer-4 reception (R256): a block whose check is good, one that collided or exceeded S among them (R257, R262); a reply that began
early, which ends the exchange (R254); or an error that asks for a retry. -/
def l4Reply (n : Nat) (x : Exch) (o : RxOut) (s : State) : State :=
  if o.status = 2 then l4Finish n x x.l4 o s
  else if o.status = 0 ∨ ((o.status = 5 ∨ o.status = 8) ∧ !o.codes.contains Err.crcFail) then
    l4Block n x o.stored o (modExch n (fun y => { y with errs := o.codes.foldl (fun a e => addErr e a) y.errs }) s)
  else l4Retry n x x.l4 (nakOf x.l4) o s

end Sys2Proof.Machine
end

