-- ==== Sys2Proof/Machine/Disc.lean ====
section
/-! DEFINITION. Discovery (11_discovery_anticollision, R266–R277): the DISCOVER command, the frames of each standard's
procedure, the resolution of collisions, and the TAG and END items. -/

namespace Sys2Proof.Machine

/-! ## The command's fields (R267) -/

/-- STD of a DISCOVER. -/
def Disc.std (d : Disc) : Nat := fld (d.item.word 4) 31 28
/-- WAKE. -/
def Disc.wake (d : Disc) : Bool := bit (d.item.word 4) 25
/-- HALT. -/
def Disc.halt (d : Disc) : Bool := bit (d.item.word 4) 24
/-- AFI. -/
def Disc.afi (d : Disc) : Nat := fld (d.item.word 4) 15 8
/-- MAX_TAGS as it acts. -/
def Disc.maxTags (d : Disc) : Nat := if fld (d.item.word 4) 7 0 = 0 then 32 else min 32 (fld (d.item.word 4) 7 0)
/-- Whether the procedure of R269 applies: 14443-A, or 18092 at 106 kbit/s (R273). -/
def Disc.typeA (d : Disc) : Bool := d.std == 1 || (d.std == 4 && d.rate == 0)

/-- ANTICOL_MAX as it acts (R285). -/
def State.anticolMax (s : State) : Nat := max 1 (min 40 (s.rf Reg.sessDiscCfg 7 0))

/-- Whether a slot exponent suits a standard (R267). -/
def slotsOk (std k : Nat) : Bool :=
  match std with
  | 1 => k == 0
  | 3 => k == 0 || k == 4
  | _ => decide (k ≤ 4)

/-- Whether a DISCOVER is refused with MODE_ABORT (R266, R267). -/
def State.discBad (s : State) (i : Item) (n : Nat) : Bool :=
  let std := fld (i.word 4) 31 28
  std != s.feStd n || std == 0 || decide (5 ≤ std) || !s.rb (Reg.ctrl (Page.fe n)) 0 || (s.heldCoils n).isEmpty ||
    decide (8 < fld (i.word 5) 23 20) || !slotsOk std (fld (i.word 4) 19 16)

/-! ## Frames of a discovery -/

/-- A standard frame with check bytes both ways. -/
def plain (l : List Byte) : TxFrame := { data := l }

/-- A 7-bit short frame. -/
def shortFrame (b : Byte) : TxFrame := { data := [b], last := 7, txCrc := false, rxCrc := false, bits := true }

/-- SEL of a cascade level (R269). -/
def selByte (level : Nat) : Byte := BitVec.ofNat 8 (0x91 + 2 * level)

/-- The 5 bytes of an earlier cascade level, from the identifier bytes it gave: the cascade tag, three bytes and BCC. -/
def levelBytes (done : List Byte) (level : Nat) : List Byte :=
  let l := (0x88 : Byte) :: (done.drop (3 * (level - 1))).take 3
  l ++ [l.foldl (fun a b => a ^^^ b) 0]

/-- The anticollision frame with the known bits of a level (R269). -/
def anticolFrame (b : Branch) : TxFrame :=
  let k := b.bits.length
  { data := selByte b.level :: BitVec.ofNat 8 (0x20 + 16 * (k / 8) + k % 8) :: packBits b.bits, last := k % 8,
    txCrc := false, rxCrc := false, bits := true, align := k % 8 }

/-- The mask bytes of an INVENTORY, least significant bit first. -/
def inventory (d : Disc) : TxFrame :=
  let one := d.exps == 0
  let flags := 0x06 + (if one then 0x20 else 0) + (if d.afi = 0 then 0 else 0x10)
  plain ([BitVec.ofNat 8 flags, 0x01] ++ (if d.afi = 0 then [] else [BitVec.ofNat 8 d.afi]) ++
    BitVec.ofNat 8 d.cur.bits.length :: packBits d.cur.bits)

/-- The next frame of a discovery (R269, R271–R273): poll, anticollision, select, halt or re-selection of an earlier level. -/
def discFrame (d : Disc) : TxFrame :=
  if d.step = 3 then
    match d.std with
    | 2 => plain (0x50 :: d.cur.done)
    | 3 => plain ([0x22, 0x02] ++ d.quiet.headD [])
    | _ => { data := [0x50, 0x00], rxCrc := false }
  else if d.typeA then
    match d.step with
    | 0 => shortFrame (if d.wake && d.std == 1 && d.rounds == 0 && d.tags == 0 && d.total == 0 then 0x52 else 0x26)
    | 1 => anticolFrame d.cur
    | 2 => plain (selByte d.cur.level :: 0x70 :: packBits d.cur.bits)
    | _ => plain (selByte d.resel :: 0x70 :: levelBytes d.cur.done d.resel)
  else
    match d.std with
    | 2 =>
      if d.slotNo = 0 then plain [0x05, BitVec.ofNat 8 d.afi, BitVec.ofNat 8 (8 * d.wake.toNat + d.exps)]
      else plain [BitVec.ofNat 8 (16 * d.slotNo + 5)]
    | 3 => if d.slotNo = 0 then inventory d else { eof := true, txCrc := false }
    | _ =>
      let sc := fld (d.item.word 5) 15 0
      plain [0x00, BitVec.ofNat 8 (sc / 256), BitVec.ofNat 8 sc, 0x00, BitVec.ofNat 8 (2 ^ d.exps - 1)]

/-- What sending its next frame does to a discovery: a round counts (R270, R274). -/
def discSent (d : Disc) : Disc :=
  let counts := if d.typeA then d.step == 1 else d.step == 0 && d.slotNo == 0
  { d with sent := true, heard := false, begun := true
           rounds := if counts then d.rounds + 1 else d.rounds, total := if counts then d.total + 1 else d.total
           levelRounds := if counts then d.levelRounds + 1 else d.levelRounds }

/-! ## Items (R274, R276) -/

/-- A tag as a discovery reports it: identifier, word 6, COLL_BIT, the information bytes of R276, the cascade level, the
timestamp and the position. -/
structure TagFound where
  id : List Byte
  word6 : Nat := 0
  info : List Byte := []
  level : Nat := 0
  err : Nat := Err.none
  ts : Nat
  pos : Nat × Nat × Nat := (0x8000, 0x8000, 0xff)
  deriving DecidableEq, Repr

/-- Bytes filled with zeros to a length. -/
def padTo (n : Nat) (l : List Byte) : List Byte := (l ++ List.replicate (n - l.length) 0).take n

/-- Writes the context of a created session (R276): protocol area, preset and identity. -/
def tagContext (k : Nat) (d : Disc) (t : TagFound) (s : State) : State :=
  let a := setCtx k 0x40 (presetFor d.std d.rate) (setCtx k 9 (17 * d.rate) (setCtx k 8 d.std s))
  setPosition k t.pos (setBytes (ctxAddr k 0x20)
    ([BitVec.ofNat 8 t.id.length, BitVec.ofNat 8 d.std, BitVec.ofNat 8 t.level, BitVec.ofNat 8 d.rounds] ++
      padTo 10 t.id ++ [BitVec.ofNat 8 (if d.std = 1 then d.atqa else 0), BitVec.ofNat 8 (if d.std = 1 then d.atqa / 256 else 0)] ++
      padTo 8 t.info) a)

/-- The INVENTORY rounds on the way to a stored mask, with its own: a tag's rounds, which ANTICOL_MAX limits (R272, R285). -/
def Disc.pathRounds (d : Disc) (b : Branch) : Nat := b.bits.length / (if d.exps = 0 then 1 else 4) + 1

/-- ROUNDS of a tag (R274): of a 15693 tag the rounds on the way to the mask at which it answered. -/
def Disc.tagRounds (d : Disc) : Nat := if d.std = 3 then d.pathRounds d.cur else d.rounds

/-- Posts a TAG item (R274). -/
def postTag (n : Nat) (d : Disc) (t : TagFound) (handle err : Nat) (s : State) : State :=
  let l := padTo 12 t.id
  postResult { answer d.item handle err 0 t.ts
    ([wd (d.std * 2 ^ 24 + t.id.length * 2 ^ 16 + t.pos.2.2 * 256 + min 255 d.tagRounds),
      wd (t.pos.1 * 65536 + t.pos.2.1), wd t.word6] ++ bytesWords l) with page := Page.fe n } n 0 s

/-- A tag has been found (R274, R275): an identifier already reported is not reported again; with CREATE a session is made. -/
def foundTag (n : Nat) (d : Disc) (t : TagFound) (s : State) : Disc × State :=
  if t.err = Err.none ∧ d.seen.contains t.id then (d, s)
  else
    let e := { d with tags := d.tags + 1, seen := if t.err = Err.none then d.seen ++ [t.id] else d.seen
                      unresolved := if t.err = Err.none then d.unresolved else d.unresolved + 1 }
    if t.err ≠ Err.none ∨ bit (d.item.word 4) 23 = false then (e, postTag n d t 0 t.err s)
    else
      match s.pickSlot with
      | none => (e, postTag n d t 0 Err.resourceBusy (irq Page.sess 2 s))
      | some k =>
        (e, postTag n d t (s.newHandle k) 0 (tagContext k d t (bindTo k n 0
          (openSession k 0 (bit (d.item.word 4) 22) (fmaxOf (fld (d.item.word 5) 23 20)) s))))

/-- The discovery ends (R274): its END item carries an engine fault under the precedence of R263. Steps of its section that are left pass
unmodulated (R268). -/
def finishDisc (n : Nat) (d : Disc) (s : State) : State :=
  let l := d.errs.filter (fun e => e == Err.thermal || e == Err.fieldLost || e == Err.modeAbort || e == Err.detuned)
  let err := firstErr hfPrecedence l
  let t := engIdle n err (modEng n (fun e => { e with disc := none, discSec := (s.player n).sec }) s)
  postResult { answer d.item 0 err 0 postTick
    [wd (2 ^ 28 + d.std * 2 ^ 24 + min 255 d.tags * 2 ^ 16 + min 255 d.total),
      wd (min 0xffff d.unresolved * 65536 + min 0xffff d.dropped)] with page := Page.fe n } n 0 t

/-- The discovery goes on as `d`. -/
def discGo (n : Nat) (d : Disc) (s : State) : State :=
  fePhase n 5 (modEng n (fun e => { e with disc := some { d with sent := false } }) s)

/-! ## 14443-A (R269, R270) -/

/-- Step 6 of R269: a poll, which resumes a stored branch when there is one. -/
def discPoll (n : Nat) (d : Disc) (s : State) : State :=
  match d.stack with
  | [] => discGo n { d with step := 0, resume := false } s
  | b :: r => discGo n { d with step := 0, resume := true, cur := b, stack := r } s

/-- After a TAG item: the end at MAX_TAGS, else step 6. -/
def discNextTag (n : Nat) (d : Disc) (s : State) : State :=
  if d.maxTags ≤ d.tags then finishDisc n d s else discPoll n d s

/-- A new tag begins: counts of rounds start again. -/
def newTag (d : Disc) : Disc := { d with rounds := 0, levelRounds := 0, badBcc := false }

/-- A tag of type A cannot be resolved (R269 step 4, R270): its known bits are reported. -/
def discUnresolved (n : Nat) (d : Disc) (bits : List Bool) (c : Option Nat) (s : State) : State :=
  let t : TagFound := {
    id := (d.cur.done ++ packBits bits).take 12, word6 := (match c with
      | none => 0
      | some c => (c + 1) * 2 ^ 24) + (if d.std = 1 then d.atqa else 0), err := Err.collisionUnresolved, ts := s.now }
  let r := foundTag n d t s
  discNextTag n r.1 r.2

/-- A coding error of an anticollision round (R269 step 4): repeated once, then unresolved. -/
def discCoding (n : Nat) (d : Disc) (s : State) : State :=
  if d.badBcc then discUnresolved n d d.cur.bits none s else discGo n { d with step := 1, badBcc := true } s

/-- XOR of bytes. -/
def xorBytes (l : List Byte) : Byte := l.foldl (fun a b => a ^^^ b) 0

/-- A level's 40 bits are known (R269 steps 3 and 4). -/
def levelKnown (n : Nat) (d : Disc) (bits : List Bool) (s : State) : State :=
  let l := packBits bits
  if xorBytes (l.take 4) ≠ l.getD 4 0 then discCoding n d s
  else discGo n { d with step := 2, badBcc := false, cur := { d.cur with bits := bits } } s

/-- The reply to an anticollision frame (R269, R270). -/
def onAnticol (n : Nat) (d : Disc) (o : RxOut) (nbits : Nat) (s : State) : State :=
  let k := d.cur.bits.length
  let got := ((bytesBits o.stored).take (k % 8 + nbits)).drop (k % 8)
  let bits := d.cur.bits ++ got
  if o.collPos ≠ 0 ∧ o.status = 5 then
    let c := 8 * (k / 8) + o.collPos - 1
    if c < k ∨ 40 ≤ c then discCoding n d s
    else if s.anticolMax ≤ d.levelRounds then discUnresolved n d (bits.take c) (some c) s
    else
      let full := decide (8 ≤ d.stack.length)
      let b0 : Branch := { d.cur with bits := bits.take c ++ [false] }
      let e := { d with stack := if full then d.stack else b0 :: d.stack
                        dropped := if full then d.dropped + 1 else d.dropped
                        badBcc := false, cur := { d.cur with bits := bits.take c ++ [true] } }
      if c + 1 < 40 then discGo n { e with step := 1 } s else levelKnown n e (bits.take c ++ [true]) s
  else if o.status ≠ 0 ∨ bits.length ≠ 40 then discCoding n d s
  else levelKnown n d bits s

/-- The identifier bytes of a level: all four of the last, three of the others. -/
def levelId (d : Disc) (more : Bool) : List Byte :=
  let l := packBits d.cur.bits
  d.cur.done ++ (if more then (l.drop 1).take 3 else l.take 4)

/-- The position of an identifying reply (R277). -/
def discPos (n : Nat) (loc : List Nat) (s : State) : (Nat × Nat × Nat) × State :=
  if s.rb (Reg.fwgtFeCoils n) 31 then (s.posFields (s.position n loc), localise n loc s)
  else ((0x8000, 0x8000, 0xff), s)

/-- The reply to a SELECT (R269 step 3). ATQA, SAK and the cascade level are 14443-A's alone (R274, R276), and HALT has no effect on
18092 (R273). -/
def onSelect (n : Nat) (d : Disc) (o : RxOut) (loc : List Nat) (s : State) : State :=
  if o.status ≠ 0 ∨ o.stored.length ≠ 1 then
    (if d.badBcc then discUnresolved n d d.cur.bits none s else discGo n { d with badBcc := true } s)
  else
    let sak := (o.stored.headD 0).toNat
    if sak.testBit 2 ∧ d.cur.level < 3 then
      discGo n { d with step := 1, badBcc := false, levelRounds := 0,
                        cur := ⟨d.cur.level + 1, levelId d true, []⟩ } s
    else
      let p := discPos n loc s
      let a := d.std == 1
      let t : TagFound := { id := levelId d false, word6 := if a then sak * 65536 + d.atqa else 0
                            info := if a then [BitVec.ofNat 8 sak] else [], level := if a then d.cur.level else 0
                            ts := o.ts, pos := p.1 }
      let r := foundTag n d t p.2
      if d.halt ∧ a then discGo n { r.1 with step := 3, badBcc := false } r.2 else discNextTag n { r.1 with badBcc := false } r.2

/-- The reply to a poll of type A (R269 steps 1 and 6). -/
def onPoll (n : Nat) (d : Disc) (o : RxOut) (answered : Bool) (s : State) : State :=
  if !answered then (if d.resume then discPoll n d s else finishDisc n d s)
  else
    let e := newTag { d with atqa := (o.stored.getD 0 0).toNat + 256 * (o.stored.getD 1 0).toNat }
    if !d.resume then discGo n { e with step := 1, cur := ⟨1, [], []⟩ } s
    else if d.cur.level = 1 then discGo n { e with step := 1 } s
    else discGo n { e with step := 4, resel := 1 } s

/-- The reply to the re-selection of an earlier level of a stored branch (log entry 36). -/
def onResel (n : Nat) (d : Disc) (o : RxOut) (s : State) : State :=
  if o.status ≠ 0 ∨ (o.stored.headD 0).getLsbD 2 = false then discPoll n d s
  else if d.resel + 1 < d.cur.level then discGo n { d with resel := d.resel + 1 } s
  else discGo n { d with step := 1 } s

/-- A reply, or its absence, in a discovery of type A. -/
def onTypeA (n : Nat) (d : Disc) (o : RxOut) (answered : Bool) (nbits : Nat) (loc : List Nat) (s : State) : State :=
  match d.step with
  | 0 => onPoll n d o answered s
  | 1 => if answered then onAnticol n d o nbits s else discPoll n d s
  | 2 => onSelect n d o loc s
  | 3 => discNextTag n d s
  | _ => onResel n d o s

/-! ## 14443-B, 15693 and 18092 (R271–R273) -/

/-- The rounds of a discovery of 14443-B or 18092 are used up with slots that collided. -/
def discExhausted (n : Nat) (d : Disc) (s : State) : State :=
  if d.std = 2 then
    let r := d.collided.foldl (fun (p : Disc × State) _ =>
      foundTag n p.1 { id := [], err := Err.collisionUnresolved, ts := p.2.now } p.2) (d, s)
    finishDisc n r.1 r.2
  else finishDisc n { d with unresolved := d.unresolved + d.collided.length } s

/-- The masks of a 15693 round that collided go onto the branch stack (R272). -/
def pushMasks (d : Disc) : Disc :=
  let masks := d.collided.flatMap (fun k =>
    if d.exps = 0 then [d.cur.bits ++ [false], d.cur.bits ++ [true]]
    else [d.cur.bits ++ (List.range 4).map (fun j => k.testBit j)])
  masks.foldl (fun e m =>
    if 8 ≤ e.stack.length ∨ 64 < m.length then { e with dropped := e.dropped + 1 }
    else { e with stack := ⟨1, [], m⟩ :: e.stack }) { d with collided := [] }

/-- Stored masks that ANTICOL_MAX gives no round any more are left unresolved (log entry 134). -/
def limitMasks (top : Nat) (d : Disc) : Disc :=
  let l := d.stack.filter (fun b => decide (d.pathRounds b ≤ top))
  { d with stack := l, unresolved := d.unresolved + (d.stack.length - l.length) }

/-- A slot sequence has ended (R271–R273). -/
def roundEnd (n : Nat) (d0 : Disc) (s : State) : State :=
  let d := if d0.std = 3 then limitMasks s.anticolMax (pushMasks d0) else d0
  if d.std = 3 ∧ d.quiet ≠ [] then discGo n { d with step := 3 } s
  else if d.maxTags ≤ d.tags then finishDisc n d s
  else if d.std = 3 then
    match d.stack with
    | [] => finishDisc n d s
    | b :: r => discGo n { d with step := 0, slotNo := 0, cur := b, stack := r } s
  else if d.collided = [] then finishDisc n d s
  else if s.anticolMax ≤ d.total then discExhausted n d s
  else discGo n { d with step := 0, slotNo := 0, exps := min 4 (d.exps + 1), collided := [] } s

/-- The next slot of the sequence, or the end of the round. At MAX_TAGS the discovery ends, once the 15693 tags identified have been sent
Stay Quiet (R272). -/
def nextSlot (n : Nat) (d : Disc) (s : State) : State :=
  if d.maxTags ≤ d.tags then (if d.std = 3 ∧ d.quiet ≠ [] then discGo n { d with step := 3 } s else finishDisc n d s)
  else if d.slotNo + 1 < 2 ^ d.exps then discGo n { d with step := 0, slotNo := d.slotNo + 1 } s
  else roundEnd n d s

/-- What a slot's reply identifies (R271–R274): identifier, word 6 and the information bytes. -/
def slotTag (std : Nat) (b : List Byte) : Option (List Byte × Nat × List Byte) :=
  match std with
  | 2 =>
    if b.headD 0 = 0x50 ∧ 12 ≤ b.length then
      some ((b.drop 1).take 4, ((b.getD 9 0).toNat + 256 * (b.getD 10 0).toNat + 65536 * (b.getD 11 0).toNat),
        (b.drop 5).take 7)
    else none
  | 3 => if b.length = 10 then some (b.drop 2, (b.getD 1 0).toNat, [b.getD 1 0]) else none
  | _ => if b.getD 1 0 = 0x01 ∧ 10 ≤ b.length then some ((b.drop 2).take 8, 0, []) else none

/-- Whether an RX_STATUS makes a slot a collided one (R271–R273). -/
def slotCollided (std st : Nat) : Bool := st == 6 || (if std = 3 then st == 5 else st == 4)

/-- The outcome of slot `k`: the discovery with what it adds, and the state. -/
def slotOutcome (n : Nat) (d : Disc) (k : Nat) (o : RxOut) (loc : List Nat) (s : State) : Disc × State :=
  if slotCollided d.std o.status then ({ d with collided := d.collided ++ [k] }, s)
  else if o.status ≠ 0 then (d, s)
  else
    match slotTag d.std o.stored with
    | none => (d, s)
    | some (id, w6, info) =>
      let p := discPos n loc s
      let r := foundTag n d { id := id, word6 := w6, info := info, ts := o.ts, pos := p.1 } p.2
      ({ r.1 with quiet := if d.std = 3 ∧ d.halt then r.1.quiet ++ [id] else r.1.quiet
                  cur := if d.std = 2 then { r.1.cur with done := id } else r.1.cur }, r.2)

/-- A reply, or its absence, in a slotted discovery. `slot18` is the time slot of an 18092 response; one that outlasts the window ends the
round. Every valid ATQB is answered with HLTB when HALT asks for it (R271). -/
def onSlot (n : Nat) (d : Disc) (o : RxOut) (answered : Bool) (slot18 : Nat) (loc : List Nat) (s : State) : State :=
  if d.step = 3 then
    (if d.std = 3 then roundEnd n { d with quiet := d.quiet.tail } s else nextSlot n { d with step := 0 } s)
  else if d.std = 4 then
    (if answered then
      let r := slotOutcome n { d with heard := true } slot18 o loc s
      if r.1.maxTags ≤ r.1.tags then finishDisc n r.1 r.2
      else if (s.eng n).air.opened.isNone then roundEnd n r.1 r.2
      else modEng n (fun e => { e with disc := some r.1, air := { e.air with sof := none } }) r.2
    else roundEnd n d s)
  else
    let r := if answered then slotOutcome n d d.slotNo o loc s else (d, s)
    if d.std = 2 ∧ d.halt ∧ answered ∧ o.status = 0 ∧ (slotTag 2 o.stored).isSome then discGo n { r.1 with step := 3 } r.2
    else nextSlot n r.1 r.2

/-- A discovery takes the outcome of a reply or of a window without one. -/
def onDisc (n : Nat) (d : Disc) (o : RxOut) (answered : Bool) (nbits slot18 : Nat) (loc : List Nat) (s : State) : State :=
  if d.typeA then onTypeA n d o answered nbits loc s else onSlot n d o answered slot18 loc s

end Sys2Proof.Machine
end

