-- ==== Sys2Proof/Machine/HfEvents.lean ====
section
/-! DEFINITION. What happens on a field engine (10_hf_air_interfaces, R252–R265; 11_discovery_anticollision, R266–R270): commands
start, TX and RXWIN steps act, frames end, replies begin and end, windows close, and exchanges are ended early. -/

namespace Sys2Proof.Machine

/-! ## Starting (R226, R260, R266, R290) -/

/-- The coil that R226 refuses an exchange for, if one does: `rx` tells an exchange that receives. A coil whose chain is stopped runs no
profile, and its delay counts as one that differs (DEDUCED, log entry 105). -/
def State.coilsBad (s : State) (n : Nat) (rx : Bool) : Option Nat :=
  let l := s.heldCoils n
  let ws := fun c => (s.coil c).loaded
  match l with
  | [] => none
  | a :: _ =>
    match l.find? (fun c => !s.rb (Reg.coilChainStatus c) 0 || groupDelay2 (ws c) != groupDelay2 (ws a)) with
    | some c => some c
    | none =>
      if rx then l.find? (fun c => (ws c).any stageScs || decide (32 < ((ws c).map stageStep).prod)) else none

/-- The earliest S of a command (R21, R290): the bounds after its acceptance, after the player's previous section and after
the previous exchange; one whose wait outlasts them takes the bound after the present tick (log entry 34). -/
def State.startBound (s : State) (i : Item) (k ended : Nat) : Nat :=
  let b := max (boundTick i.posted) (max (boundAfter (s.player k).ended) (boundAfter ended))
  if b < s.now then boundTick s.now else b

/-- What starting a command on FEn comes to: a section with its S, or a refusal. -/
inductive StartOut where
  | go (c : Section) (S : Nat)
  | no (err d4 d5 : Nat)
  | late (first : Nat)
  deriving DecidableEq, Repr

/-- Decides the start of a command on FEn (R21, R225, R226, R290); the coils of one that receives are judged as its first frame starts
(R279, log entry 103). A named tick that is no multiple of 8 starts at the next one (DESIGN
CHOICE, log entry 34: no rule rounds it). -/
def State.startOn (s : State) (n : Nat) (i : Item) (kind framing : Nat) (rx : Bool) : StartOut :=
  if s.rb (Reg.ctrl (Page.fe n)) 0 = false ∨ (s.heldCoils n).isEmpty then .no Err.modeAbort openDetail openDetail
  else
    match if rx then none else s.coilsBad n false with
    | some c => .no Err.modeAbort c 0
    | none =>
      match s.commandSection n (fld (i.word 5) 31 24) kind (s.feStd n) framing with
      | none => .no Err.modeAbort openDetail openDetail
      | some c =>
        let b := s.startBound i n (s.eng n).ended
        if i.hasTick then (if i.ts < b then .late b else .go c (ccAt i.ts)) else .go c b

/-- Whether a frame of FEn would wait for its check-value channel: it is quiesced, or a block reset of CVU has released it (R401), and no
spare stands in (R260). -/
def State.chanWaits (s : State) (n : Nat) : Bool := (s.engChan n).isNone

/-- Whether FEn and its player can take a command now: both idle, and the pages not quiesced (R266, R291, R313). -/
def State.engFree (s : State) (n : Nat) : Bool :=
  (s.eng n).exch.isNone && (s.eng n).disc.isNone && s.playerFree n &&
    !(s.rb (Reg.status (Page.fe n)) 0 && s.rb (Reg.ctrl (Page.fe n)) 0) && !s.rb (Reg.ctrl (Page.fe n)) 1

/-- Starts the DISCOVER that waits for FEn, when it can (R266); while a protection latch stands it completes with THERMAL (R432). -/
def startDisc (n : Nat) (s : State) : State :=
  match (s.eng n).discWait with
  | none => s
  | some i =>
    if !s.engFree n then s
    else
      let t := modEng n (fun e => { e with discWait := none }) s
      let i := { i with page := Page.fe n }
      if s.rb Reg.sensProt 28 then refuse i Err.thermal s.hotSite.1 s.hotSite.2 t
      else if s.feStd n ≠ fld (i.word 4) 31 28 then refuse i Err.modeAbort openDetail openDetail t
      else
        match t.startOn n i (if fld (i.word 5) 31 24 = 0 then Kind.discover else Kind.command) 0 true with
        | .no e x y => refuse i e x y t
        | .late b => refuseLate 0 i i.ts b t
        | .go c S =>
          let rate := if s.feStd n = 4 then s.freeVal % 3 else 0
          let d : Disc := { item := i, exps := fld (i.word 4) 19 16, rate := rate }
          let u := if s.feStd n = 4 then nextFree t else t
          startSection n c S 0 (fePhase n 1 (modEng n (fun e => { e with disc := some d }) u))

/-- DISCOVER (R266, R267): taken at dispatch; it starts when its engine is free, ahead of the pending lists. -/
def execDiscover (s : State) : Host.Outcome State Fault Refusal :=
  .next (dispatch 0x0c (fun i s =>
    let n := fld (i.word 4) 27 26
    if s.discBad i n then refuse i Err.modeAbort openDetail openDetail s
    else if (s.eng n).disc.isSome ∨ (s.eng n).discWait.isSome then
      refuse i Err.resourceBusy ((4 + n) * 4096) (0x10 + n) s
    else startDisc n (modEng n (fun e => { e with discWait := some i }) s)) s)

/-- The first command of slot `k`'s pending list leaves it. -/
def dropPending (k : Nat) (s : State) : State := setPend k (s.pendOf k).tail s

/-- Starts the HF_EXCHANGE `i` of slot `k` on FEn (R21, R261, R290). What its context holds may have been written since its dispatch, and is checked
again (R264, R393, R398). -/
def startHf (k n : Nat) (i : Item) (s : State) : State :=
  let fr := fld (i.word 4) 31 28
  let t := dropPending k s
  let j := { i with page := Page.fe n }
  match hfCheck 0 i k s with
  | some (e, x, y) => refuseFor k j e x y t
  | none =>
  match s.startOn n i (if fld (i.word 5) 31 24 = 0 then Kind.exchange else Kind.command) fr (s.feStd n != 5) with
  | .no e x y => refuseFor k j e x y t
  | .late b => refuseLate k j i.ts b t
  | .go c S =>
    let x : Exch := { item := i, slot := k, start := S, frame := hfFrame i, isL4 := fr == 2,
                      l4 := l4Start (hfTx i) (s.ctx k 0x0e % 2) }
    startSection n c S k (setReg (Reg.feExchStatus n) (wd (s.sessHandle k * 65536 + 256 + s.rf (Reg.feExchStatus n) 7 0))
      (modEng n (fun e => { e with exch := some x }) (sif (s.sessState k == SessState.placed) (setSessState k SessState.busy) t)))

/-! ## The end of what is in flight -/

/-- Whether FEn has nothing to come: no section plays, no step is in flight, no frame is on air, no window is open. -/
def State.engQuiet (s : State) (n : Nat) : Bool :=
  !s.stepsLeft n && (s.eng n).air.opened.isNone && (s.rf (Reg.feExchStatus n) 10 8 != 2)

/-- With nothing to come for the exchange of FEn, it ends with NO_REPLY; a discovery ends with what it has. -/
def engSettle (n : Nat) (s : State) : State :=
  match (s.eng n).exch, (s.eng n).disc with
  | some x, _ =>
    if s.engQuiet n && !(x.isL4 && x.l4.more) then finishExch n { status := 1, ts := s.now, endsAt := some s.now } (noReplyCount n 1 s) else s
  | none, some d => if s.engQuiet n then finishDisc n d s else s
  | none, none => s

/-! ## TX and RXWIN steps (R253, R254, R299) -/

/-- The rate at which FEn sends in slot `k`'s session (R264). -/
def State.sendRate (s : State) (k : Nat) : Nat := s.ctx k 9 % 16

/-- Whether a frame awaits its reply in FEn's window. -/
def State.awaiting (s : State) (n : Nat) : Bool :=
  (s.eng n).air.ref.isSome && ((match (s.eng n).exch with
    | some x => !x.toSend
    | none => false) || (match (s.eng n).disc with
    | some d => d.sent
    | none => false))

/-- Whether FEn is still at an exchange that R253 moved: its frame is to come or on air, or its reply is awaited. -/
def State.movedOn (s : State) (n : Nat) : Bool :=
  decide (0 < (s.eng n).air.delay) && (s.rf (Reg.feExchStatus n) 10 8 == 2 || s.awaiting n)

/-- The frame that the exchange sends next, and what sending it does; `floor` and `waited` are those of sendFrame. -/
def exchSend (n floor waited t : Nat) (x : Exch) (s : State) : State :=
  let rate := s.sendRate x.slot
  if x.isL4 then
    let f := s.l4Frame x.slot x.l4
    sendFrame n f.1 (some x.slot) rate floor waited t (modExch n (fun y => { y with l4 := f.2, toSend := false, begun := true }) s)
  else sendFrame n x.frame (some x.slot) rate floor waited t (modExch n (fun y => { y with toSend := false, begun := true }) s)

/-- The coil for which the exchange or discovery whose first frame is to start on FEn is refused (R226, R279): its section may have changed
the profiles by then. -/
def State.firstBad (s : State) (n : Nat) : Option Nat :=
  match (s.eng n).exch, (s.eng n).disc with
  | some x, _ => if x.begun || x.xb then none else s.coilsBad n (s.feStd n != 5)
  | none, some d => if d.begun then none else s.coilsBad n true
  | none, none => none

/-- What FEn has in flight is refused with MODE_ABORT as its first frame starts, for coil `c` (R226). -/
def firstRefused (n c : Nat) (s : State) : State :=
  match (s.eng n).exch, (s.eng n).disc with
  | some x, _ => frameDone x.slot (refuseFor x.slot { x.item with page := Page.fe n } Err.modeAbort c 0 (engIdle n Err.modeAbort s))
  | none, some d =>
    refuse { d.item with page := Page.fe n } Err.modeAbort c 0 (engIdle n Err.modeAbort (modEng n (fun e => { e with disc := none }) s))
  | none, none => s

/-- An EOF-only frame of FEn (R249, R295): the next slot's frame where a discovery needs one (R272), or one of the exchange's; a slot
that the discovery does not need passes unmodulated, as one left in its section `sec` when it has ended (R268). -/
def eofAct (n floor waited t sec : Nat) (s : State) : State :=
  let e := s.eng n
  let next := e.exch.isNone && e.disc.any (fun d => !d.sent && (discFrame d).eof)
  if e.exch.isNone && !next && (e.disc.isSome || (sec != 0 && sec == e.discSec)) then s
  else
    sendFrame n { eof := true, txCrc := false, rxCrc := next || e.air.frame.rxCrc } (e.exch.map Exch.slot)
      ((e.exch.map (fun x => s.sendRate x.slot)).getD 0) floor waited t
      (sif next (modEng n (fun e => { e with disc := e.disc.map discSent }))
        (modExch n (fun x => { x with begun := true, toSend := x.toSend && !x.frame.eof }) s))

/-- A TX step acts at tick `t` (R253, R268, R279, R295): the first frame of an exchange or of a discovery finds out whether its coils
serve it. -/
def txAct (n floor waited t : Nat) (i : Issued) (s : State) : State :=
  let e := s.eng n
  if s.rb (Reg.ctrl (Page.fe n)) 0 = false ∨ 2 ≤ i.operand % 4 ∨ (i.operand % 4 = 1 ∧ s.feStd n ≠ 3) then
    stepRefused n i.slot Err.modeAbort i.index s
  else
    match s.firstBad n, e.exch, e.disc with
    | some c, _, _ => firstRefused n c s
    | none, ex, di =>
    if i.operand % 4 = 1 then eofAct n floor waited t i.sec s
    else
    match ex, di with
    | some x, _ => if x.toSend then exchSend n floor waited t x s else s
    | none, some d =>
      if d.sent then s
      else sendFrame n (discFrame d) none d.rate floor waited t (modEng n (fun e => { e with disc := some (discSent d) }) s)
    | none, none => s

/-- The window that an RXWIN step opens on its tick (R253, R254, R256): moved by the exchange's D; after S(WTX) it closes
with the extended waiting time. -/
def openWindow (n : Nat) (i : Issued) (s : State) : State :=
  let a := (s.eng n).air
  let len := i.operand % 2 ^ 24
  let o := i.act + 8 * a.delay
  let c := match (s.eng n).exch with
    | some x =>
      if x.isL4 ∧ 0 < x.l4.wtxm then a.ref.getD o + 8 * s.wtxWindow x.slot x.l4.wtxm
      else o + 8 * len
    | none => o + 8 * len
  modAir n (fun a => { a with opened := some o, close := some c, sof := none, sec := i.sec }) s

/-- A TX or RXWIN step that FEn has held acts (R253, R260), or is held on while a frame must wait. `floor` is the end of the exchange
that was moved. -/
def heldStep (n floor : Nat) (i : Issued) (s : State) : State :=
  if (s.eng n).waits ≠ [] ∨ (i.op = 3 ∧ (s.movedOn n || s.chanWaits n)) then modEng n (fun e => { e with waits := e.waits ++ [i] }) s
  else if i.op = 3 then txAct n floor (ccAt s.now) (ccAt i.act) i s
  else openWindow n i s

/-- The steps that FEn holds act once what they wait for is over (R253, R260). -/
def serveWaits (n : Nat) (s : State) : State :=
  match (s.eng n).waits with
  | [] => s
  | l =>
    let floor := max (s.eng n).floor (if 0 < (s.eng n).air.delay then ccAt ((s.eng n).rxEnd.getD 0) else 0)
    let t := l.foldl (fun t i => heldStep n floor i t) (modEng n (fun e => { e with waits := [] }) s)
    modEng n (fun e => { e with floor := if e.waits = [] then 0 else floor }) t

/-- What follows when something of FEn has ended: with nothing to come the exchange ends, a step that waited acts, and the DISCOVER that
waits starts (R253, R266). -/
def engAfter (n : Nat) (s : State) : State := startDisc n (serveWaits n (engSettle n s))

/-- TX_STEP (R253): the step acts at the carrier-cycle boundary of its tick. -/
def execTxStep (n : EngIx) (s : State) : Host.Outcome State Fault Refusal :=
  .next (takeStep n 3 (Page.fe n) (fun i s =>
    let t := ccAt i.act
    let u := stepActed n (Page.fe n) i i.act t (passTo t s)
    if (s.eng n).waits ≠ [] ∨ s.movedOn n || s.chanWaits n then modEng n (fun e => { e with waits := e.waits ++ [i] }) u
    else engAfter n (txAct n 0 0 t i u)) s)

/-- RXWIN_STEP (R254): the window opens on the step's tick. -/
def execRxwinStep (n : EngIx) (s : State) : Host.Outcome State Fault Refusal :=
  .next (takeStep n 4 (Page.fe n) (fun i s =>
    if s.rb (Reg.ctrl (Page.fe n)) 0 = false then engAfter n (stepRefused n i.slot Err.modeAbort i.index s)
    else
      let u := stepActed n (Page.fe n) i i.act i.act (passTo i.act s)
      if (s.eng n).waits ≠ [] then modEng n (fun e => { e with waits := e.waits ++ [i] }) u
      else openWindow n i u) s)

/-! ## Frames (R247, R252, R265) -/

/-- What the end of the frame does to the exchange: an Opkar HF frame has no reply (R251). -/
def txEnded (n r : Nat) (s : State) : State :=
  match (s.eng n).exch with
  | none => s
  | some x =>
    let t := incCtx32 x.slot 0xb0 s
    if s.feStd n = 5 then finishExch n { status := 9, ts := r } t else t

/-- The frame that FEn has sent ends on its channel with what has not been fed yet (R397). -/
def engSent (n : Nat) (s : State) : State :=
  let t := engFeed n s
  engClose n ((((t.eng n).check.map Check.bytes).getD []).map Prod.snd) none t

/-- The frame of FEn that is to start on its channel starts, its first bit having come, or waits on (R397, R400). -/
def engBegun (n : Nat) (s : State) : State :=
  match (s.eng n).opening with
  | none => s
  | some (st, _) => engFeed n (passTo st s)

/-- HF_TX_END (R247): the frame reaches its reference tick; one that waits for its channel has yet to start. -/
def execHfTxEnd (n : EngIx) (s0 : State) : Host.Outcome State Fault Refusal :=
  let s := engBegun n s0
  .next (match (s.eng n).air.ref with
    | none => s
    | some r =>
      if s.rf (Reg.feExchStatus n) 10 8 ≠ 2 ∨ (s.eng n).opening.isSome then s
      else
        engAfter n (txEnded n r (feEvent n 1 r (fePhase n 3 (irq (Page.fe n) 0 (addRf (Reg.feFrameCnt n) 15 0 1
          (engSent n (modEng n (fun e => { e with lastTx := some r }) (envelopeEnd n (passTo r s))))))))))

/-- GUARD_DONE (R252): the guard time after field-on has passed. -/
def execGuardDone (n : EngIx) (s : State) : Host.Outcome State Fault Refusal :=
  .next (match s.guardEnd n with
    | none => s
    | some g =>
      if s.rb (Reg.feFieldStatus n) 31 then s
      else feEvent n 5 g (irq (Page.fe n) 7 (setRb (Reg.feFieldStatus n) 31 true (passTo g s))))

/-! ## Replies (R254, R262) -/

/-- The outcome of a window goes to what is in flight: the exchange, its layer 4, or the discovery, whose every frame is an exchange of
its own for RX_ERR (R265; log entry 90). -/
def windowOutcome (n : Nat) (o : RxOut) (answered : Bool) (nbits slot18 : Nat) (loc : List Nat) (s : State) : State :=
  match (s.eng n).exch, (s.eng n).disc with
  | some x, _ => engAfter n (if x.isL4 then l4Reply n x o s else finishExch n o s)
  | none, some d => engAfter n (onDisc n d o answered nbits slot18 loc (exchErr n o s))
  | none, none => fePhase n 0 s

/-- The window closes without a reply, or with one that began before it (R254). -/
def windowEnd (n t status : Nat) (s : State) : State :=
  let u := modAir n (fun a => { a with opened := none, close := none, sof := none }) s
  windowOutcome n { status := status, ts := t } false 0 0 [] (noReply n t status u)

/-- The rate and the preset of what FEn has in flight. -/
def State.airPreset (s : State) (n : Nat) : Nat × Nat :=
  let rate := match (s.eng n).disc with
    | some d => d.rate
    | none => s.sendRate (((s.eng n).exch.map Exch.slot).getD 0)
  (rate, match (s.eng n).exch.map Exch.slot with
    | none => presetFor (s.feStd n) rate
    | some k => s.ctx k 0x40 % 16)

/-- A reply starts on a check-value channel at its SOF (R260, R397); with RX_CRC at 0 it has no value to compare. -/
def hearCheck (n : Nat) (s : State) : State :=
  engOpen n ((s.eng n).exch.map Exch.slot) (s.airPreset n).2 (s.eng n).air.frame.rxCrc [] s

/-- The mean of receive sums; 0 of none. -/
def meanSum (l : List (Int × Int)) : Int × Int :=
  (openDiv (l.map Prod.fst).sum l.length, openDiv (l.map Prod.snd).sum l.length)

/-- The modulation amplitude of R254: |y − ȳ| averaged over the outputs given. -/
def modAmp (base : Int × Int) (l : List (Int × Int)) : Nat :=
  let d := fun (y : Int × Int) => openRoot ((y.1 - base.1) * (y.1 - base.1) + (y.2 - base.2) * (y.2 - base.2)).toNat 1
  openDivNat (l.map d).sum l.length

/-- Whether a start of frame is one that a standard's decoder accepts at rate `dr` (R248–R250). -/
def sofFits (std dr : Nat) : SofShape → Bool
  | .fixed r => r == dr && std != 2 && !(std == 4 && dr != 0)
  | .typeB r tr1 low high =>
    let p := bitCc dr
    r == dr && std == 2 && decide (512 ≤ tr1 ∧ 10 * p ≤ low ∧ low ≤ 11 * p ∧ 2 * p ≤ high ∧ high ≤ 3 * p)
  | .manchester r bits sync => r == dr && std == 4 && dr != 0 && decide (48 ≤ bits) && sync == [0xb2, 0x4d]

/-- An output of FEn's receive sum: its centre at the pins in half ticks, whether it is eligible, and y. -/
structure SumOut where
  at2 : Nat
  good : Bool
  y : Int × Int
  deriving DecidableEq, Repr

/-- The outputs of FEn's receive sum, the latest first (R216, R229): those of the lowest coil in it, whose group delay all share (R226). An
output that settles is not eligible (R220). -/
def State.sumOuts (s : State) (n : Nat) : List SumOut :=
  match (List.range 12).filter (fun c => s.usesCoil n c) with
  | [] => []
  | c :: _ => (s.coil c).outs.map (fun o => ⟨o.at2, o.good, s.receiveSumAt n o.tick⟩)

/-- The carrier baseline of a window that opens at tick `o` (R254): the mean of y over the 16 eligible outputs before it. -/
def carrierMean (l : List SumOut) (o : Nat) : Int × Int :=
  meanSum (((l.filter (fun x => x.good && decide (x.at2 < 2 * o))).take 16).map SumOut.y)

/-- The modulation amplitude of the output whose centre lies at `at2`, averaged over `half` carrier cycles that end in it (R254). -/
def modAmpAt (l : List SumOut) (base : Int × Int) (half at2 : Nat) : Nat :=
  modAmp base ((l.filter (fun x => decide (x.at2 ≤ at2 ∧ at2 < x.at2 + 16 * half))).map SumOut.y)

/-- Whether a reply began before the window that opened at tick `o` (R254): the modulation amplitude of the first eligible output from then on
lies above SOF_LEVEL. `low` tells the subcarrier, where the reply may have two. -/
def State.beganEarly (s : State) (n o : Nat) (low : Bool) : Bool :=
  let l := s.sumOuts n
  match l.reverse.find? (fun x => x.good && decide (2 * o ≤ x.at2)) with
  | none => false
  | some x => decide (s.rf (Reg.feRxCfg n) 23 0 < modAmpAt l (carrierMean l o) (halfCycle (s.feStd n) (s.replyRate n) low) x.at2)

/-- The mean modulation amplitude of the outputs whose centres lie from tick `a` to tick `b` (R262). -/
def meanAmp (l : List SumOut) (base : Int × Int) (half a b : Nat) : Nat :=
  let k := l.filter (fun x => decide (2 * a ≤ x.at2 ∧ x.at2 ≤ 2 * b))
  openDivNat (k.map (fun x => modAmpAt l base half x.at2)).sum k.length

/-- The output on which FEn finds a start of frame that stands from tick `t` to `ends` at the pins (R254): the first eligible one whose centre
lies there (DEDUCED, log entry 91) and whose modulation amplitude is at or above SOF_LEVEL; `base` is the carrier baseline, and `half` the
half-cycle over which the amplitude is averaged. -/
def State.sofOut (s : State) (n t ends : Nat) (base : Int × Int) (half : Nat) : Option SumOut :=
  let l := s.sumOuts n
  l.reverse.find? (fun x => x.good && decide (2 * t ≤ x.at2 ∧ x.at2 ≤ 2 * ends) &&
    decide (s.rf (Reg.feRxCfg n) 23 0 ≤ modAmpAt l base half x.at2))

/-- The tick of a centre at `at2` half ticks; between two ticks it is one of them (log entry 91). -/
def halfTick (at2 : Nat) : Nat := openDivNat at2 2

/-- HF_RX_SOF (R254, R20, R216): the decoder finds the pattern of a start of frame that stands at `tick` at the pins and lasts to `ends`; `low` tells
which of two subcarriers it is on. The chain outputs decide the rest. -/
def execHfRxSof (n : EngIx) (tick ends : Nat) (low : Bool) (shape : SofShape) (s : State) : Host.Outcome State Fault Refusal :=
  .next (
    let a := (s.eng n).air
    match a.opened, a.close with
    | some o, some c =>
      let l := s.sumOuts n
      let y := carrierMean l o
      let half := halfCycle (s.feStd n) (s.replyRate n) low
      if !s.awaiting n || a.sof.isSome then s
      else if s.beganEarly n o low then windowEnd n c 2 (passTo c s)
      else
        match s.sofOut n tick ends y half with
        | none => s
        | some x =>
          let t := halfTick x.at2
          if t < o ∨ c < t ∨ sofFits (s.feStd n) (s.replyRate n) shape = false then s
          else feEvent n 2 t (fePhase n 4 (setPair (Reg.feLastSofLo n) t (hearCheck n
            (modAir n (fun a => { a with sof := some t, level := meanAmp l y half t ends }) (passTo t s)))))
    | _, _ => s)

/-- The end of a reply that came in FEn's window (R262). -/
def replyEnd (n : Nat) (r : HfReply) (sof : Nat) (s : State) : State :=
  let e := s.eng n
  let slot := e.exch.map Exch.slot
  let rate := (s.airPreset n).1
  let pr := (s.airPreset n).2
  let l4 := (e.exch.map Exch.isL4).getD false
  let store := match slot with
    | none => 4096
    | some k => if l4 then min (s.frameMax k * 512) (frameSize (s.ctx k 0x0a % 16)) else s.frameMax k * 512
  let syms := if s.feStd n = 4 ∧ s.replyRate n ≠ 0 then (frameBits true (s.heardBits n r).1).1.length else r.line.length
  let t := max r.endTick (sof + 8 * (syms * replyBitCc (s.feStd n) (s.replyRate n)))
  let loc := s.locAmps sof t r.loads
  let got := receive n slot pr store r (passTo t s)
  let o := got.1
  let ats := decide (s.feStd n = 1 ∨ s.feStd n = 4) && e.air.frame.data.headD 0 == 0xe0 && o.status == 0
  let u := replyEnded n t o.status (setFdt n o.fdt got.2)
  let v := modEng n (fun e => { e with atsEnd := if ats then slot.map (fun k => (t, k)) else e.atsEnd }) u
  let w := match slot with
    | none => v
    | some k => localiseReply n k loc (incCtx32 k 0xb4 (poolStore k o.stored v))
  let slot18 := (sof - e.air.ref.getD sof - 8 * 32704) / (8 * 16384)
  let hold := decide (s.feStd n = 4 ∧ slot = none ∧ rate ≠ 0 ∧ t < e.air.close.getD 0)
  let x := if hold then w else modAir n (fun a => { a with opened := none, close := none, sof := none }) w
  windowOutcome n o true (s.heardBits n r).1.length slot18 loc x

/-- Whether a reply of FEn waits for its check-value channel (R260): the channel was quiesced at its start of frame and still is. -/
def State.checkWaits (s : State) (n : Nat) : Bool :=
  (s.eng n).check.isNone && s.chanWaits n

/-- HF_RX_END (R262): the reply in FEn's window ends. With its check-value channel quiesced the exchange waits (R143, R260). -/
def execHfRxEnd (n : EngIx) (r : HfReply) (s : State) : Host.Outcome State Fault Refusal :=
  .next (match (s.eng n).air.sof with
    | none => s
    | some t =>
      if (s.eng n).heard.isSome then s
      else if s.checkWaits n then modEng n (fun e => { e with heard := some r }) (passTo r.endTick s)
      else replyEnd n r t s)

/-- A reply whose check waited runs it once the channel is released (R260). -/
def serveHeard (n : Nat) (s : State) : State :=
  match (s.eng n).heard, (s.eng n).air.sof with
  | some r, some t =>
    if s.checkWaits n then s
    else replyEnd n r t (modEng n (fun e => { e with heard := none }) (sif (s.eng n).check.isNone (hearCheck n) s))
  | _, _ => s

/-- The tick since which FEn waits for a check-value channel, if it does: for a step, for a frame that is to start, or for a reply's check. -/
def State.waitSince (s : State) (n : Nat) : Option Nat :=
  let e := s.eng n
  match e.waits, e.opening, e.heard with
  | i :: _, _, _ => some i.act
  | [], some (st, _), _ => some st
  | [], none, some r => some r.endTick
  | [], none, none => none

/-- Engine `n` takes its place among engines in the order in which their waiting frames arrived, after those of the same tick. -/
def State.serveAfter (s : State) (n : Nat) : List Nat → List Nat
  | [] => [n]
  | m :: l => if (s.waitSince n).any (fun x => (s.waitSince m).all (fun y => decide (x < y))) then n :: m :: l else m :: s.serveAfter n l

/-- The engines in the order in which their waiting frames arrived (R400); those that wait for nothing come last. -/
def State.serveOrder (s : State) : List Nat := (List.range 4).foldl (fun l n => s.serveAfter n l) []

/-- What FEn holds for a channel or an exchange that has become free goes on (R253, R260, R266), and so does the frame on its channel. -/
def engServe (n : Nat) (s : State) : State := startDisc n (serveWaits n (serveHeard n (engFeed n s)))

/-- RX_WINDOW_CLOSE (R254): the window closes with no start of frame found. The window of an 18092 polling that has had a
response only ends its round; a window that no frame preceded only tells the tick at which it closed (R294). -/
def execRxWindowClose (n : EngIx) (s : State) : Host.Outcome State Fault Refusal :=
  .next (match (s.eng n).air.close, (s.eng n).air.sof with
    | some c, none =>
      let t := passTo c s
      if !s.awaiting n then
        engAfter n (modEng n (fun e => { e with
          rxEnd := some c, rxNone := true, rxOk := false, air := { e.air with opened := none, close := none } }) t)
      else
        match (s.eng n).disc with
        | some d =>
          if d.heard then engAfter n (onDisc n d { status := 1, ts := c } false 0 0 []
            (modAir n (fun a => { a with opened := none, close := none }) t))
          else windowEnd n c (if s.beganEarly n (((s.eng n).air.opened).getD 0) true then 2 else 1) t
        | none => windowEnd n c (if s.beganEarly n (((s.eng n).air.opened).getD 0) true then 2 else 1) t
    | _, _ => s)

/-! ## Ends brought about from outside (R209, R263, R306, R471) -/

/-- The exchange or the discovery in flight on FEn ends at tick `t` with a code; the field stays as it is. -/
def abortEngine (n cause t : Nat) (s : State) : State :=
  match (s.eng n).exch, (s.eng n).disc with
  | some _, _ => engAfter n (engFault n cause t s)
  | none, some d => engAfter n (finishDisc n { d with errs := addErr cause d.errs } (rxCut n t s))
  | none, none => s

/-- FE_ABORT (R263): an event on task input 0x90 + n ends the exchange at the next carrier-cycle boundary. -/
def execFeAbort (n : EngIx) (s : State) : Host.Outcome State Fault Refusal :=
  .next (onTask (0x90 + n) (fun _ => false) (fun _ t => abortEngine n Err.modeAbort (ccAt t.now) (passTo (ccAt t.now) t)) s)

/-- The field of FEn has stopped other than by a FIELD step (R471), at tick `t`; the condition sets its class (R469, R474). -/
def fieldStopped (n cause t : Nat) (s : State) : State :=
  clearBlockNr n (abortEngine n cause t (feEvent n 7 t (irq (Page.fe n) 5
    (faultOpt (errClass cause) (Page.fe n) cause (guardClear n (fieldFollow n s))))))

/-- A write to FEn.CNT_CLR (R265). -/
def feCntClr (ag : Agent) (n : Nat) (w : Word) : State → State :=
  hold ag (Reg.feCntClr n) w <| guarded ag (Reg.feCntClr n) (fun s =>
    sif (bit w 0) (fun t => setReg (Reg.feErrCnt n) 0 (setReg (Reg.feFrameCnt n) 0 t))
      (sif (bit w 1) (setReg (Reg.feGuardCnt n) 0) s))

/-- FEN_CNT_CLR (R265). -/
def execFenCntClr (ag : Agent) (n : EngIx) (w : Word) (s : State) : Host.Outcome State Fault Refusal :=
  .next (feCntClr ag n w s)

end Sys2Proof.Machine
end

