-- ==== Sys2Proof/Machine/RbChain.lean ====
section
/-! DEFINITION. The receive chain of the return band (14_return_band_receiver, R340): the sub-converters with their corrections, the mixer, the two
decimators and the channel filter, whose coefficients the manual leaves open (log entry 116). -/

namespace Sys2Proof.Machine

/-- The samples that a filter with taps `h`, newest first, gives when the rate falls by `d`: each from the block of `d` that it ends and what stands before. -/
def firDown (h : List Int) (d : Nat) (l : List (Int × Int)) : List (Int × Int) :=
  (List.range (l.length / d)).map (fun m =>
    let e := d * m + d - 1
    h.zipIdx.foldl (fun a p => if p.2 ≤ e then (a.1 + p.1 * (l.getD (e - p.2) (0, 0)).1, a.2 + p.1 * (l.getD (e - p.2) (0, 0)).2) else a) (0, 0))

/-- The phase of the oscillator at converter sample `n` on channel `k`, in 1/24,408,000 of a turn: f_k of R315 over 2,440.8 MHz. -/
def ncoPhase (k n : Nat) : Nat := n * (8635085 + 10170 * k) % 24408000

/-- Code `x`, converter sample `n`: corrected for its sub-converter, the eight of which sample in turn, and mixed (R340). -/
def State.rbMix (s : State) (n : Nat) (x : Int) : Int × Int :=
  let v := Config.interleaveFix (tabGet 0 s.mgt.trims (16 + n % 8)) x
  let c := Config.nco (ncoPhase (s.rf Reg.rbSynState 9 4) n)
  (v * c.1, -(v * c.2))

/-- How many codes, in whole baseband samples, the three filters reach back. -/
def filterSpan : Nat :=
  2400 * ((Config.taps 2).length + (Config.taps 1).length / 300 + (Config.taps 0).length / 2400 + 2)

/-- What R340 asks of the coefficients `h`, by the response at `f` Hz from the channel: within 0.5 dB of that at its centre up to 476.7 kHz, and at
least 40 dB below it from 540.3 kHz. The model leaves the coefficients free (log entry 116): a claim that rests on the filter takes this as a
premise. -/
def FilterMeets (h : Nat → List Int) : Prop :=
  let gain := fun (l : List Int) (x : ℝ) =>
    (l.zipIdx.map (fun p => (p.1 : ℝ) * Real.cos (2 * Real.pi * x * p.2))).sum ^ 2 +
      (l.zipIdx.map (fun p => (p.1 : ℝ) * Real.sin (2 * Real.pi * x * p.2))).sum ^ 2
  let power := fun f : ℝ => gain (h 0) (f / 2440800000) * gain (h 1) (f / 305100000) * gain (h 2) (f / 1017000)
  0 < power 0 ∧
    (∀ f : ℝ, |f| ≤ 476700 → |Real.logb 10 (power f / power 0)| ≤ 5 / 100) ∧
      ∀ f : ℝ, 540300 ≤ |f| → |f| ≤ 1220400000 → 10000 * power f ≤ power 0

/-- The codes that stand before converter sample `first`, as far as earlier commands have brought them without a gap. -/
def State.codesBefore (s : State) (first : Nat) : List Int := if s.rx.pastTo = first then s.rx.past else []

/-- The baseband samples of the codes from converter sample `first` on (R340), after those that came before them. -/
def State.rbChain (s : State) (first : Nat) (l0 : List Int) : List (Int × Int) :=
  let h := s.codesBefore first
  let l := h ++ l0
  let mixed := l.zipIdx.map (fun p => s.rbMix (first - h.length + p.2) p.1)
  let y := firDown (Config.taps 2) 1 (firDown (Config.taps 1) 300 (firDown (Config.taps 0) 8 mixed))
  let refer := Config.atBall (s.rf Reg.rbRxAgcStatus 3 0)
  (y.drop (h.length / 2400)).map (fun p => (refer p.1, refer p.2))

/-- The baseband samples that a command brings (R340). -/
def State.baseband (s : State) (x : RbSamples) : List (Int × Int) :=
  match x with
  | .base l => l
  | .codes first l => s.rbChain first l

/-- The same as samples of the baseband. -/
def State.heard (s : State) (x : RbSamples) : RbSamples := .base (s.baseband x)

/-- The codes that a command brings stand in the filters for the next one: the latest that they reach back, in whole baseband samples. -/
def codesTaken (x : RbSamples) (s : State) : State :=
  match x with
  | .base _ => s
  | .codes first l =>
    let a := s.codesBefore first ++ l
    { s with rx := { s.rx with past := a.drop (a.length - min filterSpan (a.length / 2400 * 2400)), pastTo := first + l.length } }

/-- Samples of the baseband as a list. -/
def baseList (x : RbSamples) : List (Int × Int) :=
  match x with
  | .base l => l
  | .codes _ _ => []

/-- Whether one of the converter's codes clips (R348). -/
def codesClip (x : RbSamples) : Bool :=
  match x with
  | .base _ => false
  | .codes _ l => l.any (fun v => v == -512 || v == 511)

end Sys2Proof.Machine
end

