-- ==== Sys2Proof/Machine/Receiver.lean ====
section
/-! DEFINITION. The return-band receiver (14_return_band_receiver, R340–R364): detection, gain, timing, the header, newer
preambles and capture, receive windows and their outcomes, the noise floor and the survey of the aerials. -/

namespace Sys2Proof.Machine

/-! ## Windows (R352, R353) -/

/-- The window that a reception belongs to. -/
def State.winOf (s : State) (tag : Nat) : Option RbWindow :=
  if tag = 1 then s.rx.win else if tag = 2 then s.rx.old else none

/-- Changes a window. -/
def modWin (tag : Nat) (f : RbWindow → RbWindow) : State → State :=
  modRx (fun x => if tag = 1 then { x with win := x.win.map f } else if tag = 2 then { x with old := x.old.map f } else x)

/-- OUTCOME of a window (R353). -/
def outcomeCode (w : RbWindow) : Nat :=
  if w.aborted then 4 else if w.got then 0 else if w.early then 3 else if w.detected then 2 else 1

/-- Writes RB_DEM.OUTCOME for a window (R353, R363). -/
def recordOutcome (tag : Nat) (s : State) : State :=
  match s.winOf tag with
  | none => s
  | some w =>
    modWin tag (fun w => { w with done := true }) (irq Page.rbDem 5 (setReg Reg.rbDemOutcome
      (wd (min 15 w.falseSyncs * 256 + w.captured.toNat * 128 + w.restarted.toNat * 64 + outcomeCode w)) s))

/-- What a closed window means to the exchange that waited in it (R378, R383). -/
def exWindow (w : RbWindow) (t : Nat) (s : State) : State :=
  match s.link.ex with
  | none => s
  | some x =>
    if !w.forEx then s
    else if linkCmd x.item = Cmd.wake then
      modEx (fun x => { x with slotNo := x.slotNo + 1
                               collided := x.collided + (wakeCollided (outcomeCode w) w.captured w.lost).toNat }) s
    else if w.done then s
    else noPacket (outcomeCode w) t s

/-- A window whose receptions have ended goes, at tick `t`: its outcome is recorded, and the exchange that waits told. -/
def closeOut (tag t : Nat) (s : State) : State :=
  match s.winOf tag with
  | none => s
  | some w =>
    let a := if w.done then s else recordOutcome tag s
    let b := modRx (fun x => { x with
      win := if tag = 1 then none else x.win, old := if tag = 2 then none else x.old
      lastEnd := if w.got then x.lastEnd else some w.close, lastNone := if w.got then x.lastNone else true
      lastOk := w.got && x.lastOk }) a
    linkSettle (exWindow w t b)

/-- Whether the window `tag` has closed. -/
def State.winShut (s : State) (tag : Nat) : Bool := (s.winOf tag).any (fun w => !w.live)

/-- Whether a reception or a decoding of window `tag` goes on, or a packet of it waits for its check. -/
def State.winBusy (s : State) (tag : Nat) : Bool :=
  s.rx.rx.any (fun r => r.of == tag) || s.rx.dec.any (fun r => r.of == tag) || s.rx.kept.any (fun p => p.1.of == tag)

/-- The present window makes way for another at tick `t`: a packet still being received in it is no reply any more (R352); one that has ended
and only decodes was received in its own window. -/
def setAside (t : Nat) (s : State) : State :=
  if s.winBusy 1 then
    modRx (fun x => { x with
      old := x.win.map (fun w => { w with live := false, forEx := w.forEx && !x.rx.any (fun r => r.of == 1) }), win := none
      rx := x.rx.map (fun r => if r.of = 1 then { r with of := 2 } else r)
      dec := x.dec.map (fun r => if r.of = 1 then { r with of := 2 } else r) }) s
  else closeOut 1 t s

/-- Whether a window of player 4 is the one in which exchange `x` awaits its reply: it is on air, or its section is a cross-band one's. -/
def LinkEx.awaits (x : LinkEx) : Bool := !x.again && (x.sent || (x.xb && !linkNoReply x.item && x.section4 != 0))

/-- The window of an RBWIN step opens on the sample `o`, and closes on the first sample at or after its close tick (R17, R352); a
cross-band reply window without lock is abandoned (R36). -/
def openRb (i : Issued) (o : Nat) (s : State) : State :=
  match s.link.ex with
  | some x =>
    if x.xb ∧ x.awaits ∧ !s.rbLocked then noPacket 1 o (sectionErr 4 i.slot Err.late s)
    else go x.awaits
  | none => go false
where
  /-- Opens the window; `mine` tells that the exchange in flight awaits its reply in it. -/
  go (mine : Bool) : State :=
    let u := setAside o s
    let early := u.rx.rx.isSome
    let late := !early && u.rbState != 4
    sif late (sectionErr 4 i.slot Err.late) (modRx (fun x => { x with
      owed := false
      win := some { opened := o, close := sampleAt (i.act + 8 * (i.operand % 2 ^ 24)), early := early, late := late, forEx := mine
                    sec := i.sec } }) u)

/-- RBWIN_STEP (R352): the window opens on the first baseband sample at or after the step's tick; a quiesce of the radio holds the step
(R143). -/
def execRbwinStep (s : State) : Host.Outcome State Fault Refusal :=
  .next (takeAny 4 6 (fun i s =>
    if !s.rbPageOn Page.rbRx then stepRefused 4 i.slot Err.modeAbort i.index s
    else
      let o := sampleAt i.act
      linkSettle (openRb i o (stepActed 4 Page.rbRx i i.act o (passTo o s)))) s)

/-- Whether a window that closes sends the radio to its return state (R323): no packet was detected in it (a detection that ended in FALSE_SYNC
was none; log entry 117), for which a packet that still decodes counts, or the search for a cross-band reply goes on in it (R386). -/
def State.closeReturns (s : State) (w : RbWindow) : Bool :=
  (1 ≤ outcomeCode w && decide (outcomeCode w ≤ 3) && !s.rx.dec.any (fun r => r.of == 1) &&
    !s.rx.kept.any (fun p => p.1.of == 1)) || (s.rbState == 4 && w.forEx && s.link.ex.any LinkEx.xb)

/-- RB_WINDOW_CLOSE (R352, R323): a packet detected before goes on. Where that is an earlier packet, the return of a window without one of its own is
owed until that packet ends. -/
def execRbWindowClose (s : State) : Host.Outcome State Fault Refusal :=
  .next (match s.rx.win with
    | none => s
    | some w =>
      if !w.live then s
      else
        let t := modWin 1 (fun w => { w with live := false }) (passTo w.close s)
        let u := if t.winBusy 1 then t else closeOut 1 w.close t
        if !t.closeReturns w then u
        else if u.radioBusy then modRx (fun x => { x with owed := x.rx.isSome }) u
        else radioReturn w.close u)

/-! ## Detection and gain (R347–R349) -/

/-- The AGC target as it acts, in 0.25 dB below full scale. -/
def State.agcTarget (s : State) : Int := ((4 * max 12 (min 30 (fld s.rx.agc 23 16)) : Nat) : Int)

/-- The noise floor of an input. -/
def State.floorOf (s : State) (b : Bool) : Option Int := if b then s.rx.floorB else s.rx.floorA

/-- RB_RX.NOISE shows the floor of the input in use. -/
def showFloor (s : State) : State :=
  setRf Reg.rbRxNoise 15 0 (((s.floorOf s.rx.inputB).map (unsigned 16)).getD 0x8000) s

/-- Whether the aerials are surveyed (R335). -/
def State.survey (s : State) : Bool := s.rf Reg.rbAntMode 1 0 == 2

/-- The levels of the inputs A and B of a comparison. -/
def State.inputLevels (s : State) (d : Detection) : Int × Int :=
  if s.rx.inputB then (powerOf (baseList d.second), powerOf (baseList d.first)) else (powerOf (baseList d.first), powerOf (baseList d.second))

/-- Writes ATTEN and DGAIN. -/
def setGain (att : Nat) (gain : Int) (s : State) : State :=
  setRf Reg.rbRxAgcStatus 3 0 att (setRf Reg.rbRxAgcStatus 23 16 (unsigned 8 (satInt 8 gain)) s)

/-- The gain for a signal of `power` 0.25 dBm (R348): the attenuator at the multiple of 6 dB, to at most 48 dB, that brings it to the target or just below
it, and the digital gain at the remainder. -/
def gainFor (power : Int) (s : State) : State :=
  let full := power - Config.fullScale + s.agcTarget
  let a := min 8 ((full.toNat + 23) / 24)
  setGain a (((24 * a : Nat) : Int) - full) s

/-- What a signal at the ball gains on its way to the target level, in 0.25 dB: attenuator and digital gain, and the distance of the target from full
scale. -/
def State.toTarget (s : State) : Int :=
  signed 8 (s.rf Reg.rbRxAgcStatus 23 16) - ((24 * s.rf Reg.rbRxAgcStatus 3 0 : Nat) : Int) - Config.fullScale + s.agcTarget

/-- σ of R358 for the input in use, times 2^20: the noise rms that its floor gives (R360). -/
def State.noiseRms (s : State) : Nat :=
  match s.floorOf s.rx.inputB with
  | none => Config.noiseRms
  | some f => dbAmp f

/-- What the metrics of a reception that begins now rest on (R358, R361). -/
def State.equalNow (s : State) : Equal := ⟨s.rx.eqCfg, fld s.rx.decCfg 7 0, s.noiseRms, []⟩

/-- Detection on baseband sample `m` (R347, R349, R352). -/
def detected (d : Detection) (m : Nat) (s : State) : State :=
  let t := sampleTick m
  let swap := s.survey && decide (energy (baseList d.first) < energy (baseList d.second))
  let of := match s.rx.win with
    | none => 0
    | some w => if w.live && decide (w.opened ≤ t ∧ t ≤ w.close) then 1 else 0
  let lv := if s.survey then some (s.inputLevels d) else none
  let a := sif swap (gainFor (powerOf (baseList d.second))) (modRx (fun x => { x with inputB := if swap then !x.inputB else x.inputB }) s)
  let b := modWin of (fun w => { w with detected := true }) (modRx (fun x => { x with
    owed := false
    rx := some { det := m, c := (lag10 (detWin x.detCfg) 0 (baseList d.samples)).1, of := of, levels := lv, equal := a.equalNow } }) a)
  let c := showFloor (addRf Reg.rbRxRxCnt 31 16 1 (setRb Reg.rbRxAgcStatus 31 true b))
  setRbState 5 t (irq Page.rbRx 0 (publish 0xc1 t (publish 0xc0 t c)))

/-- Whether the window's mean power is at least MIN_SNR above the noise floor of the input in use (R347). -/
def State.loud (s : State) (l : List (Int × Int)) : Bool :=
  match s.floorOf s.rx.inputB with
  | none => true
  | some f =>
    dbAtLeast (lag10 (detWin s.rx.detCfg) 0 l).2 (detWin s.rx.detCfg * dbmUnit) (f + ((fld s.rx.detCfg 15 8 : Nat) : Int))

/-- The sample on which a detection's conditions are met: not before the present one. -/
def State.metOn (s : State) (d : Detection) : Nat := max d.sample (sampleNo s.now)

/-- Whether the conditions of R347 are met: ρ on HOLD samples, the power, and a whole window since the search began or the gain changed; no attack
runs. -/
def State.meets (s : State) (d : Detection) : Bool :=
  rhoHeld s.rx.detCfg (baseList d.samples) && s.loud (baseList d.samples) && !s.rx.attack &&
    decide (s.rx.winFrom + detWin s.rx.detCfg + detHold s.rx.detCfg ≤ s.metOn d + 2)

/-- The sample on which a detection is declared: in survey mode 10 samples after its conditions are met (R349). -/
def State.declaredOn (s : State) (d : Detection) : Nat := s.metOn d + (if s.survey then 10 else 0)

/-- PREAMBLE_DET (R347, R349): detection in RX_WAIT, when its conditions hold. -/
def execPreambleDet (x : Detection) (s : State) : Host.Outcome State Fault Refusal :=
  let d : Detection := { x with samples := s.heard x.samples, first := s.heard x.first, second := s.heard x.second }
  .next (if s.rbState = 4 ∧ s.rx.rx.isNone ∧ s.radio.legTo = none ∧ s.meets d then
    detected d (s.declaredOn d) (codesTaken x.samples (passTo (sampleTick (s.declaredOn d)) s))
  else s)

/-- The gain changes after baseband sample `e` (R347, R348, R360): the detection window and the count of R348 start anew, and the noise block is
spoilt. -/
def gainChanged (e : Nat) : State → State := modRx (fun x => { x with winFrom := e + 1, quiet := 0, spoil := some e })

/-- A block of the AGC that ends on baseband sample `e` (R348): a clip steps the attenuator up by 24 dB and repeats the block, a power above the target by more than TRIG
starts an attack, and one more than 12 dB below the target counts toward the release. -/
def agcBlock (e : Nat) (l : List (Int × Int)) (clip : Bool) (s : State) : State :=
  let att := s.rf Reg.rbRxAgcStatus 3 0
  let top : Int := Config.fullScale + ((24 * att : Nat) : Int) - s.agcTarget
  let above := fun x : Int => dbAbove (energy l) (l.length * dbmUnit) (top + x)
  let u := modRx (fun x => { x with agcFrom := e + 1, attack := clip
                                    quiet := if e = x.agcFrom + 3 then x.quiet else 0 }) s
  if clip then
    gainChanged e (irq Page.rbRx 2 (addRf Reg.rbRxRxCnt 15 0 1 (setRf Reg.rbRxAgcStatus 3 0 (min 8 (att + 4)) u)))
  else if above ((4 * max 1 (fld s.rx.agc 11 8) : Nat) : Int) then gainChanged e (gainFor (powerOf l) u)
  else if dbAtLeast (energy l) (l.length * dbmUnit) (top - 48) then modRx (fun x => { x with quiet := 0 }) u
  else modRx (fun x => { x with quiet := x.quiet + 4 }) u

/-- AGC_ATTACK (R348): the next block of 4 samples that the AGC measures while it is not frozen, and whether a converter sample of it clips. -/
def execAgcAttack (block : RbSamples) (clip : Bool) (s : State) : Host.Outcome State Fault Refusal :=
  let e := max s.rx.agcFrom (sampleNo s.now) + 3
  .next (if s.rbState ≠ 4 ∨ s.rb Reg.rbRxAgcStatus 31 then s else agcBlock e (s.baseband block) (clip || codesClip block) (codesTaken block (passTo (sampleTick e) s)))

/-- AGC_RELEASE (R348): once the power has stayed more than 12 dB below the target for 32 samples, the attenuator returns to 0 dB; at 0 dB no gain
changes. -/
def execAgcRelease (s : State) : Host.Outcome State Fault Refusal :=
  .next (if s.rbState ≠ 4 ∨ s.rb Reg.rbRxAgcStatus 31 ∨ s.rx.quiet < 32 ∨ s.rf Reg.rbRxAgcStatus 3 0 = 0 then s
    else gainChanged (s.rx.agcFrom - 1) (setRf Reg.rbRxAgcStatus 3 0 0 s))

/-! ## Ends of a reception (R351, R354, R356) -/

/-- The causes of a FALSE_SYNC, in the order of this list's use: TIMING, HCS, RATE, NEWER. -/
inductive SyncCause where
  | timing | hcs | rate | newer
  deriving DecidableEq, Repr

/-- The code that ERR_INFO shows for a cause: the manual gives none, so it is a constant of the part (log entry 42). -/
def SyncCause.code (c : SyncCause) : Nat :=
  Config.falseSyncCode (match c with
    | .timing => 0
    | .hcs => 1
    | .rate => 2
    | .newer => 3)

/-- Counts a FALSE_SYNC by its cause (R354, R363). -/
def SyncCause.count (c : SyncCause) : State → State :=
  match c with
  | .timing => addRf Reg.rbDemSyncCnt2 31 16 1
  | .newer => addRf Reg.rbDemSyncCnt2 15 0 1
  | _ => addRf Reg.rbDemSyncCnt 15 0 1

/-- Reports a FALSE_SYNC of the reception in window `tag` at tick `t` (R354). -/
def falseSync (c : SyncCause) (tag t : Nat) (s : State) : State :=
  modWin tag (fun w => { w with falseSyncs := w.falseSyncs + 1 }) (recErr Page.rbDem Err.falseSync c.code 0
    (c.count (publish 0xc4 t (irq Page.rbDem 1 s))))

/-- The reception is gone at tick `t`: the receiver rearms, or, its window closed or a request waiting, the radio goes on
(R354, R323). The return that a window closed in it is owed is made. -/
def rearm (t : Nat) (s : State) : State :=
  let tag := (s.rx.rx.map RbRx.of).getD 0
  let u := searchCfg t (modRx (fun x => { x with rx := none, owed := false }) s)
  let shut := u.winShut tag
  let v := if shut ∨ s.rx.owed ∨ u.radio.waiting.isSome ∨ u.radioHeld then radioReturn t u else setRbState 4 t u
  if shut ∧ !v.winBusy tag then closeOut tag t v else v

/-- A restart on a newer preamble at tick `t` (R356), with the short training's power setting the digital gain; `header` tells a restart of the header phase
(R363). With its long training out of the buffer of 128 samples it fails: TIMING and a rearm (log entry 151). -/
def restart (n : Preamble) (tag t : Nat) (levels : Option (Int × Int)) (header : Bool) (s : State) : State :=
  if sampleNo t ≤ n.start + 175 then
    let u := setRf Reg.rbRxAgcStatus 23 16 (unsigned 8 (satInt 8 (-(n.power + s.toTarget - signed 8 (s.rf Reg.rbRxAgcStatus 23 16))))) s
    modWin tag (fun w => { w with restarted := w.restarted || header }) (irq Page.rbDem 4 (modRx (fun x => { x with
      rx := some { det := n.sample, c := n.c, of := tag, levels := levels, equal := s.equalNow } }) u))
  else rearm t (falseSync .timing tag t s)

/-- The packet in progress is decoded no further (R355, R364), and its frame is abandoned on its channel. -/
def decodeStops (s : State) : State := linkDrop (setRb Reg.rbDecDecStatus 31 false s)

/-- A reception ends early with MODE_ABORT at tick `t` (R353): through task input 0x98, R328, R329 or a block reset. -/
def abortRx (t : Nat) (s : State) : State :=
  match s.rx.rx with
  | none => s
  | some r =>
    let u := searchCfg t (modWin r.of (fun w => { w with aborted := true }) (modRx (fun x => { x with
      rx := none, lastEnd := some t, lastNone := true, lastOk := false }) (sif (r.phase == 2) decodeStops s)))
    if u.winShut r.of ∧ !u.winBusy r.of then closeOut r.of t u else u

/-- A packet whose decoding runs on after its end, and those that wait for their check, are dropped at tick `t`, by a block reset (R353, R361). -/
def dropDec (t : Nat) (s : State) : State :=
  let l := (s.rx.dec.toList ++ s.rx.kept.map Prod.fst).map RbRx.of
  if l.isEmpty then s
  else
    forEach l (fun r v => if v.winShut r ∧ !v.winBusy r then closeOut r t v else v)
      (forEach l (fun r => modWin r (fun w => { w with aborted := true }))
        (modRx (fun x => { x with dec := none, kept := [], lastNone := true, lastOk := false }) (decodeStops s)))

/-- A reception under way is aborted and the radio returns to the state its window left it (R306, R324): what task 0x98 does. -/
def rbRxAbort (t : Nat) (s : State) : State := if s.rx.rx.isSome then radioReturn t (abortRx t s) else s

/-- RB_RX_ABORT (R353): an event on task input 0x98 ends the reception in progress. -/
def execRbRxAbort (s : State) : Host.Outcome State Fault Refusal :=
  .next (onTask 0x98 (fun _ => false) (fun _ t => rbRxAbort t.now t) s)

/-! ## Timing and offset (R350, R351, R357) -/

/-- Whether the samples 48–79 of a packet that starts on baseband sample `x.start` give its timing for reception `r` (R351): after its detection, within 56
samples of it, each of the two long symbols reaches its peak. The coarse offset is taken back (R350). -/
def RbRx.timedBy (r : RbRx) (x : LongSync) : Bool :=
  let l := turnAll (coarseOf r.c) 48 (baseList x.samples)
  decide (r.det < x.start + 48 ∧ x.start + 64 ≤ r.det + 56) && longPeak (l.take 16) && longPeak ((l.drop 16).take 16)

/-- LONG_TRAINING_SYNC (R351): two peaks 16 samples apart fix the packet's start tick. -/
def execLongTrainingSync (y : LongSync) (s : State) : Host.Outcome State Fault Refusal :=
  let x : LongSync := { y with samples := s.heard y.samples }
  .next (match s.rx.rx with
    | none => s
    | some r =>
      if r.timed ∨ !r.timedBy x then s
      else
        setPair Reg.rbDemStartLo (sampleTick x.start) (modRx (fun y => { y with rx := some { r with start := x.start, timed := true } })
          (codesTaken y.samples (passTo (sampleTick (x.start + 79)) s))))

/-- TIMING_TIMEOUT (R351): no pair of peaks within 56 samples of detection. -/
def execTimingTimeout (s : State) : Host.Outcome State Fault Refusal :=
  .next (match s.rx.rx with
    | none => s
    | some r =>
      if r.timed then s
      else
        let t := max s.now (sampleTick (r.det + 56))
        rearm t (falseSync .timing r.of t (passTo t s)))

/-- What the long training of reception `r` gives (R350, R357): the coarse and the total offset in 10 Hz, and the two long symbols' bins. -/
def RbRx.training (r : RbRx) (l : List (Int × Int)) : (Int × Int) × (List (Int × Int) × List (Int × Int)) :=
  let coarse := coarseOf r.c
  let total := coarse + fineOf coarse l
  let x := turnAll total 48 l
  ((coarse, total), binsOf (x.take 16), binsOf ((x.drop 16).take 16))

/-- LEVEL and SNR of a packet (R357), from the bins of its long symbols. -/
def levelWord2 (y1 y2 : List (Int × Int)) : Word :=
  let n := snrPair y1 y2
  wd (unsigned 16 (powerOf (tapsOf y1 y2)) * 65536 + unsigned 16 (dbOf n.1 n.2))

/-- AFC_FREEZE (R350, R357): on the tick of packet sample 80 the total offset is frozen and the taps stand, from the packet's samples 48–79. -/
def execAfcFreeze (samples : RbSamples) (s : State) : Host.Outcome State Fault Refusal :=
  .next (match s.rx.rx with
    | none => s
    | some r =>
      if !r.timed ∨ r.phase ≠ 1 ∨ r.equal.taps ≠ [] then s
      else
        let t := sampleTick (r.start + 80)
        let x := r.training (s.baseband samples)
        let h := tapsOf x.2.1 x.2.2
        let u := modRx (fun y => { y with rx := some { r with offset := x.1.2, equal := { r.equal with taps := h } } }) (codesTaken samples (passTo t s))
        publish 0xc2 t (forEach (List.range 14) (fun i v => setReg (Reg.rbDemChEst i) (tapShow s.toTarget (h.getD i (0, 0))) v)
          (setReg Reg.rbRxLevel (levelWord2 x.2.1 x.2.2)
            (setReg Reg.rbDemAfc (wd (unsigned 16 x.1.1 * 65536 + unsigned 16 x.1.2)) u))))

/-! ## The header (R344, R354, R359) -/

/-- Free choices between equal metrics of the trellis, from one free value. -/
def tieFrom (v j n : Nat) : Bool := v.testBit (64 * j + n)

/-- A sixteenth of the way from the old value of a survey statistic to a new one; 0x8000 before the first (R335). -/
def survMean (old : Nat) (new : Int) : Nat :=
  if old = 0x8000 then unsigned 16 new else unsigned 16 (signed 16 old + openDiv (new - signed 16 old) 16)

/-- The survey statistics of a packet whose SIGNAL passes (R335). -/
def surveyPacket (lv : Int × Int) (s : State) : State :=
  let cnt := fun a t => addRf a 31 16 1 t
  let chosen := if s.rx.inputB then Reg.rbAntSurvCntb else Reg.rbAntSurvCnta
  setRf Reg.rbAntSurvLvlb 31 16 (survMean (s.rf Reg.rbAntSurvLvlb 31 16) lv.2)
    (setRf Reg.rbAntSurvLvla 31 16 (survMean (s.rf Reg.rbAntSurvLvla 31 16) lv.1)
      (addRf chosen 15 0 1 (cnt Reg.rbAntSurvCntb (cnt Reg.rbAntSurvCnta s))))

/-- A header that passes, at tick `t` (R345, R354, R359): the frame that follows starts on player 4's channel (R397, log entry 135). -/
def headerGood (r : RbRx) (g : Signal) (t : Nat) (s : State) : State :=
  let a := modRx (fun x => { x with rx := some { r with phase := 2, rate := g.rate, flag := g.flag, len := g.len } }) s
  let b := setReg Reg.rbDecDecStatus (wd (2 ^ 31 + g.rate * 2 ^ 28 + g.len * 2 ^ 16))
    (publish 0xc3 t (irq Page.rbDem 0 (addRf Reg.rbDemSyncCnt 31 16 1 a)))
  let c := setRb Reg.rbAntStatus 0 s.rx.inputB b
  linkOpen true (match r.levels with
  | some lv => surveyPacket lv c
  | none => c)

/-- A header that fails, at tick `t` (R354). -/
def headerBad (r : RbRx) (c : SyncCause) (t : Nat) (s : State) : State :=
  let u := falseSync c r.of t s
  match r.seen with
  | some n => restart n r.of t r.levels true u
  | none => rearm t u

/-- SIGNAL as the decoder gives it from the packet's samples 80–159 (R344, R357–R359); `v` decides between equal paths. -/
def RbRx.signal (r : RbRx) (v : Nat) (l : List (Int × Int)) : Signal :=
  signalOf (decodeSignal (tieFrom v) (allPairs 0 4 (softSymbols r.equal false r.offset 4 0 80 l)))

/-- SIGNAL_DECODED (R354, R359): the result is known on the third sample after the last SIGNAL sample. -/
def execSignalDecoded (samples : RbSamples) (s : State) : Host.Outcome State Fault Refusal :=
  .next (match s.rx.rx with
    | none => s
    | some r =>
      if !r.timed ∨ r.phase ≠ 1 ∨ r.equal.taps = [] then s
      else
        let t := sampleTick (r.start + 162)
        let g := r.signal s.freeVal (s.baseband samples)
        let good := g.ok && decide (g.rate ≤ 5)
        let u := setReg Reg.rbDemSignal
          (wd (good.toNat * 2 ^ 31 + g.hcs * 2 ^ 16 + g.len * 16 + g.flag.toNat * 8 + g.rate))
          (addRf Reg.rbDecDecCnt 15 0 1 (nextFree (codesTaken samples (passTo t s))))
        if good then headerGood r g t u else headerBad r (if g.ok then .rate else .hcs) t u)

/-! ## Newer preambles and capture (R354, R355) -/

/-- A stronger newer preamble in the data phase, at tick `t` (R355). -/
def newerInData (r : RbRx) (n : Preamble) (t : Nat) (s : State) : State :=
  if bit s.rx.capCfg 8 then
    restart n r.of t r.levels false (modWin r.of (fun w => { w with captured := true }) (decodeStops
      (addRf Reg.rbDemCapCnt 31 16 1 (fault 7 Page.rbDem Err.captured (publish 0xc5 t (irq Page.rbDem 2 s))))))
  else modWin r.of (fun w => { w with lost := true }) (addRf Reg.rbDemCapCnt 15 0 1 (irq Page.rbDem 3 s))

/-- The preamble that the samples of `n` hold (R354, R356): its correlation and the power of its short training over the detection window. -/
def State.preambleOf (s : State) (n : Newer) : Preamble :=
  let w := detWin s.rx.detCfg
  let x := lag10 w 0 (baseList n.samples)
  ⟨max n.sample (sampleNo s.now), n.start, x.1, dbOf x.2 (w * dbmUnit)⟩

/-- Whether the preamble is stronger than reception `r` (R354): for HOLD samples |C| exceeds C0 by more than MARGIN dB. |C| is a power, so its
square counts twice (log entry 118). -/
def State.stronger (s : State) (r : RbRx) (n : Newer) : Bool :=
  strengthHeld s.rx.detCfg (baseList n.samples) (fun c => dbAbove c (normSq r.c) ((8 * max 1 (fld s.rx.capCfg 3 0) : Nat) : Int))

/-- Whether the preamble is seen (R354): for HOLD samples |C| is no more than SEEN dB below C0. -/
def State.seenBy (s : State) (r : RbRx) (n : Newer) : Bool :=
  strengthHeld s.rx.detCfg (baseList n.samples) (fun c => dbAtLeast c (normSq r.c) (-((8 * fld s.rx.capCfg 7 4 : Nat) : Int)))

/-- NEWER_PREAMBLE (R354, R355): a newer preamble is assessed during a reception. -/
def execNewerPreamble (x : Newer) (s : State) : Host.Outcome State Fault Refusal :=
  let n : Newer := { x with samples := s.heard x.samples }
  .next (match s.rx.rx with
    | none => s
    | some r =>
      let p := s.preambleOf n
      let t := sampleTick p.sample
      let u := codesTaken x.samples (passTo t s)
      if r.phase = 2 then (if s.stronger r n then newerInData r p t u else s)
      else if s.stronger r n then restart p r.of t r.levels true (falseSync .newer r.of t u)
      else if s.seenBy r n then modRx (fun x => { x with rx := some { r with seen := some p } }) u
      else s)

/-! ## The end of a packet (R323, R359) -/

/-- The tick at which a packet ends (R342, R359): (8 + N_SYM) × 20 samples after its start. -/
def RbRx.endTick (r : RbRx) : Nat := sampleTick (r.start + 20 * (8 + nSym r.rate r.len))

/-- PACKET_END (R323): the packet's last sample, the RX_END tick; a packet that is no cross-band reply leaves the receiver
searching while its window is open (R386). -/
def execPacketEnd (s : State) : Host.Outcome State Fault Refusal :=
  .next (match s.rx.rx with
    | none => s
    | some r =>
      if r.phase ≠ 2 ∨ s.rx.dec.isSome then s
      else
        let t := r.endTick
        let u := searchCfg t (modRx (fun x => { x with
          rx := none, dec := some { r with ended := t }, lastEnd := some t, lastNone := false, lastOk := false })
          (passTo t s))
        let search := (s.winOf r.of).any (fun w => w.live && w.forEx && decide (t ≤ w.close)) &&
          (s.link.ex.any (fun x => x.xb && !r.flag)) && s.radio.waiting.isNone && !s.radioHeld
        if search then setRbState 4 t u else radioReturn t u)

/-- The decoder's report on a packet (R359, R364). -/
def decoded (r : RbRx) (vs : List (Int × Int)) (bits : List Bool) (t : Nat) (s : State) : State :=
  let n := disagree vs bits
  let sent := rateCoded r.rate * nSym r.rate r.len
  publish 0xc7 t (irq Page.rbDec 0 (addRf Reg.rbDecDecCnt 31 16 1
    (setReg Reg.rbDecDecQual (wd (min 0xffff n * 65536 + min 0xffff (openDivNat (65536 * n) sent)))
      (setReg Reg.rbDecDecStatus (wd (r.rate * 2 ^ 28 + r.len * 2 ^ 16 + nSym r.rate r.len)) s))))

/-- The decoded packet of reception `r` goes to the link layer at tick `t` (R352, R379, R386), which checks its CRC-24 on player 4's
channel (R367). -/
def passOn (r : RbRx) (bytes : List Byte) (t : Nat) (s0 : State) : State :=
  let w := s0.winOf r.of
  let code := (w.map (fun w => outcomeCode { w with got := true })).getD 0
  let f0 : LinkRx := ⟨bytes, r.rate, r.flag, sampleTick r.start, (w.map RbWindow.captured).getD false, false, code⟩
  let mine := (w.map (fun w => w.forEx && !w.done)).getD false && s0.link.ex.any (fun x => x.sent || x.xb)
  let wake := mine && s0.link.ex.any (fun x => linkCmd x.item == Cmd.wake)
  let k := if mine then s0.link.ex.map LinkEx.slot else s0.frameSlot f0
  let s := linkShut k (linkBody bytes) (some (linkCrc bytes)) s0
  let f := { f0 with good := s0.linkGood s bytes }
  let a := modWin r.of (fun w => { w with got := true, lost := w.lost || (wake && !f.sound) })
    (modRx (fun x => { x with lastOk := if x.lastEnd = some r.ended then s.linkStatus f k == 0 else x.lastOk }) s)
  let b := if s.isReply f mine then recordOutcome r.of a else a
  let c := linkIn f mine b
  let d := if c.winShut r.of ∧ !c.winBusy r.of then closeOut r.of t c else c
  if mine ∧ !wake ∧ !s.isReply f mine ∧ (d.winOf r.of).any RbWindow.live ∧ !d.radioBusy ∧ d.rbState ≠ 4 then radioTo 4 t d else d

/-- A decoded packet goes to the link layer at tick `t`, or waits for player 4's channel where that is quiesced and runs no frame of it (R400). -/
def packetIn (r : RbRx) (bytes : List Byte) (t : Nat) (s : State) : State :=
  if s.linkChanOff && !s.linkRuns then modRx (fun x => { x with kept := x.kept ++ [(r, bytes)] }) s
  else passOn r bytes t (sif (!s.linkRuns) (linkOpen true) s)

/-- The packets whose check waited go on, in their order, once the channel is released. -/
def linkServe (s : State) : State :=
  if s.linkChanOff then s
  else s.rx.kept.foldl (fun u p => packetIn p.1 p.2 u.now u) (modRx (fun x => { x with kept := [] }) s)

/-- The coded positions of a packet's data symbols from their samples (R358), a pair for each bit: N_SYM symbols from packet sample 160 on. -/
def RbRx.pairs (r : RbRx) (l : List (Int × Int)) : List (Int × Int) :=
  let n := nSym r.rate r.len
  allPairs r.rate n (softSymbols r.equal (rateQpsk r.rate) r.offset n 4 160 l)

/-- The bits that the decoder decides over all data symbols (R359): data and tail, traced back from state 0, and the pad bits after them. -/
def RbRx.bits (r : RbRx) (tie : Nat → Nat → Bool) (vs : List (Int × Int)) : List Bool :=
  let n := 8 * r.len + 6
  let x := trellisRun (fun j => tie (n + j)) (0 :: List.replicate 63 (-100000000)) (vs.drop n)
  decodeData tie (vs.take n) ++ traceback (bestState (tie (n + vs.length)) x.1) x.2

/-- DECODE_END (R359): the last byte is out no later than 4 samples after the packet's end, from the samples of its data symbols. -/
def execDecodeEnd (tick : Nat) (samples : RbSamples) (s : State) : Host.Outcome State Fault Refusal :=
  .next (match s.rx.dec with
    | none => s
    | some r =>
      let t := max s.now (min (max tick r.ended) (r.ended + 426))
      let vs := r.pairs (s.baseband samples)
      let bits := r.bits (tieFrom s.freeVal) vs
      let u := modRx (fun x => { x with dec := none }) (nextFree (codesTaken samples (passTo t s)))
      packetIn r (bytesOfBits r.len (scramble bits)) t (decoded r vs bits t u))

/-! ## Noise floor and survey (R335, R349, R360) -/

/-- A floor after a block of mean power `p` (R360). -/
def floorMean (old : Option Int) (p : Int) : Int :=
  match old with
  | none => p
  | some f => f + openDiv (p - f) 16

/-- The sample of a survey's search, counted from its start, on which the input of parity `p` (0 the one it started with) gives its `n`-th sample (R349): the
inputs alternate every 20 samples. -/
def surveySample (p n : Nat) : Nat := 40 * (n / 20) + 20 * p + n % 20

/-- The first and the last sample of the first noise block of an input that ends at or after baseband sample `lb` (R360): blocks of 256 samples of that input
follow one another from the start of the search. -/
def State.noiseBlock (s : State) (b : Bool) (lb : Nat) : Nat × Nat :=
  let m := s.rx.search
  let rel := lb - m
  if s.survey then
    let p := ((s.rx.inputB != (s.rx.alts % 2 == 1)) != b).toNat
    let j := ((List.range 4).map (fun k => rel / 512 + k - 1)).find? (fun j => decide (rel ≤ surveySample p (256 * j + 255)))
    let k := j.getD (rel / 512 + 3)
    (m + surveySample p (256 * k), m + surveySample p (256 * k + 255))
  else (m + 256 * (rel / 256), m + 256 * (rel / 256) + 255)

/-- The floor of an input that a block goes into: none until the first block since step 12 or a block reset, which sets it directly (R360). -/
def State.floorBase (s : State) (b : Bool) : Option Int := if (if b then s.rx.ownB else s.rx.ownA) then s.floorOf b else none

/-- A noise block of input B or A is averaged (R335, R360). -/
def noiseTaken (b : Bool) (power : Int) (s : State) : State :=
  let f := floorMean (s.floorBase b) power
  let u := showFloor (modRx (fun x => if b then { x with floorB := some f, ownB := true } else { x with floorA := some f, ownA := true }) s)
  let a := if b then Reg.rbAntSurvLvlb else Reg.rbAntSurvLvla
  publish 0xc6 s.now (irq Page.rbRx 1 (sif s.survey (fun v => setRf a 15 0 (survMean (v.rf a 15 0) power) v) u))

/-- NOISE_UPDATED (R360): the next block of 256 samples of input B or A, or out of survey mode of the input in use, ends; one in which a gain changed or a sample
clipped is discarded. -/
def execNoiseUpdated (onB : Bool) (block : RbSamples) (s : State) : Host.Outcome State Fault Refusal :=
  .next (if s.rbState ≠ 4 ∨ s.rx.rx.isSome ∨ s.rx.attack then s
    else
      let b := if s.survey then onB else s.rx.inputB
      let x := s.noiseBlock b (max (sampleNo s.now) ((if b then s.rx.noiseB else s.rx.noiseA) + 1))
      let u := modRx (fun r => if b then { r with noiseB := x.2 } else { r with noiseA := x.2 }) (codesTaken block (passTo (sampleTick x.2) s))
      if codesClip block ∨ s.rx.spoil.any (fun m => decide (x.1 ≤ m)) then u else noiseTaken b (powerOf (s.baseband block)) u)

/-- SURVEY_INPUT_ALTERNATE (R335, R349): 20 samples after the last alternation or the start of the search (log entry 153), while no detection condition is met,
the other input. -/
def execSurveyInputAlternate (s : State) : Host.Outcome State Fault Refusal :=
  .next (if s.rbState = 4 ∧ s.survey ∧ s.rx.rx.isNone then
    showFloor (modRx (fun x => { x with inputB := !x.inputB, alts := x.alts + 1 })
      (passTo (sampleTick (s.rx.search + 20 * (s.rx.alts + 1))) s))
  else s)

/-- The input that RB_ANT.MODE fixes (R335). -/
def fixInput (s : State) : State :=
  match s.rf Reg.rbAntMode 1 0 with
  | 0 => showFloor (modRx (fun x => { x with inputB := false }) s)
  | 1 => showFloor (modRx (fun x => { x with inputB := true }) s)
  | _ => s

/-! ## Counters (R362–R364) -/

/-- A write to RB_RX.CNT_CLR. -/
def rbRxCntClr (ag : Agent) (w : Word) : State → State :=
  guarded ag Reg.rbRxCntClr (sif (bit w 0) (setReg Reg.rbRxRxCnt 0))

/-- RB_RX_CNT_CLR (R362). -/
def execRbRxCntClr (ag : Agent) (w : Word) (s : State) : Host.Outcome State Fault Refusal := .next (rbRxCntClr ag w s)

/-- A write to RB_DEM.CNT_CLR. -/
def rbDemCntClr (ag : Agent) (w : Word) : State → State :=
  guarded ag Reg.rbDemCntClr (sif (bit w 0) (fun s =>
    setReg Reg.rbDemCapCnt 0 (setReg Reg.rbDemSyncCnt2 0 (setReg Reg.rbDemSyncCnt 0 s))))

/-- RB_DEM_CNT_CLR (R363). -/
def execRbDemCntClr (ag : Agent) (w : Word) (s : State) : Host.Outcome State Fault Refusal := .next (rbDemCntClr ag w s)

/-- A write to RB_DEC.CNT_CLR. -/
def rbDecCntClr (ag : Agent) (w : Word) : State → State :=
  guarded ag Reg.rbDecCntClr (sif (bit w 0) (setReg Reg.rbDecDecCnt 0))

/-- RB_DEC_CNT_CLR (R364). -/
def execRbDecCntClr (ag : Agent) (w : Word) (s : State) : Host.Outcome State Fault Refusal := .next (rbDecCntClr ag w s)

end Sys2Proof.Machine
end

