-- ==== Sys2Proof/Machine/RadioEvents.lean ====
section
/-! DEFINITION. Transmissions of the return band (13_return_band_radio, R317–R318, R323, R327–R330; 15_opkar_link, R378–R380): the
RBTX step, the end of a transmission, test transmissions, and what a failed or lost lock ends. -/

namespace Sys2Proof.Machine

/-! ## The frame of an RBTX step (R378, R380) -/

/-- A frame to send: its session, its bytes with the CRC, and its RATE. -/
structure LinkTx where
  slot : Nat
  bytes : List Byte
  rate : Nat
  deriving DecidableEq, Repr

/-- The ACK that a step with SRC 1 sends (R380). -/
def State.ackFrame (s : State) : Option (Nat × List Byte) :=
  s.link.event.map (fun e => (e.1, s.linkFrame e.1 Cmd.ack 0 (leBytes 3 e.2)))

/-- A WAKE packet of exchange `x` (R378): K, FLAGS, ROUND and REMAINING. -/
def State.wakeFrameOf (s : State) (x : LinkEx) : List Byte :=
  s.linkFrame x.slot Cmd.wake 0 ([BitVec.ofNat 8 x.k,
    BitVec.ofNat 8 ((bit (x.item.word 5) 7).toNat + (if x.round = 0 then 0 else 2)), BitVec.ofNat 8 x.round] ++
    leBytes 2 (x.trainLeft - 1))

/-- The frame that an RBTX step sends, and the state after it is built (R367, R371): a frame built uses its number. With nothing
to send there is none. -/
def rbFrame (src : Nat) (s : State) : Option LinkTx × State :=
  if src = 1 then
    match s.ackFrame with
    | none => (none, s)
    | some (k, l) => (some ⟨k, withCrc l, s.lkTxRate k⟩, s)
  else
    match s.link.ex with
    | none => (none, s)
    | some x =>
      if x.xb ∨ x.again then (none, s)
      else if linkCmd x.item = Cmd.wake then
        if x.trainLeft = 0 then (none, s)
        else
          let l := s.wakeFrameOf x
          (some ⟨x.slot, withCrc l, 0⟩, modEx (fun x => { x with trainLeft := x.trainLeft - 1 }) s)
      else if x.sent then (none, s)
      else
        let l := s.linkFrame x.slot (linkCmd x.item) (s.txFcnt x.slot) (linkPayload x.item)
        (some ⟨x.slot, withCrc l, s.lkTxRate x.slot⟩, fcntUsed x.slot s)

/-! ## Starting (R329) -/

/-- A transmission of a section for the session in `slot` abandoned with TX_MISSED at tick `t` (R36, R329). -/
def txMissed (slot t : Nat) (s : State) : State :=
  let u := sectionErr 4 slot Err.txMissed (fault 4 Page.rbSyn Err.txMissed (publish 0xcc t (irq Page.rbSyn 3
    (addRf Reg.rbSynCnt2 31 16 1 s))))
  if u.radioBusy then u else radioReturn t u

/-- Whether the radio can ramp on channel `chan`: locked there, in SYNTH, RX_WAIT or RX. -/
def State.canRamp (s : State) (chan : Nat) : Bool :=
  s.rbLocked && s.radio.tx.isNone && s.rbChannel == chan && (s.rbState == 3 || s.rbState == 4 || s.rbState == 5)

/-- A reception in progress makes way for a transmission (R329). -/
def preempt (t : Nat) (s : State) : State :=
  if s.rx.rx.isSome then abortRx t (addRf Reg.rbSynCnt2 15 0 1 s) else s

/-- The first RBT edge at or after a tick, in ninths of a tick: the edges lie 16/9 ft apart (R13, R17). -/
def rbtEdge (t : Nat) : Nat := 16 * ((9 * t + 15) / 16)

/-- A frame of the link layer is to ramp at tick `r` for the step `i` (R17, R317, R318, R329): its first sample goes out at the first RBT
edge at or after the tick 192 ft later. -/
def linkRamp (f : LinkTx) (i : Issued) (r : Nat) (s : State) : State :=
  let chan := s.lkChannel f.slot
  let own := i.operand % 2 == 0
  if !s.canRamp chan then txMissed i.slot r s
  else
    let dur := packetThirds f.rate f.bytes.length
    match txCheck chan (s.rf Reg.rbSynState 23 19) (dur + 3 * 384) s with
    | (.no e, u) =>
      let v := if e = Err.modeAbort then stepRefused 4 i.slot e i.index u else sectionErr 4 i.slot e u
      if v.radioBusy then v else radioReturn r v
    | (.go k, u) =>
      let e := rbtEdge (r + 192)
      let x : RadioTx := { bytes := f.bytes, rate := f.rate, step := k, chan := chan, ramp := r, first := e / 9, ninths := e % 9,
                           last := (e + 3 * dur) / 9, air := dur + 3 * 384, test := 0, own := own,
                           slot := f.slot }
      sif own (modEx (fun x => { x with sent := true })) (rampStart x (preempt r (stepActed 4 Page.rbTx i (r + 192) x.first u)))

/-- RBTX_STEP (R329): the step acts 192 ft before its tick, or on arrival when it comes later; a quiesce of the radio holds it (R143), and
one of player 4's check-value channel does so until it is released (R400). -/
def execRbtxStep (s : State) : Host.Outcome State Fault Refusal :=
  .next (takeAny 4 7 (fun i s =>
    if !s.rbPageOn Page.rbTx then stepRefused 4 i.slot Err.modeAbort i.index s
    else
      let r := max s.now (max (i.target - 192) i.issued)
      let b := rbFrame (i.operand % 2) (passTo r s)
      match b.1 with
      | none => linkSettle b.2
      | some f => linkSettle (linkRamp f i r b.2)) s)

/-- TX_RAMP_END (R322, R329): the first preamble sample goes out, on the RBT edge of the tick that TX_START carries; a frame of the link layer starts on its check-value channel (R397). -/
def execTxRampEnd (s : State) : Host.Outcome State Fault Refusal :=
  .next (match s.radio.tx with
    | none => s
    | some x =>
      if s.rbState = 6 then
        sif (x.test == 0) (linkOpen false) (publish 0xca (x.ramp + 192) (setRbState 7 x.first (passTo x.first s)))
      else s)

/-- What stands at RB_RFOUT (R330, R342, R368). -/
inductive RfOut where
  | silent
  /-- The power amplifier ramps up or down. -/
  | ramp
  /-- An unmodulated carrier. -/
  | carrier
  /-- QPSK 3/4 symbols of PRBS9 with a standard preamble. -/
  | prbs
  /-- A sample of a packet. -/
  | sample (i q : Int)
  deriving DecidableEq, Repr

/-- The packet of a transmission; the device sends FLAG 0 (R368). -/
def RadioTx.packet (x : RadioTx) : AirPacket := packetOf x.rate false x.bytes

/-- What stands at RB_RFOUT at the present tick: baseband samples are 320/3 ft apart, from the first sample's tick. -/
def State.rfOut (s : State) : RfOut :=
  match s.radio.tx with
  | none => .silent
  | some x =>
    if s.rbState = 6 ∨ s.now < x.first ∨ s.rbState = 8 then .ramp
    else if x.test ≠ 0 then (if x.test = 1 then .carrier else .prbs)
    else
      let v := x.packet.sample ((9 * (s.now - x.first) - x.ninths) / 960)
      .sample v.1 v.2

/-! ## Ending (R318, R323, R329) -/

/-- A transmission has sent its last sample at tick `t`, and its frame ends on its channel (R397); an exchange without a reply ends (R381), a
discovery with the last packet of its train. -/
def txDone (x : RadioTx) (t : Nat) (s : State) : State :=
  let u := publish 0xcb t (irq Page.rbTx 0 (addRf Reg.rbTxCnt 31 16 1 (tailStart x t s)))
  let v := sif (x.test == 0) (fun s => incCtx32 x.slot 0xb0 (linkShut (some x.slot) (linkBody x.bytes) none s)) u
  match s.link.ex with
  | none => v
  | some y =>
    if !x.own then v
    else
      if linkNoReply y.item ∧ (linkCmd y.item ≠ Cmd.wake ∨ y.trainLeft = 0) then finishLink { status := 8, ts := t } v else v

/-- TX_END (R329). -/
def execTxEnd (s : State) : Host.Outcome State Fault Refusal :=
  .next (match s.radio.tx with
    | none => s
    | some x => if s.rbState = 7 ∧ x.test = 0 then txDone x x.last s else s)

/-- TX_TAIL_END (R318, R323): the airtime is counted, and the radio goes to its return state, once a lock lost in the transmission is regained
(R328). -/
def execTxTailEnd (s : State) : Host.Outcome State Fault Refusal :=
  .next (match s.radio.tx with
    | none => s
    | some x =>
      if s.rbState ≠ 8 then s
      else
        let t := x.last + 192
        let u := setRbState 3 t (modRadio (fun r => { r with tx := none })
          (dutyAdd (s.rf (Reg.rbTxCh x.chan) 25 24) x.air (passTo t s)))
        linkSettle (if u.radio.phase ≠ 0 ∧ !u.radioHeld ∧ u.radio.waiting = none then modRadio (fun r => { r with regain := true }) u else radioReturn t u))

/-! ## Test transmissions (R330) -/

/-- Ticks in a test of DUR_MS milliseconds; 0 acts as 1. -/
def State.testTicks (s : State) : Nat := 108480 * max 1 (s.rf Reg.rbTxCtrl 31 16)

/-- A test transmission of signal `kind` is asked for (R330): it ramps at once when the radio is locked, and otherwise, or while a packet is
being received (R324), it waits. -/
def testGo (kind : Nat) (s : State) : State :=
  let chan := s.rbChannel
  match txCheck chan (s.rf Reg.rbSynState 23 19) (3 * (s.testTicks + 384)) s with
  | (.no _, u) => if u.radioBusy then u else radioReturn s.now u
  | (.go k, u) =>
    let t := s.now
    let x : RadioTx := { bytes := [], rate := 5, step := k, chan := chan, ramp := t, first := t + 192,
                         last := t + 192 + s.testTicks, air := 3 * (s.testTicks + 384), test := kind, own := false }
    testRamp t (modRadio (fun r => { r with testWaits := some x }) u)

/-- A test transmission is to end (R330): in TX at once; in TX_RAMP, which is never shortened, with its first sample. -/
def testStop (s : State) : State :=
  match s.radio.tx with
  | none => modRadio (fun r => { r with testWaits := none }) s
  | some x =>
    if x.test = 0 then s
    else if s.rbState = 6 then modRadio (fun r => { r with tx := some { x with last := x.first, air := 3 * 384 } }) s
    else if s.rbState = 7 then txDone x (max s.now x.first) s
    else s

/-- A write of RB_TX.CTRL (R135, R330). A GO while a test waits or a transmission runs has no effect. -/
def rbTxCtrlWrite (ag : Agent) (w : Word) : State → State :=
  guarded ag Reg.rbTxCtrl (fun s =>
    let t := sif (bit w 3) testStop (setRf Reg.rbTxCtrl 31 16 (fld w 31 16) (setRf Reg.rbTxCtrl 2 1 (fld w 2 1) s))
    if !bit w 0 ∨ s.radio.tx.isSome ∨ s.radio.testWaits.isSome then t
    else if !t.rb (Reg.ctrl Page.rbTx) 0 then refusalErr Page.rbTx Err.modeAbort openDetail openDetail t
    else if !t.holds ag 0x78 then refusalErr Page.rbTx Err.resourceBusy (t.resEntry 0x78) 0x78 t
    else if fld w 2 1 = 0 ∨ fld w 2 1 = 3 then refusalErr Page.rbTx Err.modeAbort openDetail openDetail t
    else testGo (fld w 2 1) t)

/-- TEST_TX_GO (R330). -/
def execTestTxGo (ag : Agent) (w : Word) (s : State) : Host.Outcome State Fault Refusal := .next (rbTxCtrlWrite ag w s)

/-- TEST_TX_STOP (R330): a write of STOP, the other fields as they stand. -/
def execTestTxStop (ag : Agent) (s : State) : Host.Outcome State Fault Refusal :=
  .next (rbTxCtrlWrite ag (setBit (s.reg Reg.rbTxCtrl) 3 true) s)

/-- TEST_TX_TIMEOUT (R330). -/
def execTestTxTimeout (s : State) : Host.Outcome State Fault Refusal :=
  .next (match s.radio.tx with
    | none => s
    | some x => if s.rbState = 7 ∧ x.test ≠ 0 then txDone x x.last s else s)

/-! ## Lock failed and lost (R327, R328) -/

/-- What a failed lock ends (R327): an exchange of the return band, and a cross-band one whose window stands open; before the window it is
reported when that opens (R36, R387). -/
def lockFailed (t : Nat) (s : State) : State :=
  match s.link.ex with
  | none => s
  | some x =>
    if x.again then s
    else if x.xb && !s.rx.win.any (fun w => w.live && w.forEx) then s
    else linkFault Err.modeAbort t s

/-- SYNTH_FULL_SEARCH_FAIL (R327). -/
def execSynthFullSearchFail (s : State) : Host.Outcome State Fault Refusal :=
  .next (if s.radio.phase = 2 then
    let t := s.radio.synthStart + 11282
    lockFailed t (radioTo 2 t (recErrAs (some 8) Page.rbSyn Err.modeAbort s.rbChannel 0 (irq Page.rbSyn 2
      (addRf Reg.rbSynCnt 7 0 1 (stopSynth (modRadio (fun r => { r with testWaits := none, regain := false }) (passTo t s)))))))
  else s)

/-- A loss of lock (R328) at `tick`; a synthesiser that is not locked has none to lose. In TX_RAMP, TX and TX_TAIL the synthesiser recalibrates
meanwhile; a transmission cut there has sent its last sample (R329). A reception lost is the exchange's fault where it came in its reply window (R487). A request that waits for a reception acts when the loss ends it (R324). -/
def lockLoss (tick : Nat) (s : State) : State :=
  if !s.rbLocked then s
  else
    let t := max tick s.now
    let st := s.rbState
    let u := modRadio (fun r => { r with reqTick := t })
      (stopSynth (fault 8 Page.rbSyn Err.modeAbort (irq Page.rbSyn 1 (addRf Reg.rbSynCnt 15 8 1 (passTo t s)))))
    match s.radio.tx with
    | some x =>
      let v := startSynth t (sif (st == 7 && x.test == 0) linkDrop (sif (st == 7) (publish 0xcb t) u))
      if st = 8 then v
      else sif x.own (linkFault Err.modeAbort t) (tailStart x t v)
    | none =>
      if s.rx.rx.isSome then
        let mine := (s.rx.rx.bind (fun r => s.winOf r.of)).any RbWindow.forEx && s.link.ex.any (fun x => linkCmd x.item != Cmd.wake)
        let v := abortRx t (sif mine (modEx (fun x => { x with radioFault := true })) u)
        if v.radioHeld then radioStandby t v
        else
          match v.radio.waiting with
          | some q => radioTake q t v
          | none => radioTo 4 t v
      else if 3 ≤ st then radioTo (s.radio.goal.getD st) t u
      else u

/-- LOCK_LOSS (R328): a loss longer than 1 µs, at `tick`. -/
def execLockLoss (tick : Nat) (s : State) : Host.Outcome State Fault Refusal := .next (lockLoss tick s)

end Sys2Proof.Machine
end

