-- ==== Sys2Proof/Machine/LinkEvents.lean ====
section
/-! DEFINITION. How exchanges of the return band and across bands start, and start again (12_larkspur_scores, R289–R292;
15_opkar_link, R377, R378, R384, R387), and how a session's next command leaves its pending list (R21). -/

namespace Sys2Proof.Machine

/-! ## Claims and refusals at a start -/

/-- Whether player 4 can take the radio for a section (R289): no other claimant holds it. -/
def State.radioFree (s : State) : Bool := s.holder 0x78 == 0 || s.holder 0x78 == 3

/-- Player 4 takes the radio for a section of the session in slot `k` (R38, R154, R289); the entry shows the section that plays. -/
def takeRadio (k : Nat) (s : State) : State := claimRes 0x78 3 (s.sessHandle k) 4 s

/-- Whether the link layer's channel can serve (R400). -/
def State.linkChanReady (s : State) : Bool := s.linkChan.all (fun c => !s.cvuOff c)

/-- The password whose last attempt a command would take without LAST_TRY (R377). -/
def State.lastTryBad (s : State) (k : Nat) (i : Item) : Option Nat :=
  (namedPw i).filter (fun pw => linkCmd i != Cmd.setPassword && s.attempts k pw == 1 && !bit (i.word 4) 23)

/-- What refuses a command when it would start (R135, R367, R373, R377, R432): ERR and its two details. -/
def State.linkStartBad (s : State) (k : Nat) (i : Item) : Option (Nat × Nat × Nat) :=
  if s.rb Reg.sensProt 28 then some (Err.thermal, s.hotSite.1, s.hotSite.2)
  else if s.radioShut then some (Err.modeAbort, openDetail, openDetail)
  else if s.linkChan = none then some (Err.resourceBusy, 0xc000, noIndex)
  else if s.txFcnt k = 0xffffff ∧ linkCmd i ≠ Cmd.counterReset then some (Err.modeAbort, openDetail, openDetail)
  else
    (s.lastTryBad k i).map (fun pw => (Err.authLocked, pw, 0))

/-- A command that is refused as it would start: its password bytes and its blocks go (R22, R377). -/
def refuseStart (i : Item) (k err d4 d5 : Nat) (s : State) : State :=
  refuseFor k { i with page := Page.rbDem } err d4 d5 (wipe i k (dropPending k s))

/-- The same for a start tick that cannot be met (R21). -/
def refuseStartLate (i : Item) (k first : Nat) (s : State) : State :=
  refuseLate k { i with page := Page.rbDem } i.ts first (wipe i k (dropPending k s))

/-- The kind of section that a command of player 4 or an engine asks for. -/
def linkKind (i : Item) : Nat := if linkSection i = 0 then Kind.exchange else Kind.command

/-- The session goes on air. -/
def sessBusy (k : Nat) (s : State) : State := sif (s.sessState k == SessState.placed) (setSessState k SessState.busy) s

/-! ## RB exchanges -/

/-- The section of exchange `x` starts on player 4 with start tick `S`. -/
def playRb (x : LinkEx) (c : Section) (S : Nat) (s : State) : State :=
  startSection 4 c S x.slot (takeRadio x.slot (modLink (fun l => { l with ex := some { x with
    section4 := c.num, again := false, trainLeft := linkTrain x.item } }) s))

/-- Whether the radio's pages take an exchange now (R143): they are released, or refuse it (R135). -/
def State.radioTakes (s : State) : Bool := !s.radioHeld || s.radioShut

/-- Whether player 4 and the link layer can take an exchange now (R291, R313). -/
def State.rbFree (s : State) : Bool := s.playerFree 4 && s.radioTakes && s.linkChanReady

/-- Starts the RB_EXCHANGE `i` of slot `k` (R21, R289, R290); PA_STEP of the context becomes the next transmission's. -/
def startRb (k : Nat) (i : Item) (s : State) : State :=
  match s.linkStartBad k i with
  | some (e, d, x) => refuseStart i k e d x s
  | none =>
    match s.commandSection 4 (linkSection i) (linkKind i) 0 0 with
    | none => refuseStart i k Err.modeAbort openDetail openDetail s
    | some c =>
      if !s.radioFree then refuseStart i k Err.resourceBusy (s.resEntry 0x78) 0x78 s
      else
        let b := s.startBound i 4 s.link.ended
        if i.hasTick ∧ i.ts < b then refuseStartLate i k b s
        else
          playRb { item := i, slot := k, k := linkK i } c (if i.hasTick then ccAt i.ts else b)
            (setRf Reg.rbSynState 23 19 (s.ctx k 0x88 % 32) (sessBusy k (dropPending k s)))

/-! ## XB exchanges -/

/-- The section of player 4 that a section of an engine names (R292); none when it names none, or one that is not there. -/
def State.linkedSection (s : State) (c : Section) : Option Section :=
  if c.link = 0 then none else (s.activeSections 4).find? (fun d => d.num == c.link)

/-- Whether FEn and the link layer can take a cross-band exchange now. -/
def State.xbFree (s : State) (n : Nat) : Bool := s.engFree n && s.linkChanReady

/-- Whether player 4 can start the section that `c` names, if it names one (R291, R292, R313). -/
def State.linkFree (s : State) (c : Section) : Bool := c.link == 0 || (s.playerFree 4 && s.radioTakes)

/-- Both halves of exchange `x` start with the same S (R292, R385): its frame is built, with its number (R371). -/
def playXb (n : Nat) (x : LinkEx) (c : Section) (c4 : Option Section) (S : Nat) (s : State) : State :=
  let i := x.item
  let k := x.slot
  let body := s.linkFrame k (linkCmd i) (s.txFcnt k) (linkPayload i)
  let e : Exch := { item := i, slot := k, start := S, frame := { data := body, rxCrc := false }, xb := true }
  let t := fcntUsed k <| setReg (Reg.feExchStatus n) (wd (s.sessHandle k * 65536 + 256 + s.rf (Reg.feExchStatus n) 7 0))
    (modEng n (fun y => { y with exch := some e })
      (modLink (fun l => { l with ex := some { x with section4 := (c4.map Section.num).getD 0, again := false } }) s))
  let u := startSection n c S k t
  match c4 with
  | none => u
  | some d => startSection 4 d S k (takeRadio k u)

/-- Starts the XB_EXCHANGE `i` of slot `k` on FEn (R21, R290, R292); a linked section that player 4 cannot start yet keeps it waiting. A preset
written since its dispatch is checked again (R398). -/
def startXb (k n : Nat) (i : Item) (s : State) : State :=
  match (s.linkStartBad k i).or (if s.xbPresetOk k then none else some (Err.modeAbort, openDetail, openDetail)) with
  | some (e, d, x) => refuseStart i k e d x s
  | none =>
    match s.startOn n i (linkKind i) 0 false with
    | .no e d x => refuseStart i k e d x s
    | .late b => refuseStartLate i k b s
    | .go c S =>
      let alone := c.link == 0
      let c4 := s.linkedSection c
      let b4 := if alone then 0 else s.startBound i 4 s.link.ended
      if !s.linkFree c then s
      else if !alone ∧ c4 = none then refuseStart i k Err.modeAbort openDetail openDetail s
      else if !alone ∧ !s.radioFree then refuseStart i k Err.resourceBusy (s.resEntry 0x78) 0x78 s
      else if i.hasTick ∧ i.ts < b4 then refuseStartLate i k b4 s
      else playXb n { item := i, slot := k, xb := true } c c4 (max S b4) (sessBusy k (dropPending k s))

/-! ## Another section for the exchange in flight (R378, R384) -/

/-- The bound of R290 after a tick, or after the present one when it is past. -/
def State.nextBound (s : State) (t : Nat) : Nat := if boundAfter t < s.now then boundTick s.now else boundAfter t

/-- An exchange that cannot go on ends. -/
def linkStop (x : LinkEx) (e : Nat) (s : State) : State :=
  closeLink { x with errs := addErr e x.errs } { status := 1, ts := s.now } s

/-- The exchange in flight, which waits for another section, starts it once its players are free; under a fence too, for the old engine
completes what is in flight (R33). -/
def linkGo (s : State) : State :=
  match s.link.ex with
  | none => s
  | some x =>
    let n := s.sessEngine x.slot
    if !x.again then s
    else if (s.lastTryBad x.slot x.item).isSome then
      linkStop x Err.authLocked (recErr Page.rbDem Err.authLocked ((s.lastTryBad x.slot x.item).getD 0) 0 s)
    else if s.radioShut then linkStop x Err.modeAbort s
    else if x.xb then
      if !s.xbFree n then s
      else
        match s.commandSection n (linkSection x.item) (linkKind x.item) 5 0 with
        | none => linkStop x Err.modeAbort s
        | some c =>
          let c4 := s.linkedSection c
          if !s.linkFree c then s
          else if c.link ≠ 0 ∧ c4 = none then linkStop x Err.modeAbort s
          else if c.link ≠ 0 ∧ !s.radioFree then linkStop x Err.resourceBusy s
          else playXb n x c c4 (s.nextBound (max (s.player n).ended (max (s.player 4).ended (s.eng n).ended))) s
    else if !s.rbFree then s
    else
      match s.commandSection 4 (linkSection x.item) (linkKind x.item) 0 0 with
      | none => linkStop x Err.modeAbort s
      | some c =>
        if !s.radioFree then linkStop x Err.resourceBusy s else playRb x c (s.nextBound (s.player 4).ended) s

/-- What the radio does ends at tick `t` with a code (R50, R432): the exchange in flight, a transmission, whose time on air
counts, and a reception; waiting requests are dropped. -/
def radioAbort (cause t : Nat) (s : State) : State :=
  let u := match s.link.ex with
    | none => s
    | some x =>
      closeLink { x with errs := addErr cause x.errs } { status := 1, outcome := 1, ts := t }
        (sif (x.xb && !x.hfDone && ((s.eng (s.sessEngine x.slot)).exch.map Exch.xb) == some true)
          (engIdle (s.sessEngine x.slot) cause) s)
  let v := match u.radio.tx with
    | none => u
    | some x => if u.rbState = 8 then u else dutyAdd (u.rf (Reg.rbTxCh x.chan) 25 24) (3 * (t - x.ramp)) u
  abortRx t (setRb Reg.rbSynState 14 false (modRadio (fun r => { r with tx := none, testWaits := none, waiting := none }) v))

/-! ## The pending lists (R21, R112) -/

/-- PENDING_COMMAND_START (R21): the first command of a session's pending list starts, when the previous one has ended and its
engine or radio can take it; an exchange that waits for another section starts it. -/
def execPendingCommandStart (slot : SlotIx) (s : State) : Host.Outcome State Fault Refusal :=
  let k : Nat := slot
  .next (
    if (s.link.ex.map (fun x => decide (x.slot = k) && x.again)) = some true then linkGo s
    else
      match s.pendOf k with
      | [] => s
      | i :: _ =>
        let n := s.sessEngine k
        if s.inFlight k ∨ (s.link.ex.map LinkEx.slot) = some k ∨ (s.fence k).isSome then s
        else if i.typ = 0x08 then
          if s.engFree n ∧ (s.eng n).discWait.isNone then startHf k n i s else s
        else if s.link.ex.isSome then s
        else if i.typ = 0x09 then (if s.rbFree then startRb k i s else s)
        else if s.xbFree n ∧ (s.eng n).discWait.isNone then startXb k n i s
        else s)

end Sys2Proof.Machine
end

