-- ==== Sys2Proof/Machine/Field.lean ====
section
/-! DEFINITION. The coils' fields and weights in motion (08_coil_channels, R202–R210; 09_field_shaping, R224–R232, R240, R241):
coil sets, bank swaps and fades, FIELD and BANK steps, the mismatch monitor and the tuner. -/

namespace Sys2Proof.Machine

/-! ## Coil sets (R224, R225) -/

/-- SET of FEn in use. -/
def State.coilSet (s : State) (n : Nat) : Nat := s.rf (Reg.fwgtFeCoils n) 11 0

/-- The lowest-numbered coil of a mask that FEn cannot claim, with its code (R224): a coil held by another than Crocus, or of a
quiesced page. -/
def State.coilRefused (s : State) (n mask : Nat) : Option (Nat × Nat) :=
  (bitsOf 12 mask).findSome? (fun c =>
    if s.feHolds n c then none
    else if s.holder c ≠ 0 ∧ s.holder c ≠ 8 then some (c, Err.resourceBusy)
    else if s.quiesced (Page.coil c) then some (c, Err.modeAbort)
    else none)

/-- The tick at which the slot of coil `c` begins in the running sweep (R461). -/
def State.slotStart (s : State) (c : Nat) : Option Nat :=
  s.crocus.sweep.bind (fun w => if c ∈ w.2 then some (w.1 + 512 * w.2.idxOf c) else none)

/-- Whether the running sweep has a slot of coil `c` that has not ended. -/
def State.slotAhead (s : State) (c : Nat) : Bool := (s.slotStart c).any (fun t => decide (s.now < t + 512))

/-- The slot of coil `c` is cut at the present tick (R207): the mismatch measurement of its pulse is abandoned, or had ended. -/
def pulseCut (c : Nat) (s : State) : State :=
  let t := (s.slotStart c).getD 0
  if s.now < t ∨ t + 512 ≤ s.now ∨ s.holder c ≠ 8 ∨ s.crocus.dark.testBit c then s
  else if s.now < t + 8 * (s.rf (Reg.coilMmWin c) 7 0 + max 8 (s.rf (Reg.coilMmWin c) 15 8)) then
    setRb (Reg.coilMmMeas c) 31 false s
  else { s with crocus := { s.crocus with met := s.crocus.met ||| 2 ^ c } }

/-- The drive of the coils of a mask has stopped (R51, R432, R476): their slots of the sweep that have not ended are without drive. -/
def sweepDark (mask : Nat) (s : State) : State :=
  forEach ((bitsOf 12 mask).filter s.slotAhead) (fun c t =>
    let u := pulseCut c t
    { u with crocus := { u.crocus with dark := u.crocus.dark ||| 2 ^ c } }) s

/-- The coils of a mask can be driven again (R51): slots that are still to begin have their pulses. -/
def sweepLight (mask : Nat) (s : State) : State :=
  let l := if s.fldRuns then (bitsOf 12 mask).filter (fun c => (s.slotStart c).any (fun t => decide (s.now < t))) else []
  { s with crocus := { s.crocus with dark := l.foldl clearBit s.crocus.dark } }

/-- Coil `c` yields from Crocus to a field engine (R40, R460): a slot of the sweep that has not ended is lost. -/
def crocusYield (c : Nat) (s : State) : State :=
  publish 0xe3 s.now (addRf Reg.crocusTripCnt 15 0 1 (sif (s.slotAhead c)
    (fun t => let u := pulseCut c t; { u with crocus := { u.crocus with lost := u.crocus.lost ||| 2 ^ c } }) s))

/-- FEn claims the coils of a mask (R224); a coil held by Crocus yields (R40), and a coil still damped is used again. -/
def coilsAdd (n mask : Nat) (s : State) : State :=
  heldRefresh n (forEach (bitsOf 12 mask) (fun c t =>
    modCoil c (fun x => { x with damped := false })
      (if t.feHolds n c then t else claimRes c (4 + n) 0 0 (sif (t.holder c == 8) (crocusYield c) t))) s)

/-- FEn stops using the coils of a mask (R225): released at once with the field off, damped until it goes off otherwise; an
exchange left without a coil ends with MODE_ABORT. -/
def coilsDrop (n mask : Nat) (s : State) : State :=
  let l := (bitsOf 12 mask).filter (fun c => s.feHolds n c)
  let t := heldRefresh n (forEach l (fun c t =>
    let u := coilLeaves n c t
    if t.coilOn c then modCoil c (fun x => { x with damped := true }) u else releaseRes c u) s)
  if l ≠ [] ∧ (List.range 12).all (fun c => !t.usesCoil n c) then abortEngine n Err.modeAbort (ccAt t.now) t else t

/-- A new word takes effect in FEn_COILS (R224, R225), on the drive from the next carrier-cycle boundary (R40, log entry 104); HELD is
kept. -/
def feCoilsInUse (n : Nat) (w : Word) (s : State) : State :=
  let old := s.coilSet n
  let new := fld w 11 0
  let t := setRb (Reg.fwgtFeCoils n) 31 (bit w 31) (setRf (Reg.fwgtFeCoils n) 11 0 new s)
  govern (toCc (coilsAdd n (new &&& (old ^^^ 0xfff)) (coilsDrop n (old &&& (new ^^^ 0xfff)) t)))

/-- FEn_COILS is to take the word `w`, with the effect `f`: a disabled page refuses coils that come (R135), and coils that cannot be claimed
make it have no effect (R225). -/
def coilsTake (n : Nat) (w : Word) (f : State → State) (s : State) : State :=
  let come := fld w 11 0 &&& (s.coilSet n ^^^ 0xfff)
  if come != 0 && !s.rb (Reg.ctrl Page.fwgt) 0 then pageWork Page.fwgt id s
  else
    match s.coilRefused n come with
    | some (c, e) =>
      irq Page.fwgt 5 (if e = Err.resourceBusy then refusalErr Page.fwgt e (s.resEntry c) c s else refusalErr Page.fwgt e c 0 s)
    | none => f s

/-- A write of FEn_COILS (R224, R225, R145): coils that cannot be claimed make the whole write have no effect, as a
disabled page does (R135). -/
def feCoilsWrite (ag : Agent) (n : Nat) (w : Word) : State → State :=
  hold ag (Reg.fwgtFeCoils n) w <| guarded ag (Reg.fwgtFeCoils n) (fun s =>
    if s.rb (Reg.stageCtrl Page.fwgt) 0 then storeReg (Reg.fwgtFeCoils n) w s
    else coilsTake n w (storeWith (Reg.fwgtFeCoils n) w (feCoilsInUse n)) s)

/-- The word that a write of SET alone carries. -/
def State.coilsWord (s : State) (n set : Nat) : Word :=
  setFld (if s.rb (Reg.stageCtrl Page.fwgt) 0 then s.shade (Reg.fwgtFeCoils n) else s.reg (Reg.fwgtFeCoils n)) 11 0 set

/-- SET as a write finds it: of the shadow while STAGE is 1. -/
def State.setSeen (s : State) (n : Nat) : Nat :=
  if s.rb (Reg.stageCtrl Page.fwgt) 0 then fld (s.shade (Reg.fwgtFeCoils n)) 11 0 else s.coilSet n

/-- COIL_SET_ADD (R224): a write that adds the coils of a mask to SET. -/
def execCoilSetAdd (ag : Agent) (n : EngIx) (coils : Nat) (s : State) : Host.Outcome State Fault Refusal :=
  .next (feCoilsWrite ag n (s.coilsWord n (s.setSeen n ||| (coils % 4096))) s)

/-- COIL_SET_REMOVE (R225): a write that removes the coils of a mask from SET. -/
def execCoilSetRemove (ag : Agent) (n : EngIx) (coils : Nat) (s : State) : Host.Outcome State Fault Refusal :=
  .next (feCoilsWrite ag n (s.coilsWord n (s.setSeen n &&& (coils % 4096 ^^^ 0xfff))) s)

/-- COIL_RELEASE (R225): a removed coil whose field has gone off is released. -/
def execCoilRelease (c : CoilIx) (s : State) : Host.Outcome State Fault Refusal :=
  .next (if (s.coil c).damped ∧ s.coilOn c = false then
    forEach (List.range 4) heldRefresh (releaseRes c (modCoil c (fun x => { x with damped := false }) s))
  else s)

/-! ## Banks and fades (R230–R232) -/

/-- The bank in use of FEn; during a fade the source. -/
def State.bankInUse (s : State) (n : Nat) : Nat := s.rf (Reg.fwgtFeBank n) 2 2

/-- SEL reads the target of the latest accepted request (R231). -/
def setSel (n b : Nat) (s : State) : State :=
  setShade (Reg.fwgtFeBank n) (setFld (s.shade (Reg.fwgtFeBank n)) 0 0 b) (setRf (Reg.fwgtFeBank n) 0 0 b s)

/-- WAIT and FADING follow the engine. -/
def bankBits (n : Nat) (s : State) : State :=
  setRb (Reg.fwgtFeBank n) 4 (s.eng n).swapTo.isSome (setRb (Reg.fwgtFeBank n) 3 (s.eng n).fade.isSome s)

/-- A fade ends at tick `t` (R230): the other bank is in use. -/
def fadeDone (n t : Nat) (s : State) : State :=
  govern (publish (0x76 + 8 * n) t (irq Page.fwgt 0 (addRf (Reg.fwgtFeSwapCnt n) 15 0 1
    (bankBits n (setRf (Reg.fwgtFeBank n) 2 2 (1 - s.bankInUse n) (modEng n (fun e => { e with
      fade := none, lastSwap := some (t, (e.fade.map Prod.snd).getD 0) }) s))))))

/-- A swap of FEn to the other bank starts at boundary `t` (R230); with N = 0 the new bank takes effect there, a fade
of no length that ends as any does (log entry 146). -/
def swapStart (n t : Nat) (s : State) : State :=
  let len := min 1024 (s.rf (Reg.fwgtFeBank n) 26 16)
  if len = 0 then fadeDone n t (passTo t s) else govern (bankBits n (modEng n (fun e => { e with fade := some (t, len) }) s))

/-- A swap request for bank `b` takes effect at boundary `t` (R231, R241); with no fade running one for the bank in use starts nothing. -/
def bankAccept (n b t : Nat) (s : State) : State :=
  let u := setSel n b s
  if (s.eng n).fade.isNone ∧ b = s.bankInUse n then u
  else if (s.eng n).fade.isSome ∨ s.quiesced Page.fwgt then bankBits n (modEng n (fun e => { e with swapTo := some b }) u)
  else swapStart n t u

/-- A swap request refused because another waits (R231). -/
def bankReject (n : Nat) (s : State) : State :=
  refusalErr Page.fwgt Err.swapRejected n 0 (irq Page.fwgt 1 (addRf (Reg.fwgtFeSwapCnt n) 31 16 1 s))

/-- A swap request other than an event's (R231): `no` is what its refusal adds. -/
def bankRequest (n b t : Nat) (no : State → State) (s : State) : State :=
  if (s.eng n).swapTo.isSome then no (bankReject n s) else bankAccept n b t s

/-- A new word takes effect in FEn_BANK (R230, R231): a SEL that differs is a swap request. -/
def feBankInUse (n : Nat) (w : Word) (s : State) : State :=
  let a := Reg.fwgtFeBank n
  let sel := s.rf a 0 0
  let t := setRb a 5 (bit w 5) (setRf a 26 16 (fld w 26 16) s)
  govern (if fld w 0 0 = sel then t else pageWork Page.fwgt (bankRequest n (fld w 0 0) t.ccNow (setSel n sel)) t)

/-- A write of FEn_BANK. -/
def feBankWrite (ag : Agent) (n : Nat) (w : Word) : State → State :=
  hold ag (Reg.fwgtFeBank n) w <| guarded ag (Reg.fwgtFeBank n) (storeWith (Reg.fwgtFeBank n) w (feBankInUse n))

/-- BANK_SEL_WRITE (R231): a write of SEL, the other fields as they stand. -/
def execBankSelWrite (ag : Agent) (n : EngIx) (bank : Bool) (s : State) : Host.Outcome State Fault Refusal :=
  .next (feBankWrite ag n (setBit (if s.rb (Reg.stageCtrl Page.fwgt) 0 then s.shade (Reg.fwgtFeBank n)
    else s.reg (Reg.fwgtFeBank n)) 0 bank) s)

/-- BANK_SWAP_EVENT (R231): an event on task input 0x94 + n names the bank other than SEL; a waiting request makes the input
busy, and refuses the new one. -/
def execBankSwapEvent (n : EngIx) (s : State) : Host.Outcome State Fault Refusal :=
  let refused := (s.eng n).swapTo.isSome && !s.gated && s.arriving (0x94 + n) != [] && !s.quiesced Page.fwgt
  .next (sif refused (bankReject n) (onTask (0x94 + n) (fun t => (t.eng n).swapTo.isSome)
    (fun _ t => bankAccept n (1 - t.rf (Reg.fwgtFeBank n) 0 0) t.ccNow t) s))

/-- A waiting request starts at tick `t`, or is dropped when its bank is the one in use (R231). -/
def swapNext (n t : Nat) (s : State) : State :=
  match (s.eng n).swapTo with
  | none => s
  | some b =>
    if (s.eng n).fade.isSome ∨ s.quiesced Page.fwgt then s
    else
      let u := bankBits n (modEng n (fun e => { e with swapTo := none }) s)
      if b = u.bankInUse n then u else swapStart n t u

/-- XFADE_END (R230): the fade ends on its last carrier cycle, and a waiting request starts. -/
def execXfadeEnd (n : EngIx) (s : State) : Host.Outcome State Fault Refusal :=
  .next (match (s.eng n).fade with
    | none => s
    | some (t, len) => swapNext n (t + 8 * len) (fadeDone n (t + 8 * len) (passTo (t + 8 * len) s)))

/-- A write of a bank's weight, allowed only into an idle bank (R232): `b` is 0 for A, 1 for B. -/
def weightWrite (ag : Agent) (n b c : Nat) (w : Word) : State → State :=
  let a := if b = 0 then Reg.fwgtFeWa n c else Reg.fwgtFeWb n c
  hold ag a w <| guarded ag a (fun s =>
    if b = s.bankInUse n ∨ (s.eng n).fade.isSome ∨ (s.eng n).swapTo = some b then
      refusalErr Page.fwgt Err.resourceBusy ((4 + n) * 4096) (0x10 + n) s
    else setReg a w s)

/-- WEIGHT_WRITE (R232). -/
def execWeightWrite (ag : Agent) (n : EngIx) (bank : Bool) (c : CoilIx) (w : Word) (s : State) :
    Host.Outcome State Fault Refusal := .next (weightWrite ag n bank.toNat c w s)

/-- A write to FWGT.CNT_CLR (R242). -/
def fwgtCntClr (ag : Agent) (w : Word) : State → State :=
  hold ag Reg.fwgtCntClr w <| guarded ag Reg.fwgtCntClr (fun s =>
    sif (bit w 1) (forEach (List.range 4) (fun n => setReg (Reg.fwgtFeSwapCnt n) 0))
      (sif (bit w 0) (setReg Reg.fwgtGovCnt 0) s))

/-- FWGT_CNT_CLR (R242). -/
def execFwgtCntClr (ag : Agent) (w : Word) (s : State) : Host.Outcome State Fault Refusal := .next (fwgtCntClr ag w s)

/-! ## FIELD and BANK steps (R202, R225, R240, R252, R295) -/

/-- Whether a coil is leaving FEn in a commit between its margin and its tick (R240). -/
def State.leaving (s : State) (n c : Nat) : Bool :=
  match s.commit with
  | none => false
  | some k => k.issued && k.pages.contains Page.fwgt && !(s.shade (Reg.fwgtFeCoils n)).getLsbD c

/-- FEn's coils of a list come on, or change entry, at tick `t` with entry `e` (R202, R203, R252). -/
def engineOn (n t e : Nat) (l : List Nat) (s : State) : State :=
  let fresh := l.filter (fun c => !s.coilOn c)
  let u := forEach l (fun c v =>
    if v.coilOn c then coilEntry c e v else publish (0x93 + 4 * c) t (coilFieldOn c e v)) s
  govern (fieldFollow n (sif (decide (fresh ≠ [])) (guardCount n t) u))

/-- FEn's coils of a list go off (R202). -/
def engineOff (n : Nat) (l : List Nat) (s : State) : State :=
  let u := forEach l (fun c v => if v.coilOn c then coilFieldOff c v else v) s
  govern (fieldFollow n (sif (!u.engOn n) (guardClear n) u))

/-- A FIELD step of FEn acts at tick `t` (R295). -/
def fieldAct (n t : Nat) (i : Issued) (s : State) : State :=
  let on := i.operand.testBit 24
  let e := i.operand / 2 ^ 16 % 64
  let named := if i.operand % 4096 = 0 then s.heldCoils n else bitsOf 12 i.operand
  let l := named.filter (fun c => s.feHolds n c && !(on && (s.coil c).damped))
  let s1 := sif (named.any (fun c => !s.feHolds n c)) (stepRefused n i.slot Err.modeAbort i.index) s
  if on then
    match s.driveBar with
    | some b => stepRefused n i.slot b i.index s1
    | none =>
      let lost := l.filter (fun c => (s.coil c).injected)
      let go := l.filter (fun c => !(s.coil c).injected)
      let stay := go.filter (fun c => s.coilOn c || !s.leaving n c)
      engineOn n t e stay (sif (decide (stay ≠ go)) (stepRefused n i.slot Err.modeAbort i.index)
        (sif (decide (lost ≠ [])) (stepRefused n i.slot Err.fieldLost i.index) s1))
  else engineOff n l s1

/-- FIELD_STEP (R295): the step acts at the carrier-cycle boundary of its tick. -/
def execFieldStep (n : EngIx) (s : State) : Host.Outcome State Fault Refusal :=
  .next (takeStep n 1 (Page.fe n) (fun i s =>
    let t := ccAt i.act
    if s.rb (Reg.ctrl (Page.fe n)) 0 = false then stepRefused n i.slot Err.modeAbort i.index s
    else fieldAct n t i (stepActed n (Page.fe n) i i.act t (passTo t s))) s)

/-- BANK_STEP (R231): a bank-select request on the step's tick. -/
def execBankStep (n : EngIx) (s : State) : Host.Outcome State Fault Refusal :=
  .next (takeStep n 2 (Page.fe n) (fun i s =>
    let t := ccAt i.act
    let u := stepActed n (Page.fe n) i i.act t (passTo t s)
    if s.rb (Reg.ctrl (Page.fe n)) 0 = false ∨ s.rb (Reg.ctrl Page.fwgt) 0 = false then stepRefused n i.slot Err.modeAbort i.index s
    else bankRequest n (i.operand % 2) t (stepRefused n i.slot Err.swapRejected i.index) u) s)

/-! ## The drivers stop (R51, R432, R434, R471) -/

/-- Every field stops at tick `t` with a cause; engines whose field was on report it, and slots of a sweep are without drive. -/
def driversStop (cause t : Nat) (s : State) : State :=
  let ons := (List.range 4).filter (fun n => s.engOn n)
  let u := forEach (List.range 12) (fun c v => if v.coilOn c then coilFieldOff c v else v)
    (sweepDark 0xfff (if s.fldRuns then passTo t s else s))
  govern (forEach ons (fun n => fieldStopped n cause t) u)

/-! ## The mismatch monitor and the tuner (R206–R210) -/

/-- MM_CFG.ACT takes effect (R209), at the next carrier-cycle boundary, when a field engine holds the coil, one that it keeps damped
among them (R225). -/
def mmAct (c : Nat) (s : State) : State :=
  let a := s.rf (Reg.coilMmCfg c) 23 22
  match if s.coilOn c then (List.range 4).find? (fun n => s.feHolds n c) else none with
  | none => s
  | some n =>
    if a = 1 ∧ (s.coil c).act = 0 then
      govern (coilEntry c (s.coil c).entryWanted (modCoil c (fun x => { x with act := 1 }) (passTo s.nextCc s)))
    else if a = 2 then
      let t := fieldFollow n (coilFieldOff c (passTo s.nextCc s))
      govern (if t.engDrives n then t else fieldStopped n Err.detuned s.nextCc t)
    else s

/-- A new SAFE_ENTRY takes effect in COILn while REDUCE stands (R209), at the next carrier-cycle boundary. -/
def safeFollow (n : Nat) (s : State) : State :=
  if s.coilOn n && (s.coil n).act == 1 then govern (coilEntry n (s.coil n).entryWanted (passTo s.ccNow s)) else s

/-- A mismatch with TUNE_CAP at `code` and the word `w` of MM_RESULT (R208, R209): its record, MISMATCH once per field-on, and ACT. A pulse of
Crocus is a field-on of its own, and ACT is not applied to it. -/
def mismatch (pulse : Bool) (code c w : Nat) (s : State) : State :=
  let t := recErr (Page.coil c) Err.detuned w code s
  if pulse then
    if (t.coil c).pulseSeen then t else publish (0x92 + 4 * c) t.now (modCoil c (fun x => { x with pulseSeen := true }) t)
  else mmAct c (if (t.coil c).mmSeen then t else publish (0x92 + 4 * c) t.now (modCoil c (fun x => { x with mmSeen := true }) t))

/-- TUNE_CAP.CODE becomes `v` (R206, R210). -/
def setCode (c v : Nat) (s : State) : State :=
  setShade (Reg.coilTuneCap c) (setFld (s.shade (Reg.coilTuneCap c)) 7 0 v) (setRf (Reg.coilTuneCap c) 7 0 v s)

/-- Tracking after a valid measurement with deviation `d` (R210); a step past code 0 or 255 is not made, as one past SPAN (log entry
127). -/
def mmTrack (c : Nat) (d : Int) (s : State) : State :=
  let w := s.reg (Reg.coilTuneTrack c)
  let fe := (List.range 4).any (fun n => s.feHolds n c)
  if !bit w 0 || !fe || decide (d.natAbs ≤ fld w 15 8) then s
  else
    let up := (decide (0 < d)) != bit w 1
    let code := s.rf (Reg.coilTuneCap c) 7 0
    let cal := s.rf (Reg.coilTuneCap c) 15 8
    let new : Int := if up then code + 1 else (code : Int) - 1
    if new < 0 ∨ 255 < new ∨ fld w 7 4 < (new - cal).natAbs then irq (Page.coil c) 7 s
    else setCode c new.toNat s

/-- MM_RESULT of a measurement (R207): VPK in mV, IPK in 0.1 mA, the phase in 0.1°. A quotient without a divisor saturates. -/
def State.mmResult (s : State) (c vpk ipk : Nat) (phase : Int) : Nat × Int :=
  let zref := s.rf (Reg.coilMmRef c) 15 0
  let z := if ipk * zref = 0 then 0xffff else min 0xffff (openDivNat (1024 * vpk * 1000) (ipk * zref))
  (z, signed 16 (unsigned 16 (phase - signed 16 (s.rf (Reg.coilMmRef c) 31 16))))

/-- Whether a measurement is DETUNED (R208). -/
def State.detunedMm (s : State) (c zr : Nat) (d : Int) : Bool :=
  decide (s.rf (Reg.coilMmCfg c) 7 0 < d.natAbs) ||
    decide (1024 * s.rf (Reg.coilMmCfg c) 15 8 < 100 * ((zr : Int) - 1024).natAbs)

/-- The word that a result loads into MM_RESULT. -/
def mmWord (r : Nat × Int) : Word := wd (r.1 * 65536 + unsigned 16 r.2)

/-- MM_MEAS and MM_RESULT load a measurement (R207); `ok` is VALID. -/
def mmPut (ok : Bool) (c vpk ipk : Nat) (r : Nat × Int) (s : State) : State :=
  govern (setReg (Reg.coilMmMeas c) (wd (ok.toNat * 2 ^ 31 + min 0x7fff ipk * 65536 + min 0xffff vpk))
    (setReg (Reg.coilMmResult c) (mmWord r) s))

/-- What a DETUNED result sets off (R208). -/
def mmJudge (pulse : Bool) (code c : Nat) (r : Nat × Int) (s : State) : State :=
  if s.detunedMm c r.1 r.2 then mismatch pulse code c (mmWord r).toNat (irq (Page.coil c) 2 (addRf (Reg.coilDrvCnt c) 15 0 1 s)) else s

/-- A mismatch measurement with TUNE_CAP at `code` completes (R207, R208): MM_MEAS and MM_RESULT, and what a DETUNED result sets off. -/
def mmLoadAt (code c vpk ipk : Nat) (phase : Int) (s : State) : State :=
  let r := s.mmResult c vpk ipk phase
  mmJudge false code c r (modCoil c (fun x => { x with mmNewer := true }) (mmPut true c vpk ipk r s))

/-- A mismatch measurement completes at the code in TUNE_CAP. -/
def mmLoad (c vpk ipk : Nat) (phase : Int) (s : State) : State := mmLoadAt (s.capCode c) c vpk ipk phase s

/-- MM_MEASUREMENT_DONE (R207, R208): the measurement that runs since field-on completes. -/
def execMmMeasurementDone (c : CoilIx) (vpk ipk : Nat) (phase : Int) (s : State) : Host.Outcome State Fault Refusal :=
  .next (match (s.coil c).mmDue with
    | none => s
    | some t =>
      let u := modCoil c (fun x => { x with mmDue := none }) (passTo t s)
      mmTrack c (u.mmResult c vpk ipk phase).2 (mmLoad c vpk ipk phase u))

/-- Whether coil `c` can be in a pulse of a sweep in WATCH, where the FTB does not tell the slots apart (R461). -/
def State.watchPulse (s : State) (c : Nat) : Bool :=
  !s.fldRuns && s.crocus.sweep.any (fun w => w.2.contains c) && s.holder c == 8 && !s.crocus.dark.testBit c

/-- DRIVER_CURRENT_LIMIT (R57, R208): the driver's current limit trips in a carrier cycle, whoever drives the coil; its bridge stops for
the rest of that cycle. -/
def execDriverCurrentLimit (c : CoilIx) (s : State) : Host.Outcome State Fault Refusal :=
  .next (if s.coilOn c ∨ s.watchPulse c then
    mismatch (s.holder c == 8) (s.capCode c) c (s.reg (Reg.coilMmResult c)).toNat (irq (Page.coil c) 3 (addRf (Reg.coilDrvCnt c) 31 16 1 (modCoil c (fun x => { x with stopTo := s.nextCc }) s)))
  else s)

/-- TUNE_CODE_APPLY (R206): the code joins the tuner at a carrier-cycle boundary, with the field off or Hollyhock holding. -/
def execTuneCodeApply (c : CoilIx) (s : State) : Host.Outcome State Fault Refusal :=
  .next (if s.coilOn c = false ∨ s.holder c = 2 then
    modCoil c (fun x => { x with cap := s.rf (Reg.coilTuneCap c) 7 0 }) (passTo (ccAt s.now) s)
  else s)

end Sys2Proof.Machine
end

