-- ==== Sys2Proof/Machine/Larkspur.lean ====
section
/-! DEFINITION. The players of the Larkspur schedule engine (12_larkspur_scores, R286–R306, R313): the target of a step, its
issue and lateness, internal and general steps, sections' ends, swaps and triggers, verification, and the player registers. -/

namespace Sys2Proof.Machine

/-! ## Steps (R293, R294) -/

/-- A step's fields (R293). -/
structure StepWord where
  op : Nat
  wmode : Nat
  wait : Nat
  swap : Bool
  lateDrop : Bool
  operand : Nat
  deriving DecidableEq, Repr

/-- A step from its word; WAIT in ft, SCALE applied (R293). -/
def stepOf (w : Nat) : StepWord :=
  ⟨bits64 w 63 60, bits64 w 59 57, bits64 w 55 32 * (if w.testBit 56 then 256 else 1), w.testBit 31, w.testBit 30,
    bits64 w 29 0⟩

/-- The classes that act inside Larkspur: NOP, BRANCH and END (R295). -/
def isInternal (op : Nat) : Bool := op == 0 || op == 0xd || op == 0xe

/-- The next step of player `k`. -/
def State.stepAt (s : State) (k : Nat) : StepWord := stepOf (s.slotWord k (s.activeSlot k) (s.player k).pc)

/-- Whether the next word of player `k` lies past its slot's LENGTH (R302). -/
def State.pastEnd (s : State) (k : Nat) : Bool := decide (s.imageLen k (s.activeSlot k) ≤ (s.player k).pc)

/-- The RX_END tick that a step takes now (R294): `none` while a reception goes on, or a window that the section itself has issued stands
open or is to open; S when nothing has been received. -/
def State.rxEndFor (s : State) (k : Nat) : Option Nat :=
  let f := (s.player k).flight
  let own := (s.player k).sec
  if k = 4 then
    if s.rx.rx.isSome || s.rx.win.any (fun w => w.live && !w.got && w.sec == own) || f.any (fun i => i.op == 6 && i.sec == own) then none
    else some (s.rx.lastEnd.getD (s.player k).sS)
  else
    let a := (s.eng k).air
    if a.sof.isSome || (a.opened.isSome && a.sec == own) || f.any (fun i => i.op == 4 && i.sec == own) ||
        (s.eng k).waits.any (fun i => i.op == 4 && i.sec == own) then none
    else some ((s.eng k).rxEnd.getD (s.player k).sS)

/-- The target T of a step of player `k` (R294), moved under R387 when it follows the tick from which its section moves;
`none` while an RX_END step waits. -/
def State.stepTarget (s : State) (k : Nat) (w : StepWord) : Option Nat :=
  let p := s.player k
  let moved := fun t fromP => if p.shiftFrom < t ∧ (fromP = false ∨ p.p ≤ p.shiftFrom) then t + p.shift else t
  match w.wmode with
  | 1 => some (moved (p.p + w.wait) true)
  | 2 => some (moved (p.sS + w.wait) false)
  | 3 => some (moved (p.anchor + w.wait) false)
  | 4 => (s.rxEndFor k).map (fun t => t + w.wait)
  | _ => some p.p

/-- The KIND of the section that player `k` plays. -/
def State.inFree (s : State) (k : Nat) : Bool := (s.player k).kind == Kind.free

/-- Records STEP (R314). -/
def stepShown (k : Nat) (s : State) : State := setRf (Reg.lspPlStatus k) 12 0 (s.player k).pc s

/-! ## Swaps (R304, R305) -/

/-- Whether a swap of player `k` is pending and may take place (R305, R313). -/
def State.swapReady (s : State) (k : Nat) : Bool :=
  s.rf (Reg.lspPlStatus k) 19 16 == 5 && !s.quiesced Page.lsp

/-- The swap (R305): the standby slot becomes active, the old one standby in state VALID. -/
def swapSlots (k : Nat) (s : State) : State :=
  setReg (Reg.lspPlScoreId k) (wd (bits64 (s.slotWord k (s.standbySlot k) 1) 63 32))
    (irq Page.lsp 1 (publish (0x60 + k) s.now (addRf (Reg.lspPlSectCnt k) 15 0 1
      (setRf (Reg.lspPlStatus k) 20 20 (s.standbySlot k) (setRf (Reg.lspPlStatus k) 19 16 3
        (modPlayer k (fun p => { p with emptied := false }) s))))))

/-! ## Starting sections (R289–R291) -/

/-- A section that should start does not exist: STEP_ERR and MODE_ABORT (R290). -/
def noSection (k : Nat) (s : State) : State := recErr Page.lsp Err.modeAbort k 0 (irq Page.lsp 6 s)

/-- A FREE or TRIGGER section of player `k` starts; player 4 takes the radio, which another may hold (R289). -/
def startOwn (k : Nat) (c : Section) (S : Nat) (s : State) : State :=
  if k ≠ 4 then startSection k c S 0 s
  else if !s.radioFree then
    recErr Page.lsp Err.resourceBusy (s.resEntry 0x78) 0x78 s
  else startSection k c S 0 (takeRadio 0 s)

/-- The TRIGGER section of player `k` starts with start tick `S`, if there is one (R290): its trigger waits no longer. -/
def startTrigger (k S : Nat) (s : State) : State :=
  let t := setRb (Reg.lspPlStatus k) 21 false (modPlayer k (fun p => { p with trig := none }) s)
  match (t.activeSections k).find? (fun c => c.kind == Kind.trigger) with
  | some c => startOwn k c S t
  | none => noSection k t

/-- The FREE section `num` of player `k`. -/
def State.freeSection (s : State) (k num : Nat) : Option Section :=
  (s.activeSections k).find? (fun c => c.kind == Kind.free && c.num == num)

/-- Whether player `k` is to be held (R306, R313, R454). -/
def State.toHold (s : State) (k : Nat) : Bool :=
  decide (2 ≤ s.mode) || s.rb (Reg.lspPlCtrl k) 0 || s.rb (Reg.ctrl Page.lsp) 1 || s.quiesced Page.lsp

/-- What player `k` serves goes on or starts: a further layer-4 block, a waiting discovery, or the next section of a link
exchange (R256, R266, R384). -/
def serveNext (k : Nat) (s : State) : State :=
  if k < 4 then startDisc k (turnaround k s) else if k = 4 then linkGo s else s

/-- An idle player `k` (R291, R305, R306): a pending swap takes place, then the player is held, or starts the section that a
trigger waits for, and else what it serves needs (log entry 107). -/
def playerIdle (k : Nat) (s : State) : State :=
  if s.playing k then s
  else
    let t := sif (s.swapReady k) (swapSlots k) s
    if t.toHold k then setRb (Reg.lspPlStatus k) 22 true t
    else
      let u := setRb (Reg.lspPlStatus k) 22 false t
      let v := if (u.player k).trig.isSome then startTrigger k (u.nextBound (u.player k).ended) u else u
      if v.playing k then v else serveNext k v

/-! ## The end of a section (R291, R306) -/

/-- Player 4 releases the radio when it becomes idle (R289). -/
def radioRelease (s : State) : State :=
  if s.holder 0x78 = 3 ∧ !s.playing 4 then radioIdle s.now (releaseRes 0x78 s) else s

/-- The section of player `k` is over at tick `t`: what it served may have nothing more to come, and the player is idle. -/
def sectionOver (k t : Nat) (s : State) : State :=
  let u := setRb (Reg.lspPlStatus k) 23 false (modPlayer k (fun p => { p with
    ended := max t s.now, slot := 0, shift := 0, shiftFrom := 0 }) s)
  let v := if k < 4 then linkSettle (engSettle k u) else if k = 4 then linkSettle u else u
  let w := playerIdle k v
  if k = 4 then radioRelease w else w

/-- At a swap point of a FREE section with target `T` (R305, R306): a player to be held stops; a pending swap takes place and
play goes on in the FREE section of the same number. -/
def swapPoint (k T : Nat) (s : State) : State :=
  if s.toHold k then sectionOver k T s
  else if !s.swapReady k then s
  else
    let num := s.rf (Reg.lspPlStatus k) 31 24
    let t := swapSlots k s
    match t.freeSection k num with
    | some c => setPair (Reg.lspPlStartLo k) T (modPlayer k (fun p => { p with pc := c.entry, sS := T, p := T }) t)
    | none => sectionOver k T (stepRefused k (t.player k).slot Err.modeAbort (t.rf (Reg.lspPlStatus k) 12 0) t)

/-! ## Issue (R298–R302) -/

/-- MARGIN of the commit unit in ft (R314). -/
def State.marginFt (s : State) : Nat := 8 * max 48 (min 1024 (s.rf Reg.lspCommitCfg 10 0))

/-- Passes the NOPs before the next step to issue: they are not issued and hold nothing but P (R298); a NOP that is a swap
point of a FREE section is not passed. -/
def passNops (k : Nat) : Nat → State → State
  | 0, s => s
  | n + 1, s =>
    let w := s.stepAt k
    if s.pastEnd k || w.op != 0 || (w.swap && s.inFree k) then s
    else
      match s.stepTarget k w with
      | none => s
      | some t => passNops k n (modPlayer k (fun p => { p with pc := p.pc + 1, p := t }) (stepShown k s))

/-- The step `w` of player `k` with target `T` issues at tick `t` to a consumer (R17, R18): the consumer acts on T when the
action reaches it in time, and else as soon as it has it (log entry 37). -/
def deliver (k : Nat) (w : StepWord) (T t : Nat) (s : State) : State :=
  let p := s.player k
  let i : Issued := { op := w.op, target := T, operand := w.operand,
                      data := if w.op = 0xa then s.slotWord k (s.activeSlot k) (p.pc + 1) else 0
                      index := p.pc, issued := t
                      act := if w.op = 0xc then t else if t + 64 ≤ T then T else t + 64
                      slot := p.slot, sec := p.sec }
  modPlayer k (fun p => { p with flight := p.flight ++ [i] }) s

/-- The tick against which the issue of a step with target `T` is judged (R298). -/
def State.issueRef (s : State) (w : StepWord) (T : Nat) : Nat := if w.op = 0xc then T - s.marginFt else T

/-- The tick at which player `k` issues a step (R298). -/
def State.issueTick (s : State) (k ref : Nat) : Nat :=
  max (max (ref - 256) ((s.player k).lastIssue + 1)) (max (s.player k).avail s.now)

/-- Issues the step `w` of player `k` whose target is `T` (R298–R301); a swap point follows in a FREE section (R305). -/
def issueStep (k : Nat) (w : StepWord) (T : Nat) (s : State) : State :=
  let ref := s.issueRef w T
  let t := s.issueTick k ref
  let late := decide (ref < t)
  let a := passTo t (stepShown k s)
  let b := if late then stepLate k (s.player k).slot T t a else sif (decide (ref < t + 256)) (addRf (Reg.lspPlCnt k) 15 0 1) a
  let c := if late && w.lateDrop then b else deliver k w T t b
  let d := modPlayer k (fun p => { p with
    p := T, pc := p.pc + (if w.op = 0xa then 2 else 1), lastIssue := if late && w.lateDrop then p.lastIssue else t }) c
  if w.swap && s.inFree k then swapPoint k T d else d

/-- STEP_ISSUE (R298): player `k` issues its next timed step; a step index past LENGTH ends the section (R302). -/
def execStepIssue (k : PlayerIx) (s : State) : Host.Outcome State Fault Refusal :=
  .next (if !s.playing k then s
  else
    let t := passNops k 8192 s
    if t.pastEnd k then sectionOver k t.now (stepRefused k (t.player k).slot Err.modeAbort (t.player k).pc t)
    else if isInternal (t.stepAt k).op then t
    else
      match t.stepTarget k (t.stepAt k) with
      | none => t
      | some T => issueStep k (t.stepAt k) T t)

/-! ## Internal steps (R297, R305) -/

/-- Runs the next step of player `k` when it is the internal class `op` and its target is known; `f` is given the step, its
target and the state with STEP shown. -/
def internalStep (k op : Nat) (f : StepWord → Nat → State → State) (s : State) : State :=
  if !s.playing k || s.pastEnd k || (s.stepAt k).op != op then s
  else
    match s.stepTarget k (s.stepAt k) with
    | none => s
    | some T => f (s.stepAt k) T (passTo T (stepShown k s))

/-- NOP_STEP (R295, R305): a wait, or a swap point of a FREE section. -/
def execNopStep (k : PlayerIx) (s : State) : Host.Outcome State Fault Refusal :=
  .next (internalStep k 0 (fun w T s =>
    let t := modPlayer k (fun p => { p with pc := p.pc + 1, p := T }) s
    if w.swap && s.inFree k then swapPoint k T t else t) s)

/-- Whether a branch condition holds for player `k` (R297). -/
def State.condHolds (s : State) (k cond : Nat) : Bool :=
  let e := s.eng k
  match cond with
  | 0 => true
  | 1 => if k = 4 then s.rx.lastOk else e.rxOk
  | 2 => if k = 4 then s.rx.lastNone else e.rxNone
  | 3 => if k = 4 then s.rx.rx.isSome else e.air.sof.isSome
  | 4 => e.exch.any (fun x => x.isL4 && x.l4.more)
  | 5 => decide (k < 4) && s.engOn k
  | 6 => decide (k < 4) && s.rb (Reg.feFieldStatus k) 31
  | 7 => s.rbLocked
  | _ => s.rf Reg.sysEpochStatus 2 0 == 3

/-- BRANCH_STEP (R297, R305): evaluated at the later of its T and the edge at which it can be reached; later steps issue no earlier. With
SWAP set in a FREE section it is a swap point. -/
def execBranchStep (k : PlayerIx) (s : State) : Host.Outcome State Fault Refusal :=
  .next (internalStep k 0xd (fun w T s =>
    let t := passTo (s.player k).avail s
    let yes := t.condHolds k (bits64 w.operand 29 26) != w.operand.testBit 25
    let u := modPlayer k (fun p => { p with pc := if yes then w.operand % 8192 else p.pc + 1, p := T, avail := t.now }) t
    if w.swap && s.inFree k then swapPoint k T u else u) s)

/-- END_STEP (R295, R305): the section ends, and producer 0x68 + k publishes with tick T. -/
def execEndStep (k : PlayerIx) (s : State) : Host.Outcome State Fault Refusal :=
  .next (internalStep k 0xe (fun _ T s => sectionOver k T (publish (0x68 + k) T s)) s)

/-! ## General steps (R295) -/

/-- A step of player `k` reaches its consumer's page: a disabled one refuses it (R135). -/
def atPage (k page : Nat) (i : Issued) (f : State → State) (s : State) : State :=
  let t := passTo i.act s
  if t.rb (Reg.ctrl page) 0 then f (stepActed k page i i.act i.act t) else stepRefused k i.slot Err.modeAbort i.index t

/-- PUBLISH_STEP (R179, R192): an event from producer 0x50 + k with tick T. -/
def execPublishStep (k : PlayerIx) (s : State) : Host.Outcome State Fault Refusal :=
  .next (takeStep k 8 Page.evf (fun i => atPage k Page.evf i (fun t =>
    if t.chanSecure .larkspur (i.operand % 64) then
      stepRefused k i.slot Err.secureDenied i.index t
    else publishOn (0x50 + k) (i.operand % 64) i.target t)) s)

/-- GPIO_STEP (R295): needs FUNC 0b100 and the pin held for LARKSPUR. -/
def execGpioStep (k : PlayerIx) (s : State) : Host.Outcome State Fault Refusal :=
  .next (takeStep k 9 Page.evf (fun i => atPage k Page.evf i (fun t =>
    let n := i.operand % 16
    if !t.holds .larkspur (0x68 + n) then stepRefused k i.slot Err.ownerDenied i.index t
    else if t.rf (Reg.evfGpCfg n) 2 0 ≠ 4 then stepRefused k i.slot Err.modeAbort i.index t
    else gpSet n (bits64 i.operand 5 4) (cellsNow t))) s)

/-- SNAP_STEP (R160): every armed page is captured on T. -/
def execSnapStep (k : PlayerIx) (s : State) : Host.Outcome State Fault Refusal :=
  .next (takeStep k 0xb Page.ftb (fun i => atPage k Page.ftb i capture) s)

/-! ## Triggers, starts and stops (R290, R291, R306) -/

/-- An event with tick `t` reaches the trigger input of player `k`. -/
def triggered (k t : Nat) (s : State) : State :=
  if s.playing k || s.toHold k then
    setRb (Reg.lspPlStatus k) 21 true (modPlayer k (fun p => { p with trig := some t }) s)
  else startTrigger k (roundUp (t + max 320 (s.rf (Reg.lspPlCfg k) 15 0)) 8) s

/-- PLAYER_TRIGGER (R290, R291): task input 0x88 + k, busy while a trigger waits or a trigger section plays. -/
def execPlayerTrigger (k : PlayerIx) (s : State) : Host.Outcome State Fault Refusal :=
  .next (onTask (0x88 + k) (fun t =>
    (t.player k).trig.isSome || (t.playing k && (t.player k).kind == Kind.trigger)) (triggered k) s)

/-- What player `k` serves ends with MODE_ABORT (R306). -/
def abortServed (k : Nat) (s : State) : State :=
  if k < 4 then abortEngine k Err.modeAbort (ccAt s.now) (passTo (ccAt s.now) s)
  else if k = 4 then
    let t := rbRxAbort s.now s
    match t.link.ex with
    | none => t
    | some x => linkStop x Err.modeAbort t
  else s

/-- STOP (R306): the section ends at once with MODE_ABORT, and what it serves with it. -/
def playerStop (k : Nat) (s : State) : State :=
  if s.playing k then
    sectionOver k s.now (abortServed k (stepRefused k (s.player k).slot Err.modeAbort (s.rf (Reg.lspPlStatus k) 12 0) s))
  else abortServed k s

/-- The detail of RESOURCE_BUSY with player `k` as holder (R141, R287): the claimant LARKSPUR with the player, and its index. -/
def playerBusy (k : Nat) : State → State := refusalErr Page.lsp Err.resourceBusy (0x3000 + k) (0x18 + k)

/-- VERIFY (R303). -/
def playerVerify (k : Nat) (s : State) : State :=
  let st := s.rf (Reg.lspPlStatus k) 19 16
  if st = 2 ∨ st = 5 then playerBusy k s else setRf (Reg.lspPlStatus k) 19 16 2 s

/-- SWAP_REQ (R304): an idle player swaps at once. -/
def playerSwap (k : Nat) (s : State) : State :=
  let st := s.rf (Reg.lspPlStatus k) 19 16
  if st = 3 then setRf (Reg.lspPlStatus k) 19 16 5 s
  else refusalErr Page.lsp Err.swapRejected (if st = 5 then 2 else 1) 0 s

/-- SWAP_CANCEL (R304). -/
def playerCancel (k : Nat) (s : State) : State :=
  if s.rf (Reg.lspPlStatus k) 19 16 = 5 then setRf (Reg.lspPlStatus k) 19 16 3 s else s

/-- START (R290): the FREE section named starts at the bound; a held player starts nothing. -/
def playerStart (k num : Nat) (s : State) : State :=
  if s.playing k then playerBusy k s
  else
    match s.freeSection k num with
    | none => noSection k s
    | some c => if s.toHold k then s else startOwn k c (boundTick s.now) s

/-- A write of PLk_CTRL (R303–R306): STOP, VERIFY, SWAP_REQ, SWAP_CANCEL and START act in this order, then HOLD is stored;
an idle player does what has become possible. A disabled page refuses VERIFY, SWAP_REQ and START (R135). -/
def plCtrlEffect (k : Nat) (w : Word) (s : State) : State :=
  let a := sif (bit w 4) (playerStop k) s
  let b := sif (bit w 1) (pageWork Page.lsp (playerVerify k)) a
  let c := sif (bit w 2) (pageWork Page.lsp (playerSwap k)) b
  let d := sif (bit w 3) (playerCancel k) c
  let e := sif (bit w 5) (pageWork Page.lsp (playerStart k (fld w 15 8))) d
  let f := setRb (Reg.lspPlCtrl k) 0 (bit w 0) e
  if bit w 0 = s.rb (Reg.lspPlCtrl k) 0 ∧ bit w 4 = false ∧ f.swapReady k = s.swapReady k then f else playerIdle k f

/-- The checks on a write to a register of player `k`: those of R139, and the claim of the player (R288). -/
def plGuard (ag : Agent) (k a : Nat) (eff : State → State) : State → State :=
  guarded ag a (fun s =>
    if s.holds ag (0x18 + k) then eff s else refusalErr Page.lsp Err.ownerDenied (writeInfo ag a) 0 s)

/-- A write of PLk_CTRL. -/
def plCtrlWrite (ag : Agent) (k : Nat) (w : Word) : State → State := plGuard ag k (Reg.lspPlCtrl k) (plCtrlEffect k w)

/-- A write of PLk_CTRL that sets some of its WO bits and leaves HOLD as it is. -/
def plCtrlBits (ag : Agent) (k bits : Nat) (s : State) : State :=
  plCtrlWrite ag k (wd (bits + (s.rb (Reg.lspPlCtrl k) 0).toNat)) s

/-- PLAYER_START (R290). -/
def execPlayerStart (ag : Agent) (k : PlayerIx) (num : SlotIx) (s : State) : Host.Outcome State Fault Refusal :=
  .next (plCtrlBits ag k (256 * num + 32) s)

/-- PLAYER_STOP (R306). -/
def execPlayerStop (ag : Agent) (k : PlayerIx) (s : State) : Host.Outcome State Fault Refusal := .next (plCtrlBits ag k 16 s)

/-- PLAYER_HOLD (R306): HOLD takes `on`. -/
def execPlayerHold (ag : Agent) (k : PlayerIx) (on : Bool) (s : State) : Host.Outcome State Fault Refusal :=
  .next (plCtrlWrite ag k (wd on.toNat) s)

/-- SWAP_REQ (R304). -/
def execSwapReq (ag : Agent) (k : PlayerIx) (s : State) : Host.Outcome State Fault Refusal := .next (plCtrlBits ag k 4 s)

/-- SWAP_CANCEL (R304). -/
def execSwapCancel (ag : Agent) (k : PlayerIx) (s : State) : Host.Outcome State Fault Refusal := .next (plCtrlBits ag k 8 s)

/-- VERIFY (R303). -/
def execVerify (ag : Agent) (k : PlayerIx) (s : State) : Host.Outcome State Fault Refusal := .next (plCtrlBits ag k 2 s)

/-! ## Verification (R303) -/

/-- The step words of an image: a WRITE is followed by its data word (R296). `n` words are left from index `i`. -/
def stepsFrom (word : Nat → Nat) : Nat → Nat → List Nat
  | 0, _ => []
  | 1, i => [i]
  | n + 2, i => if bits64 (word i) 63 60 = 0xa then i :: stepsFrom word n (i + 2) else i :: stepsFrom word (n + 1) (i + 1)

/-- Check 1: the header (R310). -/
def headerOk (h size : Nat) : Bool :=
  let n := bits64 h 39 32
  bits64 h 63 48 == 0x5c0e && bits64 h 47 40 == 1 && decide (1 ≤ n) && decide (n + 2 ≤ bits64 h 13 0) &&
    decide (bits64 h 13 0 ≤ size)

/-- The bytes that the image's CRC-32 covers: word 0 and words 2 to LENGTH − 1 (R310). -/
def imageBytes (word : Nat → Nat) (len : Nat) : List Byte :=
  let le := fun w => (List.range 8).map (fun i => BitVec.ofNat 8 (w / 256 ^ i))
  le (word 0) ++ (List.range (len - 2)).flatMap (fun j => le (word (2 + j)))

/-- Whether two entries of a section table exclude each other (check 3). -/
def sectionsClash (a b : Section) : Bool :=
  let numbered := fun c : Section => c.kind == Kind.command || c.kind == Kind.trigger || c.kind == Kind.free
  (numbered a && numbered b && a.num == b.num) ||
    (a.kind == b.kind && ((a.kind == Kind.exchange && a.std == b.std && a.framing == b.framing) ||
      ((a.kind == Kind.discover || a.kind == Kind.turnaround) && a.std == b.std) || a.kind == Kind.trigger))

/-- Check 3 on one entry, given those before it. -/
def sectionOk (k n len : Nat) (before : List Section) (c : Section) : Bool :=
  let named := c.kind == Kind.exchange || c.kind == Kind.discover || c.kind == Kind.turnaround
  decide (c.kind ≤ 5) && !before.any (sectionsClash c) && decide (c.std ≤ 5) && (!named || decide (1 ≤ c.std)) &&
    decide (n + 2 ≤ c.entry) && decide (c.entry < len) && (decide (k < 4) || c.link == 0)

/-- The first entry of a section table that fails check 3. -/
def sectionFail (k n len : Nat) : List Section → List Section → Option Nat
  | _, [] => none
  | before, c :: r =>
    if sectionOk k n len before c then sectionFail k n len (before ++ [c]) r else some (2 + before.length)

/-- Check 4: the class is defined and allowed on player `k` (R286). -/
def opAllowed (k op : Nat) : Bool :=
  if 1 ≤ op ∧ op ≤ 4 then decide (k < 4) else if 5 ≤ op ∧ op ≤ 7 then k == 4 else op != 0xf

/-- The operand bits that a class uses (R295). -/
def operandMask (op : Nat) : Nat :=
  match op with
  | 1 => 0x13f0fff
  | 2 => 0x1
  | 3 => 0x3
  | 4 => 0xffffff
  | 5 => 0x7ffff
  | 6 => 0xffffff
  | 7 => 0x1
  | 8 => 0x3f
  | 9 => 0x3f
  | 0xa => 0x3f03ff
  | 0xd => 0x3e001fff
  | _ => 0

/-- The KIND of the section that a step belongs to: that of the greatest ENTRY at or below it (check 5). -/
def kindOfStep (l : List Section) (i : Nat) : Option Nat :=
  ((l.filter (fun c => decide (c.entry ≤ i))).foldl (fun (o : Option Section) c =>
    match o with
    | none => some c
    | some d => if d.entry < c.entry then some c else some d) none).map Section.kind

/-- Check 5 on the step word `w` at index `i`. -/
def stepOk (k : Nat) (l : List Section) (w i : Nat) : Bool :=
  let p := stepOf w
  (decide (p.wmode < 4) || (p.wmode == 4 && decide (k ≤ 4))) && (p.wmode != 0 || (bits64 w 56 32 == 0)) &&
    (p.operand &&& operandMask p.op == p.operand) && (p.op != 0xd || decide (bits64 p.operand 29 26 ≤ 8)) &&
    (!p.swap || p.op == 0xe || p.op == 0 || kindOfStep l i == some Kind.free)

/-- Check 6 on a step: a WRITE has its data word, and its page exists. -/
def writeOk (len w i : Nat) : Bool := (stepOf w).op != 0xa || (decide (i + 1 < len) && decide (bits64 w 21 16 ≤ 0x2b))

/-- Check 7 on a step: a BRANCH goes to a step. -/
def destOk (steps : List Nat) (w : Nat) : Bool := (stepOf w).op != 0xd || steps.contains (bits64 w 12 0)

/-- The first check of R303 that slot `b` of player `k` fails, with the failing word's index. -/
def State.slotFault (s : State) (k b : Nat) : Option (Nat × Nat) :=
  let word := s.slotWord k b
  let len := s.imageLen k b
  let n := bits64 (word 0) 39 32
  let l := s.sections k b
  let steps := stepsFrom word (len - (n + 2)) (n + 2)
  let bad := fun (c : Nat) (ok : Nat → Bool) => (steps.find? (fun i => !ok i)).map (fun i => (i, c))
  if !headerOk (word 0) (s.slotSize k b) then some (0, 1)
  else if crc32 (imageBytes word len) ≠ bits64 (word 1) 31 0 then some (1, 2)
  else
    (((((sectionFail k n len [] l).map (fun i => (i, 3))).or (bad 4 (fun i => opAllowed k (stepOf (word i)).op))).or
      (bad 5 (fun i => stepOk k l (word i) i))).or (bad 6 (fun i => writeOk len (word i) i))).or
      (bad 7 (fun i => destOk steps (word i)))

/-- VERIFY_DONE (R303): the verification of the standby slot of player `k` ends. -/
def execVerifyDone (k : PlayerIx) (s : State) : Host.Outcome State Fault Refusal :=
  .next (if s.rf (Reg.lspPlStatus k) 19 16 ≠ 2 then s
  else
    match s.slotFault k (s.standbySlot k) with
    | none => irq Page.lsp 2 (setRf (Reg.lspPlStatus k) 19 16 3 s)
    | some (i, c) => recErr Page.lsp Err.imageInvalid i c (irq Page.lsp 3 (setRf (Reg.lspPlStatus k) 19 16 4 s)))

/-! ## Loading (R287, R288) -/

/-- The slot of a player that holds word `i` of the score store. -/
def State.storeSlot (s : State) (i : Nat) : Option (Nat × Nat) :=
  ((List.range 16).map (fun j => (j / 2, j % 2))).find? (fun p =>
    decide (s.slotBase p.1 p.2 ≤ i ∧ i < s.slotBase p.1 p.2 + s.slotSize p.1 p.2))

/-- A write of a 32-bit word at byte `o` of the score store (R288). -/
def scoreWrite (o : Nat) (w : Word) (s : State) : State :=
  let ok := match s.storeSlot (o / 8) with
    | none => false
    | some (k, b) =>
      b == s.standbySlot k && s.holds .host (0x18 + k) && s.rf (Reg.lspPlStatus k) 19 16 != 2 &&
        s.rf (Reg.lspPlStatus k) 19 16 != 5
  if !ok then refusalErr Page.sys Err.ownerDenied (scoreBase + o) 0 s
  else
    setMem 4 (scoreBase + o / 4 * 4) w.toNat
      (match s.storeSlot (o / 8) with
      | none => s
      | some (k, _) => setRf (Reg.lspPlStatus k) 19 16 1 s)

/-- SCORE_STORE_WRITE (R288): the host writes the 32-bit word at index `i` of the window. -/
def execScoreStoreWrite (i : ScoreIx) (w : Word) (s : State) : Host.Outcome State Fault Refusal :=
  .next (windowWrite (scoreBase + 4 * i) (scoreWrite (4 * i) w) s)

/-- Whether slot `b` of player `k` at a new base and size meets another slot or passes the end of the store (R287). -/
def State.slotClash (s : State) (k b base size : Nat) : Bool :=
  decide (8192 < base + size) || (List.range 16).any (fun j =>
    j != 2 * k + b && decide (base < s.slotBase (j / 2) (j % 2) + s.slotSize (j / 2) (j % 2) ∧
      s.slotBase (j / 2) (j % 2) < base + size ∧ 0 < size ∧ 0 < s.slotSize (j / 2) (j % 2)))

/-- A write of PLk_SLOTA or PLk_SLOTB (R287). -/
def plSlotWrite (ag : Agent) (k b : Nat) (w : Word) : State → State :=
  plGuard ag k (slotReg k b) (fun s =>
    let base := fld w 12 0
    let size := fld w 29 16
    let st := s.rf (Reg.lspPlStatus k) 19 16
    if base = s.slotBase k b ∧ size = s.slotSize k b then s
    else if s.slotClash k b base size then refusalErr Page.lsp Err.modeAbort openDetail openDetail s
    else if b ≠ s.standbySlot k ∨ st = 2 ∨ st = 5 then playerBusy k s
    else setRf (Reg.lspPlStatus k) 19 16 0 (setReg (slotReg k b) (wd (size * 65536 + base)) s))

/-- PL_SLOT_WRITE (R287): SLOTA, or SLOTB with `onB`. -/
def execPlSlotWrite (ag : Agent) (k : PlayerIx) (onB : Bool) (w : Word) (s : State) : Host.Outcome State Fault Refusal :=
  .next (plSlotWrite ag k onB.toNat w s)

/-! ## Claims and counters -/

/-- A claim or release on behalf of claimant `c` with a detail (R38, R39, R155); a claim of what it holds already writes the entry anew
(log entry 120), and a claim on a quiesced COILn is refused with MODE_ABORT
(R143), one that another claimant holds too (log entry 141): the state after it, and the ERR of the result. -/
def claimAsk (c detail : Nat) (release : Bool) (i : Nat) (s : State) : State × Nat :=
  if !resListed i then (s, Err.modeAbort)
  else if release then
    (if s.holder i = 0 then (s, Err.none)
    else if s.holder i = c then (radioFreed (if i = 0x78 then 1 else 0) (releaseRes i s), Err.none)
    else (s, Err.ownerDenied))
  else if i < 12 ∧ s.quiesced (Page.coil i) ∧ s.holder i ≠ c then (s, Err.modeAbort)
  else if s.holder i = 0 ∨ s.holder i = c then (claimRes i c 0 detail (sif (decide (0x50 ≤ i ∧ i < 0x60)) cellsNow s), Err.none)
  else (s, Err.resourceBusy)

/-- Makes a claim and shows its outcome in the result register at `a` (R155, R289). -/
def claimTo (a c detail : Nat) (w : Word) (s : State) : State :=
  let i := fld w 6 0
  let r := claimAsk c detail (bit w 31) i s
  setReg a (wd (r.2 * 2 ^ 24 + i * 2 ^ 16 + (if resListed i then r.1.resEntry i else 0) % 2 ^ 16)) r.1

/-- A write of LSP.CLAIM (R289). -/
def lspClaim (ag : Agent) (w : Word) : State → State :=
  guarded ag Reg.lspClaim (pageWork Page.lsp (claimTo Reg.lspClaimResult 3 (fld w 10 8) w))

/-- LSP_CLAIM (R289). -/
def execLspClaim (ag : Agent) (w : Word) (s : State) : Host.Outcome State Fault Refusal := .next (lspClaim ag w s)

/-- A write of LSP.CNT_CLR (R314). -/
def lspCntClr (ag : Agent) (w : Word) : State → State :=
  guarded ag Reg.lspCntClr (fun s =>
    sif (bit w 0) (forEach (List.range 8) (fun k t => setReg (Reg.lspPlSectCnt k) 0 (setReg (Reg.lspPlCnt k) 0 t))) s)

/-- LSP_CNT_CLR (R314). -/
def execLspCntClr (ag : Agent) (w : Word) (s : State) : Host.Outcome State Fault Refusal := .next (lspCntClr ag w s)

/-! ## The SYS page's claims (R155) -/

/-- A write of SYS.CLAIM (R155): it claims and releases for HOST. -/
def sysClaim (ag : Agent) (w : Word) : State → State :=
  guarded ag Reg.sysClaim (claimTo Reg.sysClaimResult 1 0 w)

/-- SYS_CLAIM (R155). -/
def execSysClaim (ag : Agent) (w : Word) (s : State) : Host.Outcome State Fault Refusal := .next (sysClaim ag w s)

end Sys2Proof.Machine
end

