-- ==== Sys2Proof/Machine/Crocus.lean ====
section
/-! DEFINITION. Crocus (19_crocus_low_power, R460–R467): claims, sweeps and their slots, baselines, trips and tracking. -/

namespace Sys2Proof.Machine

/-- Changes Crocus's internal state. -/
def modCrocus (f : CrocusSt → CrocusSt) (s : State) : State := { s with crocus := f s.crocus }

/-- Coils in CROCUS.SET. -/
def State.crocusSet (s : State) : Nat := s.rf Reg.crocusSet 11 0

/-- The coils Crocus holds, in ascending order (STATUS.HELD). -/
def State.crocusHeld (s : State) : List Nat := (List.range 12).filter (fun c => s.holder c == 8)

/-- Crocus releases the coils that have left SET (R460). -/
def crocusDrop (s : State) : State :=
  forEach s.crocusHeld (fun c t => if s.crocusSet.testBit c then t else releaseRes c t) s

/-- A write of CROCUS.SET (R460): coils that leave it are released at the end of a running sweep. -/
def crocusSetWrite (ag : Agent) (w : Word) : State → State :=
  guarded ag Reg.crocusSet (fun s =>
    let t := storeReg Reg.crocusSet w s
    if t.crocus.sweep.isSome then t else crocusDrop t)

/-- A write of CROCUS.CFG (R467): PACE 0b11 is refused. -/
def crocusCfgWrite (ag : Agent) (w : Word) : State → State :=
  guarded ag Reg.crocusCfg (fun s =>
    if fld w 31 30 = 3 then refusalErr Page.crocus Err.modeAbort openDetail openDetail s else storeReg Reg.crocusCfg w s)

/-- CROCUS_COIL_CLAIM (R460): on an AON edge, Crocus claims a free coil of its set. -/
def execCrocusCoilClaim (c : CoilIx) (s : State) : Host.Outcome State Fault Refusal :=
  .next (if s.isReady ∧ s.crocusSet.testBit c ∧ s.holder c = 0 ∧ s.rb (Reg.ctrl Page.crocus) 0 ∧
      s.quiesced (Page.coil c) = false then claimRes c 8 0 0 s else s)

/-! ## Starting a sweep (R461, R465, R466) -/

/-- Whether a sweep may run: Crocus and PWR are not quiesced (R143, R466), no protection latch stands (R432), and the device is
in RUN, IDLE, SLEEP or WATCH. -/
def State.sweepOk (s : State) : Bool :=
  s.isReady && !s.quiesced Page.crocus && !s.quiesced Page.pwr && !s.rb Reg.sensProt 28 && s.mode != 2 && s.mode != 5

/-- The AON edge in WATCH at or after tick `t`, as ticks are extrapolated there (R458). -/
def State.watchEdge (s : State) (t : Nat) : Nat :=
  s.watchTick (((t - s.pwr.entryFtb) * 256 + s.pwr.entryMeas - 1) / s.pwr.entryMeas)

/-- A sweep whose request came at tick `r` starts at tick `t` on the coils held (R461): each pulse is a field-on of its coil (R208). -/
def sweepBegin (r t : Nat) (s : State) : State :=
  let l := s.crocusHeld
  let dark := (l.filter (fun c => s.driveBar.isSome || (s.coil c).injected)).foldl (fun m c => m ||| 2 ^ c) 0
  govern (forEach l (fun c => modCoil c (fun y => { y with pulseSeen := false, mmNewer := false, mmGone := false })) <| setPair Reg.crocusLastLo t (setRb Reg.crocusStatus 31 true
    (modCrocus (fun c => { c with
      sweep := some (t, l), lost := 0, dark := dark, met := 0, waits := none, gap := s.rf Reg.crocusGap 15 0, began := some r }) s)))

/-- Whether DEFER makes a sweep wait (R466). -/
def State.defers (s : State) : Bool :=
  s.rb Reg.crocusCfg 29 && s.mode == 0 && (List.range 4).any (fun n => s.rf (Reg.feExchStatus n) 10 8 == 3 || s.rf (Reg.feExchStatus n) 10 8 == 4)

/-- GAP, as loaded at the latest sweep's start, or before the first as it stands, in ft by the AON measurement (R465, R176). -/
def State.gapFt (s : State) : Nat :=
  let m := if s.mode = 4 then s.pwr.entryMeas else s.rf Reg.ftbAonMeas 23 0
  max 8 (if s.crocus.began.isSome then s.crocus.gap else s.rf Reg.crocusGap 15 0) * (if m = 0 then 847500 else m) / 256

/-- The tick at which the gap timer asks for a sweep: GAP after the request of the previous one (R465), or now where a sweep could not start then
(log entry 142); the first is asked for at `tick`. -/
def State.gapDue (s : State) (tick : Nat) : Nat := max s.now (s.crocus.began.elim tick (· + s.gapFt))

/-- A sweep falls due at tick `t` (R466): it starts, or waits; one that has waited a whole GAP is skipped. -/
def sweepDue (t : Nat) (s : State) : State :=
  match s.crocus.waits with
  | none => if s.defers then modCrocus (fun c => { c with waits := some t }) s else sweepBegin t (ccAt t) (passTo (ccAt t) s)
  | some w =>
    if w + s.gapFt ≤ t then addRf Reg.crocusSweepCnt 15 0 1 (modCrocus (fun c => { c with waits := none }) s)
    else if s.defers then s
    else sweepBegin t (ccAt t) (passTo (ccAt t) s)

/-- CROCUS_SWEEP_START (R461, R465): the gap timer, or an event on task input 0x99, asks for a sweep at a tick; in WATCH the tick
counts the AON cycles since entry, and the carrier starts 216 cc after the AON edge. After the first sweep it is GAP that says when the gap
timer asks. The command also ends the wait of a deferred sweep. -/
def execCrocusSweepStart (gap : Bool) (tick : Nat) (s : State) : Host.Outcome State Fault Refusal :=
  let pace := s.rf Reg.crocusCfg 31 30
  .next (
    if gap then
      if pace = 1 ∧ s.crocus.waits.isNone ∨ s.crocus.sweep.isSome ∨ !s.sweepOk then s
      else if s.mode = 4 then
        let e := s.watchEdge (s.gapDue (s.watchTick tick))
        sweepBegin e (e + 1728) s
      else if s.crocus.waits.isSome then sweepDue (max tick s.now) s
      else sweepDue (s.gapDue tick) s
    else onTask 0x99 (fun t => t.crocus.sweep.isSome)
      (fun _ t => if pace = 0 ∨ !t.sweepOk ∨ t.mode ≠ 0 then t else sweepDue (max tick t.now) t) s)

/-! ## The slots of a sweep (R461–R464) -/

/-- The wrapped difference of two phases in steps of 2π/65,536. -/
def phaseDiff (a b : Nat) : Int := signed 16 (unsigned 16 ((a : Int) - b))

/-- The register of coil `c`'s baseline in use (R462). -/
def State.baseReg (s : State) (c : Nat) : Nat := if s.crocus.onW then Reg.crocusBaseW c else Reg.crocusBaseX c

/-- Whether a measurement (MAG, PHASE) of coil `c` differs from baseline `b` by more than its limits, halved when `half` (R463). -/
def State.beyond (s : State) (c mag ph : Nat) (b : Word) (half : Bool) : Bool :=
  let k := if half then 2 else 1
  decide (s.rf (Reg.crocusThr c) 7 0 * fld b 31 16 < k * 1024 * ((mag : Int) - fld b 31 16).natAbs) ||
    decide (s.rf (Reg.crocusThr c) 15 8 * 65536 < k * 3600 * (phaseDiff ph (fld b 15 0)).natAbs)

/-- Whether coil `c` is TRIPPED. -/
def State.tripped (s : State) (c : Nat) : Bool := s.rb Reg.crocusStatus c

/-- The coil's counts of consecutive sweeps. -/
def setRuns (c dev clr : Nat) : State → State :=
  modCrocus (fun x => { x with dev := tabSet 0 x.dev c dev, clr := tabSet 0 x.clr c clr })

/-- A coil becomes TRIPPED (R463) at tick `t`; the trip can wake the device. -/
def trip (c t : Nat) (s : State) : State :=
  wakeSource 1 (irq Page.crocus 0 (publish 0xe2 t (addRf Reg.crocusTripCnt 31 16 1 (setRb Reg.crocusStatus c true s))))

/-- A valid measurement of coil `c` is compared with its baseline (R463, R464); a `hush` sweep trips nothing (R462). -/
def judge (hush : Bool) (c mag ph t : Nat) (s : State) : State :=
  let b := s.reg (s.baseReg c)
  let count := max 1 (s.rf Reg.crocusCfg 11 8)
  let dev := s.beyond c mag ph b false
  let clr := !s.beyond c mag ph b true
  let d := if dev then tabGet 0 s.crocus.dev c + 1 else 0
  let k := if clr then tabGet 0 s.crocus.clr c + 1 else 0
  let u := setRuns c (min 16 d) (min 16 k) s
  let v :=
    if s.tripped c then (if count ≤ k then setRb Reg.crocusStatus c false u else u)
    else if count ≤ d ∧ !hush then trip c t u else u
  let sh := s.rf Reg.crocusCfg 3 0
  if dev ∨ v.tripped c ∨ sh = 0 then v
  else setReg (s.baseReg c) (wd (unsigned 16 (fld b 31 16 + ((mag : Int) - fld b 31 16) / 2 ^ sh) * 65536 +
    unsigned 16 (fld b 15 0 + phaseDiff ph (fld b 15 0) / 2 ^ sh))) v

/-- Whether the baseline of coil `c` is to be loaded from its next valid measurement (R462). -/
def State.loads (s : State) (c : Nat) : Bool :=
  fld (s.reg (s.baseReg c)) 31 16 == 0 || s.crocus.reload.testBit c || (s.crocus.onW && s.crocus.loadW.testBit c)

/-- A valid slot of coil `c`: a baseline that is to be loaded takes the measurement, which then trips nothing (R462). -/
def slotValid (hush : Bool) (c mag ph t : Nat) (s : State) : State :=
  judge hush c mag ph t (if s.loads c then
    setReg (s.baseReg c) (wd (mag * 65536 + ph)) (modCrocus (fun x => { x with
      reload := clearBit x.reload c, loadW := if x.onW then clearBit x.loadW c else x.loadW }) s)
  else s)

/-- The mismatch measurement of a slot (R207, R208, R461), abandoned when its window outlasts the pulse of 54 cc. It came before the
measurements of the coil's own since the sweep began: registers that one of those has loaded stay, and VALID that one has cleared. -/
def slotMismatch (c : Nat) (x : CrocusSlot) (s : State) : State :=
  let y := s.coil c
  if 54 < s.rf (Reg.coilMmWin c) 7 0 + max 8 (s.rf (Reg.coilMmWin c) 15 8) then
    if y.mmNewer then s else setRb (Reg.coilMmMeas c) 31 false s
  else
    let r := s.mmResult c x.vpk x.ipk x.phase
    mmJudge true (s.capCode c) c r (if y.mmNewer then s else mmPut (!y.mmGone) c x.vpk x.ipk r s)

/-- The block sum of a slot (R461): the mixed samples of R212 over cc 16–47, which begin at a carrier-cycle boundary. -/
def slotSum (x : CrocusSlot) : Int × Int :=
  x.samples.zipIdx.foldl (fun a p => let m := mix p.2 p.1; (a.1 + m.1, a.2 + m.2)) (0, 0)

/-- MAG and PHASE of a slot (R461). -/
def slotPolar (x : CrocusSlot) : Nat × Nat :=
  (min 0xffff (isqrt ((slotSum x).1 * (slotSum x).1 + (slotSum x).2 * (slotSum x).2).toNat / 16), unsigned 16 (phaseOf (slotSum x).1 (slotSum x).2))

/-- Whether the sense path clipped in the slot (R211, R461). -/
def slotClip (x : CrocusSlot) : Bool := x.samples.any clipped

/-- Whether the slot of coil `c` is invalid (R51, R461): the coil yielded in it, VFLD was below its threshold, or the path clipped. -/
def State.slotBad (s : State) (c : Nat) (x : CrocusSlot) : Bool :=
  s.crocus.lost.testBit c || s.crocus.dark.testBit c || slotClip x

/-- The slot of coil `c`, its sweep ending at tick `t`. Where the drive was cut, a mismatch measurement loads only if it had ended before
(R207); a coil that yielded leaves no sample. In a `hush` sweep nothing trips. -/
def slotDone (hush : Bool) (c t : Nat) (x : CrocusSlot) (s : State) : State :=
  let mag := (slotPolar x).1
  let ph := (slotPolar x).2
  let cut := s.crocus.lost.testBit c || s.crocus.dark.testBit c
  let v := if !cut ∨ s.crocus.met.testBit c then slotMismatch c x s else s
  if s.crocus.lost.testBit c then setRb Reg.crocusInvalid c true v
  else
    let u := setReg (Reg.crocusMeas c) (wd (mag * 65536 + ph)) v
    if s.slotBad c x then setRb Reg.crocusInvalid c true u else slotValid hush c mag ph t u

/-- Whether a sweep with these slots trips nothing: a valid one loads a baseline whose MAG is 0 (R462). The first sweep after an entry to WATCH
needs no such word: it loads the baseline of every coil that it could trip. -/
def State.hushes (s : State) (l : List (Nat × CrocusSlot)) : Bool :=
  l.any (fun p => !s.slotBad p.1 p.2 && fld (s.reg (s.baseReg p.1)) 31 16 == 0)

/-- CROCUS_SWEEP_END (R461–R464): the sweep ends after its last slot, with what each slot met, in slot order; its events are
stamped with a tick no earlier than that and at most 3 AON cycles later (R16). -/
def execCrocusSweepEnd (tick : Nat) (slots : List CrocusSlot) (s : State) : Host.Outcome State Fault Refusal :=
  .next (match s.crocus.sweep with
    | none => s
    | some (start, l) =>
      let e := start + 512 * l.length
      let t := max e (min tick (e + 9932))
      let u := setReg Reg.crocusInvalid 0 (if s.fldRuns then passTo t s else s)
      let v := (l.zip slots).foldl (fun a p => slotDone (u.hushes (l.zip slots)) p.1 t p.2 a) u
      govern (crocusDrop (irq Page.crocus 1 (publish 0xe1 t (addRf Reg.crocusSweepCnt 31 16 1
        (setRb Reg.crocusStatus 31 false (modCrocus (fun c => { c with sweep := none, lost := 0, dark := 0, met := 0 }) v)))))))

/-! ## Requests -/

/-- A write to CROCUS.BASE_REQ (R462). -/
def crocusBaseReq (ag : Agent) (w : Word) : State → State :=
  guarded ag Reg.crocusBaseReq (pageWork Page.crocus (modCrocus (fun c => { c with reload := c.reload ||| fld w 11 0 })))

/-- CROCUS_BASE_REQ (R462). -/
def execCrocusBaseReq (ag : Agent) (w : Word) (s : State) : Host.Outcome State Fault Refusal := .next (crocusBaseReq ag w s)

/-- A write to CROCUS.CNT_CLR (R467). -/
def crocusCntClr (ag : Agent) (w : Word) : State → State :=
  guarded ag Reg.crocusCntClr (sif (bit w 0) (fun s => setReg Reg.crocusTripCnt 0 (setReg Reg.crocusSweepCnt 0 s)))

/-- CROCUS_CNT_CLR (R467). -/
def execCrocusCntClr (ag : Agent) (w : Word) (s : State) : Host.Outcome State Fault Refusal := .next (crocusCntClr ag w s)

end Sys2Proof.Machine
end

