-- ==== Sys2Proof/Machine/Tag.lean ====
section
/-! DEFINITION. The panel tag (17_panel_tag, R403–R425): its air states, APDUs and passwords, counters, the wired port and the
memory view with their arbitration, and the writes of the TAGC page. -/

namespace Sys2Proof.Machine

/-! ## Memory -/

/-- Changes the panel tag's state. -/
def modTag (f : TagSt → TagSt) (s : State) : State := { s with tag := f s.tag }

/-- The byte at a field address (R409); the identity is fused (log entry 43). -/
def State.tagByte (s : State) (a : Nat) : Byte := if a < 0x20 then Config.tagIdentity a else s.byte (tagBase + a)
/-- Bytes from a field address upward. -/
def State.tagBytes (s : State) (a n : Nat) : List Byte := (List.range n).map (fun i => s.tagByte (a + i))
/-- Writes bytes of the tag memory. -/
def setTag (a : Nat) (l : List Byte) : State → State := setBytes (tagBase + a) l

/-- Whether an address lies in the password area, which reads 0 on both sides (R409). -/
def inPasswords (a : Nat) : Bool := decide (0x60 ≤ a ∧ a < 0x80)
/-- A byte as the wire or a reader sees it. -/
def State.tagSeen (s : State) (a : Nat) : Byte := if inPasswords a then 0 else s.tagByte a

/-- The 16-bit value at a field address, least significant byte first. -/
def State.tag16 (s : State) (a : Nat) : Nat := (s.tagByte a).toNat + 256 * (s.tagByte (a + 1)).toNat

/-- FLAGS bit `k` of the configuration: 0 WIRE_EN, 1 FIELD_EN (R411). -/
def State.tagFlag (s : State) (k : Nat) : Bool := (s.tagByte 0x21).getLsbD k
/-- The region of a user address (R409). -/
def regionOf (a : Nat) : Nat := a / 0x400
/-- The REGION_ACC byte of a region (R410). -/
def State.regionAcc (s : State) (r : Nat) : Nat := (s.tagByte (0x24 + r)).toNat
/-- PW_LIMIT of password `k` (R411). -/
def State.pwLimit (s : State) (k : Nat) : Nat := s.tag16 0x34 / 16 ^ k % 16
/-- The attempts left for password `k` (R415); where the counts lie in the password area cannot be seen. -/
def State.pwLeft (s : State) (k : Nat) : Nat := (s.tagByte (0x70 + k)).toNat % 16
/-- Writes an attempt count. -/
def setLeft (k n : Nat) : State → State := setTag (0x70 + k) [BitVec.ofNat 8 n]
/-- The value of password `k`. -/
def State.pwWord (s : State) (k : Nat) : Nat := s.tag16 (0x60 + 4 * k) + 65536 * s.tag16 (0x62 + 4 * k)
/-- Writes the value of password `k`. -/
def setPw (k v : Nat) : State → State := setTag (0x60 + 4 * k) ((List.range 4).map (fun i => BitVec.ofNat 8 (v / 256 ^ i)))

/-! ## Reports -/

/-- Whether the SYS island is out of reset, so that the TAGC page sees the tag (R405). -/
def State.sysUp (s : State) : Bool := s.boot.phase == .starting || s.boot.phase == .noImage || s.boot.phase == .ready

/-- The AON cycles since the entry to WATCH at an event of the present, which no command gives (log entry 139): a free value, no less than at the
event before, and no more than the wake timer counts where that is a source (R456). -/
def State.watchCycles (s : State) : Nat :=
  let n := (s.reg Reg.pwrWakeTimer).toNat
  s.pwr.shown + if s.rb Reg.pwrWakeEn 4 ∧ n ≠ 0 then s.freeVal % (n - s.pwr.shown + 1) else s.freeVal

/-- Publishes an event of the present; in WATCH it carries the tick that the AON island extrapolates from its cycles (R458). -/
def publishNow (p : Nat) (s : State) : State :=
  if s.pwr.ftbOff then
    publish p (s.watchTick s.watchCycles) (nextFree { s with pwr := { s.pwr with shown := s.watchCycles } })
  else publish p s.now s

/-- An effect on the TAGC page, which needs the SYS island. -/
def onTagc (f : State → State) (s : State) : State := sif s.sysUp f s

/-- The security state is cleared (R413). -/
def clearSecurity : State → State := modTag (fun t => { t with selected := false, auth := 0 })

/-- A counter without a valid copy has been met (R419). -/
def copyBad : State → State := onTagc (fun s => fault 16 Page.tagc 0 (irq Page.tagc 6 s))

/-- A wired access expires (R422): TAG_BUSY, OVERRUN with the byte address and the path, the interrupt and the count. -/
def wireBusy (a path : Nat) (s : State) : State :=
  modTag (fun t => { t with i2cBusy := t.i2cBusy || path == 1 }) (onTagc (fun u =>
    recErr Page.tagc Err.overrun a path (irq Page.tagc 3 (addRf Reg.tagcArbCnt 15 0 1 (setRb Reg.tagcWireStatus 0 true u)))) s)

/-! ## Wired accesses (R421–R424) -/

/-- The 4 ms of R422 in ft. -/
abbrev wireLimit : Nat := 433920

/-- The path of a wired access as EXTRA shows it (R422); a register's write counts with the memory view (log entry 44). -/
def WireOp.path : WireOp → Nat
  | .i2cWrite .. | .i2cRead .. => 1
  | _ => 2

/-- The byte address of a wired access. -/
def WireOp.addr : WireOp → Nat
  | .i2cWrite a _ _ | .i2cRead a _ _ | .viewRead a | .viewWrite a _ | .poke a _ => a
  | .pwSet k _ _ => 0x60 + 4 * k
  | .counterInc k _ => 0x80 + 16 * k

/-- Whether a wired access comes from the I²C port or the host port. -/
def WireOp.external : WireOp → Bool
  | .i2cWrite _ _ _ | .i2cRead _ _ _ | .viewRead _ | .viewWrite _ _ => true
  | .poke _ _ | .pwSet _ _ _ | .counterInc _ _ => false

/-- A STOP on the bus: a changed address acts from here on (R424). -/
def busStop : State → State := modTag (fun t => { t with i2cHeld := none })

/-- A transaction addressed to the tag ends with STOP: TAG_WIRE_DONE is published (R424), and `out` is what the master has. -/
def i2cStop (out : List Word) (s : State) : State :=
  { onTagc (publishNow 0xef) (busStop s) with dataOut := out }

/-- The master's view of bytes read. -/
def byteWords (l : List Byte) : List Word := l.map (fun b => wd b.toNat)

/-- The I²C status byte (R424). -/
def State.i2cStatus (s : State) : Byte :=
  BitVec.ofNat 8 (s.tag.i2cBusy.toNat + 2 * s.tag.field.toNat + 4 * s.tag.cmd.isSome.toNat + 8 * s.tag.i2cRefused.toNat)

/-- Whether a wired access is a TAGC register's write of tag memory; Hollyhock writes attempt counts (R416). -/
def WireOp.register : WireOp → Bool
  | .poke a _ => decide (a < 0x70)
  | .pwSet _ _ _ | .counterInc _ _ => true
  | _ => false

/-- A register's write of tag memory is over; STATUS.BUSY stays while another waits (R425). -/
def tagcIdle (s : State) : State := setRb (Reg.status Page.tagc) 1 (s.tag.waiting.any (fun w => w.op.register)) s

/-- What the wire gets when its access expires (R422). -/
def wireExpire (op : WireOp) (s : State) : State :=
  let t := wireBusy op.addr op.path s
  match op with
  | .i2cWrite _ _ n => i2cStop [wd n] t
  | .i2cRead _ n got => i2cStop (byteWords (got ++ List.replicate n 0xff)) t
  | .viewRead _ => { t with dataOut := t.dataOut ++ [0] }
  | .viewWrite _ _ => t
  | .poke _ _ | .pwSet _ _ _ | .counterInc _ _ => tagcIdle t

/-- Copy `b` (0 A, 1 B) of counter `k` (R419). -/
def copyAddr (k b : Nat) : Nat := 0x80 + 16 * k + 8 * b
/-- Whether a copy is valid. -/
def State.copyOk (s : State) (k b : Nat) : Bool :=
  (List.range 4).all (fun i => s.tagByte (copyAddr k b + 4 + i) == ~~~ s.tagByte (copyAddr k b + i))
/-- SEQ of a copy. -/
def State.copySeq (s : State) (k b : Nat) : Nat := (s.tagByte (copyAddr k b + 3)).toNat
/-- The value of a copy. -/
def State.copyVal (s : State) (k b : Nat) : Nat := s.tag16 (copyAddr k b) + 65536 * (s.tagByte (copyAddr k b + 2)).toNat
/-- The copy that gives counter `k`'s value (R419). -/
def State.newerCopy (s : State) (k : Nat) : Option Nat :=
  match s.copyOk k 0, s.copyOk k 1 with
  | true, true => if s.copySeq k 0 = (s.copySeq k 1 + 1) % 256 then some 0 else some 1
  | true, false => some 0
  | false, true => some 1
  | false, false => none
/-- The value of counter `k`; `none` when neither copy is valid (R419). -/
def State.counter (s : State) (k : Nat) : Option Nat := (s.newerCopy k).map (s.copyVal k)

/-- Writes value `v` into the older copy of counter `k`, the newer being `b` (R420): the value-and-SEQ word, then the complement
word, as far as `writes` word writes go. -/
def writeCopy (k b v writes : Nat) (s : State) : State :=
  let seq := (s.copySeq k b + 1) % 256
  let a := copyAddr k (1 - b)
  let w := (List.range 4).map (fun i => BitVec.ofNat 8 ((v + 2 ^ 24 * seq) / 256 ^ i))
  let t := if 1 ≤ writes then setTag a w s else s
  if 2 ≤ writes then setTag (a + 4) (w.map (fun x => ~~~ x)) t else t

/-- The host's increment of counter `k` (R420): refused with MODE_ABORT past 0xFF_FFFF or without a valid copy. -/
def hostInc (k amount : Nat) (s : State) : State :=
  match s.newerCopy k with
  | none => copyBad (recErr Page.tagc Err.modeAbort openDetail openDetail s)
  | some b =>
    if 0xffffff < s.copyVal k b + amount then recErr Page.tagc Err.modeAbort openDetail openDetail s
    else writeCopy k b (s.copyVal k b + amount) 2 s

/-- The host's password set (R417). -/
def hostPw (k limit : Nat) (v : Word) (s : State) : State :=
  if s.pwLeft k = 0 then recErr Page.tagc Err.authLocked k 0 s
  else
    let lim := if limit = 0 then s.pwLimit k else limit
    let all := s.tag16 0x34 - s.pwLimit k * 16 ^ k + lim * 16 ^ k
    setLeft k lim (setTag 0x34 [BitVec.ofNat 8 all, BitVec.ofNat 8 (all / 256)] (setPw k v.toNat s))

/-- The bytes from address `a` that lie in its granule. -/
def inGranule (a n : Nat) : Nat := min n (16 - a % 16)

/-- A granule written over I²C (R423, R424): the status byte and the first 256 bytes refuse with a NACK. -/
def i2cPut (a : Nat) (l : List Byte) (acked : Nat) (s : State) : Option WireOp × State :=
  if l = [] ∨ 0x4000 ≤ a then (none, i2cStop [wd acked] s)
  else if a < 0x100 then
    (none, i2cStop [wd acked] (modTag (fun t => { t with i2cRefused := true })
      (onTagc (setRb Reg.tagcWireStatus 1 true) s)))
  else
    let n := inGranule a l.length
    let t := modTag (fun t => { t with i2cAddr := (a + n) % 0x4000 }) (setTag a (l.take n) s)
    if l.drop n = [] then (none, i2cStop [wd (acked + n)] t)
    else (some (.i2cWrite ((a + n) % 0x4000) (l.drop n) (acked + n)), t)

/-- A granule read over I²C (R424); the status byte's sticky bits clear as it is read. -/
def i2cGet (a n : Nat) (got : List Byte) (s : State) : Option WireOp × State :=
  if n = 0 then (none, i2cStop (byteWords got) s)
  else if a = 0x4000 then
    let t := modTag (fun t => { t with i2cBusy := false, i2cRefused := false }) s
    (none, i2cStop (byteWords (got ++ s.i2cStatus :: List.replicate (n - 1) t.i2cStatus)) t)
  else
    let m := inGranule a n
    let l := got ++ (List.range m).map (fun i => s.tagSeen (a + i))
    let t := modTag (fun t => { t with i2cAddr := (a + m) % 0x4000 }) s
    if n = m then (none, i2cStop (byteWords l) t) else (some (.i2cRead ((a + m) % 0x4000) (n - m) l), t)

/-- One granule of a wired access runs (R421): what is left of the access, and the state. -/
def granule (op : WireOp) (s : State) : Option WireOp × State :=
  match op with
  | .i2cWrite a l n => i2cPut a l n s
  | .i2cRead a n got => i2cGet a n got s
  | .viewRead a =>
    (none, { s with dataOut := s.dataOut ++ bytesWords ((List.range 4).map (fun i => s.tagSeen (a + i))) })
  | .viewWrite a w =>
    (none, if a < 0x100 then recErr Page.tagc Err.ownerDenied a 0 (setRb Reg.tagcWireStatus 1 true s)
      else setTag a (wordBytes w) s)
  | .poke a l =>
    let t := if a = 0x20 ∧ s.tag.i2cHeld = none then modTag (fun x => { x with i2cHeld := some ((s.tagByte 0x20).toNat % 128) }) s else s
    (none, tagcIdle (setTag a l t))
  | .pwSet k l v => (none, tagcIdle (hostPw k l v s))
  | .counterInc k n => (none, tagcIdle (hostInc k n s))

/-- An access waits behind all others (R421): its next granule is needed from `need` on. -/
def wireWait (op : WireOp) (need : Option Nat) : State → State :=
  modTag (fun t => { t with waiting := t.waiting ++ [{ op := op, need := need }] })

/-- Up to `n` granules of an access run; what is left waits until the master has taken or sent their bytes. -/
def granules : Nat → WireOp → State → State
  | 0, op, s => wireWait op none s
  | n + 1, op, s =>
    match granule op s with
    | (none, t) => t
    | (some r, t) => granules n r t

/-- Whether a field command is in progress (R422). -/
def State.fieldBusy (s : State) : Bool := s.tag.cmd.any (fun c => decide (s.now < c.ends))

/-- Whether another access waits with its granule needed: one that comes later queues behind it (R421). -/
def State.wireAhead (s : State) : Bool := s.tag.waiting.any (fun w => w.need.isSome)

/-- A wired access begins: it runs up to `n` granules, or waits from now on behind a field command or an earlier granule (R421, R422). -/
def wireStart (n : Nat) (op : WireOp) (s : State) : State :=
  if s.fieldBusy ∨ s.wireAhead then wireWait op (some s.now) s else granules n op s

/-- Whether a waiting granule's 4 ms have run out by tick `e` (R422). -/
def WireWait.expired (w : WireWait) (e : Nat) : Bool := w.need.any (fun t => decide (t + wireLimit ≤ e))

/-- The field command in progress is over at tick `e` (R422): what it held for 4 ms has expired, and the other granules it delayed are marked. -/
def cmdOver (e : Nat) (s : State) : State :=
  let t := modTag (fun t => { t with cmd := none, waiting := (t.waiting.filter (fun w => !w.expired e)).map (fun w =>
    { w with held := w.held || w.need.any (fun n => decide (n < e)) }) }) s
  (s.tag.waiting.filter (fun w => w.expired e)).foldl (fun x w => wireExpire w.op x) t

/-- The reply of a field command has ended (R422, R425): what waited goes on, and an APDU's reply is counted and published. -/
def replyDone (c : FieldCmd) (s : State) : State :=
  let t := cmdOver c.ends s
  match c.apdu with
  | none => t
  | some e => onTagc (fun v => (if v.pwr.ftbOff then publishNow 0xee else publish 0xee c.ends) (irq Page.tagc 1 (addRf Reg.tagcFieldCnt 15 8 e.toNat
      (addRf Reg.tagcFieldCnt 31 16 1 v)))) t

/-- A field command that has ended by now is over. -/
def tagSettle (s : State) : State :=
  match s.tag.cmd with
  | none => s
  | some c => if c.ends ≤ s.now then replyDone c s else s

/-- The field command in progress ends at its tick. -/
def tagEndCmd (s : State) : State :=
  match s.tag.cmd with
  | none => s
  | some c => replyDone c (passTo c.ends s)

/-- The first waiting access runs a granule; one that a field command has delayed counts in STRETCHES, and what is left of the access queues behind
the other granules (R421, R422). -/
def wireNext (s : State) : State :=
  match s.tag.waiting with
  | [] => s
  | w :: r =>
    let g := granule w.op (modTag (fun t => { t with waiting := r }) (sif w.held (onTagc (addRf Reg.tagcArbCnt 31 16 1)) s))
    match g.1 with
    | none => g.2
    | some o => wireWait o none g.2

/-- The access whose granule is needed comes first, in the order of the granules' arrival; when none is, the first that waits needs its
granule now (R421, R422). -/
def needNow (s : State) : State :=
  modTag (fun t => { t with waiting := match t.waiting.find? (fun w => w.need.isSome), t.waiting with
    | some w, l => w :: l.erase w
    | none, [] => []
    | none, w :: r => { w with need := some s.now } :: r }) s

/-- WIRE_GRANULE (R421, R422): the first waiting access runs a granule once the field command has ended, unless its 4 ms have run out by then. -/
def execWireGranule (s : State) : Host.Outcome State Fault Refusal :=
  let t := needNow s
  .next (if s.tag.waiting = [] then s
  else if (t.tag.waiting.take 1).any (fun w => t.tag.cmd.any (fun c => w.expired c.ends)) then tagEndCmd t else wireNext (tagEndCmd t))

/-- WIRE_TIMEOUT (R422): the waiting access whose granule was needed first expires 4 ms after that, while the field command goes on, and with it
every other whose time has run out by then. -/
def execWireTimeout (s : State) : Host.Outcome State Fault Refusal :=
  let t := needNow s
  .next (match t.tag.waiting, t.tag.cmd with
    | w :: _, some c =>
      let e := w.need.getD s.now + wireLimit
      if c.ends < e then s
      else (t.tag.waiting.filter (fun x => x.expired e)).foldl (fun u x => wireExpire x.op u)
        (modTag (fun x => { x with waiting := x.waiting.filter (fun y => !y.expired e) }) (passTo e t))
    | _, _ => s)

/-- Whether the I²C port answers an address: with VDDIO and VAON good, in every state of the chip (R82, R405, R424). A TAGC page that has not been
quiesced does not keep it from answering, whether or not its EN is set yet. -/
def State.i2cMine (s : State) (addr : Nat) : Bool :=
  s.boot.vddio && s.boot.vaon && s.tagFlag 0 && !s.rb (Reg.status Page.tagc) 0 &&
    addr == s.tag.i2cHeld.getD ((s.tagByte 0x20).toNat % 128)

/-- I2C_WRITE_TRANSACTION (R424): address byte, memory address, data; `first` granules run before anything else. -/
def execI2cWriteTransaction (addr mem : Nat) (l : List Byte) (first : Nat) (s : State) : Host.Outcome State Fault Refusal :=
  let t := tagSettle s
  .next (if !t.i2cMine addr then busStop s
  else if 0x4000 < mem then i2cStop [0] t
  else
    let u := modTag (fun x => { x with i2cAddr := mem }) t
    if l = [] then i2cStop [0] u else wireStart first (.i2cWrite mem l 0) u)

/-- I2C_READ_TRANSACTION (R424): `n` bytes from the current memory address, or from one that a write before the repeated START
sets. -/
def execI2cReadTransaction (addr : Nat) (mem : Option Nat) (n first : Nat) (s : State) : Host.Outcome State Fault Refusal :=
  let t := tagSettle s
  .next (if !t.i2cMine addr then busStop s
  else if 0x4000 < mem.getD 0 then i2cStop [] t
  else if mem.getD t.tag.i2cAddr = 0x4000 then (i2cGet 0x4000 n [] t).2
  else wireStart first (.i2cRead (mem.getD t.tag.i2cAddr) n []) t)

/-- An access of the host to the word at byte `a` of the memory view (R132, R422); while an earlier one waits QRDY holds it (R105). -/
def viewAccess (write : Bool) (a : Nat) (w : Word) (s : State) : State :=
  if s.viewHeld then s
  else wireStart 1 (if write then .viewWrite (a / 4 * 4) w else .viewRead (a / 4 * 4)) (tagSettle s)

/-- TAG_VIEW_ACCESS (R132). -/
def execTagViewAccess (write : Bool) (a : TagWordIx) (w : Word) (s : State) : Host.Outcome State Fault Refusal :=
  .next (if write then windowWrite (tagBase + 4 * a) (viewAccess true (4 * a) w) s
  else if s.hostUp && !s.viewHeld then viewAccess false (4 * a) w { s with dataOut := [] }
  else s)

/-! ## On air (R406–R408) -/

/-- The tag sends a frame that ends at tick `t`; `apdu` tells an APDU's reply that counts as an error or not. Without a running
time base it ends at once. -/
def tagSend (l : List Byte) (apdu : Option Bool) (t : Nat) (s : State) : State :=
  let c : FieldCmd := ⟨t, apdu⟩
  let u := modTag (fun x => { x with sent := x.sent ++ [l] }) s
  if s.fldRuns ∧ s.now < t then modTag (fun x => { x with cmd := some c }) u else replyDone { c with ends := s.now } u

/-- The tag's answer to a frame is `l`, in one frame that ends at tick `t`. -/
def tagReply (l : List Byte) (t : Nat) (s : State) : State := tagSend l none t (modTag (fun x => { x with reply := l, sent := [] }) s)

/-- A reader frame ends at the tag: an earlier command is over, and the tag must see a field and FIELD_EN (R407). -/
def onAir (f : State → State) (s : State) : State :=
  let t := tagEndCmd s
  if t.tag.field && t.tagFlag 1 then f t else t

/-- The air state becomes `a`. -/
def setAir (a : AirState) : State → State := modTag (fun t => { t with air := a })

/-- What a frame that its state does not answer does: READY falls back to IDLE (R407). -/
def otherFrame (s : State) : State := if s.tag.air = .ready then setAir .idle s else s

/-- TAG_FIELD_ON (R403): the rectified supply qualifies; `reserve` tells whether the reserve holds two word writes. -/
def execTagFieldOn (reserve : Bool) (s : State) : Host.Outcome State Fault Refusal :=
  .next (if s.tag.field then s
  else onTagc (fun u => publishNow 0xed (irqLevel Page.tagc 7 true (irq Page.tagc 0 u)))
    (modTag (fun t => { t with field := true, air := .idle, level := 1, reserve := reserve }) (clearSecurity s)))

/-- TAG_FIELD_LOST (R404, R413): the air state and the security state clear; a reply on air is not completed, and the
accesses that its command held go on (R422). -/
def execTagFieldLost (s : State) : Host.Outcome State Fault Refusal :=
  .next (onTagc (irqLevel Page.tagc 7 false)
    (modTag (fun t => { t with field := false, air := .noField, level := 1, l4 := false, rest := [], reserve := false })
      (clearSecurity (let t := tagSettle s
        sif t.tag.cmd.isSome (cmdOver t.now) t))))

/-- ATQA (R406). -/
def atqa (t : Nat) (s : State) : State :=
  tagReply [0x44, 0x00] t (modTag (fun x => { x with air := .ready, level := 1 }) s)

/-- TAG_REQA (R407): answered from IDLE; `t` is the tick at which the reply ends. -/
def execTagReqa (t : Nat) (s : State) : Host.Outcome State Fault Refusal :=
  .next (onAir (fun s => if s.tag.air = .idle then atqa t s else otherFrame s) s)

/-- TAG_WUPA (R407): answered from IDLE and HALTED. -/
def execTagWupa (t : Nat) (s : State) : Host.Outcome State Fault Refusal :=
  .next (onAir (fun s => if s.tag.air = .idle ∨ s.tag.air = .halted then atqa t s else otherFrame s) s)

/-- XOR of bytes. -/
def bccOf (l : List Byte) : Byte := l.foldl (fun a b => a ^^^ b) 0

/-- The five bytes of a cascade level (R406). -/
def State.cascade (s : State) (level : Nat) : List Byte :=
  let l := if level = 1 then 0x88 :: s.tagBytes 0 3 else s.tagBytes 3 4
  l ++ [bccOf l]

/-- The bits of bytes, first bit first. -/
def levelBits (l : List Byte) : List Bool := l.flatMap (fun b => (List.range 8).map (fun i => b.getLsbD i))

/-- TAG_ANTICOLLISION (R406): the frame of a cascade level with known bits; a tag whose bits agree answers with the rest. -/
def execTagAnticollision (level : Nat) (known : List Bool) (t : Nat) (s : State) : Host.Outcome State Fault Refusal :=
  .next (onAir (fun s =>
    if s.tag.air ≠ .ready ∨ level ≠ s.tag.level then otherFrame s
    else
      let bits := levelBits (s.cascade level)
      if bits.take known.length = known then tagReply (packBits (bits.drop known.length)) t s else s) s)

/-- TAG_SELECT (R406, R407): SAK 0x04 at level 1, 0x20 at level 2, which makes the tag ACTIVE. -/
def execTagSelect (level : Nat) (l : List Byte) (t : Nat) (s : State) : Host.Outcome State Fault Refusal :=
  .next (onAir (fun s =>
    if s.tag.air ≠ .ready ∨ level ≠ s.tag.level ∨ l ≠ s.cascade level then otherFrame s
    else if level = 1 then tagReply [0x04] t (modTag (fun x => { x with level := 2 }) s)
    else tagReply [0x20] t (modTag (fun x => { x with air := .active, l4 := false }) s)) s)

/-- TAG_HLTA (R407, R408): HALTED before RATS, no answer. -/
def execTagHlta (s : State) : Host.Outcome State Fault Refusal :=
  .next (onAir (fun s => if s.tag.air = .active ∧ !s.tag.l4 then setAir .halted s else otherFrame s) s)

/-- TAG_RATS (R408): RATS with the parameter byte `param`: any FSDI, and a CID from 0 to 14, is accepted, and the ATS answers. -/
def execTagRats (param t : Nat) (s : State) : Host.Outcome State Fault Refusal :=
  .next (onAir (fun s =>
    if s.tag.air = .active ∧ !s.tag.l4 then
      (if param % 16 ≤ 14 then tagReply [0x05, 0x78, 0x00, 0x50, 0x02] t (modTag (fun x => { x with
        l4 := true, cid := param % 16, fsd := frameSize (param / 16 % 16), blockNo := true, rest := [] }) s)
      else s)
    else otherFrame s) s)

/-- Whether a block is for this tag: layer 4 runs, and the block carries no CID or the tag's own (R408). -/
def State.forTag (s : State) (cid : Option Nat) : Bool :=
  s.tag.air == .active && s.tag.l4 && cid.all (fun c => c == s.tag.cid)

/-- TAG_PPS (R408): one that asks for DSI 0 and DRI 0 is answered. -/
def execTagPps (cid dsi dri t : Nat) (s : State) : Host.Outcome State Fault Refusal :=
  .next (onAir (fun s =>
    if s.forTag (some cid) ∧ dsi = 0 ∧ dri = 0 then tagReply [BitVec.ofNat 8 (0xd0 + cid)] t s else otherFrame s) s)

/-- TAG_DESELECT (R407, R413): S(DESELECT) is answered, the security state clears, and the tag is HALTED. -/
def execTagDeselect (cid : Option Nat) (t : Nat) (s : State) : Host.Outcome State Fault Refusal :=
  .next (onAir (fun s =>
    if s.forTag cid then
      tagReply (match cid with
        | none => [0xc2]
        | some c => [0xca, BitVec.ofNat 8 c]) t
        (modTag (fun x => { x with air := .halted, l4 := false, rest := [] }) (clearSecurity s))
    else otherFrame s) s)

/-! ## APDUs (R412–R420) -/

/-- An APDU's answer: the response data and SW, whether it is an answer to a query, the word writes that the reserve has given, and the
state. -/
structure ApduOut where
  data : List Byte
  sw : Nat
  query : Bool
  used : Nat
  next : State

/-- A refusal: it changes nothing (R414). -/
def sw (n : Nat) (s : State) : ApduOut := ⟨[], n, false, 0, s⟩

/-- The tag serves an APDU of class and instruction `cla`, `ins` (R412, R414, R425): its response is set out, to go in parts of at most `size` bytes.
RESERVE_OK is 1 while the reserve allows a word write, which takes the energy for two (R418). A SELECT of extended length clears the security
state too (R413; log entry 136). -/
def apduServe (cla ins size : Nat) (x : Apdu) (f : State → ApduOut) (s : State) : State :=
  let u := modTag (fun t => { t with reserve := decide (1 ≤ x.writes) }) s
  let o := if x.cla ≠ 0 ∧ x.cla ≠ 0x80 then sw 0x6e00 u
    else if x.cla ≠ cla ∨ x.ins ≠ ins then sw 0x6d00 u
    else if x.extended then sw 0x6700 (sif (ins == 0xa4) clearSecurity u)
    else f u
  let l := o.data ++ [BitVec.ofNat 8 (o.sw / 256), BitVec.ofNat 8 o.sw]
  modTag (fun t => { t with
    reserve := decide (o.used < x.writes)
    reply := l
    rest := (List.range ((l.length + size - 1) / size)).map (fun i => (l.drop (i * size)).take size)
    restErr := o.sw != 0x9000 && !(o.query && o.sw / 16 == 0x63c) }) o.next

/-- The bytes of a block that the tag sends: its PCB with the tag's block number, the CID where the reader's block carried one, and `inf` (R408). -/
def State.blockBytes (s : State) (pcb : Nat) (cid : Option Nat) (inf : List Byte) : List Byte :=
  BitVec.ofNat 8 (pcb + s.tag.blockNo.toNat + 8 * cid.isSome.toNat) :: (cid.toList.map (BitVec.ofNat 8) ++ inf)

/-- The bytes that fit an I-block to the reader: its FSD less PCB, CID and CRC_A (R408). -/
def State.infSize (s : State) (cid : Option Nat) : Nat := max 1 (s.tag.fsd - 3 - cid.isSome.toNat)

/-- The tag's block number toggles. -/
def toggleNo : State → State := modTag (fun t => { t with blockNo := !t.blockNo })

/-- The tag sends the next part of its response, chained while more follow (R408). -/
def sendPart (b : TagBlock) (s : State) : State :=
  match s.tag.rest with
  | [] => s
  | p :: r => tagSend (s.blockBytes (if r = [] then 0x02 else 0x12) b.cid p) (if r = [] then some s.tag.restErr else none) b.ends
      (modTag (fun t => { t with rest := r }) s)

/-- The tag sends R(ACK). -/
def sendAck (b : TagBlock) (s : State) : State := tagSend (s.blockBytes 0xa2 b.cid []) none b.ends s

/-- The tag sends its last block again. -/
def sendAgain (b : TagBlock) (s : State) : State :=
  match s.tag.sent.getLast? with
  | none => s
  | some l => tagSend l none b.ends s

/-- A block reaches the tag, which runs ISO/IEC 14443-4 as a PICC (R408; log entry 137): one whose CRC_A or parity fails is discarded, and one for
another CID passes. `serve` answers the APDU that an I-block ends. -/
def blockIn (serve : Nat → State → State) (b : TagBlock) : State → State :=
  onAir (fun s =>
    if !(s.tag.air == .active && s.tag.l4) then otherFrame s
    else if !b.good ∨ !s.forTag b.cid then s
    else match b.kind with
      | .iMore => sendAck b (toggleNo (modTag (fun t => { t with sent := [], rest := [] }) s))
      | .iLast => sendPart b (serve (s.infSize b.cid) (toggleNo (modTag (fun t => { t with sent := [], rest := [] }) s)))
      | .ack => if b.no = s.tag.blockNo then sendAgain b s else if s.tag.rest = [] then s else sendPart b (toggleNo s)
      | .nak => if b.no = s.tag.blockNo then sendAgain b s else sendAck b s)

/-- The command that a block was is over, and before the reader's next frame ends the granules that it held run (R422): a frame lasts longer
than they do. -/
def wireGap (s : State) : State :=
  let t := tagEndCmd s
  forEach (List.range (t.tag.waiting.filter (fun w => w.need.isSome)).length) (fun _ u => wireNext (needNow u)) t

/-- An APDU of class and instruction `cla`, `ins` comes in its blocks and is answered (R408, R412). -/
def apdu (cla ins : Nat) (x : Apdu) (f : State → ApduOut) (s : State) : State :=
  let one := blockIn (fun size => apduServe cla ins size x f)
  match x.blocks with
  | [] => s
  | b :: l => l.foldl (fun t b => one b (wireGap t)) (one b s)

/-- The length of an APDU's data; 0 without. -/
def apduLc (x : Apdu) : Nat := (x.data.getD []).length
/-- The data bytes. -/
def apduData (x : Apdu) : List Byte := x.data.getD []
/-- The address in P1 and P2. -/
def apduAddr (x : Apdu) : Nat := 256 * x.p1 + x.p2

/-- Voxtier's application identifier (R412). -/
def tagAid : List Byte := [0xf0, 0x56, 0x58, 0x52, 0x4e, 0x01]

/-- APDU_SELECT (R413): the security state is cleared at every SELECT, one answered 0x6700 or 0x6A86 too (log entry 136). -/
def execApduSelect (x : Apdu) (s : State) : Host.Outcome State Fault Refusal :=
  .next (apdu 0 0xa4 x (fun s =>
    let t := clearSecurity s
    if apduLc x = 0 ∨ x.le.isSome then sw 0x6700 t
    else if x.p1 ≠ 4 ∨ x.p2 ≠ 0 then sw 0x6a86 t
    else if apduData x = tagAid then sw 0x9000 (modTag (fun t => { t with selected := true }) t)
    else sw 0x6a82 t) s)

/-- Whether password `k` is held: it, or PW0, has been verified (R410). -/
def State.pwHeld (s : State) (k : Nat) : Bool := s.tag.auth.testBit k || s.tag.auth.testBit 0

/-- The regions that a range of addresses touches. -/
def regionsOf (a n : Nat) : List Nat :=
  (List.range 16).filter (fun r =>
    let lo := if r = 0 then 0x100 else 0x400 * r
    decide (0 < n ∧ lo < a + n ∧ a < 0x400 * r + 0x400))

/-- The SW of a password that is needed and not held: locked, or not verified (R414). -/
def State.pwNeeds (s : State) (l : List Nat) : Option Nat :=
  let miss := l.filter (fun k => !s.pwHeld k)
  if miss = [] then none else if miss.any (fun k => s.pwLeft k == 0) then some 0x6983 else some 0x6982

/-- The passwords that reading (or writing) a range needs (R410). -/
def State.needed (s : State) (write : Bool) (a n : Nat) : List Nat :=
  (regionsOf a n).filterMap (fun r =>
    let v := s.regionAcc r
    if write then (if v.testBit 7 then some (v / 32 % 4) else none) else (if v.testBit 4 then some (v / 4 % 4) else none))

/-- APDU_READ_BINARY (R412, R414). -/
def execApduReadBinary (x : Apdu) (s : State) : Host.Outcome State Fault Refusal :=
  .next (apdu 0 0xb0 x (fun s =>
    match x.le with
    | none => sw 0x6700 s
    | some n =>
      if x.data.isSome ∨ n = 0 ∨ 256 < n then sw 0x6700 s
      else if 128 ≤ x.p1 then sw 0x6a86 s
      else if !s.tag.selected then sw 0x6986 s
      else if 0x4000 < apduAddr x + n then sw 0x6b00 s
      else
        match s.pwNeeds (s.needed false (apduAddr x) n) with
        | some e => sw e s
        | none => ⟨(List.range n).map (fun i => s.tagSeen (apduAddr x + i)), 0x9000, false, 0, s⟩) s)

/-- Whether a field write of the range meets the system area: all below the user memory but REGION_ACC (R409). -/
def systemRange (a n : Nat) : Bool :=
  (List.range n).any (fun i => decide (a + i < 0x100) && !decide (0x24 ≤ a + i ∧ a + i < 0x34))

/-- Whether a range meets REGION_ACC. -/
def accRange (a n : Nat) : Bool := decide (a < 0x34 ∧ 0x24 < a + n)

/-- The bytes that fit into `writes` word writes from address `a` (R418). -/
def wholeWords (a n writes : Nat) : Nat := if writes = 0 then 0 else min n (4 * writes - a % 4)

/-- The bytes as they are written: bits [1:0] of a REGION_ACC byte are 0 (R410). -/
def writtenBytes (a : Nat) (l : List Byte) : List Byte :=
  (List.range l.length).map (fun i =>
    if 0x24 ≤ a + i ∧ a + i < 0x34 then l.getD i 0 &&& 0xfc else l.getD i 0)

/-- A field write of `l` at `a` (R418, R425): whole words as far as the reserve goes. -/
def fieldWrite (a : Nat) (l : List Byte) (writes : Nat) (s : State) : ApduOut :=
  let m := wholeWords a l.length writes
  let k := (a % 4 + m + 3) / 4
  let t := setTag a ((writtenBytes a l).take m) s
  let u := if m = 0 then t else onTagc (fun v =>
    setReg Reg.tagcLastFwrite (wd (m * 65536 + a)) (irq Page.tagc 2 v)) t
  if m = l.length then { sw 0x9000 u with used := k } else { sw 0x6581 (onTagc (addRf Reg.tagcFieldCnt 7 0 1) u) with used := k }

/-- APDU_UPDATE_BINARY (R412, R414, R418, R423). -/
def execApduUpdateBinary (x : Apdu) (s : State) : Host.Outcome State Fault Refusal :=
  .next (apdu 0 0xd6 x (fun s =>
    let n := apduLc x
    if n = 0 ∨ 255 < n ∨ x.le.isSome then sw 0x6700 s
    else if 128 ≤ x.p1 then sw 0x6a86 s
    else if !s.tag.selected ∨ systemRange (apduAddr x) n ∨ (accRange (apduAddr x) n ∧ !s.tag.auth.testBit 0) then sw 0x6986 s
    else if 0x4000 < apduAddr x + n then sw 0x6b00 s
    else
      match s.pwNeeds (s.needed true (apduAddr x) n) with
      | some e => sw e s
      | none =>
        if (regionsOf (apduAddr x) n).any (fun r => s.rb Reg.tagcFieldWlock r || (s.tag16 0x22).testBit r) then sw 0x6985 s
        else fieldWrite (apduAddr x) (apduData x) x.writes s) s)

/-- A password in an APDU, most significant byte first. -/
def pwOf (l : List Byte) : Nat := l.foldl (fun v b => 256 * v + b.toNat) 0

/-- A count that stands at 0 after an attempt locks password `k` (R415, R425). -/
def lockout (k : Nat) (s : State) : State :=
  sif (s.pwLeft k == 0) (onTagc (fun v => fault 16 Page.tagc Err.authLocked (irq Page.tagc 5 v))) s

/-- A wrong password (R415 step 4): the count shows, and a count of 0 locks. -/
def wrongPw (k : Nat) (s : State) : ApduOut :=
  { sw (0x63c0 + s.pwLeft k) (lockout k (onTagc (irq Page.tagc 4) s)) with used := 1 }

/-- A right password (R415 step 3): the count returns to its limit and the password joins the security state. -/
def rightPw (k : Nat) (s : State) : State :=
  modTag (fun t => { t with auth := t.auth ||| 2 ^ k }) (setLeft k (s.pwLimit k) s)

/-- A write stopped for lack of energy after `writes` word writes (R418). -/
def stopped (writes : Nat) (s : State) : ApduOut := { sw 0x6581 (onTagc (addRf Reg.tagcFieldCnt 7 0 1) s) with used := writes }

/-- The attempt of R415 with password `v`: the word writes `acts` follow a match, as far as the reserve goes (R418). -/
def pwAttempt (k v writes : Nat) (acts : List (State → State)) (s : State) : ApduOut :=
  if writes = 0 then stopped 0 s
  else
    let t := setLeft k (s.pwLeft k - 1) s
    if v ≠ t.pwWord k then wrongPw k t
    else if writes = 1 then stopped 1 (lockout k t)
    else
      let u := (acts.take (writes - 2)).foldl (fun x f => f x) (rightPw k t)
      if writes - 2 < acts.length then stopped writes u else { sw 0x9000 u with used := 2 + acts.length }

/-- The word writes by which every locked user password returns to its limit. -/
def State.unlockUsers (s : State) : List (State → State) :=
  ([1, 2, 3].filter (fun j => s.pwLeft j == 0)).map (fun j => setLeft j (s.pwLimit j))

/-- The checks that VERIFY and CHANGE REFERENCE DATA share (R414). -/
def pwChecks (x : Apdu) (badLen : Bool) (f : State → ApduOut) (s : State) : ApduOut :=
  if badLen ∨ x.le.isSome then sw 0x6700 s
  else if x.p1 ≠ 0 ∨ x.p2 < 0x80 ∨ 0x83 < x.p2 then sw 0x6a86 s
  else if !s.tag.selected then sw 0x6986 s
  else if s.pwLeft (x.p2 - 0x80) = 0 then sw 0x6983 s
  else f s

/-- APDU_VERIFY (R415): the password, or a query without one. -/
def execApduVerify (x : Apdu) (s : State) : Host.Outcome State Fault Refusal :=
  .next (apdu 0 0x20 x (pwChecks x (x.data.isSome && apduLc x != 4) (fun s =>
    let k := x.p2 - 0x80
    if x.data.isNone then ⟨[], 0x63c0 + s.pwLeft k, true, 0, s⟩
    else pwAttempt k (pwOf (apduData x)) x.writes (if k = 0 then s.unlockUsers else []) s)) s)

/-- APDU_CHANGE_REFERENCE_DATA (R415): the old password, then the new one. -/
def execApduChangeReferenceData (x : Apdu) (s : State) : Host.Outcome State Fault Refusal :=
  .next (apdu 0 0x24 x (pwChecks x (apduLc x != 8) (fun s =>
    let k := x.p2 - 0x80
    pwAttempt k (pwOf ((apduData x).take 4)) x.writes [setPw k (pwOf ((apduData x).drop 4))] s)) s)

/-- A counter value in an APDU, most significant byte first (R412). -/
def counterBytes (v : Nat) : List Byte := [BitVec.ofNat 8 (v / 65536), BitVec.ofNat 8 (v / 256), BitVec.ofNat 8 v]

/-- The SW of an increment that CNT_PROT keeps from a reader without a verified password (R411). -/
def State.cntNeeds (s : State) (k : Nat) : Bool := (s.tagByte 0x36).getLsbD k && s.tag.auth == 0

/-- An increment from the field (R420): without a valid copy 0x6581, past 0xFF_FFFF 0x6985. -/
def fieldInc (k a writes : Nat) (s : State) : ApduOut :=
  match s.newerCopy k with
  | none => sw 0x6581 (copyBad s)
  | some b =>
    let v := s.copyVal k b + a
    if 0xffffff < v then sw 0x6985 s
    else if writes < 2 then stopped writes (writeCopy k b v writes s)
    else ⟨counterBytes v, 0x9000, false, 2, writeCopy k b v 2 s⟩

/-- APDU_INCREMENT_COUNTER (R420). -/
def execApduIncrementCounter (x : Apdu) (s : State) : Host.Outcome State Fault Refusal :=
  .next (apdu 0x80 0x32 x (fun s =>
    if apduLc x ≠ 3 ∨ x.le.any (fun n => n != 3) then sw 0x6700 s
    else if 7 < x.p1 ∨ x.p2 ≠ 0 then sw 0x6a86 s
    else if !s.tag.selected then sw 0x6986 s
    else if s.cntNeeds x.p1 then sw 0x6982 s
    else fieldInc x.p1 (pwOf (apduData x)) x.writes s) s)

/-- APDU_READ_COUNTER (R419). -/
def execApduReadCounter (x : Apdu) (s : State) : Host.Outcome State Fault Refusal :=
  .next (apdu 0x80 0x34 x (fun s =>
    if x.data.isSome ∨ x.le ≠ some 3 then sw 0x6700 s
    else if 7 < x.p1 ∨ x.p2 ≠ 0 then sw 0x6a86 s
    else if !s.tag.selected then sw 0x6986 s
    else
      match s.counter x.p1 with
      | none => ⟨counterBytes 0xffffff, 0x6581, false, 0, copyBad s⟩
      | some v => ⟨counterBytes v, 0x9000, false, 0, s⟩) s)

/-! ## The TAGC page (R417, R423, R425) -/

/-- A register's write of tag memory waits its turn (R425). -/
def tagcWire (op : WireOp) (s : State) : State := wireStart 1 op (setRb (Reg.status Page.tagc) 1 true (tagSettle s))

/-- A write of TAGC.PW_CTRL (R417). -/
def tagcPwWrite (ag : Agent) (w : Word) : State → State :=
  guarded ag Reg.tagcPwCtrl (sif (bit w 8) (pageWork Page.tagc (fun s =>
    tagcWire (.pwSet (fld w 1 0) (fld w 7 4) s.tag.pwValue) (modTag (fun t => { t with pwValue := 0 }) s))))

/-- TAGC_PW_SET (R417): PW_VALUE takes `value`, and PW_CTRL is written. -/
def execTagcPwSet (ag : Agent) (value w : Word) (s : State) : Host.Outcome State Fault Refusal :=
  .next (tagcPwWrite ag w (guarded ag Reg.tagcPwValue (modTag (fun t => { t with pwValue := value })) s))

/-- A write of TAGC.PW_VALUE. -/
def tagcPwValueWrite (ag : Agent) (w : Word) : State → State :=
  guarded ag Reg.tagcPwValue (modTag (fun t => { t with pwValue := w }))

/-- A write of TAGC.CNT_CTRL (R420); an AMOUNT of 0 acts as 1. -/
def tagcCntWrite (ag : Agent) (w : Word) : State → State :=
  guarded ag Reg.tagcCntCtrl (sif (bit w 31) (pageWork Page.tagc (tagcWire (.counterInc (fld w 26 24) (max 1 (fld w 23 0))))))

/-- TAGC_CNT_INC (R420). -/
def execTagcCntInc (ag : Agent) (w : Word) (s : State) : Host.Outcome State Fault Refusal := .next (tagcCntWrite ag w s)

/-- The tag memory that a configuration register holds: its address and bytes (R411, R425). -/
def tagcBytes (a : Nat) (w : Word) : Option (Nat × List Byte) :=
  if a = Reg.tagcCfg then some (0x20, [BitVec.ofNat 8 (fld w 6 0), BitVec.ofNat 8 (fld w 9 8)])
  else if a = Reg.tagcPersistLock then some (0x22, (wordBytes w).take 2)
  else if a = Reg.tagcCntProt then some (0x36, (wordBytes w).take 1)
  else if Reg.tagcRegionAcc 0 ≤ a ∧ a ≤ Reg.tagcRegionAcc 3 then
    some (0x24 + (a - Reg.tagcRegionAcc 0), (wordBytes w).map (fun b => b &&& 0xfc))
  else none

/-- A write of a TAGC configuration register (R425). -/
def tagcConfigWrite (ag : Agent) (a : Nat) (w : Word) : State → State :=
  guarded ag a (fun s =>
    match tagcBytes a w with
    | none => s
    | some (m, l) => tagcWire (.poke m l) s)

/-- TAGC_CONFIG_WRITE (R425): `r` selects CFG, PERSIST_LOCK, CNT_PROT or a REGION_ACC register. -/
def execTagcConfigWrite (ag : Agent) (r : TagcReg) (w : Word) (s : State) : Host.Outcome State Fault Refusal :=
  .next (tagcConfigWrite ag (match r with
    | .cfg => Reg.tagcCfg
    | .persistLock => Reg.tagcPersistLock
    | .cntProt => Reg.tagcCntProt
    | .regionAcc q => Reg.tagcRegionAcc q) w s)

/-- A write of TAGC.FIELD_WLOCK (R423). -/
def tagcWlockWrite (ag : Agent) (w : Word) : State → State :=
  guarded ag Reg.tagcFieldWlock (setReg Reg.tagcFieldWlock (wd (fld w 15 0)))

/-- TAGC_FIELD_WLOCK (R423). -/
def execTagcFieldWlock (ag : Agent) (w : Word) (s : State) : Host.Outcome State Fault Refusal := .next (tagcWlockWrite ag w s)

/-- A write of TAGC.CNT_CLR (R425). -/
def tagcCntClr (ag : Agent) (w : Word) : State → State :=
  guarded ag Reg.tagcCntClr (fun s => sif (bit w 0) (setReg Reg.tagcArbCnt 0) (sif (bit w 1) (setReg Reg.tagcFieldCnt 0) s))

/-- TAGC_CNT_CLR (R425). -/
def execTagcCntClr (ag : Agent) (w : Word) (s : State) : Host.Outcome State Fault Refusal := .next (tagcCntClr ag w s)

/-- What a register of the TAGC page that shows the tag reads as (R425). -/
def State.tagcRead (s : State) (a : Nat) : Option Word :=
  let t := s.tag
  let air := match t.air with
    | .noField => 0
    | .idle => 1
    | .ready => 2
    | .active => 3
    | .halted => 4
  if a = Reg.tagcTagStatus then
    some (wd (t.auth % 16 * 2 ^ 20 + t.l4.toNat * 2 ^ 19 + air * 2 ^ 16 + t.selected.toNat * 8 + s.fieldBusy.toNat * 4 +
      t.reserve.toNat * 2 + t.field.toNat))
  else if a = Reg.tagcCfg then some (wd ((s.tagByte 0x21).toNat % 4 * 256 + (s.tagByte 0x20).toNat % 128))
  else if a = Reg.tagcPersistLock then some (wd (s.tag16 0x22))
  else if Reg.tagcRegionAcc 0 ≤ a ∧ a ≤ Reg.tagcRegionAcc 3 then
    some (wd (s.tag16 (a - Reg.tagcRegionAcc 0 + 0x24) + 65536 * s.tag16 (a - Reg.tagcRegionAcc 0 + 0x26)))
  else if a = Reg.tagcCntProt then some (wd (s.tagByte 0x36).toNat)
  else if a = Reg.tagcPwStatus then
    some (wd (65536 * s.tag16 0x34 + ((List.range 4).map (fun k => s.pwLeft k * 16 ^ k)).sum))
  else if Reg.tagcCntValue 0 ≤ a ∧ a ≤ Reg.tagcCntValue 7 then
    some (match s.counter ((a - Reg.tagcCntValue 0) / 4) with
      | none => wd (2 ^ 31 + 0xffffff)
      | some v => wd v)
  else if a = Reg.tagcUidLo then some (wd (s.tag16 0 + 65536 * s.tag16 2))
  else if a = Reg.tagcUidHi then some (wd (s.tag16 4 + 65536 * (s.tagByte 6).toNat))
  else none

end Sys2Proof.Machine
end

