-- ==== Sys2Proof/Machine/Power.lean ====
section
/-! DEFINITION. Power modes (19_crocus_low_power, R451–R459, R468): requests and their checks, entry to SLEEP and WATCH, wake
sources, the resumption of the FTB, and the restore step. -/

namespace Sys2Proof.Machine

/-- Changes the power state. -/
def modPwr (f : PwrSt → PwrSt) (s : State) : State := { s with pwr := f s.pwr }

/-- PWR.MODE takes a value. -/
def setMode (v : Nat) : State → State := setRf Reg.pwrMode 2 0 v

/-! ## Requests (R453) -/

/-- The page of an operation that runs, for check 7 (R453). -/
def State.opRuns (s : State) : Option Nat :=
  if s.commit.isSome then some Page.lsp
  else if s.rb Reg.calStatus 31 then some Page.cal
  else if s.rf Reg.mboxState 1 0 = 1 then some Page.mbox
  else if s.rf Reg.updStatus 31 24 = 1 ∨ s.rf Reg.updStatus 31 24 = 2 then some Page.upd
  else none

/-- The first slot of 1–255 whose session's state satisfies `p`. -/
def State.firstSess (s : State) (p : Nat → Bool) : Option Nat :=
  (List.range 256).find? (fun k => k != 0 && p (s.sessState k))

/-- The check of R453 that a request for a mode fails, with its detail. -/
def State.modeCheck (s : State) (target : Nat) : Option (Nat × Nat) :=
  if target ≠ 1 ∧ target ≠ 2 then some (1, target)
  else if !s.isReady then some (2, s.rf Reg.rstBoot 2 0)
  else
    match (List.range 4).find? (fun n => s.engOn n) with
    | some n => some (3, n)
    | none =>
      match (List.range 8).find? (fun k => s.playing k || s.rb (Reg.lspPlStatus k) 21) with
      | some k => some (4, k)
      | none =>
        if s.holder 0x78 ≠ 0 then some (5, s.holder 0x78)
        else
          match s.firstSess (fun v => v == SessState.busy || v == SessState.fenced) with
          | some k => some (6, k)
          | none =>
            if 0 < s.cmdFill then some (6, 0)
            else
              match s.opRuns with
              | some p => some (7, p)
              | none =>
                if target = 1 then none
                else
                  match s.firstSess (fun v => v != SessState.free) with
                  | some k => some (8, k)
                  | none => if 0 < s.resFill + s.evtFill then some (8, 0x100) else none

/-- The QUEUE page quiesces by itself (R454). -/
def queueHold (s : State) : State :=
  if s.rb (Reg.status Page.queue) 0 then s else settle (irq Page.queue 30 (setRb (Reg.status Page.queue) 0 true s))

/-- The radio goes to OFF (R454); a reception in progress ends. -/
def radioDown (s : State) : State :=
  radioTo 0 s.now (setRb Reg.rbSynState 14 false (modRadio (fun r => { r with waiting := none }) (abortRx s.now s)))

/-- An accepted request (R454): the QUEUE page quiesces, the players are held, and the radio heads for OFF. -/
def modeAccept (target : Nat) (s : State) : State :=
  radioDown (forEach (List.range 8) playerIdle (queueHold (setMode 2 (modPwr (fun _ => { target := target }) s))))

/-- A write of PWR.MODE_REQ (R453). A request made outside RUN and IDLE, or while PWR is disabled, is refused as by no check. -/
def modeReqWrite (ag : Agent) (w : Word) : State → State :=
  guarded ag Reg.pwrModeReq (fun s =>
    if fld w 31 16 ≠ 0xa5c3 then refusalErr Page.pwr Err.ownerDenied (writeInfo ag Reg.pwrModeReq) 0 s
    else
      let no := fun n d => refusalErr Page.pwr Err.modeAbort n d (irq Page.pwr 1 (addRf Reg.pwrCnt 15 0 1 s))
      match s.modeCheck (fld w 1 0) with
      | some (n, d) => no n d
      | none => if s.mode ≠ 0 ∨ s.rb (Reg.ctrl Page.pwr) 0 = false then no 0 0 else modeAccept (fld w 1 0) s)

/-- MODE_REQ_SLEEP (R453): a write of MODE_REQ with TARGET SLEEP. -/
def execModeReqSleep (ag : Agent) (w : Word) (s : State) : Host.Outcome State Fault Refusal :=
  .next (modeReqWrite ag (setFld w 1 0 1) s)

/-- MODE_REQ_WATCH (R453): a write of MODE_REQ with TARGET WATCH. -/
def execModeReqWatch (ag : Agent) (w : Word) (s : State) : Host.Outcome State Fault Refusal :=
  .next (modeReqWrite ag (setFld w 1 0 2) s)

/-! ## Entry (R454) -/

/-- What is powered down loses its contents: bytes of memory from `lo` below `hi` read as when nothing has written them. -/
def forget (lo hi : Nat) (s : State) : State := { s with mem := s.mem.filter (fun c => !decide (lo ≤ c.1 ∧ c.1 < hi)) }

/-- Hollyhock's SRAM loses its contents (R451): the command that runs, what quiesce or a reset has held, and the lines of the console. -/
def modMgtSram (s : State) : State :=
  { s with mgt := { s.mgt with job := none, goHeld := false, temps := [], selHeld := false, console := [], calHeld := [] } }

/-- What WATCH loses and latches (R451, R454, R458, R462): session RAM, frame pool, queue contents, Hollyhock's SRAM; the FTB and AON_MEAS. -/
def watchEnter (s : State) : State :=
  let m := s.rf Reg.ftbAonMeas 23 0
  let t := forget sessBase (sessBase + 0xc000) (forget poolBase (poolBase + 0x20000) { s with sess := {} })
  setRb Reg.crocusStatus 30 true (modCrocus (fun c => { c with onW := true, loadW := 0xfff })
    (modQueue (fun q => { q with cmd := [], cmdPart := [], swallow := 0, bad := none, res := [], resPart := [], evt := [], evtPart := [],
                                 held := [], flushing := false, evtDropped := 0 })
    (modMgtSram
      (modPwr (fun p => { p with ftbOff := true, shown := 0, entryFtb := s.now, entryMeas := if m = 0 then 847500 else m }) t))))

/-- MODE_ENTERED (R454): with no sweep running, the radio in OFF and no wake due, the device reaches SLEEP or WATCH. -/
def execModeEntered (s : State) : Host.Outcome State Fault Refusal :=
  .next (if s.mode ≠ 2 ∨ s.crocus.sweep.isSome ∨ s.rbState ≠ 0 ∨ s.pwr.due ≠ 0 then s
  else
    let r := cellsNow s
    let t := modFab (fun f => { f with waiting := [] }) (modPwr (fun p => { p with
      mbox := r.rf Reg.mboxState 1 0, before := r.fab.waiting, irqHeld := some r.irqLow, attnHeld := some r.queue.attnLow })
      (setRf Reg.mboxState 1 0 3 r))
    if s.pwr.target = 2 then watchEnter (setMode 4 t) else setMode 3 t)

/-! ## Wake (R455, R456) -/

/-- Whether an edge of GPm, m = k - 8, among `causes` is one that PWR.GP_WAKE selects (R456): bit k stands for a rise, bit k + 4 for a fall. -/
def State.gpWakes (s : State) (causes k : Nat) : Bool :=
  let e := s.rf Reg.pwrGpWake (2 * (k - 8) + 1) (2 * (k - 8))
  decide (8 ≤ k) && ((causes.testBit k && e.testBit 0) || (causes.testBit (k + 4) && e.testBit 1))

/-- The enabled sources of a mask that the world shows on one AON edge, `c` AON cycles after entry, with those that are due (R456). -/
def State.wakeMask (s : State) (causes c : Nat) : Nat :=
  let timer := (s.reg Reg.pwrWakeTimer).toNat
  (((List.range 12).filter (fun k =>
    (s.pwr.due.testBit k || (causes.testBit k && (k == 0 || (k == 2 && s.tag.field) || k == 3 ||
        (k == 4 && timer != 0 && c == timer && decide (3 ≤ s.mode)))) || s.gpWakes causes k) &&
      (k == 0 || s.rb Reg.pwrWakeEn k))).map (fun k => 2 ^ k)).sum

/-- A wake begins on the AON edge W (R455, R456): `c` counts the AON cycles from entry to W, which no event stamped in WATCH follows (R458), `t` is W's tick while FLD runs. -/
def wakeBegin (mask c t : Nat) (s : State) : State :=
  if mask = 0 ∨ s.mode < 2 ∨ 4 < s.mode then s
  else
    let u := if s.fldRuns then passTo t s else s
    let n := max c s.pwr.shown
    setMode 5 (modPwr (fun p => { p with causes := mask, due := 0, wakeAt := if s.fldRuns then u.now else s.watchTick n
                                         cycles := if s.mode = 2 then none else some n }) u)

/-- WAKE_TIMER_EXPIRY (R456): PWR.WAKE_TIMER cycles have passed since entry; the AON edge lies at a tick while FLD runs. -/
def execWakeTimerExpiry (tick : Nat) (s : State) : Host.Outcome State Fault Refusal :=
  let n := (s.reg Reg.pwrWakeTimer).toNat
  .next (if n = 0 ∨ s.rb Reg.pwrWakeEn 4 = false ∨ s.mode < 3 then s else wakeBegin (s.wakeMask 16 n) n tick s)

/-- WAKE_DETECT (R456): an AON edge, `cycles` after entry, shows sources as a mask: WAKE_N, TAG_FIELD, HOST, TIMER, the rises of GP0–GP3 in bits 8–11 and
their falls in bits 12–15; those that are due come with them. -/
def execWakeDetect (causes cycles tick : Nat) (s : State) : Host.Outcome State Fault Refusal :=
  .next (wakeBegin (s.wakeMask causes cycles) cycles tick s)

/-! ## The clocks (R458, R459) -/

/-- The FTB at which FLD resumes `c` AON cycles after entry (R458). -/
def State.resumeTick (s : State) (c : Nat) : Nat := roundUp (s.pwr.entryFtb * 256 + c * s.pwr.entryMeas) 2048 / 256

/-- A compare unit whose target fell within WATCH compares from the resumption (R459). -/
def cmpResume (k : Nat) (s : State) : State :=
  if s.rb (Reg.ftbCmpCtrl k) 0 ∧ s.cmpTarget k ≤ s.now then cmpFrom k s else s

/-- A cadence generator adds the wraps it skipped to MISSED and goes on at its next grid point (R459). -/
def cadResume (g : Nat) (s : State) : State :=
  let n := tabGet 0 s.time.cadNext g
  if s.rb (Reg.ftbCadCtrl g) 0 ∧ n ≤ s.now then
    let k := (s.now - n) / s.cadPeriod g + 1
    let next := n + k * s.cadPeriod g
    addRf (Reg.ftbCadStatus g) 31 16 k (cadSet g (next - s.cadPeriod g) next s)
  else s

/-- FTB_RESUME (R458, R459): the clocks lock `cycles` AON cycles after entry, and the FTB resumes; a measurement of the AON oscillator counts
anew from there (log entry 115). -/
def execFtbResume (cycles : Nat) (s : State) : Host.Outcome State Fault Refusal :=
  .next (if s.mode = 5 ∧ s.pwr.ftbOff then
    let t := advance (s.resumeTick (max (max cycles s.pwr.shown) (s.pwr.cycles.getD 0))) (modPwr (fun p => { p with ftbOff := false }) s)
    forEach (List.range 8) cadResume (forEach (List.range 32) cmpResume (measStart t))
  else s)

end Sys2Proof.Machine
end

