-- ==== Sys2Proof/Machine/Mgmt.lean ====
section
/-! DEFINITION. Hollyhock's standing services (18_hollyhock_management; 20_faults_recovery, R473, R477): the MRAM it keeps, the event
log and the console, the sensors, thermal and supply protection. -/

namespace Sys2Proof.Machine

/-- Changes the MRAM that no window shows. -/
def modNvm (f : NvmSt → NvmSt) (s : State) : State := { s with nvm := f s.nvm }
/-- Changes Hollyhock's working state. -/
def modMgt (f : MgtSt → MgtSt) (s : State) : State := { s with mgt := f s.mgt }

/-- Whether Hollyhock's firmware runs: after READY, not in its own reset (R91), not halted (R473), not gated (R451). -/
def State.mgtRuns (s : State) : Bool := s.isReady && !s.boot.mgtDown && !s.gated && !s.rb Reg.dbgWdog 0

/-- A firmware slot's entry in the directory. -/
def State.fwSlot (s : State) (x : Nat) : FwSlot := tabGet {} s.nvm.slots x
/-- Changes a firmware slot's entry. -/
def setFwSlot (x : Nat) (v : FwSlot) : State → State := modNvm (fun n => { n with slots := tabSet {} n.slots x v })
/-- Whether a copy of the rollback counter passes its check (R444). -/
def RollCopy.ok (c : RollCopy) : Bool := c.check == crc32 (wordsBytes [wd c.seq, wd c.value])
/-- A copy of the rollback counter that passes its check. -/
def State.roll (s : State) (i : Nat) : Option RollCopy := (tabGet none s.nvm.rolls i).filter RollCopy.ok
/-- The rollback counter (R444): the valid copy with the higher sequence number holds it; 0 before it has been written. -/
def State.rollback (s : State) : Nat :=
  match s.roll 0, s.roll 1 with
  | some a, some b => if a.seq < b.seq then b.value else a.value
  | some a, none => a.value
  | none, b => (b.map RollCopy.value).getD 0

/-- VERSION of the running image. -/
def State.version (s : State) : Nat := (s.fwSlot s.mgt.run).version

/-- UPD.DIR (R450). -/
def State.dirWord (s : State) : Word :=
  wd (s.nvm.trialRun.toNat * 32 + s.nvm.trialCount % 2 * 16 + (s.nvm.trial.map (· + 1)).getD 0 * 4 + (s.nvm.active + 1))

/-- The registers whose values are read from MRAM (R449, R450). -/
def State.nvmRead (s : State) (a : Nat) : Option Word :=
  if a = Reg.logHead then some (wd s.nvm.logSeq)
  else if a = Reg.logInfo then some (wd (s.nvm.logCount * 65536 + s.nvm.logNext))
  else if a = Reg.updDir then some s.dirWord
  else if a = Reg.updRollback then some (wd s.rollback)
  else if a = Reg.updSlotVer 0 ∨ a = Reg.updSlotVer 1 then some (wd (s.fwSlot ((a - Reg.updSlotVer 0) / 8)).version)
  else if a = Reg.updSlotSvn 0 ∨ a = Reg.updSlotSvn 1 then
    let x := s.fwSlot ((a - Reg.updSlotSvn 0) / 8)
    some (wd (x.verified.toNat * 65536 + x.svn))
  else none

/-! ## The event log and the console (R435–R437, R477) -/

/-- A hexadecimal digit in ASCII. -/
def hexDigit (n : Nat) : Byte := BitVec.ofNat 8 (if n < 10 then 48 + n else 55 + n)
/-- A value as `n` hexadecimal digits. -/
def hexText (n v : Nat) : List Byte := (List.range n).reverse.map (fun i => hexDigit (v / 16 ^ i % 16))

/-- The console line of a record (R477): SEQ, TICK, CODE, INFO and DETAIL, spaces between, CR LF (log entry 47). -/
def consoleLine (l : List Word) : List Byte :=
  let w := fun k => (l.getD k 0).toNat
  hexText 8 (w 6) ++ [32] ++ hexText 16 (w 0 + 2 ^ 32 * w 1) ++ [32] ++ hexText 4 (w 5 % 65536) ++ [32] ++
    hexText 8 (w 2) ++ [32] ++ hexText 8 (w 3) ++ [13, 10]

/-- A record written goes to the console (R477): 16 lines may wait behind the one being sent. -/
def consoleAdd (l : List Word) (s : State) : State :=
  if !s.rb Reg.dbgConsole 0 then s
  else if s.mgt.console.length < 17 then modMgt (fun m => { m with console := m.console ++ [l] }) s
  else addRf Reg.dbgConsole 8 1 1 s

/-- CONSOLE_LINE_SENT (R477): the line being sent has gone out on MTX, and the next one starts. -/
def execConsoleLineSent (s : State) : Host.Outcome State Fault Refusal :=
  .next (match s.mgt.console with
    | [] => s
    | l :: r => modMgt (fun m => { m with console := if s.rb Reg.dbgConsole 0 then r else [] })
        { s with dataOut := bytesWords (consoleLine l) })

/-- The words of a record, CHECK included (R435). -/
def LogRec.words (r : LogRec) (boots seq : Nat) : List Word :=
  let l := [loWord r.tick, hiWord r.tick, wd r.info, wd r.detail, wd boots,
    wd (r.code % 65536 + r.source % 256 * 65536 + r.sev % 4 * 16777216), wd seq]
  l ++ [wd (crc32 (wordsBytes l))]

/-- Hollyhock writes a record at NEXT (R435). -/
def logWrite (r : LogRec) (s : State) : State :=
  if r.sev < max 1 (s.rf Reg.logFilter 1 0) then s
  else
    let n := s.nvm
    let seq := (n.logSeq + 1) % 2 ^ 32
    let l := r.words n.boots seq
    let t := irq Page.log 0 (modNvm (fun n => { n with
      log := tabSet [] n.log n.logNext l, logSeq := seq, logNext := (n.logNext + 1) % 4096
      logCount := min 4096 (n.logCount + 1) }) s)
    consoleAdd l (if n.logNext = 4095 then publish 0xf5 t.now (irq Page.log 1 t) else t)

/-- Whether a record can be written now: Hollyhock runs and no clear is under way (R437). -/
def State.logOpen (s : State) : Bool := s.mgtRuns && !s.rb (Reg.status Page.log) 1

/-- The records that waited are written, in the order in which they arose. -/
def logFlush (s : State) : State :=
  if s.logOpen then s.mgt.logWaits.foldl (fun t r => logWrite r t) (modMgt (fun m => { m with logWaits := [] }) s) else s

/-- A record arises: it is written, after those that waited, or waits until it can be. -/
def logRec (r : LogRec) (s : State) : State :=
  if s.logOpen then logWrite r (logFlush s) else modMgt (fun m => { m with logWaits := m.logWaits ++ [r] }) s

/-- A record of the present tick. -/
def logAdd (code source sev info detail : Nat) (s : State) : State := logRec ⟨s.now, code, source, sev, info, detail⟩ s

/-- The record that LOG.SEL names is shown (R437). -/
def selShow (s : State) : State :=
  let l := tabGet [] s.nvm.log (s.rf Reg.logSel 11 0)
  let ok := decide (l.getD 7 0 = wd (crc32 (wordsBytes (l.take 7)))) && decide (l.length = 8)
  let t := forEach (List.range 8) (fun w => setReg (Reg.logRec w) (l.getD w 0)) (setRb Reg.logStatus2 0 ok s)
  if ok then t else fault 14 Page.log 0 (addRf Reg.logStatus2 31 16 1 t)

/-- A selection is shown, or held while LOG is quiesced or Hollyhock does not run (R446). -/
def selServe (s : State) : State :=
  if s.quiesced Page.log || !s.mgtRuns then modMgt (fun m => { m with selHeld := true }) s
  else selShow (modMgt (fun m => { m with selHeld := false }) s)

/-- A write of LOG.SEL (R437). -/
def logSelWrite (ag : Agent) (w : Word) : State → State := 
  guarded ag Reg.logSel (pageWork Page.log (fun s => selServe (storeReg Reg.logSel w s)))

/-- LOG_SEL_WRITE (R437). -/
def execLogSelWrite (ag : Agent) (w : Word) (s : State) : Host.Outcome State Fault Refusal := .next (logSelWrite ag w s)

/-- A write of LOG.CTRL (R437): CLR with the key starts a clear. -/
def logCtrlWrite (ag : Agent) (w : Word) : State → State :=
  guarded ag Reg.logCtrl (fun s =>
    if !bit w 0 then s
    else if fld w 31 16 ≠ 0xc35a then refusalErr Page.log Err.ownerDenied (writeInfo ag Reg.logCtrl) 0 s
    else pageWork Page.log (setRb (Reg.status Page.log) 1 true) s)

/-- LOG_CLEAR (R437). -/
def execLogClear (ag : Agent) (w : Word) (s : State) : Host.Outcome State Fault Refusal := .next (logCtrlWrite ag w s)

/-- LOG_CLEAR_DONE (R437): every record is invalid, and records that arose meanwhile are written. NEXT keeps its place (log entry
48). -/
def execLogClearDone (s : State) : Host.Outcome State Fault Refusal :=
  .next (if s.rb (Reg.status Page.log) 1 && s.mgtRuns then
    logFlush (setRb (Reg.status Page.log) 1 false (modNvm (fun n => { n with log := [], logCount := 0 }) s))
  else s)

/-! ## Sensors (R431) -/

/-- A sensor's new value; the page holds its values while quiesced (R446). -/
def sensorTake (x : SensorValue) (s : State) : State :=
  let hold := s.quiesced Page.sens
  match x with
  | .temp k v =>
    let t := modMgt (fun m => { m with temps := tabSet none m.temps k (some v) }) s
    if hold then t else setReg (Reg.sensTemp k) (wd (2 ^ 31 + unsigned 16 v)) t
  | .supply r mv =>
    let v := min 0xffff mv
    if hold then s else setReg (Reg.sensSupply r) (wd (min v (s.rf (Reg.sensSupply r) 31 16) * 65536 + v)) s
  | .drive c irms vpk =>
    if hold then s else setReg (Reg.sensCoilDrv c) (wd (min 0xffff irms * 65536 + min 0xffff vpk)) s
  | .field c power field =>
    if hold then s else setReg (Reg.sensCoilFld c) (wd (min 0xffff power * 65536 + min 0xffff field)) s

/-- What a sensor gives is kept for the next check of the retained record (R74), also while Hollyhock is in reset (log entry 100). -/
def sensorRead (x : SensorValue) : State → State :=
  match x with
  | .temp k v => readSensor k v
  | .supply r mv => sif (r == 0) (readSensor 3 mv)
  | _ => id

/-- Whether Hollyhock refreshes SENS: while its firmware runs, in a start once the sensors are calibrated or have their retained trims (R431). -/
def State.sensRuns (s : State) : Bool :=
  s.mgtRuns || (s.boot.phase == .starting && !s.rb Reg.dbgWdog 0 &&
    s.boot.plan.any (fun p => p.main.all (fun x => !([3, 4, 5, 16, 17].contains x.1))))

/-- SENSOR_REFRESH (R431). -/
def execSensorRefresh (x : SensorValue) (s : State) : Host.Outcome State Fault Refusal :=
  .next (sensorRead x (if s.sensRuns then sensorTake x s else s))

/-- A write of SENS.CNT_CLR (R448). -/
def sensCntClr (ag : Agent) (w : Word) : State → State :=
  guarded ag Reg.sensCntClr (sif (bit w 0) (fun s =>
    forEach (List.range 6) (fun r => setRf (Reg.sensSupply r) 31 16 0xffff) (setReg Reg.sensProtCnt 0 s)))

/-- SENS_CNT_CLR (R448). -/
def execSensCntClr (ag : Agent) (w : Word) (s : State) : Host.Outcome State Fault Refusal := .next (sensCntClr ag w s)

/-- A write of SENS.THERM_CFG (R448): LIMIT must lie above WARN. -/
def thermCfgWrite (ag : Agent) (w : Word) : State → State :=
  guarded ag Reg.sensThermCfg (fun s =>
    if fld w 23 16 ≤ fld w 7 0 then refusalErr Page.sens Err.modeAbort openDetail openDetail s else storeReg Reg.sensThermCfg w s)

/-! ## Calibration requests end (R97, R472) -/

/-- The pages that Hollyhock has taken for the mailbox command and the calibration that run, with their former agents. -/
def State.taken (s : State) : List (Nat × Nat) := (s.mgt.job.elim [] Job.owned) ++ (s.mgt.cal.elim [] CalJob.owned)

/-- The agent to which a page goes back: that of OWNER, or where Hollyhock has taken the page already, its agent before that. -/
def State.formerAgent (s : State) (p : Nat) : Nat :=
  ((s.taken.find? (fun x => x.1 == p)).map Prod.snd).getD (s.rf (Reg.owner p) 1 0)

/-- Hollyhock takes pages for its own writes (R138, R445): the pages with their former agents. -/
def takePages (ps : List Nat) (s : State) : List (Nat × Nat) × State :=
  (ps.map (fun p => (p, s.formerAgent p)), forEach ps (fun p => setRf (Reg.owner p) 1 0 1) s)

/-- Hollyhock returns pages to their former agents, but those that it still needs for the other of a command and a calibration (R138, R445). -/
def givePages (l : List (Nat × Nat)) (s : State) : State :=
  l.foldl (fun t p => if s.taken.any (fun x => x.1 == p.1) then t else setRf (Reg.owner p.1) 1 0 p.2 t) s

/-- The claims that a request of KIND `k` on a mask of coils takes (R95). -/
def calUnits (kind coils : Nat) : List Nat :=
  if kind = 1 ∨ kind = 2 ∨ kind = 3 ∨ kind = 8 then bitsOf 12 coils
  else if kind = 4 ∨ kind = 5 ∨ kind = 6 then [0x78]
  else []

/-- A CALIBRATE that waits for the request that has ended has its answer: the error and CAL.STATUS after it (R429). One whose own request still
waits for the release of CAL goes on waiting (R446). -/
def calTold (err : Nat) (s : State) : State :=
  if s.mgt.job.any (fun j => j.wait == .cal) && !s.mgt.calHeld.any Prod.snd then
    modMgt (fun m => { m with job := m.job.map (fun j => { j with err := err, words := [s.reg Reg.calStatus], wait := .none }) }) s
  else s

/-- The request in progress ends with a code (R97): its claims are free, and CAL.IRQ_RAW[0] is set. `inj` is bit 31 of the record's INFO where an
injected fault ends it (R476). -/
def calEndAs (inj err : Nat) (s : State) : State :=
  match s.mgt.cal with
  | none => s
  | some j =>
    let t := givePages j.owned (forEach (j.owned.map Prod.fst) (fun p => setRb (Reg.status p) 1 (s.boot.blocks.contains p))
      (forEach (calUnits j.kind j.coils) (fun i u => if u.holder i = 2 then releaseRes i u else u)
        (modMgt (fun m => { m with cal := none }) s)))
    let u := setRb Reg.calStatus 31 false (setRf Reg.calStatus 7 0 err t)
    let log := logAdd 0x20 Page.cal 1 (inj ||| (j.kind * 2 ^ 28 + j.coils * 65536)) (u.reg Reg.calStatus).toNat
    govern (irq Page.cal 0 (faultOpt (errClass err) Page.cal err (calTold err (log u))))

/-- The request in progress ends with a code that no injection causes. -/
def calEnd (err : Nat) : State → State := calEndAs 0 err

/-! ## Thermal protection (R432–R434) -/

/-- The level that a temperature in 1/16 °C gives after level `l` (R432): CRIT stays until PROT_CLEAR. -/
def State.levelOf (s : State) (l : Nat) (v : Int) : Nat :=
  let lim : Int := 16 * s.rf Reg.sensThermCfg 23 16
  let warn : Int := 16 * s.rf Reg.sensThermCfg 7 0
  if l = 3 ∨ 130 * 16 ≤ v then 3
  else if lim ≤ v ∨ (l = 2 ∧ lim - 80 ≤ v) then 2
  else if warn ≤ v ∨ (1 ≤ l ∧ warn - 80 ≤ v) then 1
  else 0

/-- Crocus's sweep stops (R432). -/
def crocusStop (s : State) : State :=
  crocusDrop (setRb Reg.crocusStatus 31 false (modCrocus (fun c => { c with sweep := none, lost := 0, waits := none }) s))

/-- The radio goes to STANDBY, or from below it no further than that, until a request reaches it (R432, R434). -/
def radioLatch (s : State) : State :=
  let t := modRadio (fun r => { r with stopped := true, regain := false }) (radioAbort Err.thermal s.now s)
  if t.rbState < 2 then modRadio (fun r => { r with goal := r.goal.map (min 2) }) t else radioTo 2 t.now t

/-- The latch acts (R432, R472): drivers, Crocus and the radio stop, RB and XB exchanges end, and a calibration of coils or the radio ends with
THERMAL. -/
def protAct (inj : Nat) (s : State) : State :=
  let t := s.nextCc
  let v := radioLatch (crocusStop (driversStop Err.thermal t s))
  if v.mgt.cal.any (fun j => j.kind ≠ 7 ∧ j.kind ≠ 15) then calEndAs inj Err.thermal v else v

/-- Bit 31 of INFO for what the level logic finds while an injection shows it a temperature (R476). -/
def State.injInfo (s : State) : Nat := if s.mgt.injTemp.isSome then 2 ^ 31 else 0

/-- A rise of level is reported (R432): the log, THERMAL, channel 60, SENS.IRQ_RAW[0], and SENS.ERR_CODE. -/
def protReport (inj level site : Nat) (v : Int) (s : State) : State :=
  recErr Page.sens Err.thermal site (unsigned 16 (v / 16)) (irq Page.sens 0 (publishOn 0xf9 60 s.now (publish 0xf0 s.now
    (logAdd 0x11 Page.sens (if level = 3 then 3 else 2) (inj + level * 256 + site) (unsigned 32 v) s))))

/-- A level is entered (R432): its count and its report. -/
def protRise (inj level site : Nat) (v : Int) (s : State) : State :=
  protReport inj level site v (setRf Reg.sensProt 31 30 level
    (if level = 3 then addRf Reg.sensProtCnt 31 24 1 s
     else if level = 2 then addRf Reg.sensProtCnt 23 16 1 s
     else addRf Reg.sensProtCnt 15 0 1 s))

/-- CRIT or HW_TRIP latches (R432). -/
def protLatch (trip : Bool) (inj : Nat) (s : State) : State :=
  protAct inj (irqLevel Page.sens 2 true (setRb Reg.sensProt 28 true (sif trip (setRb Reg.sensProt 29 true) s)))

/-- THERMAL_LEVEL_CHECK (R432): the level logic takes the hottest site. -/
def execThermalLevelCheck (s : State) : Host.Outcome State Fault Refusal :=
  .next (match if s.mgtRuns then s.hottest else none with
    | none => s
    | some (site, v) =>
      let l := s.rf Reg.sensProt 31 30
      let m := s.levelOf l v
      if m ≤ l then setRf Reg.sensProt 31 30 m s
      else if m = 3 then protLatch false s.injInfo (protRise s.injInfo 3 site v s)
      else protRise s.injInfo m site v s)

/-- PROT_CAP_STEP (R432): 100 ms more at LIMIT, or a second more below it. -/
def execProtCapStep (s : State) : Host.Outcome State Fault Refusal :=
  let cap := s.rf Reg.sensProt 11 0
  .next (if !s.mgtRuns then s
    else
      match s.rf Reg.sensProt 31 30 with
      | 3 => s
      | 2 => govern (setRf Reg.sensProt 11 0 (max 200 (cap - 200)) s)
      | _ => govern (setRf Reg.sensProt 11 0 (min 2000 (cap + 200)) s))

/-- HW_TRIP (R432): hardware sees 140 °C at a site, given in 1/16 °C. -/
def execHwTrip (site : Fin 3) (temp : Int) (s : State) : Host.Outcome State Fault Refusal :=
  .next (if temp < 140 * 16 ∨ s.rb Reg.sensProt 29 ∨ !s.started then s else protLatch true 0 (protRise 0 3 site temp s))

/-- PROT_CLEAR (R434): the answer's code, and the state. -/
def protClear (s : State) : Nat × State :=
  if !s.rb Reg.sensProt 28 then (Err.none, s)
  else
    let lim : Int := 16 * s.rf Reg.sensThermCfg 23 16
    match s.hottest with
    | some (_, v) =>
      if v < lim - 80 then
        let t := setReg Reg.sensProt (wd (s.levelOf 1 v * 2 ^ 30 + 2000)) s
        (Err.none, govern (irqLevel Page.sens 2 false (logAdd 0x51 Page.sens 2 (s.reg Reg.sensProt).toNat
          (t.reg Reg.sensProt).toNat t)))
      else (Err.thermal, s)
    | none => (Err.thermal, s)

/-! ## Supplies (R434) -/

/-- What a SUPPLY report sets off (R434), once Hollyhock runs. -/
def supplyTell (s : State) : State :=
  fault 12 Page.sens 0 (irq Page.sens 1 (publishOn 0xf9 61 s.now (publish 0xf1 s.now s)))

/-- A SUPPLY report for a rail with its voltage in mV (R434, R436): with Hollyhock in reset it is made when Hollyhock next runs, and its
record keeps the tick at which it arose (R435). -/
def supplyReport (rail mv : Nat) (s : State) : State :=
  let t := logAdd 0x10 Page.sens 2 rail mv s
  if s.mgtRuns then supplyTell t else modMgt (fun m => { m with supply := m.supply + 1 }) t

/-- The reports that waited for Hollyhock are made. -/
def supplyTold (s : State) : State :=
  forEach (List.range s.mgt.supply) (fun _ => supplyTell) (modMgt (fun m => { m with supply := 0 }) s)

/-- The report of a supervisor's action (R50, R434); the voltage it finds is a free value (log entry 106). -/
def supervisorReport (rail : Nat) (s : State) : State := supplyReport rail (s.freeVal % 65536) (nextFree s)

/-- Notes a loss of VFLD, or its return, for a calibration or a start under way (R84, R472). -/
def calVfld (s : State) : State :=
  let ok := s.vfldOk
  modBoot (fun b => { b with plan := b.plan.map (fun p => { p with low := p.low || !ok }) })
    (modMgt (fun m => { m with cal := m.cal.map (fun j => { j with low := j.low || !ok, allLow := j.allLow && !ok }) }) s)

/-- The drivers have their supply again (R51): with VFLD present, slots of a sweep that are still to begin have their pulses. -/
def vfldBack (s : State) : State := sif (s.vfldOk && !s.rb Reg.sensProt 28)
  (sweepLight (maskOfCoils ((List.range 12).filter (fun c => !(s.coil c).injected)))) (calVfld s)

/-- VFLD_FALL (R51): below the threshold past deglitch. -/
def execVfldFall (s : State) : Host.Outcome State Fault Refusal :=
  .next (if s.boot.vfld then
    let t := modBoot (fun b => { b with vfld := false }) s
    if s.boot.phase = .powerOn then t else supervisorReport 0 (driversStop Err.fieldLost s.nextCc (calVfld t))
  else s)

/-- VFLD_RISE (R51): the drivers wait for the next field-on. -/
def execVfldRise (s : State) : Host.Outcome State Fault Refusal :=
  .next (if s.boot.vfld then s else vfldBack (modBoot (fun b => { b with vfld := true }) s))

/-- VFLD_OVERVOLTAGE (R434): above 5.75 V for 10 µs. -/
def execVfldOvervoltage (s : State) : Host.Outcome State Fault Refusal :=
  .next (if s.boot.overvolt then s
    else driversStop Err.fieldLost s.nextCc (calVfld (modBoot (fun b => { b with overvolt := true }) s)))

/-- VFLD_OVERVOLTAGE_CLEAR (R434): below 5.60 V again. -/
def execVfldOvervoltageClear (s : State) : Host.Outcome State Fault Refusal :=
  .next (vfldBack (modBoot (fun b => { b with overvolt := false }) s))

/-- SUPPLY_RANGE_REPORT (R434): a rail stayed out of its range for 1 ms. A supervisor's action is reported with the action itself (log
entry 106). -/
def execSupplyRangeReport (rail : Fin 6) (mv : Nat) (s : State) : Host.Outcome State Fault Refusal :=
  .next (supplyReport rail mv s)

/-! ## NOTIFY (R430) -/

/-- MBOX_NOTIFY (R430): an event on task input 0x9A. -/
def execMboxNotify (s : State) : Host.Outcome State Fault Refusal :=
  .next (onTask 0x9a (fun _ => false) (fun _ t => irq Page.mbox 1 (addRf Reg.mboxNotifyCnt 15 0 1 t)) s)

end Sys2Proof.Machine
end

