-- ==== Sys2Proof/Machine/Image.lean ====
section
/-! DEFINITION. The Fyine image store (12_larkspur_scores, R310–R312, R491; 13_return_band_radio, R316, R319, R331): the set header, the
directory, the checks of each record, their loading at step 14, and APPLY_RECORD (18_hollyhock_management, R445). -/

namespace Sys2Proof.Machine

/-! ## The set and its directory (R311) -/

/-- RECORDS of the set header. -/
def State.records (s : State) : Nat := s.mem16 (imageBase + 6)
/-- The set's LENGTH. -/
def State.setLength (s : State) : Nat := s.mem32 (imageBase + 0x10)

/-- Whether the set header is valid: MAGIC, FORMAT, STEPPING, and the CRC-32 of its first 20 bytes and the whole directory. -/
def State.setOk (s : State) : Bool :=
  s.mem32 imageBase == 0x0f1e4480 && s.mem16 (imageBase + 4) == 1 && s.byte (imageBase + 0xc) == 0xb0 &&
    decide (32 + 16 * s.records ≤ 0x40000) &&
    decide (crc32 (s.bytes imageBase 20 ++ s.bytes (imageBase + 32) (16 * s.records)) = s.mem32 (imageBase + 0x14))

/-- A record of the set: its index, TYPE, TARGET, OFFSET and LENGTH. -/
structure SetRec where
  index : Nat
  typ : Nat
  target : Nat
  offset : Nat
  len : Nat
  deriving DecidableEq, Repr

/-- The directory entry at an index. -/
def State.recordAt (s : State) (i : Nat) : SetRec :=
  let a := imageBase + 32 + 16 * i
  ⟨i, (s.byte a).toNat, (s.byte (a + 1)).toNat, s.mem32 (a + 4), s.mem32 (a + 8)⟩

/-- Whether a record's payload lies inside the set and passes its CRC-32 (R312). -/
def State.recordOk (s : State) (r : SetRec) : Bool :=
  decide (32 + 16 * s.records ≤ r.offset) && decide (r.offset + r.len ≤ min s.setLength 0x40000) &&
    decide (crc32 (s.bytes (imageBase + r.offset) r.len) = s.mem32 (imageBase + 32 + 16 * r.index + 12))

/-- The payload's words. -/
def State.payload (s : State) (r : SetRec) : List Word :=
  (List.range (r.len / 4)).map (fun j => wd (s.mem32 (imageBase + r.offset + 4 * j)))

/-! ## Register images (R491) -/

/-- The registers that a register-image record holds, in order. -/
def imageRegs (typ target : Nat) : Option (List Nat) :=
  if typ = 0x10 ∧ target < 4 then
    some ((List.range 12).map (Reg.fwgtFeWa target) ++ (List.range 12).map (Reg.fwgtFeWb target))
  else if typ = 0x11 ∧ target = 0 then
    some ((List.range 12).map Reg.fwgtGeo ++ [Reg.fwgtGeoPop] ++
      (List.range 16).flatMap (fun r => [Reg.fwgtRegMin r, Reg.fwgtRegMax r, Reg.fwgtRegId r]))
  else if typ = 0x12 ∧ target < 12 then some ((List.range 64).map (Reg.coilPwrTable target))
  else if typ = 0x13 ∧ target < 12 then
    some ((List.range 6).map (fun j => Reg.coilProfStage target (j / 3) (j % 3)))
  else none

/-- Whether a register refuses a word (R491): a reserved bit is set, a stage is out of range (R214), or a region's ID is 0xFF. -/
def wordBad (typ j a : Nat) (w : Word) : Bool :=
  decide (w &&& ~~~ ((rowAt a).map (fun r => r.maskOf (fun _ => true))).getD 0 ≠ 0) ||
    (typ == 0x13 && stageBad (j % 3) w) || (typ == 0x11 && decide (13 ≤ j) && j % 3 == 0 && fld w 7 0 == 0xff)

/-- Whether a register-image record has its exact length and only values that its registers take. -/
def imageOk (typ : Nat) (regs : List Nat) (ws : List Word) (len : Nat) : Bool :=
  decide (len = 4 * regs.length) && (List.range regs.length).all (fun j => !wordBad typ j (regs.getD j 0) (ws.getD j 0))

/-- A word loads into a register, in use and in the shadow. -/
def loadReg (a : Nat) (w : Word) (s : State) : State := setReg a w (if hasStaged a then setShade a w s else s)

/-- The words of a register image load. -/
def loadRegs (regs : List Nat) (ws : List Word) (s : State) : State :=
  (regs.zip ws).foldl (fun t p => loadReg p.1 p.2 t) s

/-! ## The radio's tables (R316, R319, R331) -/

/-- Whether a region table is accepted (R316). -/
def regionOk (ws : List Word) (len : Nat) : Bool :=
  len == 276 && fld (ws.getD 0 0) 15 8 == 1 && ((ws.drop 1).take 4).all (fun w =>
    decide (1 ≤ fld w 15 0 ∧ fld w 15 0 ≤ 10000 ∧ 1 ≤ fld w 31 16 ∧ fld w 31 16 ≤ 3600))

/-- A region table loads: groups whose WINDOW is unchanged keep their bins (R319). -/
def loadRegion (ws : List Word) (s : State) : State :=
  let t := forEach (List.range 4) (fun g u =>
    let w := ws.getD (1 + g) 0
    let v := setReg (Reg.rbTxDuty g) w u
    if fld w 31 16 = s.rf (Reg.rbTxDuty g) 31 16 then dutyShow g v else clearBins g v) s
  let u := forEach (List.range 64) (fun k => setReg (Reg.rbTxCh k) (ws.getD (5 + k) 0 &&& 0x83ff0000)) t
  setReg Reg.rbTxRegionId (wd (fld (ws.getD 0 0) 31 16 * 65536 + 0x100 + 1)) u

/-- TARGET of a PA word, in 0.25 dBm. -/
def paTarget (w : Word) : Int := signed 8 (fld w 31 24)

/-- Whether a PA-table record is accepted (R331). -/
def paOk (ws : List Word) (len : Nat) : Bool :=
  len == 128 && ws.all (fun w => decide (-80 ≤ paTarget w ∧ paTarget w ≤ 56)) &&
    (ws.zip ws.tail).all (fun p => decide (paTarget p.1 ≤ paTarget p.2))

/-- A PA table loads; CORR stays (R331). -/
def loadPa (ws : List Word) (s : State) : State :=
  forEach (List.range 32) (fun k t =>
    setReg (Reg.rbTxPa k) (setFld (ws.getD k 0) 23 16 (t.rf (Reg.rbTxPa k) 23 16)) t) s

/-! ## Slots (R287, R310, R312) -/

/-- Whether sixteen words form a slot layout (R287): inside the store, without overlap. -/
def layoutOk (ws : List Word) (len : Nat) : Bool :=
  let b := fun j => fld (ws.getD j 0) 12 0
  let z := fun j => fld (ws.getD j 0) 29 16
  len == 64 && (List.range 16).all (fun i => decide (b i + z i ≤ 8192) &&
    (List.range 16).all (fun j => i == j || z i == 0 || z j == 0 || decide (b i + z i ≤ b j) || decide (b j + z j ≤ b i)))

/-- The slot layout takes effect. -/
def loadLayout (ws : List Word) (s : State) : State :=
  forEach (List.range 16) (fun j => setReg (slotReg (j / 2) (j % 2)) (ws.getD j 0 &&& 0x3fff1fff)) s

/-- A score image goes into slot `b` of player `k`; `none` when it does not fit. -/
def putScore (k b : Nat) (r : SetRec) (s : State) : Option State :=
  if r.len ≤ 8 * s.slotSize k b ∧ 16 ≤ r.len then
    some (setBytes (scoreBase + 8 * s.slotBase k b) (s.bytes (imageBase + r.offset) r.len) s)
  else none

/-- The page that a record targets. -/
def SetRec.page (r : SetRec) : Nat :=
  if r.typ = 0x10 ∨ r.typ = 0x11 then Page.fwgt
  else if (r.typ = 0x12 ∨ r.typ = 0x13) ∧ r.target < 12 then Page.coil r.target
  else if r.typ = 0x20 ∨ r.typ = 0x21 then Page.rbTx
  else Page.lsp

/-- A score record is loaded at step 14: its slot verifies, and a slot B stands by in state VALID (R312). -/
def loadScore (r : SetRec) (s : State) : Option State :=
  let k := r.target % 8
  let b := r.target / 128
  match putScore k b r s with
  | none => none
  | some t =>
    if (t.slotFault k b).isSome then none
    else if b = 0 then some (setReg (Reg.lspPlScoreId k) (wd (bits64 (t.slotWord k 0 1) 63 32))
      (modPlayer k (fun p => { p with emptied := false }) t))
    else some (setRf (Reg.lspPlStatus k) 19 16 3 t)

/-- What a record whose payload passed its CRC-32 loads at step 14; `none` when it is refused. -/
def loadRecord (r : SetRec) (s : State) : Option State :=
  let ws := s.payload r
  match imageRegs r.typ r.target with
  | some regs => if imageOk r.typ regs ws r.len then some (loadRegs regs ws s) else none
  | none =>
    match r.typ with
    | 0x01 => loadScore r s
    | 0x02 => if layoutOk ws r.len then some (loadLayout ws s) else none
    | 0x20 => if regionOk ws r.len then some (loadRegion ws s) else none
    | 0x21 => if paOk ws r.len then some (loadPa ws s) else none
    | _ => none

/-- The failing word's index and the check of R303 that a score record's slot fails; another failure's details are open. -/
def State.loadDetail (r : SetRec) (s : State) : Nat × Nat :=
  let k := r.target % 8
  let b := r.target / 128
  if r.typ ≠ 0x01 ∨ !s.recordOk r then (openDetail, openDetail)
  else ((putScore k b r s).bind (fun t => t.slotFault k b)).getD (openDetail, openDetail)

/-- A record loads, or its page records IMAGE_INVALID (R303, R312). -/
def loadOne (i : Nat) (s : State) : State :=
  let r := s.recordAt i
  match if s.recordOk r then loadRecord r s else none with
  | some t => t
  | none => recErr r.page Err.imageInvalid (s.loadDetail r).1 (s.loadDetail r).2 s

/-- Step 14 (R312): the slot layout first, then every other record. -/
def loadStore (s : State) : State :=
  if !s.setOk then recErr Page.lsp Err.imageInvalid 0 0 s
  else
    let l := List.range s.records
    let lay := fun i => (s.recordAt i).typ == 0x02
    forEach (l.filter (fun i => !lay i)) loadOne (forEach (l.filter lay) loadOne s)

/-- FREE sections with AUTO start at the bound (R290, R312). -/
def startAuto (s : State) : State :=
  forEach (List.range 8) (fun k t =>
    match (t.activeSections k).find? (fun c => c.kind == Kind.free && c.auto) with
    | none => t
    | some c => if t.playing k || t.toHold k then t else startOwn k c (boundTick t.now) t) s

/-! ## APPLY_RECORD (R445) -/

/-- Changes the mailbox command that runs. -/
def modJob (f : Job → Job) : State → State := modMgt (fun m => { m with job := m.job.map f })

/-- The reply of the running command is an error without words. -/
def jobErr (e : Nat) : State → State := modJob (fun j => { j with err := e, words := [], wait := .none })

/-- The running command ends with words. -/
def jobWords (ws : List Word) : State → State := modJob (fun j => { j with err := 0, words := ws, wait := .none })

/-- Hollyhock takes pages, but those it has taken, until the command's reply (R445). -/
def jobTake (ps : List Nat) (s : State) : State :=
  let r := takePages (ps.filter (fun p => s.mgt.job.all (fun j => j.owned.all (fun q => q.1 != p)))) s
  modJob (fun j => { j with owned := j.owned ++ r.1 }) r.2

/-- The pages of the radio. -/
def radioPages : List Nat := [0x1f, 0x20, 0x21, 0x22, 0x23, 0x24]

/-- For a table, Hollyhock takes the pages of the radio and quiesces those that nobody quiesces (R319, R445). -/
def tableShut (s : State) : State :=
  let l := radioPages.filter (fun p => !s.rb (Reg.ctrl p) 1)
  modJob (fun j => { j with shut := some l }) (forEach l (fun p => setRb (Reg.ctrl p) 1 true) (jobTake radioPages s))

/-- The pages of the radio reach their boundary (R143). -/
def tableQuiet (s : State) : State :=
  forEach radioPages (fun p t => if t.rb (Reg.status p) 0 then t else irq p 30 (setRb (Reg.status p) 0 true t)) (radioStandby s.now s)

/-- Hollyhock releases the pages of the radio that it quiesced (R319): steps that they held act now (R144). -/
def tableOpen (s : State) : State :=
  match s.mgt.job.bind Job.shut with
  | none => s
  | some l =>
    modJob (fun j => { j with shut := none }) (forEach l (fun p t => freeSteps p (setRb (Reg.status p) 0 false (setRb (Reg.ctrl p) 1 false t))) s)

/-- Hollyhock gives up a table that waits for the radio, if one does. -/
def tableDrop (s : State) : State :=
  sif (s.mgt.job.bind Job.shut).isSome (fun t => radioResume t.now t) (tableOpen s)

/-- An APPLY_RECORD fails: the log's RECORD entry holds the ERR, of SEVERITY 3 when the record is invalid (R436). -/
def applyFail (r : SetRec) (e : Nat) (s : State) : State :=
  logAdd 0x40 r.page (if e = Err.imageInvalid then 3 else 1) r.index e (faultOpt (errClass e) Page.mbox e (jobErr e (tableDrop s)))

/-- The mask of pages `lo` to `lo` + 31 among the pages written. -/
def pageMask (ps : List Nat) (lo : Nat) : Nat := (ps.map (fun p => if lo ≤ p ∧ p < lo + 32 then 2 ^ (p - lo) else 0)).sum

/-- An APPLY_RECORD has written pages; `extra` is its third word. A record writes pages of one half of the map alone, and the log's DETAIL holds the
mask of that half (log entry 138). -/
def applyDone (r : SetRec) (ps : List Nat) (extra : Word) (s : State) : State :=
  logAdd 0x40 r.page 1 r.index (pageMask ps 0 + pageMask ps 32) (jobWords [wd (pageMask ps 0), wd (pageMask ps 32), extra] s)

/-- A score record goes into the standby slot of its player (R445). -/
def applyScore (r : SetRec) (swap : Bool) (s : State) : State :=
  let k := r.target % 8
  let b := s.standbySlot k
  let st := s.rf (Reg.lspPlStatus k) 19 16
  if s.holder (0x18 + k) ≠ 0 ∨ st = 2 ∨ st = 5 then applyFail r Err.resourceBusy s
  else
    match putScore k b r s with
    | none => applyFail r Err.imageInvalid s
    | some t =>
      let u := jobTake [Page.lsp] t
      match u.slotFault k b with
      | some (i, c) =>
        applyFail r Err.imageInvalid (recErr Page.lsp Err.imageInvalid i c (irq Page.lsp 3 (setRf (Reg.lspPlStatus k) 19 16 4 u)))
      | none =>
        let v := irq Page.lsp 2 (setRf (Reg.lspPlStatus k) 19 16 3 u)
        if swap then
          modJob (fun j => { j with wait := .swap k })
            (applyDone r [Page.lsp] 0 (playerIdle k (playerSwap k (claimRes (0x18 + k) 2 0 0 v))))
        else applyDone r [Page.lsp] (v.reg (Reg.lspPlStatus k)) v

/-- The half of a weight-bank record for the idle bank loads (R232, R445), and with SWAP the bank is selected. -/
def applyWeights (r : SetRec) (regs : List Nat) (ws : List Word) (swap : Bool) (s : State) : State :=
  let n := r.target
  let b := 1 - s.bankInUse n
  if (s.eng n).fade.isSome ∨ (s.eng n).swapTo.isSome then applyFail r Err.resourceBusy s
  else
    let t := jobTake [Page.fwgt] (loadRegs ((regs.drop (12 * b)).take 12) ((ws.drop (12 * b)).take 12) s)
    applyDone r [Page.fwgt] 0 (if swap then bankRequest n b t.ccNow id t else t)

/-- Staged values of a page's record (R445): the shadows with STAGE at 1, and ARM. -/
def applyStaged (r : SetRec) (regs : List Nat) (ws : List Word) (arm : Bool) (s : State) : State :=
  let p := r.page
  let t := jobTake [p] (setRb (Reg.stageCtrl p) 0 true s)
  let u :=
    if r.typ = 0x13 then
      let n := r.target
      let q := 1 - s.profileInUse n
      setShade (Reg.coilChainCtrl n) (setFld (t.shade (Reg.coilChainCtrl n)) 1 1 q)
        (loadRegs ((regs.drop (3 * q)).take 3) ((ws.drop (3 * q)).take 3) t)
    else (regs.zip ws).foldl (fun v x => setShade x.1 x.2 v) t
  applyDone r [p] 0 (sif arm (setRb (Reg.stageCtrl p) 1 true) u)

/-- A table of the radio loads between packets, with pages 0x1F–0x24 quiesced (R319, R445). -/
def applyTable (r : SetRec) (ws : List Word) (arg : Nat) (s : State) : State :=
  let ok := if r.typ = 0x20 then regionOk ws r.len else paOk ws r.len
  if !ok then applyFail r Err.imageInvalid s
  else if !s.pageUp Page.rbTx then applyFail r Err.modeAbort s
  else
    let a := if (s.mgt.job.bind Job.shut).isSome then s else tableShut s
    if a.radioBusy then modJob (fun j => { j with wait := .radio arg }) a
    else
      let t := tableQuiet a
      let u := tableOpen (if r.typ = 0x20 then loadRegion ws t else loadPa ws t)
      radioResume u.now (applyDone r [Page.rbTx] 0 u)

/-- Whether APPLY_RECORD takes a record of its TYPE (R445). -/
def SetRec.applies (r : SetRec) : Bool := (imageRegs r.typ r.target).isSome || r.typ == 0x01 || r.typ == 0x20 || r.typ == 0x21

/-- The pages that a record's values go to. -/
def SetRec.pages (r : SetRec) : List Nat := if r.typ = 0x20 ∨ r.typ = 0x21 then radioPages else [r.page]

/-- APPLY_RECORD with argument word `arg` (R445): a record that passes its check waits while a commit is pending, its pages taken. -/
def applyRecord (arg : Nat) (s : State) : State :=
  let i := arg % 256
  let r := s.recordAt i
  let ws := s.payload r
  if !s.setOk ∨ s.records ≤ i ∨ !s.recordOk r then applyFail { r with index := i } Err.imageInvalid s
  else if s.commit.isSome ∧ r.applies then jobTake r.pages (modJob (fun j => { j with wait := .commit arg }) s)
  else
    match imageRegs r.typ r.target with
    | some regs =>
      if !imageOk r.typ regs ws r.len then applyFail r Err.imageInvalid s
      else if r.typ = 0x10 then applyWeights r regs ws (arg.testBit 8) s
      else applyStaged r regs ws (arg.testBit 9) s
    | none =>
      match r.typ with
      | 0x01 => applyScore r (arg.testBit 8) s
      | 0x02 => applyFail r Err.modeAbort s
      | 0x20 | 0x21 => applyTable r ws arg s
      | _ => applyFail r Err.imageInvalid s

/-- CHECK_STORE (R429): how many records pass, and the first that fails. -/
def checkStore (s : State) : State :=
  if !s.setOk then faultOpt (some 13) Page.mbox Err.imageInvalid (jobErr Err.imageInvalid s)
  else
    let bad := (List.range s.records).filter (fun i => !s.recordOk (s.recordAt i))
    jobWords [wd (s.records - bad.length), wd (bad.headD 0xff)] s

end Sys2Proof.Machine
end

