-- ==== Sys2Proof/Machine/Signature.lean ====
section
/-! DEFINITION. The signature of a firmware image (18_hollyhock_management, R438): SHA-256 and the ECDSA P-256 check, which the manual
names and FIPS 180-4 and FIPS 186 define (log entry 140). -/

namespace Sys2Proof.Machine

/-! ## SHA-256 -/

/-- The 64 constants of SHA-256. -/
def shaK : List Word :=
  [0x428a2f98, 0x71374491, 0xb5c0fbcf, 0xe9b5dba5, 0x3956c25b, 0x59f111f1, 0x923f82a4, 0xab1c5ed5] ++
  [0xd807aa98, 0x12835b01, 0x243185be, 0x550c7dc3, 0x72be5d74, 0x80deb1fe, 0x9bdc06a7, 0xc19bf174] ++
  [0xe49b69c1, 0xefbe4786, 0x0fc19dc6, 0x240ca1cc, 0x2de92c6f, 0x4a7484aa, 0x5cb0a9dc, 0x76f988da] ++
  [0x983e5152, 0xa831c66d, 0xb00327c8, 0xbf597fc7, 0xc6e00bf3, 0xd5a79147, 0x06ca6351, 0x14292967] ++
  [0x27b70a85, 0x2e1b2138, 0x4d2c6dfc, 0x53380d13, 0x650a7354, 0x766a0abb, 0x81c2c92e, 0x92722c85] ++
  [0xa2bfe8a1, 0xa81a664b, 0xc24b8b70, 0xc76c51a3, 0xd192e819, 0xd6990624, 0xf40e3585, 0x106aa070] ++
  [0x19a4c116, 0x1e376c08, 0x2748774c, 0x34b0bcb5, 0x391c0cb3, 0x4ed8aa4a, 0x5b9cca4f, 0x682e6ff3] ++
  [0x748f82ee, 0x78a5636f, 0x84c87814, 0x8cc70208, 0x90befffa, 0xa4506ceb, 0xbef9a3f7, 0xc67178f2]

/-- The initial hash value of SHA-256. -/
def shaInit : List Word :=
  [0x6a09e667, 0xbb67ae85, 0x3c6ef372, 0xa54ff53a, 0x510e527f, 0x9b05688c, 0x1f83d9ab, 0x5be0cd19]

/-- A word from four bytes, most significant first. -/
def beWord (l : List Byte) : Word := l.foldl (fun w b => w * 256 + b.setWidth 32) 0

/-- The padded message: a bit 1, zeros, and the length in bits. -/
def shaPad (l : List Byte) : List Byte :=
  l ++ 0x80 :: (List.replicate ((119 - l.length % 64) % 64) 0 ++ (List.range 8).reverse.map (fun i => BitVec.ofNat 8 (8 * l.length / 256 ^ i)))

/-- The next word of a message schedule that holds the last sixteen, newest first. -/
def shaNext (w : List Word) : Word :=
  let a := w.getD 1 0
  let b := w.getD 14 0
  (a.rotateRight 17 ^^^ a.rotateRight 19 ^^^ (a >>> 10)) + w.getD 6 0 +
    (b.rotateRight 7 ^^^ b.rotateRight 18 ^^^ (b >>> 3)) + w.getD 15 0

/-- A round on the eight working words with its constant and schedule word. -/
def shaRound (v : List Word) (k w : Word) : List Word :=
  match v with
  | [a, b, c, d, e, f, g, h] =>
    let x := h + (e.rotateRight 6 ^^^ e.rotateRight 11 ^^^ e.rotateRight 25) + ((e &&& f) ^^^ (~~~ e &&& g)) + k + w
    let y := (a.rotateRight 2 ^^^ a.rotateRight 13 ^^^ a.rotateRight 22) + ((a &&& b) ^^^ (a &&& c) ^^^ (b &&& c))
    [x + y, a, b, c, d + x, e, f, g]
  | _ => v

/-- The rounds with the constants left; `w` is the schedule's last sixteen words, oldest first. -/
def shaRounds : List Word → List Word → List Word → List Word
  | [], _, v => v
  | k :: r, w, v => shaRounds r (w.tail ++ [shaNext w.reverse]) (shaRound v k (w.headD 0))

/-- The hash value after one block of 64 bytes. -/
def shaBlock (h : List Word) (l : List Byte) : List Word :=
  h.zipWith (· + ·) (shaRounds shaK ((List.range 16).map (fun i => beWord ((l.drop (4 * i)).take 4))) h)

/-- The hash value after the blocks of a padded message, `n` of them. -/
def shaBlocks : Nat → List Word → List Byte → List Word
  | 0, h, _ => h
  | n + 1, h, l => shaBlocks n (shaBlock h (l.take 64)) (l.drop 64)

/-- A number from bytes, most significant first. -/
def beNat (l : List Byte) : Nat := l.foldl (fun n b => 256 * n + b.toNat) 0

/-- The SHA-256 digest as a number. -/
def sha256 (l : List Byte) : Nat :=
  let p := shaPad l
  (shaBlocks (p.length / 64) shaInit p).foldl (fun n w => 2 ^ 32 * n + w.toNat) 0

/-! ## P-256 -/

/-- The prime of the field. -/
abbrev p256 : Nat := 0xffffffff00000001000000000000000000000000ffffffffffffffffffffffff
/-- The order of the base point. -/
abbrev n256 : Nat := 0xffffffff00000000ffffffffffffffffbce6faada7179e84f3b9cac2fc632551
/-- The base point. -/
def base256 : Nat × Nat :=
  (0x6b17d1f2e12c4247f8bce6e563a440f277037d812deb33a0f4a13945d898c296, 0x4fe342e2fe1a7f9b8ee7eb4a7c0f9e162bce33576b315ececbb6406837bf51f5)

/-- b^e modulo m, over the lowest `k` bits of e. -/
def powMod (m : Nat) : Nat → Nat → Nat → Nat
  | 0, _, _ => 1 % m
  | k + 1, b, e => (if e % 2 = 1 then b else 1) * powMod m k (b * b % m) (e / 2) % m

/-- The inverse modulo a prime of 256 bits. -/
def invMod (m a : Nat) : Nat := powMod m 256 a (m - 2)

/-- The sum of two points of the curve; `none` is the point at infinity. -/
def curveAdd (a b : Option (Nat × Nat)) : Option (Nat × Nat) :=
  match a, b with
  | none, q => q
  | p, none => p
  | some (x, y), some (u, v) =>
    if x = u ∧ (y + v) % p256 = 0 then none
    else
      let m := (if x = u then (3 * x * x + (p256 - 3)) * invMod p256 (2 * y % p256)
        else (v + p256 - y) * invMod p256 ((u + p256 - x) % p256)) % p256
      let w := (m * m + 2 * p256 - x - u) % p256
      some (w, (m * (x + p256 - w) + p256 - y) % p256)

/-- k times a point, over the lowest `n` bits of k. -/
def curveMul : Nat → Nat → Option (Nat × Nat) → Option (Nat × Nat)
  | 0, _, _ => none
  | n + 1, k, p =>
    let q := curveMul n (k / 2) (curveAdd p p)
    if k % 2 = 1 then curveAdd p q else q

/-- The ECDSA check of signature (r, s) of a digest under a public key. -/
def ecdsaOk (key : Nat × Nat) (digest r s : Nat) : Bool :=
  decide (0 < r ∧ r < n256 ∧ 0 < s ∧ s < n256) &&
    (let w := invMod n256 s
     match curveAdd (curveMul 256 (digest * w % n256) (some base256)) (curveMul 256 (r * w % n256) (some key)) with
     | none => false
     | some (x, _) => x % n256 == r)

/-- Whether the 64 bytes after a firmware image, r then s, sign its digest under Voxtier's key (R438). -/
def signatureOk (key : Nat × Nat) (image sig : List Byte) : Bool :=
  ecdsaOk key (sha256 image) (beNat (sig.take 32)) (beNat ((sig.drop 32).take 32))

end Sys2Proof.Machine
end

