-- ==== Sys2Proof/Machine/Update.lean ====
section
/-! DEFINITION. Firmware: the UPD page (18_hollyhock_management, R438–R440, R450), slot selection at a boot (R81, R441), the Hollyhock
reset and its end (R86, R91, R428, R442), trials (R443) and the watchdog (20_faults_recovery, R473). -/

namespace Sys2Proof.Machine

/-! ## Reception and verification (R438–R440) -/

/-- UPD.STATUS.STATE. -/
def State.updState (s : State) : Nat := s.rf Reg.updStatus 31 24
/-- UPD.TARGET. -/
def State.updTarget (s : State) : Nat := s.rf Reg.updTarget 1 0

/-- Whether a target names the active slot or the slot of a running trial (R440). -/
def State.slotInUse (s : State) (target : Nat) : Bool :=
  (target == 1 || target == 2) && (s.nvm.active + 1 == target || (s.nvm.trialRun && s.nvm.trial.map (· + 1) == some target))

/-- RESOURCE_BUSY with HOLLYHOCK as holder (R440). -/
def updBusy : State → State := refusalErr Page.upd Err.resourceBusy 0x2000 noIndex

/-- Whether a mailbox command uses the image store (R440). -/
def State.storeUsed (s : State) : Bool :=
  s.mgt.job.isSome && (s.rf Reg.mboxState 31 24 == 0x20 || s.rf Reg.mboxState 31 24 == 0x21)

/-- A write of UPD.TARGET (R440). -/
def updTargetWrite (ag : Agent) (w : Word) : State → State :=
  guarded ag Reg.updTarget (fun s =>
    if s.updState = 1 ∨ s.updState = 2 ∨ s.slotInUse (fld w 1 0) ∨ (fld w 1 0 = 3 ∧ s.storeUsed) then updBusy s
    else storeReg Reg.updTarget w s)

/-- UPD_TARGET_WRITE (R440). -/
def execUpdTargetWrite (ag : Agent) (w : Word) (s : State) : Host.Outcome State Fault Refusal := .next (updTargetWrite ag w s)

/-- Where the target's bytes go. -/
def State.updBase (s : State) : Nat := if s.updTarget = 3 then imageBase else fwBase (s.updTarget - 1)

/-- Target `g` is marked empty in the slot directory or, the image store, its set header invalid, by a MAGIC of 0 (R439; log entry 150). A slot
that the boot ROM found VERIFIED is then no longer the next start's (R440). -/
def updEmpty (g : Nat) (s : State) : State :=
  if g = 0 then s
  else if g = 3 then setMem 4 imageBase 0 s
  else setFwSlot (g - 1) { empty := true } (modNvm (fun n => { n with nextActive := n.nextActive.filter (· + 1 != g) }) s)

/-- BEGIN (R439): the target is marked empty or invalid, and reception starts. -/
def updBegin (s : State) : State :=
  let g := s.updTarget
  if g = 0 ∨ s.updState = 2 then refusalErr Page.upd Err.modeAbort openDetail openDetail s
  else if s.slotInUse g ∨ (g = 3 ∧ s.storeUsed) then updBusy s
  else
    setReg Reg.updOffset 0 (setReg Reg.updStatus (wd (2 ^ 24))
      (modMgt (fun m => { m with begun := g }) (updEmpty g s)))

/-- VERIFY (R439): reception ends. -/
def updVerify (s : State) : State :=
  if s.updState = 1 then setReg Reg.updStatus (wd (2 * 2 ^ 24)) s else refusalErr Page.upd Err.modeAbort openDetail openDetail s

/-- ABORT (R440): whatever BEGIN has started is abandoned, and its target is left empty or invalid, whatever UPD.TARGET now names. -/
def updAbort (s : State) : State := sif (s.updState != 0) (fun t => setReg Reg.updStatus 0 (updEmpty t.mgt.begun t)) s

/-- A write of UPD.CTRL: BEGIN, VERIFY and ABORT act in this order, on an enabled page (R135). -/
def updCtrlWrite (ag : Agent) (w : Word) : State → State :=
  guarded ag Reg.updCtrl (sif (w &&& 7 != 0) (pageWork Page.upd (fun s =>
    sif (bit w 2) updAbort (sif (bit w 1) updVerify (sif (bit w 0) updBegin s)))))

/-- UPD_BEGIN (R439). -/
def execUpdBegin (ag : Agent) (s : State) : Host.Outcome State Fault Refusal := .next (updCtrlWrite ag 1 s)
/-- UPD_VERIFY (R439). -/
def execUpdVerify (ag : Agent) (s : State) : Host.Outcome State Fault Refusal := .next (updCtrlWrite ag 2 s)
/-- UPD_ABORT (R440). -/
def execUpdAbort (ag : Agent) (s : State) : Host.Outcome State Fault Refusal := .next (updCtrlWrite ag 4 s)

/-- Whether UPD is quiesced, so that QRDY holds writes of UPD.DATA (R446). -/
def State.updShut (s : State) : Bool := s.rb (Reg.status Page.upd) 0 && s.rb (Reg.ctrl Page.upd) 0

/-- A write of UPD.DATA (R439, R440). While the page is quiesced QRDY holds the write (R446; log entry 45). -/
def updDataWrite (ag : Agent) (w : Word) (s : State) : State :=
  if s.updShut then s
  else guarded ag Reg.updData (pageWork Page.upd fun s =>
    let o := (s.reg Reg.updOffset).toNat
    if s.updState ≠ 1 ∨ 0x40000 < o + 4 then refusalErr Page.upd Err.modeAbort openDetail openDetail s
    else setReg Reg.updOffset (wd (o + 4)) (setMem 4 (s.updBase + o) w.toNat s)) s

/-- UPD_DATA (R439). -/
def execUpdData (ag : Agent) (w : Word) (s : State) : Host.Outcome State Fault Refusal := .next (updDataWrite ag w s)

/-- The first check of R439 that a firmware image of `len` bytes received at `a` fails. -/
def State.fwCheck (s : State) (a len : Nat) : Option Nat :=
  if s.mem32 a ≠ 0xb0f14480 ∨ s.mem16 (a + 4) ≠ 1 ∨ s.byte (a + 6) ≠ 0xb0 then some 1
  else if len ≠ s.mem32 (a + 0x10) + 64 then some 2
  else if s.mem16 (a + 0xc) < s.rollback then some 3
  else if !signatureOk Config.voxtierKey (s.bytes a (s.mem32 (a + 0x10))) (s.bytes (a + s.mem32 (a + 0x10)) 64) then some 4
  else none

/-- The first check of R439 that an image set of `len` bytes received fails. -/
def State.setCheck (s : State) (len : Nat) : Option Nat :=
  if !s.setOk then some 1
  else if len ≠ s.setLength then some 2
  else if (List.range s.records).any (fun i => !s.recordOk (s.recordAt i)) then some 3
  else none

/-- What either outcome of a verification does (R439): in NO_IMAGE the boot ROM, which serves UPD, writes the log. -/
def verifyReport (k sev : Nat) (s : State) : State :=
  let r : LogRec := ⟨s.now, 0x30, Page.upd, sev, (s.reg Reg.updTarget).toNat, (s.reg Reg.updStatus).toNat⟩
  (if s.boot.phase = .noImage then logWrite r else logRec r) (publish 0xf4 s.now (irq Page.upd k s))

/-- A firmware slot's image is verified; in NO_IMAGE the slot becomes active at the next system reset (R440). -/
def slotVerified (x : Nat) (s : State) : State :=
  let a := fwBase x
  let t := setFwSlot x { verified := true, version := s.mem32 (a + 8), svn := s.mem16 (a + 0xc) } s
  if s.boot.phase = .noImage then modNvm (fun n => { n with nextActive := some x }) t else t

/-- UPD_VERIFY_DONE (R439): by the firmware, or by the boot ROM in NO_IMAGE; it waits while the page is quiesced (R446). -/
def execUpdVerifyDone (s : State) : Host.Outcome State Fault Refusal :=
  let len := (s.reg Reg.updOffset).toNat
  .next (if s.updState ≠ 2 ∨ (!s.mgtRuns ∧ s.boot.phase ≠ .noImage) ∨ s.quiesced Page.upd then s
  else
    match if s.updTarget = 3 then s.setCheck len else s.fwCheck s.updBase len with
    | none =>
      verifyReport 0 1 (setReg Reg.updStatus (wd (3 * 2 ^ 24))
        (if s.updTarget = 3 then s else slotVerified (s.updTarget - 1) s))
    | some c =>
      recErr Page.upd Err.imageInvalid len c (verifyReport 1 3 (setReg Reg.updStatus (wd (4 * 2 ^ 24 + c * 2 ^ 16)) s)))

/-! ## Slot selection (R81, R441) -/

/-- The check of R81 that a slot's image fails, numbered as in R439: a slot whose directory entry says verified holds the bytes that
passed, so its security version alone can fail; one marked empty holds no image (R440); of any other the bytes it holds are checked. -/
def State.slotCheck (s : State) (x : Nat) : Option Nat :=
  if (s.fwSlot x).verified then (if (s.fwSlot x).svn < s.rollback then some 3 else none)
  else if (s.fwSlot x).empty then some 1
  else
    let len := s.mem32 (fwBase x + 0x10)
    if len < 32 ∨ 262080 < len then some (if s.mem32 (fwBase x) = 0xb0f14480 then 2 else 1) else s.fwCheck (fwBase x) (len + 64)

/-- Whether a slot boots (R81). -/
def State.slotBoots (s : State) (x : Nat) : Bool := (s.slotCheck x).isNone

/-- The directory's entry of a slot that boots takes VERSION and SVN from its image. -/
def slotNoted (x : Nat) (s : State) : State :=
  if (s.fwSlot x).verified then s
  else setFwSlot x { verified := false, version := s.mem32 (fwBase x + 8), svn := s.mem16 (fwBase x + 0xc) } s

/-- The slot that boots, and whether as a trial. -/
def State.bootPick (s : State) : Option (Nat × Bool) :=
  let other := (s.nvm.trial.filter (fun x => s.nvm.trialCount == 1 && s.slotBoots x)).map (fun x => (x, true))
  other.or (if s.slotBoots s.nvm.active then some (s.nvm.active, false)
    else if s.slotBoots (1 - s.nvm.active) then some (1 - s.nvm.active, false) else none)

/-- The log's SLOT_FAIL for slot `x` with the check that failed. -/
def slotFail (x : Nat) (s : State) : State := logAdd 0x03 Page.rst 3 x ((s.slotCheck x).getD 0) s

/-- A trial firmware that was reset before it was confirmed is reverted (R441): the log's FW_REVERT with its cause, and
UPD.IRQ_RAW[3] once the firmware runs. -/
def revertTrial (cause : Nat) (s : State) : State :=
  logAdd 0x33 Page.upd 2 ((s.nvm.trial.map (fun x => (s.fwSlot x).version)).getD 0) cause
    (modMgt (fun m => { m with reverted := some cause }) (modNvm (fun n => { n with trialRun := false, trial := none }) s))

/-- The boot ROM selects a slot (R81, R441); a running trial that was not confirmed is over. -/
def bootSlot (cause : Nat) (s : State) : State :=
  let a := if s.nvm.trialRun then revertTrial cause s else s
  let pick := a.bootPick
  let tried := a.nvm.trialCount == 1
  let b := modNvm (fun n => { n with trialCount := 0 }) a
  let c := if tried ∧ (pick.map Prod.snd) ≠ some true then
      modNvm (fun n => { n with trial := none }) ((a.nvm.trial.map slotFail).getD id b) else b
  match pick with
  | none => setRf Reg.rstBoot 5 4 0 c
  | some (x, trial) =>
    let d := setRf Reg.rstBoot 5 4 (x + 1) (modMgt (fun m => { m with run := x }) (slotNoted x c))
    if trial then
      modNvm (fun n => { n with trialRun := true }) (modMgt (fun m => { m with trialFrom := s.now }) d)
    else if x ≠ a.nvm.active then fault 13 Page.rst 0 (setRb Reg.rstBootFlags 1 true (slotFail a.nvm.active d))
    else d

/-! ## The Hollyhock reset (R86, R91) -/

/-- The registers of the MGT island return to their reset values, but for the protection block (R86, R432) and what CAL shows of the
calibrations in use, whose Reset value is "cal" (log entry 53). -/
def mgtClear (s : State) : State :=
  let keep := fun (p : Nat × Word) => decide (p.1 < 0x25000) || decide (0x2a000 ≤ p.1) || p.1 == Reg.sensProt ||
    p.1 == Reg.calCoilStatus || p.1 == Reg.calRecInfo
  { s with regs := s.regs.filter keep, shadow := s.shadow.filter keep }

/-- The same after READY: the pages are HOST's again and enabled (log entry 53). -/
def mgtPages (s : State) : State :=
  forEach [Page.mbox, Page.sens, Page.log, Page.upd, Page.cal] (fun p t =>
    setRf (Reg.owner p) 1 0 0 (setRb (Reg.ctrl p) 0 true t)) (mgtClear s)

/-! ## The copies of the retained record (R74, R85) -/

/-- A copy of the record that passes its check. -/
def State.recCopy (s : State) (i : Nat) : Option CalRec := (tabGet none s.nvm.recs i).filter CalRec.ok

/-- Whether a copy of the record fails its check; one never written does not (R85). -/
def State.recBad (s : State) (i : Nat) : Bool := (tabGet none s.nvm.recs i).any (fun r => !r.ok)

/-- The valid copy with the higher sequence number. -/
def State.record (s : State) : Option CalRec :=
  match s.recCopy 0, s.recCopy 1 with
  | some a, some b => if a.seq < b.seq then some b else some a
  | some a, none => some a
  | none, b => b

/-- The copy that a record write takes (R85): the one that fails its check, or the one with the lower sequence number. -/
def State.recTarget (s : State) : Nat :=
  match s.recCopy 0, s.recCopy 1 with
  | none, _ => if s.recBad 1 then 1 else 0
  | some _, none => 1
  | some a, some b => if a.seq < b.seq then 0 else 1

/-- Whether the record is being written: by KIND 0xF of CAL.REQ, or by step 15 of a start (R75, R95). -/
def State.recWriting (s : State) : Bool :=
  s.mgt.cal.any (fun j => j.kind == 15) || s.boot.plan.any (fun p => (p.main.head?.map Prod.fst) == some 15)

/-- A reset during a record write leaves the copy being written failing its check (R85). -/
def recCut (s : State) : State :=
  let r : CalRec := (tabGet none s.nvm.recs s.recTarget).getD ⟨0, 0, 0, 0, 0, [], [], false⟩
  sif s.recWriting (modNvm (fun n => { n with recs := tabSet none n.recs s.recTarget (some { r with ok := false }) })) s

/-- CAL.REC_INFO shows a record (R94). -/
def recShow (r : CalRec) : State → State :=
  setReg Reg.calRecInfo (wd (r.format % 256 * 2 ^ 24 + unsigned 8 r.temp * 65536 + r.seq % 65536))

/-- Whether the retained record is accepted (R74), by the mean of the three die sites and VFLD as read last. -/
def State.recordFits (s : State) (r : CalRec) : Bool :=
  r.format == Config.recordFormat s.version && r.step == s.rf Reg.sysChipId 15 8 &&
    decide ((s.read 0 + s.read 1 + s.read 2 - 48 * r.temp).natAbs ≤ 960) &&
    (!s.vfldOk || decide (10 * (s.read 3 - r.vfld).natAbs ≤ r.vfld)) && !s.boot.fullCal && !s.boot.wakeHeld

/-- The retained record is checked (R74, R85): a copy that fails and a rejection each set a flag. -/
def checkRecord (s : State) : Option CalRec × State :=
  let flag := fun k t => fault 14 Page.rst 0 (setRb Reg.rstBootFlags k true t)
  let t := sif (s.recBad 0 || s.recBad 1) (flag 3) s
  let r := s.record.filter s.recordFits
  (r, sif r.isNone (flag 2) t)

/-! ## Hollyhock's reset (R86, R91, R428, R442) -/

/-- A Hollyhock reset (R86, R91, R428, R472): the mailbox command's header is kept, a calibration ends with MODE_ABORT, and the claims
of HOLLYHOCK are free. -/
def hhReset (s0 : State) : State :=
  let s := tableDrop s0
  let j := s.mgt.job
  let t := if s.rf Reg.mboxState 1 0 = 1 ∧ s.nvm.header = none then
      modNvm (fun n => { n with header := j.map (fun x => (s.rf Reg.mboxState 31 24, x.tag, x.err == Err.none)) }) s else s
  let u := givePages ((j.map Job.owned).getD []) (modMgt (fun m => { m with job := none }) (mgtPages (recCut t)))
  let v := calEnd Err.modeAbort (modBoot (fun b => { b with mgtDown := true }) u)
  let x := releaseAll (fun _ e => e / 4096 % 16 == 2) (modMgt (fun m => { m with
    job := none, goHeld := false, temps := [], selHeld := false, console := [], calHeld := [] }) v)
  irqLevel Page.sens 2 (x.rb Reg.sensProt 28) x

/-- A mailbox reply is given (R426): the reply words, REPLY, REPLY_TAG, DONE, its interrupt and its event. -/
def mboxAnswer (code tag err : Nat) (ws : List Word) (s : State) : State :=
  let t := (List.range ws.length).foldl (fun t i => setReg (Reg.mboxRdata i) (ws.getD i 0) t) s
  publish 0xf3 t.now (irq Page.mbox 0 (setReg Reg.mboxState (wd (code * 2 ^ 24 + 2))
    (setReg Reg.mboxReplyTag (wd (tag % 65536)) (setReg Reg.mboxReply
      (wd (code * 2 ^ 24 + ws.length * 2 ^ 16 + err * 2 ^ 8)) t))))

/-- The reply that the restarted firmware gives first (R428, R442; log entry 54): FW_SWITCH and FW_REVERT that were accepted answer with the VERSION
that runs, a trial slot that failed with IMAGE_INVALID, any other command with MODE_ABORT. -/
def headerReply (trialFailed : Bool) (s : State) : State :=
  match s.nvm.header with
  | none => s
  | some (code, tag, ok) =>
    let t := modNvm (fun n => { n with header := none }) s
    if code = 0x30 ∧ ok ∧ trialFailed then fault 13 Page.mbox Err.imageInvalid (mboxAnswer code tag Err.imageInvalid [] t)
    else if ok ∧ (code = 0x30 ∨ code = 0x32) then mboxAnswer code tag Err.none [wd t.version] t
    else faultOpt (errClass Err.modeAbort) Page.mbox Err.modeAbort (mboxAnswer code tag Err.modeAbort [] t)

/-- What the firmware logs, shows and sets when it runs again (R437, R441, R450, R473). -/
def mgtBack (s : State) : State :=
  let u := match s.mgt.reverted with
    | none => s
    | some _ => irq Page.upd 3 (modMgt (fun m => { m with reverted := none }) s)
  let t := supplyTold (logFlush (sif u.nvm.trialRun (irq Page.upd 2) u))
  sif t.mgt.selHeld selServe t

/-- HOLLYHOCK_RESTART (R91): 2,200 µs after the reset the firmware runs again, with the record checked at step 4 against what
the sensors gave last (log entry 100); with no slot that boots it stays down. The choices of R74 that a reset pin or SW_RESET makes count for the
start that they asked for alone. -/
def execHollyhockRestart (s : State) : Host.Outcome State Fault Refusal :=
  .next (if !s.boot.mgtDown ∨ !s.isReady ∨ s.gated ∨ s.rb Reg.dbgWdog 0 then s
  else
    let asked := s.nvm.trialCount == 1
    let t := bootSlot 2 s
    if t.rf Reg.rstBoot 5 4 = 0 then fault 13 Page.rst 0 (irq Page.rst 1 t)
    else
      let r := checkRecord (modBoot (fun b => { b with mgtDown := false, fullCal := false, wakeHeld := false }) t)
      let u := setRf Reg.mboxState 1 0 0 ((r.1.map recShow).getD id r.2)
      mgtBack (headerReply (asked && !t.nvm.trialRun) u))

/-! ## Trials (R442, R443) -/

/-- A Hollyhock reset for the firmware's own sake (R86): RST.CAUSE.MGT_FW. -/
def fwReset (s : State) : State := hhReset (setRb Reg.rstCause 9 true s)

/-- FW_SWITCH (R442). -/
def fwSwitch (s : State) : State :=
  let x := 1 - s.nvm.active
  if !(s.fwSlot x).verified ∨ s.nvm.trialRun ∨ s.nvm.trial.isSome then
    faultOpt (some 10) Page.mbox Err.modeAbort (jobErr Err.modeAbort s)
  else
    let t := modNvm (fun n => { n with trial := some x, trialCount := 1 }) s
    fwReset (logAdd 0x31 Page.upd 1 s.version (s.fwSlot x).version (publishOn 0xf9 62 t.now t))

/-- The copy of the rollback counter that a write takes: the one that fails its check, or the one with the lower sequence number (R85, R444). -/
def State.rollTarget (s : State) : Nat :=
  match s.roll 0, s.roll 1 with
  | none, _ => 0
  | some _, none => 1
  | some a, some b => if a.seq < b.seq then 0 else 1

/-- The rollback counter rises to a security version (R444): a write that would lower it is refused. -/
def raiseRollback (svn : Nat) (s : State) : State :=
  if svn ≤ s.rollback then s
  else
    let seq := max ((s.roll 0).elim 0 RollCopy.seq) ((s.roll 1).elim 0 RollCopy.seq) + 1
    let c : RollCopy := ⟨seq, svn, crc32 (wordsBytes [wd seq, wd svn])⟩
    modNvm (fun n => { n with rolls := tabSet none n.rolls s.rollTarget (some c) }) s

/-- FW_CONFIRM (R443). -/
def fwConfirm (advance : Bool) (s : State) : State :=
  let t := match s.nvm.trialRun, s.nvm.trial with
    | true, some x => modNvm (fun n => { n with active := x, trial := none, trialRun := false }) s
    | _, _ => s
  let u := sif advance (raiseRollback (s.fwSlot s.mgt.run).svn) t
  logAdd 0x32 Page.upd 1 s.version u.rollback (jobWords [wd u.rollback] u)

/-- FW_REVERT (R443): the trial is given up. -/
def fwRevert (s : State) : State :=
  if s.nvm.trialRun then fwReset (revertTrial 3 s)
  else faultOpt (some 10) Page.mbox Err.modeAbort (jobErr Err.modeAbort s)

/-- TRIAL_TIMEOUT (R443): TIMEOUT seconds from the trial's start, 1–3,600. -/
def execTrialTimeout (s : State) : Host.Outcome State Fault Refusal :=
  .next (if s.mgtRuns && s.nvm.trialRun then
    let t := s.mgt.trialFrom + 108480000 * max 1 (min 3600 (s.rf Reg.updConfirmCfg 15 0))
    fwReset (revertTrial 1 (passTo t s))
  else s)

/-! ## The watchdog (R473) -/

/-- The ticks of the trips that count after one at the present tick (R473): those of the last 10 s under confirmed firmware. -/
def State.tripsNow (s : State) : List Nat :=
  let l := s.mgt.trips.filter (fun t => decide (s.now - t < 1084800000))
  if s.nvm.trialRun then l else s.now :: l

/-- A Hollyhock reset by the watchdog (R473): `reset` takes it, and the record of the trip, with the VERSION that tripped and the program counter latched,
waits for the firmware that runs next. -/
def watchdog (pc : Nat) (reset : State → State) (s : State) : State :=
  let l := s.tripsNow
  let t := reset (addRf Reg.dbgWdog 31 16 1 (setRb Reg.rstCause 4 true (fault 15 0xff 0 s)))
  let u := modMgt (fun m => { m with trips := l, logWaits := m.logWaits ++ [⟨s.now, 0x04, 0xff, 3, s.version, pc⟩] }) t
  if !s.nvm.trialRun ∧ 3 ≤ l.length then irq Page.dbg 1 (setRb Reg.dbgWdog 0 true u) else u

/-- A Hollyhock reset asked for by the host (R91, R473): it also ends a halt and clears the count of trips. -/
def mgtReset (s : State) : State :=
  hhReset (modMgt (fun m => { m with trips := [] }) (setRb Reg.dbgWdog 0 false (setRb Reg.rstCause 5 true s)))

end Sys2Proof.Machine
end

