-- ==== Sys2Proof/Machine/Cal.lean ====
section
/-! DEFINITION. Calibration (03_startup_calibration, R74, R83–R85, R94–R98; 20_faults_recovery, R472): the retained record, the tuner
sweep, requests and their ends, and the drift check. -/

namespace Sys2Proof.Machine

/-! ## The calibrated values and the record (R85) -/

/-- The calibrated registers of coil `c`. -/
def coilCalRegs (c : Nat) : List Nat :=
  [Reg.coilCalGain c, Reg.coilTuneCap c, Reg.coilTuneTrack c, Reg.coilMmRef c, Reg.crocusBaseX c]

/-- The calibrated registers of the return band. -/
def radioCalRegs : List Nat :=
  (List.range 64).map Reg.rbSynBand ++ (List.range 32).map Reg.rbTxPa ++ [Reg.rbAntTune]

/-- All calibrated registers. -/
def calRegs : List Nat := (List.range 12).flatMap coilCalRegs ++ radioCalRegs

/-- The bits of a register that are marked "cal": of CTRL, EN (R133). -/
def calMask (a : Nat) : Word :=
  if a % 0x1000 = 8 then 1
  else if a / 0x1000 = Page.rbTx then 0xff0000
  else if a = Reg.rbAntTune then 0xff
  else if 0x10000 ≤ a ∧ a < 0x1c000 ∧ a % 0x1000 = 0x40 then 0xffff
  else if 0x10000 ≤ a ∧ a < 0x1c000 ∧ a % 0x1000 = 0x44 then 2
  else 0xffffffff

/-- The value that the record keeps of a calibrated register: of a tuner, the code in use. -/
def State.calValue (s : State) (a : Nat) : Word :=
  let w := s.reg a &&& calMask a
  if a = Reg.rbAntTune then wd (fld w 3 0 * 17)
  else if calMask a = 0xffff then wd (fld w 7 0 * 257)
  else w

/-- A calibrated value goes into its register, and its shadow. -/
def calPut (a : Nat) (w : Word) (s : State) : State :=
  let m := calMask a
  let t := setReg a ((s.reg a &&& ~~~ m) ||| (w &&& m)) s
  if hasStaged a then setShade a ((s.shade a &&& ~~~ m) ||| (w &&& m)) t else t

/-- Hollyhock keeps a copy of calibrated registers as they stand (R92). -/
def calKeep (l : List Nat) (s : State) : State :=
  modMgt (fun m => { m with calCopy := l.foldl (fun t a => tabSet 0 t a (s.reg a &&& calMask a)) m.calCopy }) s

/-- The tuner's capacitance of coil `c` follows its code. -/
def capFollow (c : Nat) (s : State) : State := modCoil c (fun x => { x with cap := s.rf (Reg.coilTuneCap c) 7 0 }) s

/-- A record write (R85): the copy that fails its check, or the one with the lower sequence number, takes the values in use, those too that no
calibration has found (log entry 144). -/
def writeRecord (temp : Int) (vfld : Nat) (s : State) : State :=
  let seq := ((s.record.map CalRec.seq).getD 0) + 1
  let i := s.recTarget
  let r : CalRec := ⟨seq, temp, vfld, Config.recordFormat s.version, s.rf Reg.sysChipId 15 8,
    calRegs.map (fun a => (a, s.calValue a)), s.mgt.trims, true⟩
  recShow r (modNvm (fun n => { n with recs := tabSet none n.recs i (some r) }) s)

/-- The retained values apply (R76 step 17). -/
def applyRetained (r : CalRec) (s : State) : State :=
  forEach (List.range 12) capFollow (modMgt (fun m => { m with trims := r.trims })
    (r.words.foldl (fun t p => calPut p.1 p.2 t) s))

/-- The record as a calibration looks at it: a start with FULL_CAL ignores it (R93). -/
def State.recordSeen (s : State) : Option CalRec := if s.boot.fullCal ∧ !s.isReady then none else s.record

/-- The record's value of a register. -/
def State.recWord (s : State) (a : Nat) : Option Word :=
  s.recordSeen.map (fun r => ((r.words.find? (fun p => p.1 == a)).map Prod.snd).getD 0)

/-- The record's code for coil `c`. -/
def State.recCode (s : State) (c : Nat) : Option Nat := (s.recWord (Reg.coilTuneCap c)).map (fun w => w.toNat % 256)

/-! ## The units' calibrations (R75, R83, R95) -/

/-- CAL.COIL_STATUS of coil `c`. -/
def setCoilStatus (c v : Nat) : State → State := setRf Reg.calCoilStatus (2 * c + 1) (2 * c) v

/-- Whether the final mismatch of a sweep exceeds the DETUNED threshold (R83): against MM_REF, or the record's where MM_REF holds none;
with neither the manual states no result, and it is free (log entry 88). -/
def State.sweepOff (s : State) (c : Nat) (m : MmMeas) : Bool :=
  let w := if s.rf (Reg.coilMmRef c) 15 0 = 0 then (s.recWord (Reg.coilMmRef c)).getD 0 else s.reg (Reg.coilMmRef c)
  if fld w 15 0 = 0 then s.freeVal.testBit 0
  else
    let r := (setReg (Reg.coilMmRef c) w s).mmResult c m.vpk m.ipk m.phase
    s.detunedMm c r.1 r.2

/-- The impedance of a mismatch measurement, in 0.01 Ω, with its phase, as MM_REF holds them; without a current it saturates. -/
def refWord (m : MmMeas) : Word :=
  wd (unsigned 16 m.phase * 65536 + (if m.ipk = 0 then 0xffff else min 0xffff (openDivNat (m.vpk * 1000) m.ipk)))

/-- A tuner sweep of coil `c` ends (R83): DISTURBED keeps the retained code, or the sweep's when no record exists; the mismatch at the code
chosen is recorded with that code (R207–R209), against the reference that the sweep renews when it is not DISTURBED (log entry 128). -/
def sweepCoil (c : Nat) (m : CoilMeas) (s : State) : State :=
  let code := sweepCode m
  let t := nextFree (calPut (Reg.coilTuneCap c) (setFld (s.reg (Reg.coilTuneCap c)) 15 8 code) s)
  let far := s.recCode c |>.any (fun r => decide (8 < ((code : Int) - r).natAbs))
  let off := far || s.sweepOff c m.swept
  let u := if off then setCoilStatus c 1 t
    else setCoilStatus c 0 (setRb (Reg.coilTuneTrack c) 1 m.sign (setReg (Reg.coilMmRef c) (refWord m.swept) t))
  capFollow c (setCode c (if off then (s.recCode c).getD code else code)
    (mmLoadAt code c m.swept.vpk m.swept.ipk m.swept.phase u))

/-- A coil that is not swept keeps its retained code, or 0x80, and Crocus takes its baseline at its first sweep (R84). -/
def notSwept (c : Nat) (s : State) : State :=
  modCrocus (fun x => { x with reload := x.reload ||| 2 ^ c })
    (capFollow c (setCoilStatus c 2 (setCode c ((s.recCode c).getD 0x80) s)))

/-- The trims that no register shows. -/
def setTrims (k : Nat) (l : List Word) : State → State :=
  modMgt (fun m => { m with trims := (List.range l.length).foldl (fun t i => tabSet 0 t (k + i) (l.getD i 0)) m.trims })

/-- The synthesiser's band table takes its 64 words, each valid (R326). -/
def loadBands (m : RadioMeas) (s : State) : State :=
  modRadio (fun r => { r with everCal := false })
    (forEach (List.range 64) (fun k => setReg (Reg.rbSynBand k) (((m.bands.getD k 0) &&& 0x00ff003f) ||| 0x80000000)) s)

/-- The code of the aerial tuner with the smallest reflection (R333); of several it is one of them, the manual naming none (log entry 92). -/
def antBest (m : RadioMeas) : Nat :=
  let l := (List.range 16).map (fun k => (k, (((m.ant.getD k 0x10000 : Nat)) : Int)))
  nearest (Config.sweepTie (l.map Prod.snd)) l

/-- The PA corrections and the aerial tuner take their values (R331, R333). -/
def loadPaAerial (m : RadioMeas) (s : State) : State :=
  let t := setRf Reg.rbAntTune 7 0 (antBest m % 16 * 17)
    (forEach (List.range 32) (fun k => setRf (Reg.rbTxPa k) 23 16 (m.paCorr.getD k 0)) s)
  modRadio (fun r => { r with tune := antBest m % 16 }) t

/-- The Crocus baseline of coil `c` (R75 step 13). -/
def loadBaseline (c : Nat) (m : CoilMeas) : State → State :=
  setReg (Reg.crocusBaseX c) (wd (min 0xffff m.baseMag * 65536 + m.basePh % 65536))

/-- What a request of a KIND writes for coil `c`. -/
def calCoil (kind c : Nat) (m : CoilMeas) (s : State) : State :=
  match kind with
  | 1 => setTrims c [m.adc] s
  | 2 => setReg (Reg.coilCalGain c) m.gain s
  | 3 => sweepCoil c m s
  | _ => loadBaseline c m s

/-- What a request of a KIND writes for units that are not coils. -/
def calOther (kind : Nat) (m : CalMeas) (s : State) : State :=
  match kind with
  | 4 => setTrims 16 m.radio.interleave s
  | 5 => loadBands m.radio s
  | 6 => loadPaAerial m.radio s
  | 7 => setTrims 32 m.sens s
  | _ => s

/-- The sum of the three sites' temperatures, once all are known. -/
def State.dieSum (s : State) : Option Int := if s.sites.length = 3 then some ((s.sites.map Prod.snd).sum) else none

/-- The die temperature in °C. -/
def State.dieTemp (s : State) : Int := (s.dieSum.map (fun v => openDiv v 48)).getD 0

/-- The temperature at which units were calibrated is kept (R98). -/
def calTemps (l : List Nat) (v : Option Int) : State → State :=
  modMgt (fun m => { m with calTemp := l.foldl (fun t k => tabSet none t k v) m.calTemp })

/-! ## Requests (R95, R96) -/

/-- The pages that a request of KIND `k` on coils needs quiesced (R95). -/
def calPages (kind coils : Nat) : List Nat :=
  if kind = 8 then (bitsOf 12 coils).map Page.coil ++ [Page.crocus]
  else if kind = 1 ∨ kind = 2 ∨ kind = 3 then (bitsOf 12 coils).map Page.coil
  else if kind = 4 ∨ kind = 5 ∨ kind = 6 then (List.range 6).map (0x1f + ·)
  else []

/-- A request is refused (R96): the error and the holder, with KIND of this request unless another runs. -/
def calRefuse (kind err holder : Nat) (s : State) : State :=
  let t := setRf Reg.calStatus 23 8 holder (setRf Reg.calStatus 7 0 err s)
  faultOpt (errClass err) Page.cal err (if s.mgt.cal.isSome then t else setRf Reg.calStatus 27 24 kind t)

/-- A request starts: Hollyhock claims the units and takes their pages (R97, R138); each coil of a sweep has one field-on (R208). -/
def calStart (kind coils : Nat) (s : State) : State :=
  let ps := calPages kind coils
  let t := forEach (calUnits kind coils) (fun i => claimRes i 2 0 0) s
  let r := takePages ps t
  let ok := s.vfldOk
  let fresh := sif (kind == 3) (forEach (bitsOf 12 coils) (fun c => modCoil c (fun x => { x with mmSeen := false }))) r.2
  govern (forEach ps (fun p => setRb (Reg.status p) 1 true) (setReg Reg.calStatus (wd (2 ^ 31 + kind * 2 ^ 24))
    (modMgt (fun m => { m with cal := some ⟨kind, coils, s.now, !ok, !ok, r.1⟩ }) fresh)))

/-- A calibration request is made (R95, R96). A request that Hollyhock in reset does not accept, a KIND outside
the table, and one whose pages are gated or without supply show MODE_ABORT (DESIGN CHOICE, log entry 93). -/
def calMake (w : Word) (s : State) : State :=
  let kind := fld w 31 28
  let coils := fld w 27 16
  if !s.mgtRuns then calRefuse kind Err.modeAbort 0 s
  else if s.mgt.cal.isSome then calRefuse kind Err.resourceBusy 0x2000 s
  else if kind = 0 ∨ (8 < kind ∧ kind < 15) ∨ (calPages kind coils).any (fun p => !s.pageUp p) then
    calRefuse kind Err.modeAbort 0 s
  else if (calPages kind coils).any (fun p => !s.quiesced p) then calRefuse kind Err.notQuiesced 0 s
  else
    match (calUnits kind coils).find? (fun i => s.holder i != 0) with
    | some i => calRefuse kind Err.resourceBusy (s.resEntry i % 65536) s
    | none => calStart kind coils s

/-- Whether a request would wait for the release of CAL (R446): Hollyhock runs, and no other request does. -/
def State.calWaits (s : State) : Bool := s.mgtRuns && s.mgt.cal.isNone && s.quiesced Page.cal

/-- A request waits for the release of CAL; `own` when it is that of a CALIBRATE command. -/
def calHold (w : Word) (own : Bool) : State → State := modMgt (fun m => { m with calHeld := m.calHeld ++ [(w, own)] })

/-- A CAL.REQ (R95, R96): refused while a CALIBRATE runs (R429), and waiting while CAL is quiesced (R446). -/
def calAsk (w : Word) (s : State) : State :=
  if s.mgtRuns && s.mgt.job.isSome && s.rf Reg.mboxState 31 24 == 0x10 then calRefuse (fld w 31 28) Err.resourceBusy 0x2000 s
  else if s.calWaits then calHold w false s
  else calMake w s

/-- The request of a CALIBRATE command is made (R429): the command waits for its end, or answers with the error of its refusal. -/
def calOwn (w : Word) (s : State) : State :=
  let t := calMake w s
  if s.mgt.cal.isNone && t.mgt.cal.isSome then modJob (fun j => { j with wait := .cal }) t
  else modJob (fun j => { j with wait := .none, err := t.rf Reg.calStatus 7 0, words := [t.reg Reg.calStatus] }) t

/-- The requests that waited for the release of CAL are made, in the order in which they came (R446). -/
def calRelease (s : State) : State :=
  s.mgt.calHeld.foldl (fun t x => if x.2 then calOwn x.1 t else calMake x.1 t) (modMgt (fun m => { m with calHeld := [] }) s)

/-- A write of CAL.REQ (R94), which a disabled page refuses (R135). -/
def calReqWrite (ag : Agent) (w : Word) : State → State :=
  guarded ag Reg.calReq (fun s => if s.rb (Reg.ctrl Page.cal) 0 then calAsk w s else calRefuse (fld w 31 28) Err.modeAbort 0 s)

/-- A write of CAL.REQ with its KIND. -/
def calReqKind (ag : Agent) (kind : Nat) (w : Word) (s : State) : State := calReqWrite ag (setFld w 31 28 kind) s

/-- CAL_HF_ADC (R95). -/
def execCalHfAdc (ag : Agent) (w : Word) (s : State) : Host.Outcome State Fault Refusal := .next (calReqKind ag 1 w s)
/-- CAL_CHANNEL_GAIN_PHASE (R95). -/
def execCalChannelGainPhase (ag : Agent) (w : Word) (s : State) : Host.Outcome State Fault Refusal := .next (calReqKind ag 2 w s)
/-- CAL_TUNER_SWEEP (R83, R95). -/
def execCalTunerSweep (ag : Agent) (w : Word) (s : State) : Host.Outcome State Fault Refusal := .next (calReqKind ag 3 w s)
/-- CAL_RB_ADC_INTERLEAVE (R95). -/
def execCalRbAdcInterleave (ag : Agent) (w : Word) (s : State) : Host.Outcome State Fault Refusal := .next (calReqKind ag 4 w s)
/-- CAL_SYNTH_BAND_TABLE (R95). -/
def execCalSynthBandTable (ag : Agent) (w : Word) (s : State) : Host.Outcome State Fault Refusal := .next (calReqKind ag 5 w s)
/-- CAL_PA_AERIAL (R95). -/
def execCalPaAerial (ag : Agent) (w : Word) (s : State) : Host.Outcome State Fault Refusal := .next (calReqKind ag 6 w s)
/-- CAL_SENSORS (R95). -/
def execCalSensors (ag : Agent) (w : Word) (s : State) : Host.Outcome State Fault Refusal := .next (calReqKind ag 7 w s)
/-- CAL_CROCUS_BASELINE (R95). -/
def execCalCrocusBaseline (ag : Agent) (w : Word) (s : State) : Host.Outcome State Fault Refusal := .next (calReqKind ag 8 w s)
/-- CAL_RECORD_WRITE (R85, R95). -/
def execCalRecordWrite (ag : Agent) (w : Word) (s : State) : Host.Outcome State Fault Refusal := .next (calReqKind ag 15 w s)

/-! ## The end of a request (R97, R472) -/

/-- The coils that a request skips for want of VFLD (R472). -/
def CalJob.skips (j : CalJob) (skipped : Nat) : Nat :=
  if j.kind ≠ 3 ∧ j.kind ≠ 8 then 0 else if j.allLow then j.coils else if j.low then j.coils &&& skipped else 0

/-- A request comes to its end with what it measured. A coil that it skipped takes its Crocus baseline, if that was asked for, at Crocus's
first sweep (R84). -/
def calFinish (j : CalJob) (m : CalMeas) (skipped : Nat) (s : State) : State :=
  let skip := j.skips skipped
  let l := if (calUnits j.kind j.coils).isEmpty ∨ calUnits j.kind j.coils = [0x78] then [] else bitsOf 12 j.coils
  let done := l.filter (fun c => !skip.testBit c)
  let t := forEach (l.filter (fun c => skip.testBit c)) (fun c => setCoilStatus c 2 ∘
      sif (j.kind == 8) (modCrocus (fun x => { x with reload := x.reload ||| 2 ^ c })))
    (forEach done (fun c => calCoil j.kind c (measOf m c)) (calOther j.kind m s))
  let u := if j.kind = 15 then writeRecord t.dieTemp (t.rf (Reg.sensSupply 0) 15 0) t else t
  let radio := j.kind = 4 ∨ j.kind = 5 ∨ j.kind = 6
  let v := calKeep (done.flatMap coilCalRegs ++ (if radio then radioCalRegs else [])) u
  let x := calTemps (done ++ (if radio then [12] else [])) v.dieSum v
  calEnd (if skip = 0 then Err.none else Err.fieldLost) x

/-- CAL_DONE (R97): the request ends at a tick with what it measured; `skipped` are the coils that found VFLD low. -/
def execCalDone (tick : Nat) (m : CalMeas) (skipped : Nat) (s : State) : Host.Outcome State Fault Refusal :=
  .next (match s.mgt.cal with
    | none => s
    | some j => if s.mgtRuns then calFinish j m skipped (passTo tick s) else s)

/-! ## Drift (R98) -/

/-- The units (coils 0–11, the return band 12) that have drifted from the temperature of their calibration, with the largest
difference. -/
def State.drifted (s : State) (v : Int) : List Nat :=
  (List.range 13).filter (fun k =>
    (tabGet none s.mgt.calTemp k).any (fun c => decide ((48 * s.rf Reg.calDrift 7 0 : Nat) < (v - c).natAbs)))

/-- DRIFT_CHECK (R98): once per second; LIMIT 0 disables it. The log names the units by bits of INFO, the coils by number and the return
band as bit 12, and gives the largest difference in DETAIL (DESIGN CHOICE, log entry 94). -/
def execDriftCheck (s : State) : Host.Outcome State Fault Refusal :=
  .next (match if s.mgtRuns ∧ s.rf Reg.calDrift 7 0 ≠ 0 then s.dieSum else none with
    | none => s
    | some v =>
      let l := s.drifted v
      let d := (l.map (fun k => (tabGet none s.mgt.calTemp k).elim 0 (fun c => (v - c).natAbs))).foldl max 0
      if l = [] then s
      else irq Page.cal 1 (logAdd 0x21 Page.cal 2 ((l.map (fun k => 2 ^ k)).sum) (openDivNat d 48) s))

end Sys2Proof.Machine
end

