-- ==== Sys2Proof/Machine/Mailbox.lean ====
section
/-! DEFINITION. The mailbox (18_hollyhock_management, R426–R429, R447): argument and request registers, GO, the commands, and replies. -/

namespace Sys2Proof.Machine

/-! ## Requests (R426, R427) -/

/-- MBOX.STATE. -/
def State.mboxSt (s : State) : Nat := s.rf Reg.mboxState 1 0

/-- RESOURCE_BUSY with HOLLYHOCK as holder (R427). -/
def mboxBusy : State → State := refusalErr Page.mbox Err.resourceBusy 0x2000 noIndex

/-- A write of MBOX.REQ or MBOX.ARG, without effect while a command runs (R427). -/
def mboxPlainWrite (ag : Agent) (a : Nat) (w : Word) : State → State :=
  guarded ag a (fun s => if s.mboxSt = 1 then mboxBusy s else storeReg a w s)

/-- How many arguments each command takes (R429); `none` for an unknown CODE. -/
def mboxArgs (code : Nat) : Option Nat :=
  match code with
  | 0x01 | 0x21 | 0x30 | 0x32 | 0x50 => some 0
  | 0x10 | 0x20 | 0x31 | 0x40 => some 1
  | 0x02 => some 3
  | _ => none

/-- GET_VERSION (R429). -/
def getVersion (s : State) : State :=
  let ids := (List.range 8).foldl (fun x k => x ^^^ s.reg (Reg.lspPlScoreId k)) 0
  jobWords [wd s.version, wd ((s.fwSlot s.mgt.run).svn * 65536 + s.rollback), s.dirWord, ids] s

/-- LOG_NOTE (R429, R436): the host's CODE; the SEQ of a record that the filter keeps out is a free value (log entry 61), and the
record concerns no page (log entry 152). -/
def logNote (code : Nat) (info detail : Word) (s : State) : State :=
  if code < 0x8000 then faultOpt (some 10) Page.mbox Err.modeAbort (jobErr Err.modeAbort s)
  else
    let t := logAdd code 0xff 1 info.toNat detail.toNat s
    if 1 < s.rf Reg.logFilter 1 0 then jobWords [wd s.freeVal] (nextFree t)
    else jobWords [wd (s.nvm.logSeq + s.mgt.logWaits.length + 1)] t

/-- CALIBRATE (R429): every rule of R95–R97; the reply waits for a request that starts, or waits itself (R446). -/
def calibrate (w : Word) (s : State) : State :=
  if s.calWaits then calHold w true (modJob (fun j => { j with wait := .cal }) s) else calOwn w s

/-- TAG_UNLOCK (R416, R429): each password named is restored by a wired write of its count, which waits under R422. -/
def tagUnlock (mask : Nat) (s : State) : State :=
  let t := forEach (bitsOf 4 mask) (fun k v => wireStart 1 (.poke (0x70 + k) [BitVec.ofNat 8 (v.pwLimit k)]) v) (tagSettle s)
  logAdd 0x50 Page.tagc 2 (mask % 16) 0 (modJob (fun j => { j with wait := .tag }) t)

/-- The command with CODE `code` runs (R429). -/
def mboxRun (code : Nat) (s : State) : State :=
  let arg := fun i => s.reg (Reg.mboxArg i)
  match code with
  | 0x01 => getVersion s
  | 0x02 => logNote (fld (arg 0) 15 0) (arg 1) (arg 2) s
  | 0x10 => calibrate (arg 0) s
  | 0x20 => applyRecord (arg 0).toNat s
  | 0x21 => checkStore s
  | 0x30 => fwSwitch s
  | 0x31 => fwConfirm (bit (arg 0) 0) s
  | 0x32 => fwRevert s
  | 0x40 => tagUnlock (fld (arg 0) 3 0) s
  | _ =>
    let r := protClear s
    modJob (fun j => { j with err := r.1, words := [r.2.reg Reg.sensProt] }) (faultOpt (errClass r.1) Page.mbox r.1 r.2)

/-- The command of MBOX.REQ starts (R426, R428): STATE becomes BUSY and shows CODE; an unknown CODE or a wrong count of
arguments will be answered with MODE_ABORT. -/
def mboxStart (s : State) : State :=
  let code := s.rf Reg.mboxReq 31 24
  let t := setReg Reg.mboxState (wd (code * 2 ^ 24 + 1))
    (modMgt (fun m => { m with goHeld := false, job := some { tag := s.rf Reg.mboxReq 15 0 } }) s)
  if mboxArgs code = some (s.rf Reg.mboxReq 23 16) then mboxRun code t
  else faultOpt (some 10) Page.mbox Err.modeAbort (jobErr Err.modeAbort t)

/-- GO (R427): refused while a command runs, while the firmware is away, or with more than 64 arguments; held while the page is
quiesced (R446). -/
def mboxGo (s : State) : State :=
  if s.mboxSt = 1 then mboxBusy s
  else if s.mboxSt = 3 then refusalErr Page.mbox Err.modeAbort openDetail openDetail s
  else if 64 < s.rf Reg.mboxReq 23 16 then recErrAs (some 10) Page.mbox Err.truncated (s.rf Reg.mboxReq 23 16) 64 s
  else if s.quiesced Page.mbox then modMgt (fun m => { m with goHeld := true }) s
  else mboxStart s

/-- A GO held by quiesce runs on release (R446). -/
def mboxRelease (s : State) : State := if s.mgt.goHeld then mboxGo (modMgt (fun m => { m with goHeld := false }) s) else s

/-- A write of MBOX.CTRL (R135, R426). -/
def mboxCtrlWrite (ag : Agent) (w : Word) : State → State := guarded ag Reg.mboxCtrl (sif (bit w 0) (pageWork Page.mbox mboxGo))

/-- The three steps of R426: the arguments, the request, and GO. -/
def mboxSend (ag : Agent) (code tag : Nat) (args : List Word) (s : State) : State :=
  let t := (List.range (min 64 args.length)).foldl (fun t i => mboxPlainWrite ag (Reg.mboxArg i) (args.getD i 0) t) s
  mboxCtrlWrite ag 1 (mboxPlainWrite ag Reg.mboxReq (wd (code % 256 * 2 ^ 24 + args.length % 256 * 2 ^ 16 + tag % 65536)) t)

/-- MBOX_GET_VERSION (R429). -/
def execMboxGetVersion (ag : Agent) (tag : Nat) (args : List Word) (s : State) : Host.Outcome State Fault Refusal :=
  .next (mboxSend ag 0x01 tag args s)
/-- MBOX_LOG_NOTE (R429). -/
def execMboxLogNote (ag : Agent) (tag : Nat) (args : List Word) (s : State) : Host.Outcome State Fault Refusal :=
  .next (mboxSend ag 0x02 tag args s)
/-- MBOX_CALIBRATE (R429). -/
def execMboxCalibrate (ag : Agent) (tag : Nat) (args : List Word) (s : State) : Host.Outcome State Fault Refusal :=
  .next (mboxSend ag 0x10 tag args s)
/-- MBOX_APPLY_RECORD (R445). -/
def execMboxApplyRecord (ag : Agent) (tag : Nat) (args : List Word) (s : State) : Host.Outcome State Fault Refusal :=
  .next (mboxSend ag 0x20 tag args s)
/-- MBOX_CHECK_STORE (R429). -/
def execMboxCheckStore (ag : Agent) (tag : Nat) (args : List Word) (s : State) : Host.Outcome State Fault Refusal :=
  .next (mboxSend ag 0x21 tag args s)
/-- MBOX_FW_SWITCH (R442). -/
def execMboxFwSwitch (ag : Agent) (tag : Nat) (args : List Word) (s : State) : Host.Outcome State Fault Refusal :=
  .next (mboxSend ag 0x30 tag args s)
/-- MBOX_FW_CONFIRM (R443). -/
def execMboxFwConfirm (ag : Agent) (tag : Nat) (args : List Word) (s : State) : Host.Outcome State Fault Refusal :=
  .next (mboxSend ag 0x31 tag args s)
/-- MBOX_FW_REVERT (R443). -/
def execMboxFwRevert (ag : Agent) (tag : Nat) (args : List Word) (s : State) : Host.Outcome State Fault Refusal :=
  .next (mboxSend ag 0x32 tag args s)
/-- MBOX_TAG_UNLOCK (R416). -/
def execMboxTagUnlock (ag : Agent) (tag : Nat) (args : List Word) (s : State) : Host.Outcome State Fault Refusal :=
  .next (mboxSend ag 0x40 tag args s)
/-- MBOX_PROT_CLEAR (R434). -/
def execMboxProtClear (ag : Agent) (tag : Nat) (args : List Word) (s : State) : Host.Outcome State Fault Refusal :=
  .next (mboxSend ag 0x50 tag args s)
/-- MBOX_UNKNOWN_CODE (R428): any CODE and any count of arguments. -/
def execMboxUnknownCode (ag : Agent) (code tag : Nat) (args : List Word) (s : State) : Host.Outcome State Fault Refusal :=
  .next (mboxSend ag code tag args s)

/-! ## Replies (R426) -/

/-- Whether a wired write of a password's count still waits. -/
def State.unlocking (s : State) : Bool :=
  s.tag.waiting.any (fun p =>
    match p.op with
    | .poke a _ => decide (0x70 ≤ a ∧ a < 0x74)
    | _ => false)

/-- What the running command waits for has come, and with it the rest of the command; otherwise nothing changes (R429, R445). -/
def jobGoOn (s : State) : State :=
  match s.mgt.job.map Job.wait with
  | some .tag =>
    if s.unlocking then s else jobWords [(s.tagcRead Reg.tagcPwStatus).getD 0] s
  | some (.commit arg) =>
    if s.commit.isSome then s else applyRecord arg (modJob (fun j => { j with wait := .none }) s)
  | some (.radio arg) =>
    if s.radioBusy then s else applyRecord arg (modJob (fun j => { j with wait := .none }) s)
  | some (.swap k) =>
    if s.rf (Reg.lspPlStatus k) 19 16 = 5 then s
    else modJob (fun j => { j with words := j.words.take 2 ++ [s.reg (Reg.lspPlStatus k)], wait := .none })
      (if s.holder (0x18 + k) = 2 then releaseRes (0x18 + k) s else s)
  | _ => s

/-- MBOX_REPLY (R426): the command that runs ends, once nothing holds its reply back. -/
def execMboxReply (s : State) : Host.Outcome State Fault Refusal :=
  let t := jobGoOn s
  .next (match t.mgt.job with
    | none => t
    | some j =>
      if j.wait ≠ .none ∨ !t.mgtRuns then t
      else mboxAnswer (t.rf Reg.mboxState 31 24) j.tag j.err j.words
        (givePages j.owned (modMgt (fun m => { m with job := none }) t)))

end Sys2Proof.Machine
end

