-- ==== Sys2Proof/Machine/Debug.lean ====
section
/-! DEFINITION. Diagnostics (20_faults_recovery): the clear of every counter (R475), injected faults (R476), and the test access port
(R478, R479). -/

namespace Sys2Proof.Machine

/-! ## CNT_CLR_ALL (R475) -/

/-- Fields that a clear returns to a value: the register, its bits, the value. -/
abbrev CntFields : Type := List (Nat × Nat × Nat × Nat)

/-- A counter that fills its register. -/
def whole (a : Nat) : Nat × Nat × Nat × Nat := (a, 31, 0, 0)

/-- The counters of coil `n`. -/
def coilCounts (n : Nat) : CntFields := [(Reg.coilThrStatus n, 31, 16, 0), whole (Reg.coilSenseCnt n), whole (Reg.coilDrvCnt n)]

/-- The counters of the EVF page: CNT, DROP_CNT, and RATE_LIMITED and PASSED of each channel. -/
def evfCounts : CntFields :=
  [whole Reg.evfCnt, whole Reg.evfDropCnt] ++
    (List.range 64).flatMap (fun n => [(Reg.evfChStatus n, 31, 16, 0), whole (Reg.evfChCount n)])

/-- The counters of the return band's pages. -/
def radioCounts (p : Nat) : CntFields :=
  match p with
  | 0x1f => [whole Reg.rbSynCnt, whole Reg.rbSynCnt2]
  | 0x20 => [whole Reg.rbRxRxCnt]
  | 0x21 => [whole Reg.rbDemSyncCnt, whole Reg.rbDemSyncCnt2, whole Reg.rbDemCapCnt]
  | 0x22 => [whole Reg.rbDecDecCnt]
  | 0x23 => [whole Reg.rbTxCnt, whole Reg.rbTxCnt2]
  | 0x24 => [whole Reg.rbAntMmCnt, whole Reg.rbAntSurvCnta, whole Reg.rbAntSurvCntb,
      (Reg.rbAntSurvLvla, 31, 0, 0x80008000), (Reg.rbAntSurvLvlb, 31, 0, 0x80008000)]
  | _ => []

/-- The counters of page `p` that R475 clears; SESS.USE.PEAK and the FE and coil pages aside. -/
def blockCounts (p : Nat) : CntFields :=
  match p with
  | 0x04 => [whole Reg.hifCount]
  | 0x05 => [whole Reg.queueCrossCnt, whole Reg.queueLossCnt]
  | 0x06 => evfCounts
  | 0x09 => (List.range 8).map (fun c => whole (Reg.cvuCCnt c))
  | 0x0a => [whole Reg.sessMigCnt]
  | 0x0b => (List.range 8).flatMap (fun k => [whole (Reg.lspPlCnt k), whole (Reg.lspPlSectCnt k)])
  | 0x1c => whole Reg.fwgtGovCnt :: (List.range 4).map (fun n => whole (Reg.fwgtFeSwapCnt n))
  | 0x1d => [whole Reg.crocusSweepCnt, whole Reg.crocusTripCnt]
  | 0x1e => [whole Reg.tagcArbCnt, whole Reg.tagcFieldCnt]
  | 0x26 => whole Reg.sensProtCnt :: (List.range 6).map (fun r => (Reg.sensSupply r, 31, 16, 0xffff))
  | 0x2b => [(Reg.dbgWdog, 31, 16, 0)]
  | _ => radioCounts p

/-- The counters of page `p` that R475 clears. -/
def pageCounts (p : Nat) : CntFields :=
  if 0x0c ≤ p ∧ p < 0x10 then
    [whole (Reg.feErrCnt (p - 0xc)), whole (Reg.feFrameCnt (p - 0xc)), whole (Reg.feGuardCnt (p - 0xc))]
  else if 0x10 ≤ p ∧ p < 0x1c then coilCounts (p - 0x10)
  else blockCounts p

/-- Returns fields to their values. -/
def clearFields (l : CntFields) (s : State) : State := l.foldl (fun t f => setRf f.1 f.2.1 f.2.2.1 f.2.2.2 t) s

/-- The counters of page `p` clear, unless OWNER.SECURE is set. -/
def clearPage (p : Nat) (s : State) : State :=
  if s.rb (Reg.owner p) 8 then s
  else clearFields (pageCounts p) (sif (decide (p = Page.sess)) (fun t => setRf Reg.sessUse 15 8 (t.rf Reg.sessUse 7 0) t) s)

/-- A write of DBG.CNT_CLR_ALL (R475). -/
def cntClrAllWrite (ag : Agent) (w : Word) : State → State :=
  guarded ag Reg.dbgCntClrAll (fun s =>
    if fld w 31 16 ≠ 0xa5c3 then refusalErr Page.dbg Err.ownerDenied (writeInfo ag Reg.dbgCntClrAll) 0 s
    else if bit w 0 then forEach (List.range 0x2c) clearPage s
    else s)

/-- DBG_CNT_CLR_ALL (R475). -/
def execDbgCntClrAll (ag : Agent) (w : Word) (s : State) : Host.Outcome State Fault Refusal := .next (cntClrAllWrite ag w s)

/-! ## Injected faults (R476) -/

/-- Whether an injection of a kind runs. -/
def State.injecting (s : State) (kind : Nat) : Bool :=
  match kind with
  | 1 => (List.range 12).any (fun c => (s.coil c).injected)
  | 3 => s.mgt.injTemp.isSome
  | 4 => !s.cvu.inject.isEmpty
  | _ => false

/-- The coils of a mask act as under R51; an engine left without a driven coil reports that its field stopped, a calibration of one of them has met
a loss of VFLD (R472), and the loss is reported with bit 31 of INFO (R434, R476). -/
def injectStop (mask : Nat) (s : State) : State :=
  let ons := (List.range 4).filter (fun n => s.engDrives n)
  let t := s.nextCc
  let u := forEach (bitsOf 12 mask) (fun c v =>
    modCoil c (fun x => { x with injected := true }) (sif (v.coilOn c) (coilFieldOff c) v)) (sweepDark mask (if s.fldRuns then passTo t s else s))
  let x := forEach ons (fun n v => if v.engDrives n then v else fieldStopped n Err.fieldLost t v) u
  supervisorReport (2 ^ 31) (govern (modMgt (fun m => { m with
    cal := m.cal.map (fun j => { j with low := j.low || (mask &&& j.coils != 0) }) }) x))

/-- The fault of a kind takes place (R476). -/
def injectAct (kind arg : Nat) (s : State) : State :=
  match kind with
  | 1 => injectStop arg s
  | 2 => lockLoss s.now s
  | 3 => modMgt (fun m => { m with injTemp := some ((arg % 256 : Nat) : Int) }) s
  | _ => { s with cvu := { s.cvu with
      inject := (bitsOf 8 arg).foldl (fun t c => tabSet false t c true) s.cvu.inject } }

/-- A write of DBG.INJECT (R476): its refusals, the fault, and FAULT_SUM[31]. -/
def injectWrite (ag : Agent) (w : Word) : State → State :=
  guarded ag Reg.dbgInject (pageWork Page.dbg fun s =>
    let kind := fld w 15 12
    if fld w 31 16 ≠ 0xa5c3 ∨ s.rb (Reg.lock Page.dbg) 0 then
      refusalErr Page.dbg Err.ownerDenied (writeInfo ag Reg.dbgInject) 0 s
    else if !s.isReady ∨ kind = 0 ∨ 5 ≤ kind then refusalErr Page.dbg Err.modeAbort openDetail openDetail s
    else if s.injecting kind then refusalErr Page.dbg Err.resourceBusy openDetail openDetail s
    else fault 31 0xff 0 (injectAct kind (fld w 11 0) s))

/-- INJECT_FIELD_LOSS (R476): a write of DBG.INJECT with KIND 0x1. -/
def execInjectFieldLoss (ag : Agent) (w : Word) (s : State) : Host.Outcome State Fault Refusal :=
  .next (injectWrite ag (setFld w 15 12 1) s)

/-- INJECT_LOCK_LOSS (R476): KIND 0x2. -/
def execInjectLockLoss (ag : Agent) (w : Word) (s : State) : Host.Outcome State Fault Refusal :=
  .next (injectWrite ag (setFld w 15 12 2) s)

/-- INJECT_TEMPERATURE (R476): KIND 0x3. -/
def execInjectTemperature (ag : Agent) (w : Word) (s : State) : Host.Outcome State Fault Refusal :=
  .next (injectWrite ag (setFld w 15 12 3) s)

/-- INJECT_CVU_MISMATCH (R476): KIND 0x4. -/
def execInjectCvuMismatch (ag : Agent) (w : Word) (s : State) : Host.Outcome State Fault Refusal :=
  .next (injectWrite ag (setFld w 15 12 4) s)

/-- INJECT_END (R476): 100 µs after KIND 0x1 or 1 s after KIND 0x3, the true conditions return. -/
def execInjectEnd (kind : Nat) (s : State) : Host.Outcome State Fault Refusal :=
  .next (match kind with
    | 1 => sif s.vfldOk (sweepLight (maskOfCoils ((List.range 12).filter (fun c => (s.coil c).injected))))
      (forEach (List.range 12) (fun c => modCoil c (fun x => { x with injected := false })) s)
    | 3 => modMgt (fun m => { m with injTemp := none }) s
    | _ => s)

/-! ## The test access port (R478, R479) -/

/-- IDCODE (R478): version 0x1, part 0x4480, manufacturer 0x05C. -/
abbrev idcode : Nat := 0x144800b9

/-- The cells of the boundary register (R479). -/
abbrev cellCount : Nat := 91

/-- The port's balls are on the VDDIO rail (R44): an instruction reaches it while that rail is good. -/
def tapTake (f : State → State) (s : State) : State := sif s.boot.vddio f s

/-- Changes the test access port. -/
def modTap (f : TapSt → TapSt) (s : State) : State := { s with tap := f s.tap }

/-- The values of the chain balls as sampled: the cell order is not given in the manual, so the words are free values (log entry
56). -/
def sampleCells (s : State) : State :=
  let w := fun (v : Nat) => Config.freeValue v
  { s with free := s.free + 3
           dataOut := [wd (w s.free), wd (w (s.free + 1)), wd (w (s.free + 2) % 2 ^ 27)] }

/-- The boundary register takes 91 cells; cells not given are 0. -/
def loadCells (l : List Bool) : State → State :=
  modTap (fun t => { t with cells := (l ++ List.replicate cellCount false).take cellCount })

/-- Bits as a word, the first least significant. -/
def bitsNat : List Bool → Nat
  | [] => 0
  | b :: t => b.toNat + 2 * bitsNat t

/-- What the bypass register gives for bits shifted through it: a 0 and then the bits. -/
def bypassOut (l : List Bool) (s : State) : State :=
  let n := 2 * bitsNat l
  { s with dataOut := [wd n, wd (n / 2 ^ 32), wd (n / 2 ^ 64)] }

/-- TAP_EXTEST (R479): while RESET_N is low the chain is sampled and driven with the cells; otherwise as BYPASS. -/
def execTapExtest (cells : List Bool) (s : State) : Host.Outcome State Fault Refusal :=
  .next (tapTake (fun t =>
    let u := modTap (fun x => { x with ir := 0 }) t
    if u.scanOpen then loadCells cells (sampleCells u) else bypassOut cells u) s)

/-- TAP_SAMPLE_PRELOAD (R478): the chain is sampled, and the boundary register loaded. -/
def execTapSamplePreload (cells : List Bool) (s : State) : Host.Outcome State Fault Refusal :=
  .next (tapTake (fun t => loadCells cells (sampleCells (modTap (fun x => { x with ir := 1 }) t))) s)

/-- TAP_IDCODE (R478). -/
def execTapIdcode (s : State) : Host.Outcome State Fault Refusal :=
  .next (tapTake (fun t => { modTap (fun x => { x with ir := 2 }) t with dataOut := [wd idcode] }) s)

/-- TAP_CLAMP (R479): the outputs are held from the boundary register while RESET_N is low, with BYPASS selected. -/
def execTapClamp (s : State) : Host.Outcome State Fault Refusal :=
  .next (tapTake (fun t => bypassOut [] (modTap (fun x => { x with ir := 4 }) t)) s)

/-- TAP_HIGHZ (R479): every chain output is high-impedance while RESET_N is low. -/
def execTapHighz (s : State) : Host.Outcome State Fault Refusal :=
  .next (tapTake (fun t => bypassOut [] (modTap (fun x => { x with ir := 5 }) t)) s)

/-- TAP_BYPASS (R478), or any unlisted code. -/
def execTapBypass (s : State) : Host.Outcome State Fault Refusal :=
  .next (tapTake (fun t => bypassOut [] (modTap (fun x => { x with ir := 31 }) t)) s)

/-- TEST_LOGIC_RESET (R478): IDCODE is selected. -/
def execTestLogicReset (s : State) : Host.Outcome State Fault Refusal := .next (modTap (fun x => { x with ir := 2 }) s)

end Sys2Proof.Machine
end

