-- ==== Sys2Proof/Machine/Stage.lean ====
section
/-! DEFINITION. Staged values (05_register_pages, R145–R147) and the commit unit (12_larkspur_scores, R307–R309; 09_field_shaping,
R240): what a page's staged values do when they go into use, APPLY and DISCARD, requests for a commit, and its margin. -/

namespace Sys2Proof.Machine

/-! ## Staged values going into use -/

/-- Whether the staged register at `a` has an effect of its own when its value in use changes. -/
def stageSpecial (a : Nat) : Bool :=
  let p := a / 0x1000
  let o := a % 0x1000
  if p = Page.fwgt then decide (0x100 ≤ o ∧ o < 0x500) && (o % 0x100 == 0 || o % 0x100 == 4)
  else if 0x10 ≤ p ∧ p < 0x1c then o == 0x6c || o == 0x78 || o == 0x80 || o == 0x84 || o == 0x88
  else if p = Page.evf then decide (0xd00 ≤ o ∧ o < 0xd40)
  else if p = Page.ftb then decide (0x300 ≤ o ∧ o < 0x400) && o % 0x20 == 4
  else decide (p = Page.evfLut)

/-- A field engine's staged coil set goes into use: `add` false only takes coils away, true then brings the others (R240). A coil
that cannot be claimed leaves the register as it is, as R225 states for a write, and R135 for a disabled page. -/
def stageCoils (add : Bool) (n : Nat) (s : State) : State :=
  let w := s.stageWord (Reg.fwgtFeCoils n)
  if w = s.reg (Reg.fwgtFeCoils n) then s
  else if !add then feCoilsInUse n (setFld w 11 0 (fld w 11 0 &&& s.coilSet n)) s
  else coilsTake n w (feCoilsInUse n w) s

/-- What the staged register at `a`, FEn_COILS aside, does when its value goes into use. -/
def stageReg (a : Nat) (s : State) : State :=
  let w := s.stageWord a
  let p := a / 0x1000
  let o := a % 0x1000
  let n := p - 0x10
  if w = s.reg a then s
  else if p = Page.fwgt then (if o % 0x100 = 4 then feBankInUse ((o - 0x100) / 0x100) w s else s)
  else if p = Page.evf then gpCfgInUse ((o - 0xd00) / 4) w s
  else if p = Page.evfLut then cellCfgInUse ((o - 0x40) / 0x10) w s
  else if p = Page.ftb then cadPeriodInUse ((o - 0x300) / 0x20) w s
  else if o = 0x6c then chainCtrlInUse n w s
  else if o = 0x78 then thrCtrlInUse n w s
  else thrMarkInUse n a w s

/-- The staged values of a list of pages go into use together (R146): plain values first, then coil sets, then the rest; the governor
takes their whole (R234). -/
def stagePages (ps : List Nat) (s : State) : State :=
  let t := sif (ps.contains Page.evf) cellsWake
    (forEach ps (fun p => stagePlain p (fun a => !stageSpecial a)) (govDefer true (dropLapsed (cellsNow s))))
  let u := sif (ps.contains Page.fwgt)
    (fun v => forEach (List.range 4) (stageCoils true) (forEach (List.range 4) (stageCoils false) v)) t
  let v := govDefer false (forEach ps (fun p => forEach ((stagedRegs p).filter stageSpecial) stageReg) u)
  sif (ps.any (fun p => decide (0x10 ≤ p ∧ p ≤ 0x1c))) govern v

/-- A commit applies the shadows of the quiesced page `p`: they take effect when it resumes (R146). -/
def stageKeep (p : Nat) (s : State) : State :=
  forEach (stagedRegs p) (fun a t =>
    { t with applied := tabSet none t.applied a (if t.merged a = t.reg a then none else some (t.merged a)) }) s

/-- What commits applied to page `p` while it was quiesced takes effect (R146). -/
def stageResume (p : Nat) (s : State) : State :=
  if (stagedRegs p).any (fun a => (tabGet none s.applied a).isSome) then dropStaged p (stagePages [p] s) else s

/-- STAGE_CTRL.APPLY (R145): the page's shadows go into use at the block's boundary: R243 gives it for FEn, and for the coils and FWGT it
is the next carrier-cycle boundary (R223, R225, log entry 104). -/
def stageApply (p : Nat) (s : State) : State :=
  if 0xc ≤ p ∧ p < 0x10 then stdSettle (p - 0xc) (modEng (p - 0xc) (fun e => { e with applyWait := true }) s)
  else stageReport p (stagePages [p] (dropStaged p (sif (decide (0x10 ≤ p ∧ p ≤ 0x1c)) toCc s)))

/-- STAGE_CTRL.DISCARD (R145): the values in use go into the shadows. -/
def stageDiscard (p : Nat) (s : State) : State :=
  forEach (stagedRegs p) (fun a t =>
    setShade a ((t.shade a &&& ~~~ stagedMask a) ||| (t.reg a &&& stagedMask a)) t) s

/-- A write of STAGE_CTRL (R145, R308); on a page without staged fields it has no effect beyond the checks of R139. -/
def stageCtrlWrite (ag : Agent) (p : Nat) (w : Word) : State → State :=
  let a := Reg.stageCtrl p
  if !pageStaged p then hold ag a w (guarded ag a id)
  else hold ag a w <| guarded ag a (fun s =>
    let t := setRb a 4 (bit w 4) (setRf a 1 0 (fld w 1 0) s)
    sif (bit w 5) (stageApply p) (sif (bit w 3) (stageDiscard p) t))

/-- STAGE_APPLY (R145): a write of APPLY, the other fields as they stand. -/
def execStageApply (ag : Agent) (page : PageIx) (s : State) : Host.Outcome State Fault Refusal :=
  .next (stageCtrlWrite ag page ((s.reg (Reg.stageCtrl page) &&& 0x13) ||| 0x20) s)

/-- STAGE_DISCARD (R145): a write of DISCARD, the other fields as they stand. -/
def execStageDiscard (ag : Agent) (page : PageIx) (s : State) : Host.Outcome State Fault Refusal :=
  .next (stageCtrlWrite ag page ((s.reg (Reg.stageCtrl page) &&& 0x13) ||| 8) s)

/-! ## READY (R145, R240, R308) -/

/-- STATUS.BUSY of page `p` (R133): a block reset, calibration, flush or clear, a staged apply that waits, or a quiesce not
reached. -/
def State.pageBusy (s : State) (p : Nat) : Bool :=
  s.rb (Reg.status p) 1 || (s.rb (Reg.ctrl p) 1 && !s.rb (Reg.status p) 0) ||
    (decide (0xc ≤ p ∧ p < 0x10) && (s.eng (p - 0xc)).applyWait)

/-- What FWGT's staged sets and banks must satisfy (R240). -/
def State.fwgtReady (s : State) : Bool :=
  let new := fun n => fld (s.merged (Reg.fwgtFeCoils n)) 11 0
  let gone := fun n => s.coilSet n &&& (new n ^^^ 0xfff)
  let come := fun n => new n &&& (s.coilSet n ^^^ 0xfff)
  (List.range 4).all (fun n =>
    (bitsOf 12 (gone n)).all (fun c => !s.coilOn c) &&
      (bitsOf 12 (come n)).all (fun c => s.holder c == 0 || s.holder c == 8 ||
        (List.range 4).any (fun m => m != n && (gone m).testBit c)) &&
      !(bit (s.merged (Reg.fwgtFeBank n)) 0 != s.rb (Reg.fwgtFeBank n) 0 && (s.eng n).swapTo.isSome))

/-- STAGE_CTRL.READY of page `p`. -/
def State.stageReady (s : State) (p : Nat) : Bool :=
  s.rb (Reg.stageCtrl p) 1 && s.rb (Reg.ctrl p) 0 && s.pageUp p && !s.pageBusy p && (p != Page.fwgt || s.fwgtReady)

/-! ## The commit unit (R307–R309) -/

/-- EPOCH_STATUS takes a STATE and a LAST_ERR, and EPOCH_TICK the commit tick. -/
def epochState (st err tick : Nat) (s : State) : State :=
  setPair Reg.sysEpochTickLo tick (setRf Reg.sysEpochStatus 15 8 err (setRf Reg.sysEpochStatus 2 0 st s))

/-- A mask of pages over a LO word and the HI word above it (R309). -/
def setPages (a : Nat) (ps : List Nat) (s : State) : State :=
  setReg (a + 4) (wd (pageMask ps 32)) (setReg a (wd (pageMask ps 0)) s)

/-- A commit is requested with commit tick `C`, rounded up to a multiple of 8: the code of its refusal, and the state. -/
def commitAsk (tick : Nat) (s : State) : Nat × State :=
  let C := roundUp tick 8
  let M := C - s.marginFt
  if s.quiesced Page.lsp then (Err.modeAbort, s)
  else if s.commit.isSome then (Err.resourceBusy, s)
  else if M < s.now then (Err.late, irq Page.lsp 5 (epochState 4 Err.late C s))
  else (Err.none, setRf Reg.sysEpochStatus 2 0 1 { s with commit := some ⟨C, M, [], false⟩ })

/-- COMMIT_STEP (R295, R307): the step reaches the commit unit. A step issued late has been reported under R301 already. -/
def execCommitStep (k : PlayerIx) (s : State) : Host.Outcome State Fault Refusal :=
  .next (takeAny k 0xc (fun i s =>
    let t := passTo i.act s
    let r := commitAsk i.target t
    if r.1 = Err.none then r.2
    else if r.1 = Err.late then
      sif (decide (i.issued ≤ i.target - t.marginFt)) (stepLate k i.slot i.target (max t.now i.target)) r.2
    else if r.1 = Err.resourceBusy then sectionErr k i.slot r.1 (recErr Page.lsp r.1 0x3000 noIndex (irq Page.lsp 6 r.2))
    else stepRefused k i.slot r.1 i.index r.2) s)

/-- A write of LSP.COMMIT_CTRL (R307): GO requests a commit at COMMIT_TICK. -/
def commitCtrlWrite (ag : Agent) (w : Word) : State → State :=
  guarded ag Reg.lspCommitCtrl (fun s =>
    if !bit w 0 then s
    else
      let C := roundUp (s.regPair Reg.lspCommitTickLo) 8
      let r := commitAsk C s
      if r.1 = Err.none then r.2
      else if r.1 = Err.late then recLate Page.lsp (C - s.marginFt) s.now (irq Page.lsp 0 r.2)
      else if r.1 = Err.resourceBusy then recErr Page.lsp r.1 0x3000 noIndex r.2
      else recErr Page.lsp r.1 openDetail openDetail r.2)

/-- COMMIT_GO (R307). -/
def execCommitGo (ag : Agent) (w : Word) (s : State) : Host.Outcome State Fault Refusal := .next (commitCtrlWrite ag w s)

/-- The participants at the margin (R308): the pages whose ARM is 1. -/
def State.armed (s : State) : List Nat := (List.range 0x2c).filter (fun p => s.rb (Reg.stageCtrl p) 1)

/-- A commit with participants that are not ready is aborted (R146, R308). -/
def commitAbort (c : Commit) (bad : List Nat) (s : State) : State :=
  let t := forEach (bad.filter (fun p => s.pageUp p)) (fun p => recErr p Err.modeAbort openDetail openDetail) { s with commit := none }
  irq Page.lsp 5 (setPages Reg.sysEpochNotreadyLo bad (epochState 4 Err.modeAbort c.tick t))

/-- The margin M (R308): the participants are fixed and their READY sampled. -/
def commitMark (c : Commit) (s : State) : State :=
  let t := passTo c.margin s
  let ps := t.armed
  let bad := ps.filter (fun p => !t.stageReady p)
  if bad ≠ [] then commitAbort c bad t
  else setRf Reg.sysEpochStatus 2 0 2 { t with commit := some { c with pages := ps, issued := true } }

/-- A participant applies in epoch `n` (R146). -/
def pageApplied (n p : Nat) (s : State) : State :=
  stageReport p (setRf (Reg.stageCtrl p) 15 8 n (setRb (Reg.stageCtrl p) 1 false s))

/-- The commit tick (R146, R308, R309): every participant applies, a quiesced one for when it resumes; a commit without one leaves the
epoch number. -/
def commitAct (c : Commit) (s : State) : State :=
  let u := { passTo c.tick s with commit := none }
  let t := stagePages (c.pages.filter (fun p => !u.quiesced p)) (forEach (c.pages.filter u.quiesced) stageKeep u)
  let n := t.rf Reg.sysEpochStatus 31 16 + (if c.pages = [] then 0 else 1)
  irq Page.lsp 4 (setPages Reg.sysEpochAppliedLo c.pages (epochState 3 Err.none c.tick
    (setRf Reg.sysEpochStatus 31 16 n (forEach c.pages (pageApplied n) t))))

end Sys2Proof.Machine
end

