-- ==== Sys2Proof/Machine/Start.lean ====
section
/-! DEFINITION. Resets and the path to READY (03_startup_calibration, R73–R90, R93; 02_package_pins_power, R47–R50): the gate of CLK,
power-on, pin, software and clock-loss resets, the supervisors of VDDRF and VDDIO, the start sequence, and READY. -/

namespace Sys2Proof.Machine

/-! ## The gate of the return-band islands (R156) -/

/-- A write of CLK.GATE (R156). A radio on its way out of OFF is not OFF. -/
def clkGateWrite (ag : Agent) (w : Word) : State → State :=
  guarded ag Reg.clkGate (fun s =>
    if bit w 0 = s.rb Reg.clkGate 0 then s
    else if !bit w 0 then
      radioIdle s.now (irqLevel Page.clk 0 false (setRf Reg.clkRun 8 5 15 (setRb Reg.clkGate 0 false s)))
    else if s.rbState ≠ 0 then refusalErr Page.clk Err.modeAbort openDetail openDetail s
    else if s.holder 0x78 ≠ 0 then refusalErr Page.clk Err.resourceBusy (s.resEntry 0x78) 0x78 s
    else irqLevel Page.clk 0 true (setRf Reg.clkRun 8 5 0 (setRb Reg.clkGate 0 true (radioOff s.now s))))

/-- CLK_GATE_RB_OFF (R156). -/
def execClkGateRbOff (ag : Agent) (s : State) : Host.Outcome State Fault Refusal := .next (clkGateWrite ag 1 s)
/-- CLK_GATE_RB_ON (R156). -/
def execClkGateRbOn (ag : Agent) (s : State) : Host.Outcome State Fault Refusal := .next (clkGateWrite ag 0 s)

/-! ## Resets of the whole device (R86–R90) -/

/-- What a system or power-on reset leaves (R86): RST.CAUSE, MRAM, the panel tag but for its wired accesses, the test access
port, and of the memory all but the sessions and the password bytes of exchanges (R377). A record write under way leaves its copy failing (R85); a field command that the panel tag
serves goes on to its end, counted from the FTB that starts anew (R89). -/
def resetTo (cause : Word) (b : BootSt) (s : State) : State :=
  let kept := recCut (forget sessBase (sessBase + 0xc000) (wipeAll s))
  setReg Reg.rstCause cause
    { mem := kept.mem
      boot := b
      nvm := { kept.nvm with
        boots := s.nvm.boots + 1, active := s.nvm.nextActive.getD s.nvm.active, nextActive := none, header := none }
      tag := { s.tag with waiting := [], pwValue := 0, cmd := s.tag.cmd.map (fun f => { f with ends := f.ends - s.now }) }
      tap := s.tap
      free := s.free
      dataOut := s.dataOut
      pending := s.pending }

/-- Whether the reference oscillator runs: a reset that RESET_N holds leaves it running (R44). -/
def State.oscRuns (s : State) : Bool := s.boot.oscWarm || s.boot.phase == .pinHeld || (s.started && !s.pwr.ftbOff)

/-- A system reset with its bit of RST.CAUSE (R86): the reference choice, the strap and, except after CLOCK_LOSS, the running
oscillator are kept, and so are the words of the score store, whose slots are EMPTY. -/
def systemReset (k : Nat) (fullCal : Bool) (s : State) : State :=
  setReg Reg.pinmuxStrap (s.reg Reg.pinmuxStrap) (forEach (List.range 8) (fun k => modPlayer k (fun p => { p with emptied := true }))
    (resetTo (s.reg Reg.rstCause ||| wd (2 ^ k))
    { s.boot with
      phase := if s.boot.resetN then .waitRef else .pinHeld
      blocks := []
      oscWarm := decide (k ≠ 3) && s.oscRuns
      fullCal := fullCal
      wakeHeld := false
      porStart := false
      mgtDown := false
      plan := none } s))

/-- POR_RELEASE (R47, R48, R72): the strap and the reference are taken, and the start begins or waits for RESET_N. -/
def execPorRelease (gp15 refclkIn resetN : Bool) (s : State) : Host.Outcome State Fault Refusal :=
  .next (if s.boot.phase ≠ .powerOn then s
  else setReg Reg.pinmuxStrap (wd gp15.toNat) (modBoot (fun b => { b with
    phase := if resetN then .waitRef else .pinHeld
    vddrf := true, vddio := true, vaon := true, resetN := resetN, refclkIn := refclkIn }) s))

/-- CORE_SUPPLY_FAIL (R50, R86): VAON, VDDA or VDDC falls: a power-on reset, in which RAM loses its contents. -/
def execCoreSupplyFail (rail : CoreRail) (s : State) : Host.Outcome State Fault Refusal :=
  .next (match rail with
    | .vaon | .vdda | .vddc =>
      if s.boot.phase = .powerOn then s
      else resetTo 1 { vddrf := s.boot.vddrf, vddio := s.boot.vddio, vfld := s.boot.vfld, overvolt := s.boot.overvolt,
                       vaon := rail != .vaon && s.boot.vaon, resetN := s.boot.resetN }
        (forget scoreBase (scoreBase + 0x10000) (forget poolBase (poolBase + 0x20000) s)))

/-- RESET_N_ASSERT (R67, R86). -/
def execResetNAssert (s : State) : Host.Outcome State Fault Refusal :=
  .next (if !s.boot.resetN then s
  else
    let t := modBoot (fun b => { b with resetN := false }) s
    if s.boot.phase = .powerOn then t else systemReset 1 false t)

/-- RESET_N_RELEASE (R73, R74): the start begins; `wakeHeld` tells whether WAKE_N was low for 100 µs up to it. -/
def execResetNRelease (wakeHeld : Bool) (s : State) : Host.Outcome State Fault Refusal :=
  .next (if s.boot.resetN then s
  else modBoot (fun b => { b with
    resetN := true
    wakeHeld := if b.phase = .pinHeld ∨ b.phase = .powerOn then wakeHeld else b.wakeHeld
    phase := if b.phase = .pinHeld then .waitRef else b.phase }) s)

/-- The UPD page is the host's (R82, R138). -/
def updOpen (s : State) : State := setReg (Reg.owner Page.upd) 0 (setReg (Reg.ctrl Page.upd) 1 s)

/-- CLOCK_LOSS (R90): XREF, which ran, shows no transition for 2 AON cycles, at whatever point of the device's life. -/
def execClockLoss (s : State) : Host.Outcome State Fault Refusal :=
  .next (if s.oscRuns then systemReset 3 false s else s)

/-! ## Supervisors that reset a part (R50) -/

/-- Page `p` returns to its Reset values, but for registers that `keep` names. -/
def pageReset (p : Nat) (keep : Nat → Bool) (s : State) : State :=
  let f := fun (r : Nat × Word) => decide (r.1 / 0x1000 ≠ p) || keep r.1
  { s with regs := s.regs.filter f, shadow := s.shadow.filter f }

/-- The pages of the return band. -/
def rbPages : List Nat := [0x1f, 0x20, 0x21, 0x22, 0x23, 0x24]

/-- Voxtier's factory PA table (R331): TARGET from −20.0 to +14.0 dBm, in 0.25 dB. -/
def factoryPa : State → State :=
  forEach (List.range 32) (fun k => setRf (Reg.rbTxPa k) 31 24 (unsigned 8 (((272 * k + 31) / 62 : Nat) - 80 : Int)))

/-- "cal" fields are reloaded from Hollyhock's copy, as far as it has one (R92). -/
def calReload (p : Nat) (s : State) : State :=
  let t := s.mgt.calCopy.foldl (fun t x => if x.1 / 0x1000 = p then calPut x.1 (tabGet 0 s.mgt.calCopy x.1) t else t) s
  if 0x10 ≤ p ∧ p < 0x1c then capFollow (p - 0x10) t
  else if p = Page.rbAnt then modRadio (fun r => { r with tune := t.rf Reg.rbAntTune 3 0 }) t
  else t

/-- VDDRF_SUPERVISOR (R50, R86, R320): the return band goes to OFF, its exchanges end with MODE_ABORT, and its pages return to their Reset
values, calibration values kept, with the owner of READY (log entry 58). -/
def execVddrfSupervisor (s : State) : Host.Outcome State Fault Refusal :=
  .next (if !s.boot.vddrf then s
  else
    let t := modBoot (fun b => { b with vddrf := false }) s
    if s.boot.phase = .powerOn then t
    else
      let u := forEach rbPages (fun p => pageReset p (fun _ => false)) (radioOff t.now (radioAbort Err.modeAbort t.now t))
      let v := forEach rbPages calReload (modRx (fun _ => {}) (modRadio (fun r => { r with bins := [], everCal := false, tune := 0 }) (factoryPa u)))
      let x := (sif s.isReady (forEach rbPages (fun p y => setReg (Reg.owner p) 0 (setReg (Reg.ctrl p) 1 y))) v)
      supervisorReport 2 (fault 12 0xff 0 (setRb Reg.rstCause 7 true x)))

/-- VDDRF_SUPPLY_RECOVERY (R50, R325): the pages are there again, and an unclaimed radio goes from OFF to its idle state. -/
def execVddrfSupplyRecovery (s : State) : Host.Outcome State Fault Refusal :=
  .next (if s.boot.vddrf then s
  else
    let t := modBoot (fun b => { b with vddrf := true }) s
    sif t.isReady (radioIdle t.now) t)

/-- What an output ball presents (R44). -/
inductive Ball where
  | low
  | high
  | highZ
  /-- Its rail is below the supervisor's threshold: only the ESD structure. -/
  | unpowered
  /-- The bits of a console line (R477), or of a read transaction that QRDY holds (R103). -/
  | sends
  deriving DecidableEq, Repr

/-- The chain outputs (R44, R479): those of the host port with SYNC_OUT, the GP pins, MTX, RB_TUNE0–RB_TUNE3, QIO0–QIO3 and the I²C port's. -/
structure Balls where
  qrdy : Ball
  irqN : Ball
  holdN : Ball
  attnN : Ball
  syncOut : Ball
  gp : List Ball
  mtx : Ball
  tune : List Ball
  qio : List Ball
  tscl : Ball
  tsda : Ball
  deriving DecidableEq, Repr

/-- A ball that is high or low. -/
def Ball.of (b : Bool) : Ball := if b then .high else .low

/-- Whether no reset holds the RB_ANT page: neither one of the whole device, nor the supply of the return band, nor a block reset (R44). -/
def State.antRuns (s : State) : Bool := s.started && s.boot.vddrf && !s.boot.blocks.contains Page.rbAnt

/-- The level of SYNC_OUT (R44, R174): Low while the FTB page is in reset, that of the whole device or a block reset. -/
def State.syncBall (s : State) : Bool := s.started && !s.boot.blocks.contains Page.ftb && s.syncOut

/-- What chain output `i` presents while EXTEST or CLAMP drives it from the boundary register (R479). -/
def State.scanBall (s : State) (i : Nat) : Ball :=
  if s.tap.cells.getD (Config.enableCell i) false = Config.enableOn i then Ball.of (s.tap.cells.getD (Config.outCell i) false) else .highZ

/-- What open-drain chain output `i` presents then: it releases where it would be high (R44, R479). -/
def State.scanDrain (s : State) (i : Nat) : Ball := if s.scanBall i = .high then .highZ else s.scanBall i

/-- QIO0–QIO3 (R99, R102): high-impedance, but for the lines on which a read transaction that QRDY holds gives its words (log entry 154). -/
def State.qioBalls (s : State) : List Ball :=
  (List.range 4).map (fun k => match s.bus with
    | some (.read true _ _) => .sends
    | some (.read false _ _) | some .status => if k = 1 then .sends else .highZ
    | _ => .highZ)

/-- TSCL: low while the I²C port stretches it for a granule (R422), else released (R44). -/
def State.tsclBall (s : State) : Ball :=
  if s.tag.waiting.any (fun w => w.op.external && !w.op.view && w.need.isSome) then .low else .highZ

/-- The levels at the balls (R44, R50): the unpowered state while VDDIO is below its threshold, and the reset states while the HIF island is in
reset. -/
def State.balls (s : State) : Balls :=
  let tune := (List.range 4).map (fun k => Ball.of (s.antRuns && s.radio.tune.testBit k))
  let z := List.replicate 16 Ball.highZ
  if !s.boot.vddio then ⟨.unpowered, .unpowered, .unpowered, .unpowered, .unpowered, z, .unpowered, tune,
    List.replicate 4 .highZ, .highZ, .highZ⟩
  else if s.scanFloats then ⟨.highZ, .highZ, .highZ, .highZ, .highZ, z, .highZ, List.replicate 4 .highZ,
    List.replicate 4 .highZ, .highZ, .highZ⟩
  else if s.scanDrives then ⟨s.scanBall 0, s.scanBall 1, s.scanBall 2, s.scanBall 3, s.scanBall 4, (List.range 16).map (fun g => s.scanBall (10 + g)),
    s.scanBall 5, (List.range 4).map (fun k => s.scanBall (6 + k)), (List.range 4).map (fun k => s.scanBall (26 + k)), s.scanDrain 30, s.scanDrain 31⟩
  else if !s.started then ⟨.low, .high, .low, .high, .low, z, .high, tune, List.replicate 4 .highZ, .highZ, .highZ⟩
  else ⟨Ball.of (s.hostUp && !s.viewHeld && s.bus.isNone), Ball.of (!(s.pwr.irqHeld.getD s.irqLow)), Ball.of (!s.queue.holdLow), Ball.of (!(s.pwr.attnHeld.getD s.queue.attnLow)),
    Ball.of s.syncBall, (List.range 16).map (fun g =>
      if s.rf (Reg.evfGpCfg g) 2 0 = 0 then .highZ else Ball.of (tabGet false s.fab.gpDrive g)),
    if s.rb Reg.dbgConsole 0 ∧ s.mgt.console ≠ [] then .sends else .high, tune,
    s.qioBalls, s.tsclBall, .highZ⟩

/-- VDDIO_SUPERVISOR (R50, R86): the HIF and I2T islands reset; the field, the radio and the queues are kept. -/
def execVddioSupervisor (s : State) : Host.Outcome State Fault Refusal :=
  .next (if !s.boot.vddio then s
  else
    let t := modBoot (fun b => { b with vddio := false }) s
    if s.boot.phase = .powerOn then t
    else
      let u := { pageReset Page.hif (fun _ => false) t with bus := none, tag := { t.tag with
        waiting := t.tag.waiting.filter (fun x => !x.op.external), i2cHeld := none, i2cAddr := 0, i2cBusy := false, i2cRefused := false } }
      supervisorReport 4 (fault 12 0xff 0 (setRb Reg.rstCause 6 true u)))

/-- VDDIO_SUPPLY_RECOVERY (R50): the host port is usable again. -/
def execVddioSupplyRecovery (s : State) : Host.Outcome State Fault Refusal := .next (modBoot (fun b => { b with vddio := true }) s)

/-! ## The start sequence (R74–R77, R79–R85) -/

/-- The populated coils: POP of a valid geometry record in the image store, all twelve without one (R75). -/
def State.populated (s : State) : Nat :=
  let good := fun i =>
    let r := s.recordAt i
    r.typ == 0x11 && s.recordOk r && (imageRegs r.typ r.target).any (fun l => imageOk r.typ l (s.payload r) r.len)
  match if s.setOk then (List.range s.records).find? good else none with
  | some i => fld ((s.payload (s.recordAt i)).getD 12 0) 11 0
  | none => 0xfff

/-- Step 3 finds no slot (R82): NO_IMAGE, with the UPD page the host's (R138) and the tag's port working; no step is left. -/
def noImage (s : State) : State :=
  fault 13 Page.rst 0 (irq Page.rst 1 (setReg (Reg.ctrl Page.tagc) 1 (updOpen
    (setRf Reg.rstBoot 31 24 3 (setRf Reg.rstBoot 2 0 4 (modBoot (fun b => { b with
      phase := .noImage, plan := b.plan.map (fun p => { p with main := [], rb := [] }) }) s))))))

/-- Steps 1 and 2 end (R75, R80): the reference has qualified, the islands run, the FTB starts from 0 and QRDY rises. The panel tag has gone on
with a field command meanwhile (R89). -/
def clocksLock (qualUs : Nat) (s : State) : State :=
  { modTime (fun t => { t with ftb := 0, measFrom := 0 }) (setReg Reg.clkRun 0x23ff (setReg Reg.clkRef
      (wd ((if s.boot.oscWarm then 0 else min 0xffff qualUs) * 65536 + 4 + (if s.boot.refclkIn then 2 else 1)))
      (modBoot (fun b => { b with phase := .starting, oscWarm := false }) s))) with
    tag := { s.tag with cmd := s.tag.cmd.map (fun f => { f with ends := f.ends - usToFt qualUs }) } }

/-- Hollyhock enables page `p` (R133). A QUIESCE or SNAP_ARM that the host has written stands, and QUIESCED with it (R135; log entry 57). -/
def pageOn (p : Nat) (s : State) : State :=
  setRb (Reg.ctrl p) 0 true (sif (!s.rb (Reg.ctrl p) 0 && s.rb (Reg.ctrl p) 1) (setRb (Reg.status p) 0 true) s)

/-- Hollyhock has enabled every page by the end of step 14 (R133); QUIESCE and SNAP_ARM stay as the host has written them (log entry 57). -/
def enablePages (s : State) : State := calKeep ((List.range 0x2c).map Reg.ctrl) (forEach (List.range 0x2c) pageOn s)

/-! ### The steps -/

/-- The greatest duration of a step, in µs (R75, R76); of step 8 for one coil. -/
def stepUs (k : Nat) : Nat :=
  match k with
  | 3 => 1500
  | 4 => 500
  | 6 => 3000
  | 7 => 4500
  | 8 => 1600
  | 9 => 6000
  | 10 => 3328
  | 11 => 1200
  | 12 => 500
  | 13 => 800
  | 16 => 200
  | 17 => 200
  | 18 => 100
  | _ => 1000

/-- How long step `k` takes, in ft. -/
def StartPlan.ft (p : StartPlan) (k : Nat) : Nat :=
  min (((p.meas.took.find? (fun x => x.1 == k)).map Prod.snd).getD (usToFt (stepUs k))) (usToFt (stepUs k))

/-- Changes the start sequence under way. -/
def modPlan (f : StartPlan → StartPlan) : State → State := modBoot (fun b => { b with plan := b.plan.map f })

/-- Hollyhock claims the units that a start calibrates (R37, R78), and releases them. -/
def startClaims (s : State) : State := forEach (List.range 12 ++ [0x78]) (fun i t => claimRes i 2 0 0 t) s
/-- The claims of the start end before READY. -/
def startReleases (s : State) : State := releaseAll (fun _ e => e / 4096 % 16 == 2) s

/-- Step 4 (R74): the firmware starts and decides between the full sequence and the short one. RST.BOOT.KIND of a start with an accepted record
that follows neither a power-on nor, with the oscillator running, a reset is Warm (DESIGN CHOICE, log entry 95). RST.BOOT.STATE becomes
CALIBRATING as this step ends, in a warm start too (DESIGN CHOICE, log entry 101). -/
def startDecide (p : StartPlan) (s : State) : State :=
  let r := checkRecord (readSensor 3 p.meas.vfldMv (forEach (List.range 3) (fun k => readSensor k (16 * p.meas.dieTemp)) s))
  let pop := s.populated
  let kind := if r.1.isNone then 0 else if s.boot.porStart then 2 else 1
  let t := setRf Reg.rstBoot 2 0 2 (setRf Reg.rstBoot 9 8 kind r.2)
  let main := if r.1.isSome then [(16, 0), (17, 0), (18, 0), (14, 0)]
    else (if p.again then [(16, 0)] else []) ++ [(5, 0), (6, 0), (7, 0)] ++ (bitsOf 12 pop).map (fun c => (8, c)) ++ [(13, 0), (14, 0), (15, 0)]
  startClaims (modPlan (fun p => { p with warm := r.1.isSome, pop := pop, main := (4, 0) :: main })
    (logAdd 0x01 Page.rst 1 (t.reg Reg.rstCause).toNat (t.reg Reg.rstBoot).toNat t))

/-- CAL.COIL_STATUS of the coils that are not populated. -/
def restShown (p : StartPlan) (s : State) : State :=
  forEach ((List.range 12).filter (fun c => !p.pop.testBit c)) (fun c => setCoilStatus c 3) s

/-- Step 17 (R76): the retained values apply, those of the return band for when it has its supply (R320). -/
def startApply (s : State) : State :=
  match s.record with
  | none => s
  | some r =>
    let a := calTemps (List.range 13) (some (48 * r.temp)) (recShow r (applyRetained r s))
    modRadio (fun x => { x with tune := a.rf Reg.rbAntTune 3 0 }) a

/-- Step 18 for coil `c` (R76, R84, R207): its mismatch at the retained code is recorded. -/
def checkCoil (p : StartPlan) (c : Nat) (s : State) : State :=
  let m := (measOf p.meas.cal c).check
  if p.low then notSwept c s
  else mmLoad c m.vpk m.ipk m.phase (setCoilStatus c 0 s)

/-- The lock on channel 31 of step 18 (R76, R326, R327): the three bands about the entry are searched, or the failure is counted. The radio is in
OFF again when the step ends. -/
def startLock (m : RadioMeas) (s : State) : State :=
  let t := addRf Reg.rbSynCnt 31 16 1 s
  if m.locked then
    publish 0xc8 s.now (irq Page.rbSyn 0 (publish 0xc9 s.now
      (setReg Reg.rbSynLastCal (wd (31 * 65536 + min 0xffff (min m.lockFt 11716)))
        (setReg (Reg.rbSynBand 31) (wd (2 ^ 31 + m.lockGain % 256 * 65536 + (s.bandFor 31 m.lockBand)))
          (modRadio (fun r => { r with everCal := true }) t)))))
  else recErrAs (some 8) Page.rbSyn Err.modeAbort 31 0 (irq Page.rbSyn 2 (addRf Reg.rbSynCnt 7 0 1 t))

/-- Step 18 (R76, R77): coils that the check finds off tune are swept before step 14, and a synthesiser that did not lock has steps 10–12 run. -/
def startCheck (p : StartPlan) (s : State) : State :=
  let l := bitsOf 12 p.pop
  let t := sif s.boot.vddrf (startLock p.meas.cal.radio) (restShown p (forEach l (checkCoil p) s))
  let off := l.filter (fun c => !p.low && (let m := (measOf p.meas.cal c).check
    let r := s.mmResult c m.vpk m.ipk m.phase
    s.detunedMm c r.1 r.2))
  let again := if s.boot.vddrf && !p.meas.cal.radio.locked then [(10, 0), (11, 0), (12, 0)] else []
  modPlan (fun p => { p with main := p.main.take 1 ++ off.map (fun c => (8, c)) ++ again ++ p.main.drop 1 }) t

/-- Step 13 (R75, R84): the Crocus baseline of every populated coil; coils skipped for want of VFLD keep their retained code, take their
baseline at Crocus's first sweep, and are shown NOT_SWEPT. -/
def startBaseline (p : StartPlan) (s : State) : State :=
  forEach (bitsOf 12 p.pop) (fun c t =>
    if t.crocus.reload.testBit c then t
    else if p.low then notSwept c t
    else loadBaseline c (measOf p.meas.cal c) t) s

/-- The turn of coil `c` in step 8 ends; when the last has, the values of all of them load, CAL.COIL_STATUS with them (R79, R83, R84). -/
def startSwept (p : StartPlan) (c : Nat) (s : State) : State :=
  let done := p.swept ||| 2 ^ c
  let skip := if p.low then p.skipped ||| 2 ^ c else p.skipped
  if (p.main.tail.head?.map Prod.fst) == some 8 then modPlan (fun q => { q with swept := done, skipped := skip }) s
  else
    restShown p <| forEach (bitsOf 12 done) (fun c t => if skip.testBit c then notSwept c t
      else calTemps [c] (some (48 * p.meas.dieTemp)) (sweepCoil c (measOf p.meas.cal c) t))
      (modPlan (fun q => { q with swept := 0, skipped := 0 }) s)

/-- What step `k` has done when it ends, of coil `c` in step 8 (R75–R77, R83–R85). Without VDDRF the whole return-band track is left out
(DESIGN CHOICE, log entry 101). -/
def stepEnd (p : StartPlan) (k c : Nat) (s : State) : State :=
  let m := p.meas.cal
  let die := some (48 * p.meas.dieTemp)
  match k with
  | 3 =>
    let t := bootSlot (if p.again then 2 else 4) s
    if t.rf Reg.rstBoot 5 4 = 0 then noImage t else modPlan (fun q => { q with main := q.main ++ [(4, 0)] }) t
  | 4 => startDecide p s
  | 5 =>
    modPlan (fun q => { q with rb := if s.boot.vddrf then [(9, 0), (10, 0), (11, 0), (12, 0)] else [], rbEnds := s.now + q.ft 9 })
      (setTrims 32 m.sens s)
  | 6 => forEach (List.range 12) (fun c => setTrims c [(measOf m c).adc]) s
  | 7 => calTemps (List.range 12) die (forEach (List.range 12) (fun c t =>
      setReg (Reg.coilCalGain c) (measOf m c).gain t) (sif (p.pop == 0) (restShown p) s))
  | 8 => startSwept p c s
  | 9 => setTrims 16 m.radio.interleave s
  | 10 => loadBands m.radio s
  | 11 => loadPaAerial m.radio s
  | 12 => calTemps [12] die (showFloor (modRx (fun x => { x with floorA := some m.radio.noise, ownA := false }) s))
  | 13 => startBaseline p s
  | 14 => startAuto (enablePages (loadStore (startReleases (factoryPa s))))
  | 15 => writeRecord p.meas.dieTemp p.meas.vfldMv s
  | 17 => startApply s
  | 18 => startCheck p s
  | _ => s

/-- The registers with "cal" fields that step `k` loads: Hollyhock has a copy of them from then on (R79, R92). -/
def stepCal (k : Nat) : List Nat :=
  if k = 7 ∨ k = 8 ∨ k = 13 then (List.range 12).flatMap coilCalRegs
  else if k = 10 ∨ k = 11 then radioCalRegs
  else if k = 14 ∨ k = 17 ∨ k = 18 then calRegs
  else []

/-- Step `k` has ended, and the calibrated values are kept. -/
def stepDone (p : StartPlan) (k c : Nat) (s : State) : State := calKeep (stepCal k) (stepEnd p k c s)

/-- Shows the steps in progress (R93). While step 13 waits for the return-band track STEP shows 13, and while steps 10–12 run alone in an
extended warm start it keeps the step before them (DESIGN CHOICE, log entry 101). -/
def stepsShown (s : State) : State :=
  match s.boot.plan with
  | none => s
  | some p =>
    let a := (p.main.head?.map Prod.fst).getD (s.rf Reg.rstBoot 31 24)
    let alone := decide (9 ≤ a ∧ a ≤ 12)
    setRf Reg.rstBoot 23 16 (if alone then a else (p.rb.head?.map Prod.fst).getD 0)
      (sif (!alone) (setRf Reg.rstBoot 31 24 a) s)

/-- Whether the main track waits for the return-band track: step 13 begins when both have ended (R75). -/
def StartPlan.mainWaits (p : StartPlan) : Bool := (p.main.head?.map Prod.fst) == some 13 && p.rb != []

/-- The coils that a step of the start drives: each has a field-on (R208). -/
def StartPlan.drives (p : StartPlan) : List Nat :=
  match p.main with
  | (8, c) :: _ => [c]
  | (18, _) :: _ => bitsOf 12 p.pop
  | _ => []

/-- The next step of the main track begins at the present tick. A coil of step 8 whose turn comes after VFLD was lost in the step is not swept,
though VFLD has returned (R84). -/
def mainBegins (s : State) : State :=
  let t := modPlan (fun p => { p with
    ends := s.now + p.ft ((p.main.head?.map Prod.fst).getD 0), low := !s.vfldOk || (p.skipped != 0) }) s
  stepsShown (forEach ((t.boot.plan.map StartPlan.drives).getD []) (fun c => modCoil c (fun x => { x with mmSeen := false })) t)

/-- Which track's step ends next, and at which tick: the return band's or, as `false`, the main one's. -/
def StartPlan.next (p : StartPlan) : Option (Bool × Nat) :=
  if p.rb ≠ [] ∧ (p.mainWaits ∨ p.rbEnds ≤ p.ends ∨ p.main = []) then some (true, p.rbEnds)
  else if p.main = [] then none
  else some (false, p.ends)

/-- The step that ends next ends, if it does by tick `until_`, and the one after it begins. -/
def startStep (until_ : Nat) (s : State) : State :=
  match s.boot.plan with
  | none => s
  | some p =>
    match p.next with
    | none => s
    | some (rb, t) =>
      if until_ < t then s
      else
        let u := passTo t s
        if rb then
          let v := modPlan (fun q => { q with rb := q.rb.tail, rbEnds := t + q.ft ((q.rb.tail.head?.map Prod.fst).getD 0) })
            (stepDone p ((p.rb.head?.map Prod.fst).getD 0) 0 u)
          if p.mainWaits ∧ p.rb.tail = [] then mainBegins v else stepsShown v
        else
          let h := p.main.headD (0, 0)
          mainBegins (modPlan (fun q => { q with main := q.main.tail }) (stepDone p h.1 h.2 u))

/-- The start sequence runs up to tick `until_`: at most 64 steps. -/
def startRun (until_ : Nat) (s : State) : State := (List.range 64).foldl (fun t _ => startStep until_ t) s

/-- REFERENCE_QUALIFIED (R75, R76, R80): the reference qualifies, the clocks lock, and step 3 begins; its steps end as the FTB passes their
ends, or as far as they are left when READY is reached. -/
def execReferenceQualified (qualUs : Nat) (m : StartMeas) (s : State) : Host.Outcome State Fault Refusal :=
  .next (if s.boot.phase ≠ .waitRef then s
  else mainBegins (modBoot (fun b => { b with plan := some { meas := m, main := [(3, 0)] } }) (clocksLock qualUs s)))

/-! ## The software reset (R86, R91, R93) -/

/-- A Hollyhock reset before READY (R86, R91): the pages of the MGT island and the claims of HOLLYHOCK are cleared, and steps 3, 4 and 16 run
before what is left of the start (DEDUCED, log entry 96). -/
def startAgain (s : State) : State :=
  let t := startReleases (mgtClear (recCut s))
  govern (mainBegins (modMgt (fun m => { m with trips := [], temps := [], selHeld := false, console := [], calHeld := [] })
    (setRb Reg.dbgWdog 0 false (modBoot (fun b => { b with
      phase := .starting, plan := b.plan.map (fun p => { meas := p.meas, main := [(3, 0)], again := true }) }) t))))

/-- Whether the firmware runs in the start sequence: from the end of step 3, and not halted (R75, R473). -/
def State.startRuns (s : State) : Bool :=
  s.boot.phase == .starting && !s.rb Reg.dbgWdog 0 && s.boot.plan.any (fun p => (p.main.head?.map Prod.fst) != some 3)

/-- A start that the watchdog's third trip has halted goes no further (R473). -/
def startHalt (s : State) : State := if s.rb Reg.dbgWdog 0 then modPlan (fun p => { p with main := [], rb := [] }) s else s

/-- WATCHDOG_TRIP (R469, R473): a service is missed, after READY or in a start; three trips within 10 s under confirmed firmware halt Hollyhock. -/
def execWatchdogTrip (pc : Nat) (s : State) : Host.Outcome State Fault Refusal :=
  .next (if s.mgtRuns then watchdog pc hhReset s
  else if s.startRuns then startHalt (watchdog pc startAgain s)
  else s)

/-- A write of RST.SW_RESET (R86, R91, R93): SYSTEM takes precedence (R470). -/
def swResetWrite (ag : Agent) (w : Word) : State → State :=
  hold ag Reg.rstSwReset w <| guarded ag Reg.rstSwReset (fun s =>
    if fld w 31 16 ≠ 0xa5c3 then refusalErr Page.rst Err.ownerDenied (writeInfo ag Reg.rstSwReset) 0 s
    else if bit w 0 then systemReset 2 (bit w 2) s
    else if !bit w 1 then s
    else if s.isReady then mgtReset s
    else sif s.started startAgain (setRb Reg.rstCause 5 true s))

/-- SW_RESET_SYSTEM (R86): a write with SYSTEM set and MGT clear. -/
def execSwResetSystem (ag : Agent) (w : Word) (s : State) : Host.Outcome State Fault Refusal :=
  .next (swResetWrite ag (setFld w 1 0 1) s)

/-- SW_RESET_MGT (R91): a write with MGT set and SYSTEM clear. -/
def execSwResetMgt (ag : Agent) (w : Word) (s : State) : Host.Outcome State Fault Refusal :=
  .next (swResetWrite ag (setFld w 1 0 2) s)

/-! ## READY (R78, R130, R192, R393, R466) -/

/-- What Hollyhock has set up when READY is reached: every page HOST's and enabled (R130, R133; log entry 57), the CVU channels of the engines
and of the link claimed, the secure channels, and Crocus's coils. -/
def bringUp (s : State) : State :=
  let a := enablePages (forEach (List.range 0x2c) (fun p => setReg (Reg.owner p) 0) s)
  let b := forEach (List.range 4) (fun n t => claimRes (0x60 + n) (4 + n) 0 0 (setRf (Reg.feCvu n) 2 0 n t)) a
  let c := forEach (List.range 4) (fun j => setRb (Reg.evfChCfg (60 + j)) 13 true ∘ setRf (Reg.evfChCfg (60 + j)) 15 14 1)
    (claimRes 0x64 3 0 4 b)
  calKeep (Reg.crocusSet :: (List.range 4).map Reg.feCvu ++ (List.range 4).map (fun j => Reg.evfChCfg (60 + j)))
    (setReg Reg.crocusSet (wd s.populated) c)

/-- READY (R78): the steps that are left end, and the start sequence is complete at `tick`. Without an image there is no READY (R82). -/
def execReady (tick : Nat) (s : State) : Host.Outcome State Fault Refusal :=
  let r := startRun (2 ^ 64) s
  .next (if s.boot.phase ≠ .starting ∨ s.rb Reg.dbgWdog 0 then s
  else if r.boot.phase ≠ .starting then r
  else
    let t := passTo tick (modBoot (fun b => { b with phase := .ready, plan := none }) r)
    let u := irq Page.rst 0 (setReg Reg.rstBootTime (loWord t.now) (setRf Reg.rstBoot 31 24 0xff (setRf Reg.rstBoot 2 0 3
      (setReg Reg.mboxState 0 (bringUp t)))))
    let v := mgtBack (logAdd 0x02 Page.rst 1 (u.reg Reg.rstBootFlags).toNat (u.reg Reg.rstBootTime).toNat u)
    settle (sif v.boot.vddrf (radioIdle v.now) v))

end Sys2Proof.Machine
end

