-- ==== Sys2Proof/Machine/Pages.lean ====
section
/-! DEFINITION. The common header (05_register_pages, R133–R144; 03_startup_calibration, R92): enable and quiesce with their boundaries
and releases, interrupts, locks, owners, errors, and the block reset. -/

namespace Sys2Proof.Machine

/-! ## Claims of a block (R92, R135) -/

/-- FEn's claims go: its coils stop and are free, and so are its other resources. -/
def feRelease (n : Nat) (s : State) : State :=
  let t := engineOff n (s.heldCoils n) s
  heldRefresh n (releaseAll (fun _ e => e / 4096 % 16 == 4 + n)
    (forEach (t.heldCoils n) (fun c u => modCoil c (fun x => { x with damped := false }) (coilLeaves n c u)) t))

/-- The claims of the block of page `p` are released. -/
def blockClaims (p : Nat) (s : State) : State :=
  if 0xc ≤ p ∧ p < 0x10 then feRelease (p - 0xc) s
  else if p = Page.lsp then
    let t := releaseAll (fun _ e => e / 4096 % 16 == 3) s
    sif (s.holder 0x78 == 3) (radioFreed 3) t
  else if p = Page.crocus then releaseAll (fun _ e => e / 4096 % 16 == 8) s
  else s

/-! ## Quiesce (R142–R144) -/

/-- Whether the block of page `p` stands at the boundary of its quiesce (R143, R241, R313, R400, R446). -/
def State.atBoundary (s : State) (p : Nat) : Bool :=
  if p = Page.fwgt then (List.range 4).all (fun n => (s.eng n).fade.isNone)
  else if p = Page.pwr ∨ p = Page.crocus then s.crocus.sweep.isNone
  else if p = Page.cvu then (List.range 8).all (fun c => !s.chanAt c)
  else if p = Page.lsp then (List.range 8).all (fun k => s.heldPlayer k)
  else if 0xc ≤ p ∧ p < 0x10 then (s.eng (p - 0xc)).exch.isNone && (s.eng (p - 0xc)).disc.isNone
  else if 0x10 ≤ p ∧ p < 0x1c then !s.coilOn (p - 0x10) && !(decide (4 ≤ s.holder (p - 0x10) ∧ s.holder (p - 0x10) ≤ 8))
  else if p = Page.tagc then s.tag.waiting.all (fun x => match x.op with
    | .i2cWrite _ _ _ => false
    | .i2cRead _ _ _ => false
    | _ => true)
  else if 0x1f ≤ p ∧ p < 0x25 then !s.radioBusy
  else if p = Page.mbox then s.mgt.job.isNone
  else if p = Page.upd then s.updState != 2
  else if p = Page.cal then s.mgt.cal.isNone
  else true

/-- Held events are discarded when EVF quiesces (R199). -/
def discardHeld (s : State) : State :=
  forEach (List.range 64) (fun n t =>
    if (t.limiter n).held.isSome then
      addRf Reg.evfDropCnt 31 16 1 (setLimiter n { t.limiter n with held := none } t)
    else t) s

/-- The logic cells quiesce (R187, R195): deliveries on their way to a cell input are dropped and counted, and what an output has held
so far counts no longer, for every input reads 0. -/
def cellsShut (s : State) : State :=
  let l := s.fab.tasks.filter (fun t => decide (0x48 ≤ t.input ∧ t.input < 0x88))
  addRf Reg.evfDropCnt 15 0 l.length (modFab (fun f => { f with cellSince := [], cellNext := [] }) (takeTasks l s))

/-- After QUIESCE of page `p` has changed, the channels of CVU follow it (R400). -/
def chqAll (p : Nat) (s : State) : State := if p = Page.cvu then forEach (List.range 8) chqFollow s else s

/-- What the block of page `p` does on its boundary. -/
def quiesceAct (p : Nat) (s : State) : State :=
  if p = Page.queue then settle s
  else if p = Page.evf then discardHeld s
  else if p = Page.evfLut then cellsShut s
  else if 0x10 ≤ p ∧ p < 0x1c then chainFollow (p - 0x10) s
  else if 0x1f ≤ p ∧ p < 0x25 then radioStandby s.now s
  else s

/-- QUIESCE_REACHED (R142): a requested quiesce reaches its boundary. -/
def execQuiesceReached (page : PageIx) (s : State) : Host.Outcome State Fault Refusal :=
  let p : Nat := page
  .next (if s.rb (Reg.ctrl p) 1 && s.rb (Reg.ctrl p) 0 && !s.rb (Reg.status p) 0 && s.pageUp p && s.atBoundary p then
    quiesceAct p (irq p 30 (setRb (Reg.status p) 0 true (sif (p == Page.evfLut) cellsNow s)))
  else s)

/-- The block of page `p`, released, takes up the work that waited (R144). -/
def resumeBlock (p : Nat) (s : State) : State :=
  if p = Page.queue then settle s
  else if p = Page.evfLut then cellsWake s
  else if p = Page.ftb then cadPublished (forEach (List.range 32) cmpResume s)
  else if p = Page.lsp then forEach (List.range 8) playerIdle s
  else if p = Page.fwgt then forEach (List.range 4) (fun n => swapNext n s.ccNow) s
  else if p = Page.cvu then chqAll p s
  else if 0xc ≤ p ∧ p < 0x10 then playerIdle (p - 0xc) s
  else if 0x10 ≤ p ∧ p < 0x1c then chainFollow (p - 0x10) s
  else if 0x1f ≤ p ∧ p < 0x25 then radioResume s.now s
  else if p = Page.mbox then mboxRelease s
  else if p = Page.log then (if s.mgt.selHeld then selServe s else s)
  else if p = Page.cal then calRelease s
  else s

/-- Page `p` is released: what a commit applied while it was quiesced takes effect (R146), and the block takes up the work that
waited. -/
def resume (p : Nat) (s : State) : State := resumeBlock p (stageResume p s)

/-- QUIESCE becomes `b` on an enabled page: a request, or the release of one (R142, R144). -/
def quiesceSet (p : Nat) (b : Bool) (s : State) : State :=
  let t := setRb (Reg.ctrl p) 1 b s
  if b = s.rb (Reg.ctrl p) 1 then s
  else if b then
    (if p = Page.lsp then forEach (List.range 8) playerIdle t
      else chqAll p t)
  else if s.rb (Reg.status p) 0 then resume p (freeSteps p (setRb (Reg.status p) 0 false t))
  else if p = Page.lsp ∨ p = Page.cvu ∨ (0x1f ≤ p ∧ p < 0x25) then resume p t
  else t

/-- A write of CTRL (R133–R135, R142, R144). EN is cleared only while QUIESCED; its rise sets QUIESCE. QUIESCE and SNAP_ARM of a word whose
clear of EN is refused take effect (log entry 102). -/
def ctrlWrite (ag : Agent) (p : Nat) (w : Word) : State → State :=
  let a := Reg.ctrl p
  hold ag a w <| guarded ag a (fun s =>
    let t := setRb a 2 (bit w 2) s
    if pageFixed p then t
    else if !s.rb a 0 then
      if bit w 0 then chqAll p (setRb (Reg.status p) 0 true (setRb a 1 true (setRb a 0 true t))) else setRb a 1 (bit w 1) t
    else if bit w 0 then quiesceSet p (bit w 1) t
    else if s.rb (Reg.status p) 0 then blockClaims p (setRb a 1 (bit w 1) (setRb a 0 false t))
    else quiesceSet p (bit w 1) (refusalErr p Err.notQuiesced (writeInfo ag a) 0 t))

/-- QUIESCE_REQUEST (R142): a write of QUIESCE, the other bits as they stand. -/
def execQuiesceRequest (ag : Agent) (page : PageIx) (s : State) : Host.Outcome State Fault Refusal :=
  .next (ctrlWrite ag page (setBit (s.reg (Reg.ctrl page)) 1 true) s)
/-- QUIESCE_RELEASE (R144): QUIESCE is cleared, the other bits as they stand. -/
def execQuiesceRelease (ag : Agent) (page : PageIx) (s : State) : Host.Outcome State Fault Refusal :=
  .next (ctrlWrite ag page (setBit (s.reg (Reg.ctrl page)) 1 false) s)
/-- BLOCK_DISABLE (R135): EN is cleared, the other bits as they stand. -/
def execBlockDisable (ag : Agent) (page : PageIx) (s : State) : Host.Outcome State Fault Refusal :=
  .next (ctrlWrite ag page (setBit (s.reg (Reg.ctrl page)) 0 false) s)
/-- BLOCK_ENABLE (R135): EN is set, the other bits as they stand. -/
def execBlockEnable (ag : Agent) (page : PageIx) (s : State) : Host.Outcome State Fault Refusal :=
  .next (ctrlWrite ag page (setBit (s.reg (Reg.ctrl page)) 0 true) s)

/-! ## Interrupts (R136) -/

/-- The level sources of a page: those that a chapter says follow a condition or are set while one holds. -/
def levelMask (p : Nat) : Word :=
  if p = Page.clk then 1
  else if p = Page.queue then 3
  else if 0x10 ≤ p ∧ p < 0x1c then 0x40
  else if p = Page.fwgt then 8
  else if p = Page.tagc then 0x80
  else if p = Page.rbAnt then 2
  else if p = Page.sens then 4
  else 0

/-- A write of IRQ_SET: each bit acts as one occurrence of its source. -/
def irqSetWrite (ag : Agent) (p : Nat) (w : Word) : State → State :=
  hold ag (Reg.irqSet p) w <| guarded ag (Reg.irqSet p) (fun s =>
    setReg (Reg.irqStat p) (s.reg (Reg.irqStat p) ||| (w &&& s.reg (Reg.irqEn p)))
      (setReg (Reg.irqRaw p) (s.reg (Reg.irqRaw p) ||| (w &&& ~~~ levelMask p)) s))

/-- A write of IRQ_EN: a source enabled while its IRQ_RAW bit is 1 occurs. -/
def irqEnWrite (ag : Agent) (p : Nat) (w : Word) : State → State :=
  hold ag (Reg.irqEn p) w <| guarded ag (Reg.irqEn p) (fun s =>
    setReg (Reg.irqStat p) (s.reg (Reg.irqStat p) ||| (w &&& ~~~ s.reg (Reg.irqEn p) &&& s.rawNow p))
      (setReg (Reg.irqEn p) w s))

/-- A clear of IRQ_RAW or IRQ_STAT, exempt from the owner and lock checks (R139); level sources of IRQ_RAW do not clear. -/
def irqClearWrite (ag : Agent) (p a : Nat) (w : Word) : State → State :=
  hold ag a w <| secureGuard ag a (fun s =>
    setReg a (s.reg a &&& ~~~ (if a = Reg.irqRaw p then w &&& ~~~ levelMask p else w)) s)

/-- IRQ_SET_WRITE (R136). -/
def execIrqSetWrite (ag : Agent) (page : PageIx) (w : Word) (s : State) : Host.Outcome State Fault Refusal :=
  .next (irqSetWrite ag page w s)
/-- IRQ_EN_WRITE (R136). -/
def execIrqEnWrite (ag : Agent) (page : PageIx) (w : Word) (s : State) : Host.Outcome State Fault Refusal :=
  .next (irqEnWrite ag page w s)

/-! ## Locks, owners and errors (R137–R140) -/

/-- A write of LOCK (R137). -/
def lockWrite (ag : Agent) (p : Nat) (w : Word) : State → State :=
  let a := Reg.lock p
  hold ag a w <| guarded ag a (fun s =>
    if bit w 0 then setRb a 0 true s
    else if fld w 31 16 = 0xc35a then setRb a 0 false s
    else if s.rb a 0 then refusalErr p Err.ownerDenied (writeInfo ag a) 0 s
    else s)

/-- A write of OWNER (R138): the owner hands the page over; HOST takes one back from LARKSPUR with the key; Hollyhock's writes set
and clear SECURE too, whoever owns the page (log entry 86). -/
def ownerWrite (ag : Agent) (p : Nat) (w : Word) : State → State :=
  let a := Reg.owner p
  let agent := fld w 1 0
  hold ag a w <| fun s =>
    let reclaim := ag == .host && agent == 0 && fld w 31 16 == 0xc35a && s.rf a 1 0 == 2
    let own := s.rf a 1 0 == agentCode ag
    guardedBy (reclaim || own || ag == .hollyhock) ag a (fun t =>
      let u := sif (ag == .hollyhock) (setRb a 8 (bit w 8)) t
      if agent = 3 then refusalErr p Err.modeAbort openDetail openDetail t
      else if reclaim || own then setRf a 1 0 agent u else u) s

/-- A write of ERR_CODE (R140): CLR clears it and ERR_INFO, exempt from the owner and lock checks (R139). -/
def errCodeWrite (ag : Agent) (p : Nat) (w : Word) : State → State :=
  hold ag (Reg.errCode p) w <| secureGuard ag (Reg.errCode p) (fun s => if bit w 8 then setReg (Reg.errInfo p) 0 (setReg (Reg.errCode p) 0 s) else s)

/-- LOCK_WRITE (R137). -/
def execLockWrite (ag : Agent) (page : PageIx) (w : Word) (s : State) : Host.Outcome State Fault Refusal :=
  .next (lockWrite ag page w s)
/-- OWNER_WRITE (R138). -/
def execOwnerWrite (ag : Agent) (page : PageIx) (w : Word) (s : State) : Host.Outcome State Fault Refusal :=
  .next (ownerWrite ag page w s)
/-- ERR_CODE_CLR (R140): a write of CLR. -/
def execErrCodeClr (ag : Agent) (page : PageIx) (s : State) : Host.Outcome State Fault Refusal :=
  .next (errCodeWrite ag page 0x100 s)

/-! ## The block reset (R92) -/

/-- The pages that a block reset takes. -/
def blockResets (p : Nat) : Bool := decide (6 ≤ p ∧ p ≤ 9) || decide (0xb ≤ p ∧ p ≤ 0x24) || decide (p = 0x2a ∨ p = 0x2b)

/-- The registers that a block reset leaves: the strap, which holds until the next power-on reset (R47), and the PA table, whose
fields Hollyhock's copy gives back (R331). -/
def blockKeeps (a : Nat) : Bool := a == Reg.pinmuxStrap || decide (Reg.rbTxPa 0 ≤ a ∧ a ≤ Reg.rbTxPa 31)

/-- The internal state of the block of page `p` as a block reset leaves it; what the rules do not name of FTB it keeps, the last sync edge
with it (log entry 123). -/
def blockState (p : Nat) (s : State) : State :=
  if p = Page.evf then modFab (fun f => { cellSince := f.cellSince, cellNext := f.cellNext, cellLast := f.cellLast }) s
  else if p = Page.evfLut then modFab (fun f => { f with cellSince := [], cellNext := [], cellLast := [] }) s
  else if p = Page.ftb then
    modTime (fun t => { ftb := t.ftb, measFrom := t.ftb, snapWait := t.snapWait, snapReq := t.snapReq, syncJobs := t.syncJobs
                        lastSync := t.lastSync, lastOut := t.lastOut, lastPin := t.lastPin, localSnap := t.localSnap
                        latch := t.latch, targetLo := t.targetLo }) s
  else if p = Page.cvu then forEach ((List.range 8).map (0x60 + ·)) releaseRes { s with cvu := {} }
  else if p = Page.lsp then forEach (List.range 8) (fun k => modPlayer k (fun x => { flight := x.flight, emptied := true })) s
  else if 0xc ≤ p ∧ p < 0x10 then modEng (p - 0xc) (fun e => { fade := e.fade, swapTo := e.swapTo, discWait := e.discWait, discSec := e.discSec }) s
  else if 0x10 ≤ p ∧ p < 0x1c then setCoil (p - 0x10) {} s
  else if p = Page.fwgt then
    forEach (List.range 4) (fun n => modEng n (fun e => { e with fade := none, swapTo := none })) { s with gov := {} }
  else if p = Page.crocus then { s with crocus := {} }
  else if p = Page.tagc then { s with tag := { s.tag with
    waiting := s.tag.waiting.filter (fun w => w.op.external), pwValue := 0 } }
  else if p = Page.rbSyn then modRadio (fun r => { r with everCal := false }) (radioOff s.now s)
  else if p = Page.rbRx then modRx (fun x => { x with floorA := none, floorB := none, ownA := false, ownB := false }) s
  else if p = Page.rbTx then forEach (List.range 4) (fun g => modRadio (fun r => { r with binFrom := tabSet 0 r.binFrom g s.now })) (modRadio (fun r => { r with bins := [] }) s)
  else if p = Page.rbAnt then modRx (fun x => { x with inputB := false }) (modRadio (fun r => { r with tune := 0 }) s)
  else s

/-- A block reset starts: the page returns to its Reset values, quiesced and busy, with the "cal" fields of Hollyhock's copy, EN among them (R92,
R133). A halt of Hollyhock stands (R473). -/
def blockResetRun (p : Nat) (s : State) : State :=
  let a := sif (p == Page.fwgt) (fun t => forEach (List.range 4) (fun n => feCoilsInUse n 0) t) (sif (p == Page.evf) cellsNow s)
  let b := blockClaims p (sif (decide (0x20 ≤ p ∧ p ≤ 0x22)) (fun t => dropDec t.now (abortRx t.now t)) a)
  let c := calReload p (pageReset p blockKeeps (blockState p (dropStaged p
    (modBoot (fun x => { x with blocks := p :: x.blocks.filter (· != p) }) b))))
  let d := sif (p == Page.dbg) (setRb Reg.dbgWdog 0 (s.rb Reg.dbgWdog 0))
    (chqAll p (setReg (Reg.status p) 3 (setRb (Reg.ctrl p) 1 true c)))
  if p = Page.evfLut then forEach (List.range 16) (fun n t => gpFollow n (2 * t.now) t) d
  else if p = Page.evf then cellsWake d
  else if p = Page.fwgt then govern (forEach (List.range 4) heldRefresh d) else if 0x10 ≤ p ∧ p < 0x1c then govern d else d

/-- Whether a block reset of page `p` is held for a commit (R308, R313). -/
def State.resetHeld (s : State) (p : Nat) : Bool :=
  match s.commit with
  | none => false
  | some c => p == Page.lsp || (c.issued && c.pages.contains p)

/-- A block reset is asked for (R92). -/
def blockResetAsk (ag : Agent) (p : Nat) (w : Word) (s : State) : State :=
  if !blockResets p then refusalErr Page.rst Err.ownerDenied (writeInfo ag Reg.rstBlockRst) 0 s
  else if !s.quiesced p then refusalErr Page.rst Err.notQuiesced (writeInfo ag Reg.rstBlockRst) 0 s
  else if s.resetHeld p then pushHeld ag Reg.rstBlockRst w s
  else blockResetRun p s

/-- A write of RST.BLOCK_RST (R92, R93). -/
def blockRstWrite (ag : Agent) (w : Word) : State → State :=
  hold ag Reg.rstBlockRst w <| guarded ag Reg.rstBlockRst (fun s =>
    if fld w 31 16 ≠ 0xa5c3 then refusalErr Page.rst Err.ownerDenied (writeInfo ag Reg.rstBlockRst) 0 s
    else blockResetAsk ag (fld w 7 0) w s)

/-- BLOCK_RESET (R92). -/
def execBlockReset (ag : Agent) (w : Word) (s : State) : Host.Outcome State Fault Refusal := .next (blockRstWrite ag w s)

/-- BLOCK_RESET_DONE (R92, R93): RST.CAUSE shows that a block reset has run, STATUS.BUSY falls, and after READY Hollyhock gives the page to
HOST again (log entry 59); a page that Hollyhock has taken (R138) stays its own, and under a calibration busy with that (R97). -/
def execBlockResetDone (page : PageIx) (s : State) : Host.Outcome State Fault Refusal :=
  let p : Nat := page
  .next (if p ∉ s.boot.blocks then s
  else
    let t := setRb Reg.rstCause 8 true (modBoot (fun x => { x with blocks := x.blocks.filter (· != p) }) s)
    sif (s.isReady && s.taken.all (fun x => x.1 != p)) (setRf (Reg.owner p) 1 0 0)
      (setRb (Reg.status p) 1 (s.mgt.cal.any (fun j => j.owned.any (fun x => x.1 == p))) t))

end Sys2Proof.Machine
end

