-- ==== Sys2Proof/Machine/Bus.lean ====
section
/-! DEFINITION. The register write map (05_register_pages, R129–R156): what a write of a word by an agent to any address does, for every
page and every memory window, with the checks of R139 and the effects that each block's chapter gives its registers. -/

namespace Sys2Proof.Machine

/-- Whether an agent owns the page of address `a` (R139 check 3). -/
def State.ownsPage (s : State) (ag : Agent) (a : Nat) : Bool := s.rf (Reg.owner (a / 0x1000)) 1 0 == agentCode ag

/-- A write of a register without an effect of its own, which carries the bits `m`: its fields are stored (REGISTER_WRITE, R139). -/
def plainWrite (m : Word) (ag : Agent) (a : Nat) (w : Word) : State → State :=
  hold ag a w <| fun s => guardedFor m (s.ownsPage ag a) ag a (storeReg a w) s

/-- A write that is refused with MODE_ABORT when `bad` and stores its fields otherwise, with what follows. -/
def checkedWrite (m : Word) (ag : Agent) (a : Nat) (bad : Bool) (w : Word) (after : State → State) : State → State :=
  hold ag a w <| fun s => guardedFor m (s.ownsPage ag a) ag a (fun t =>
    if bad then refusalErr (a / 0x1000) Err.modeAbort openDetail openDetail t else after (storeReg a w t)) s

/-- Stores a HI word with the LO word that is held for it, if one is (R150). -/
def pairStore (a : Nat) (w : Word) (s : State) : State :=
  storeReg (a + 4) w (match tabGet none s.time.targetLo a with
    | none => s
    | some lo => storeReg a lo (dropLo a s))

/-! ## The common header (R133–R145) -/

/-- A write of a header register at offset `o` of page `p`. -/
def headerWrite (ag : Agent) (p o : Nat) (w : Word) : State → State :=
  let a := p * 0x1000 + o
  if o = 0x08 then ctrlWrite ag p w
  else if o = 0x0c then hold ag a w (guarded ag a (sif (bit w 2) (setRb a 2 false)))
  else if o = 0x10 ∨ o = 0x18 then irqClearWrite ag p a w
  else if o = 0x14 then irqEnWrite ag p w
  else if o = 0x1c then irqSetWrite ag p w
  else if o = 0x20 then lockWrite ag p w
  else if o = 0x24 then ownerWrite ag p w
  else if o = 0x28 then errCodeWrite ag p w
  else if o = 0x30 then stageCtrlWrite ag p w
  else if o = 0x00 ∨ o = 0x04 ∨ o = 0x2c then hold ag a w (guarded ag a id)
  else id

/-! ## The blocks' registers, page by page. `m` masks the bits that a WRITE step carries, `k` is its player and target tick. -/

/-- SYS, CLK, PWR, RST and HIF. -/
def sysWrite (m : Word) (ag : Agent) (a : Nat) (w : Word) : State → State :=
  if a = Reg.sysClaim then sysClaim ag w
  else if a = Reg.clkGate then clkGateWrite ag w
  else if a = Reg.pwrModeReq then modeReqWrite ag w
  else if a = Reg.rstSwReset then swResetWrite ag w
  else if a = Reg.rstBlockRst then blockRstWrite ag w
  else if a = Reg.hifCfg then hifCfgWrite ag w
  else plainWrite m ag a w

/-- QUEUE. -/
def queueWrite (m : Word) (ag : Agent) (a : Nat) (w : Word) : State → State :=
  if a = Reg.queueHoldMarks then marksWrite ag false w
  else if a = Reg.queueAttnMarks then marksWrite ag true w
  else if a = Reg.queueEvtMark then checkedWrite m ag a false w settle
  else if a = Reg.queueCntClr then queueCntClr ag w
  else if a = Reg.queueFlush then queueFlush ag w
  else plainWrite m ag a w

/-- EVF and EVF_LUT. -/
def evfWrite (m : Word) (ag : Agent) (k : StepOf) (a : Nat) (w : Word) : State → State :=
  let o := a % 0x1000
  if a = Reg.evfFire then fireWrite ag k w
  else if a = Reg.evfFireMaskLo then hold ag a w (secureGuard ag a (holdLo a w))
  else if a = Reg.evfFireMaskHi then fireMaskWrite ag k w
  else if a = Reg.evfChReclaim then chReclaim ag w
  else if a = Reg.evfCntClr then evfCntClr ag w
  else if a / 0x1000 = Page.evfLut then
    (if 0x40 ≤ o ∧ o < 0x140 ∧ o % 0x10 = 0 then cellCfgWrite ag ((o - 0x40) / 0x10) w else plainWrite m ag a w)
  else if 0x100 ≤ o ∧ o < 0x500 ∧ o % 0x10 = 0 then chCfgWrite ag ((o - 0x100) / 0x10) w
  else if 0x600 ≤ o ∧ o < 0xa00 then pubWrite ag ((o - 0x600) / 4) w
  else if 0xa00 ≤ o ∧ o < 0xc80 then subWrite ag ((o - 0xa00) / 4) w
  else if 0xd00 ≤ o ∧ o < 0xd40 then gpCfgWrite ag ((o - 0xd00) / 4) w
  else if a = Reg.evfGpOut then gpOutWrite ag w
  else plainWrite m ag a w

/-- A write of FTB.SYNC_CTRL (R174, R175): the enables are stored, and GO asks for an edge. -/
def syncCtrlWrite (m : Word) (ag : Agent) (w : Word) : State → State :=
  hold ag Reg.ftbSyncCtrl w <| fun s => guardedFor m (s.ownsPage ag Reg.ftbSyncCtrl) ag Reg.ftbSyncCtrl
    (fun t => sif (bit w 2) (ftbAct syncGo) (storeReg Reg.ftbSyncCtrl w t)) s

/-- FTB (R172). -/
def ftbWrite (m : Word) (ag : Agent) (a : Nat) (w : Word) : State → State :=
  let o := a % 0x1000
  let k := (o - 0x100) / 0x10
  let g := (o - 0x300) / 0x20
  if a = Reg.ftbSnapCtrl then (if bit w 0 then snapGoWrite ag else hold ag a w (guarded ag a id))
  else if a = Reg.ftbSyncCtrl then syncCtrlWrite m ag w
  else if 0x100 ≤ o ∧ o < 0x300 then
    (if o % 0x10 = 0 then cmpCtrlWrite ag k w
    else if o % 0x10 = 8 then hold ag a w (unitGuard ag (0x20 + k) a (holdLo a w))
    else if o % 0x10 = 0xc then cmpTargetWrite ag k w
    else plainWrite m ag a w)
  else if 0x300 ≤ o ∧ o < 0x400 then
    (if o % 0x20 = 0 then cadCtrlWrite m ag g w
    else if o % 0x20 = 4 then cadPeriodWrite ag g w
    else if o % 0x20 = 0xc then hold ag a w (unitGuard ag (0x40 + g) a (holdLo a w))
    else if o % 0x20 = 0x10 then hold ag a w (unitGuard ag (0x40 + g) a (pairStore (a - 4) w))
    else hold ag a w (unitGuard ag (0x40 + g) a (storeReg a w)))
  else if 0x400 ≤ o ∧ o < 0x440 then hold ag a w (unitGuard ag (0x48 + (o - 0x400) / 0x10) a (storeReg a w))
  else plainWrite m ag a w

/-- CVU and SESS (R401, R285). -/
def cvuWrite (m : Word) (ag : Agent) (a : Nat) (w : Word) : State → State :=
  let o := a % 0x1000
  let c := (o - 0x100) / 0x40
  let r := o % 0x40
  if a = Reg.cvuChq then chqWrite ag w
  else if a = Reg.cvuCntClr then cvuCntClr ag w
  else if a = Reg.sessCntClr then sessCntClr ag w
  else if a / 0x1000 = Page.sess ∨ o < 0x100 ∨ 0x300 ≤ o then plainWrite m ag a w
  else if r = 0 then cvuCfgWrite ag c w
  else if r = 0x04 ∨ r = 0x08 ∨ r = 0x0c then cvuParWrite ag c a w
  else if r = 0x10 then cvuCtrlWrite ag c w
  else if r = 0x14 then cvuDataWrite ag c w
  else if r = 0x18 then cvuRunWrite ag c w
  else cvuGuard ag c a (storeReg a w)

/-- LSP (R288, R314). -/
def lspWrite (m : Word) (ag : Agent) (a : Nat) (w : Word) : State → State :=
  let o := a % 0x1000
  let k := (o - 0x100) / 0x40
  let r := o % 0x40
  if a = Reg.lspCommitCtrl then commitCtrlWrite ag w
  else if a = Reg.lspCommitTickLo then guarded ag a (holdLo a w)
  else if a = Reg.lspCommitTickHi then guarded ag a (pairStore Reg.lspCommitTickLo w)
  else if a = Reg.lspCntClr then lspCntClr ag w
  else if a = Reg.lspClaim then lspClaim ag w
  else if o < 0x100 ∨ 0x300 ≤ o then plainWrite m ag a w
  else if r = 0 then plCtrlWrite ag k w
  else if r = 0x08 then plSlotWrite ag k 0 w
  else if r = 0x0c then plSlotWrite ag k 1 w
  else if r = 0x14 then plGuard ag k a (holdLo a w)
  else if r = 0x18 then plGuard ag k a (pairStore (a - 4) w)
  else plGuard ag k a (storeReg a w)

/-- A write of FEn.CVU (R259): CHAN claims its channel for the engine in place of the one it held; a disabled page claims none (R135). -/
def feCvuWrite (m : Word) (ag : Agent) (n : Nat) (w : Word) : State → State :=
  let a := Reg.feCvu n
  let c := 0x60 + fld w 2 0
  hold ag a w <| fun s => guardedFor m (s.ownsPage ag a) ag a (fun s =>
    if s.feHolds n c then storeReg a w s
    else if s.holder c ≠ 0 then refusalErr (Page.fe n) Err.resourceBusy (s.resEntry c) c s
    else pageWork (Page.fe n) (fun s =>
      let old := 0x60 + s.rf a 2 0
      storeReg a w (claimRes c (4 + n) 0 0 (sif (s.feHolds n old) (releaseRes old) s))) s) s

/-- FEn.PAUSE outside the ranges that the register's table gives. -/
def pauseBad (w : Word) : Bool :=
  decide (fld w 31 24 = 0 ∨ 15 < fld w 31 24 ∨ fld w 23 16 = 0 ∨ 31 < fld w 23 16 ∨ fld w 15 8 = 0 ∨ 63 < fld w 15 8 ∨
    fld w 7 0 = 0 ∨ 127 < fld w 7 0)

/-- FEn (R265). -/
def feWrite (m : Word) (ag : Agent) (n a : Nat) (w : Word) : State → State :=
  if a = Reg.feMode n then checkedWrite m ag a (decide (5 < fld w 3 0)) w id
  else if a = Reg.fePause n then checkedWrite m ag a (pauseBad w) w id
  else if a = Reg.feCvu n then feCvuWrite m ag n w
  else if a = Reg.feCntClr n then feCntClr ag n w
  else plainWrite m ag a w

/-- COILn (R223). -/
def coilWrite (m : Word) (ag : Agent) (n a : Nat) (w : Word) : State → State :=
  let o := a % 0x1000
  if a = Reg.coilMmCfg n then checkedWrite m ag a (decide (fld w 23 22 = 3)) w (safeFollow n)
  else if a = Reg.coilSenseCfg n then senseCfgWrite ag n w
  else if a = Reg.coilChainCtrl n then chainCtrlWrite ag n w
  else if a = Reg.coilThrCtrl n then thrCtrlWrite ag n w
  else if a = Reg.coilThrMagUpper n ∨ a = Reg.coilThrMagLower n ∨ a = Reg.coilThrPh n then thrMarkWrite ag n a w
  else if a = Reg.coilCntClr n then coilCntClr ag n w
  else if 0xa0 ≤ o ∧ o < 0xc0 ∧ o % 0x10 < 0xc then profWrite ag n ((o - 0xa0) / 0x10) (o % 0x10 / 4) w
  else if 0x400 ≤ o ∧ o < 0x500 then checkedWrite m ag a false w (govern ∘ toCc)
  else plainWrite m ag a w

/-- FWGT (R242). -/
def fwgtWrite (m : Word) (ag : Agent) (a : Nat) (w : Word) : State → State :=
  let o := a % 0x1000
  let n := (o - 0x100) / 0x100
  let r := o % 0x100
  if a = Reg.fwgtGovBudget ∨ a = Reg.fwgtGovCfg then checkedWrite m ag a false w govern
  else if a = Reg.fwgtCntClr then fwgtCntClr ag w
  else if 0x100 ≤ o ∧ o < 0x500 then
    (if r = 0x00 then feCoilsWrite ag n w
    else if r = 0x04 then feBankWrite ag n w
    else if 0x20 ≤ r ∧ r < 0x50 then weightWrite ag n 0 ((r - 0x20) / 4) w
    else if 0x60 ≤ r ∧ r < 0x90 then weightWrite ag n 1 ((r - 0x60) / 4) w
    else plainWrite m ag a w)
  else if 0x600 ≤ o ∧ o < 0x700 ∧ o % 0x10 = 8 then checkedWrite m ag a (decide (fld w 7 0 = 0xff)) w id
  else plainWrite m ag a w

/-- CROCUS and TAGC (R467, R425). -/
def tagWrite (m : Word) (ag : Agent) (a : Nat) (w : Word) : State → State :=
  if a = Reg.crocusCfg then crocusCfgWrite ag w
  else if a = Reg.crocusSet then crocusSetWrite ag w
  else if a = Reg.crocusBaseReq then crocusBaseReq ag w
  else if a = Reg.crocusCntClr then crocusCntClr ag w
  else if (tagcBytes a w).isSome then tagcConfigWrite ag a w
  else if a = Reg.tagcFieldWlock then tagcWlockWrite ag w
  else if a = Reg.tagcPwCtrl then tagcPwWrite ag w
  else if a = Reg.tagcPwValue then tagcPwValueWrite ag w
  else if a = Reg.tagcCntCtrl then tagcCntWrite ag w
  else if a = Reg.tagcCntClr then tagcCntClr ag w
  else plainWrite m ag a w

/-- The six return-band pages (R337–R339, R362–R364): DEF acts at once while the radio is unclaimed (R325), and a code at the tuner
follows at TUNE's own row. -/
def radioWrite (m : Word) (ag : Agent) (a : Nat) (w : Word) : State → State :=
  if a = Reg.rbSynReq then rbSynReqWrite ag w
  else if a = Reg.rbSynDef then
    checkedWrite m ag a (decide (4 < fld w 3 0 ∨ 4 < fld w 18 15)) w (fun s => radioIdle s.now s)
  else if a = Reg.rbSynCntClr then rbSynCntClr ag w
  else if a = Reg.rbRxCntClr then rbRxCntClr ag w
  else if a = Reg.rbDemCntClr then rbDemCntClr ag w
  else if a = Reg.rbDecCntClr then rbDecCntClr ag w
  else if a = Reg.rbTxCtrl then rbTxCtrlWrite ag w
  else if a = Reg.rbTxCntClr then rbTxCntClr ag w
  else if a = Reg.rbAntMode then checkedWrite m ag a (decide (fld w 1 0 = 3)) w fixInput
  else if a = Reg.rbAntMmCfg then checkedWrite m ag a (decide (fld w 23 22 = 3)) w id
  else if a = Reg.rbAntStatus then
    checkedWrite m ag a false w (fun s => irqLevel Page.rbAnt 1 (s.rb Reg.rbAntStatus 2) s)
  else if a = Reg.rbAntCntClr then rbAntCntClr ag w
  else plainWrite m ag a w

/-- MBOX, SENS, LOG, UPD, CAL, PINMUX and DBG. -/
def mgtWrite (m : Word) (ag : Agent) (a : Nat) (w : Word) : State → State :=
  if a = Reg.mboxReq ∨ (Reg.mboxArg 0 ≤ a ∧ a ≤ Reg.mboxArg 63) then mboxPlainWrite ag a w
  else if a = Reg.mboxCtrl then mboxCtrlWrite ag w
  else if a = Reg.sensThermCfg then thermCfgWrite ag w
  else if a = Reg.sensCntClr then sensCntClr ag w
  else if a = Reg.logSel then logSelWrite ag w
  else if a = Reg.logCtrl then logCtrlWrite ag w
  else if a = Reg.updTarget then updTargetWrite ag w
  else if a = Reg.updCtrl then updCtrlWrite ag w
  else if a = Reg.updData then updDataWrite ag w
  else if a = Reg.calReq then calReqWrite ag w
  else if a = Reg.dbgInject then injectWrite ag w
  else if a = Reg.dbgCntClrAll then cntClrAllWrite ag w
  else plainWrite m ag a w

/-- A write to the register that a row of page `p` lists at address `a`. -/
def rowWrite (m : Word) (ag : Agent) (k : StepOf) (a : Nat) (w : Word) : State → State :=
  let p := a / 0x1000
  if p ≤ 4 then sysWrite m ag a w
  else if p = 5 then queueWrite m ag a w
  else if p ≤ 7 then evfWrite m ag k a w
  else if p = 8 then ftbWrite m ag a w
  else if p ≤ 0xa then cvuWrite m ag a w
  else if p = 0xb then lspWrite m ag a w
  else if p ≤ 0xf then feWrite m ag (p - 0xc) a w
  else if p ≤ 0x1b then coilWrite m ag (p - 0x10) a w
  else if p = 0x1c then fwgtWrite m ag a w
  else if p ≤ 0x1e then tagWrite m ag a w
  else if p ≤ 0x24 then radioWrite m ag a w
  else mgtWrite m ag a w

/-! ## Every address -/

/-- A host write to a memory window (R132); an unmapped address takes none (R131). -/
def spaceWrite (a : Nat) (w : Word) : State → State :=
  if sessBase ≤ a ∧ a < sessBase + 0xc000 then windowWrite a (sessionRamWrite a w)
  else if (poolBase ≤ a ∧ a < poolBase + 0x20000) ∨ (imageBase ≤ a ∧ a < imageBase + 0x40000) then
    windowWrite a (refusalErr Page.sys Err.ownerDenied a 0)
  else if scoreBase ≤ a ∧ a < scoreBase + 0x10000 then windowWrite a (scoreWrite (a - scoreBase) w)
  else if tagBase ≤ a ∧ a < tagBase + 0x4000 then windowWrite a (viewAccess true (a - tagBase) w)
  else id

/-- Whether an address lies in the port windows of the QUEUE page (R106). -/
def isPort (a : Nat) : Bool := decide (0x5400 ≤ a ∧ a < 0x6000)

/-- A write of the word `w`, of which the bits `m` are carried, by an agent to byte address `a`; `k` is the player of a WRITE step,
with its target tick. Only the host reaches the windows (R106, R132); a reserved offset takes no write and no error, whatever the state
of its page (R9). -/
def busWrite (m : Word) (ag : Agent) (k : StepOf) (a : Nat) (w : Word) : State → State :=
  if !pageExists (a / 0x1000) then (if ag = .host then spaceWrite a w else id)
  else if isPort a then (if ag = .host ∧ a < 0x5800 then cmdPortWrite w else id)
  else if a % 0x1000 < 0x40 then headerWrite ag (a / 0x1000) (a % 0x1000) w
  else if (rowAt a).isNone then id
  else rowWrite m ag k a w

/-- REGISTER_WRITE (R139): at the word boundary below the address. -/
def execRegisterWrite (ag : Agent) (addr : Nat) (w : Word) (s : State) : Host.Outcome State Fault Refusal :=
  .next (busWrite (BitVec.allOnes 32) ag (0, none) (addr / 4 * 4) w s)

/-! ## WRITE steps (R296) -/

/-- The bits of a register that hold what was written to them, as a masked write keeps them: the fields of access type RW, RWL and
RWS, from the shadow where a write would go to it (R145). -/
def State.kept (s : State) (a : Nat) : Word :=
  let o := a % 0x1000
  if o < 0x40 then
    s.reg a &&& (if o = 0x08 then 7 else if o = 0x14 then BitVec.allOnes 32 else if o = 0x20 then 1 else if o = 0x24 then 3
      else if o = 0x30 then 0x13 else 0)
  else
    match rowAt a with
    | none => 0
    | some r =>
      ((s.tagcRead a).getD (if s.rb (Reg.stageCtrl (a / 0x1000)) 0 then s.merged a else s.reg a)) &&&
        r.maskOf (fun f => f.acc.stores)

/-- A masked write by player `k` (R296): the bits set in MASK take VALUE, and the others, in the shadow too, keep their value. -/
def maskedWrite (k : StepOf) (a data : Nat) (s : State) : State :=
  let m := wd (data / 2 ^ 32)
  let w := (s.kept a &&& ~~~ m) ||| (wd data &&& m)
  let t := busWrite m .larkspur k a w s
  if hasStaged a then setShade a ((t.shade a &&& (m ||| ~~~ stagedMask a)) ||| (s.shade a &&& ~~~ m &&& stagedMask a)) t else t

/-- The code with which a write is refused (R302): the one that the page, or SYS, would record as its first error. -/
def refusedBy (a : Nat) (eff : State → State) (s : State) : Option Nat :=
  let t := eff (setReg (Reg.errCode (a / 0x1000)) 0 (setReg (Reg.errCode Page.sys) 0 s))
  [t.rf (Reg.errCode (a / 0x1000)) 7 0, t.rf (Reg.errCode Page.sys) 7 0].find? (fun e =>
    e == Err.modeAbort || e == Err.swapRejected || e == Err.secureDenied || e == Err.ownerDenied || e == Err.notQuiesced)

/-- A WRITE step acts (R296): the masked write, and the report of its refusal (R302). -/
def stepWrite (x : StepWrite) (a : Nat) (s : State) : State :=
  let f := maskedWrite (x.player, some x.target) a x.data
  let t := f s
  match refusedBy a f s with
  | none => t
  | some e => stepRefused x.player x.slot e x.index t

/-- The register that a WRITE step names (R295). -/
def stepAddr (operand : Nat) : Nat := operand / 2 ^ 16 % 64 * 0x1000 + 4 * (operand % 1024)

/-- WRITE_STEP (R296, R299): on its tick, or as soon as its page has it, unless a commit holds it (R147). -/
def execWriteStep (k : PlayerIx) (s : State) : Host.Outcome State Fault Refusal :=
  .next (takeAny k 0xa (fun i s =>
    let a := stepAddr i.operand
    let x : StepWrite := ⟨k, i.index, i.target, i.data, i.slot⟩
    let t := passTo i.act s
    let u := sif (t.pageUp (a / 0x1000)) (stepActed k (a / 0x1000) i i.act i.act) t
    if t.holdsWrite .larkspur a then { u with heldWrites := u.heldWrites ++ [⟨.larkspur, a, 0, some x⟩] }
    else stepWrite x a u) s)

/-! ## Writes that a commit held (R147, R308) -/

/-- A held write takes effect. -/
def heldWrite (h : HeldWrite) : State → State :=
  match h.step with
  | none => busWrite (BitVec.allOnes 32) h.ag (0, none) h.addr h.w
  | some x => stepWrite x h.addr

/-- The held writes take effect in the order in which they came. -/
def giveHeld (s : State) : State := s.heldWrites.foldl (fun t h => heldWrite h t) { s with heldWrites := [] }

/-- Whether a held write is to the page of the block resets: a block reset, or a write that waits behind one (R149). -/
def HeldWrite.late (h : HeldWrite) : Bool := h.addr / 0x1000 == Page.rst

/-- After the commit tick `C` the held writes take effect, and the block resets on C + 1 (R308), to which the command moves the time when
there is one. -/
def giveAfter (C : Nat) (s : State) : State :=
  let l := s.heldWrites.filter HeldWrite.late
  let t := giveHeld { s with heldWrites := s.heldWrites.filter (fun h => !h.late) }
  if l = [] then t else giveHeld { passTo (C + 1) t with heldWrites := l ++ t.heldWrites }

/-- COMMIT_MARGIN (R308): the participants are fixed on M; an aborted commit holds nothing any longer. -/
def execCommitMargin (s : State) : Host.Outcome State Fault Refusal :=
  .next (match s.commit with
    | none => s
    | some c =>
      if c.issued then s
      else
        let t := commitMark c s
        if t.commit.isNone then giveHeld t else t)

/-- COMMIT_APPLY (R308): every participant applies on the commit tick, what the commit held takes effect after it, and held block resets
run on the tick after. -/
def execCommitApply (s : State) : Host.Outcome State Fault Refusal :=
  .next (match s.commit with
    | none => s
    | some c => if c.issued then giveAfter c.tick (commitAct c s) else s)

end Sys2Proof.Machine
end

