-- ==== Sys2Proof/Machine/Port.lean ====
section
/-! DEFINITION. What reads return (05_register_pages, R131–R152) and the host port's transactions (04_host_port_queues, R99–R107): the values
that registers show, reads with an effect of their own, register pairs, the windows, and bursts. -/

namespace Sys2Proof.Machine

/-! ## Values that registers show -/

/-- What a header register at offset `o` of page `p` shows (R133, R145); LIMITING of FWGT ends when g
has risen to 1,024 (R236). -/
def State.headerShows (s : State) (p o : Nat) : Word :=
  let w := s.reg (p * 0x1000 + o)
  if o = 0x0c then setBit (setBit w 1 (s.pageBusy p)) 0 (s.quiesced p && !pageFixed p)
  else if o = 0x10 then s.rawNow p
  else if o = 0x30 then (if pageStaged p then setBit w 2 (s.stageReady p) else 0)
  else w

/-- A page per bit, from page `base` on, that holds a set bit in IRQ_STAT (R126). -/
def State.irqSum (s : State) (base : Nat) : Word :=
  wd (((List.range 32).filter (fun k => pageExists (base + k) && s.reg (Reg.irqStat (base + k)) != 0)).map (fun k => 2 ^ k)).sum

/-- A LEVEL register of the QUEUE page (R128): items, of which one partly read is one still, and words. -/
def levelWord (items : List Item) (part : List Word) (words : Nat) : Word :=
  wd ((items.length + (part != []).toNat) * 65536 + words)

/-- PWR.MODE (R451): IDLE is reported in RUN with no coil driven and the radio in STANDBY, SLEEP or OFF. -/
def State.modeShows (s : State) : Nat :=
  if s.mode = 0 ∧ (List.range 12).all (fun c => !s.coilOn c) ∧ s.rbState ≤ 2 then 1 else s.mode

/-- RB_DEC.DEC_STATUS: while a packet is in progress SYMBOLS counts its data symbols, which the decoder takes as they come (R359, R364). -/
def State.decShows (s : State) (v : Word) : Word :=
  match s.rx.rx.filter (fun r => r.phase == 2), s.rx.dec with
  | some r, _ => setFld v 12 0 (min (nSym r.rate r.len) (((3 * s.now + 2) / 320 + 1 - (r.start + 160)) / 20))
  | none, some r => setFld v 12 0 (nSym r.rate r.len)
  | none, none => v

/-- What the registers that show a unit's present state read as; `v` is the word held. -/
def State.unitShows (s : State) (a : Nat) (v : Word) : Word :=
  let p := a / 0x1000
  let o := a % 0x1000
  let n := p - 0x10
  if a = Reg.hifIrqSum0 then s.irqSum 0
  else if a = Reg.hifIrqSum1 then s.irqSum 32
  else if a = Reg.pwrMode then wd s.modeShows
  else if a = Reg.queueCmdLevel then levelWord s.queue.cmd [] s.cmdFill
  else if a = Reg.queueResLevel then levelWord s.queue.res s.queue.resPart s.resFill
  else if a = Reg.queueEvtLevel then levelWord s.queue.evt s.queue.evtPart s.evtFill
  else if p = Page.evf ∧ 0x100 ≤ o ∧ o < 0x500 ∧ o % 0x10 = 0 then (if bit v 13 then setBit v 12 false else v)
  else if p = Page.ftb ∧ 0x300 ≤ o ∧ o < 0x400 ∧ o % 0x20 = 8 then wd (s.cadCount ((o - 0x300) / 0x20))
  else if 0xc ≤ p ∧ p < 0x10 ∧ o = 0x60 then
    (if fld v 10 8 = 2 ∧ s.now < (s.eng (p - 0xc)).air.start then setFld v 10 8 1 else v)
  else if 0x10 ≤ p ∧ p < 0x1c ∧ o = 0x48 then
    setBit (setBit (setFld (setFld v 19 16 (s.holder n)) 13 8 (s.entryInUse n)) 1 (s.vfldOk && !(s.coil n).injected)) 0 (s.coilOn n)
  else if 0x10 ≤ p ∧ p < 0x1c ∧ o = 0x40 then (if s.sweptNow.contains n then setFld v 7 0 (s.capCode n) else v)
  else if a = Reg.fwgtGovMeas then s.govMeas
  else if a = Reg.rbDecDecStatus then s.decShows v
  else if a = Reg.fwgtGovStatus then setBit (setFld v 26 16 s.govG) 31 (decide (s.govG < 1024))
  else if a = Reg.crocusStatus then setFld v 27 16 (maskOfCoils s.crocusHeld)
  else if p = Page.sens ∧ 0x100 ≤ o ∧ o < 0x160 then (if s.coilOn ((o - 0x100) / 8) then v else 0)
  else (s.tagcRead a).getD ((s.nvmRead a).getD v)

/-- Whether a read of address `a` reaches a register of a running page; PAGE_ID and PAGE_VER answer always (R131). -/
def State.answers (s : State) (a : Nat) : Bool := s.pageUp (a / 0x1000) || (pageExists (a / 0x1000) && decide (a % 0x1000 < 8))

/-- The word that the register at `a` shows: staged fields give the shadow with VIEW at 1 (R145). -/
def State.shows (s : State) (a : Nat) : Word :=
  if !s.answers a then 0
  else if a % 0x1000 < 0x40 then s.headerShows (a / 0x1000) (a % 0x1000)
  else s.unitShows a (if s.rb (Reg.stageCtrl (a / 0x1000)) 4 && hasStaged a then s.merged a else s.reg a)

/-! ## Register pairs (R150) -/

/-- Whether `a` is the LO word of a register pair. -/
def isPairLo (a : Nat) : Bool :=
  [Reg.sysEpochAppliedLo, Reg.sysEpochNotreadyLo, Reg.sysEpochTickLo, Reg.pwrWakeTickLo, Reg.ftbSnapLo, Reg.ftbSyncStampLo,
    Reg.lspCommitTickLo, Reg.crocusLastLo, Reg.tagcUidLo, Reg.rbDemStartLo, Reg.dbgFirstTickLo].contains a ||
  decide (Reg.ftbCmpTargetLo 0 ≤ a ∧ a < 0x8300 ∧ a % 0x10 = 8) || decide (0x8300 ≤ a ∧ a < 0x8400 ∧ a % 0x20 = 0xc) ||
  (decide (0xb100 ≤ a ∧ a < 0xb300) && [0x14, 0x1c, 0x30].contains ((a - 0xb100) % 0x40)) ||
  decide (0xc000 ≤ a ∧ a < 0x10000 ∧ a % 0x1000 = 0x68)

/-- A read of a LO word latches the HI word for the agent; a read of the HI word gives it and releases the latch. -/
def pairRead (ag : Agent) (a : Nat) (s : State) : Word × State :=
  if isPairLo a then (s.shows a, latchPair ag a (s.shows (a + 4)) s)
  else if isPairLo (a - 4) then ((s.latched ag (a - 4)).getD (s.shows a), unlatch ag (a - 4) s)
  else (s.shows a, s)

/-! ## The outputs of a chain (R215) -/

/-- The offsets that a read of OUT_I latches. -/
def outOffsets : List Nat := [0xc4, 0xc8, 0xcc, 0xd0, 0xd4]

/-- A read of an OUT register of the COIL page at `base`: OUT_I latches the others for the agent and OUT_TICK_HI releases them;
OUT_TICK is a pair too. The latch of OUT_TICK_LO is kept under the address above it, for that of the pair stands at its own. -/
def outRead (ag : Agent) (base o : Nat) (s : State) : Word × State :=
  let key := fun x => base + (if x = 0xd0 then 0xd4 else if x = 0xd4 then 0xd0 else x)
  let w := (s.latched ag (key o)).getD (s.shows (base + o))
  if o = 0xc0 then
    (s.shows (base + o), outOffsets.foldl (fun t x => latchPair ag (key x) (s.shows (base + x)) t) s)
  else if o = 0xd4 then (w, outOffsets.foldl (fun t x => unlatch ag (key x) t) s)
  else if o = 0xd0 ∧ (s.latched ag (key 0xd0)).isNone then (w, latchPair ag (key 0xd4) (s.shows (base + 0xd4)) s)
  else (w, s)

/-! ## Reads -/

/-- CLK.RUN (R156): HIF, I2T and TAG show a clock seen; the TAG clock is the field's, and whether I2T, or HIF for an agent that does
not use it, has seen one lately is open (log entry 64). -/
def runRead (ag : Agent) (s : State) : Word × State :=
  let v := s.freeVal
  (setBit (setBit (setBit (s.reg Reg.clkRun) 10 (if ag = .host then true else s.boot.vddio && v.testBit 1)) 11
    (s.boot.vddio && v.testBit 0)) 12 s.tag.field, nextFree s)

/-- A read of the register at `a` by an agent; pins and cells show what the time passed has brought (R193, R197). -/
def regRead (ag : Agent) (a : Nat) (r : State) : Word × State :=
  let p := a / 0x1000
  let s := sif (p == Page.evf || p == Page.evfLut) cellsNow r
  let o := a % 0x1000
  let c := (o - 0x400) / 0x10
  if !s.answers a then (0, s)
  else if a = Reg.clkRun then runRead ag s
  else if a = Reg.ftbFtbLo then ftbLoRead ag s
  else if a = Reg.ftbFtbHi then ftbHiRead ag s
  else if p = Page.ftb ∧ 0x400 ≤ o ∧ o < 0x440 ∧ o % 0x10 = 8 then capLoRead ag c s
  else if p = Page.ftb ∧ 0x400 ≤ o ∧ o < 0x440 ∧ o % 0x10 = 0xc then capHiRead ag c s
  else if 0x10 ≤ p ∧ p < 0x1c ∧ 0xc0 ≤ o ∧ o < 0xd8 then outRead ag (p * 0x1000) o s
  else pairRead ag a s

/-- The word at byte `a` of a window; record 0 of the session RAM and unmapped addresses read 0 (R131, R132). -/
def State.windowRead (s : State) (a : Nat) : Word :=
  if (sessBase + 192 ≤ a ∧ a < sessBase + 0xc000) ∨ (poolBase ≤ a ∧ a < poolBase + 0x20000) ∨
      (scoreBase ≤ a ∧ a < scoreBase + 0x10000) ∨ (imageBase ≤ a ∧ a < imageBase + 0x40000) then wd (s.mem32 a)
  else 0

/-- A word joins what the read in progress gives. -/
def giveWord (r : Word × State) : State := { r.2 with dataOut := r.2.dataOut ++ [r.1] }

/-- One word of a host read at address `a` (R106, R131, R132); a word of the tag view comes when the arbitration lets it. -/
def hostRead (a : Nat) (s : State) : State :=
  if pageExists (a / 0x1000) then
    giveWord (if !isPort a then regRead .host a s
      else if a < 0x5800 then (0, s)
      else if a < 0x5c00 then popRes s
      else popEvt s)
  else if tagBase ≤ a ∧ a < tagBase + 0x4000 then viewAccess false (a - tagBase) 0 s
  else giveWord (s.windowRead a, s)

/-- PAIR_LO_READ (R150): at the word boundary below the address. -/
def execPairLoRead (ag : Agent) (addr : Nat) (s : State) : Host.Outcome State Fault Refusal :=
  .next (if s.readsNow ag then giveOut [(regRead ag (addr / 4 * 4) s).1] (regRead ag (addr / 4 * 4) s).2 else s)

/-! ## Transactions (R99–R101) -/

/-- The address of the next word of a burst (R101): a port window continues at its start. Past 0xFF_FFFC the model goes on at 0, of which
the manual says nothing (log entry 87). -/
def burstNext (a : Nat) : Nat := if isPort a then a / 0x400 * 0x400 + (a + 4) % 0x400 else (a + 4) % 2 ^ 24

/-- Whether QRDY is high for the next word of a transaction (R105), which is read, or written to address `a`: reads wait for the host's held
writes (R149), the command port for a free word, UPD.DATA for its page (R446), and every word for an access to the memory view before it. -/
def State.wordGoes (s : State) (write : Bool) (a : Nat) : Bool :=
  s.hostUp && !s.viewHeld &&
    (if !write then s.readsNow .host
    else if isPort a && decide (a < 0x5800) then s.cmdRoom
    else !(a == Reg.updData && s.updShut))

/-- A transaction whose next word QRDY holds stays until it can go on; one that a reset of the port cuts off is gone (R103, R105). -/
def busHold (b : BusTx) (s : State) : State := if s.portTakes then { s with bus := some b } else s

/-- A read burst of `n` words from `a`, as far as QRDY lets them come. -/
def readBurst (quad : Bool) : Nat → Nat → State → State
  | 0, a, s => if s.viewHeld then busHold (.read quad a 0) s else s
  | n + 1, a, s =>
    if s.wordGoes false a then readBurst quad n (burstNext a) (hostRead a s) else busHold (.read quad a (n + 1)) s

/-- A write burst from `a`, as far as QRDY lets it go. -/
def writeBurst : List Word → Nat → State → State
  | [], a, s => if s.viewHeld then busHold (.write a []) s else s
  | w :: r, a, s =>
    if s.wordGoes true a then writeBurst r (burstNext a) (busWrite (BitVec.allOnes 32) .host (0, none) a w s)
    else busHold (.write a (w :: r)) s

/-- A read transaction, from the word boundary below the address sent (R101); one that QRDY held before it has ended (R103). -/
def qspiReads (quad : Bool) (addr count : Nat) (s : State) : State :=
  if s.portTakes then readBurst quad count (addr / 4 * 4) (giveOut [] (busEnd s)) else s

/-- A write transaction. -/
def qspiWrites (addr : Nat) (l : List Word) (s : State) : State :=
  if s.portTakes then writeBurst l (addr / 4 * 4) (busEnd s) else s

/-- A transaction that QRDY has held goes on as far as it can (R103). -/
def busGo (s : State) : State :=
  let t := { s with bus := none }
  match s.bus with
  | none => s
  | some (.read q a n) => readBurst q n a t
  | some (.write a l) => writeBurst l a t
  | some .status => if s.hostUp then giveOut [wd s.statusByte] t else s

/-- QSPI_READ (R99). -/
def execQspiRead (addr count : Nat) (s : State) : Host.Outcome State Fault Refusal := .next (qspiReads false addr count s)
/-- QSPI_WRITE (R99). -/
def execQspiWrite (addr : Nat) (l : List Word) (s : State) : Host.Outcome State Fault Refusal := .next (qspiWrites addr l s)
/-- QSPI_QREAD (R99): the same in quad phases. -/
def execQspiQread (addr count : Nat) (s : State) : Host.Outcome State Fault Refusal := .next (qspiReads true addr count s)
/-- QSPI_QWRITE (R99): the same in quad phases. -/
def execQspiQwrite (addr : Nat) (l : List Word) (s : State) : Host.Outcome State Fault Refusal := .next (qspiWrites addr l s)

end Sys2Proof.Machine
end

