-- ==== Sys2Proof/Machine/Wake.lean ====
section
/-! DEFINITION. The end of a wake (19_crocus_low_power, R457, R459): the restore step, with what happened while the islands were gated. -/

namespace Sys2Proof.Machine

/-- The events published while LSP was gated: one of each producer is kept, the later ones count as dropped (R459). -/
def keepOne : List Event → List Nat → List Event × Nat
  | [], _ => ([], 0)
  | e :: r, seen =>
    if seen.contains e.prod then ((keepOne r seen).1, (keepOne r seen).2 + 1)
    else (e :: (keepOne r (e.prod :: seen)).1, (keepOne r (e.prod :: seen)).2)

/-- The restore step delivers what was published while LSP was gated (R459). -/
def deliverGated (s : State) : State :=
  let r := keepOne s.fab.waiting []
  addRf Reg.evfDropCnt 15 0 r.2 (modFab (fun f => { f with waiting := s.pwr.before ++ r.1 }) s)

/-- The QUEUE page is released, unless its own CTRL.QUIESCE holds it (R457). -/
def queueFree (s : State) : State :=
  settle (if s.rb (Reg.ctrl Page.queue) 1 then s else setRb (Reg.status Page.queue) 0 false s)

/-- The management core after a wake (R457): from SLEEP it goes on, with the records and reports of what happened meanwhile (R50, R434); from WATCH it
restarts under R91. -/
def mgtWake (s : State) : State :=
  if s.pwr.cycles.isNone then supplyTold (logFlush s)
  else if s.pwr.target = 2 then modBoot (fun b => { b with mgtDown := true }) s
  else supplyTold (logFlush (setRf Reg.mboxState 1 0 s.pwr.mbox s))

/-- WAKE_RESTORE (R457, R463): the restore step, at a tick. A transaction of the host that waited goes on (R452). -/
def execWakeRestore (tick : Nat) (s : State) : Host.Outcome State Fault Refusal :=
  .next (if s.mode ≠ 5 ∨ s.fldRuns = false then s
  else
    let p := s.pwr
    let t := passTo tick s
    let u := irq Page.pwr 0 (addRf Reg.pwrCnt 31 16 1 (setPair Reg.pwrWakeTickLo p.wakeAt
      (setReg Reg.pwrWakeCause (t.reg Reg.pwrWakeCause ||| wd p.causes) (setMode 0 t))))
    let v := match p.cycles with
      | none => mgtWake u
      | some c => deliverGated (mgtWake (setReg Reg.pwrDur (wd (min 0xffffffff c)) u))
    let w := sif (p.causes.testBit 1) (publish 0xe0 t.now)
      (setRb Reg.crocusStatus 30 false (modCrocus (fun c => { c with onW := false }) v))
    busGo (cellsWake (forEach (List.range 8) playerIdle (queueFree (modPwr (fun _ => {}) w)))))

end Sys2Proof.Machine
end

