-- ==== Sys2Proof/Machine/Tick.lean ====
section
/-! DEFINITION. What passes while no command waits: one field tick of the time base (log entry 5). -/

namespace Sys2Proof.Machine

/-- One field tick with no command waiting: while the FLD island runs the FTB counts (R157): logic cells that are due evaluate (R193), a step of the start sequence may end (R75), a
chain's reset edge comes (R218, R219), the governor computes g at a carrier-cycle boundary while amplitudes move, and once more when they have come to rest (R234), a field command of
the panel tag whose reply has ended is over, a channel that is idle by now is quiesced where it is asked to be, a step, a reply or a packet that waited for its channel goes on and a DISCOVER
that waited starts (R260, R266, R400), and a staged STD reaches its boundary
(R243). A transaction of the host that QRDY held goes on when it can (R103). -/
def tick (s : State) : State :=
  if s.fldRuns then
    let a := cellsNow (passTo (s.now + 1) s)
    let b := sif (a.boot.phase == .starting) (startRun a.now) a
    let c := forEach (List.range 12) (fun n => chainEdge n b.now) b
    let d := sif (c.now % 8 == 0 && c.moving) govern c
    busGo (forEach d.serveOrder (fun n => stdSettle n ∘ engServe n) (linkServe (forEach (List.range 8) (fun c v => sif (v.chqAsked c && !v.rb Reg.cvuChq (16 + c)) (chqFollow c) v) (tagSettle d))))
  else s

end Sys2Proof.Machine
end

