-- ==== Sys2Proof/Machine/Dispatch.lean ====
section
/-! DEFINITION. What each command does: one arm per constructor of Instr, each a direct call of that command's meaning. -/

namespace Sys2Proof.Machine

/-- The effect of a command on everything but the queue of waiting commands. -/
def exec (i : Instr) (s : State) : Host.Outcome State Fault Refusal :=
  match i with
  | .qspiRead addr count => Sys2Proof.Machine.execQspiRead addr count s
  | .qspiWrite addr words => Sys2Proof.Machine.execQspiWrite addr words s
  | .qspiQread addr count => Sys2Proof.Machine.execQspiQread addr count s
  | .qspiQwrite addr words => Sys2Proof.Machine.execQspiQwrite addr words s
  | .qspiStatus => Sys2Proof.Machine.execQspiStatus s
  | .qspiUnknownCommand code => Sys2Proof.Machine.execQspiUnknownCommand code s
  | .qcsNRisePartialWord => Sys2Proof.Machine.execQcsNRisePartialWord s
  | .registerWrite ag addr w => Sys2Proof.Machine.execRegisterWrite ag addr w s
  | .pairLoRead ag addr => Sys2Proof.Machine.execPairLoRead ag addr s
  | .ftbLoRead ag => Sys2Proof.Machine.execFtbLoRead ag s
  | .cmdPortWrite w => Sys2Proof.Machine.execCmdPortWrite w s
  | .resPortRead => Sys2Proof.Machine.execResPortRead s
  | .evtPortRead => Sys2Proof.Machine.execEvtPortRead s
  | .sessionCreate => Sys2Proof.Machine.execSessionCreate s
  | .sessionDestroy => Sys2Proof.Machine.execSessionDestroy s
  | .sessionClosed slot => Sys2Proof.Machine.execSessionClosed slot s
  | .sessionPlace => Sys2Proof.Machine.execSessionPlace s
  | .sessionMigrate => Sys2Proof.Machine.execSessionMigrate s
  | .migrationComplete slot => Sys2Proof.Machine.execMigrationComplete slot s
  | .hfExchange => Sys2Proof.Machine.execHfExchange s
  | .rbExchange => Sys2Proof.Machine.execRbExchange s
  | .xbExchange => Sys2Proof.Machine.execXbExchange s
  | .discover => Sys2Proof.Machine.execDiscover s
  | .snap => Sys2Proof.Machine.execSnap s
  | .sync => Sys2Proof.Machine.execSync s
  | .mark => Sys2Proof.Machine.execMark s
  | .pendingCommandStart slot => Sys2Proof.Machine.execPendingCommandStart slot s
  | .resultHeldPost tick => Sys2Proof.Machine.execResultHeldPost tick s
  | .staleTimeout => Sys2Proof.Machine.execStaleTimeout s
  | .queueFlush ag w => Sys2Proof.Machine.execQueueFlush ag w s
  | .queueMarksWrite ag attn w => Sys2Proof.Machine.execQueueMarksWrite ag attn w s
  | .queueCntClr ag w => Sys2Proof.Machine.execQueueCntClr ag w s
  | .hifCntClr ag w => Sys2Proof.Machine.execHifCntClr ag w s
  | .sessionRamWrite addr w => Sys2Proof.Machine.execSessionRamWrite addr w s
  | .quiesceRequest ag page => Sys2Proof.Machine.execQuiesceRequest ag page s
  | .quiesceReached page => Sys2Proof.Machine.execQuiesceReached page s
  | .quiesceRelease ag page => Sys2Proof.Machine.execQuiesceRelease ag page s
  | .blockDisable ag page => Sys2Proof.Machine.execBlockDisable ag page s
  | .blockEnable ag page => Sys2Proof.Machine.execBlockEnable ag page s
  | .irqSetWrite ag page w => Sys2Proof.Machine.execIrqSetWrite ag page w s
  | .irqEnWrite ag page w => Sys2Proof.Machine.execIrqEnWrite ag page w s
  | .lockWrite ag page w => Sys2Proof.Machine.execLockWrite ag page w s
  | .ownerWrite ag page w => Sys2Proof.Machine.execOwnerWrite ag page w s
  | .errCodeClr ag page => Sys2Proof.Machine.execErrCodeClr ag page s
  | .stageApply ag page => Sys2Proof.Machine.execStageApply ag page s
  | .stageDiscard ag page => Sys2Proof.Machine.execStageDiscard ag page s
  | .sysClaim ag w => Sys2Proof.Machine.execSysClaim ag w s
  | .clkGateRbOff ag => Sys2Proof.Machine.execClkGateRbOff ag s
  | .clkGateRbOn ag => Sys2Proof.Machine.execClkGateRbOn ag s
  | .porRelease gp15 refclkIn resetN => Sys2Proof.Machine.execPorRelease gp15 refclkIn resetN s
  | .coreSupplyFail rail => Sys2Proof.Machine.execCoreSupplyFail rail s
  | .vddrfSupervisor => Sys2Proof.Machine.execVddrfSupervisor s
  | .vddioSupervisor => Sys2Proof.Machine.execVddioSupervisor s
  | .vfldFall => Sys2Proof.Machine.execVfldFall s
  | .vfldRise => Sys2Proof.Machine.execVfldRise s
  | .resetNAssert => Sys2Proof.Machine.execResetNAssert s
  | .resetNRelease wakeHeld => Sys2Proof.Machine.execResetNRelease wakeHeld s
  | .swResetSystem ag w => Sys2Proof.Machine.execSwResetSystem ag w s
  | .swResetMgt ag w => Sys2Proof.Machine.execSwResetMgt ag w s
  | .blockReset ag w => Sys2Proof.Machine.execBlockReset ag w s
  | .clockLoss => Sys2Proof.Machine.execClockLoss s
  | .referenceQualified qualUs m => Sys2Proof.Machine.execReferenceQualified qualUs m s
  | .ready tick => Sys2Proof.Machine.execReady tick s
  | .hollyhockRestart => Sys2Proof.Machine.execHollyhockRestart s
  | .calHfAdc ag w => Sys2Proof.Machine.execCalHfAdc ag w s
  | .calChannelGainPhase ag w => Sys2Proof.Machine.execCalChannelGainPhase ag w s
  | .calTunerSweep ag w => Sys2Proof.Machine.execCalTunerSweep ag w s
  | .calRbAdcInterleave ag w => Sys2Proof.Machine.execCalRbAdcInterleave ag w s
  | .calSynthBandTable ag w => Sys2Proof.Machine.execCalSynthBandTable ag w s
  | .calPaAerial ag w => Sys2Proof.Machine.execCalPaAerial ag w s
  | .calSensors ag w => Sys2Proof.Machine.execCalSensors ag w s
  | .calCrocusBaseline ag w => Sys2Proof.Machine.execCalCrocusBaseline ag w s
  | .calRecordWrite ag w => Sys2Proof.Machine.execCalRecordWrite ag w s
  | .calDone tick m skipped => Sys2Proof.Machine.execCalDone tick m skipped s
  | .driftCheck => Sys2Proof.Machine.execDriftCheck s
  | .snapGo src => Sys2Proof.Machine.execSnapGo src s
  | .snapCapture => Sys2Proof.Machine.execSnapCapture s
  | .compareArm k src => Sys2Proof.Machine.execCompareArm k src s
  | .compareTargetWrite ag k hi => Sys2Proof.Machine.execCompareTargetWrite ag k hi s
  | .compareFire k => Sys2Proof.Machine.execCompareFire k s
  | .cadenceRun g src => Sys2Proof.Machine.execCadenceRun g src s
  | .cadenceStop g src => Sys2Proof.Machine.execCadenceStop g src s
  | .cadenceWrap g => Sys2Proof.Machine.execCadenceWrap g s
  | .cadencePeriodChange ag g w => Sys2Proof.Machine.execCadencePeriodChange ag g w s
  | .captureEvent c => Sys2Proof.Machine.execCaptureEvent c s
  | .captureHiRead ag c => Sys2Proof.Machine.execCaptureHiRead ag c s
  | .syncGo src => Sys2Proof.Machine.execSyncGo src s
  | .syncEdge tick pin => Sys2Proof.Machine.execSyncEdge tick pin s
  | .aonMeasUpdate ft => Sys2Proof.Machine.execAonMeasUpdate ft s
  | .eventChannelEntry chan edge count => Sys2Proof.Machine.execEventChannelEntry chan edge count s
  | .limiterRelease chan => Sys2Proof.Machine.execLimiterRelease chan s
  | .evfFire ag k w => Sys2Proof.Machine.execEvfFire ag k w s
  | .evfFireMask ag k hi => Sys2Proof.Machine.execEvfFireMask ag k hi s
  | .evfChReclaim ag w => Sys2Proof.Machine.execEvfChReclaim ag w s
  | .cellOutputChange c edge => Sys2Proof.Machine.execCellOutputChange c edge s
  | .gpInputEdge n level tick => Sys2Proof.Machine.execGpInputEdge n level tick s
  | .gpEventOutput n => Sys2Proof.Machine.execGpEventOutput n s
  | .gpPulseEnd n => Sys2Proof.Machine.execGpPulseEnd n s
  | .gpOutWrite ag w => Sys2Proof.Machine.execGpOutWrite ag w s
  | .evfTaskIrq => Sys2Proof.Machine.execEvfTaskIrq s
  | .evfCntClr ag w => Sys2Proof.Machine.execEvfCntClr ag w s
  | .mmMeasurementDone c vpk ipk phase => Sys2Proof.Machine.execMmMeasurementDone c vpk ipk phase s
  | .driverCurrentLimit c => Sys2Proof.Machine.execDriverCurrentLimit c s
  | .tuneCodeApply c => Sys2Proof.Machine.execTuneCodeApply c s
  | .thetaRecompute c vfld => Sys2Proof.Machine.execThetaRecompute c vfld s
  | .chainOutput c samples => Sys2Proof.Machine.execChainOutput c samples s
  | .chainRestart ag n w => Sys2Proof.Machine.execChainRestart ag n w s
  | .profileChange ag n w => Sys2Proof.Machine.execProfileChange ag n w s
  | .coilCntClr ag n w => Sys2Proof.Machine.execCoilCntClr ag n w s
  | .coilSetAdd ag n coils => Sys2Proof.Machine.execCoilSetAdd ag n coils s
  | .coilSetRemove ag n coils => Sys2Proof.Machine.execCoilSetRemove ag n coils s
  | .coilRelease c => Sys2Proof.Machine.execCoilRelease c s
  | .bankSelWrite ag n bank => Sys2Proof.Machine.execBankSelWrite ag n bank s
  | .bankSwapEvent n => Sys2Proof.Machine.execBankSwapEvent n s
  | .xfadeEnd n => Sys2Proof.Machine.execXfadeEnd n s
  | .weightWrite ag n bank c w => Sys2Proof.Machine.execWeightWrite ag n bank c w s
  | .governorMeasure mw => Sys2Proof.Machine.execGovernorMeasure mw s
  | .fwgtCntClr ag w => Sys2Proof.Machine.execFwgtCntClr ag w s
  | .stepIssue k => Sys2Proof.Machine.execStepIssue k s
  | .fieldStep n => Sys2Proof.Machine.execFieldStep n s
  | .bankStep n => Sys2Proof.Machine.execBankStep n s
  | .txStep n => Sys2Proof.Machine.execTxStep n s
  | .rxwinStep n => Sys2Proof.Machine.execRxwinStep n s
  | .radioStep => Sys2Proof.Machine.execRadioStep s
  | .rbwinStep => Sys2Proof.Machine.execRbwinStep s
  | .rbtxStep => Sys2Proof.Machine.execRbtxStep s
  | .publishStep k => Sys2Proof.Machine.execPublishStep k s
  | .gpioStep k => Sys2Proof.Machine.execGpioStep k s
  | .writeStep k => Sys2Proof.Machine.execWriteStep k s
  | .snapStep k => Sys2Proof.Machine.execSnapStep k s
  | .commitStep k => Sys2Proof.Machine.execCommitStep k s
  | .nopStep k => Sys2Proof.Machine.execNopStep k s
  | .branchStep k => Sys2Proof.Machine.execBranchStep k s
  | .endStep k => Sys2Proof.Machine.execEndStep k s
  | .playerTrigger k => Sys2Proof.Machine.execPlayerTrigger k s
  | .playerStart ag k num => Sys2Proof.Machine.execPlayerStart ag k num s
  | .playerStop ag k => Sys2Proof.Machine.execPlayerStop ag k s
  | .playerHold ag k on => Sys2Proof.Machine.execPlayerHold ag k on s
  | .swapReq ag k => Sys2Proof.Machine.execSwapReq ag k s
  | .swapCancel ag k => Sys2Proof.Machine.execSwapCancel ag k s
  | .verify ag k => Sys2Proof.Machine.execVerify ag k s
  | .verifyDone k => Sys2Proof.Machine.execVerifyDone k s
  | .lspClaim ag w => Sys2Proof.Machine.execLspClaim ag w s
  | .scoreStoreWrite x0 w => Sys2Proof.Machine.execScoreStoreWrite x0 w s
  | .plSlotWrite ag k onB w => Sys2Proof.Machine.execPlSlotWrite ag k onB w s
  | .commitGo ag w => Sys2Proof.Machine.execCommitGo ag w s
  | .commitMargin => Sys2Proof.Machine.execCommitMargin s
  | .commitApply => Sys2Proof.Machine.execCommitApply s
  | .lspCntClr ag w => Sys2Proof.Machine.execLspCntClr ag w s
  | .hfTxEnd n => Sys2Proof.Machine.execHfTxEnd n s
  | .guardDone n => Sys2Proof.Machine.execGuardDone n s
  | .hfRxSof n tick ends low shape => Sys2Proof.Machine.execHfRxSof n tick ends low shape s
  | .hfRxEnd n r => Sys2Proof.Machine.execHfRxEnd n r s
  | .rxWindowClose n => Sys2Proof.Machine.execRxWindowClose n s
  | .feAbort n => Sys2Proof.Machine.execFeAbort n s
  | .fenCntClr ag n w => Sys2Proof.Machine.execFenCntClr ag n w s
  | .sessCntClr ag w => Sys2Proof.Machine.execSessCntClr ag w s
  | .rbSynReq ag w => Sys2Proof.Machine.execRbSynReq ag w s
  | .radioStateReached tick => Sys2Proof.Machine.execRadioStateReached tick s
  | .synthCalDone tick band gain => Sys2Proof.Machine.execSynthCalDone tick band gain s
  | .synthLock tick => Sys2Proof.Machine.execSynthLock tick s
  | .synthSearchTimeout => Sys2Proof.Machine.execSynthSearchTimeout s
  | .synthFullSearchFail => Sys2Proof.Machine.execSynthFullSearchFail s
  | .lockLoss tick => Sys2Proof.Machine.execLockLoss tick s
  | .txRampEnd => Sys2Proof.Machine.execTxRampEnd s
  | .txEnd => Sys2Proof.Machine.execTxEnd s
  | .txTailEnd => Sys2Proof.Machine.execTxTailEnd s
  | .testTxGo ag w => Sys2Proof.Machine.execTestTxGo ag w s
  | .testTxStop ag => Sys2Proof.Machine.execTestTxStop ag s
  | .testTxTimeout => Sys2Proof.Machine.execTestTxTimeout s
  | .aerialMmDone gamma phase => Sys2Proof.Machine.execAerialMmDone gamma phase s
  | .dutyBinAdvance g => Sys2Proof.Machine.execDutyBinAdvance g s
  | .antTuneApply => Sys2Proof.Machine.execAntTuneApply s
  | .rbSynCntClr ag w => Sys2Proof.Machine.execRbSynCntClr ag w s
  | .rbTxCntClr ag w => Sys2Proof.Machine.execRbTxCntClr ag w s
  | .rbAntCntClr ag w => Sys2Proof.Machine.execRbAntCntClr ag w s
  | .preambleDet d => Sys2Proof.Machine.execPreambleDet d s
  | .agcAttack power clip => Sys2Proof.Machine.execAgcAttack power clip s
  | .agcRelease => Sys2Proof.Machine.execAgcRelease s
  | .afcFreeze x => Sys2Proof.Machine.execAfcFreeze x s
  | .longTrainingSync x => Sys2Proof.Machine.execLongTrainingSync x s
  | .timingTimeout => Sys2Proof.Machine.execTimingTimeout s
  | .signalDecoded metrics => Sys2Proof.Machine.execSignalDecoded metrics s
  | .newerPreamble n => Sys2Proof.Machine.execNewerPreamble n s
  | .packetEnd => Sys2Proof.Machine.execPacketEnd s
  | .decodeEnd tick metrics => Sys2Proof.Machine.execDecodeEnd tick metrics s
  | .rbWindowClose => Sys2Proof.Machine.execRbWindowClose s
  | .noiseUpdated onB power => Sys2Proof.Machine.execNoiseUpdated onB power s
  | .rbRxAbort => Sys2Proof.Machine.execRbRxAbort s
  | .rbRxCntClr ag w => Sys2Proof.Machine.execRbRxCntClr ag w s
  | .rbDemCntClr ag w => Sys2Proof.Machine.execRbDemCntClr ag w s
  | .rbDecCntClr ag w => Sys2Proof.Machine.execRbDecCntClr ag w s
  | .cvuStart ag c w => Sys2Proof.Machine.execCvuStart ag c w s
  | .cvuEnd ag c w => Sys2Proof.Machine.execCvuEnd ag c w s
  | .cvuAbort ag c w => Sys2Proof.Machine.execCvuAbort ag c w s
  | .cvuData ag c w => Sys2Proof.Machine.execCvuData ag c w s
  | .cvuRunWrite ag c w => Sys2Proof.Machine.execCvuRunWrite ag c w s
  | .cvuCfgWrite ag c w => Sys2Proof.Machine.execCvuCfgWrite ag c w s
  | .cvuChqWrite ag w => Sys2Proof.Machine.execCvuChqWrite ag w s
  | .cvuCntClr ag w => Sys2Proof.Machine.execCvuCntClr ag w s
  | .tagFieldOn reserve => Sys2Proof.Machine.execTagFieldOn reserve s
  | .tagFieldLost => Sys2Proof.Machine.execTagFieldLost s
  | .tagReqa t => Sys2Proof.Machine.execTagReqa t s
  | .tagWupa t => Sys2Proof.Machine.execTagWupa t s
  | .tagAnticollision level known t => Sys2Proof.Machine.execTagAnticollision level known t s
  | .tagSelect level l t => Sys2Proof.Machine.execTagSelect level l t s
  | .tagHlta => Sys2Proof.Machine.execTagHlta s
  | .tagRats param t => Sys2Proof.Machine.execTagRats param t s
  | .tagPps cid dsi dri t => Sys2Proof.Machine.execTagPps cid dsi dri t s
  | .tagDeselect cid t => Sys2Proof.Machine.execTagDeselect cid t s
  | .apduSelect x => Sys2Proof.Machine.execApduSelect x s
  | .apduReadBinary x => Sys2Proof.Machine.execApduReadBinary x s
  | .apduUpdateBinary x => Sys2Proof.Machine.execApduUpdateBinary x s
  | .apduVerify x => Sys2Proof.Machine.execApduVerify x s
  | .apduChangeReferenceData x => Sys2Proof.Machine.execApduChangeReferenceData x s
  | .apduIncrementCounter x => Sys2Proof.Machine.execApduIncrementCounter x s
  | .apduReadCounter x => Sys2Proof.Machine.execApduReadCounter x s
  | .i2cWriteTransaction addr mem l first => Sys2Proof.Machine.execI2cWriteTransaction addr mem l first s
  | .i2cReadTransaction addr mem n first => Sys2Proof.Machine.execI2cReadTransaction addr mem n first s
  | .tagViewAccess write a w => Sys2Proof.Machine.execTagViewAccess write a w s
  | .wireGranule => Sys2Proof.Machine.execWireGranule s
  | .wireTimeout => Sys2Proof.Machine.execWireTimeout s
  | .tagcPwSet ag value w => Sys2Proof.Machine.execTagcPwSet ag value w s
  | .tagcCntInc ag w => Sys2Proof.Machine.execTagcCntInc ag w s
  | .tagcConfigWrite ag r w => Sys2Proof.Machine.execTagcConfigWrite ag r w s
  | .tagcFieldWlock ag w => Sys2Proof.Machine.execTagcFieldWlock ag w s
  | .tagcCntClr ag w => Sys2Proof.Machine.execTagcCntClr ag w s
  | .mboxGetVersion ag tag args => Sys2Proof.Machine.execMboxGetVersion ag tag args s
  | .mboxLogNote ag tag args => Sys2Proof.Machine.execMboxLogNote ag tag args s
  | .mboxCalibrate ag tag args => Sys2Proof.Machine.execMboxCalibrate ag tag args s
  | .mboxApplyRecord ag tag args => Sys2Proof.Machine.execMboxApplyRecord ag tag args s
  | .mboxCheckStore ag tag args => Sys2Proof.Machine.execMboxCheckStore ag tag args s
  | .mboxFwSwitch ag tag args => Sys2Proof.Machine.execMboxFwSwitch ag tag args s
  | .mboxFwConfirm ag tag args => Sys2Proof.Machine.execMboxFwConfirm ag tag args s
  | .mboxFwRevert ag tag args => Sys2Proof.Machine.execMboxFwRevert ag tag args s
  | .mboxTagUnlock ag tag args => Sys2Proof.Machine.execMboxTagUnlock ag tag args s
  | .mboxProtClear ag tag args => Sys2Proof.Machine.execMboxProtClear ag tag args s
  | .mboxUnknownCode ag code tag args => Sys2Proof.Machine.execMboxUnknownCode ag code tag args s
  | .mboxReply => Sys2Proof.Machine.execMboxReply s
  | .mboxNotify => Sys2Proof.Machine.execMboxNotify s
  | .sensorRefresh x => Sys2Proof.Machine.execSensorRefresh x s
  | .thermalLevelCheck => Sys2Proof.Machine.execThermalLevelCheck s
  | .protCapStep => Sys2Proof.Machine.execProtCapStep s
  | .hwTrip site temp => Sys2Proof.Machine.execHwTrip site temp s
  | .vfldOvervoltage => Sys2Proof.Machine.execVfldOvervoltage s
  | .supplyRangeReport rail mv => Sys2Proof.Machine.execSupplyRangeReport rail mv s
  | .logSelWrite ag w => Sys2Proof.Machine.execLogSelWrite ag w s
  | .logClear ag w => Sys2Proof.Machine.execLogClear ag w s
  | .updTargetWrite ag w => Sys2Proof.Machine.execUpdTargetWrite ag w s
  | .updBegin ag => Sys2Proof.Machine.execUpdBegin ag s
  | .updData ag w => Sys2Proof.Machine.execUpdData ag w s
  | .updVerify ag => Sys2Proof.Machine.execUpdVerify ag s
  | .updVerifyDone => Sys2Proof.Machine.execUpdVerifyDone s
  | .updAbort ag => Sys2Proof.Machine.execUpdAbort ag s
  | .trialTimeout => Sys2Proof.Machine.execTrialTimeout s
  | .watchdogTrip pc => Sys2Proof.Machine.execWatchdogTrip pc s
  | .sensCntClr ag w => Sys2Proof.Machine.execSensCntClr ag w s
  | .modeReqSleep ag w => Sys2Proof.Machine.execModeReqSleep ag w s
  | .modeReqWatch ag w => Sys2Proof.Machine.execModeReqWatch ag w s
  | .modeEntered => Sys2Proof.Machine.execModeEntered s
  | .wakeTimerExpiry tick => Sys2Proof.Machine.execWakeTimerExpiry tick s
  | .wakeDetect causes cycles tick => Sys2Proof.Machine.execWakeDetect causes cycles tick s
  | .ftbResume cycles => Sys2Proof.Machine.execFtbResume cycles s
  | .wakeRestore tick => Sys2Proof.Machine.execWakeRestore tick s
  | .crocusCoilClaim c => Sys2Proof.Machine.execCrocusCoilClaim c s
  | .crocusSweepStart gap tick => Sys2Proof.Machine.execCrocusSweepStart gap tick s
  | .crocusSweepEnd tick slots => Sys2Proof.Machine.execCrocusSweepEnd tick slots s
  | .crocusBaseReq ag w => Sys2Proof.Machine.execCrocusBaseReq ag w s
  | .crocusCntClr ag w => Sys2Proof.Machine.execCrocusCntClr ag w s
  | .dbgCntClrAll ag w => Sys2Proof.Machine.execDbgCntClrAll ag w s
  | .injectFieldLoss ag w => Sys2Proof.Machine.execInjectFieldLoss ag w s
  | .injectLockLoss ag w => Sys2Proof.Machine.execInjectLockLoss ag w s
  | .injectTemperature ag w => Sys2Proof.Machine.execInjectTemperature ag w s
  | .injectCvuMismatch ag w => Sys2Proof.Machine.execInjectCvuMismatch ag w s
  | .injectEnd kind => Sys2Proof.Machine.execInjectEnd kind s
  | .consoleLineSent => Sys2Proof.Machine.execConsoleLineSent s
  | .tapExtest cells => Sys2Proof.Machine.execTapExtest cells s
  | .tapSamplePreload cells => Sys2Proof.Machine.execTapSamplePreload cells s
  | .tapIdcode => Sys2Proof.Machine.execTapIdcode s
  | .tapClamp => Sys2Proof.Machine.execTapClamp s
  | .tapHighz => Sys2Proof.Machine.execTapHighz s
  | .tapBypass => Sys2Proof.Machine.execTapBypass s
  | .vddioSupplyRecovery => Sys2Proof.Machine.execVddioSupplyRecovery s
  | .vddrfSupplyRecovery => Sys2Proof.Machine.execVddrfSupplyRecovery s
  | .vfldOvervoltageClear => Sys2Proof.Machine.execVfldOvervoltageClear s
  | .surveyInputAlternate => Sys2Proof.Machine.execSurveyInputAlternate s
  | .testLogicReset => Sys2Proof.Machine.execTestLogicReset s
  | .blockResetDone page => Sys2Proof.Machine.execBlockResetDone page s
  | .logClearDone => Sys2Proof.Machine.execLogClearDone s

end Sys2Proof.Machine
end

