-- ==== Sys2Proof/Safety.lean ====
section
/-! DEFINITION. What counts as a sound state and what the claims are stated in: the canonical form, the conditions under which a
register takes a write, the delivery of an event to a task input, and what a command leaves unchanged. -/

namespace Sys2Proof.Machine

/-- The register file, the shadows and the memory are in the canonical form of Sparse. -/
def State.wf (s : State) : Bool :=
  Sparse.wf regReset s.regs && Sparse.wf regReset s.shadow && Sparse.wf memDefault s.mem

/-- A step that answers a next state is safe when that state is sound again. -/
def SafeStep (s : State) : Prop := ∃ t, step s = .next t ∧ t.wf = true

/-- A write by an agent reaches the page of address `a`: no commit holds it back (R147, R149), checks 1 and 2 of R139 pass, and for the host its
port is open (R105) and READY reached (R79). -/
abbrev State.reaches (s : State) (ag : Agent) (a : Nat) : Prop :=
  s.holdsWrite ag a = false ∧ (ag = .host → s.hostUp = true ∧ s.isReady = true) ∧ s.pageUp (a / 0x1000) = true ∧
    s.secureOut ag (a / 0x1000) = false

/-- Checks 4 and 5 of R139 on a write of the whole register at `a`. -/
abbrev State.unlocked (s : State) (a : Nat) : Prop :=
  (hasAcc (BitVec.allOnes 32) a .rwl && s.rb (Reg.lock (a / 0x1000)) 0) = false ∧
    (hasAcc (BitVec.allOnes 32) a .rws && !s.quiesced (a / 0x1000)) = false

/-- A register that a page lists above the common header, at its word address (R130). -/
def listedReg (a : Nat) : Bool := a % 4 == 0 && pageExists (a / 0x1000) && decide (0x40 ≤ a % 0x1000) && !isPort a && (rowAt a).isSome

/-- The pages whose registers belong to the page's owner alone: EVF, EVF_LUT, FTB and CVU have units and channels with owners of their own (R139, R190,
R172, R401). -/
def pageOwned (p : Nat) : Bool := !([Page.evf, Page.evfLut, Page.ftb, Page.cvu].contains p)

/-- The register at `a` takes a write of the whole word by an agent: every check of R139 passes. -/
abbrev State.takes (s : State) (ag : Agent) (a : Nat) : Prop :=
  s.reaches ag a ∧ s.rf (Reg.owner (a / 0x1000)) 1 0 = agentCode ag ∧ s.unlocked a

/-- The register at `a` of the unit that is resource `r` takes a write by the agent that holds the unit (R172, R309, R393). -/
abbrev State.unitTakes (s : State) (ag : Agent) (r a : Nat) : Prop :=
  s.reaches ag a ∧ s.holds ag r = true ∧ s.unlocked a

/-- An event `e` alone reaches task input `i`, whose block is neither quiesced nor disabled (R181, R187). -/
abbrev State.delivers (s : State) (i : Nat) (e : Task) : Prop :=
  s.gated = false ∧ s.arriving i = [e] ∧ s.quiesced (taskPage i) = false

/-- A host command item of type `typ` stands at the head of the command queue and is dispatched (R112). -/
abbrev State.dispatches (s : State) (typ : Nat) (i : Item) : Prop := s.headCmd typ = some i

/-- The mailbox takes a command of an agent: it runs none, the firmware is there, and the page is not quiesced (R427, R446). -/
abbrev State.mboxFree (s : State) (ag : Agent) : Prop :=
  s.takes ag Reg.mboxReq ∧ s.takes ag Reg.mboxCtrl ∧ s.mboxSt ≠ 1 ∧ s.mboxSt ≠ 3 ∧ s.quiesced Page.mbox = false

/-- An APDU with instruction `ins` reaches the tag whole, in blocks of its session, all but the last chaining on (R408). -/
def State.asks (s : State) (ins : Nat) (x : Apdu) : Bool :=
  x.ins == ins && x.blocks.dropLast.all (fun b => b.kind == .iMore) && x.blocks.getLast?.any (fun b => b.kind == .iLast) &&
    x.blocks.all (fun b => b.good && s.forTag b.cid)

/-- TAG, ERR and words of the mailbox command that runs. -/
def State.job (s : State) : Option (Nat × Nat × List Word) := s.mgt.job.map (fun j => (j.tag, j.err, j.words))

/-- Every byte of memory reads as before. -/
def SameBytes (s t : State) : Prop := ∀ a, t.byte a = s.byte a

/-- Every register outside the list reads as before. -/
def SameRegs (l : List Nat) (s t : State) : Prop := ∀ a, a ∉ l → t.reg a = s.reg a

/-- Every register outside the pages listed reads as before. -/
def SamePages (l : List Nat) (s t : State) : Prop := ∀ a, a / 0x1000 ∉ l → t.reg a = s.reg a

/-- Every byte of memory outside the `n` from `lo` on reads as before. -/
def SameBytesBut (lo n : Nat) (s t : State) : Prop := ∀ a, a < lo ∨ lo + n ≤ a → t.byte a = s.byte a

/-- Every byte of memory outside the ranges listed, each a first address and a length, reads as before. -/
def SameBytesOutside (l : List (Nat × Nat)) (s t : State) : Prop :=
  ∀ a, (∀ p ∈ l, a < p.1 ∨ p.1 + p.2 ≤ a) → t.byte a = s.byte a

/-- What the dispatch of an exchange of slot `k` writes in memory: the frames area of its context (R31) and the frame-pool blocks that
it reserves (R22). -/
def State.reserved (s : State) (k : Nat) : List (Nat × Nat) :=
  (ctxAddr k 0x60, 0x20) :: (s.freePool.take (s.frameMax k)).map (fun b => (poolBase + 512 * b, 512))

/-- Nothing but the registers listed has changed. -/
def OnlyRegs (l : List Nat) (s t : State) : Prop := SameRegs l s t ∧ SameBytes s t ∧ { t with regs := s.regs } = s

/-- The newest result of the result queue, or of those that wait to be posted (R23), has this TYPE, SEQ, handle, ERR and payload. -/
def State.posted (t : State) (typ seq handle err : Nat) (payload : List Word) : Bool :=
  let f := fun (x : Item) => x.typ == typ && x.seq == seq && x.handle == handle && x.err == err && x.payload == payload
  t.queue.res.getLast?.any f || t.queue.held.getLast?.any (fun h => f h.item)

/-- The registers in which a page reports an error (R140, R474). -/
def reportRegs (p : Nat) : List Nat :=
  [Reg.errCode p, Reg.errInfo p, Reg.irqRaw p, Reg.irqStat p, Reg.dbgFaultSum, Reg.dbgFirst, Reg.dbgFirstTickLo, Reg.dbgFirstTickHi,
    Reg.irqRaw Page.dbg, Reg.irqStat Page.dbg]

end Sys2Proof.Machine
end

