-- ==== Sys2Proof/Certificates/Slice0/Obligations.lean ====
section
/-! DEFINITION. The statements for the provers. Each cites the rules of the manual it formalises in OBLIGATIONS.json; a statement that
rests on a choice of the model says so. -/

open Sys2Proof Sys2Proof.Machine

/-! ## The block -/

/-- A step takes the command at the front of the queue and is exec of it on the state with the queue's rest. -/
def Obligations.StepRunsFrontCommand : Prop :=
  ∀ (s : State) (c : Instr) (r : List Instr), s.pending = c :: r → step s = exec c { s with pending := r }

/-- With no command waiting the field time base counts one tick while the FLD island runs (R157), and nothing happens otherwise. That
a step without a command is a tick is the model's choice (log entry 5). -/
def Obligations.IdleStepIsATick : Prop :=
  (∀ (s : State), s.pending = [] → s.fldRuns = true → s.now + 1 < 2 ^ 64 → ∃ t, step s = .next t ∧ t.now = s.now + 1) ∧
  (∀ (s : State), s.pending = [] → s.fldRuns = false → step s = .next s)

/-- The state right after reset: every register reads its Reset value, memory is as nothing has written it, nothing is queued, the
device is not READY, and the representation is sound. -/
def Obligations.ResetState : Prop :=
  State.reset.wf = true ∧ (∀ (a : Nat), State.reset.reg a = regReset a ∧ State.reset.byte a = memDefault a) ∧
    State.reset.pending = [] ∧ State.reset.queue.cmd = [] ∧ State.reset.queue.res = [] ∧ State.reset.queue.evt = [] ∧
    State.reset.isReady = false ∧ State.reset.hostUp = false ∧ State.reset.now = 0

/-- Every step keeps the representation sound: registers, shadows and memory stay in their canonical form. -/
def Obligations.StepKeepsSoundness : Prop :=
  ∀ (s t : State), s.wf = true → step s = .next t → t.wf = true

/-- A step takes one command out of the queue and no command puts one in or takes another out. -/
def Obligations.StepTakesOneCommand : Prop :=
  ∀ (s t : State), step s = .next t → t.pending = s.pending.tail

/-! ## The host port -/

/-- Reads over the host port: STATUS, the code of each command, a transaction whose first word QRDY holds, bursts from the memory windows
in single and quad phases, the LO words of register pairs and of the FTB, and CAPc_HI. That STATUS[4] and [5] count every word in the
queue (log entry 122), that a read of CAPc_HI by any agent ends the wait and clears VALID (entry 109), and how a held transaction stands
(entry 45), are the model's choice. -/
def Obligations.HostReadsComplete : Prop :=
  (∀ (s : State), s.hostUp = true → ∃ t, exec .qspiStatus s = .next t ∧
    t.dataOut.length = 1 ∧ bit (t.dataOut.headD 0) 0 = s.isReady ∧ bit (t.dataOut.headD 0) 1 = s.queue.holdLow ∧
      bit (t.dataOut.headD 0) 2 = s.queue.attnLow ∧ bit (t.dataOut.headD 0) 3 = s.irqLow ∧
      bit (t.dataOut.headD 0) 4 = decide (0 < s.resFill) ∧ bit (t.dataOut.headD 0) 5 = decide (0 < s.evtFill) ∧
      bit (t.dataOut.headD 0) 6 = decide (2048 ≤ s.cmdFill) ∧ (t.dataOut.headD 0).toNat < 128 ∧ { t with dataOut := s.dataOut } = busEnd s) ∧
  (∀ (a n : Nat) (l : List Word) (c : Byte), qspiCommand 0x0b a n l = .qspiRead a n ∧ qspiCommand 0x02 a n l = .qspiWrite a l ∧
    qspiCommand 0xeb a n l = .qspiQread a n ∧ qspiCommand 0x38 a n l = .qspiQwrite a l ∧ qspiCommand 0x05 a n l = .qspiStatus ∧
    (c ∉ [0x0b, 0x02, 0xeb, 0x38, 0x05] → qspiCommand c a n l = .qspiUnknownCommand c)) ∧
  (∀ (s : State) (a n : Nat), s.portTakes = true → (busEnd s).wordGoes false (a / 4 * 4) = false → 0 < n →
    exec (.qspiRead a n) s = .next { busEnd s with dataOut := [], bus := some (.read false (a / 4 * 4) n) } ∧
      exec (.qspiQread a n) s = .next { busEnd s with dataOut := [], bus := some (.read true (a / 4 * 4) n) }) ∧
  (∀ (s : State) (a n : Nat), s.readsNow .host = true → a % 4 = 0 →
    (sessBase + 192 ≤ a ∧ a + 4 * n ≤ sessBase + 0xc000) ∨ (poolBase ≤ a ∧ a + 4 * n ≤ poolBase + 0x20000) ∨
      (scoreBase ≤ a ∧ a + 4 * n ≤ scoreBase + 0x10000) ∨ (imageBase ≤ a ∧ a + 4 * n ≤ imageBase + 0x40000) →
    exec (.qspiRead a n) s = .next { busEnd s with dataOut := (List.range n).map (fun k => wd (s.mem32 (a + 4 * k))) } ∧
      exec (.qspiQread a n) s = .next { busEnd s with dataOut := (List.range n).map (fun k => wd (s.mem32 (a + 4 * k))) }) ∧
  (∀ (s : State) (ag : Agent) (a : Nat), s.readsNow ag = true → a % 4 = 0 → isPairLo a = true → s.answers a = true →
    ∃ t, exec (.pairLoRead ag a) s = .next t ∧ t.dataOut = [s.shows a] ∧ t.latched ag a = some (s.shows (a + 4)) ∧
      SameRegs [] s t ∧ SameBytes s t ∧ { t with dataOut := s.dataOut, time := s.time } = s) ∧
  (∀ (s : State) (ag : Agent), s.readsNow ag = true → ∃ t, exec (.ftbLoRead ag) s = .next t ∧
    t.dataOut = [loWord s.now] ∧ t.latched ag Reg.ftbFtbLo = some (hiWord s.now) ∧ t.now = s.now ∧ SameRegs [] s t ∧ SameBytes s t) ∧
  (∀ (s : State) (ag : Agent) (c : CapIx), s.readsNow ag = true → tabGet 0 s.time.capWait c = 0 →
    ∃ t, exec (.captureHiRead ag c) s = .next t ∧
      t.dataOut = [(s.latched ag (Reg.ftbCapLo c)).getD (s.reg (Reg.ftbCapHi c))] ∧ t.rb (Reg.ftbCapStatus c) 0 = false ∧
      tabGet false t.time.capLatched c = false ∧ SameRegs [Reg.ftbCapStatus c] s t ∧ SameBytes s t)

/-- The result and event ports: the rest of a partly read item first, then the header word of the item chosen, marked PROMOTED and counted
where age has raised its class; an empty port gives 0. -/
def Obligations.QueuePortReads : Prop :=
  (∀ (s : State) (w : Word) (r : List Word), s.readsNow .host = true → s.queue.resPart = w :: r →
    ∃ t, exec .resPortRead s = .next t ∧ t.dataOut = [w] ∧ t.queue.resPart = r ∧ t.queue.res = s.queue.res ∧
      SamePages [5] s t ∧ SameBytes s t) ∧
  (∀ (s : State) (i : Item), s.readsNow .host = true → s.queue.resPart = [] → s.choose = some i → s.effClass i = i.prio →
    ∃ t, exec .resPortRead s = .next t ∧ t.dataOut = [i.words.headD 0] ∧ t.queue.resPart = i.words.tail ∧
      t.queue.res = s.queue.res.erase i ∧ SamePages [5] s t ∧ SameBytes s t) ∧
  (∀ (s : State) (i : Item) (l : List Word), s.readsNow .host = true → s.queue.resPart = [] → s.choose = some i → i.prio < s.effClass i →
    l = ({ i with flags := i.flags ||| 0x40 } : Item).words →
    ∃ t, exec .resPortRead s = .next t ∧ t.dataOut = [i.words.headD 0] ∧ t.queue.resPart = l.tail ∧ bit (l.getD 1 0) 6 = true ∧
      t.rf Reg.queueLossCnt 31 16 = min 0xffff (s.rf Reg.queueLossCnt 31 16 + 1) ∧ t.rb Reg.queueNotice 4 = true ∧
      t.queue.res = s.queue.res.erase i ∧ SamePages [5] s t ∧ SameBytes s t) ∧
  (∀ (s : State), s.readsNow .host = true → s.queue.resPart = [] → s.queue.res = [] →
    exec .resPortRead s = .next { s with dataOut := [0] }) ∧
  (∀ (s : State) (w : Word) (r : List Word), s.readsNow .host = true → s.queue.evtPart = w :: r →
    ∃ t, exec .evtPortRead s = .next t ∧ t.dataOut = [w] ∧ t.queue.evtPart = r ∧ t.queue.evt = s.queue.evt ∧
      SamePages [5] s t ∧ SameBytes s t) ∧
  (∀ (s : State) (i : Item) (r : List Item), s.readsNow .host = true → s.queue.evtPart = [] → s.queue.evt = i :: r →
    ∃ t, exec .evtPortRead s = .next t ∧ t.dataOut = [i.words.headD 0] ∧ t.queue.evtPart = i.words.tail ∧ t.queue.evt = r ∧
      SamePages [5] s t ∧ SameBytes s t) ∧
  (∀ (s : State), s.readsNow .host = true → s.queue.evtPart = [] → s.queue.evt = [] →
    exec .evtPortRead s = .next { s with dataOut := [0] })

/-- The command port takes words: before READY they are discarded with BOOT_FLAGS[0]; a well-formed header and the words that follow
gather, and the last word completes the item with the tick of its acceptance. A second word with ERR or a flag other than AT set discards the
item, which is answered with its words' count when its last word has come. -/
def Obligations.CommandPortWrites : Prop :=
  (∀ (s : State) (w : Word), s.hostUp = true → s.isReady = false →
    ∃ t, exec (.cmdPortWrite w) s = .next t ∧ t.rb Reg.rstBootFlags 0 = true ∧ OnlyRegs [Reg.rstBootFlags] s t) ∧
  (∀ (s : State) (w : Word), s.hostUp = true → s.isReady = true → s.queue.swallow = 0 → s.queue.bad = none →
    s.queue.cmdPart = [] → s.cmdFill < 2048 → 4 ≤ headLen w → headLen w ≤ 1028 → isCommandType (headType w) = true →
    ∃ t, exec (.cmdPortWrite w) s = .next t ∧ t.queue.cmdPart = [w] ∧ t.queue.cmd = s.queue.cmd ∧ t.queue.res = s.queue.res ∧
      SamePages [5] s t ∧ SameBytes s t) ∧
  (∀ (s : State) (w h : Word) (r : List Word), s.hostUp = true → s.isReady = true → s.queue.swallow = 0 → s.queue.bad = none →
    s.queue.cmdPart = h :: r → r ≠ [] ∨ fld w 15 5 = 0 ∧ fld w 3 0 = 0 → s.cmdFill < 2048 → r.length + 2 < headLen h →
    ∃ t, exec (.cmdPortWrite w) s = .next t ∧ t.queue.cmdPart = h :: r ++ [w] ∧ t.queue.cmd = s.queue.cmd ∧
      SamePages [5] s t ∧ SameBytes s t) ∧
  (∀ (s : State) (w h : Word) (r : List Word), s.hostUp = true → s.isReady = true → s.queue.swallow = 0 → s.queue.bad = none →
    s.queue.cmdPart = h :: r → r ≠ [] → s.cmdFill < 2048 → r.length + 2 = headLen h →
    ∃ t, exec (.cmdPortWrite w) s = .next t ∧ t.queue.cmdPart = [] ∧ t.queue.cmd = s.queue.cmd ++ [itemOf (h :: r ++ [w]) s.now] ∧
      SamePages [5] s t ∧ SameBytes s t) ∧
  (∀ (s : State) (w h : Word), s.hostUp = true → s.isReady = true → s.queue.swallow = 0 → s.queue.bad = none →
    s.queue.cmdPart = [h] → fld w 15 5 ≠ 0 ∨ fld w 3 0 ≠ 0 → s.cmdFill < 2048 → 2 < headLen h →
    ∃ t, exec (.cmdPortWrite w) s = .next t ∧ t.queue.cmdPart = [] ∧ t.queue.cmd = s.queue.cmd ∧
      t.queue.bad = some ⟨h, fld w 31 16, 2, headLen h, Err.modeAbort⟩ ∧ t.rb (Reg.irqRaw Page.queue) 6 = true ∧
      SamePages [5] s t ∧ SameBytes s t) ∧
  (∀ (s : State) (w : Word) (b : BadItem), s.hostUp = true → s.isReady = true → s.queue.swallow = 0 → s.queue.bad = some b →
    2 ≤ b.got → b.got + 1 = b.total →
    ∃ t, exec (.cmdPortWrite w) s = .next t ∧ t.queue.bad = none ∧ t.queue.cmd = s.queue.cmd ∧
      t.posted (headType b.head) (fld b.head 11 0) b.handle b.err [b.head, wd (b.got + 1)] = true ∧ SameBytes s t)

/-- Writes over the host port: a write transaction of one word, in single or quad phases, is that register write; one whose first word
QRDY holds waits; writes of the windows; and what is counted instead of taking effect. How a held transaction stands is the model's
choice (log entry 45). -/
def Obligations.HostWritesComplete : Prop :=
  (∀ (s : State) (a : Nat) (w : Word), s.portTakes = true → (busEnd s).wordGoes true (a / 4 * 4) = true →
    ∃ t, exec (.registerWrite .host a w) (busEnd s) = .next t ∧
      exec (.qspiWrite a [w]) s = .next (if t.viewHeld then busHold (.write (burstNext (a / 4 * 4)) []) t else t) ∧
      exec (.qspiQwrite a [w]) s = .next (if t.viewHeld then busHold (.write (burstNext (a / 4 * 4)) []) t else t)) ∧
  (∀ (s : State) (a : Nat) (w : Word) (r : List Word), s.portTakes = true → (busEnd s).wordGoes true (a / 4 * 4) = false →
    exec (.qspiWrite a (w :: r)) s = .next { busEnd s with bus := some (.write (a / 4 * 4) (w :: r)) } ∧
      exec (.qspiQwrite a (w :: r)) s = .next { busEnd s with bus := some (.write (a / 4 * 4) (w :: r)) }) ∧
  (∀ (s : State) (k : SlotIx) (o : Nat) (w : Word), s.hostUp = true → s.isReady = true → k.val ≠ 0 → o % 4 = 0 → 8 ≤ o → o < 192 →
    s.sessState k = 1 ∨ s.sessState k = 2 →
    ∃ t, exec (.sessionRamWrite (ctxAddr k o) w) s = .next t ∧ (List.range 4).map (fun j => t.byte (ctxAddr k o + j)) = ctxWord o w ∧
      exec (.qspiWrite (ctxAddr k o) [w]) s = .next (busEnd t) ∧ exec (.qspiQwrite (ctxAddr k o) [w]) s = .next (busEnd t) ∧
      exec (.registerWrite .host (ctxAddr k o) w) s = .next t ∧
      SameRegs [] s t ∧ SameBytesBut (ctxAddr k o) 4 s t ∧ { t with mem := s.mem } = s) ∧
  (∀ (s : State) (ag : Agent) (n : EngIx) (w : Word), s.takes ag (Reg.feRxCfg n) →
    s.rb (Reg.stageCtrl (Page.fe n)) 0 = false →
    ∃ t, exec (.registerWrite ag (Reg.feRxCfg n) w) s = .next t ∧ t.rf (Reg.feRxCfg n) 23 0 = fld w 23 0 ∧
      SameRegs [Reg.feRxCfg n] s t ∧ SameBytes s t) ∧
  (∀ (s : State) (c : Byte), s.hostUp = true → c ∉ [0x0b, 0x02, 0xeb, 0x38, 0x05] →
    ∃ t, exec (.qspiUnknownCommand c) s = .next t ∧ t.rf Reg.hifCount 15 0 = min 0xffff (s.rf Reg.hifCount 15 0 + 1) ∧
      t.rf Reg.hifCount 31 16 = s.rf Reg.hifCount 31 16 ∧ OnlyRegs [Reg.hifCount] (busEnd s) t) ∧
  (∀ (s : State), s.hostUp = true →
    ∃ t, exec .qcsNRisePartialWord s = .next t ∧ t.rf Reg.hifCount 31 16 = min 0xffff (s.rf Reg.hifCount 31 16 + 1) ∧
      t.rf Reg.hifCount 15 0 = s.rf Reg.hifCount 15 0 ∧ OnlyRegs [Reg.hifCount] (busEnd s) t)

/-! ## The queues -/

/-- The queue marks: a write in which LOW is not below HIGH, or HIGH exceeds the queue's capacity in words, has no effect but MODE_ABORT
in QUEUE.ERR_CODE; a valid write applies at once, and the pin keeps its state when the fill lies between the new marks. -/
def Obligations.QueueMarks : Prop :=
  (∀ (s : State) (ag : Agent) (w : Word), s.takes ag Reg.queueHoldMarks → fld w 27 16 < fld w 11 0 → fld w 11 0 ≤ 2048 →
    ∃ t, exec (.queueMarksWrite ag false w) s = .next t ∧ t.rf Reg.queueHoldMarks 11 0 = fld w 11 0 ∧
      t.rf Reg.queueHoldMarks 27 16 = fld w 27 16 ∧
      (fld w 27 16 < s.cmdFill → s.cmdFill < fld w 11 0 → t.queue.holdLatch = s.queue.holdLatch ∧ t.holdNow = s.holdNow) ∧
      SamePages [5] s t ∧ SameBytes s t) ∧
  (∀ (s : State) (ag : Agent) (w : Word), s.takes ag Reg.queueHoldMarks → fld w 11 0 ≤ fld w 27 16 ∨ 2048 < fld w 11 0 →
    s.rf (Reg.errCode Page.queue) 15 10 = 0 →
    ∃ t, exec (.queueMarksWrite ag false w) s = .next t ∧ t.rf (Reg.errCode Page.queue) 7 0 = Err.modeAbort ∧
      SameRegs (reportRegs Page.queue) s t ∧ SameBytes s t ∧ t.queue = s.queue) ∧
  (∀ (s : State) (ag : Agent) (w : Word), s.takes ag Reg.queueAttnMarks → fld w 28 16 < fld w 12 0 → fld w 12 0 ≤ 4096 →
    ∃ t, exec (.queueMarksWrite ag true w) s = .next t ∧ t.rf Reg.queueAttnMarks 12 0 = fld w 12 0 ∧
      t.rf Reg.queueAttnMarks 28 16 = fld w 28 16 ∧
      (fld w 28 16 < s.resFill → s.resFill < fld w 12 0 → t.queue.attnLatch = s.queue.attnLatch ∧ t.attnNow = s.attnNow) ∧
      SamePages [5] s t ∧ SameBytes s t) ∧
  (∀ (s : State) (ag : Agent) (w : Word), s.takes ag Reg.queueAttnMarks → fld w 12 0 ≤ fld w 28 16 ∨ 4096 < fld w 12 0 →
    s.rf (Reg.errCode Page.queue) 15 10 = 0 →
    ∃ t, exec (.queueMarksWrite ag true w) s = .next t ∧ t.rf (Reg.errCode Page.queue) 7 0 = Err.modeAbort ∧
      SameRegs (reportRegs Page.queue) s t ∧ SameBytes s t ∧ t.queue = s.queue)

/-- The queues' own registers: the counters and a flush with the result that reports it; a held result of no session that goes out when
there is room; and the stale condition in time. That the FLUSHED item carries ERR 0x00 is the model's choice (log entry 121). -/
def Obligations.QueueCommandsComplete : Prop :=
  (∀ (s : State) (ag : Agent) (w : Word), s.takes ag Reg.queueCntClr →
    ∃ t, exec (.queueCntClr ag w) s = .next t ∧ (bit w 0 = true → t.reg Reg.queueCrossCnt = 0) ∧
      (bit w 1 = true → t.reg Reg.queueLossCnt = 0) ∧ (bit w 0 = false → t.reg Reg.queueCrossCnt = s.reg Reg.queueCrossCnt) ∧
      (bit w 1 = false → t.reg Reg.queueLossCnt = s.reg Reg.queueLossCnt) ∧
      OnlyRegs [Reg.queueCrossCnt, Reg.queueLossCnt] s t) ∧
  (∀ (s : State) (ag : Agent) (w : Word), s.takes ag Reg.hifCfg → bit w 8 = true →
    ∃ t, exec (.hifCntClr ag w) s = .next t ∧ t.reg Reg.hifCount = 0 ∧ t.rf Reg.hifCfg 3 0 = fld w 3 0 ∧
      OnlyRegs [Reg.hifCount, Reg.hifCfg] s t) ∧
  (∀ (s : State) (ag : Agent) (w : Word), s.takes ag Reg.queueFlush → s.queueBusy = false →
    ∃ t, exec (.queueFlush ag w) s = .next t ∧ (bit w 0 = true → t.queue.cmd = [] ∧ t.queue.cmdPart = []) ∧
      (bit w 2 = true → t.queue.evt = [] ∧ t.queue.evtPart = []) ∧ (bit w 1 = true → t.queue.resPart = []) ∧
      (bit w 0 = false → t.queue.cmd = s.queue.cmd) ∧ (bit w 2 = false → t.queue.evt = s.queue.evt) ∧
      t.posted 0x31 s.queue.resSeq 0 0 [wd (fld w 2 0), flushWord (bit w 0) s.queue.cmd.length (s.queue.cmdPart ≠ []),
        flushWord (bit w 1) s.queue.res.length (s.queue.resPart ≠ []),
        flushWord (bit w 2) s.queue.evt.length (s.queue.evtPart ≠ [])] = true ∧ SamePages [5] s t ∧ SameBytes s t) ∧
  (∀ (s : State) (x : Held) (r : List Held), s.queue.held = x :: r →
    s.quiesced Page.queue = false → s.resFill + x.item.len ≤ 4096 → x.src = 5 → x.slot = 0 → x.item.err = 0 → x.item.cls = none →
    x.item.typ ≠ 0x30 → x.item.typ ≠ 0x31 →
    s.now < 2 ^ 64 → ∃ t, exec (.resultHeldPost s.now) s = .next t ∧ t.queue.held = r ∧
      t.posted x.item.typ x.item.seq x.item.handle 0 x.item.payload = true ∧ SamePages [5] (passTo s.now s) t ∧ SameBytes s t) ∧
  (∀ (s : State), 0 < s.resFill → s.queue.stale = false → s.gated = false →
    ∃ t, exec .staleTimeout s = .next t ∧ t.queue.stale = true ∧ t.rb Reg.queueNotice 2 = true ∧ t.attnNow = true ∧
      SamePages [5] (passTo s.staleDue s) t ∧ SameBytes s t)

/-! ## The common page header -/

/-- CTRL and STATUS of a page: a quiesce is asked for, reached at its boundary and released; a block is disabled only once quiesced,
and comes back quiesced; none of this has an effect on SYS, RST and HIF (R134). -/
def Obligations.PageControlComplete : Prop :=
  (∀ (s : State) (ag : Agent) (p : PageIx), s.takes ag (Reg.ctrl p) → pageFixed p = false → s.rb (Reg.ctrl p) 0 = true →
    ∃ t, exec (.quiesceRequest ag p) s = .next t ∧ t.rb (Reg.ctrl p) 1 = true ∧ t.rb (Reg.ctrl p) 0 = true ∧ SameBytes s t) ∧
  (∀ (s : State) (p : PageIx), s.rb (Reg.ctrl p) 1 = true → s.rb (Reg.ctrl p) 0 = true → s.rb (Reg.status p) 0 = false →
    s.pageUp p = true → s.atBoundary p = true →
    ∃ t, exec (.quiesceReached p) s = .next t ∧ t.rb (Reg.status p) 0 = true ∧ t.rb (Reg.irqRaw p) 30 = true ∧ SameBytes s t) ∧
  (∀ (s : State) (ag : Agent) (p : PageIx), s.takes ag (Reg.ctrl p) → pageFixed p = false → s.rb (Reg.ctrl p) 0 = true →
    s.rb (Reg.ctrl p) 1 = true → s.rb (Reg.status p) 0 = true →
    ∃ t, exec (.quiesceRelease ag p) s = .next t ∧ t.rb (Reg.status p) 0 = false ∧ t.rb (Reg.ctrl p) 1 = false) ∧
  (∀ (s : State) (ag : Agent) (p : PageIx), s.takes ag (Reg.ctrl p) → pageFixed p = false → s.rb (Reg.ctrl p) 0 = true →
    s.rb (Reg.status p) 0 = true →
    ∃ t, exec (.blockDisable ag p) s = .next t ∧ t.rb (Reg.ctrl p) 0 = false ∧ t.quiesced p = true ∧ SameBytes s t) ∧
  (∀ (s : State) (ag : Agent) (p : PageIx), s.takes ag (Reg.ctrl p) → pageFixed p = false → s.rb (Reg.ctrl p) 0 = false →
    ∃ t, exec (.blockEnable ag p) s = .next t ∧ t.rb (Reg.ctrl p) 0 = true ∧ t.rb (Reg.ctrl p) 1 = true ∧
      t.rb (Reg.status p) 0 = true ∧ (p.val ≠ Page.cvu → OnlyRegs [Reg.ctrl p, Reg.status p] s t) ∧
      (p.val = Page.cvu → (List.range 8).all (fun c => s.chanAt c || t.rb Reg.cvuChq (16 + c)) = true ∧
        OnlyRegs [Reg.ctrl p, Reg.status p, Reg.cvuChq] s t)) ∧
  (∀ (s : State) (ag : Agent) (p : PageIx), s.takes ag (Reg.ctrl p) → pageFixed p = true →
    ∃ t, exec (.quiesceRequest ag p) s = .next t ∧ exec (.quiesceRelease ag p) s = .next t ∧ exec (.blockDisable ag p) s = .next t ∧
      exec (.blockEnable ag p) s = .next t ∧ OnlyRegs [] s t)

/-- A block that is not quiesced is not disabled: EN stays 1 and the page records NOT_QUIESCED. -/
def Obligations.DisableNeedsQuiesce : Prop :=
  ∀ (s : State) (ag : Agent) (p : PageIx), s.takes ag (Reg.ctrl p) → pageFixed p = false → s.rb (Reg.ctrl p) 0 = true →
    s.rb (Reg.status p) 0 = false → s.rf (Reg.errCode p) 15 10 = 0 →
    ∃ t, exec (.blockDisable ag p) s = .next t ∧ t.rb (Reg.ctrl p) 0 = true ∧ t.rf (Reg.errCode p) 7 0 = Err.notQuiesced ∧
      t.rf (Reg.errCode p) 15 10 = 1 ∧ t.rb (Reg.irqRaw p) 31 = true ∧ SameRegs (reportRegs p) s t ∧ SameBytes s t

/-- Interrupts: IRQ_SET makes its sources occur, and a source enabled while its IRQ_RAW bit is 1 occurs. -/
def Obligations.InterruptWritesComplete : Prop :=
  (∀ (s : State) (ag : Agent) (p : PageIx) (w : Word), s.takes ag (Reg.irqEn p) →
    ∃ t, exec (.irqEnWrite ag p w) s = .next t ∧ t.reg (Reg.irqEn p) = w ∧
      t.reg (Reg.irqStat p) = s.reg (Reg.irqStat p) ||| (w &&& ~~~ s.reg (Reg.irqEn p) &&& s.reg (Reg.irqRaw p)) ∧
      OnlyRegs [Reg.irqEn p, Reg.irqStat p] s t) ∧
  (∀ (s : State) (ag : Agent) (p : PageIx) (w : Word), s.takes ag (Reg.irqSet p) →
    ∃ t, exec (.irqSetWrite ag p w) s = .next t ∧
      t.reg (Reg.irqStat p) = s.reg (Reg.irqStat p) ||| (w &&& s.reg (Reg.irqEn p)) ∧
      t.reg (Reg.irqRaw p) = s.reg (Reg.irqRaw p) ||| (w &&& ~~~ levelMask p) ∧
      OnlyRegs [Reg.irqRaw p, Reg.irqStat p] s t)

/-- LOCK, OWNER and ERR_CODE: a lock is set by 1 and opened by the key alone; a page passes to another agent, and back to the host from
Larkspur with the key; CLR empties the error. -/
def Obligations.OwnershipWritesComplete : Prop :=
  (∀ (s : State) (ag : Agent) (p : PageIx) (w : Word), s.takes ag (Reg.lock p) → bit w 0 = true →
    ∃ t, exec (.lockWrite ag p w) s = .next t ∧ t.rb (Reg.lock p) 0 = true ∧ OnlyRegs [Reg.lock p] s t) ∧
  (∀ (s : State) (ag : Agent) (p : PageIx) (w : Word), s.takes ag (Reg.lock p) → bit w 0 = false → fld w 31 16 = 0xc35a →
    ∃ t, exec (.lockWrite ag p w) s = .next t ∧ t.rb (Reg.lock p) 0 = false ∧ OnlyRegs [Reg.lock p] s t) ∧
  (∀ (s : State) (ag : Agent) (p : PageIx) (w : Word), s.takes ag (Reg.owner p) → fld w 1 0 ≠ 3 →
    ∃ t, exec (.ownerWrite ag p w) s = .next t ∧ t.rf (Reg.owner p) 1 0 = fld w 1 0 ∧ OnlyRegs [Reg.owner p] s t) ∧
  (∀ (s : State) (p : PageIx) (w : Word), s.reaches .host (Reg.owner p) → s.unlocked (Reg.owner p) → s.rf (Reg.owner p) 1 0 = 2 →
    fld w 1 0 = 0 → fld w 31 16 = 0xc35a →
    ∃ t, exec (.ownerWrite .host p w) s = .next t ∧ t.rf (Reg.owner p) 1 0 = 0 ∧ OnlyRegs [Reg.owner p] s t) ∧
  (∀ (s : State) (ag : Agent) (p : PageIx), s.reaches ag (Reg.errCode p) →
    ∃ t, exec (.errCodeClr ag p) s = .next t ∧ t.reg (Reg.errCode p) = 0 ∧ t.reg (Reg.errInfo p) = 0 ∧
      OnlyRegs [Reg.errCode p, Reg.errInfo p] s t)

/-- The checks on a write in their order, of IRQ_EN and of every register that a page lists: with the page down MODE_ABORT at SYS; before
READY the host gets OWNER_DENIED outside the pages open to it; a secured page gives SECURE_DENIED; an agent that does not own the page
OWNER_DENIED, a locked field OWNER_DENIED, and a field that asks for a quiesce NOT_QUIESCED, on the pages without units of their own owners.
Nothing but the error report changes. A write that waits for a commit is not yet checked. -/
def Obligations.RefusedWritesChangeNothingElse : Prop :=
  (∀ (s : State) (p : PageIx) (w : Word), s.holdsWrite .host (Reg.irqEn p) = false → s.hostUp = true → s.isReady = false →
    s.pageUp p = true → p.val ∉ [Page.rst, Page.hif, Page.pinmux, Page.upd] → s.rf (Reg.errCode p) 15 10 = 0 →
    ∃ t, exec (.irqEnWrite .host p w) s = .next t ∧ t.rf (Reg.errCode p) 7 0 = Err.ownerDenied ∧
      SameRegs (reportRegs p) s t ∧ SameBytes s t) ∧
  (∀ (s : State) (ag : Agent) (p : PageIx) (w : Word), s.holdsWrite ag (Reg.irqEn p) = false →
    (ag = .host → s.hostUp = true ∧ s.isReady = true) → s.pageUp p = true → s.secureOut ag p = true → s.rf (Reg.errCode p) 15 10 = 0 →
    ∃ t, exec (.irqEnWrite ag p w) s = .next t ∧ t.rf (Reg.errCode p) 7 0 = Err.secureDenied ∧
      t.reg (Reg.errInfo p) = wd (agentCode ag * 2 ^ 30 + 0x14) ∧ SameRegs (reportRegs p) s t ∧ SameBytes s t) ∧
  (∀ (s : State) (ag : Agent) (p : PageIx) (w : Word), s.reaches ag (Reg.irqEn p) → s.rf (Reg.owner p) 1 0 ≠ agentCode ag →
    s.rf (Reg.errCode p) 15 10 = 0 →
    ∃ t, exec (.irqEnWrite ag p w) s = .next t ∧ t.rf (Reg.errCode p) 7 0 = Err.ownerDenied ∧
      t.reg (Reg.errInfo p) = wd (agentCode ag * 2 ^ 30 + 0x14) ∧ t.rb Reg.dbgFaultSum 10 = true ∧
      SameRegs (reportRegs p) s t ∧ SameBytes s t) ∧
  (∀ (s : State) (ag : Agent) (p : PageIx) (w : Word), s.holdsWrite ag (Reg.irqEn p) = false → (ag = .host → s.hostUp = true) →
    s.pageUp p = false →
    s.rf (Reg.errCode Page.sys) 15 10 = 0 →
    ∃ t, exec (.irqEnWrite ag p w) s = .next t ∧ t.rf (Reg.errCode Page.sys) 7 0 = Err.modeAbort ∧
      SameRegs (reportRegs Page.sys) s t ∧ SameBytes s t) ∧
  (∀ (s : State) (ag : Agent) (a : Nat) (w : Word), listedReg a = true → s.holdsWrite ag a = false → (ag = .host → s.hostUp = true) →
    s.pageUp (a / 0x1000) = false → s.rf (Reg.errCode Page.sys) 15 10 = 0 →
    ∃ t, exec (.registerWrite ag a w) s = .next t ∧ t.rf (Reg.errCode Page.sys) 7 0 = Err.modeAbort ∧
      t.reg (Reg.errInfo Page.sys) = wd a ∧ SameRegs (reportRegs Page.sys) s t ∧ SameBytes s t) ∧
  (∀ (s : State) (ag : Agent) (a : Nat) (w : Word), listedReg a = true → s.holdsWrite ag a = false →
    (ag = .host → s.hostUp = true ∧ s.isReady = true) → s.pageUp (a / 0x1000) = true → s.secureOut ag (a / 0x1000) = true →
    s.rf (Reg.errCode (a / 0x1000)) 15 10 = 0 →
    ∃ t, exec (.registerWrite ag a w) s = .next t ∧ t.rf (Reg.errCode (a / 0x1000)) 7 0 = Err.secureDenied ∧
      t.reg (Reg.errInfo (a / 0x1000)) = wd (agentCode ag * 2 ^ 30 + a % 0x1000) ∧ SameRegs (reportRegs (a / 0x1000)) s t ∧ SameBytes s t) ∧
  (∀ (s : State) (ag : Agent) (a : Nat) (w : Word), listedReg a = true → pageOwned (a / 0x1000) = true → s.reaches ag a →
    s.rf (Reg.owner (a / 0x1000)) 1 0 ≠ agentCode ag → s.rf (Reg.errCode (a / 0x1000)) 15 10 = 0 →
    ∃ t, exec (.registerWrite ag a w) s = .next t ∧ t.rf (Reg.errCode (a / 0x1000)) 7 0 = Err.ownerDenied ∧
      t.reg (Reg.errInfo (a / 0x1000)) = wd (agentCode ag * 2 ^ 30 + a % 0x1000) ∧ SameRegs (reportRegs (a / 0x1000)) s t ∧ SameBytes s t) ∧
  (∀ (s : State) (ag : Agent) (a : Nat) (w : Word), listedReg a = true → pageOwned (a / 0x1000) = true → s.reaches ag a →
    s.rf (Reg.owner (a / 0x1000)) 1 0 = agentCode ag → hasAcc (BitVec.allOnes 32) a .rwl = true → s.rb (Reg.lock (a / 0x1000)) 0 = true →
    s.rf (Reg.errCode (a / 0x1000)) 15 10 = 0 →
    ∃ t, exec (.registerWrite ag a w) s = .next t ∧ t.rf (Reg.errCode (a / 0x1000)) 7 0 = Err.ownerDenied ∧
      t.reg (Reg.errInfo (a / 0x1000)) = wd (agentCode ag * 2 ^ 30 + a % 0x1000) ∧ SameRegs (reportRegs (a / 0x1000)) s t ∧ SameBytes s t) ∧
  (∀ (s : State) (ag : Agent) (a : Nat) (w : Word), listedReg a = true → pageOwned (a / 0x1000) = true → s.reaches ag a →
    s.rf (Reg.owner (a / 0x1000)) 1 0 = agentCode ag → s.rb (Reg.lock (a / 0x1000)) 0 = false →
    hasAcc (BitVec.allOnes 32) a .rws = true → s.quiesced (a / 0x1000) = false → s.rf (Reg.errCode (a / 0x1000)) 15 10 = 0 →
    ∃ t, exec (.registerWrite ag a w) s = .next t ∧ t.rf (Reg.errCode (a / 0x1000)) 7 0 = Err.notQuiesced ∧
      t.reg (Reg.errInfo (a / 0x1000)) = wd (agentCode ag * 2 ^ 30 + a % 0x1000) ∧ SameRegs (reportRegs (a / 0x1000)) s t ∧ SameBytes s t)

/-- An error is recorded with its detail when it is the first since the last clear, and only counted after that; each sets IRQ_RAW[31]; CLR
empties both registers, and the error that follows it is the first again. -/
def Obligations.ErrorReporting : Prop :=
  (∀ (s : State) (p code info extra : Nat), p < 0x2c → code < 0x1a → info ≠ openDetail → extra ≠ openDetail →
    s.rf (Reg.errCode p) 15 10 = 0 →
    (recErr p code info extra s).rf (Reg.errCode p) 7 0 = code ∧ (recErr p code info extra s).rf (Reg.errCode p) 31 16 = extra % 65536 ∧
      (recErr p code info extra s).rf (Reg.errCode p) 15 10 = 1 ∧ (recErr p code info extra s).reg (Reg.errInfo p) = wd info ∧
      (recErr p code info extra s).rb (Reg.irqRaw p) 31 = true ∧ SameRegs (reportRegs p) s (recErr p code info extra s)) ∧
  (∀ (s : State) (p code info extra : Nat), p < 0x2c → 0 < s.rf (Reg.errCode p) 15 10 →
    (recErr p code info extra s).rf (Reg.errCode p) 15 10 = min 63 (s.rf (Reg.errCode p) 15 10 + 1) ∧
      (recErr p code info extra s).rf (Reg.errCode p) 9 0 = s.rf (Reg.errCode p) 9 0 ∧
      (recErr p code info extra s).rf (Reg.errCode p) 31 16 = s.rf (Reg.errCode p) 31 16 ∧
      (recErr p code info extra s).reg (Reg.errInfo p) = s.reg (Reg.errInfo p) ∧ (recErr p code info extra s).rb (Reg.irqRaw p) 31 = true) ∧
  (∀ (s : State) (ag : Agent) (p : PageIx) (code info extra : Nat), s.reaches ag (Reg.errCode p) → code < 0x1a → info ≠ openDetail →
    extra ≠ openDetail →
    ∃ t, exec (.errCodeClr ag p) s = .next t ∧ t.reg (Reg.errCode p) = 0 ∧ t.reg (Reg.errInfo p) = 0 ∧
      (recErr p code info extra t).rf (Reg.errCode p) 7 0 = code ∧ (recErr p code info extra t).rf (Reg.errCode p) 15 10 = 1 ∧
      (recErr p code info extra t).reg (Reg.errInfo p) = wd info)

/-! ## Staged values and commits -/

/-- Staged values: APPLY puts the shadows of a page in use and reports it, for a coil and FWGT on the next carrier-cycle boundary, for a
field engine when it is free, and otherwise at once; DISCARD makes the shadows equal to the values in use. That the command takes the FTB
to the boundary is the model's choice (log entry 104). -/
def Obligations.StagingComplete : Prop :=
  (∀ (s : State) (ag : Agent) (p : PageIx), s.takes ag (Reg.stageCtrl p) → pageStaged p = true →
    p.val < 0xc ∨ 0x1c < p.val →
    ∃ t, exec (.stageApply ag p) s = .next t ∧ (stagedRegs p).all (fun a => t.reg a &&& stagedMask a == s.merged a &&& stagedMask a) = true ∧
      t.rb (Reg.status p) 2 = true ∧ t.rb (Reg.irqRaw p) 29 = true ∧ t.rb (Reg.stageCtrl p) 1 = s.rb (Reg.stageCtrl p) 1 ∧
      t.now = s.now ∧ SameBytes s t) ∧
  (∀ (s : State) (ag : Agent) (p : PageIx), s.takes ag (Reg.stageCtrl p) → pageStaged p = true →
    0x10 ≤ p.val → p.val ≤ 0x1c → s.ccNow < 2 ^ 64 →
    ∃ t, exec (.stageApply ag p) s = .next t ∧
      (stagedRegs p).all (fun a => stageSpecial a || t.reg a &&& stagedMask a == s.merged a &&& stagedMask a) = true ∧
      (p.val < 0x1c → (stagedRegs p).all (fun a => t.reg a &&& stagedMask a == s.merged a &&& stagedMask a) = true) ∧
      (List.range 4).all (fun n => p.val != 0x1c || t.reg (Reg.fwgtFeBank n) &&& stagedMask (Reg.fwgtFeBank n) &&& 0xfffffffe ==
        s.merged (Reg.fwgtFeBank n) &&& stagedMask (Reg.fwgtFeBank n) &&& 0xfffffffe) = true ∧
      t.rb (Reg.status p) 2 = true ∧ t.rb (Reg.irqRaw p) 29 = true ∧ t.now = (if s.fldRuns then max s.now s.ccNow else s.now) ∧
      SameBytes s t) ∧
  (∀ (s : State) (ag : Agent) (p : PageIx), s.takes ag (Reg.stageCtrl p) →
    0xc ≤ p.val → p.val < 0x10 → s.stdFree (p.val - 0xc) = true →
    ∃ t, exec (.stageApply ag p) s = .next t ∧ (stagedRegs p).all (fun a => t.reg a == s.merged a) = true ∧
      t.rb (Reg.status p) 2 = true ∧ t.rb (Reg.irqRaw p) 29 = true ∧ (t.eng (p.val - 0xc)).applyWait = false ∧ t.now = s.now ∧
      SamePages [p] s t ∧ SameBytes s t) ∧
  (∀ (s : State) (ag : Agent) (p : PageIx), s.takes ag (Reg.stageCtrl p) →
    0xc ≤ p.val → p.val < 0x10 → s.stdFree (p.val - 0xc) = false →
    ∃ t, exec (.stageApply ag p) s = .next t ∧ (t.eng (p.val - 0xc)).applyWait = true ∧
      (stagedRegs p).all (fun a => t.reg a == s.reg a) = true ∧ SameRegs [Reg.stageCtrl p] s t ∧ SameBytes s t) ∧
  (∀ (s : State) (ag : Agent) (p : PageIx), s.takes ag (Reg.stageCtrl p) → pageStaged p = true →
    ∃ t, exec (.stageDiscard ag p) s = .next t ∧ (stagedRegs p).all (fun a => t.merged a == s.reg a) = true ∧
      (stagedRegs p).all (fun a => t.reg a == s.reg a) = true ∧ SameRegs [Reg.stageCtrl p] s t ∧ SameBytes s t)

/-- The commit unit: GO takes a commit whose margin lies ahead; M fixes the participants, and a participant that is not ready ends the epoch
ABORTED with MODE_ABORT and nothing applied; the commit tick puts the shadows of every participant in use together, a quiesced one's for when
it resumes, and counts the epoch. A request that comes too late ends the epoch ABORTED with LATE. -/
def Obligations.CommitComplete : Prop :=
  (∀ (s : State) (ag : Agent) (w : Word), s.takes ag Reg.lspCommitCtrl → bit w 0 = true → s.quiesced Page.lsp = false → s.commit = none →
    s.now ≤ roundUp (s.regPair Reg.lspCommitTickLo) 8 - s.marginFt →
    ∃ t, exec (.commitGo ag w) s = .next t ∧ t.rf Reg.sysEpochStatus 2 0 = 1 ∧
      t.commit = some ⟨roundUp (s.regPair Reg.lspCommitTickLo) 8, roundUp (s.regPair Reg.lspCommitTickLo) 8 - s.marginFt, [], false⟩ ∧
      SameRegs [Reg.sysEpochStatus] s t ∧ SameBytes s t) ∧
  (∀ (s : State) (ag : Agent) (w : Word), s.takes ag Reg.lspCommitCtrl → bit w 0 = true → s.quiesced Page.lsp = false → s.commit = none →
    roundUp (s.regPair Reg.lspCommitTickLo) 8 - s.marginFt < s.now →
    ∃ t, exec (.commitGo ag w) s = .next t ∧ t.commit = none ∧ t.rf Reg.sysEpochStatus 2 0 = 4 ∧
      t.rf Reg.sysEpochStatus 15 8 = Err.late ∧ t.rb (Reg.irqRaw Page.lsp) 5 = true ∧ SameBytes s t) ∧
  (∀ (s u : State) (c : Commit), s.commit = some c → c.issued = false → u = passTo c.margin s → (u.armed.all (fun p => u.stageReady p)) = true →
    ∃ t, exec .commitMargin s = .next t ∧ t.commit = some { c with pages := u.armed, issued := true } ∧
      t.rf Reg.sysEpochStatus 2 0 = 2 ∧ t.now = u.now ∧ SameRegs [Reg.sysEpochStatus] u t ∧ SameBytes s t) ∧
  (∀ (s u : State) (c : Commit) (l : List Nat), s.commit = some c → c.issued = false → s.heldWrites = [] → u = passTo c.margin s →
    l = u.armed.filter (fun p => !u.stageReady p) → l ≠ [] → l.all (fun p => !u.pageUp p || u.rf (Reg.errCode p) 15 10 == 0) = true →
    ∃ t, exec .commitMargin s = .next t ∧ t.commit = none ∧ t.rf Reg.sysEpochStatus 2 0 = 4 ∧
      t.rf Reg.sysEpochStatus 15 8 = Err.modeAbort ∧ t.rf Reg.sysEpochStatus 31 16 = s.rf Reg.sysEpochStatus 31 16 ∧
      t.regPair Reg.sysEpochTickLo = c.tick % 2 ^ 64 ∧ t.rb (Reg.irqRaw Page.lsp) 5 = true ∧
      t.reg Reg.sysEpochNotreadyLo = wd (pageMask l 0) ∧ t.reg Reg.sysEpochNotreadyHi = wd (pageMask l 32) ∧
      l.all (fun p => !u.pageUp p || t.rf (Reg.errCode p) 7 0 == Err.modeAbort) = true ∧
      u.armed.all (fun p => t.rb (Reg.stageCtrl p) 1 && (stagedRegs p).all (fun a => t.reg a == u.reg a)) = true ∧
      t.shadow = u.shadow ∧ SameBytes s t) ∧
  (∀ (s : State) (c : Commit), s.commit = some c → c.issued = true → s.heldWrites = [] → c.pages = [] →
    ∃ t, exec .commitApply s = .next t ∧ t.commit = none ∧ t.rf Reg.sysEpochStatus 2 0 = 3 ∧
      t.rf Reg.sysEpochStatus 31 16 = s.rf Reg.sysEpochStatus 31 16 ∧ t.regPair Reg.sysEpochTickLo = c.tick % 2 ^ 64 ∧
      t.rb (Reg.irqRaw Page.lsp) 4 = true ∧ SameBytes s t) ∧
  (∀ (s : State) (c : Commit) (e : Nat), s.commit = some c → c.issued = true → s.heldWrites = [] → c.pages ≠ [] →
    c.pages.all (fun p => decide (p < 0x2c) && pageStaged p) = true → e = (s.rf Reg.sysEpochStatus 31 16 + 1) % 65536 →
    ∃ t, exec .commitApply s = .next t ∧ t.commit = none ∧ t.rf Reg.sysEpochStatus 2 0 = 3 ∧ t.rf Reg.sysEpochStatus 31 16 = e ∧
      t.regPair Reg.sysEpochTickLo = c.tick % 2 ^ 64 ∧ t.reg Reg.sysEpochAppliedLo = wd (pageMask c.pages 0) ∧
      t.reg Reg.sysEpochAppliedHi = wd (pageMask c.pages 32) ∧ t.rb (Reg.irqRaw Page.lsp) 4 = true ∧
      c.pages.all (fun p => !t.rb (Reg.stageCtrl p) 1 && t.rf (Reg.stageCtrl p) 15 8 == e % 256 && t.rb (Reg.status p) 2 &&
        t.rb (Reg.irqRaw p) 29) = true ∧
      c.pages.all (fun p => s.quiesced p || (stagedRegs p).all (fun a => p == Page.fwgt && stageSpecial a ||
        t.reg a &&& stagedMask a == s.merged a &&& stagedMask a)) = true ∧
      c.pages.all (fun p => !s.quiesced p || (stagedRegs p).all (fun a => t.reg a == s.reg a &&
        tabGet none t.applied a == (if s.merged a = s.reg a then none else some (s.merged a)))) = true ∧ SameBytes s t)

/-! ## Resets and the start -/

/-- Power-on release and the resets of the whole device: the strap is taken once; a core supply's fall, RESET_N, a clock loss and a
software reset leave every register but their few at its Reset value, keep MRAM, and show their cause. A software reset without its key
has no effect but OWNER_DENIED at RST. -/
def Obligations.ResetsComplete : Prop :=
  (∀ (s : State) (g c r : Bool), s.boot.phase = .powerOn →
    ∃ t, exec (.porRelease g c r) s = .next t ∧ t.rb Reg.pinmuxStrap 0 = g ∧
      t.boot.phase = (if r then .waitRef else .pinHeld) ∧ SameRegs [Reg.pinmuxStrap] s t ∧ SameBytes s t) ∧
  (∀ (s : State) (rail : CoreRail), s.boot.phase ≠ .powerOn →
    ∃ t, exec (.coreSupplyFail rail) s = .next t ∧ t.boot.phase = .powerOn ∧ t.reg Reg.rstCause = 1 ∧
      SameRegs [Reg.rstCause] State.reset t ∧ SameBytesBut sessBase 0x50000 s t ∧ t.queue.cmd = [] ∧ t.nvm.log = s.nvm.log) ∧
  (∀ (s : State), s.boot.resetN = true → s.boot.phase ≠ .powerOn →
    ∃ t, exec .resetNAssert s = .next t ∧ t.boot.phase = .pinHeld ∧ t.boot.resetN = false ∧ t.rb Reg.rstCause 1 = true ∧
      SameRegs [Reg.rstCause, Reg.pinmuxStrap] State.reset t ∧ t.reg Reg.pinmuxStrap = s.reg Reg.pinmuxStrap ∧
      SameBytesBut sessBase 0xc000 (wipeAll s) t) ∧
  (∀ (s : State) (k : Bool), s.boot.resetN = false → s.boot.phase = .pinHeld →
    ∃ t, exec (.resetNRelease k) s = .next t ∧ t.boot.phase = .waitRef ∧ t.boot.resetN = true ∧ { t with boot := s.boot } = s) ∧
  (∀ (s : State) (ag : Agent) (w : Word), s.takes ag Reg.rstSwReset → fld w 31 16 = 0xa5c3 → s.boot.resetN = true →
    ∃ t, exec (.swResetSystem ag w) s = .next t ∧ t.boot.phase = .waitRef ∧ t.rb Reg.rstCause 2 = true ∧ t.isReady = false ∧
      SameRegs [Reg.rstCause, Reg.pinmuxStrap] State.reset t ∧ t.reg Reg.pinmuxStrap = s.reg Reg.pinmuxStrap ∧
      SameBytesBut sessBase 0xc000 (wipeAll s) t) ∧
  (∀ (s : State), s.oscRuns = true → s.boot.phase ≠ .waitRef → s.boot.resetN = true →
    ∃ t, exec .clockLoss s = .next t ∧ t.boot.phase = .waitRef ∧ t.rb Reg.rstCause 3 = true ∧ t.boot.oscWarm = false ∧
      SameRegs [Reg.rstCause, Reg.pinmuxStrap] State.reset t ∧ SameBytesBut sessBase 0xc000 (wipeAll s) t) ∧
  (∀ (s : State) (ag : Agent) (w : Word), s.takes ag Reg.rstSwReset → fld w 31 16 ≠ 0xa5c3 → s.rf (Reg.errCode Page.rst) 15 10 = 0 →
    ∃ t, exec (.swResetSystem ag w) s = .next t ∧ exec (.swResetMgt ag w) s = .next t ∧
      t.rf (Reg.errCode Page.rst) 7 0 = Err.ownerDenied ∧ SameRegs (reportRegs Page.rst) s t ∧ SameBytes s t ∧ t.boot = s.boot)

/-- The supervisors of VDDRF and VDDIO reset a part of the device and show it; the rails come back, and with VDDRF a radio that nobody holds
goes to its idle state. -/
def Obligations.SupplySupervisorsComplete : Prop :=
  (∀ (s : State), s.boot.vddrf = true → s.boot.phase ≠ .powerOn →
    ∃ t, exec .vddrfSupervisor s = .next t ∧ t.boot.vddrf = false ∧ t.rb Reg.rstCause 7 = true ∧ t.rb Reg.dbgFaultSum 12 = true ∧
      (rbPages.all (fun p => t.pageUp p == false)) = true ∧ t.rf Reg.rbSynState 3 0 = 0) ∧
  (∀ (s : State), ∃ t, exec .vddrfSupplyRecovery s = .next t ∧ t.boot.vddrf = true ∧
      (s.boot.vddrf = true ∨ s.isReady = false ∨ s.holder 0x78 ≠ 0 → { t with boot := s.boot } = s) ∧
      (s.boot.vddrf = false → s.isReady = true → s.holder 0x78 = 0 → s.rb Reg.clkGate 0 = false → s.radioHeld = false →
        s.radio.stopped = false → s.rbState = 0 → s.rf Reg.rbSynDef 3 0 = 2 → t.radio.goal = some 2 ∧ t.radio.legTo = some 2) ∧ SameBytes s t) ∧
  (∀ (s : State), s.boot.vddio = true → s.boot.phase ≠ .powerOn →
    ∃ t, exec .vddioSupervisor s = .next t ∧ t.hostUp = false ∧ t.rb Reg.rstCause 6 = true ∧ t.rb Reg.dbgFaultSum 12 = true ∧
      SamePages [Page.hif, Page.rst, Page.sens, Page.log, Page.dbg] s t ∧ SameBytes s t ∧ t.queue = s.queue ∧ t.coils = s.coils ∧
      t.radio = s.radio) ∧
  (∀ (s : State), ∃ t, exec .vddioSupplyRecovery s = .next t ∧ t.boot.vddio = true ∧ { t with boot := s.boot } = s)

/-- The start: with the reference qualified the islands run, the FTB counts from 0 and step 3 begins; READY sets RST.BOOT and gives every
page to HOST, enabled; without a firmware slot that passes the device stands in NO_IMAGE, with UPD the host's. That step 14 leaves
QUIESCE and SNAP_ARM and gives EN and OWNER is the model's choice (log entry 57). -/
def Obligations.StartComplete : Prop :=
  (∀ (s : State) (q : Nat) (m : StartMeas), s.boot.phase = .waitRef →
    ∃ t, exec (.referenceQualified q m) s = .next t ∧ t.boot.phase = .starting ∧ t.started = true ∧ t.isReady = false ∧ t.now = 0 ∧
      t.rf Reg.rstBoot 31 24 = 3 ∧ SameRegs [Reg.clkRun, Reg.clkRef, Reg.rstBoot] s t ∧ SameBytes s t) ∧
  (∀ (s : State) (k : Nat), s.boot.phase = .starting → (startRun (2 ^ 64) s).boot.phase = .starting →
    s.rb Reg.dbgWdog 0 = false →
    ∃ t, exec (.ready k) s = .next t ∧ t.isReady = true ∧ t.rf Reg.rstBoot 2 0 = 3 ∧ t.rf Reg.rstBoot 31 24 = 0xff ∧
      t.rb (Reg.irqRaw Page.rst) 0 = true ∧
      ((List.range 0x2c).all (fun p => t.rf (Reg.owner p) 1 0 == 0 && t.rb (Reg.ctrl p) 0)) = true ∧
      ((List.range 4).all (fun n => t.holder (0x60 + n) == 4 + n)) = true ∧ t.holder 0x64 = 3) ∧
  (∀ (s : State) (k : Nat) (p : StartPlan), s.boot.phase = .starting → s.boot.plan = some p → p.main = [(3, 0)] → p.rb = [] →
    p.ends ≤ 2 ^ 64 → (bootSlot 4 (advance p.ends s)).rf Reg.rstBoot 5 4 = 0 →
    s.rb Reg.dbgWdog 0 = false →
    ∃ t, exec (.ready k) s = .next t ∧ t.boot.phase = .noImage ∧ t.rf Reg.rstBoot 2 0 = 4 ∧ t.rf (Reg.owner Page.upd) 1 0 = 0 ∧
      t.rb (Reg.ctrl Page.upd) 0 = true ∧ t.rb (Reg.irqRaw Page.rst) 1 = true)

/-- Block resets: a quiesced page returns to its Reset values, busy, and its end frees it for the host; the gate of the return band
closes and opens, and a gate that is where it should be stays. That the page is the host's, and RST.CAUSE shows the reset, from its end
on is the model's choice (log entry 59). -/
def Obligations.BlockResetComplete : Prop :=
  (∀ (s : State) (ag : Agent) (w : Word) (p : Nat), s.takes ag Reg.rstBlockRst → fld w 31 16 = 0xa5c3 → p = fld w 7 0 →
    blockResets p = true → s.quiesced p = true → s.resetHeld p = false →
    ∃ t, exec (.blockReset ag w) s = .next t ∧ t.rb (Reg.status p) 0 = true ∧ t.rb (Reg.status p) 1 = true ∧
      t.rb (Reg.ctrl p) 0 = bit (tabGet 0 s.mgt.calCopy (Reg.ctrl p)) 0 ∧ t.rb (Reg.ctrl p) 1 = true ∧ p ∈ t.boot.blocks ∧
      (∀ a, a / 0x1000 = p → a ∉ [Reg.ctrl p, Reg.status p, Reg.dbgWdog] → blockKeeps a = false →
        a ∉ s.mgt.calCopy.map (fun x => x.1) → p < 0x10 ∨ 0x1c < p → t.reg a = regReset a) ∧
      (p = Page.cvu → (List.range 8).all (fun c => t.holder (0x60 + c) == 0) = true)) ∧
  (∀ (s : State) (p : PageIx), p.val ∈ s.boot.blocks → s.mgt.cal.any (fun j => j.owned.any (fun x => x.1 == p.val)) = false →
    ∃ t, exec (.blockResetDone p) s = .next t ∧ t.rb (Reg.status p) 1 = false ∧
      t.rf (Reg.owner p) 1 0 = (if s.isReady = true ∧ s.taken.all (fun x => x.1 != p.val) = true then 0 else s.rf (Reg.owner p) 1 0) ∧
      t.rb Reg.rstCause 8 = true ∧ p.val ∉ t.boot.blocks ∧ SameRegs [Reg.status p, Reg.owner p, Reg.rstCause] s t ∧ SameBytes s t) ∧
  (∀ (s : State) (ag : Agent), s.takes ag Reg.clkGate → s.rbState = 0 → s.holder 0x78 = 0 → s.rb Reg.clkGate 0 = false →
    ∃ t, exec (.clkGateRbOff ag) s = .next t ∧ t.rb Reg.clkGate 0 = true ∧ t.rf Reg.clkRun 8 5 = 0 ∧ t.rb (Reg.irqRaw Page.clk) 0 = true ∧
      (rbPages.all (fun p => t.pageUp p == false)) = true ∧ t.rbState = 0 ∧ t.radio.legTo = none ∧
      t.rf Reg.clkRun 4 0 = s.rf Reg.clkRun 4 0 ∧ t.rf Reg.clkRun 13 9 = s.rf Reg.clkRun 13 9 ∧
      SamePages [Page.clk, Page.rbSyn] s t ∧ SameBytes s t) ∧
  (∀ (s : State) (ag : Agent), s.takes ag Reg.clkGate → s.rbState = 0 → s.holder 0x78 = 0 → s.rb Reg.clkGate 0 = true →
    exec (.clkGateRbOff ag) s = .next s) ∧
  (∀ (s : State) (ag : Agent), s.takes ag Reg.clkGate → s.rb Reg.clkGate 0 = true → s.rbState = 0 →
    ∃ t, exec (.clkGateRbOn ag) s = .next t ∧ t.rb Reg.clkGate 0 = false ∧ t.rf Reg.clkRun 8 5 = 15 ∧ t.rb (Reg.irqRaw Page.clk) 0 = false ∧
      t.rf Reg.clkRun 4 0 = s.rf Reg.clkRun 4 0 ∧ t.rf Reg.clkRun 13 9 = s.rf Reg.clkRun 13 9 ∧
      t.rbState = 0 ∧ SamePages [Page.clk, Page.rbSyn] s t ∧ SameBytes s t) ∧
  (∀ (s : State) (ag : Agent), s.takes ag Reg.clkGate → s.rb Reg.clkGate 0 = false → exec (.clkGateRbOn ag) s = .next s)

/-- Hollyhock alone: a software reset of it, a watchdog trip and a trial's timeout take it down and show their cause; it comes back from a
slot that boots. -/
def Obligations.HollyhockResetComplete : Prop :=
  (∀ (s : State) (ag : Agent) (w : Word), s.takes ag Reg.rstSwReset → fld w 31 16 = 0xa5c3 → s.isReady = true →
    ∃ t, exec (.swResetMgt ag w) s = .next t ∧ t.boot.mgtDown = true ∧ t.rb Reg.rstCause 5 = true ∧ t.isReady = true) ∧
  (∀ (s : State) (pc : Nat), s.mgtRuns = true →
    ∃ t, exec (.watchdogTrip pc) s = .next t ∧ t.boot.mgtDown = true ∧ t.rb Reg.rstCause 4 = true ∧ t.rb Reg.dbgFaultSum 15 = true ∧
      t.rf Reg.dbgWdog 31 16 = min 0xffff (s.rf Reg.dbgWdog 31 16 + 1)) ∧
  (∀ (s : State), s.boot.mgtDown = true → s.isReady = true → s.gated = false → s.rb Reg.dbgWdog 0 = false →
    (bootSlot 2 s).rf Reg.rstBoot 5 4 ≠ 0 →
    ∃ t, exec .hollyhockRestart s = .next t ∧ t.boot.mgtDown = false) ∧
  (∀ (s : State), s.mgtRuns = true → s.nvm.trialRun = true →
    ∃ t, exec .trialTimeout s = .next t ∧ t.boot.mgtDown = true ∧ t.nvm.trialRun = false ∧ t.nvm.trial = none ∧
      t.rb Reg.rstCause 9 = true)

/-! ## Claims -/

/-- A resource is claimed while free, is released by its holder, and stays with another holder; a coil whose page is quiesced is not
claimed: the answer is MODE_ABORT. -/
def Obligations.ClaimsComplete : Prop :=
  (∀ (s : State) (ag : Agent) (w : Word), s.takes ag Reg.sysClaim → resListed (fld w 6 0) = true → bit w 31 = false →
    (fld w 6 0 < 12 → s.quiesced (Page.coil (fld w 6 0)) = false) → s.holder (fld w 6 0) = 0 →
    ∃ t, exec (.sysClaim ag w) s = .next t ∧ t.holder (fld w 6 0) = 1 ∧ t.rf Reg.sysClaimResult 31 24 = 0 ∧ SameBytes s t) ∧
  (∀ (s : State) (ag : Agent) (w : Word), s.takes ag Reg.sysClaim → resListed (fld w 6 0) = true → bit w 31 = false →
    (fld w 6 0 < 12 → s.quiesced (Page.coil (fld w 6 0)) = false) → 1 < s.holder (fld w 6 0) →
    ∃ t, exec (.sysClaim ag w) s = .next t ∧ t.rf Reg.sysClaimResult 31 24 = Err.resourceBusy ∧
      t.rf Reg.sysClaimResult 15 12 = s.holder (fld w 6 0) ∧ OnlyRegs [Reg.sysClaimResult] s t) ∧
  (∀ (s : State) (ag : Agent) (w : Word), s.takes ag Reg.sysClaim → resListed (fld w 6 0) = true → bit w 31 = true →
    s.holder (fld w 6 0) = 1 →
    ∃ t, exec (.sysClaim ag w) s = .next t ∧ t.holder (fld w 6 0) = 0 ∧ t.rf Reg.sysClaimResult 31 24 = 0) ∧
  (∀ (s : State) (ag : Agent) (w : Word), s.takes ag Reg.lspClaim → resListed (fld w 6 0) = true → bit w 31 = false →
    (fld w 6 0 < 12 → s.quiesced (Page.coil (fld w 6 0)) = false) → s.holder (fld w 6 0) = 0 →
    s.rb (Reg.ctrl Page.lsp) 0 = true →
    ∃ t, exec (.lspClaim ag w) s = .next t ∧ t.holder (fld w 6 0) = 3 ∧ t.rf Reg.lspClaimResult 31 24 = 0 ∧ SameBytes s t) ∧
  (∀ (s : State) (ag : Agent) (w : Word), s.takes ag Reg.lspClaim → resListed (fld w 6 0) = true → bit w 31 = true →
    s.holder (fld w 6 0) ≠ 0 → s.holder (fld w 6 0) ≠ 3 →
    s.rb (Reg.ctrl Page.lsp) 0 = true →
    ∃ t, exec (.lspClaim ag w) s = .next t ∧ t.rf Reg.lspClaimResult 31 24 = Err.ownerDenied ∧ OnlyRegs [Reg.lspClaimResult] s t) ∧
  (∀ (s : State) (ag : Agent) (w : Word), s.takes ag Reg.sysClaim → fld w 6 0 < 12 → bit w 31 = false →
    s.quiesced (Page.coil (fld w 6 0)) = true → s.holder (fld w 6 0) ≠ 1 →
    ∃ t, exec (.sysClaim ag w) s = .next t ∧ t.rf Reg.sysClaimResult 31 24 = Err.modeAbort ∧ OnlyRegs [Reg.sysClaimResult] s t)

/-! ## Calibration -/

/-- Calibration requests on quiesced pages with free units, the coils that COILS names among them, start, take the units and pages, and end with CAL.STATUS.BUSY clear and
IRQ_RAW[0]; a drift is reported. A request on a coil whose page is not quiesced is refused with NOT_QUIESCED, and one for a unit that is
held with RESOURCE_BUSY and its holder. -/
def Obligations.CalibrationComplete : Prop :=
  (∀ (s : State) (ag : Agent) (w : Word), s.takes ag Reg.calReq → s.mgtRuns = true → s.mgt.cal = none → s.quiesced Page.cal = false →
    (s.mgt.job.isSome = true → s.rf Reg.mboxState 31 24 ≠ 0x10) →
    (bitsOf 12 (fld w 27 16)).all (fun c => s.quiesced (Page.coil c) && s.holder c == 0) = true →
    (∃ t, exec (.calHfAdc ag w) s = .next t ∧ t.rf Reg.calStatus 27 24 = 1 ∧ t.rb Reg.calStatus 31 = true ∧ SameBytes s t ∧
      ((bitsOf 12 (fld w 27 16)).all (fun c => t.holder c == 2 && t.rb (Reg.status (Page.coil c)) 1)) = true) ∧
    (∃ t, exec (.calChannelGainPhase ag w) s = .next t ∧ t.rf Reg.calStatus 27 24 = 2 ∧ t.rb Reg.calStatus 31 = true ∧ SameBytes s t ∧
      ((bitsOf 12 (fld w 27 16)).all (fun c => t.holder c == 2 && t.rb (Reg.status (Page.coil c)) 1)) = true) ∧
    (∃ t, exec (.calTunerSweep ag w) s = .next t ∧ t.rf Reg.calStatus 27 24 = 3 ∧ t.rb Reg.calStatus 31 = true ∧ SameBytes s t ∧
      ((bitsOf 12 (fld w 27 16)).all (fun c => t.holder c == 2 && t.rb (Reg.status (Page.coil c)) 1)) = true) ∧
    (s.quiesced Page.crocus = true → s.pageUp Page.crocus = true → ∃ t, exec (.calCrocusBaseline ag w) s = .next t ∧ t.rf Reg.calStatus 27 24 = 8 ∧ t.rb Reg.calStatus 31 = true ∧
      ((bitsOf 12 (fld w 27 16)).all (fun c => t.holder c == 2 && t.rb (Reg.status (Page.coil c)) 1)) = true)) ∧
  (∀ (s : State) (ag : Agent) (w : Word), s.takes ag Reg.calReq → s.mgtRuns = true → s.mgt.cal = none → s.quiesced Page.cal = false →
    (s.mgt.job.isSome = true → s.rf Reg.mboxState 31 24 ≠ 0x10) →
    rbPages.all (fun p => s.quiesced p && s.pageUp p) = true → s.holder 0x78 = 0 →
    (∃ t, exec (.calRbAdcInterleave ag w) s = .next t ∧ t.rf Reg.calStatus 27 24 = 4 ∧ t.rb Reg.calStatus 31 = true ∧ t.holder 0x78 = 2) ∧
    (∃ t, exec (.calSynthBandTable ag w) s = .next t ∧ t.rf Reg.calStatus 27 24 = 5 ∧ t.rb Reg.calStatus 31 = true ∧ t.holder 0x78 = 2) ∧
    (∃ t, exec (.calPaAerial ag w) s = .next t ∧ t.rf Reg.calStatus 27 24 = 6 ∧ t.rb Reg.calStatus 31 = true ∧ t.holder 0x78 = 2)) ∧
  (∀ (s : State) (ag : Agent) (w : Word), s.takes ag Reg.calReq → s.mgtRuns = true → s.mgt.cal = none → s.quiesced Page.cal = false →
    (s.mgt.job.isSome = true → s.rf Reg.mboxState 31 24 ≠ 0x10) →
    (∃ t, exec (.calSensors ag w) s = .next t ∧ t.rf Reg.calStatus 27 24 = 7 ∧ t.rb Reg.calStatus 31 = true ∧ SameBytes s t) ∧
    (∃ t, exec (.calRecordWrite ag w) s = .next t ∧ t.rf Reg.calStatus 27 24 = 15 ∧ t.rb Reg.calStatus 31 = true ∧ SameBytes s t)) ∧
  (∀ (s : State) (k : Nat) (m : CalMeas) (j : CalJob), s.mgt.cal = some j → s.mgtRuns = true →
    ∃ t, exec (.calDone k m 0) s = .next t ∧ t.mgt.cal = none ∧ t.rb Reg.calStatus 31 = false ∧ t.rb (Reg.irqRaw Page.cal) 0 = true) ∧
  (∀ (s : State) (v : Int), s.mgtRuns = true → s.rf Reg.calDrift 7 0 ≠ 0 → s.dieSum = some v → s.drifted v ≠ [] →
    ∃ t, exec .driftCheck s = .next t ∧ t.rb (Reg.irqRaw Page.cal) 1 = true ∧ SamePages [Page.cal, Page.log, Page.evf, Page.queue] s t) ∧
  (∀ (s : State) (ag : Agent) (w : Word) (c : CoilIx), s.takes ag Reg.calReq → s.mgtRuns = true → s.mgt.cal = none →
    s.quiesced Page.cal = false → (s.mgt.job.isSome = true → s.rf Reg.mboxState 31 24 ≠ 0x10) → (fld w 27 16).testBit c = true →
    s.quiesced (Page.coil c) = false →
    ∃ t, exec (.calTunerSweep ag w) s = .next t ∧ t.mgt.cal = none ∧ t.rf Reg.calStatus 7 0 = Err.notQuiesced ∧
      SamePages [Page.cal, Page.dbg] s t ∧ SameBytes s t) ∧
  (∀ (s : State) (ag : Agent) (w : Word), s.takes ag Reg.calReq → s.mgtRuns = true → s.mgt.cal = none → s.quiesced Page.cal = false →
    (s.mgt.job.isSome = true → s.rf Reg.mboxState 31 24 ≠ 0x10) →
    rbPages.all (fun p => s.quiesced p && s.pageUp p) = true → s.holder 0x78 ≠ 0 →
    ∃ t, exec (.calPaAerial ag w) s = .next t ∧ t.mgt.cal = none ∧ t.rf Reg.calStatus 7 0 = Err.resourceBusy ∧
      t.rf Reg.calStatus 23 8 = s.resEntry 0x78 % 65536 ∧ SamePages [Page.cal, Page.dbg] s t ∧ SameBytes s t)

/-! ## The field time base -/

/-- Snapshots and sync edges: a capture takes the FTB for every waiting request and counts; a sync edge of a pin or of the first waiting
job stamps the FTB and counts, and the job's SYNC_OUT tick is kept. A measurement of the AON oscillator is shown on its tick. While FTB's
CTRL.EN is 0 a SNAP command is refused with MODE_ABORT. That a sync edge falls 20 ft after the bound also where SYNC_OUT is not driven
(log entry 15), and that a SNAP is refused while EN is 0 (entry 84), are the model's choice. -/
def Obligations.SnapshotAndSyncComplete : Prop :=
  (∀ (s : State) (ag : Agent), s.takes ag Reg.ftbSnapCtrl → s.rb (Reg.ctrl Page.ftb) 0 = true →
    ∃ t, exec (.snapGo (.write ag)) s = .next t ∧ t.time.snapReq = true ∧ t.time.snapWait = s.time.snapWait ++ [none] ∧
      { t with time := s.time } = s) ∧
  (∀ (s : State) (e : Task), s.delivers 0x34 e →
    ∃ t, exec (.snapGo .event) s = .next t ∧ t.time.snapReq = true ∧ SameRegs [] s t ∧ SameBytes s t) ∧
  (∀ (s : State) (i : Item), s.dispatches 0x10 i → s.rb (Reg.ctrl Page.ftb) 0 = true →
    ∃ t, exec .snap s = .next t ∧ t.time.snapReq = true ∧ t.time.snapWait = s.time.snapWait ++ [some i] ∧
      t.queue.cmd = s.queue.cmd.tail ∧ SamePages [5] s t ∧ SameBytes s t) ∧
  (∀ (s : State), s.time.snapReq = true → s.gated = false → s.now + 1 < 2 ^ 64 →
    ∃ t, exec .snapCapture s = .next t ∧ t.time.snapReq = false ∧ t.time.snapWait = [] ∧ t.regPair Reg.ftbSnapLo = s.now + 1 ∧
      t.rf Reg.ftbSnapCtrl 31 16 = (s.rf Reg.ftbSnapCtrl 31 16 + 1) % 65536 ∧ t.rb (Reg.irqRaw Page.ftb) 6 = true ∧ SameBytes s t) ∧
  (∀ (s : State) (ag : Agent), s.takes ag Reg.ftbSyncCtrl → s.rb (Reg.ctrl Page.ftb) 0 = true →
    ∃ t, exec (.syncGo (.write ag)) s = .next t ∧
      t.time.syncJobs = s.time.syncJobs ++ [⟨boundTick s.now + 20, s.rb Reg.ftbSyncCtrl 1, none⟩] ∧
      { t with time := s.time } = s) ∧
  (∀ (s : State) (i : Item), s.dispatches 0x11 i → bit (i.word 4) 0 = false → i.hasTick = false → s.rb (Reg.ctrl Page.ftb) 0 = true →
    ∃ t, exec .sync s = .next t ∧
      t.time.syncJobs = s.time.syncJobs ++ [⟨max (boundTick i.posted) (roundUp (s.now + 1) 8) + 20, false, some i⟩] ∧
      t.queue.cmd = s.queue.cmd.tail ∧ SamePages [5] s t ∧ SameBytes s t) ∧
  (∀ (s : State) (k : Nat), s.fldRuns = true → s.rb Reg.ftbSyncCtrl 0 = true → s.pinIgnored (roundUp k 4) = false →
    ∃ t, exec (.syncEdge k true) s = .next t ∧ t.regPair Reg.ftbSyncStampLo = t.now ∧ t.now = max s.now (roundUp k 4 + 16) % 2 ^ 64 ∧
      t.rf Reg.ftbSyncCtrl 31 16 = (s.rf Reg.ftbSyncCtrl 31 16 + 1) % 65536 ∧ t.time.lastSync = some t.now ∧
      t.rb (Reg.irqRaw Page.ftb) 5 = true ∧ SameBytes s t) ∧
  (∀ (s : State) (ft : Nat), s.fldRuns = true → 839025 ≤ ft → ft ≤ 855975 →
    ∃ t, exec (.aonMeasUpdate ft) s = .next t ∧ t.rf Reg.ftbAonMeas 23 0 = ft ∧ t.now = max s.now (s.time.measFrom + ft) % 2 ^ 64 ∧
      SameRegs [Reg.ftbAonMeas] (passTo (s.time.measFrom + ft) s) t ∧ SameBytes s t) ∧
  (∀ (s : State) (k : Nat) (j : SyncJob) (r : List SyncJob), s.fldRuns = true → s.time.syncJobs = j :: r → j.item = none →
    ∃ t, exec (.syncEdge k false) s = .next t ∧ t.time.syncJobs = r ∧ t.now = max s.now (s.syncDue j) % 2 ^ 64 ∧
      t.regPair Reg.ftbSyncStampLo = t.now ∧ t.time.lastSync = some t.now ∧
      t.time.lastOut = (if j.out then some (s.syncDue j - 20) else s.time.lastOut) ∧ SameBytes s t) ∧
  (∀ (s : State) (i : Item), s.dispatches 0x10 i → s.rb (Reg.ctrl Page.ftb) 0 = false →
    ∃ t, exec .snap s = .next t ∧ t.posted 0x10 i.seq i.handle Err.modeAbort [0, 0] = true ∧ t.time = s.time)

/-- Compare units and cadence generators: armed from the present tick, fired once at the target or the tick after, late when the target
has passed; a generator wraps every PERIOD. -/
def Obligations.CompareAndCadenceComplete : Prop :=
  (∀ (s : State) (ag : Agent) (k : CmpIx), s.unitTakes ag (0x20 + k) (Reg.ftbCmpCtrl k) →
    s.rb (Reg.ctrl Page.ftb) 0 = true → (s.rb (Reg.ftbCmpCtrl k) 0 = true → s.cmpDue k = true) →
    ∃ t, exec (.compareArm k (.write ag)) s = .next t ∧ t.rb (Reg.ftbCmpCtrl k) 0 = true ∧ tabGet 0 t.time.cmpArmed k = s.now ∧
      SameRegs [Reg.ftbCmpCtrl k] (cmpSettle k s) t ∧ SameBytes s t) ∧
  (∀ (s : State) (ag : Agent) (k : CmpIx), s.unitTakes ag (0x20 + k) (Reg.ftbCmpCtrl k) →
    s.rb (Reg.ctrl Page.ftb) 0 = true → s.rb (Reg.ftbCmpCtrl k) 0 = true → s.cmpDue k = false →
    exec (.compareArm k (.write ag)) s = .next s) ∧
  (∀ (s : State) (ag : Agent) (k : CmpIx) (w : Word), s.unitTakes ag (0x20 + k) (Reg.ftbCmpTargetHi k) →
    ∃ t, exec (.compareTargetWrite ag k w) s = .next t ∧
      t.cmpTarget k = pair (s.loFor (Reg.ftbCmpTargetLo k)) w ∧ (s.rb (Reg.ftbCmpCtrl k) 0 = true → tabGet 0 t.time.cmpArmed k = s.now) ∧
      SameRegs [Reg.ftbCmpTargetLo k, Reg.ftbCmpTargetHi k] s t ∧ SameBytes s t) ∧
  (∀ (s : State) (k : CmpIx), s.rb (Reg.ftbCmpCtrl k) 0 = true → s.fldRuns = true → s.quiesced Page.ftb = false →
    s.rf (Reg.errCode Page.ftb) 15 10 = 0 →
    ∃ t, exec (.compareFire k) s = .next t ∧ t.rb (Reg.ftbCmpCtrl k) 0 = false ∧ t.rb Reg.ftbCmpFired k = true ∧
      (s.cmpLate k = true → t.rb Reg.ftbCmpLate k = true ∧ t.rf (Reg.errCode Page.ftb) 7 0 = Err.late) ∧
      (s.rb (Reg.ftbCmpCtrl k) 1 = true → t.rb (Reg.irqRaw Page.ftb) 0 = true) ∧
      t.now = max s.now (max (s.cmpTarget k) (tabGet 0 s.time.cmpArmed k + 1)) % 2 ^ 64 ∧ SameBytes s t) ∧
  (∀ (s : State) (ag : Agent) (g : CadIx), s.unitTakes ag (0x40 + g) (Reg.ftbCadCtrl g) → s.rb (Reg.ftbCadCtrl g) 0 = false →
    s.rb (Reg.ftbCadCtrl g) 1 = false →
    s.rb (Reg.ctrl Page.ftb) 0 = true →
    ∃ t, exec (.cadenceRun g (.write ag)) s = .next t ∧ t.rb (Reg.ftbCadCtrl g) 0 = true ∧ tabGet 0 t.time.cadNext g = s.now + 1 ∧
      SameRegs [Reg.ftbCadCtrl g] s t ∧ SameBytes s t) ∧
  (∀ (s : State) (ag : Agent) (g : CadIx), s.unitTakes ag (0x40 + g) (Reg.ftbCadCtrl g) → s.rb (Reg.ftbCadCtrl g) 0 = true →
    ∃ t, exec (.cadenceStop g (.write ag)) s = .next t ∧ t.rb (Reg.ftbCadCtrl g) 0 = false ∧
      t.reg (Reg.ftbCadCount g) = wd (s.cadCount g) ∧ OnlyRegs [Reg.ftbCadCtrl g, Reg.ftbCadCount g] s t) ∧
  (∀ (s : State) (g : CadIx), s.rb (Reg.ftbCadCtrl g) 0 = true → s.fldRuns = true → s.quiesced Page.ftb = false →
    ∃ t, exec (.cadenceWrap g) s = .next t ∧ t.reg (Reg.ftbCadWraps g) = s.reg (Reg.ftbCadWraps g) + 1 ∧
      tabGet 0 t.time.cadNext g = tabGet 0 s.time.cadNext g + s.cadPeriod g ∧ t.rb (Reg.ftbCadStatus g) 0 = true ∧
      (s.rb (Reg.ftbCadCtrl g) 2 = true → t.rb (Reg.irqRaw Page.ftb) 2 = true) ∧
      SamePages [Page.ftb] (passTo (tabGet 0 s.time.cadNext g) s) t ∧ SameBytes s t) ∧
  (∀ (s : State) (ag : Agent) (g : CadIx) (w : Word), s.unitTakes ag (0x40 + g) (Reg.ftbCadPeriod g) →
    s.rb (Reg.stageCtrl Page.ftb) 0 = false → s.rb (Reg.ftbCadCtrl g) 0 = true →
    tabGet 0 s.time.cadZero g ≤ s.now →
    ∃ t, exec (.cadencePeriodChange ag g w) s = .next t ∧ t.reg (Reg.ftbCadPeriod g) = w ∧ t.cadPeriod g = max 16 w.toNat ∧
      (s.cadCount g + 2 ≤ max 16 w.toNat → tabGet 0 t.time.cadNext g = tabGet 0 s.time.cadZero g + max 16 w.toNat) ∧
      (max 16 w.toNat ≤ s.cadCount g + 1 → tabGet 0 t.time.cadNext g = s.now + 1) ∧
      SameRegs [Reg.ftbCadPeriod g] s t ∧ SameBytes s t) ∧
  (∀ (s : State) (e : Task) (c : CapIx), s.delivers (0x30 + c) e → s.rb (Reg.ftbCapCtrl c) 0 = true →
    tabGet false s.time.capLatched c = false → s.rb (Reg.ftbCapStatus c) 0 = false →
    ∃ t, exec (.captureEvent c) s = .next t ∧ t.regPair (Reg.ftbCapLo c) = e.tick % 2 ^ 64 ∧ t.rb (Reg.ftbCapStatus c) 0 = true ∧
      (s.rb (Reg.ftbCapCtrl c) 2 = true → t.rb (Reg.irqRaw Page.ftb) 3 = true) ∧ SamePages [Page.ftb] s t ∧ SameBytes s t)

/-- Units started by an event on their task input, with the same effect as the write. That the edge of a SYNC falls 20 ft after the bound
is the model's choice (log entry 15). -/
def Obligations.TaskEventsComplete : Prop :=
  (∀ (s : State) (e : Task) (k : CmpIx), s.delivers k e → (s.rb (Reg.ftbCmpCtrl k) 0 = true → s.cmpDue k = true) →
    ∃ t, exec (.compareArm k .event) s = .next t ∧ t.rb (Reg.ftbCmpCtrl k) 0 = true ∧ tabGet 0 t.time.cmpArmed k = s.now ∧
      SameRegs [Reg.ftbCmpCtrl k] (cmpSettle k s) t ∧ SameBytes s t) ∧
  (∀ (s : State) (e : Task) (k : CmpIx), s.delivers k e → s.rb (Reg.ftbCmpCtrl k) 0 = true → s.cmpDue k = false →
    s.rf (Reg.errCode Page.evf) 15 10 = 0 →
    ∃ t, exec (.compareArm k .event) s = .next t ∧ t.rf (Reg.errCode Page.evf) 7 0 = Err.overrun ∧
      t.reg (Reg.errInfo Page.evf) = wd k ∧ t.rb (Reg.evfOverrunFlag (k / 32)) (k % 32) = true ∧ t.rb (Reg.irqRaw Page.evf) 1 = true ∧
      SamePages [Page.evf, Page.dbg] s t ∧ SameBytes s t) ∧
  (∀ (s : State) (e : Task) (g : CadIx), s.delivers (0x20 + g) e → s.rb (Reg.ftbCadCtrl g) 0 = false → s.rb (Reg.ftbCadCtrl g) 1 = false →
    ∃ t, exec (.cadenceRun g .event) s = .next t ∧ t.rb (Reg.ftbCadCtrl g) 0 = true ∧ tabGet 0 t.time.cadNext g = s.now + 1 ∧
      SameBytes s t) ∧
  (∀ (s : State) (e : Task) (g : CadIx), s.delivers (0x28 + g) e → s.rb (Reg.ftbCadCtrl g) 0 = true →
    ∃ t, exec (.cadenceStop g .event) s = .next t ∧ t.rb (Reg.ftbCadCtrl g) 0 = false ∧
      SameRegs [Reg.ftbCadCtrl g, Reg.ftbCadCount g] s t ∧ SameBytes s t) ∧
  (∀ (s : State) (e : Task), s.delivers 0x35 e → s.syncBusy = false →
    ∃ t, exec (.syncGo .event) s = .next t ∧ t.time.syncJobs = s.time.syncJobs ++ [⟨boundTick s.now + 20, s.rb Reg.ftbSyncCtrl 1, none⟩] ∧
      SameRegs [] s t ∧ SameBytes s t) ∧
  (∀ (s : State) (e : Task), s.delivers 0x9b e →
    ∃ t, exec .evfTaskIrq s = .next t ∧ t.rb (Reg.irqRaw Page.evf) 0 = true ∧
      SameRegs [Reg.irqRaw Page.evf, Reg.irqStat Page.evf] s t ∧ SameBytes s t) ∧
  (∀ (s : State) (e : Task), s.delivers 0x9a e →
    ∃ t, exec .mboxNotify s = .next t ∧ t.rb (Reg.irqRaw Page.mbox) 1 = true ∧
      t.rf Reg.mboxNotifyCnt 15 0 = min 0xffff (s.rf Reg.mboxNotifyCnt 15 0 + 1) ∧ SamePages [Page.mbox] s t ∧ SameBytes s t) ∧
  (∀ (s : State) (e : Task) (n : GpIx), s.delivers (0x38 + n) e → tabGet none s.fab.gpPulse n = none → s.rf (Reg.evfGpCfg n) 2 0 = 2 →
    s.rf (Reg.evfGpCfg n) 7 6 = 3 →
    ∃ t, exec (.gpEventOutput n) s = .next t ∧ tabGet false t.fab.gpDrive n = true ∧
      (t.rb Reg.evfGpIn n = false → (tabGet none t.fab.gpSince n).isSome = true) ∧
      tabGet none t.fab.gpPulse n = some (s.now + max 1 (s.rf (Reg.evfGpCfg n) 31 16)) ∧
      SameRegs [] (pinTurn (2 * s.now) n (cellsNow s)) t ∧ SameBytes s t)

/-! ## The event fabric -/

/-- Events: a channel passes and counts an event outside its spacing, holds one inside it and suppresses another while it holds one; two of one
edge are one, with the earlier tick and the lower producer; fires enter the channels they name; a channel, a pin, a pulse and a cell take what
is written to them or what comes to them. -/
def Obligations.EventFabricComplete : Prop :=
  (∀ (s : State) (n : ChanIx) (k : Nat) (e : Event), s.gated = false → s.quiesced Page.evf = false →
    s.fab.waiting.filter (fun x => s.chanOf x == n) = [e] → (s.limiter n).held = none →
    (s.limiter n).last.all (fun p => decide (p + s.spacing n ≤ k)) = true →
    ∃ t, exec (.eventChannelEntry n k 1) s = .next t ∧ t.reg (Reg.evfChCount n) = s.reg (Reg.evfChCount n) + 1 ∧
      (t.limiter n).last = some k ∧ t.fab.waiting = s.fab.waiting.erase e ∧
      t.fab.tasks = s.fab.tasks ++ ((s.subscribers n).filter (fun i => !s.cellShut i)).map (fun i =>
        ⟨i, if e.prod = 0xf8 ∨ e.prod = 0xf9 then k / 2 else e.tick, n, k⟩) ∧ SameBytes s t) ∧
  (∀ (s : State) (n : ChanIx) (k : Nat) (x y : Event), s.gated = false → s.quiesced Page.evf = false →
    s.fab.waiting.filter (fun z => s.chanOf z == n) = [x, y] → (s.limiter n).held = none →
    (s.limiter n).last.all (fun p => decide (p + s.spacing n ≤ k)) = true → x.prod ≠ 0xf8 → x.prod ≠ 0xf9 → y.prod ≠ 0xf8 → y.prod ≠ 0xf9 →
    ∃ t, exec (.eventChannelEntry n k 2) s = .next t ∧ t.reg (Reg.evfChCount n) = s.reg (Reg.evfChCount n) + 1 ∧
      t.rb (Reg.evfChStatus n) 1 = true ∧ t.rb (Reg.irqRaw Page.evf) 4 = true ∧ (t.limiter n).last = some k ∧
      t.fab.tasks = s.fab.tasks ++ ((s.subscribers n).filter (fun i => !s.cellShut i)).map (fun i => ⟨i, min x.tick y.tick, n, k⟩) ∧
      (s.toQueue n = false → SamePages [Page.evf] (passTo (k / 2) s) t) ∧ SameBytes s t) ∧
  (∀ (s : State) (n : ChanIx) (k p : Nat) (x y : Event), s.gated = false → s.quiesced Page.evf = false →
    s.fab.waiting.filter (fun z => s.chanOf z == n) = [x, y] → (s.limiter n).held = none → (s.limiter n).last = some p →
    k < p + s.spacing n →
    ∃ t, exec (.eventChannelEntry n k 2) s = .next t ∧ (t.limiter n).held.map HeldEvent.prod = some (min x.prod y.prod) ∧
      (t.limiter n).held.map HeldEvent.merged = some true ∧ t.reg (Reg.evfChCount n) = s.reg (Reg.evfChCount n) ∧ SameBytes s t) ∧
  (∀ (s : State) (n : ChanIx) (k : Nat) (e : Event) (h : HeldEvent), s.gated = false → s.quiesced Page.evf = false →
    s.fab.waiting.filter (fun x => s.chanOf x == n) = [e] → (s.limiter n).held = some h → k < h.due →
    s.rf (Reg.errCode Page.evf) 15 10 = 0 →
    ∃ t, exec (.eventChannelEntry n k 1) s = .next t ∧ t.limiter n = s.limiter n ∧ t.fab.waiting = s.fab.waiting.erase e ∧
      t.rf (Reg.evfChStatus n) 31 16 = min 0xffff (s.rf (Reg.evfChStatus n) 31 16 + 1) ∧ t.rb (Reg.evfChStatus n) 0 = true ∧
      t.rb (Reg.irqRaw Page.evf) 3 = true ∧ t.rf (Reg.errCode Page.evf) 7 0 = Err.rateLimited ∧ t.reg (Reg.errInfo Page.evf) = wd n ∧
      t.reg (Reg.evfChCount n) = s.reg (Reg.evfChCount n) ∧ SamePages [Page.evf, Page.dbg] (passTo (k / 2) s) t ∧ SameBytes s t) ∧
  (∀ (s : State) (n : ChanIx) (k p : Nat) (e : Event), s.gated = false → s.quiesced Page.evf = false →
    s.fab.waiting.filter (fun x => s.chanOf x == n) = [e] → (s.limiter n).held = none → (s.limiter n).last = some p →
    k < p + s.spacing n →
    ∃ t, exec (.eventChannelEntry n k 1) s = .next t ∧ t.reg (Reg.evfChCount n) = s.reg (Reg.evfChCount n) ∧
      (t.limiter n).held.map HeldEvent.due = some (p + s.spacing n) ∧ t.rb (Reg.evfChStatus n) 2 = true ∧
      SameRegs [Reg.evfChStatus n] (passTo (k / 2) s) t ∧ SameBytes s t) ∧
  (∀ (s : State) (n : ChanIx) (h : HeldEvent), s.gated = false → (s.limiter n).held = some h →
    ∃ t, exec (.limiterRelease n) s = .next t ∧ (t.limiter n).held = none ∧ (t.limiter n).last = some h.due ∧
      t.reg (Reg.evfChCount n) = s.reg (Reg.evfChCount n) + 1 ∧ SameBytes s t) ∧
  (∀ (s : State) (ag : Agent) (k : PlayerIx) (w : Word), s.reaches ag Reg.evfFire → s.chanSecure ag (fld w 5 0) = false →
    s.rb (Reg.ctrl Page.evf) 0 = true →
    ∃ t, exec (.evfFire ag k w) s = .next t ∧ t.fab.waiting = s.fab.waiting ++ [⟨firer ag k, s.now, some (fld w 5 0)⟩] ∧
      { t with fab := s.fab } = s) ∧
  (∀ (s : State) (ag : Agent) (k : PlayerIx) (w : Word), s.reaches ag Reg.evfFireMaskHi →
    (bitsOf 64 (pair (s.loFor Reg.evfFireMaskLo) w)).any (s.chanSecure ag) = false → s.rb (Reg.ctrl Page.evf) 0 = true →
    ∃ t, exec (.evfFireMask ag k w) s = .next t ∧
      t.fab.waiting = s.fab.waiting ++ (bitsOf 64 (pair (s.loFor Reg.evfFireMaskLo) w)).map (fun n => ⟨firer ag k, s.now, some n⟩) ∧
      { t with fab := s.fab, time := s.time } = s) ∧
  (∀ (s : State) (w : Word), s.reaches .host Reg.evfChReclaim → fld w 31 16 = 0xc35a → s.rf (Reg.evfChCfg (fld w 5 0)) 15 14 = 2 →
    ∃ t, exec (.evfChReclaim .host w) s = .next t ∧ t.rf (Reg.evfChCfg (fld w 5 0)) 15 14 = 0 ∧ OnlyRegs [Reg.evfChCfg (fld w 5 0)] s t) ∧
  (∀ (s : State) (ag : Agent) (w : Word), s.takes ag Reg.evfCntClr →
    ∃ t, exec (.evfCntClr ag w) s = .next t ∧ (bit w 0 = true → t.reg Reg.evfCnt = 0) ∧ (bit w 1 = true → t.reg Reg.evfDropCnt = 0) ∧
      (bit w 2 = true → (List.range 64).all (fun n => t.rf (Reg.evfChStatus n) 31 16 == 0) = true) ∧ SamePages [Page.evf] s t ∧
      SameBytes s t) ∧
  (∀ (s : State) (n : GpIx) (b : Bool) (k : Nat), s.gated = false → s.rb Reg.evfGpIn n ≠ b →
    ∃ t, exec (.gpInputEdge n b k) s = .next t ∧ t.rb Reg.evfGpIn n = b ∧ SameRegs [Reg.evfGpIn] (cellsNow (passTo k s)) t ∧ SameBytes s t) ∧
  (∀ (s u : State) (n : GpIx) (k : Nat), s.gated = false → tabGet none s.fab.gpPulse n = some k → u = cellsNow (passTo k s) →
    ∃ t, exec (.gpPulseEnd n) s = .next t ∧ tabGet none t.fab.gpPulse n = none ∧ tabGet false t.fab.gpDrive n = false ∧
      (t.rb Reg.evfGpIn n = true → (tabGet none t.fab.gpSince n).isSome = true) ∧
      SameRegs [] (pinTurn (2 * u.now) n u) t ∧ SameBytes s t) ∧
  (∀ (s : State) (ag : Agent) (w : Word), s.takes ag Reg.evfGpOut →
    (bitsOf 16 (fld w 31 16)).all (fun n => s.holds ag (0x68 + n)) = true →
    ∃ t, exec (.gpOutWrite ag w) s = .next t ∧ (bitsOf 16 (fld w 31 16)).all (fun n => t.rb Reg.evfGpOut n == bit w n) = true ∧
      SameRegs [Reg.evfGpOut, Reg.evfGpIn] (cellsNow s) t ∧ SameBytes s t) ∧
  (∀ (s u : State) (c : CellIx) (k : Nat), s.quiesced Page.evfLut = false → s.gated = false → s.rf (Reg.evfLutCellCfg c) 15 12 = 0 →
    u = cellsTo k (passTo (k / 2) s) →
    ∃ t, exec (.cellOutputChange c k) s = .next t ∧ t.rb (Reg.evfLutCellStatus c) 1 = u.cellOut true k c ∧
      SamePages [Page.evf, Page.evfLut] u t ∧ SameBytes s t)

/-! ## Coil channels -/

/-- The receive chain of a coil: a restart and a change of profile set a reset edge on a carrier-cycle boundary, the first input sample
from that edge on finds the chain cleared, every sample moves the chain by one tick, an output is shown with its tick and counted, and the
counters clear. -/
def Obligations.ChainCommandsComplete : Prop :=
  (∀ (s u : State) (ag : Agent) (n : CoilIx) (w : Word), s.takes ag (Reg.coilChainCtrl n) →
    s.rb (Reg.stageCtrl (Page.coil n)) 0 = false → s.quiesced (Page.coil n) = false → u = chainEdge n s.now s →
    u.rb (Reg.coilChainStatus n) 0 = true → bit w 0 = true → bit w 1 = s.rb (Reg.coilChainCtrl n) 1 →
    ∃ t, exec (.chainRestart ag n w) s = .next t ∧
      (t.coil n).pendReset = some (s.nextCc, (((u.coil n).pendReset.map Prod.snd).getD (u.coil n).loaded)) ∧
      t.rb (Reg.coilChainStatus n) 0 = true ∧ SameRegs [Reg.coilChainCtrl n] u t ∧ SameBytes s t) ∧
  (∀ (s : State) (ag : Agent) (n : CoilIx) (w : Word), s.takes ag (Reg.coilChainCtrl n) →
    s.rb (Reg.stageCtrl (Page.coil n)) 0 = false → s.quiesced (Page.coil n) = false →
    (chainEdge n s.now s).rb (Reg.coilChainStatus n) 0 = true → bit w 0 = true → bit w 1 ≠ s.rb (Reg.coilChainCtrl n) 1 →
    ∃ t, exec (.profileChange ag n w) s = .next t ∧ t.rb (Reg.coilChainCtrl n) 1 = bit w 1 ∧
      (s.now < s.ccNow → (t.coil n).pendReset = some (s.ccNow, s.profile n (bit w 1).toNat)) ∧
      (s.ccNow ≤ s.now → (t.coil n).pendReset = none ∧ (t.coil n).resetEdge = s.ccNow ∧
        (t.coil n).loaded = s.profile n (bit w 1).toNat ∧ t.reg (Reg.coilOutCount n) = 0) ∧ SamePages [Page.coil n] s t ∧
      SameBytes s t) ∧
  (∀ (s : State) (n : CoilIx) (l : List Int), s.rb (Reg.coilChainStatus n) 0 = true → (s.coil n).pendReset = none →
    ∃ t, exec (.chainOutput n l) s = .next t ∧ (t.coil n).nextTick = (s.coil n).nextTick + l.length ∧ SameBytes s t) ∧
  (∀ (s : State) (n : CoilIx) (l : List Int), s.rb (Reg.coilChainStatus n) 0 = false → (s.coil n).pendReset = none →
    l.all (fun x => !clipped (adc x)) = true →
    ∃ t, exec (.chainOutput n l) s = .next t ∧ SameRegs [] (passGov s.now s) t ∧ SameBytes s t) ∧
  (∀ (s : State) (n : CoilIx) (x : Int) (p1 p2 p3 : StageSt) (z1 z2 z3 y : Int × Int) (k : Nat), s.rb (Reg.coilChainStatus n) 0 = true →
    (s.coil n).pendReset = none → k = (s.coil n).nextTick → k + 10 < 2 ^ 64 →
    stagePush ((s.coil n).loaded.getD 0 0) (s.coil n).st1 (mix k (adc x)) = (p1, some (z1, 0)) →
    stagePush ((s.coil n).loaded.getD 1 0) (s.coil n).st2 z1 = (p2, some (z2, 0)) →
    stagePush ((s.coil n).loaded.getD 2 0) (s.coil n).st3 z2 = (p3, some (z3, 0)) → y = calGain (s.reg (Reg.coilCalGain n)) z3 →
    ∃ t, exec (.chainOutput n [x]) s = .next t ∧ t.reg (Reg.coilOutCount n) = wd ((s.reg (Reg.coilOutCount n)).toNat + 1) ∧
      t.regPair (Reg.coilOutTickLo n) = k ∧ t.reg (Reg.coilOutI n) = signWord y.1 ∧ t.reg (Reg.coilOutQ n) = signWord y.2 ∧
      t.rf (Reg.coilOutMag n) 23 0 = isqrt (y.1 * y.1 + y.2 * y.2).toNat % 2 ^ 24 ∧
      t.rf (Reg.coilOutPhase n) 15 0 = unsigned 16 (phaseOf y.1 y.2) ∧
      t.rb (Reg.coilChainStatus n) 1 = decide (2 * (k - (s.coil n).resetEdge) < groupDelay2 (s.coil n).loaded) ∧
      ((t.coil n).outs.head?.map (fun o => (o.tick, o.i, o.q))) = some (k, y.1, y.2) ∧ (t.coil n).st3 = p3 ∧
      (s.reg (Reg.coilThrCtrl n) = 0 → SamePages [Page.coil n, Page.dbg] s t) ∧ SameBytes s t) ∧
  (∀ (s : State) (ag : Agent) (n : CoilIx) (w : Word), s.takes ag (Reg.coilCntClr n) →
    ∃ t, exec (.coilCntClr ag n w) s = .next t ∧ (bit w 0 = true → t.reg (Reg.coilDrvCnt n) = 0) ∧
      (bit w 1 = true → t.reg (Reg.coilSenseCnt n) = 0) ∧ (bit w 2 = true → t.rf (Reg.coilThrStatus n) 31 16 = 0) ∧
      OnlyRegs [Reg.coilDrvCnt n, Reg.coilSenseCnt n, Reg.coilThrStatus n] s t) ∧
  (∀ (s : State) (n : CoilIx) (x : Int) (e : Nat) (ws : List Word), s.rb (Reg.coilChainStatus n) 0 = true →
    s.quiesced (Page.coil n) = false → s.fldRuns = true → (s.coil n).pendReset = some (e, ws) → e ≤ (s.coil n).nextTick →
    ∃ t, exec (.chainOutput n [x]) s = .next t ∧ (t.coil n).pendReset = none ∧ (t.coil n).resetEdge = e ∧ (t.coil n).loaded = ws ∧
      (t.coil n).nextTick = e + 1 ∧ (1 < stageStep (ws.getD 0 0) → (t.coil n).st1.count = 1 ∧ (t.coil n).st1.hist = [mix e (adc x)] ∧
        (t.coil n).st2 = {} ∧ (t.coil n).st3 = {}) ∧ t.rf (Reg.coilChainStatus n) 2 2 = s.rf (Reg.coilChainCtrl n) 1 1)

/-- The drive side of a coil: the conduction angle against its headroom, also while a fade or a ramp moves the drive, a completed
mismatch measurement, the current limit, and the tuner's code. That MM_MEAS saturates is the model's choice (log entry 28). -/
def Obligations.CoilDriveComplete : Prop :=
  (∀ (s : State) (c : CoilIx) (v : Nat), s.moving = false →
    ∃ t, exec (.thetaRecompute c v) s = .next t ∧ (t.coil c).vfld = some v ∧ t.theta c = thetaOf (s.amp2 c) v ∧ t.theta c ≤ 1024 ∧
      t.rb (Reg.coilDriveStatus c) 2 = overHead (s.amp2 c) v ∧ (overHead (s.amp2 c) v = true → t.theta c = 1024) ∧
      SameRegs [Reg.coilDriveStatus c, Reg.irqRaw (Page.coil c), Reg.irqStat (Page.coil c)] s t ∧ SameBytes s t) ∧
  (∀ (s : State) (c : CoilIx) (v : Nat), s.moving = true →
    ∃ t, exec (.thetaRecompute c v) s = .next t ∧ (t.coil c).vfld = some v ∧ t.theta c ≤ 1024 ∧ SameBytes s t) ∧
  (∀ (s : State) (c : CoilIx) (k v i : Nat) (p : Int), (s.coil c).mmDue = some k →
    ∃ t, exec (.mmMeasurementDone c v i p) s = .next t ∧ t.rf (Reg.coilMmMeas c) 15 0 = min 0xffff v ∧
      t.rf (Reg.coilMmMeas c) 30 16 = min 0x7fff i ∧ t.rb (Reg.coilMmMeas c) 31 = true ∧
      t.rf (Reg.coilMmResult c) 31 16 = (s.mmResult c v i p).1 ∧ (t.coil c).mmDue = none) ∧
  (∀ (s : State) (c : CoilIx), (s.coilOn c = true ∨ s.watchPulse c = true) → s.rf (Reg.errCode (Page.coil c)) 15 10 = 0 →
    ∃ t, exec (.driverCurrentLimit c) s = .next t ∧ t.rf (Reg.coilDrvCnt c) 31 16 = min 0xffff (s.rf (Reg.coilDrvCnt c) 31 16 + 1) ∧
      t.rb (Reg.irqRaw (Page.coil c)) 3 = true ∧ t.rf (Reg.errCode (Page.coil c)) 7 0 = Err.detuned) ∧
  (∀ (s : State) (c : CoilIx), s.coilOn c = false ∨ s.holder c = 2 →
    ∃ t, exec (.tuneCodeApply c) s = .next t ∧ (t.coil c).cap = s.rf (Reg.coilTuneCap c) 7 0 ∧ SameRegs [] (passTo (ccAt s.now) s) t ∧ SameBytes s t)

/-! ## Field shaping -/

/-- Coil sets and banks: coils are claimed and released whole, a bank swap fades or waits, and weights go into an idle bank alone. The
governor: a measured total is shown, and above 105 % of the budget the factor g falls at the next carrier-cycle boundary by the square
root of their ratio. That GOV_MEAS saturates (log entry 28), the units of powers (entry 31) and that the command takes the FTB to the
boundary (entry 104) are the model's choice. -/
def Obligations.FieldShapingComplete : Prop :=
  (∀ (s : State) (ag : Agent) (n : EngIx) (m : Nat), s.takes ag (Reg.fwgtFeCoils n) →
    s.rb (Reg.stageCtrl Page.fwgt) 0 = false → m < 4096 → s.coilRefused n (m &&& (s.coilSet n ^^^ 0xfff)) = none →
    s.rb (Reg.ctrl Page.fwgt) 0 = true →
    ∃ t, exec (.coilSetAdd ag n m) s = .next t ∧ t.coilSet n = s.coilSet n ||| m ∧
      (bitsOf 12 (m &&& (s.coilSet n ^^^ 0xfff))).all (fun c => t.feHolds n c) = true ∧ SameBytes s t) ∧
  (∀ (s : State) (ag : Agent) (n : EngIx) (m : Nat), s.takes ag (Reg.fwgtFeCoils n) →
    s.rb (Reg.stageCtrl Page.fwgt) 0 = false → m < 4096 → (bitsOf 12 m).all (fun c => !s.coilOn c) = true →
    ∃ t, exec (.coilSetRemove ag n m) s = .next t ∧ t.coilSet n = s.coilSet n &&& (m ^^^ 0xfff) ∧
      (bitsOf 12 (m &&& s.coilSet n)).all (fun c => !t.feHolds n c) = true) ∧
  (∀ (s : State) (c : CoilIx), (s.coil c).damped = true → s.coilOn c = false →
    ∃ t, exec (.coilRelease c) s = .next t ∧ t.holder c = 0 ∧ (t.coil c).damped = false ∧ SamePages [Page.sys, Page.fwgt] s t ∧
      SameBytes s t) ∧
  (∀ (s : State) (ag : Agent) (n : EngIx) (b : Bool), s.takes ag (Reg.fwgtFeBank n) →
    s.rb (Reg.stageCtrl Page.fwgt) 0 = false → (s.eng n).fade = none → (s.eng n).swapTo = none → s.quiesced Page.fwgt = false →
    s.rf (Reg.fwgtFeBank n) 0 0 = s.bankInUse n → b.toNat ≠ s.bankInUse n → 0 < s.rf (Reg.fwgtFeBank n) 26 16 →
    ∃ t, exec (.bankSelWrite ag n b) s = .next t ∧ (t.eng n).fade = some (s.ccNow, min 1024 (s.rf (Reg.fwgtFeBank n) 26 16)) ∧
      t.rf (Reg.fwgtFeBank n) 0 0 = b.toNat ∧ t.rb (Reg.fwgtFeBank n) 3 = true ∧ t.bankInUse n = s.bankInUse n ∧
      SamePages (Page.fwgt :: Page.dbg :: (List.range 12).map Page.coil) s t ∧ SameBytes s t) ∧
  (∀ (s : State) (e : Task) (n : EngIx), s.delivers (0x94 + n) e → (s.eng n).fade = none → (s.eng n).swapTo = none →
    s.rf (Reg.fwgtFeBank n) 0 0 = s.bankInUse n → 0 < s.rf (Reg.fwgtFeBank n) 26 16 →
    ∃ t, exec (.bankSwapEvent n) s = .next t ∧ (t.eng n).fade = some (s.ccNow, min 1024 (s.rf (Reg.fwgtFeBank n) 26 16)) ∧
      t.rf (Reg.fwgtFeBank n) 0 0 = 1 - s.bankInUse n ∧ SamePages (Page.fwgt :: Page.dbg :: (List.range 12).map Page.coil) s t ∧
      SameBytes s t) ∧
  (∀ (s : State) (n : EngIx) (k len : Nat), (s.eng n).fade = some (k, len) → (s.eng n).swapTo = none →
    ∃ t, exec (.xfadeEnd n) s = .next t ∧ (t.eng n).fade = none ∧ t.bankInUse n = 1 - s.bankInUse n ∧
      t.rb (Reg.irqRaw Page.fwgt) 0 = true ∧ t.rf (Reg.fwgtFeSwapCnt n) 15 0 = min 0xffff (s.rf (Reg.fwgtFeSwapCnt n) 15 0 + 1) ∧
      SamePages (Page.fwgt :: Page.dbg :: (List.range 12).map Page.coil) s t ∧ SameBytes s t) ∧
  (∀ (s : State) (ag : Agent) (n : EngIx) (c : CoilIx) (w : Word), s.takes ag (Reg.fwgtFeWa n c) → s.bankInUse n = 1 →
    (s.eng n).fade = none → (s.eng n).swapTo = none →
    ∃ t, exec (.weightWrite ag n false c w) s = .next t ∧ t.reg (Reg.fwgtFeWa n c) = w ∧ OnlyRegs [Reg.fwgtFeWa n c] s t) ∧
  (∀ (s : State) (ag : Agent) (n : EngIx) (c : CoilIx) (w : Word), s.takes ag (Reg.fwgtFeWb n c) → s.bankInUse n = 1 →
    s.rf (Reg.errCode Page.fwgt) 15 10 = 0 →
    ∃ t, exec (.weightWrite ag n true c w) s = .next t ∧ t.reg (Reg.fwgtFeWb n c) = s.reg (Reg.fwgtFeWb n c) ∧
      t.rf (Reg.errCode Page.fwgt) 7 0 = Err.resourceBusy ∧ SameRegs (reportRegs Page.fwgt) s t ∧ SameBytes s t) ∧
  (∀ (s : State) (ag : Agent) (w : Word), s.takes ag Reg.fwgtCntClr →
    ∃ t, exec (.fwgtCntClr ag w) s = .next t ∧ (bit w 0 = true → t.reg Reg.fwgtGovCnt = 0) ∧
      (bit w 1 = true → (List.range 4).all (fun n => t.reg (Reg.fwgtFeSwapCnt n) == 0) = true) ∧ SamePages [Page.fwgt] s t ∧
      SameBytes s t) ∧
  (∀ (s : State) (mw : Nat), ∃ t, exec (.governorMeasure mw) s = .next t ∧ t.rf Reg.fwgtGovMeas 11 0 = min 4095 mw ∧
    SamePages (Page.fwgt :: Page.dbg :: (List.range 12).map Page.coil) s t ∧ SameBytes s t ∧ t.queue = s.queue ∧ t.sess = s.sess) ∧
  (∀ (s u : State) (mw : Nat), 105 * s.budgetB < 100 * (mw * 1000 * powerUnit) →
    u = limitEnd (passTo s.nextCc (setRf Reg.fwgtGovMeas 11 0 (min 4095 mw) s)) →
    ∃ t, exec (.governorMeasure mw) s = .next t ∧
      t.govG = min u.govG (openRoot (u.govG * u.govG * u.budgetB) (mw * 1000 * powerUnit)))

/-- FIELD and BANK steps of a field engine: the field of a held coil comes on and goes off on its step, and a bank request starts its
fade on the step's carrier-cycle boundary. -/
def Obligations.FieldStepsComplete : Prop :=
  (∀ (s : State) (n : EngIx) (c : CoilIx) (i : Issued), s.nextStep n = some i → i.op = 1 → s.quiesced (Page.fe n) = false →
    i.operand = 2 ^ 24 + 2 ^ c.val → s.feHolds n c = true → s.driveBar = none → (s.coil c).damped = false → (s.coil c).injected = false →
    s.commit = none →
    ∃ t, exec (.fieldStep n) s = .next t ∧ t.coilOn c = true ∧ t.rb (Reg.feFieldStatus n) 30 = true ∧
      (t.player n).flight = (s.player n).flight.erase i) ∧
  (∀ (s : State) (n : EngIx) (i : Issued), s.nextStep n = some i → i.op = 1 → s.quiesced (Page.fe n) = false → i.operand = 0 →
    ∃ t, exec (.fieldStep n) s = .next t ∧ (s.heldCoils n).all (fun c => !t.coilOn c) = true ∧ t.rb (Reg.feFieldStatus n) 30 = false) ∧
  (∀ (s : State) (n : EngIx) (i : Issued), s.nextStep n = some i → i.op = 2 → s.quiesced (Page.fe n) = false →
    s.quiesced Page.fwgt = false → (s.eng n).fade = none → (s.eng n).swapTo = none → i.operand % 2 ≠ s.bankInUse n →
    0 < s.rf (Reg.fwgtFeBank n) 26 16 →
    ∃ t, exec (.bankStep n) s = .next t ∧ (t.eng n).fade = some (ccAt i.act, min 1024 (s.rf (Reg.fwgtFeBank n) 26 16)) ∧
      t.rf (Reg.fwgtFeBank n) 0 0 = i.operand % 2)

/-! ## Sessions -/

/-- Creation and destruction of sessions: a free slot takes the new session with its handle, a destroyed session is CLOSING at once, and
once nothing of it is left it is answered, its generation counts and its slot is free; where the result queue has no room for that answer,
the answer is held and the slot stays CLOSING. -/
def Obligations.SessionLifeComplete : Prop :=
  (∀ (s : State) (i : Item) (k : SlotIx), s.dispatches 0x01 i → s.quiesced Page.sess = false → fld (i.word 4) 31 30 < 3 →
    fld (i.word 4) 23 20 ≤ 8 → s.pickSlot = some k.val →
    ∃ t, exec .sessionCreate s = .next t ∧ t.sessState k = SessState.opened ∧ t.sessHandle k = s.newHandle k ∧
      t.sessKind k = fld (i.word 4) 31 30 ∧ t.frameMax k = fmaxOf (fld (i.word 4) 23 20) ∧ t.sessPlace k = 0 ∧
      t.posted 0x01 i.seq (s.newHandle k) 0 [] = true ∧ t.queue.cmd = s.queue.cmd.tail ∧ SamePages [Page.sess, Page.queue] s t ∧
      SameBytesBut (ctxAddr k 0) 192 s t) ∧
  (∀ (s : State) (i : Item), s.dispatches 0x01 i → s.quiesced Page.sess = false → fld (i.word 4) 31 30 < 3 →
    fld (i.word 4) 23 20 ≤ 8 → s.pickSlot = none →
    ∃ t, exec .sessionCreate s = .next t ∧ t.posted 0x01 i.seq i.handle Err.resourceBusy [wd holderTable, wd noIndex] = true ∧
      t.rb (Reg.irqRaw Page.sess) 2 = true ∧ SameBytes s t ∧ t.sess = s.sess) ∧
  (∀ (s : State) (i : Item), s.dispatches 0x02 i → s.quiesced Page.sess = false → s.badHandle i = none →
    ∃ t, exec .sessionDestroy s = .next t ∧ t.sessState i.slot = SessState.closing ∧ t.fence i.slot = none ∧
      tabGet none t.sess.closing i.slot = some i ∧ t.sessHandle i.slot = s.sessHandle i.slot ∧ t.queue.cmd = s.queue.cmd.tail ∧
      SameBytesBut (ctxAddr i.slot 3) 1 s t) ∧
  (∀ (s : State) (k : SlotIx) (i : Item), tabGet none s.sess.closing k = some i → i.slot = k → s.closeDue k i = true →
    s.quiesced Page.queue = false → s.resFill + 4 ≤ 4096 →
    ∃ t, exec (.sessionClosed k) s = .next t ∧ t.sessState k = SessState.free ∧
      tabGet 0 t.sess.gens k = (tabGet 0 s.sess.gens k + 1) % 256 ∧ t.sess.freed = s.sess.freed ++ [k.val] ∧
      t.posted 0x30 i.seq i.handle 0 [] = true ∧ SameBytesBut (ctxAddr k 3) 1 s t) ∧
  (∀ (s : State) (k : SlotIx) (i : Item), tabGet none s.sess.closing k = some i → s.closeDue k i = true → 4096 < s.resFill + 4 →
    ∃ t, exec (.sessionClosed k) s = .next t ∧ t.posted 0x30 i.seq i.handle 0 [] = true ∧ t.sess = s.sess ∧ SameRegs [] s t ∧
      SameBytes s t)

/-- Placement and migration: an open session is bound to the engine that it names or that its position gives, a placed one is fenced until
its old engine's frame has ended, and then the new engine has it with the next placement number. -/
def Obligations.SessionPlacementComplete : Prop :=
  (∀ (s : State) (i : Item) (n : Nat), s.dispatches 0x03 i → s.badHandle i = none → s.sessState i.slot = SessState.opened →
    s.targetEngine i.slot (fld (i.word 4) 31 28) = some n → (n = 0xe ∨ s.engineFits i.slot n = true) →
    ∃ t, exec .sessionPlace s = .next t ∧ t.sessState i.slot = SessState.placed ∧ t.sessEngine i.slot = n ∧
      t.sessPlayer i.slot = servedBy n ∧ t.sessPlace i.slot = 0 ∧ t.posted 0x03 i.seq i.handle 0 [placeWord n 0] = true ∧
      SamePages [Page.queue, Page.sys] s t ∧ SameBytesBut (ctxAddr i.slot 3) 3 s t) ∧
  (∀ (s : State) (i : Item), s.dispatches 0x04 i → s.badHandle i = none → s.sessKind i.slot ≠ 1 →
    (s.sessState i.slot = SessState.placed ∨ s.sessState i.slot = SessState.busy) → fld (i.word 4) 31 28 ≠ s.sessEngine i.slot →
    fld (i.word 4) 31 28 < 4 → s.engineFits i.slot (fld (i.word 4) 31 28) = true →
    ∃ t, exec .sessionMigrate s = .next t ∧ t.sessState i.slot = SessState.fenced ∧
      t.fence i.slot = some ⟨fld (i.word 4) 31 28, some i⟩ ∧ t.sessEngine i.slot = s.sessEngine i.slot ∧
      SamePages [Page.queue] s t ∧ SameBytesBut (ctxAddr i.slot 3) 1 s t) ∧
  (∀ (s : State) (i : Item), s.dispatches 0x04 i → s.badHandle i = none → s.sessKind i.slot ≠ 1 →
    (s.sessState i.slot = SessState.placed ∨ s.sessState i.slot = SessState.busy) → fld (i.word 4) 31 28 = s.sessEngine i.slot →
    ∃ t, exec .sessionMigrate s = .next t ∧
      t.posted 0x04 i.seq i.handle 0 [placeWord (s.sessEngine i.slot) (s.sessPlace i.slot)] = true ∧ SamePages [Page.queue] s t ∧
      SameBytes s t ∧ t.sess = s.sess) ∧
  (∀ (s : State) (k : SlotIx) (n : EngIx) (c : Item), s.fence k = some ⟨n, some c⟩ → s.inFlight k = false →
    ∃ t, exec (.migrationComplete k) s = .next t ∧ t.sessState k = SessState.placed ∧ t.sessEngine k = n ∧
      t.sessPlace k = (s.sessPlace k + 1) % 16 ∧ t.fence k = none ∧
      t.posted c.typ c.seq c.handle 0 [placeWord n ((s.sessPlace k + 1) % 16)] = true ∧
      t.rf Reg.sessMigCnt 15 0 = min 0xffff (s.rf Reg.sessMigCnt 15 0 + 1) ∧ SameBytesBut (ctxAddr k 3) 3 s t) ∧
  (∀ (s : State) (k : SlotIx) (n : EngIx), s.fence k = some ⟨n, none⟩ → s.inFlight k = false →
    ∃ t, exec (.migrationComplete k) s = .next t ∧ t.sessState k = SessState.placed ∧ t.sessEngine k = n ∧ t.fence k = none ∧
      t.posted 0x04 s.queue.resSeq (t.sessHandle k) 0 [placeWord n ((s.sessPlace k + 1) % 16)] = true ∧
      t.rb (Reg.irqRaw Page.sess) 0 = true)

/-- A command that names no session, or a session that has gone, is refused with the handle as detail and changes no session. -/
def Obligations.BadHandlesRefused : Prop :=
  (∀ (s : State) (i : Item) (e x : Nat), s.dispatches 0x02 i → s.quiesced Page.sess = false → s.badHandle i = some (e, x) →
    ∃ t, exec .sessionDestroy s = .next t ∧ t.posted 0x02 i.seq i.handle e [wd i.handle, wd x] = true ∧ t.sess = s.sess ∧
      SameBytes s t) ∧
  (∀ (s : State) (i : Item) (e x : Nat), s.dispatches 0x03 i → s.badHandle i = some (e, x) →
    ∃ t, exec .sessionPlace s = .next t ∧ t.posted 0x03 i.seq i.handle e [wd i.handle, wd x] = true ∧ t.sess = s.sess ∧
      SameBytes s t) ∧
  (∀ (s : State) (i : Item) (e x : Nat), s.dispatches 0x04 i → s.badHandle i = some (e, x) →
    ∃ t, exec .sessionMigrate s = .next t ∧ t.posted 0x04 i.seq i.handle e [wd i.handle, wd x] = true ∧ t.sess = s.sess ∧
      SameBytes s t) ∧
  (∀ (s : State) (i : Item) (e x : Nat), s.dispatches 0x08 i → s.badHandle i = some (e, x) →
    ∃ t, exec .hfExchange s = .next t ∧ t.posted 0x08 i.seq i.handle e [wd i.handle, wd x] = true ∧ t.sess = s.sess ∧
      SameBytes s t) ∧
  (∀ (s : State) (i : Item) (e x : Nat), s.dispatches 0x09 i → s.badHandle i = some (e, x) →
    ∃ t, exec .rbExchange s = .next t ∧ t.posted 0x09 i.seq i.handle e [wd i.handle, wd x] = true ∧ t.sess = s.sess ∧
      SameBytes s t) ∧
  (∀ (s : State) (i : Item) (e x : Nat), s.dispatches 0x0a i → s.badHandle i = some (e, x) →
    ∃ t, exec .xbExchange s = .next t ∧ t.posted 0x0a i.seq i.handle e [wd i.handle, wd x] = true ∧ t.sess = s.sess ∧
      SameBytes s t)

/-- Dispatch of exchanges: a good one joins its session's pending list with its frame-pool blocks reserved, one that finds too few blocks
is refused with the pool as holder, MARK is answered, and DISCOVER waits while its engine is not free. That the free blocks of the lowest
numbers are taken is the model's choice (log entry 20). -/
def Obligations.ExchangeDispatchComplete : Prop :=
  (∀ (s : State) (i : Item), s.dispatches 0x20 i →
    ∃ t, exec .mark s = .next t ∧ t.posted 0x20 i.seq i.handle 0 i.payload = true ∧ t.queue.cmd = s.queue.cmd.tail ∧
      SamePages [Page.queue] s t ∧ SameBytes s t) ∧
  (∀ (s : State) (i : Item), s.dispatches 0x08 i → s.badHandle i = none → s.sessState i.slot ≠ SessState.opened →
    (s.pendOf i.slot).length < s.pendMax → hfCheck 0 i i.slot s = none → s.frameMax i.slot ≤ s.freePool.length →
    ∃ t, exec .hfExchange s = .next t ∧ t.pendOf i.slot = s.pendOf i.slot ++ [i] ∧
      tabGet [] t.sess.blocks i.slot = tabGet [] s.sess.blocks i.slot ++ s.freePool.take (s.frameMax i.slot) ∧
      t.queue.cmd = s.queue.cmd.tail ∧ SamePages [Page.queue] s t ∧ SameBytesOutside (s.reserved i.slot) s t) ∧
  (∀ (s : State) (i : Item), s.dispatches 0x09 i → s.badHandle i = none → s.sessState i.slot ≠ SessState.opened →
    (s.pendOf i.slot).length < s.pendMax → linkCheck false i i.slot s = none → s.frameMax i.slot ≤ s.freePool.length →
    ∃ t, exec .rbExchange s = .next t ∧ t.pendOf i.slot = s.pendOf i.slot ++ [i] ∧
      tabGet [] t.sess.blocks i.slot = tabGet [] s.sess.blocks i.slot ++ s.freePool.take (s.frameMax i.slot) ∧
      SamePages [Page.queue] s t ∧ SameBytesOutside (s.reserved i.slot) s t) ∧
  (∀ (s : State) (i : Item), s.dispatches 0x0a i → s.badHandle i = none → s.sessState i.slot ≠ SessState.opened →
    (s.pendOf i.slot).length < s.pendMax → linkCheck true i i.slot s = none → s.frameMax i.slot ≤ s.freePool.length →
    ∃ t, exec .xbExchange s = .next t ∧ t.pendOf i.slot = s.pendOf i.slot ++ [i] ∧
      tabGet [] t.sess.blocks i.slot = tabGet [] s.sess.blocks i.slot ++ s.freePool.take (s.frameMax i.slot) ∧
      SamePages [Page.queue] s t ∧ SameBytesOutside (s.reserved i.slot) s t) ∧
  (∀ (s : State) (i : Item), s.dispatches 0x08 i → s.badHandle i = none → s.sessState i.slot ≠ SessState.opened →
    (s.pendOf i.slot).length < s.pendMax → hfCheck 0 i i.slot s = none → s.freePool.length < s.frameMax i.slot →
    ∃ t, exec .hfExchange s = .next t ∧
      t.posted 0x08 i.seq i.handle Err.resourceBusy [wd (holderPool s.freePool.length), wd noIndex] = true ∧ t.sess = s.sess ∧
      SameBytesBut (ctxAddr i.slot 0xbc) 2 s t) ∧
  (∀ (s : State) (i : Item) (n : EngIx), s.dispatches 0x0c i → fld (i.word 4) 27 26 = n → s.discBad i n = false →
    (s.eng n).disc = none → (s.eng n).discWait = none → s.engFree n = false →
    ∃ t, exec .discover s = .next t ∧ (t.eng n).discWait = some i ∧ t.queue.cmd = s.queue.cmd.tail ∧ SamePages [Page.queue] s t ∧
      SameBytes s t)

/-- The start of commands: the first command of a session's pending list leaves it when its engine or radio can take it, its section
starts with its start tick, and its session goes on air; a discovery starts in the same way. -/
def Obligations.CommandStartComplete : Prop :=
  (∀ (s : State) (k : SlotIx) (n : EngIx) (i : Item) (r : List Item) (c : Section) (S : Nat), s.sessEngine k = n →
    s.link.ex = none → s.pendOf k = i :: r → i.typ = 0x08 → s.inFlight k = false → s.fence k = none → s.engFree n = true →
    (s.eng n).discWait = none → s.sessState k = SessState.placed → hfCheck 0 i k s = none →
    s.startOn n i (if fld (i.word 5) 31 24 = 0 then Kind.exchange else Kind.command) (fld (i.word 4) 31 28) (s.feStd n != 5) = .go c S →
    ∃ t, exec (.pendingCommandStart k) s = .next t ∧ t.pendOf k = r ∧ ((t.eng n).exch.map Exch.item) = some i ∧
      ((t.eng n).exch.map Exch.slot) = some k.val ∧ ((t.eng n).exch.map Exch.start) = some S ∧ t.playing n = true ∧
      (t.player n).sS = S ∧ (t.player n).pc = c.entry ∧ t.sessState k = SessState.busy ∧ SamePages [Page.lsp, Page.fe n] s t ∧
      SameBytesBut (ctxAddr k 3) 1 s t) ∧
  (∀ (s : State) (k : SlotIx) (i : Item) (r : List Item) (c : Section), s.link.ex = none → s.pendOf k = i :: r → i.typ = 0x09 →
    s.inFlight k = false → s.fence k = none → s.rbFree = true → s.linkStartBad k i = none →
    s.commandSection 4 (linkSection i) (linkKind i) 0 0 = some c → s.radioFree = true → i.hasTick = false →
    ∃ t, exec (.pendingCommandStart k) s = .next t ∧ t.pendOf k = r ∧ (t.link.ex.map LinkEx.item) = some i ∧
      (t.link.ex.map LinkEx.slot) = some k.val ∧ t.playing 4 = true ∧ (t.player 4).sS = s.startBound i 4 s.link.ended ∧
      t.holder 0x78 = 3 ∧ SameBytesBut (ctxAddr k 3) 1 s t) ∧
  (∀ (s : State) (k : SlotIx) (n : EngIx) (i : Item) (r : List Item) (c : Section) (S : Nat), s.sessEngine k = n →
    s.link.ex = none → s.pendOf k = i :: r → i.typ = 0x0a → s.inFlight k = false → s.fence k = none →
    s.xbFree n = true → (s.eng n).discWait = none → s.linkStartBad k i = none → s.xbPresetOk k = true → linkNoReply i = true →
    s.startOn n i (linkKind i) 0 false = .go c S →
    ∃ t, exec (.pendingCommandStart k) s = .next t ∧ t.pendOf k = r ∧ (t.link.ex.map LinkEx.item) = some i ∧
      ((t.eng n).exch.map Exch.xb) = some true ∧ t.playing n = true ∧ (t.player n).sS = S ∧ t.txFcnt k = (s.txFcnt k + 1) % 2 ^ 24 ∧
      SameBytesOutside [(ctxAddr k 3, 1), (ctxAddr k 0x8c, 3)] s t) ∧
  (∀ (s : State) (i : Item) (n : EngIx) (c : Section) (S : Nat), s.dispatches 0x0c i → fld (i.word 4) 27 26 = n →
    s.discBad i n = false → (s.eng n).disc = none → (s.eng n).discWait = none → s.engFree n = true →
    s.rb Reg.sensProt 28 = false →
    s.startOn n i (if fld (i.word 5) 31 24 = 0 then Kind.discover else Kind.command) 0 true = .go c S →
    ∃ t, exec .discover s = .next t ∧ ((t.eng n).disc.map (fun d => d.item.seq)) = some i.seq ∧ (t.eng n).discWait = none ∧
      t.playing n = true ∧ (t.player n).sS = S ∧ t.rf (Reg.feExchStatus n) 10 8 = 1 ∧ SameBytes s t)

/-! ## Larkspur -/

/-- The issue of steps: a timed step reaches its consumer on time or is reported late, and a step index past LENGTH ends the section.
That an action which arrives less than 64 ft before T acts 64 ft after its issue is the model's choice (log entry 37). -/
def Obligations.StepIssueComplete : Prop :=
  (∀ (s : State) (k : PlayerIx) (w : StepWord) (T : Nat), s.playing k = true → s.pastEnd k = false → s.stepAt k = w →
    isInternal w.op = false → w.op ≠ 0xa → w.op ≠ 0xc → s.inFree k = false → s.stepTarget k w = some T → s.issueTick k T ≤ T →
    ∃ t, exec (.stepIssue k) s = .next t ∧ t.now = max s.now (s.issueTick k T) % 2 ^ 64 ∧ (t.player k).p = T ∧
      (t.player k).pc = (s.player k).pc + 1 ∧ (t.player k).flight = (s.player k).flight ++
        [{ op := w.op, target := T, operand := w.operand, data := 0, index := (s.player k).pc, issued := s.issueTick k T,
           act := if s.issueTick k T + 64 ≤ T then T else s.issueTick k T + 64, slot := (s.player k).slot, sec := (s.player k).sec }] ∧
      SameRegs [Reg.lspPlStatus k, Reg.lspPlCnt k] (passTo (s.issueTick k T) s) t ∧ SameBytes s t) ∧
  (∀ (s : State) (k : PlayerIx) (w : StepWord) (T : Nat), s.playing k = true → s.pastEnd k = false → s.stepAt k = w →
    isInternal w.op = false → w.op ≠ 0xa → w.op ≠ 0xc → s.inFree k = false → s.stepTarget k w = some T → T < s.issueTick k T →
    w.lateDrop = true →
    ∃ t, exec (.stepIssue k) s = .next t ∧ (t.player k).flight = (s.player k).flight ∧ (t.player k).p = T ∧
      t.rb (Reg.irqRaw Page.lsp) 0 = true ∧ t.regPair (Reg.lspPlLateLo k) = T % 2 ^ 64 ∧ SameBytes s t) ∧
  (∀ (s : State) (k : PlayerIx), s.playing k = true → s.pastEnd k = true → s.rb (Reg.lspPlCtrl k) 0 = true → 5 ≤ k.val →
    s.rf (Reg.errCode Page.lsp) 15 10 = 0 →
    ∃ t, exec (.stepIssue k) s = .next t ∧ t.playing k = false ∧ t.heldPlayer k = true ∧
      t.rb (Reg.irqRaw Page.lsp) 6 = true ∧ t.rf (Reg.errCode Page.lsp) 7 0 = Err.modeAbort ∧ SameBytes s t)

/-- The steps that act inside Larkspur: a NOP moves P, a BRANCH takes its destination when its condition holds, and END publishes its
event with its tick and ends the section. -/
def Obligations.InternalStepsComplete : Prop :=
  (∀ (s : State) (k : PlayerIx) (T : Nat), s.playing k = true → s.pastEnd k = false → (s.stepAt k).op = 0 →
    (s.stepAt k).swap = false → s.stepTarget k (s.stepAt k) = some T →
    ∃ t, exec (.nopStep k) s = .next t ∧ (t.player k).p = T ∧ (t.player k).pc = (s.player k).pc + 1 ∧ t.now = max s.now T % 2 ^ 64 ∧
      SameRegs [Reg.lspPlStatus k] (passTo T s) t ∧ SameBytes s t) ∧
  (∀ (s : State) (k : PlayerIx) (T : Nat), s.playing k = true → s.pastEnd k = false → (s.stepAt k).op = 0xd →
    s.stepTarget k (s.stepAt k) = some T →
    ∃ t, exec (.branchStep k) s = .next t ∧ (t.player k).p = T ∧
      (t.player k).pc = (if s.condHolds k (bits64 (s.stepAt k).operand 29 26) ≠ (s.stepAt k).operand.testBit 25
        then (s.stepAt k).operand % 8192 else (s.player k).pc + 1) ∧
      t.now = (advance (s.player k).avail (advance T s)).now ∧
      SameRegs [Reg.lspPlStatus k] (passTo (s.player k).avail (passTo T s)) t ∧ SameBytes s t) ∧
  (∀ (s : State) (k : PlayerIx) (T : Nat), s.playing k = true → s.pastEnd k = false → (s.stepAt k).op = 0xe →
    s.stepTarget k (s.stepAt k) = some T → 5 ≤ k.val → (s.player k).trig = none → s.rf (Reg.lspPlStatus k) 19 16 = 3 →
    ∃ t, exec (.endStep k) s = .next t ∧ t.playing k = false ∧ (t.player k).ended = max T t.now ∧
      t.fab.waiting.getLast? = some ⟨0x68 + k, T, none⟩ ∧
      SameRegs [Reg.lspPlStatus k] (passTo T s) t ∧ SameBytes s t)

/-- The general steps: an event published with the step's tick, a GP pin driven, a snapshot, a masked register write, and a commit. -/
def Obligations.GeneralStepsComplete : Prop :=
  (∀ (s : State) (k : PlayerIx) (i : Issued), s.nextStep k = some i → i.op = 8 → s.quiesced Page.evf = false → i.act = i.target →
    s.chanSecure .larkspur (i.operand % 64) = false →
    ∃ t, exec (.publishStep k) s = .next t ∧ t.fab.waiting = s.fab.waiting ++ [⟨0x50 + k, i.target, some (i.operand % 64)⟩] ∧
      (t.player k).flight = (s.player k).flight.erase i ∧ SameRegs [] (passTo i.act s) t ∧ SameBytes s t) ∧
  (∀ (s u : State) (k : PlayerIx) (i : Issued) (n : Nat), s.nextStep k = some i → i.op = 9 → s.quiesced Page.evf = false → i.act = i.target →
    n = i.operand % 16 → s.holds .larkspur (0x68 + n) = true → s.rf (Reg.evfGpCfg n) 2 0 = 4 → u = cellsNow (passTo i.act s) →
    ∃ t, exec (.gpioStep k) s = .next t ∧ tabGet false t.fab.gpDrive n = (match bits64 i.operand 5 4 with
        | 1 => false
        | 2 => !tabGet false s.fab.gpDrive n
        | _ => true) ∧ (t.rb Reg.evfGpIn n ≠ tabGet false t.fab.gpDrive n → (tabGet none t.fab.gpSince n).isSome = true) ∧
      SameRegs [] (pinTurn (2 * u.now) n u) t ∧ SameBytes s t) ∧
  (∀ (s : State) (k : PlayerIx) (i : Issued), s.nextStep k = some i → i.op = 0xb → s.quiesced Page.ftb = false → i.act = i.target →
    s.time.snapWait = [] → max s.now i.act < 2 ^ 64 →
    ∃ t, exec (.snapStep k) s = .next t ∧ t.regPair Reg.ftbSnapLo = max s.now i.act ∧
      t.rf Reg.ftbSnapCtrl 31 16 = (s.rf Reg.ftbSnapCtrl 31 16 + 1) % 2 ^ 16 ∧ t.rb (Reg.irqRaw Page.ftb) 6 = true ∧ SameBytes s t) ∧
  (∀ (s : State) (k : PlayerIx) (i : Issued) (p : PageIx), s.nextStep k = some i → i.op = 0xa → i.act = i.target → stepAddr i.operand = Reg.irqEn p →
    s.takes .larkspur (Reg.irqEn p) →
    ∃ t, exec (.writeStep k) s = .next t ∧ t.reg (Reg.irqEn p) =
        ((s.reg (Reg.irqEn p) &&& ~~~ wd (i.data / 2 ^ 32)) ||| (wd i.data &&& wd (i.data / 2 ^ 32))) ∧
      (t.player k).flight = (s.player k).flight.erase i ∧ SameRegs [Reg.irqEn p, Reg.irqStat p] (passTo i.act s) t ∧ SameBytes s t) ∧
  (∀ (s : State) (k : PlayerIx) (i : Issued) (p : PageIx), s.nextStep k = some i → i.op = 0xa → stepAddr i.operand = Reg.irqEn p →
    s.reaches .larkspur (Reg.irqEn p) → s.rf (Reg.owner p) 1 0 ≠ 2 →
    ∃ t, exec (.writeStep k) s = .next t ∧ t.reg (Reg.irqEn p) = s.reg (Reg.irqEn p) ∧ t.rb (Reg.irqRaw Page.lsp) 6 = true ∧
      SameBytes s t) ∧
  (∀ (s : State) (k : PlayerIx) (i : Issued), s.nextStep k = some i → i.op = 0xc → s.quiesced Page.lsp = false → s.commit = none →
    max s.now i.act ≤ roundUp i.target 8 - s.marginFt →
    ∃ t, exec (.commitStep k) s = .next t ∧ t.commit = some ⟨roundUp i.target 8, roundUp i.target 8 - s.marginFt, [], false⟩ ∧
      t.rf Reg.sysEpochStatus 2 0 = 1 ∧ SameRegs [Reg.sysEpochStatus] (passTo i.act s) t ∧ SameBytes s t)

/-- The player registers: an agent that holds a player starts, stops and holds it, and has a score verified; another is turned
away. -/
def Obligations.PlayerControlComplete : Prop :=
  (∀ (s : State) (ag : Agent) (k : PlayerIx) (num : SlotIx) (c : Section), s.takes ag (Reg.lspPlCtrl k) →
    s.holds ag (0x18 + k) = true → s.playing k = false → s.freeSection k num = some c → s.toHold k = false →
    (k = 4 → s.radioFree = true) →
    ∃ t, exec (.playerStart ag k num) s = .next t ∧ t.playing k = true ∧ (t.player k).sS = boundTick s.now ∧
      (t.player k).pc = c.entry ∧ t.rf (Reg.lspPlStatus k) 31 24 = c.num % 256 ∧ (k = 4 → t.holder 0x78 = 3) ∧ SameBytes s t) ∧
  (∀ (s : State) (ag : Agent) (k : PlayerIx), s.takes ag (Reg.lspPlCtrl k) → s.holds ag (0x18 + k) = true → s.playing k = true →
    s.rb (Reg.lspPlCtrl k) 0 = true → s.rf (Reg.errCode Page.lsp) 15 10 = 0 →
    ∃ t, exec (.playerStop ag k) s = .next t ∧ t.playing k = false ∧ t.heldPlayer k = true ∧ t.rb (Reg.irqRaw Page.lsp) 6 = true ∧
      t.rf (Reg.errCode Page.lsp) 7 0 = Err.modeAbort ∧ (k.val < 4 → (t.eng k).exch = none) ∧ (k = 4 → t.link.ex = none)) ∧
  (∀ (s : State) (ag : Agent) (k : PlayerIx), s.takes ag (Reg.lspPlCtrl k) → s.holds ag (0x18 + k) = true → s.playing k = true →
    s.rb (Reg.lspPlCtrl k) 0 = false → 5 ≤ k.val → (s.player k).trig = none →
    ∃ t, exec (.playerStop ag k) s = .next t ∧ t.playing k = false) ∧
  (∀ (s : State) (ag : Agent) (k : PlayerIx) (on : Bool), s.takes ag (Reg.lspPlCtrl k) → s.holds ag (0x18 + k) = true →
    ∃ t, exec (.playerHold ag k on) s = .next t ∧ t.rb (Reg.lspPlCtrl k) 0 = on ∧
      (s.playing k = false → s.rb (Reg.lspPlCtrl k) 0 = false → on = true → t.heldPlayer k = true) ∧ (s.playing k = true →
      t.playing k = true)) ∧
  (∀ (s : State) (ag : Agent) (k : PlayerIx), s.takes ag (Reg.lspPlCtrl k) → s.holds ag (0x18 + k) = true →
    s.rf (Reg.lspPlStatus k) 19 16 ≠ 2 → s.rf (Reg.lspPlStatus k) 19 16 ≠ 5 → s.playing k = true → s.rb (Reg.ctrl Page.lsp) 0 = true →
    ∃ t, exec (.verify ag k) s = .next t ∧ t.rf (Reg.lspPlStatus k) 19 16 = 2 ∧ SameRegs [Reg.lspPlStatus k] s t ∧ SameBytes s t) ∧
  (∀ (s : State) (ag : Agent) (k : PlayerIx), s.takes ag (Reg.lspPlCtrl k) → s.holds ag (0x18 + k) = false →
    s.rf (Reg.errCode Page.lsp) 15 10 = 0 →
    ∃ t, exec (.playerStop ag k) s = .next t ∧ t.rf (Reg.errCode Page.lsp) 7 0 = Err.ownerDenied ∧
      SameRegs (reportRegs Page.lsp) s t ∧ SameBytes s t)

/-- Swaps: a request with the standby slot VALID makes it PENDING, and an idle player, held or not, swaps at once (R305); a request
with the slot not VALID is refused with SWAP_REJECTED and ERR_INFO 1, one while a swap is pending with ERR_INFO 2; a cancel returns a
PENDING slot to VALID (R304). -/
def Obligations.SwapRequests : Prop :=
  (∀ (s : State) (ag : Agent) (k : PlayerIx), s.takes ag (Reg.lspPlCtrl k) → s.holds ag (0x18 + k) = true →
    s.rf (Reg.lspPlStatus k) 19 16 = 3 → s.playing k = true → s.rb (Reg.ctrl Page.lsp) 0 = true →
    ∃ t, exec (.swapReq ag k) s = .next t ∧ t.rf (Reg.lspPlStatus k) 19 16 = 5 ∧ SameRegs [Reg.lspPlStatus k] s t ∧ SameBytes s t) ∧
  (∀ (s : State) (ag : Agent) (k : PlayerIx), s.takes ag (Reg.lspPlCtrl k) → s.holds ag (0x18 + k) = true →
    s.rf (Reg.lspPlStatus k) 19 16 = 3 → s.playing k = false → s.quiesced Page.lsp = false → s.rb (Reg.ctrl Page.lsp) 0 = true →
    ∃ t, exec (.swapReq ag k) s = .next t ∧ t.rf (Reg.lspPlStatus k) 19 16 = 3 ∧ t.activeSlot k = s.standbySlot k ∧
      t.reg (Reg.lspPlScoreId k) = wd (bits64 (s.slotWord k (s.standbySlot k) 1) 63 32) ∧ t.rb (Reg.irqRaw Page.lsp) 1 = true ∧
      (s.rb (Reg.lspPlCtrl k) 0 = true → SameBytes s t)) ∧
  (∀ (s : State) (ag : Agent) (k : PlayerIx), s.takes ag (Reg.lspPlCtrl k) → s.holds ag (0x18 + k) = true →
    s.rf (Reg.lspPlStatus k) 19 16 = 5 → s.playing k = true →
    ∃ t, exec (.swapCancel ag k) s = .next t ∧ t.rf (Reg.lspPlStatus k) 19 16 = 3 ∧ SameRegs [Reg.lspPlStatus k] s t ∧ SameBytes s t) ∧
  (∀ (s : State) (ag : Agent) (k : PlayerIx), s.takes ag (Reg.lspPlCtrl k) → s.holds ag (0x18 + k) = true →
    s.rf (Reg.lspPlStatus k) 19 16 ≠ 3 → s.rf (Reg.errCode Page.lsp) 15 10 = 0 → s.rb (Reg.ctrl Page.lsp) 0 = true →
    ∃ t, exec (.swapReq ag k) s = .next t ∧ t.rf (Reg.errCode Page.lsp) 7 0 = Err.swapRejected ∧
      t.reg (Reg.errInfo Page.lsp) = wd (if s.rf (Reg.lspPlStatus k) 19 16 = 5 then 2 else 1) ∧
      SameRegs (reportRegs Page.lsp) s t ∧ SameBytes s t) ∧
  (∀ (s : State) (ag : Agent) (k : PlayerIx), s.takes ag (Reg.lspPlCtrl k) → s.holds ag (0x18 + k) = true →
    s.rf (Reg.lspPlStatus k) 19 16 ≠ 5 → exec (.swapCancel ag k) s = .next s)

/-- Triggers, the end of a verification, and the loading of scores. -/
def Obligations.ScoresComplete : Prop :=
  (∀ (s : State) (k : PlayerIx) (e : Task) (c : Section), s.delivers (0x88 + k) e → (s.player k).trig = none → s.playing k = false →
    s.toHold k = false → (s.activeSections k).find? (fun c => c.kind == Kind.trigger) = some c →
    (k = 4 → s.radioFree = true) →
    ∃ t, exec (.playerTrigger k) s = .next t ∧ t.playing k = true ∧ (t.player k).pc = c.entry ∧
      (t.player k).sS = roundUp (e.tick + max 320 (s.rf (Reg.lspPlCfg k) 15 0)) 8 ∧ SameBytes s t) ∧
  (∀ (s : State) (k : PlayerIx) (e : Task), s.delivers (0x88 + k) e → (s.player k).trig = none → s.playing k = true →
    (s.player k).kind ≠ Kind.trigger →
    ∃ t, exec (.playerTrigger k) s = .next t ∧ (t.player k).trig = some e.tick ∧ t.rb (Reg.lspPlStatus k) 21 = true ∧
      SameRegs [Reg.lspPlStatus k] s t ∧ SameBytes s t) ∧
  (∀ (s : State) (k : PlayerIx), s.rf (Reg.lspPlStatus k) 19 16 = 2 → s.slotFault k (s.standbySlot k) = none →
    ∃ t, exec (.verifyDone k) s = .next t ∧ t.rf (Reg.lspPlStatus k) 19 16 = 3 ∧ t.rb (Reg.irqRaw Page.lsp) 2 = true ∧
      SameRegs [Reg.lspPlStatus k, Reg.irqRaw Page.lsp, Reg.irqStat Page.lsp] s t ∧ SameBytes s t) ∧
  (∀ (s : State) (k : PlayerIx) (i c : Nat), s.rf (Reg.lspPlStatus k) 19 16 = 2 → s.slotFault k (s.standbySlot k) = some (i, c) →
    s.rf (Reg.errCode Page.lsp) 15 10 = 0 → i < 2 ^ 32 → c < 8 →
    ∃ t, exec (.verifyDone k) s = .next t ∧ t.rf (Reg.lspPlStatus k) 19 16 = 4 ∧ t.rb (Reg.irqRaw Page.lsp) 3 = true ∧
      t.rf (Reg.errCode Page.lsp) 7 0 = Err.imageInvalid ∧ t.rf (Reg.errCode Page.lsp) 31 16 = c ∧ t.reg (Reg.errInfo Page.lsp) = wd i ∧
      SameBytes s t) ∧
  (∀ (s : State) (j : ScoreIx) (w : Word) (k b : Nat), s.hostUp = true → s.isReady = true → s.storeSlot (j / 2) = some (k, b) →
    b = s.standbySlot k → s.holds .host (0x18 + k) = true → s.rf (Reg.lspPlStatus k) 19 16 ≠ 2 → s.rf (Reg.lspPlStatus k) 19 16 ≠ 5 →
    ∃ t, exec (.scoreStoreWrite j w) s = .next t ∧ t.mem32 (scoreBase + 4 * j) = w.toNat ∧ t.rf (Reg.lspPlStatus k) 19 16 = 1 ∧
      SameRegs [Reg.lspPlStatus k] s t ∧ SameBytesBut (scoreBase + 4 * j) 4 s t) ∧
  (∀ (s : State) (ag : Agent) (k : PlayerIx) (onB : Bool) (w : Word), s.takes ag (slotReg k onB.toNat) →
    s.holds ag (0x18 + k) = true → onB.toNat = s.standbySlot k → s.rf (Reg.lspPlStatus k) 19 16 ≠ 2 →
    s.rf (Reg.lspPlStatus k) 19 16 ≠ 5 → s.slotClash k onB.toNat (fld w 12 0) (fld w 29 16) = false →
    ∃ t, exec (.plSlotWrite ag k onB w) s = .next t ∧ t.slotBase k onB.toNat = fld w 12 0 ∧ t.slotSize k onB.toNat = fld w 29 16 ∧
      t.rf (Reg.lspPlStatus k) 19 16 = (if fld w 12 0 = s.slotBase k onB.toNat ∧ fld w 29 16 = s.slotSize k onB.toNat
        then s.rf (Reg.lspPlStatus k) 19 16 else 0) ∧ SameRegs [slotReg k onB.toNat, Reg.lspPlStatus k] s t ∧ SameBytes s t) ∧
  (∀ (s : State) (ag : Agent) (w : Word), s.takes ag Reg.lspCntClr →
    ∃ t, exec (.lspCntClr ag w) s = .next t ∧
      (bit w 0 = true → (List.range 8).all (fun k => t.reg (Reg.lspPlCnt k) == 0 && t.reg (Reg.lspPlSectCnt k) == 0) = true) ∧
      (bit w 0 = false → t = s) ∧ SamePages [Page.lsp] s t ∧ SameBytes s t)

/-! ## HF air interfaces -/

/-- Frames of a field engine: a TX step sends the frame of what is in flight, moved when a guard time or a floor asks for it; the frame
ends at its reference tick; an RXWIN step opens the window; and the guard time after field-on comes to its end. -/
def Obligations.HfFramesComplete : Prop :=
  (∀ (s : State) (n : EngIx) (i : Issued) (x : Exch) (need : Nat), s.nextStep n = some i → i.op = 3 → i.operand % 4 = 0 →
    s.quiesced (Page.fe n) = false → i.act = i.target → (s.eng n).exch = some x → x.isL4 = false → x.toSend = true →
    need = max ((if s.engOn n then s.frameGuard n else none).getD 0) (s.turnEnd n (s.sendRate x.slot)) →
    s.firstBad n = none →
    (s.eng n).waits = [] → s.movedOn n = false → s.chanWaits n = false →
    ∃ t, exec (.txStep n) s = .next t ∧ (t.eng n).air.frame = x.frame ∧ t.rf (Reg.feExchStatus n) 10 8 = 2 ∧
      (t.eng n).air.delay = (need - ccAt i.act + 7) / 8 ∧ (t.eng n).air.start = ccAt i.act + 8 * (t.eng n).air.delay ∧
      ((t.eng n).exch.map Exch.toSend) = some false ∧ (ccAt i.act < need → t.rb (Reg.irqRaw (Page.fe n)) 4 = true)) ∧
  (∀ (s : State) (n : EngIx) (i : Issued) (x : Exch), s.nextStep n = some i → i.op = 3 → i.operand % 4 = 0 →
    s.quiesced (Page.fe n) = false → i.act = i.target → (s.eng n).exch = some x → x.isL4 = true → x.toSend = true →
    s.firstBad n = none →
    (s.eng n).waits = [] → s.movedOn n = false → s.chanWaits n = false →
    ∃ t, exec (.txStep n) s = .next t ∧ (t.eng n).air.frame = (s.l4Frame x.slot x.l4).1 ∧ t.rf (Reg.feExchStatus n) 10 8 = 2 ∧
      ((t.eng n).exch.map Exch.l4) = some (s.l4Frame x.slot x.l4).2 ∧ ccAt i.act ≤ (t.eng n).air.start) ∧
  (∀ (s : State) (n : EngIx) (i : Issued) (d : Disc), s.nextStep n = some i → i.op = 3 → i.operand % 4 = 0 →
    s.quiesced (Page.fe n) = false → i.act = i.target → (s.eng n).exch = none → (s.eng n).disc = some d → d.sent = false →
    s.firstBad n = none →
    (s.eng n).waits = [] → s.movedOn n = false → s.chanWaits n = false →
    ∃ t, exec (.txStep n) s = .next t ∧ (t.eng n).air.frame = discFrame d ∧ t.rf (Reg.feExchStatus n) 10 8 = 2 ∧
      ((t.eng n).disc.map Disc.sent) = some true) ∧
  (∀ (s : State) (n : EngIx) (r : Nat), (s.eng n).air.ref = some r → s.rf (Reg.feExchStatus n) 10 8 = 2 → s.feStd n ≠ 5 →
    s.stepsLeft n = true →
    ∃ t, exec (.hfTxEnd n) s = .next t ∧ t.now = max s.now r % 2 ^ 64 ∧ t.rf (Reg.feExchStatus n) 10 8 = 3 ∧ (t.eng n).lastTx = some r ∧
      t.rb (Reg.irqRaw (Page.fe n)) 0 = true ∧
      t.rf (Reg.feFrameCnt n) 15 0 = min 0xffff (s.rf (Reg.feFrameCnt n) 15 0 + 1)) ∧
  (∀ (s : State) (n : EngIx) (i : Issued) (x : Exch), s.nextStep n = some i → i.op = 4 → s.quiesced (Page.fe n) = false →
    i.act = i.target → (s.eng n).exch = some x → x.isL4 = false →
    ∃ t, exec (.rxwinStep n) s = .next t ∧ (t.eng n).air.opened = some (i.act + 8 * (s.eng n).air.delay) ∧
      (t.eng n).air.close = some (i.act + 8 * (s.eng n).air.delay + 8 * (i.operand % 2 ^ 24)) ∧
      SameRegs [] (passTo i.act s) t ∧ SameBytes s t) ∧
  (∀ (s : State) (n : EngIx) (g : Nat), s.guardEnd n = some g → s.rb (Reg.feFieldStatus n) 31 = false →
    ∃ t, exec (.guardDone n) s = .next t ∧ t.now = max s.now g % 2 ^ 64 ∧ t.rb (Reg.feFieldStatus n) 31 = true ∧
      t.rb (Reg.irqRaw (Page.fe n)) 7 = true ∧ SamePages [Page.fe n] (passTo g s) t ∧ SameBytes s t)

/-- The results of HF exchanges: a start of frame inside its window, measured on the chain outputs; one that began before it; a reply
without error; a window that closes without one; and an exchange that an event ends. Each end posts one result and leaves no exchange in
flight. The saturation of the END item's counts (log entry 28) and the SOF tick taken from the outputs of the chain (entry 91) are the
model's choice. -/
def Obligations.HfResultsComplete : Prop :=
  (∀ (s : State) (n : EngIx) (o c tick ends k : Nat) (low : Bool) (f : SofShape) (x : SumOut), (s.eng n).air.opened = some o →
    (s.eng n).air.close = some c → s.awaiting n = true → (s.eng n).air.sof = none → s.beganEarly n o low = false →
    s.sofOut n tick ends (carrierMean (s.sumOuts n) o) (halfCycle (s.feStd n) (s.replyRate n) low) = some x → k = halfTick x.at2 →
    sofFits (s.feStd n) (s.replyRate n) f = true → o ≤ k → k ≤ c → k < 2 ^ 64 →
    ∃ t, exec (.hfRxSof n tick ends low f) s = .next t ∧ (t.eng n).air.sof = some k ∧
      (t.eng n).air.level =
        meanAmp (s.sumOuts n) (carrierMean (s.sumOuts n) o) (halfCycle (s.feStd n) (s.replyRate n) low) k ends ∧
      t.rf (Reg.feExchStatus n) 10 8 = 4 ∧ t.regPair (Reg.feLastSofLo n) = k ∧ t.now = max s.now k % 2 ^ 64 ∧ SameBytes s t) ∧
  (∀ (s : State) (n : EngIx) (o c tick ends : Nat) (low : Bool) (f : SofShape) (x : Exch), (s.eng n).air.opened = some o →
    (s.eng n).air.close = some c → s.awaiting n = true → (s.eng n).air.sof = none → s.beganEarly n o low = true →
    (s.eng n).exch = some x → x.isL4 = false → x.xb = false →
    ∃ t, exec (.hfRxSof n tick ends low f) s = .next t ∧ (t.eng n).exch = none ∧
      t.posted x.item.typ x.item.seq x.item.handle (firstErr hfPrecedence (addCode Err.overrun x.errs))
        (rxPayload { status := 2 } x.retries) = true ∧
      t.rf (Reg.feErrCnt n) 23 16 = min 0xff (s.rf (Reg.feErrCnt n) 23 16 + 1)) ∧
  (∀ (s : State) (n : EngIx) (sof ref m : Nat) (x : Exch) (r : HfReply) (l : List Bool) (w : List (Nat × HfMark)),
    (s.eng n).air.sof = some sof →
    (s.eng n).air.ref = some ref → (s.eng n).exch = some x → x.isL4 = false → x.xb = false → (s.eng n).air.frame.bits = false →
    (s.eng n).air.frame.rxCrc = false → s.feStd n ≠ 4 → guardMarks (s.feStd n) (s.replyRate n) (8 * m) r = [] →
    s.heardBits n r = (l, w) → w.all (fun q => (markStatus (s.rf (Reg.feRxCfg n) 31 24) q.2).isNone) = true →
    l.length = 8 * m → m ≤ s.frameMax x.slot * 512 → m ≤ 65535 → s.checkWaits n = false →
    (s.eng n).heard = none →
    ∃ t, exec (.hfRxEnd n r) s = .next t ∧ (t.eng n).exch = none ∧ t.rb (Reg.irqRaw (Page.fe n)) 1 = true ∧
      t.posted x.item.typ x.item.seq x.item.handle (firstErr hfPrecedence x.errs)
        (rxPayload { status := 0, len := m, fdt := unsigned 32 ((sof : Int) - ref), level := (s.eng n).air.level,
                     stored := packBits l } x.retries) = true ∧ (t.eng n).rxOk = true) ∧
  (∀ (s : State) (n : EngIx) (c : Nat) (x : Exch), (s.eng n).air.close = some c → (s.eng n).air.sof = none → s.awaiting n = true →
    (s.eng n).exch = some x → (s.eng n).disc = none → x.isL4 = false → x.xb = false →
    s.beganEarly n ((s.eng n).air.opened.getD 0) true = false →
    ∃ t, exec (.rxWindowClose n) s = .next t ∧ (t.eng n).exch = none ∧ (t.eng n).rxNone = true ∧
      t.rb (Reg.irqRaw (Page.fe n)) 3 = true ∧ t.rf (Reg.feErrCnt n) 31 24 = min 0xff (s.rf (Reg.feErrCnt n) 31 24 + 1) ∧
      t.posted x.item.typ x.item.seq x.item.handle (firstErr hfPrecedence x.errs) (rxPayload { status := 1 } x.retries) = true) ∧
  (∀ (s : State) (n : EngIx) (c : Nat) (d : Disc), (s.eng n).air.close = some c → (s.eng n).air.sof = none → s.awaiting n = true →
    (s.eng n).exch = none → (s.eng n).disc = some d → d.heard = false → d.typeA = true → d.step = 0 → d.resume = false →
    d.errs = [] → s.beganEarly n ((s.eng n).air.opened.getD 0) true = false →
    ∃ t, exec (.rxWindowClose n) s = .next t ∧ (t.eng n).disc = none ∧
      t.posted d.item.typ d.item.seq 0 0 [wd (2 ^ 28 + d.std * 2 ^ 24 + min 255 d.tags * 2 ^ 16 + min 255 d.total),
        wd (min 0xffff d.unresolved * 65536 + min 0xffff d.dropped)] = true) ∧
  (∀ (s : State) (n : EngIx) (e : Task) (x : Exch), s.delivers (0x90 + n) e → (s.eng n).exch = some x → x.xb = false →
    ∃ t, exec (.feAbort n) s = .next t ∧ (t.eng n).exch = none ∧
      t.posted x.item.typ x.item.seq x.item.handle
        (firstErr hfPrecedence (addCode (endErr 7 (addErr Err.modeAbort x.errs)) (addErr Err.modeAbort x.errs)))
        (rxPayload { status := 7, fdt := (s.eng n).air.fdt, level := (s.eng n).air.level } x.retries) = true ∧ t.rb (Reg.irqRaw (Page.fe n)) 2 = true ∧
      (List.range 12).all (fun c => t.coilOn c == s.coilOn c) = true) ∧
  (∀ (s : State) (ag : Agent) (n : EngIx) (w : Word), s.takes ag (Reg.feCntClr n) →
    ∃ t, exec (.fenCntClr ag n w) s = .next t ∧ (bit w 0 = true → t.reg (Reg.feFrameCnt n) = 0 ∧ t.reg (Reg.feErrCnt n) = 0) ∧
      (bit w 1 = true → t.reg (Reg.feGuardCnt n) = 0) ∧ OnlyRegs [Reg.feFrameCnt n, Reg.feErrCnt n, Reg.feGuardCnt n] s t) ∧
  (∀ (s : State) (ag : Agent) (w : Word), s.takes ag Reg.sessCntClr →
    ∃ t, exec (.sessCntClr ag w) s = .next t ∧ (bit w 0 = true → t.reg Reg.sessMigCnt = 0) ∧
      (bit w 1 = true → t.rf Reg.sessUse 15 8 = s.rf Reg.sessUse 7 0) ∧ OnlyRegs [Reg.sessMigCnt, Reg.sessUse] s t)

/-! ## Return-band radio -/

/-- The radio's states and its synthesiser: a request of the radio's holder or of a RADIO step acts at once or waits while a packet or a
quiesce is in progress, a leg ends in its state, and a search ends in a calibration, a lock, a full search or a failure. That a tick
outside its bounds is replaced by the bound is the model's choice (log entry 67). -/
def Obligations.RadioStatesComplete : Prop :=
  (∀ (s : State) (ag : Agent) (w : Word) (q : RadioReq), s.takes ag Reg.rbSynReq → s.holds ag 0x78 = true → bit w 31 = true →
    s.rb (Reg.ctrl Page.rbSyn) 0 = true → q = reqOf w.toNat none 0 → q.bad = false → s.radioBusy = false → s.radioHeld = false →
    s.rb Reg.sensProt 28 = false →
    ∃ t, exec (.rbSynReq ag w) s = .next t ∧ t.rbChannel = q.chan ∧ t.rf Reg.rbSynState 23 19 = q.pa ∧
      t.rbReturn = s.retOf q.ret ∧ (t.rbState = q.st ∨ t.radio.goal = some q.st) ∧ SameBytes s t) ∧
  (∀ (s : State) (ag : Agent) (w : Word), s.takes ag Reg.rbSynReq → s.holds ag 0x78 = true → bit w 31 = true →
    s.rb (Reg.ctrl Page.rbSyn) 0 = true → (reqOf w.toNat none 0).bad = false → (s.radioBusy = true ∨ s.radioHeld = true) →
    ∃ t, exec (.rbSynReq ag w) s = .next t ∧ t.radio.waiting = some (reqOf w.toNat none 0) ∧ t.rb Reg.rbSynState 14 = true ∧
      t.rbState = s.rbState ∧ SameRegs [Reg.rbSynState] s t ∧ SameBytes s t) ∧
  (∀ (s : State) (ag : Agent) (w : Word), s.takes ag Reg.rbSynReq → s.holds ag 0x78 = false → bit w 31 = true →
    s.rb (Reg.ctrl Page.rbSyn) 0 = true → s.rf (Reg.errCode Page.rbSyn) 15 10 = 0 →
    ∃ t, exec (.rbSynReq ag w) s = .next t ∧ t.rf (Reg.errCode Page.rbSyn) 7 0 = Err.resourceBusy ∧
      t.reg (Reg.errInfo Page.rbSyn) = s.reg (Reg.sysResClaim 0x78) ∧ SameRegs (reportRegs Page.rbSyn) s t ∧ SameBytes s t) ∧
  (∀ (s : State) (i : Issued), s.nextStep 4 = some i → i.op = 5 → s.rbPageOn Page.rbSyn = true →
    (reqOf i.operand none 0).bad = false → i.act = i.target → s.radioBusy = false → s.radioHeld = false →
    ∃ t, exec .radioStep s = .next t ∧ t.rbChannel = i.operand / 2 ^ 4 % 64 ∧ t.rf Reg.rbSynState 23 19 = i.operand / 2 ^ 10 % 32 ∧
      (t.player 4).flight = (s.player 4).flight.erase i ∧ SameBytes s t) ∧
  (∀ (s : State) (v tick : Nat), s.radio.legTo = some v → s.radio.goal = some v → v ≤ 4 → (v ≤ 3 ∨ s.rbLocked = true) →
    s.radioHeld = false →
    ∃ t, exec (.radioStateReached tick) s = .next t ∧ t.rbState = v ∧ t.radio.goal = none ∧
      t.rb Reg.rbTxStatus 0 = (if s.rbState = v then s.rb Reg.rbTxStatus 0 else false) ∧ SameBytes s t) ∧
  (∀ (s : State) (tick band gain e : Nat), (s.radio.phase = 1 ∨ s.radio.phase = 2) →
    e = min (max tick (max s.now s.radio.synthStart)) (s.radio.synthStart + (if s.radio.phase = 1 then 5641 else 11282)) →
    ∃ t, exec (.synthCalDone tick band gain) s = .next t ∧
      t.reg (Reg.rbSynBand s.rbChannel) = wd (2 ^ 31 + gain % 256 * 2 ^ 16 +
        (if s.radio.phase = 1 then s.bandFor s.rbChannel (band % 64) else band % 64)) ∧
      t.rf Reg.rbSynLastCal 21 16 = s.rbChannel ∧ t.rb Reg.rbSynState 13 = false ∧
      t.radio.phase = (if s.radio.phase = 1 then 3 else 5) ∧
      SameRegs [Reg.rbSynBand s.rbChannel, Reg.rbSynLastCal, Reg.rbSynState] (passTo e s) t ∧ SameBytes s t) ∧
  (∀ (s : State) (tick : Nat), (s.radio.phase = 3 ∨ s.radio.phase = 4 ∨ s.radio.phase = 5) → s.radio.testWaits = none →
    3 ≤ s.radio.goal.getD 4 → s.radio.regain = false →
    ∃ t, exec (.synthLock tick) s = .next t ∧ t.rbLocked = true ∧ t.radio.phase = 0 ∧
      t.now = max s.now (min (max tick (max s.now s.radio.lockFrom)) s.radio.lockBy) % 2 ^ 64 ∧ t.rb (Reg.irqRaw Page.rbSyn) 0 = true ∧
      t.rbChannel = s.rbChannel ∧ SameBytes s t) ∧
  (∀ (s : State), s.radio.phase = 1 → ∃ t, exec .synthSearchTimeout s = .next t ∧ t.radio.phase = 2 ∧
      t.now = max s.now (s.radio.synthStart + 5641) % 2 ^ 64 ∧ SameRegs [] (passTo (s.radio.synthStart + 5641) s) t ∧ SameBytes s t) ∧
  (∀ (s : State), s.radio.phase = 2 → s.link.ex = none → s.radioHeld = false → s.rf (Reg.errCode Page.rbSyn) 15 10 = 0 →
    ∃ t, exec .synthFullSearchFail s = .next t ∧ t.rbLocked = false ∧ t.radio.phase = 0 ∧ t.rb (Reg.irqRaw Page.rbSyn) 2 = true ∧
      t.rf (Reg.errCode Page.rbSyn) 7 0 = Err.modeAbort ∧ t.reg (Reg.errInfo Page.rbSyn) = wd s.rbChannel ∧
      (t.rbState = 2 ∨ t.radio.goal = some 2) ∧ SameBytes s t) ∧
  (∀ (s : State) (tick : Nat), s.rbLocked = true → s.radio.tx = none → s.rx.rx = none →
    ∃ t, exec (.lockLoss tick) s = .next t ∧ t.rbLocked = false ∧ t.rb (Reg.irqRaw Page.rbSyn) 1 = true ∧
      t.rf Reg.rbSynCnt 15 8 = min 0xff (s.rf Reg.rbSynCnt 15 8 + 1) ∧ SameBytes s t)

/-- Transmissions: an RBTX step ramps with the frame of the exchange in flight, a channel that is not enabled refuses it, the ramp, the
frame and the tail end in turn with their airtime counted, the reflection is measured, and a test transmission is sent and stopped. -/
def Obligations.TransmissionsComplete : Prop :=
  (∀ (s : State) (i : Issued) (x : LinkEx) (k : Nat) (c : Bool) (chan : Nat) (l : List Byte), s.nextStep 4 = some i → i.op = 7 →
    i.operand % 2 = 0 → s.radioHeld = false → s.rbPageOn Page.rbTx = true → s.link.ex = some x → x.xb = false →
    x.again = false → linkCmd x.item ≠ Cmd.wake → x.sent = false → chan = s.lkChannel x.slot → s.canRamp chan = true →
    s.rb Reg.rbAntStatus 2 = false → s.rb (Reg.rbTxCh chan) 31 = true →
    s.paStep chan (s.askedStep (s.rf Reg.rbSynState 23 19)) = some (k, c) →
    l = withCrc (s.linkFrame x.slot (linkCmd x.item) (s.txFcnt x.slot) (linkPayload x.item)) →
    (dutySettle (s.rf (Reg.rbTxCh chan) 25 24) (passTo (max s.now (max (i.target - 192) i.issued)) s)).dutyOver (s.rf (Reg.rbTxCh chan) 25 24)
      (packetThirds (s.lkTxRate x.slot) l.length + 3 * 384) = false →
    ∃ t, exec .rbtxStep s = .next t ∧ t.rbState = 6 ∧ (t.radio.tx.map RadioTx.bytes) = some l ∧
      (t.radio.tx.map RadioTx.step) = some k ∧ (t.radio.tx.map RadioTx.ramp) = some (max s.now (max (i.target - 192) i.issued)) ∧
      (t.radio.tx.map (fun y => 9 * y.first + y.ninths)) =
        some (16 * ((9 * (max s.now (max (i.target - 192) i.issued) + 192) + 15) / 16)) ∧
      t.txFcnt x.slot = (s.txFcnt x.slot + 1) % 2 ^ 24 ∧ t.rb Reg.rbTxStatus 8 = (c || s.rb Reg.rbTxStatus 8)) ∧
  (∀ (s : State) (i : Issued) (x : LinkEx) (chan : Nat), s.nextStep 4 = some i → i.op = 7 →
    i.operand % 2 = 0 → s.radioHeld = false → s.rbPageOn Page.rbTx = true → s.link.ex = some x → x.xb = false →
    x.again = false → linkCmd x.item ≠ Cmd.wake → x.sent = false → chan = s.lkChannel x.slot → s.canRamp chan = true →
    s.rb Reg.rbAntStatus 2 = false → s.rb (Reg.rbTxCh chan) 31 = false → s.rf (Reg.errCode Page.rbTx) 15 10 = 0 →
    ∃ t, exec .rbtxStep s = .next t ∧ t.radio.tx = none ∧ t.rb (Reg.irqRaw Page.rbTx) 2 = true ∧
      t.rf (Reg.errCode Page.rbTx) 7 0 = Err.modeAbort ∧ t.reg (Reg.errInfo Page.rbTx) = wd (chan * 256 + 1)) ∧
  (∀ (s : State) (x : RadioTx), s.radio.tx = some x → s.rbState = 6 →
    ∃ t, exec .txRampEnd s = .next t ∧ t.rbState = 7 ∧ t.now = max s.now x.first % 2 ^ 64 ∧ t.radio.tx = some x ∧ SameBytes s t) ∧
  (∀ (s : State) (x : RadioTx), s.radio.tx = some x → s.rbState = 7 → x.test = 0 →
    ∃ t, exec .txEnd s = .next t ∧ t.rbState = 8 ∧ t.rb (Reg.irqRaw Page.rbTx) 0 = true ∧
      t.rf Reg.rbTxCnt 31 16 = min 0xffff (s.rf Reg.rbTxCnt 31 16 + 1)) ∧
  (∀ (s : State) (x : RadioTx) (b : Nat) (r : List Nat), s.radio.tx = some x → s.rbState = 8 →
    (dutySettle (s.rf (Reg.rbTxCh x.chan) 25 24) (passTo (x.last + 192) s)).dutyBins (s.rf (Reg.rbTxCh x.chan) 25 24) = b :: r →
    ∃ t, exec .txTailEnd s = .next t ∧ t.radio.tx = none ∧ t.dutyBins (s.rf (Reg.rbTxCh x.chan) 25 24) = (b + x.air) :: r) ∧
  (∀ (s : State) (x : RadioTx) (g : Nat) (ph : Int), s.radio.tx = some x → s.rbState = 7 → x.measured = false →
    x.first + 512 ≤ x.last → g ≤ s.rf Reg.rbAntMmCfg 7 0 →
    ∃ t, exec (.aerialMmDone g ph) s = .next t ∧ t.reg Reg.rbAntMmResult = wd (2 ^ 31 + min 255 g * 2 ^ 16 + unsigned 16 ph) ∧
      SameRegs [Reg.rbAntMmResult] (passTo (x.first + 512) s) t ∧ SameBytes s t) ∧
  (∀ (s : State) (x : RadioTx) (g : Nat) (ph : Int), s.radio.tx = some x → s.rbState = 7 → x.measured = false →
    x.first + 512 ≤ x.last → s.rf Reg.rbAntMmCfg 7 0 < g → s.rf (Reg.errCode Page.rbAnt) 15 10 = 0 →
    ∃ t, exec (.aerialMmDone g ph) s = .next t ∧ t.rb (Reg.irqRaw Page.rbAnt) 0 = true ∧
      t.rf (Reg.errCode Page.rbAnt) 7 0 = Err.detuned ∧ (s.rf Reg.rbAntMmCfg 23 22 = 1 → t.rb Reg.rbAntStatus 1 = true) ∧
      (s.rf Reg.rbAntMmCfg 23 22 = 2 → t.rb Reg.rbAntStatus 2 = true) ∧ SameBytes s t) ∧
  (∀ (s : State) (ag : Agent) (w : Word) (k : Nat) (c : Bool), s.takes ag Reg.rbTxCtrl → s.holds ag 0x78 = true → bit w 0 = true →
    bit w 3 = false → (fld w 2 1 = 1 ∨ fld w 2 1 = 2) → s.radio.tx = none → s.radio.testWaits = none →
    s.rb Reg.rbAntStatus 2 = false → s.rb (Reg.rbTxCh s.rbChannel) 31 = true →
    s.paStep s.rbChannel (s.askedStep (s.rf Reg.rbSynState 23 19)) = some (k, c) →
    (dutySettle (s.rf (Reg.rbTxCh s.rbChannel) 25 24) s).dutyOver (s.rf (Reg.rbTxCh s.rbChannel) 25 24)
      (3 * (108480 * max 1 (fld w 31 16) + 384)) = false → s.rb (Reg.ctrl Page.rbTx) 0 = true →
    ∃ t, exec (.testTxGo ag w) s = .next t ∧
      (s.canRamp s.rbChannel = true → s.radioHeld = false → s.rx.rx = none → s.rbState ≤ 4 →
        t.rbState = 6 ∧ (t.radio.tx.map RadioTx.test) = some (fld w 2 1) ∧ (t.radio.tx.map RadioTx.step) = some k) ∧
      (s.rbLocked = false ∨ s.radioHeld = true →
        (t.radio.testWaits.map RadioTx.test) = some (fld w 2 1) ∧ t.rbState = s.rbState)) ∧
  (∀ (s : State) (ag : Agent) (x : RadioTx), s.takes ag Reg.rbTxCtrl → s.radio.tx = some x → x.test ≠ 0 → s.rbState = 7 →
    bit (s.reg Reg.rbTxCtrl) 0 = false →
    ∃ t, exec (.testTxStop ag) s = .next t ∧ t.rbState = 8 ∧ (t.radio.tx.map RadioTx.last) = some (max s.now x.first)) ∧
  (∀ (s : State) (x : RadioTx), s.radio.tx = some x → x.test ≠ 0 → s.rbState = 7 →
    ∃ t, exec .testTxTimeout s = .next t ∧ t.rbState = 8 ∧ (t.radio.tx.map RadioTx.last) = some x.last) ∧
  (∀ (s : State) (g : DutyIx) (e : Nat), s.fldRuns = true → s.dutyWindow g ≠ 0 → e = tabGet 0 s.radio.binFrom g + s.binLength g →
    s.now < e + s.binLength g → e < 2 ^ 64 → s.now < 2 ^ 64 →
    ∃ t, exec (.dutyBinAdvance g) s = .next t ∧ t.dutyBins g = 0 :: (s.dutyBins g).take 15 ∧ t.now = max s.now e ∧
      tabGet 0 t.radio.binFrom g = e ∧
      SameRegs [Reg.rbTxDutyUse g, Reg.rbTxStatus] (passTo e s) t ∧ SameBytes s t) ∧
  (∀ (s : State), s.radioBusy = false → ∃ t, exec .antTuneApply s = .next t ∧ t.radio.tune = s.rf Reg.rbAntTune 3 0 ∧
    SameRegs [] (passTo (s.now + 1) s) t ∧ SameBytes s t) ∧
  (∀ (s : State) (ag : Agent) (w : Word), s.takes ag Reg.rbSynCntClr →
    ∃ t, exec (.rbSynCntClr ag w) s = .next t ∧ (bit w 0 = true → t.reg Reg.rbSynCnt = 0) ∧ (bit w 1 = true → t.reg Reg.rbSynCnt2 = 0) ∧
      OnlyRegs [Reg.rbSynCnt, Reg.rbSynCnt2] s t) ∧
  (∀ (s : State) (ag : Agent) (w : Word), s.takes ag Reg.rbTxCntClr →
    ∃ t, exec (.rbTxCntClr ag w) s = .next t ∧ (bit w 0 = true → t.reg Reg.rbTxCnt = 0 ∧ t.reg Reg.rbTxCnt2 = 0) ∧
      OnlyRegs [Reg.rbTxCnt, Reg.rbTxCnt2] s t) ∧
  (∀ (s : State) (ag : Agent) (w : Word), s.takes ag Reg.rbAntCntClr →
    ∃ t, exec (.rbAntCntClr ag w) s = .next t ∧ (bit w 0 = true → t.reg Reg.rbAntMmCnt = 0) ∧
      (bit w 1 = true → t.reg Reg.rbAntSurvCnta = 0 ∧ t.reg Reg.rbAntSurvLvla = 0x80008000) ∧ SamePages [Page.rbAnt] s t ∧ SameBytes s t)

/-! ## Return-band receiver -/

/-- Reception: detection, gain, timing, the training's results, the header, a newer preamble, the end of a packet and of its decoding.
The saturation of DGAIN (log entry 28), the grid of the samples, Config.fullScale and the blocks of the AGC (entry 116), and sample 175
as the last at which a restart works (entry 151), are the model's choice. -/
def Obligations.ReceptionComplete : Prop :=
  (∀ (s : State) (d : Detection), s.rbState = 4 → s.rx.rx = none → s.radio.legTo = none →
    s.meets { d with samples := s.heard d.samples, first := s.heard d.first, second := s.heard d.second } = true →
    ∃ t, exec (.preambleDet d) s = .next t ∧ t.rbState = 5 ∧ (t.rx.rx.map RbRx.det) = some (s.declaredOn d) ∧
      (t.rx.rx.map RbRx.c) = some (lag10 (detWin s.rx.detCfg) 0 (s.baseband d.samples)).1 ∧ t.rb (Reg.irqRaw Page.rbRx) 0 = true ∧
      t.rb Reg.rbRxAgcStatus 31 = true ∧ t.now = max s.now (sampleTick (s.declaredOn d)) % 2 ^ 64 ∧
      t.rf Reg.rbRxRxCnt 31 16 = min 0xffff (s.rf Reg.rbRxRxCnt 31 16 + 1) ∧ SameBytes s t) ∧
  (∀ (s u : State) (x : RbSamples) (b : Bool), s.rbState = 4 → s.rb Reg.rbRxAgcStatus 31 = false → (b || codesClip x) = true →
    u = passTo (sampleTick (max s.rx.agcFrom (sampleNo s.now) + 3)) s →
    ∃ t, exec (.agcAttack x b) s = .next t ∧ t.rf Reg.rbRxAgcStatus 3 0 = min 8 (s.rf Reg.rbRxAgcStatus 3 0 + 4) ∧
      t.rb (Reg.irqRaw Page.rbRx) 2 = true ∧ SamePages [Page.rbRx] u t ∧ SameBytes s t) ∧
  (∀ (s u : State) (x : RbSamples) (l : List (Int × Int)) (att : Nat) (full : Int), s.rbState = 4 → s.rb Reg.rbRxAgcStatus 31 = false →
    codesClip x = false → l = s.baseband x → att = s.rf Reg.rbRxAgcStatus 3 0 → full = powerOf l - Config.fullScale + s.agcTarget →
    u = passTo (sampleTick (max s.rx.agcFrom (sampleNo s.now) + 3)) s →
    ∃ t, exec (.agcAttack x false) s = .next t ∧ SameRegs [Reg.rbRxAgcStatus] u t ∧ SameBytes s t ∧
      (dbAbove (energy l) (l.length * dbmUnit) (Config.fullScale + ((24 * att : Nat) : Int) - s.agcTarget +
          ((4 * max 1 (fld s.rx.agc 11 8) : Nat) : Int)) = true →
        t.rf Reg.rbRxAgcStatus 3 0 = min 8 ((full.toNat + 23) / 24) ∧
        t.rf Reg.rbRxAgcStatus 23 16 = unsigned 8 (satInt 8 (((24 * min 8 ((full.toNat + 23) / 24) : Nat) : Int) - full))) ∧
      (dbAbove (energy l) (l.length * dbmUnit) (Config.fullScale + ((24 * att : Nat) : Int) - s.agcTarget +
          ((4 * max 1 (fld s.rx.agc 11 8) : Nat) : Int)) = false →
        t.reg Reg.rbRxAgcStatus = s.reg Reg.rbRxAgcStatus)) ∧
  (∀ (s : State), s.rbState = 4 → s.rb Reg.rbRxAgcStatus 31 = false → 32 ≤ s.rx.quiet →
    s.rf Reg.rbRxAgcStatus 3 0 ≠ 0 →
    ∃ t, exec .agcRelease s = .next t ∧ t.rf Reg.rbRxAgcStatus 3 0 = 0 ∧ t.rx.quiet = 0 ∧ SameRegs [Reg.rbRxAgcStatus] s t ∧
      SameBytes s t) ∧
  (∀ (s : State), s.rf Reg.rbRxAgcStatus 3 0 = 0 → exec .agcRelease s = .next s) ∧
  (∀ (s : State) (r : RbRx) (x : LongSync), s.rx.rx = some r → r.timed = false →
    r.timedBy { x with samples := s.heard x.samples } = true →
    ∃ t, exec (.longTrainingSync x) s = .next t ∧ t.regPair Reg.rbDemStartLo = sampleTick x.start % 2 ^ 64 ∧
      t.rx.rx = some { r with start := x.start, timed := true } ∧
      SamePages [Page.rbDem] (passTo (sampleTick (x.start + 79)) s) t ∧ SameBytes s t) ∧
  (∀ (s : State) (r : RbRx), s.rx.rx = some r → r.timed = false → s.rx.win = none → s.rx.old = none →
    ∃ t, exec .timingTimeout s = .next t ∧ t.rx.rx = none ∧ t.rb (Reg.irqRaw Page.rbDem) 1 = true ∧
      t.rf Reg.rbDemSyncCnt2 31 16 = min 0xffff (s.rf Reg.rbDemSyncCnt2 31 16 + 1) ∧ SameBytes s t) ∧
  (∀ (s : State) (r : RbRx) (x : RbSamples) (l : List (Int × Int)), s.rx.rx = some r → r.timed = true → r.phase = 1 →
    r.equal.taps = [] → l = s.baseband x →
    ∃ t, exec (.afcFreeze x) s = .next t ∧
      t.reg Reg.rbDemAfc = wd (unsigned 16 (r.training l).1.1 * 65536 + unsigned 16 (r.training l).1.2) ∧
      t.reg Reg.rbRxLevel = levelWord2 (r.training l).2.1 (r.training l).2.2 ∧
      (t.rx.rx.map RbRx.offset) = some (r.training l).1.2 ∧
      (t.rx.rx.map (fun y => y.equal.taps)) = some (tapsOf (r.training l).2.1 (r.training l).2.2) ∧
      SamePages [Page.rbRx, Page.rbDem] (passTo (sampleTick (r.start + 80)) s) t ∧ SameBytes s t) ∧
  (∀ (s : State) (r : RbRx) (x : RbSamples) (g : Signal), s.rx.rx = some r → r.timed = true → r.phase = 1 → r.equal.taps ≠ [] →
    g = r.signal s.freeVal (s.baseband x) →
    ∃ t, exec (.signalDecoded x) s = .next t ∧ t.rb Reg.rbDemSignal 31 = (g.ok && decide (g.rate ≤ 5)) ∧
      t.rf Reg.rbDemSignal 23 16 = g.hcs % 256 ∧ SameBytes s t ∧
      (g.ok = true → g.rate ≤ 5 →
        t.rx.rx = some { r with phase := 2, rate := g.rate, flag := g.flag, len := g.len } ∧
        t.rf Reg.rbDemSignal 2 0 = g.rate ∧ t.rb (Reg.irqRaw Page.rbDem) 0 = true) ∧
      (g.ok = false → t.rb (Reg.irqRaw Page.rbDem) 1 = true)) ∧
  (∀ (s : State) (r : RbRx) (x n : Newer), s.rx.rx = some r → r.phase = 2 → bit s.rx.capCfg 8 = true →
    n = { x with samples := s.heard x.samples } → s.stronger r n = true →
    sampleNo (sampleTick (max n.sample (sampleNo s.now))) ≤ n.start + 175 →
    ∃ t, exec (.newerPreamble x) s = .next t ∧ (t.rx.rx.map RbRx.det) = some (max n.sample (sampleNo s.now)) ∧
      (t.rx.rx.map RbRx.phase) = some 1 ∧ (t.rx.rx.map RbRx.c) = some (s.preambleOf n).c ∧
      t.rb (Reg.irqRaw Page.rbDem) 2 = true ∧ t.rb (Reg.irqRaw Page.rbDem) 4 = true ∧
      t.rf Reg.rbDemCapCnt 31 16 = min 0xffff (s.rf Reg.rbDemCapCnt 31 16 + 1) ∧ SameBytes s t) ∧
  (∀ (s : State) (r : RbRx) (x n : Newer), s.rx.rx = some r → r.phase = 2 → bit s.rx.capCfg 8 = false →
    n = { x with samples := s.heard x.samples } → s.stronger r n = true →
    ∃ t, exec (.newerPreamble x) s = .next t ∧ t.rx.rx = some r ∧ t.rb (Reg.irqRaw Page.rbDem) 3 = true ∧
      t.rf Reg.rbDemCapCnt 15 0 = min 0xffff (s.rf Reg.rbDemCapCnt 15 0 + 1) ∧
      SamePages [Page.rbDem] (passTo (sampleTick (s.preambleOf n).sample) s) t ∧ SameBytes s t) ∧
  (∀ (s : State) (r : RbRx), s.rx.rx = some r → r.phase = 2 → s.rx.dec = none →
    ∃ t, exec .packetEnd s = .next t ∧ t.rx.rx = none ∧
      t.rx.dec = some { r with ended := sampleTick (r.start + 20 * (8 + nSym r.rate r.len)) } ∧
      t.rx.lastEnd = some (sampleTick (r.start + 20 * (8 + nSym r.rate r.len))) ∧ SameBytes s t) ∧
  (∀ (s : State) (r : RbRx) (tick : Nat) (x : RbSamples), s.rx.dec = some r → s.link.ex = none →
    ∃ t, exec (.decodeEnd tick x) s = .next t ∧ t.rx.dec = none ∧ t.rb (Reg.irqRaw Page.rbDec) 0 = true ∧
      t.rf Reg.rbDecDecCnt 31 16 = min 0xffff (s.rf Reg.rbDecDecCnt 31 16 + 1))

/-- Receive windows, the noise floor and the survey of the aerials: a window opens on a sample, closes with its outcome, a reception is
ended by an event, a block of noise is averaged, and the counters clear. That the alternation of the inputs counts from the start of the
search (log entry 153), and the blocks of the noise floor (entry 116), are the model's choice. -/
def Obligations.ReceiverUpkeepComplete : Prop :=
  (∀ (s : State) (i : Issued), s.nextStep 4 = some i → i.op = 6 → s.radioHeld = false → s.rbPageOn Page.rbRx = true →
    s.rx.win = none → s.link.ex = none →
    ∃ t, exec .rbwinStep s = .next t ∧ (t.rx.win.map RbWindow.opened) = some (sampleAt i.act) ∧
      (t.rx.win.map RbWindow.close) = some (sampleAt (i.act + 8 * (i.operand % 2 ^ 24))) ∧
      (t.rx.win.map RbWindow.live) = some true ∧ SameBytes s t) ∧
  (∀ (s : State) (w : RbWindow), s.rx.win = some w → w.live = true → w.done = false → s.rx.rx = none → s.rx.dec = none →
    s.link.ex = none →
    ∃ t, exec .rbWindowClose s = .next t ∧ t.rx.win = none ∧ t.rf Reg.rbDemOutcome 3 0 = outcomeCode w ∧
      t.rb (Reg.irqRaw Page.rbDem) 5 = true ∧ SameBytes s t) ∧
  (∀ (s : State) (e : Task) (r : RbRx), s.delivers 0x98 e → s.rx.rx = some r → s.link.ex = none →
    ∃ t, exec .rbRxAbort s = .next t ∧ t.rx.rx = none ∧ t.rx.lastNone = true ∧ t.rx.lastOk = false ∧ SameBytes s t) ∧
  (∀ (s : State) (b : Bool) (x : RbSamples) (l : List (Int × Int)) (e : Nat), s.rbState = 4 → s.survey = false → s.rx.rx = none → s.rx.attack = false →
    s.rx.spoil = none → codesClip x = false → l = s.baseband x →
    e = (s.noiseBlock s.rx.inputB (max (sampleNo s.now) ((if s.rx.inputB then s.rx.noiseB else s.rx.noiseA) + 1))).2 →
    ∃ t, exec (.noiseUpdated b x) s = .next t ∧
      t.floorOf s.rx.inputB = some (floorMean (s.floorBase s.rx.inputB) (powerOf l)) ∧
      t.rf Reg.rbRxNoise 15 0 = unsigned 16 (floorMean (s.floorBase s.rx.inputB) (powerOf l)) ∧ t.rb (Reg.irqRaw Page.rbRx) 1 = true ∧
      SamePages [Page.rbRx] (passTo (sampleTick e) s) t ∧ SameBytes s t) ∧
  (∀ (s : State) (e : Nat), s.rbState = 4 → s.survey = true → s.rx.rx = none → e = sampleTick (s.rx.search + 20 * (s.rx.alts + 1)) →
    ∃ t, exec .surveyInputAlternate s = .next t ∧ t.rx.inputB = (!s.rx.inputB) ∧
      t.now = max s.now e % 2 ^ 64 ∧ SameRegs [Reg.rbRxNoise] (passTo e s) t ∧ SameBytes s t) ∧
  (∀ (s : State) (ag : Agent) (w : Word), s.takes ag Reg.rbRxCntClr →
    ∃ t, exec (.rbRxCntClr ag w) s = .next t ∧ (bit w 0 = true → t.reg Reg.rbRxRxCnt = 0) ∧ OnlyRegs [Reg.rbRxRxCnt] s t) ∧
  (∀ (s : State) (ag : Agent) (w : Word), s.takes ag Reg.rbDemCntClr →
    ∃ t, exec (.rbDemCntClr ag w) s = .next t ∧
      (bit w 0 = true → t.reg Reg.rbDemSyncCnt = 0 ∧ t.reg Reg.rbDemSyncCnt2 = 0 ∧ t.reg Reg.rbDemCapCnt = 0) ∧
      OnlyRegs [Reg.rbDemSyncCnt, Reg.rbDemSyncCnt2, Reg.rbDemCapCnt] s t) ∧
  (∀ (s : State) (ag : Agent) (w : Word), s.takes ag Reg.rbDecCntClr →
    ∃ t, exec (.rbDecCntClr ag w) s = .next t ∧ (bit w 0 = true → t.reg Reg.rbDecDecCnt = 0) ∧ OnlyRegs [Reg.rbDecDecCnt] s t)

/-! ## Check-value units -/

/-- Frames on a check-value channel: START loads RUN, DATA feeds bytes through the bit rule, END latches and compares RESULT, ABORT drops
the frame, and the parameters come from a preset. -/
def Obligations.CheckValuesComplete : Prop :=
  (∀ (s : State) (ag : Agent) (c : CvuIx) (w : Word), s.unitTakes ag (0x60 + c) (Reg.cvuCCtrl c) → s.cvuBad c = none →
    s.cvuOff c = false → s.chqAsked c = false →
    ∃ t, exec (.cvuStart ag c w) s = .next t ∧ t.rb (Reg.cvuCStatus c) 0 = true ∧ t.rb (Reg.cvuCStatus c) 3 = false ∧
      t.rf (Reg.cvuCStatus c) 31 16 = 0 ∧ t.reg (Reg.cvuCRun c) = wd (s.cvuPar c).start ∧
      t.rf (Reg.cvuCCtrl c) 9 8 = fld w 9 8 ∧ SamePages [Page.cvu] s t ∧ SameBytes s t) ∧
  (∀ (s : State) (ag : Agent) (c : CvuIx) (w : Word), s.unitTakes ag (0x60 + c) (Reg.cvuCData c) →
    s.rb (Reg.cvuCStatus c) 0 = true →
    ∃ t, exec (.cvuData ag c w) s = .next t ∧ t.reg (Reg.cvuCRun c) =
        wd (((wordBytes w).take (if s.rf (Reg.cvuCCtrl c) 9 8 = 0 then 4 else s.rf (Reg.cvuCCtrl c) 9 8)).foldl (s.cvuPar c).byteIn
          (s.reg (Reg.cvuCRun c)).toNat % 2 ^ (s.cvuPar c).w) ∧
      SameRegs [Reg.cvuCRun c, Reg.cvuCResult c, Reg.cvuCStatus c] s t ∧ SameBytes s t) ∧
  (∀ (s : State) (ag : Agent) (c : CvuIx) (w : Word), s.unitTakes ag (0x60 + c) (Reg.cvuCCtrl c) →
    s.rb (Reg.cvuCStatus c) 0 = true → s.rb (Reg.cvuCCfg c) 4 = false →
    ∃ t, exec (.cvuEnd ag c w) s = .next t ∧ t.rb (Reg.cvuCStatus c) 0 = false ∧ t.rb (Reg.cvuCStatus c) 3 = true ∧
      t.reg (Reg.cvuCLast c) = s.reg (Reg.cvuCResult c) ∧ t.rb (Reg.irqRaw Page.cvu) c = true ∧
      t.rf (Reg.cvuCCnt c) 15 0 = min 0xffff (s.rf (Reg.cvuCCnt c) 15 0 + 1) ∧ SamePages [Page.cvu] s t ∧ SameBytes s t) ∧
  (∀ (s : State) (ag : Agent) (c : CvuIx) (w : Word), s.unitTakes ag (0x60 + c) (Reg.cvuCCtrl c) →
    s.rb (Reg.cvuCStatus c) 0 = true → s.rb (Reg.cvuCCfg c) 4 = true →
    ∃ t, exec (.cvuEnd ag c w) s = .next t ∧ t.rb (Reg.cvuCStatus c) 0 = false ∧
      t.rb (Reg.cvuCStatus c) 1 = decide ((s.reg (Reg.cvuCResult c)).toNat = s.cvuExpect c) ∧
      ((s.reg (Reg.cvuCResult c)).toNat ≠ s.cvuExpect c → t.rb (Reg.cvuCStatus c) 2 = true ∧
        t.rb (Reg.irqRaw Page.cvu) (8 + c) = true)) ∧
  (∀ (s : State) (ag : Agent) (c : CvuIx) (w : Word), s.unitTakes ag (0x60 + c) (Reg.cvuCCtrl c) →
    ∃ t, exec (.cvuAbort ag c w) s = .next t ∧ t.rb (Reg.cvuCStatus c) 0 = false ∧
      t.rf (Reg.cvuCCnt c) 19 16 = (if s.rb (Reg.cvuCStatus c) 0 then min 15 (s.rf (Reg.cvuCCnt c) 19 16 + 1)
        else s.rf (Reg.cvuCCnt c) 19 16) ∧ t.reg (Reg.cvuCLast c) = s.reg (Reg.cvuCLast c) ∧ SamePages [Page.cvu] s t ∧ SameBytes s t) ∧
  (∀ (s : State) (ag : Agent) (c : CvuIx) (w : Word), s.unitTakes ag (0x60 + c) (Reg.cvuCRun c) →
    ∃ t, exec (.cvuRunWrite ag c w) s = .next t ∧ t.reg (Reg.cvuCRun c) = wd (w.toNat % 2 ^ (s.cvuPar c).w) ∧
      OnlyRegs [Reg.cvuCRun c, Reg.cvuCResult c] s t) ∧
  (∀ (s : State) (ag : Agent) (c : CvuIx) (w : Word) (p : CrcPar), s.unitTakes ag (0x60 + c) (Reg.cvuCCfg c) →
    s.rb (Reg.cvuCStatus c) 0 = false → preset (fld w 3 0) = some p →
    ∃ t, exec (.cvuCfgWrite ag c w) s = .next t ∧ t.cvuPar c = p ∧ t.rf (Reg.cvuCCfg c) 3 0 = fld w 3 0 ∧
      t.rb (Reg.cvuCCfg c) 4 = bit w 4 ∧ OnlyRegs [Reg.cvuCCfg c, Reg.cvuCPoly c, Reg.cvuCInit c, Reg.cvuCXor c,
        Reg.cvuCRun c, Reg.cvuCResult c] s t) ∧
  (∀ (s : State) (ag : Agent) (w : Word), s.takes ag Reg.cvuChq →
    ∃ t, exec (.cvuChqWrite ag w) s = .next t ∧
      (List.range 8).all (fun c => t.rb Reg.cvuChq c == bit w c &&
        (!t.chqAsked c || s.rb (Reg.cvuCStatus c) 0 || t.rb Reg.cvuChq (16 + c)) &&
        (t.chqAsked c || !t.rb Reg.cvuChq (16 + c))) = true ∧
      SamePages [Page.cvu] s t ∧ SameBytes s t) ∧
  (∀ (s : State) (ag : Agent) (w : Word) (c : CvuIx), s.takes ag Reg.cvuCntClr →
    ∃ t, exec (.cvuCntClr ag w) s = .next t ∧
      t.reg (Reg.cvuCCnt c) = (if bit w c && s.holds ag (0x60 + c) then 0 else s.reg (Reg.cvuCCnt c)) ∧
      SamePages [Page.cvu] s t ∧ SameBytes s t)

/-! ## Panel tag -/

/-- The panel tag on air: it comes to IDLE with its field and loses its state with it, answers REQA, WUPA, anticollision and SELECT by
its state, enters layer 4 with RATS, and is halted by HLTA and DESELECT. The answers to PPS and DESELECT are those of ISO/IEC 14443-4
(log entry 137, PRESUMED). -/
def Obligations.TagAirComplete : Prop :=
  (∀ (s : State) (b : Bool), s.tag.field = false →
    ∃ t, exec (.tagFieldOn b) s = .next t ∧ t.tag.field = true ∧ t.tag.air = .idle ∧ t.tag.selected = false ∧ t.tag.auth = 0 ∧
      t.tag.reserve = b ∧ (s.sysUp = true → t.rb (Reg.irqRaw Page.tagc) 0 = true ∧ t.rb (Reg.irqRaw Page.tagc) 7 = true) ∧
      SamePages [Page.tagc] s t ∧ SameBytes s t) ∧
  (∀ (s : State), s.tag.cmd = none →
    ∃ t, exec .tagFieldLost s = .next t ∧ t.tag.field = false ∧ t.tag.air = .noField ∧ t.tag.selected = false ∧ t.tag.auth = 0 ∧
      t.tag.l4 = false ∧ SamePages [Page.tagc] s t ∧ SameBytes s t) ∧
  (∀ (s : State) (n : Nat), s.tag.cmd = none → s.tag.field = true → s.tagFlag 1 = true → s.tag.air = .idle →
    ∃ t, exec (.tagReqa n) s = .next t ∧ t.tag.air = .ready ∧ t.tag.reply = [0x44, 0x00] ∧ SamePages [Page.tagc, Page.dbg] s t) ∧
  (∀ (s : State) (n : Nat), s.tag.cmd = none → s.tag.field = true → s.tagFlag 1 = true → s.tag.air = .halted →
    ∃ t, exec (.tagReqa n) s = .next t ∧ t.tag = s.tag ∧ SameRegs [] s t ∧ SameBytes s t) ∧
  (∀ (s : State) (n : Nat), s.tag.cmd = none → s.tag.field = true → s.tagFlag 1 = true →
    (s.tag.air = .halted ∨ s.tag.air = .idle) →
    ∃ t, exec (.tagWupa n) s = .next t ∧ t.tag.air = .ready ∧ t.tag.level = 1 ∧ t.tag.reply = [0x44, 0x00]) ∧
  (∀ (s : State) (lv : Nat) (k : List Bool) (n : Nat), s.tag.cmd = none → s.tag.field = true → s.tagFlag 1 = true →
    s.tag.air = .ready → lv = s.tag.level → (levelBits (s.cascade lv)).take k.length = k →
    ∃ t, exec (.tagAnticollision lv k n) s = .next t ∧ t.tag.air = .ready ∧
      t.tag.reply = packBits ((levelBits (s.cascade lv)).drop k.length)) ∧
  (∀ (s : State) (n : Nat), s.tag.cmd = none → s.tag.field = true → s.tagFlag 1 = true → s.tag.air = .ready → s.tag.level = 1 →
    ∃ t, exec (.tagSelect 1 (s.cascade 1) n) s = .next t ∧ t.tag.air = .ready ∧ t.tag.level = 2 ∧ t.tag.reply = [0x04]) ∧
  (∀ (s : State) (n : Nat), s.tag.cmd = none → s.tag.field = true → s.tagFlag 1 = true → s.tag.air = .ready → s.tag.level = 2 →
    ∃ t, exec (.tagSelect 2 (s.cascade 2) n) s = .next t ∧ t.tag.air = .active ∧ t.tag.l4 = false ∧ t.tag.reply = [0x20]) ∧
  (∀ (s : State), s.tag.cmd = none → s.tag.field = true → s.tagFlag 1 = true → s.tag.air = .active → s.tag.l4 = false →
    ∃ t, exec .tagHlta s = .next t ∧ t.tag.air = .halted ∧ t.tag.reply = s.tag.reply ∧ SameRegs [] s t ∧ SameBytes s t) ∧
  (∀ (s : State) (param n : Nat), s.tag.cmd = none → s.tag.field = true → s.tagFlag 1 = true → s.tag.air = .active →
    s.tag.l4 = false → param % 16 ≤ 14 →
    ∃ t, exec (.tagRats param n) s = .next t ∧ t.tag.l4 = true ∧ t.tag.cid = param % 16 ∧
      t.tag.fsd = frameSize (param / 16 % 16) ∧ t.tag.reply = [0x05, 0x78, 0x00, 0x50, 0x02]) ∧
  (∀ (s : State) (cid n : Nat), s.tag.cmd = none → s.tag.field = true → s.tagFlag 1 = true → s.forTag (some cid) = true →
    ∃ t, exec (.tagPps cid 0 0 n) s = .next t ∧ t.tag.reply = [BitVec.ofNat 8 (0xd0 + cid)] ∧ t.tag.l4 = true) ∧
  (∀ (s : State) (cid : Option Nat) (n : Nat), s.tag.cmd = none → s.tag.field = true → s.tagFlag 1 = true → s.forTag cid = true →
    ∃ t, exec (.tagDeselect cid n) s = .next t ∧ t.tag.air = .halted ∧ t.tag.l4 = false ∧ t.tag.selected = false ∧
      t.tag.auth = 0 ∧ t.tag.reply.length = 1 + cid.isSome.toNat)

/-- APDUs in layer 4: SELECT, READ BINARY, UPDATE BINARY, VERIFY and CHANGE REFERENCE DATA with a right and a wrong password, and the
counters. The places of the passwords and their counts in the tag's memory are the model's choice (log entry 46). -/
def Obligations.TagApdusComplete : Prop :=
  (∀ (s : State) (x : Apdu), s.tag.cmd = none → s.tag.field = true → s.tagFlag 1 = true →
    s.asks 0xa4 x = true →
    x.cla = 0 → x.extended = false → x.le = none → x.p1 = 4 → x.p2 = 0 → x.data = some tagAid →
    ∃ t, exec (.apduSelect x) s = .next t ∧ t.tag.selected = true ∧ t.tag.auth = 0 ∧ t.tag.reply = [0x90, 0x00] ∧ SameBytes s t) ∧
  (∀ (s : State) (x : Apdu) (n : Nat), s.tag.cmd = none → s.tag.field = true → s.tagFlag 1 = true →
    s.asks 0xb0 x = true → s.tag.selected = true → x.cla = 0 → x.extended = false → x.data = none → x.le = some n → 0 < n → n ≤ 256 →
    x.p1 < 128 → apduAddr x + n ≤ 0x4000 → s.pwNeeds (s.needed false (apduAddr x) n) = none →
    ∃ t, exec (.apduReadBinary x) s = .next t ∧
      t.tag.reply = (List.range n).map (fun i => s.tagSeen (apduAddr x + i)) ++ [0x90, 0x00] ∧ SameBytes s t) ∧
  (∀ (s : State) (x : Apdu) (l : List Byte), s.tag.cmd = none → s.tag.field = true → s.tagFlag 1 = true →
    s.asks 0xd6 x = true → s.tag.selected = true → x.cla = 0 → x.extended = false → x.data = some l → x.le = none → l ≠ [] →
    l.length ≤ 255 → x.p1 < 128 → 0x100 ≤ apduAddr x → apduAddr x + l.length ≤ 0x4000 →
    s.pwNeeds (s.needed true (apduAddr x) l.length) = none →
    (regionsOf (apduAddr x) l.length).all (fun r => !s.rb Reg.tagcFieldWlock r && !(s.tag16 0x22).testBit r) = true →
    l.length + apduAddr x % 4 ≤ 4 * x.writes →
    ∃ t, exec (.apduUpdateBinary x) s = .next t ∧ t.tagBytes (apduAddr x) l.length = l ∧ t.tag.reply = [0x90, 0x00] ∧
      SameBytesBut (tagBase + apduAddr x) l.length s t) ∧
  (∀ (s : State) (x : Apdu) (k : Nat) (l : List Byte), s.tag.cmd = none → s.tag.field = true → s.tagFlag 1 = true →
    s.asks 0x20 x = true → s.tag.selected = true → x.cla = 0 → x.extended = false → x.data = some l → x.le = none →
    l.length = 4 → x.p1 = 0 → x.p2 = 0x80 + k → k < 4 → s.pwLeft k ≠ 0 → pwOf l = s.pwWord k → 2 ≤ x.writes →
    ∃ t, exec (.apduVerify x) s = .next t ∧ t.tag.auth.testBit k = true ∧ t.pwLeft k = s.pwLimit k ∧ t.tag.reply = [0x90, 0x00] ∧
      SameBytesBut (tagBase + 0x70) 4 s t) ∧
  (∀ (s : State) (x : Apdu) (k : Nat) (l : List Byte), s.tag.cmd = none → s.tag.field = true → s.tagFlag 1 = true →
    s.asks 0x20 x = true → s.tag.selected = true → x.cla = 0 → x.extended = false → x.data = some l → x.le = none →
    l.length = 4 → x.p1 = 0 → x.p2 = 0x80 + k → k < 4 → s.pwLeft k ≠ 0 → pwOf l ≠ s.pwWord k → 1 ≤ x.writes →
    ∃ t, exec (.apduVerify x) s = .next t ∧ t.tag.auth = s.tag.auth ∧ t.pwLeft k = s.pwLeft k - 1 ∧
      t.tag.reply = [0x63, BitVec.ofNat 8 (0xc0 + (s.pwLeft k - 1))] ∧
      (s.sysUp = true → t.rb (Reg.irqRaw Page.tagc) 4 = true) ∧ SameBytesBut (tagBase + 0x70 + k) 1 s t) ∧
  (∀ (s : State) (x : Apdu) (k : Nat) (l : List Byte), s.tag.cmd = none → s.tag.field = true → s.tagFlag 1 = true →
    s.asks 0x24 x = true → s.tag.selected = true → x.cla = 0 → x.extended = false → x.data = some l → x.le = none →
    l.length = 8 → x.p1 = 0 → x.p2 = 0x80 + k → k < 4 → s.pwLeft k ≠ 0 → pwOf (l.take 4) = s.pwWord k → 3 ≤ x.writes →
    ∃ t, exec (.apduChangeReferenceData x) s = .next t ∧ t.pwWord k = pwOf (l.drop 4) ∧ t.pwLeft k = s.pwLimit k ∧
      t.tag.reply = [0x90, 0x00] ∧ SameBytesBut (tagBase + 0x60) 0x20 s t) ∧
  (∀ (s : State) (x : Apdu) (l : List Byte) (b : Nat), s.tag.cmd = none → s.tag.field = true → s.tagFlag 1 = true →
    s.asks 0x32 x = true → s.tag.selected = true → x.cla = 0x80 → x.extended = false → x.data = some l →
    l.length = 3 → x.le = some 3 → x.p1 ≤ 7 → x.p2 = 0 → s.cntNeeds x.p1 = false → s.newerCopy x.p1 = some b →
    s.copyVal x.p1 b + pwOf l ≤ 0xffffff → 2 ≤ x.writes →
    ∃ t, exec (.apduIncrementCounter x) s = .next t ∧ t.counter x.p1 = some (s.copyVal x.p1 b + pwOf l) ∧
      t.tag.reply = counterBytes (s.copyVal x.p1 b + pwOf l) ++ [0x90, 0x00] ∧
      SameBytesBut (tagBase + copyAddr x.p1 (1 - b)) 8 s t) ∧
  (∀ (s : State) (x : Apdu) (v : Nat), s.tag.cmd = none → s.tag.field = true → s.tagFlag 1 = true →
    s.asks 0x34 x = true → s.tag.selected = true → x.cla = 0x80 → x.extended = false → x.data = none → x.le = some 3 → x.p1 ≤ 7 →
    x.p2 = 0 → s.counter x.p1 = some v →
    ∃ t, exec (.apduReadCounter x) s = .next t ∧ t.tag.reply = counterBytes v ++ [0x90, 0x00] ∧ SameBytes s t)

/-- The panel tag's wired side: transactions of the I²C port and words of the memory view, which wait behind a field command and expire,
and the writes of the TAGC page. The places of the passwords and their counts in the tag's memory are the model's choice (log entry 46). -/
def Obligations.TagWireComplete : Prop :=
  (∀ (s : State) (a m f : Nat) (l : List Byte), s.tag.cmd = none → s.tag.waiting = [] → s.i2cMine a = true → 0x100 ≤ m →
    m < 0x4000 → l ≠ [] → l.length ≤ 16 - m % 16 → 1 ≤ f →
    ∃ t, exec (.i2cWriteTransaction a m l f) s = .next t ∧ t.dataOut = [wd l.length] ∧ t.tagBytes m l.length = l ∧
      SameRegs [] s t ∧ SameBytesBut (tagBase + m) l.length s t) ∧
  (∀ (s : State) (a m n f : Nat), s.tag.cmd = none → s.tag.waiting = [] → s.i2cMine a = true → m < 0x4000 → 0 < n →
    n ≤ 16 - m % 16 → 1 ≤ f →
    ∃ t, exec (.i2cReadTransaction a (some m) n f) s = .next t ∧
      t.dataOut = byteWords ((List.range n).map (fun i => s.tagSeen (m + i))) ∧ SameRegs [] s t ∧ SameBytes s t) ∧
  (∀ (s : State) (a : TagWordIx) (w : Word), s.tag.cmd = none → s.tag.waiting = [] → s.hostUp = true →
    ∃ t, exec (.tagViewAccess false a w) s = .next t ∧
      t.dataOut = bytesWords ((List.range 4).map (fun i => s.tagSeen (4 * a + i))) ∧ SameRegs [] s t ∧ SameBytes s t) ∧
  (∀ (s : State) (a : TagWordIx) (w : Word), s.tag.cmd = none → s.tag.waiting = [] → s.hostUp = true → s.isReady = true →
    0x100 ≤ 4 * a.val →
    ∃ t, exec (.tagViewAccess true a w) s = .next t ∧ t.tagBytes (4 * a) 4 = wordBytes w ∧ SameRegs [] s t ∧
      SameBytesBut (tagBase + 4 * a) 4 s t) ∧
  (∀ (s : State) (a : Nat) (p : Option Nat) (h : Bool) (r : List WireWait), s.tag.waiting = ⟨.viewRead a, p, h⟩ :: r → s.tag.cmd = none →
    ∃ t, exec .wireGranule s = .next t ∧ t.dataOut = s.dataOut ++ bytesWords ((List.range 4).map (fun i => s.tagSeen (a + i))) ∧
      t.tag.waiting = r ∧ (h = false → SameRegs [] s t) ∧ SameRegs [Reg.tagcArbCnt] s t ∧
      (h = true → s.sysUp = true → t.rf Reg.tagcArbCnt 31 16 = min 0xffff (s.rf Reg.tagcArbCnt 31 16 + 1)) ∧ SameBytes s t) ∧
  (∀ (s : State) (a p : Nat) (h : Bool) (w : Word) (c : FieldCmd) (r : List WireWait), s.tag.waiting = ⟨.viewWrite a w, some p, h⟩ :: r →
    s.tag.cmd = some c → p + wireLimit < c.ends → s.sysUp = true → s.rf (Reg.errCode Page.tagc) 15 10 = 0 →
    ∃ t, exec .wireTimeout s = .next t ∧ t.tag.waiting = r ∧ t.now = max s.now (p + wireLimit) % 2 ^ 64 ∧
      t.rf (Reg.errCode Page.tagc) 7 0 = Err.overrun ∧ t.rb (Reg.irqRaw Page.tagc) 3 = true ∧ SameBytes s t) ∧
  (∀ (s : State) (ag : Agent) (v w : Word), s.takes ag Reg.tagcPwValue → s.takes ag Reg.tagcPwCtrl → bit w 8 = true →
    s.tag.cmd = none → s.tag.waiting = [] → s.pwLeft (fld w 1 0) ≠ 0 →
    s.rb (Reg.ctrl Page.tagc) 0 = true →
    ∃ t, exec (.tagcPwSet ag v w) s = .next t ∧ t.pwWord (fld w 1 0) = v.toNat ∧
      t.pwLimit (fld w 1 0) = (if fld w 7 4 = 0 then s.pwLimit (fld w 1 0) else fld w 7 4) ∧
      t.pwLeft (fld w 1 0) = t.pwLimit (fld w 1 0) ∧ SameRegs [Reg.status Page.tagc] s t ∧
      SameBytesBut (tagBase + 0x34) 0x40 s t) ∧
  (∀ (s : State) (ag : Agent) (w : Word) (b : Nat), s.takes ag Reg.tagcCntCtrl → bit w 31 = true → s.tag.cmd = none →
    s.tag.waiting = [] → s.newerCopy (fld w 26 24) = some b → s.copyVal (fld w 26 24) b + max 1 (fld w 23 0) ≤ 0xffffff →
    s.rb (Reg.ctrl Page.tagc) 0 = true →
    ∃ t, exec (.tagcCntInc ag w) s = .next t ∧ t.counter (fld w 26 24) = some (s.copyVal (fld w 26 24) b + max 1 (fld w 23 0)) ∧
      SameRegs [Reg.status Page.tagc] s t ∧ SameBytesBut (tagBase + copyAddr (fld w 26 24) (1 - b)) 8 s t) ∧
  (∀ (s : State) (ag : Agent) (w : Word), s.takes ag Reg.tagcCfg → s.tag.cmd = none → s.tag.waiting = [] →
    ∃ t, exec (.tagcConfigWrite ag .cfg w) s = .next t ∧ t.tagFlag 0 = bit w 8 ∧ t.tagFlag 1 = bit w 9 ∧
      (t.tagByte 0x20).toNat = fld w 6 0 ∧ SameRegs [Reg.status Page.tagc] s t ∧ SameBytesBut (tagBase + 0x20) 2 s t) ∧
  (∀ (s : State) (ag : Agent) (w : Word), s.takes ag Reg.tagcFieldWlock →
    ∃ t, exec (.tagcFieldWlock ag w) s = .next t ∧ t.reg Reg.tagcFieldWlock = wd (fld w 15 0) ∧ OnlyRegs [Reg.tagcFieldWlock] s t) ∧
  (∀ (s : State) (ag : Agent) (w : Word), s.takes ag Reg.tagcCntClr →
    ∃ t, exec (.tagcCntClr ag w) s = .next t ∧ (bit w 0 = true → t.reg Reg.tagcArbCnt = 0) ∧
      (bit w 1 = true → t.reg Reg.tagcFieldCnt = 0) ∧ OnlyRegs [Reg.tagcArbCnt, Reg.tagcFieldCnt] s t)

/-! ## Hollyhock: mailbox, sensors, protection -/

/-- A command given to the mailbox starts and prepares its reply, each with its own effect; the reply is then given with its header
(R426–R429, R434, R442–R445). SOURCE 0xFF of LOG_NOTE (log entry 152) and the places of the attempt counts in the tag's memory (entry 46)
are the model's choice. -/
def Obligations.MailboxComplete : Prop :=
  (∀ (s : State) (ag : Agent) (tag : Nat), s.mboxFree ag →
    ∃ t, exec (.mboxGetVersion ag tag []) s = .next t ∧ t.job = some (tag % 65536, 0,
        [wd s.version, wd ((s.fwSlot s.mgt.run).svn * 65536 + s.rollback), s.dirWord,
         (List.range 8).foldl (fun x k => x ^^^ s.reg (Reg.lspPlScoreId k)) 0]) ∧
      t.reg Reg.mboxState = wd 0x01000001 ∧ SameRegs [Reg.mboxReq, Reg.mboxState] s t ∧ SameBytes s t) ∧
  (∀ (s : State) (ag : Agent) (tag : Nat) (a b c : Word), s.mboxFree ag → s.logOpen = true → s.mgt.logWaits = [] →
    s.rf Reg.logFilter 1 0 ≤ 1 → 0x8000 ≤ fld a 15 0 →
    ∃ t, exec (.mboxLogNote ag tag [a, b, c]) s = .next t ∧ t.nvm.logSeq = (s.nvm.logSeq + 1) % 2 ^ 32 ∧
      t.job = some (tag % 65536, 0, [wd (s.nvm.logSeq + 1)]) ∧
      tabGet [] t.nvm.log s.nvm.logNext =
        LogRec.words ⟨s.now, fld a 15 0, 0xff, 1, b.toNat, c.toNat⟩ s.nvm.boots ((s.nvm.logSeq + 1) % 2 ^ 32) ∧
      t.rb (Reg.irqRaw Page.log) 0 = true ∧ SameBytes s t) ∧
  (∀ (s : State) (ag : Agent) (tag : Nat), s.mboxFree ag → s.mgtRuns = true → s.mgt.cal = none → s.quiesced Page.cal = false →
    s.quiesced Page.sens = true → s.pageUp Page.sens = true →
    ∃ t, exec (.mboxCalibrate ag tag [wd 0x70000000]) s = .next t ∧ t.mgt.cal.isSome = true ∧ t.rf Reg.calStatus 27 24 = 7 ∧
      t.rb Reg.calStatus 31 = true ∧ t.mgt.job.map Job.wait = some .cal ∧ SameBytes s t) ∧
  (∀ (s : State) (ag : Agent) (tag i : Nat) (l : List Nat), s.mboxFree ag → s.commit = none → s.setOk = true → i < s.records → i < 256 →
    s.recordOk (s.recordAt i) = true → (s.recordAt i).typ = 0x12 → imageRegs 0x12 (s.recordAt i).target = some l →
    imageOk 0x12 l (s.payload (s.recordAt i)) (s.recordAt i).len = true →
    ∃ t, exec (.mboxApplyRecord ag tag [wd i]) s = .next t ∧ t.rb (Reg.stageCtrl (s.recordAt i).page) 0 = true ∧
      (l.zip (s.payload (s.recordAt i))).all (fun p => t.shade p.1 == p.2) = true ∧
      t.job = some (tag % 65536, 0, [wd (pageMask [(s.recordAt i).page] 0), wd (pageMask [(s.recordAt i).page] 32), 0]) ∧
      SameBytes s t) ∧
  (∀ (s : State) (ag : Agent) (tag : Nat) (l : List Nat), s.mboxFree ag → s.setOk = true →
    l = (List.range s.records).filter (fun i => !s.recordOk (s.recordAt i)) →
    ∃ t, exec (.mboxCheckStore ag tag []) s = .next t ∧
      t.job = some (tag % 65536, 0, [wd (s.records - l.length), wd (l.headD 0xff)]) ∧
      SameRegs [Reg.mboxReq, Reg.mboxState] s t ∧ SameBytes s t) ∧
  (∀ (s : State) (ag : Agent) (tag : Nat), s.mboxFree ag → (s.fwSlot (1 - s.nvm.active)).verified = true → s.nvm.trialRun = false →
    s.nvm.trial = none → s.nvm.header = none →
    ∃ t, exec (.mboxFwSwitch ag tag []) s = .next t ∧ t.nvm.trial = some (1 - s.nvm.active) ∧ t.nvm.trialCount = 1 ∧
      t.nvm.header = some (0x30, tag % 65536, true) ∧ t.boot.mgtDown = true ∧ t.rb Reg.rstCause 9 = true ∧ t.nvm.active = s.nvm.active) ∧
  (∀ (s : State) (ag : Agent) (tag x : Nat) (w : Word), s.mboxFree ag → s.nvm.trialRun = true → s.nvm.trial = some x →
    ∃ t, exec (.mboxFwConfirm ag tag [w]) s = .next t ∧ t.nvm.active = x ∧ t.nvm.trial = none ∧ t.nvm.trialRun = false ∧
      t.rollback = (if bit w 0 then max s.rollback (s.fwSlot s.mgt.run).svn else s.rollback) ∧
      t.job = some (tag % 65536, 0, [wd t.rollback]) ∧ SameBytes s t) ∧
  (∀ (s : State) (ag : Agent) (tag : Nat), s.mboxFree ag → s.nvm.trialRun = true → s.nvm.header = none →
    ∃ t, exec (.mboxFwRevert ag tag []) s = .next t ∧ t.nvm.trial = none ∧ t.nvm.trialRun = false ∧ t.boot.mgtDown = true ∧
      t.nvm.header = some (0x32, tag % 65536, true) ∧ t.nvm.active = s.nvm.active ∧ t.mgt.reverted = some 3) ∧
  (∀ (s : State) (ag : Agent) (tag : Nat) (w : Word), s.mboxFree ag → s.tag.cmd = none → s.tag.waiting = [] →
    ∃ t, exec (.mboxTagUnlock ag tag [w]) s = .next t ∧ (bitsOf 4 (fld w 3 0)).all (fun k => t.pwLeft k == s.pwLimit k) = true ∧
      t.mgt.job.map Job.wait = some .tag ∧ SameBytesBut (tagBase + 0x70) 4 s t) ∧
  (∀ (s : State) (ag : Agent) (tag x : Nat) (v : Int), s.mboxFree ag → s.rb Reg.sensProt 28 = true → s.hottest = some (x, v) →
    v < 16 * s.rf Reg.sensThermCfg 23 16 - 80 →
    ∃ t, exec (.mboxProtClear ag tag []) s = .next t ∧ t.rb Reg.sensProt 28 = false ∧ t.rb Reg.sensProt 29 = false ∧
      t.rf Reg.sensProt 11 0 = 2000 ∧ t.rb (Reg.irqRaw Page.sens) 2 = false ∧ t.job = some (tag % 65536, 0, [t.reg Reg.sensProt])) ∧
  (∀ (s : State) (ag : Agent) (code tag : Nat) (l : List Word), s.mboxFree ag → mboxArgs (code % 256) = none → l.length ≤ 64 →
    ∃ t, exec (.mboxUnknownCode ag code tag l) s = .next t ∧ t.job = some (tag % 65536, Err.modeAbort, []) ∧
      t.reg Reg.mboxState = wd (code % 256 * 2 ^ 24 + 1) ∧ t.rb Reg.dbgFaultSum 10 = true ∧ SameBytes s t) ∧
  (∀ (s : State) (j : Job), s.mgt.job = some j → j.wait = .none → s.mgtRuns = true → j.words.length ≤ 64 → j.err < 256 →
    ∃ t, exec .mboxReply s = .next t ∧ t.mgt.job = none ∧ t.rf Reg.mboxState 1 0 = 2 ∧
      t.reg Reg.mboxReply = wd (s.rf Reg.mboxState 31 24 * 2 ^ 24 + j.words.length * 2 ^ 16 + j.err * 2 ^ 8) ∧
      t.rf Reg.mboxReplyTag 15 0 = j.tag % 65536 ∧ (List.range j.words.length).map (fun i => t.reg (Reg.mboxRdata i)) = j.words ∧
      t.rb (Reg.irqRaw Page.mbox) 0 = true ∧ SameBytes s t)

/-- Sensors and protection: values as they come, the levels with their counts and reports, the latch that stops every driver, the cap's
steps, the supervisor of VFLD, and the report of a rail out of range (R431–R434, R448). That SENS.SUPPLY saturates is the model's choice
(log entry 28). -/
def Obligations.ProtectionComplete : Prop :=
  (∀ (s : State) (k : Fin 3) (v : Int), s.mgtRuns = true → s.quiesced Page.sens = false →
    ∃ t, exec (.sensorRefresh (.temp k v)) s = .next t ∧ t.reg (Reg.sensTemp k) = wd (2 ^ 31 + unsigned 16 v) ∧
      tabGet none t.mgt.temps k.val = some v ∧ SameRegs [Reg.sensTemp k] s t ∧ SameBytes s t) ∧
  (∀ (s : State) (r : Fin 6) (mv : Nat), s.mgtRuns = true → s.quiesced Page.sens = false →
    ∃ t, exec (.sensorRefresh (.supply r mv)) s = .next t ∧ t.rf (Reg.sensSupply r) 15 0 = min 0xffff mv ∧
      t.rf (Reg.sensSupply r) 31 16 = min (min 0xffff mv) (s.rf (Reg.sensSupply r) 31 16) ∧ SameRegs [Reg.sensSupply r] s t ∧
      SameBytes s t) ∧
  (∀ (s : State) (x : Nat) (v : Int), s.mgtRuns = true → s.hottest = some (x, v) →
    s.rf Reg.sensProt 31 30 < s.levelOf (s.rf Reg.sensProt 31 30) v → s.levelOf (s.rf Reg.sensProt 31 30) v < 3 →
    s.rf (Reg.errCode Page.sens) 15 10 = 0 →
    ∃ t, exec .thermalLevelCheck s = .next t ∧ t.rf Reg.sensProt 31 30 = s.levelOf (s.rf Reg.sensProt 31 30) v ∧
      t.rb (Reg.irqRaw Page.sens) 0 = true ∧ t.rb Reg.dbgFaultSum 11 = true ∧ t.rf (Reg.errCode Page.sens) 7 0 = Err.thermal ∧
      t.reg (Reg.errInfo Page.sens) = wd x ∧ t.rb Reg.sensProt 28 = s.rb Reg.sensProt 28 ∧ SameBytes s t) ∧
  (∀ (s : State) (x : Nat) (v : Int), s.mgtRuns = true → s.hottest = some (x, v) → s.rf Reg.sensProt 31 30 < 3 → 2080 ≤ v →
    ∃ t, exec .thermalLevelCheck s = .next t ∧ t.rf Reg.sensProt 31 30 = 3 ∧ t.rb Reg.sensProt 28 = true ∧
      t.rb (Reg.irqRaw Page.sens) 2 = true ∧ (List.range 12).all (fun c => !t.coilOn c) = true ∧ t.crocus.sweep = none) ∧
  (∀ (s : State) (x : Nat) (v : Int), s.mgtRuns = true → s.hottest = some (x, v) →
    s.levelOf (s.rf Reg.sensProt 31 30) v ≤ s.rf Reg.sensProt 31 30 →
    ∃ t, exec .thermalLevelCheck s = .next t ∧ t.rf Reg.sensProt 31 30 = s.levelOf (s.rf Reg.sensProt 31 30) v ∧
      t.rf Reg.sensProt 29 0 = s.rf Reg.sensProt 29 0 ∧ OnlyRegs [Reg.sensProt] s t) ∧
  (∀ (s : State), s.mgtRuns = true → s.rf Reg.sensProt 31 30 < 3 →
    ∃ t, exec .protCapStep s = .next t ∧ t.rf Reg.sensProt 11 0 =
      (if s.rf Reg.sensProt 31 30 = 2 then max 200 (s.rf Reg.sensProt 11 0 - 200) else min 2000 (s.rf Reg.sensProt 11 0 + 200)) ∧
      t.rf Reg.sensProt 31 12 = s.rf Reg.sensProt 31 12 ∧ SameBytes s t) ∧
  (∀ (s : State) (x : Fin 3) (v : Int), s.started = true → 2240 ≤ v → s.rb Reg.sensProt 29 = false →
    ∃ t, exec (.hwTrip x v) s = .next t ∧ t.rf Reg.sensProt 31 28 = 0xf ∧ t.rb (Reg.irqRaw Page.sens) 2 = true ∧
      (List.range 12).all (fun c => !t.coilOn c) = true ∧ t.crocus.sweep = none) ∧
  (∀ (s : State), s.boot.vfld = true → s.boot.phase ≠ .powerOn →
    ∃ t, exec .vfldFall s = .next t ∧ t.boot.vfld = false ∧ (List.range 12).all (fun c => !t.coilOn c) = true ∧
      ((List.range 4).any (fun n => s.engOn n) = true → t.rb Reg.dbgFaultSum 0 = true) ∧ SameBytes s t) ∧
  (∀ (s : State), ∃ t, exec .vfldRise s = .next t ∧ t.boot.vfld = true ∧ SameRegs [] s t ∧ SameBytes s t) ∧
  (∀ (s : State), s.boot.overvolt = false →
    ∃ t, exec .vfldOvervoltage s = .next t ∧ t.boot.overvolt = true ∧ (List.range 12).all (fun c => !t.coilOn c) = true ∧
      ((List.range 4).any (fun n => s.engOn n) = true → t.rb Reg.dbgFaultSum 0 = true) ∧ SameBytes s t) ∧
  (∀ (s : State), ∃ t, exec .vfldOvervoltageClear s = .next t ∧ t.boot.overvolt = false ∧ SameRegs [] s t ∧ SameBytes s t) ∧
  (∀ (s : State) (r : Fin 6) (mv : Nat), s.mgtRuns = true →
    ∃ t, exec (.supplyRangeReport r mv) s = .next t ∧ t.rb (Reg.irqRaw Page.sens) 1 = true ∧ t.rb Reg.dbgFaultSum 12 = true ∧
      t.reg (Reg.errCode Page.sens) = s.reg (Reg.errCode Page.sens) ∧ SameBytes s t) ∧
  (∀ (s : State) (ag : Agent) (w : Word), s.takes ag Reg.sensCntClr → bit w 0 = true →
    ∃ t, exec (.sensCntClr ag w) s = .next t ∧ t.reg Reg.sensProtCnt = 0 ∧
      (List.range 6).all (fun r => t.rf (Reg.sensSupply r) 31 16 == 0xffff && t.rf (Reg.sensSupply r) 15 0 == s.rf (Reg.sensSupply r) 15 0)
        = true ∧ OnlyRegs (Reg.sensProtCnt :: (List.range 6).map (fun r => Reg.sensSupply r)) s t)

/-! ## Log and update -/

/-- The event log: a record selected is shown with its check, a clear runs to its end, and the console sends a line. The firmware update:
the target, the start of a reception, its words, its verification with either outcome, and its end (R435–R440, R477). That CLR leaves
COUNT 0 (log entry 48) and that an invalid set header is one of MAGIC 0 (entry 150) are the model's choice. -/
def Obligations.LogAndUpdateComplete : Prop :=
  (∀ (s : State) (ag : Agent) (w : Word) (l : List Word), s.takes ag Reg.logSel → s.quiesced Page.log = false → s.mgtRuns = true →
    l = tabGet [] s.nvm.log (fld w 11 0) → l.length = 8 → l.getD 7 0 = wd (crc32 (wordsBytes (l.take 7))) →
    ∃ t, exec (.logSelWrite ag w) s = .next t ∧ t.rf Reg.logSel 11 0 = fld w 11 0 ∧
      (List.range 8).map (fun i => t.reg (Reg.logRec i)) = l ∧ t.rb Reg.logStatus2 0 = true ∧ SamePages [Page.log] s t ∧ SameBytes s t) ∧
  (∀ (s : State) (ag : Agent) (w : Word), s.takes ag Reg.logCtrl → bit w 0 = true → fld w 31 16 = 0xc35a →
    s.rb (Reg.ctrl Page.log) 0 = true →
    ∃ t, exec (.logClear ag w) s = .next t ∧ t.rb (Reg.status Page.log) 1 = true ∧ OnlyRegs [Reg.status Page.log] s t) ∧
  (∀ (s : State), s.rb (Reg.status Page.log) 1 = true → s.mgtRuns = true → s.mgt.logWaits = [] →
    ∃ t, exec .logClearDone s = .next t ∧ t.rb (Reg.status Page.log) 1 = false ∧ t.nvm.log = [] ∧ t.nvm.logCount = 0 ∧
      t.nvm.logSeq = s.nvm.logSeq ∧ SameRegs [Reg.status Page.log] s t ∧ SameBytes s t) ∧
  (∀ (s : State) (l : List Word) (r : List (List Word)), s.mgt.console = l :: r → s.rb Reg.dbgConsole 0 = true →
    ∃ t, exec .consoleLineSent s = .next t ∧ t.dataOut = bytesWords (consoleLine l) ∧ t.mgt.console = r ∧
      SameRegs [] s t ∧ SameBytes s t) ∧
  (∀ (s : State) (ag : Agent) (w : Word), s.takes ag Reg.updTarget → s.updState ≠ 1 → s.updState ≠ 2 → s.slotInUse (fld w 1 0) = false →
    (fld w 1 0 ≠ 3 ∨ s.storeUsed = false) →
    ∃ t, exec (.updTargetWrite ag w) s = .next t ∧ t.updTarget = fld w 1 0 ∧ OnlyRegs [Reg.updTarget] s t) ∧
  (∀ (s : State) (ag : Agent), s.takes ag Reg.updCtrl → (s.updTarget = 1 ∨ s.updTarget = 2) → s.updState ≠ 2 →
    s.slotInUse s.updTarget = false → s.rb (Reg.ctrl Page.upd) 0 = true →
    ∃ t, exec (.updBegin ag) s = .next t ∧ t.updState = 1 ∧ t.reg Reg.updOffset = 0 ∧
      (t.fwSlot (s.updTarget - 1)).empty = true ∧ t.mgt.begun = s.updTarget ∧ SameRegs [Reg.updOffset, Reg.updStatus] s t ∧ SameBytes s t) ∧
  (∀ (s : State) (ag : Agent), s.takes ag Reg.updCtrl → s.updTarget = 3 → s.updState ≠ 2 → s.storeUsed = false →
    s.rb (Reg.ctrl Page.upd) 0 = true →
    ∃ t, exec (.updBegin ag) s = .next t ∧ t.updState = 1 ∧ t.reg Reg.updOffset = 0 ∧ t.mem32 imageBase = 0 ∧
      t.mgt.begun = 3 ∧ SameRegs [Reg.updOffset, Reg.updStatus] s t ∧ SameBytesBut imageBase 4 s t) ∧
  (∀ (s : State) (ag : Agent) (w : Word) (a o : Nat), s.takes ag Reg.updData → s.quiesced Page.upd = false → s.updState = 1 →
    o = (s.reg Reg.updOffset).toNat → o + 4 ≤ 0x40000 → a = s.updBase + o →
    ∃ t, exec (.updData ag w) s = .next t ∧ t.mem32 a = w.toNat ∧ (t.reg Reg.updOffset).toNat = o + 4 ∧
      SameRegs [Reg.updOffset] s t ∧ SameBytesBut a 4 s t) ∧
  (∀ (s : State) (ag : Agent), s.takes ag Reg.updCtrl → s.updState = 1 → s.rb (Reg.ctrl Page.upd) 0 = true →
    ∃ t, exec (.updVerify ag) s = .next t ∧ t.updState = 2 ∧ OnlyRegs [Reg.updStatus] s t) ∧
  (∀ (s : State) (ag : Agent), s.takes ag Reg.updCtrl → s.rb (Reg.ctrl Page.upd) 0 = true →
    ∃ t, exec (.updAbort ag) s = .next t ∧ t.updState = 0 ∧ SameRegs [Reg.updStatus] s t ∧
      (s.updState = 0 ∨ s.mgt.begun ≠ 3 → SameBytes s t) ∧ SameBytesBut imageBase 4 s t ∧
      (s.updState ≠ 0 → (s.mgt.begun = 3 → t.mem32 imageBase = 0) ∧
        (s.mgt.begun = 1 ∨ s.mgt.begun = 2 → (t.fwSlot (s.mgt.begun - 1)).empty = true))) ∧
  (∀ (s : State), s.updState = 2 → s.mgtRuns = true → s.quiesced Page.upd = false → s.updTarget = 3 →
    s.setCheck (s.reg Reg.updOffset).toNat = none →
    ∃ t, exec .updVerifyDone s = .next t ∧ t.updState = 3 ∧ t.rb (Reg.irqRaw Page.upd) 0 = true ∧
      t.reg Reg.updOffset = s.reg Reg.updOffset ∧ SameBytes s t) ∧
  (∀ (s : State) (x c : Nat), s.updState = 2 → s.mgtRuns = true → s.quiesced Page.upd = false → (s.updTarget = 1 ∨ s.updTarget = 2) →
    x = (s.reg Reg.updOffset).toNat → s.fwCheck s.updBase x = some c → s.rf (Reg.errCode Page.upd) 15 10 = 0 →
    ∃ t, exec .updVerifyDone s = .next t ∧ t.updState = 4 ∧ t.rf Reg.updStatus 23 16 = c ∧ t.rb (Reg.irqRaw Page.upd) 1 = true ∧
      t.rf (Reg.errCode Page.upd) 7 0 = Err.imageInvalid ∧ t.reg (Reg.errInfo Page.upd) = wd x ∧
      t.rf (Reg.errCode Page.upd) 31 16 = c ∧ t.fwSlot (s.updTarget - 1) = s.fwSlot (s.updTarget - 1) ∧ SameBytes s t)

/-! ## Power modes and Crocus -/

/-- Power modes: an accepted request, the entry to SLEEP and WATCH, a wake from its source, the resumption of the FTB, and the restore
step (R453–R458). Crocus: claims, a sweep and its results, baselines and its counters (R460–R467). -/
def Obligations.PowerAndCrocusComplete : Prop :=
  (∀ (s : State) (ag : Agent) (w : Word), s.takes ag Reg.pwrModeReq → fld w 31 16 = 0xa5c3 → s.modeCheck 1 = none → s.mode = 0 →
    s.rb (Reg.ctrl Page.pwr) 0 = true →
    ∃ t, exec (.modeReqSleep ag w) s = .next t ∧ t.mode = 2 ∧ t.pwr.target = 1 ∧ t.quiesced Page.queue = true ∧ SameBytes s t) ∧
  (∀ (s : State) (ag : Agent) (w : Word), s.takes ag Reg.pwrModeReq → fld w 31 16 = 0xa5c3 → s.modeCheck 2 = none → s.mode = 0 →
    s.rb (Reg.ctrl Page.pwr) 0 = true →
    ∃ t, exec (.modeReqWatch ag w) s = .next t ∧ t.mode = 2 ∧ t.pwr.target = 2 ∧ t.quiesced Page.queue = true ∧ SameBytes s t) ∧
  (∀ (s : State), s.mode = 2 → s.crocus.sweep = none → s.rbState = 0 → s.pwr.due = 0 → s.pwr.target = 1 →
    ∃ t, exec .modeEntered s = .next t ∧ t.mode = 3 ∧ t.rf Reg.mboxState 1 0 = 3 ∧ t.fldRuns = s.fldRuns ∧
      SameRegs [Reg.pwrMode, Reg.mboxState] (cellsNow s) t ∧ SameBytes s t) ∧
  (∀ (s : State), s.mode = 2 → s.crocus.sweep = none → s.rbState = 0 → s.pwr.due = 0 → s.pwr.target = 2 →
    ∃ t, exec .modeEntered s = .next t ∧ t.mode = 4 ∧ t.pwr.ftbOff = true ∧ t.pwr.entryFtb = s.now ∧
      t.mem32 poolBase = memDefault poolBase ∧
      t.rb Reg.crocusStatus 30 = true ∧ SameRegs [Reg.pwrMode, Reg.mboxState, Reg.crocusStatus] (cellsNow s) t) ∧
  (∀ (s : State) (tick : Nat), s.fldRuns = true → s.reg Reg.pwrWakeTimer ≠ 0 → s.rb Reg.pwrWakeEn 4 = true → s.mode = 3 → s.now ≤ tick →
    tick < 2 ^ 64 →
    ∃ t, exec (.wakeTimerExpiry tick) s = .next t ∧ t.mode = 5 ∧ t.pwr.causes.testBit 4 = true ∧ t.pwr.wakeAt = tick ∧
      t.pwr.cycles = some (max (s.reg Reg.pwrWakeTimer).toNat s.pwr.shown) ∧ SameRegs [Reg.pwrMode] (passTo tick s) t ∧ SameBytes s t) ∧
  (∀ (s : State) (cycles tick n : Nat), s.mode = 4 → s.pwr.ftbOff = true → n = max cycles s.pwr.shown →
    ∃ t, exec (.wakeDetect 1 cycles tick) s = .next t ∧ t.mode = 5 ∧ t.pwr.causes.testBit 0 = true ∧
      t.pwr.wakeAt = s.watchTick n ∧ t.pwr.cycles = some n ∧ t.now = s.now ∧ SameRegs [Reg.pwrMode] s t ∧ SameBytes s t) ∧
  (∀ (s : State) (cycles : Nat), s.mode = 5 → s.pwr.ftbOff = true → s.pwr.cycles = some cycles → s.pwr.shown ≤ cycles → s.now ≤ s.resumeTick cycles →
    s.resumeTick cycles < 2 ^ 64 →
    ∃ t, exec (.ftbResume cycles) s = .next t ∧ t.pwr.ftbOff = false ∧ t.now = s.resumeTick cycles ∧ t.mode = 5 ∧ SameBytes s t) ∧
  (∀ (s : State) (tick : Nat), s.fldRuns = true → s.mode = 5 → s.now ≤ tick → tick < 2 ^ 64 →
    ∃ t, exec (.wakeRestore tick) s = .next t ∧ t.mode = 0 ∧ t.reg Reg.pwrWakeCause = (s.reg Reg.pwrWakeCause ||| wd s.pwr.causes) ∧
      t.regPair Reg.pwrWakeTickLo = s.pwr.wakeAt % 2 ^ 64 ∧ t.now = tick ∧ t.rb (Reg.irqRaw Page.pwr) 0 = true ∧
      t.rf Reg.pwrCnt 31 16 = min 0xffff (s.rf Reg.pwrCnt 31 16 + 1)) ∧
  (∀ (s : State) (c : CoilIx), s.isReady = true → s.crocusSet.testBit c = true → s.holder c = 0 → s.rb (Reg.ctrl Page.crocus) 0 = true →
    s.quiesced (Page.coil c) = false →
    ∃ t, exec (.crocusCoilClaim c) s = .next t ∧ t.holder c = 8 ∧ OnlyRegs [Reg.sysResClaim c] s t) ∧
  (∀ (s : State) (tick : Nat), s.rf Reg.crocusCfg 31 30 = 0 → s.crocus.sweep = none → s.crocus.waits = none → s.sweepOk = true →
    s.mode = 0 → s.defers = false → tick < 2 ^ 63 → s.now < 2 ^ 63 →
    ∃ t, exec (.crocusSweepStart true tick) s = .next t ∧ t.rb Reg.crocusStatus 31 = true ∧
      t.crocus.sweep = some (ccAt (max tick s.now), s.crocusHeld) ∧ t.regPair Reg.crocusLastLo = ccAt (max tick s.now) ∧ SameBytes s t) ∧
  (∀ (s : State) (tick st : Nat) (c : CoilIx) (x : CrocusSlot), s.crocus.sweep = some (st, [c.val]) → s.crocus.lost = 0 → s.crocus.dark = 0 →
    s.boot.vfld = true → s.boot.overvolt = false → (s.coil c).injected = false → slotClip x = false →
    54 < s.rf (Reg.coilMmWin c) 7 0 + max 8 (s.rf (Reg.coilMmWin c) 15 8) →
    ∃ t, exec (.crocusSweepEnd tick [x]) s = .next t ∧ t.crocus.sweep = none ∧ t.rb Reg.crocusStatus 31 = false ∧
      t.reg (Reg.crocusMeas c) = wd ((slotPolar x).1 * 65536 + (slotPolar x).2) ∧
      t.reg Reg.crocusInvalid = 0 ∧ t.rb (Reg.irqRaw Page.crocus) 1 = true ∧
      t.rf Reg.crocusSweepCnt 31 16 = min 0xffff (s.rf Reg.crocusSweepCnt 31 16 + 1) ∧ SameBytes s t) ∧
  (∀ (s : State) (ag : Agent) (w : Word), s.takes ag Reg.crocusBaseReq → s.rb (Reg.ctrl Page.crocus) 0 = true →
    ∃ t, exec (.crocusBaseReq ag w) s = .next t ∧ t.crocus.reload = s.crocus.reload ||| fld w 11 0 ∧ SameRegs [] s t ∧ SameBytes s t) ∧
  (∀ (s : State) (ag : Agent) (w : Word), s.takes ag Reg.crocusCntClr → bit w 0 = true →
    ∃ t, exec (.crocusCntClr ag w) s = .next t ∧ t.reg Reg.crocusTripCnt = 0 ∧ t.reg Reg.crocusSweepCnt = 0 ∧
      OnlyRegs [Reg.crocusTripCnt, Reg.crocusSweepCnt] s t)

/-! ## Debug and test -/

/-- CNT_CLR_ALL clears the counters of every page that is not secure and of no other; the first fault of all is latched with its page,
its code and its tick; the faults that DBG.INJECT puts in and their end; and the instructions of the test access port (R475, R476, R478,
R479). The list of the counters is read from the pages (log entry 69, DEDUCED): it is the model's choice. -/
def Obligations.DebugAndTestComplete : Prop :=
  (∀ (s : State) (ag : Agent) (w : Word), s.takes ag Reg.dbgCntClrAll → fld w 31 16 = 0xa5c3 → bit w 0 = true →
    ∃ t, exec (.dbgCntClrAll ag w) s = .next t ∧
      (List.range 0x2c).all (fun p => s.rb (Reg.owner p) 8 || (pageCounts p).all (fun f => t.rf f.1 f.2.1 f.2.2.1 == f.2.2.2)) = true ∧
      (List.range 0x2c).all (fun p => !s.rb (Reg.owner p) 8 ||
        (pageCounts p).all (fun f => t.rf f.1 f.2.1 f.2.2.1 == s.rf f.1 f.2.1 f.2.2.1)) = true ∧
      (s.rb (Reg.owner Page.hif) 8 = false → t.reg Reg.hifCount = 0) ∧
      (s.rb (Reg.owner Page.queue) 8 = false → t.reg Reg.queueCrossCnt = 0 ∧ t.reg Reg.queueLossCnt = 0) ∧
      (s.rb (Reg.owner Page.evf) 8 = false → t.reg Reg.evfCnt = 0 ∧ t.reg Reg.evfDropCnt = 0 ∧
        (List.range 64).all (fun n => t.rf (Reg.evfChStatus n) 31 16 == 0 && t.reg (Reg.evfChCount n) == 0) = true) ∧
      (s.rb (Reg.owner Page.sess) 8 = false → t.reg Reg.sessMigCnt = 0 ∧ t.rf Reg.sessUse 15 8 = s.rf Reg.sessUse 7 0) ∧
      (s.rb (Reg.owner Page.dbg) 8 = false → t.rf Reg.dbgWdog 31 16 = 0) ∧ t.rf Reg.dbgWdog 15 0 = s.rf Reg.dbgWdog 15 0 ∧
      SameBytes s t) ∧
  (∀ (s : State) (cls p code : Nat), cls < 32 → p < 256 → code < 256 → s.reg Reg.dbgFaultSum = 0 →
    (fault cls p code s).rb Reg.dbgFaultSum cls = true ∧ (fault cls p code s).rf Reg.dbgFirst 23 16 = p ∧
      (fault cls p code s).rf Reg.dbgFirst 15 8 = code ∧ (fault cls p code s).regPair Reg.dbgFirstTickLo = s.now % 2 ^ 64) ∧
  (∀ (s : State) (ag : Agent) (w : Word), s.takes ag Reg.dbgInject → fld w 31 16 = 0xa5c3 → s.rb (Reg.lock Page.dbg) 0 = false →
    s.isReady = true → s.injecting 1 = false →
    s.rb (Reg.ctrl Page.dbg) 0 = true →
    ∃ t, exec (.injectFieldLoss ag w) s = .next t ∧ t.rb Reg.dbgFaultSum 31 = true ∧
      (bitsOf 12 (fld w 11 0)).all (fun c => (t.coil c).injected && !t.coilOn c) = true ∧
      (List.range 12).all (fun c => (fld w 11 0).testBit c || t.coilOn c == s.coilOn c) = true ∧ t.boot.vfld = s.boot.vfld ∧
      SameBytes s t) ∧
  (∀ (s : State) (ag : Agent) (w : Word), s.takes ag Reg.dbgInject → fld w 31 16 = 0xa5c3 → s.rb (Reg.lock Page.dbg) 0 = false →
    s.isReady = true → s.rbLocked = true → s.radio.tx = none → s.rx.rx = none →
    s.rb (Reg.ctrl Page.dbg) 0 = true →
    ∃ t, exec (.injectLockLoss ag w) s = .next t ∧ t.rb Reg.dbgFaultSum 31 = true ∧ t.rbLocked = false ∧
      t.rb (Reg.irqRaw Page.rbSyn) 1 = true ∧ SameBytes s t) ∧
  (∀ (s : State) (ag : Agent) (w : Word), s.takes ag Reg.dbgInject → fld w 31 16 = 0xa5c3 → s.rb (Reg.lock Page.dbg) 0 = false →
    s.isReady = true → s.injecting 3 = false →
    s.rb (Reg.ctrl Page.dbg) 0 = true →
    ∃ t, exec (.injectTemperature ag w) s = .next t ∧ t.rb Reg.dbgFaultSum 31 = true ∧ t.mgt.injTemp = some (fld w 7 0 : Int) ∧
      (t.hottest.map Prod.snd) = some (16 * (fld w 7 0 : Int)) ∧ SamePages [Page.dbg] s t ∧ SameBytes s t) ∧
  (∀ (s : State) (ag : Agent) (w : Word) (c : Fin 8), s.takes ag Reg.dbgInject → fld w 31 16 = 0xa5c3 →
    s.rb (Reg.lock Page.dbg) 0 = false →
    s.isReady = true → s.injecting 4 = false → bit w c = true →
    s.rb (Reg.ctrl Page.dbg) 0 = true →
    ∃ t, exec (.injectCvuMismatch ag w) s = .next t ∧ t.rb Reg.dbgFaultSum 31 = true ∧ tabGet false t.cvu.inject c.val = true ∧
      SamePages [Page.dbg] s t ∧ SameBytes s t) ∧
  (∀ (s : State), ∃ t, exec (.injectEnd 1) s = .next t ∧ (List.range 12).all (fun c => !(t.coil c).injected) = true ∧
    SameRegs [] s t ∧ SameBytes s t) ∧
  (∀ (s : State), ∃ t, exec (.injectEnd 3) s = .next t ∧ t.mgt.injTemp = none ∧ SameRegs [] s t ∧ SameBytes s t) ∧
  (∀ (s : State) (l : List Bool), s.boot.vddio = true → s.boot.resetN = false → l.length = 91 →
    ∃ t, exec (.tapExtest l) s = .next t ∧ t.tap.cells = l ∧ t.scanDrives = true ∧ SameRegs [] s t ∧ SameBytes s t) ∧
  (∀ (s : State) (l : List Bool), s.boot.vddio = true → s.boot.resetN = true →
    ∃ t, exec (.tapExtest l) s = .next t ∧ t.tap.cells = s.tap.cells ∧ t.scanDrives = false ∧
      t.dataOut.headD 0 = wd (2 * bitsNat l) ∧ SameRegs [] s t ∧ SameBytes s t) ∧
  (∀ (s : State) (l : List Bool), s.boot.vddio = true → l.length = 91 →
    ∃ t, exec (.tapSamplePreload l) s = .next t ∧ t.tap.cells = l ∧ t.scanDrives = false ∧ SameRegs [] s t ∧ SameBytes s t) ∧
  (∀ (s : State), s.boot.vddio = true → ∃ t, exec .tapIdcode s = .next t ∧ t.dataOut = [wd 0x144800b9] ∧ t.scanDrives = false ∧
    SameRegs [] s t ∧ SameBytes s t) ∧
  (∀ (s : State), s.boot.vddio = true → ∃ t, exec .tapClamp s = .next t ∧ t.scanDrives = !s.boot.resetN ∧ t.tap.cells = s.tap.cells ∧
    SameRegs [] s t ∧ SameBytes s t) ∧
  (∀ (s : State), s.boot.vddio = true → ∃ t, exec .tapHighz s = .next t ∧ t.tap.ir = 5 ∧ t.scanDrives = false ∧
    t.tap.cells = s.tap.cells ∧ SameRegs [] s t ∧ SameBytes s t) ∧
  (∀ (s : State), s.boot.vddio = true → ∃ t, exec .tapBypass s = .next t ∧ t.scanDrives = false ∧ t.dataOut.headD 0 = 0 ∧
    SameRegs [] s t ∧ SameBytes s t) ∧
  (∀ (s : State), ∃ t, exec .testLogicReset s = .next t ∧ t.tap.ir = 2 ∧ { t with tap := s.tap } = s)
end

