-- ==== Sys2Proof/Laws/Bits.lean ====
section
/-! SUPPORT. The laws of bit fields: a field written reads back, and a write of a field leaves the bits outside it. -/

namespace Sys2Proof.Laws

open Sys2Proof.Machine

/-- Bit `j` of a word is bit `j` of its number. -/
theorem bit_eq_testBit (w : Word) (j : Nat) : bit w j = w.toNat.testBit j := by
  simp [bit, BitVec.testBit_toNat]

/-- A field as bits: bit `j` of the field is bit `lo + j` of the word. -/
theorem fld_testBit (w : Word) (hi lo j : Nat) :
    (fld w hi lo).testBit j = (decide (j < hi + 1 - lo) && bit w (lo + j)) := by
  simp [fld, bit_eq_testBit, Nat.testBit_mod_two_pow, Nat.testBit_shiftRight]

theorem fld_lt (w : Word) (hi lo : Nat) : fld w hi lo < 2 ^ (hi + 1 - lo) := Nat.mod_lt _ (by positivity)

theorem maskWord_bit (hi lo j : Nat) (h : j < 32) : (maskWord hi lo).getLsbD j = decide (lo ≤ j ∧ j ≤ hi) := by
  simp only [maskWord, BitVec.getLsbD_ofNat, h, decide_true, Bool.true_and, Nat.testBit_shiftLeft,
    Nat.testBit_two_pow_sub_one]
  by_cases h1 : lo ≤ j
  · simp only [ge_iff_le, h1, decide_true, Bool.true_and, true_and]
    by_cases h2 : j ≤ hi
    · simp only [h2, decide_true, decide_eq_true_eq]; omega
    · simp only [h2, decide_false, decide_eq_false_iff_not]; omega
  · simp [h1]

/-- Bit `j` of a word with a field replaced. -/
theorem bit_setFld (w : Word) (hi lo v j : Nat) (h : j < 32) :
    bit (setFld w hi lo v) j = if lo ≤ j ∧ j ≤ hi then v.testBit (j - lo) else bit w j := by
  simp only [bit, setFld, BitVec.getLsbD_or, BitVec.getLsbD_and, BitVec.getLsbD_not, h, decide_true, Bool.true_and,
    maskWord_bit hi lo j h, BitVec.getLsbD_ofNat, Nat.testBit_shiftLeft, Nat.testBit_mod_two_pow]
  by_cases h1 : lo ≤ j ∧ j ≤ hi
  · have h2 : j - lo < hi + 1 - lo := by omega
    simp [h1, h2]
  · simp only [h1, decide_false, Bool.not_false, Bool.and_true, if_false]
    by_cases h2 : lo ≤ j
    · have h3 : ¬ j - lo < hi + 1 - lo := by omega
      simp [h3]
    · simp [h2]

/-- A field that does not meet the field written is as before. -/
theorem fld_setFld_ne (w : Word) {hi lo hi' lo' : Nat} (v : Nat) (h32 : hi' < 32) (h : hi' < lo ∨ hi < lo') :
    fld (setFld w hi lo v) hi' lo' = fld w hi' lo' := by
  apply Nat.eq_of_testBit_eq
  intro j
  simp only [fld_testBit]
  by_cases hj : j < hi' + 1 - lo'
  · rw [bit_setFld _ _ _ _ _ (by omega), if_neg (by omega)]
  · simp [hj]

/-- A field written reads back, modulo its width. -/
theorem fld_setFld_eq (w : Word) {hi lo : Nat} (v : Nat) (h32 : hi < 32) :
    fld (setFld w hi lo v) hi lo = v % 2 ^ (hi + 1 - lo) := by
  apply Nat.eq_of_testBit_eq
  intro j
  simp only [fld_testBit, Nat.testBit_mod_two_pow]
  by_cases hj : j < hi + 1 - lo
  · rw [bit_setFld _ _ _ _ _ (by omega), if_pos (by omega)]
    simp
  · simp [hj]

/-- A bit written reads back. -/
@[simp] theorem bit_setBit_eq (w : Word) {k : Nat} (b : Bool) (h : k < 32) : bit (setBit w k b) k = b := by
  rw [setBit, bit_setFld _ _ _ _ _ h]
  cases b <;> simp

/-- A bit other than the one written is as before. -/
theorem bit_setBit_ne (w : Word) {k j : Nat} (b : Bool) (h : j < 32) (hk : j ≠ k) : bit (setBit w k b) j = bit w j := by
  rw [setBit, bit_setFld _ _ _ _ _ h, if_neg (by omega)]

end Sys2Proof.Laws
end

