-- ==== Sys2Proof/Laws/Sparse.lean ====
section
/-! SUPPORT. The laws of the canonical map: a read after a write of the same key, of another key, and that a write keeps
the canonical form. -/

namespace Sys2Proof.Laws

open Sys2Proof.Machine

set_option linter.unusedSectionVars false

variable {V : Type} [DecidableEq V]

theorem sparse_get_insert_eq (d : Nat → V) (l : List (Nat × V)) (k : Nat) (v : V) :
    Sparse.get d (Sparse.insert k v l) k = v := by
  induction l with
  | nil => simp [Sparse.insert, Sparse.get]
  | cons p t ih =>
    unfold Sparse.insert
    split
    · simp [Sparse.get]
    · split
      · simp [Sparse.get]
      · rename_i h1 h2
        simp only [Sparse.get]
        rw [if_neg (fun h => h2 h.symm)]
        exact ih

theorem sparse_get_insert_ne (d : Nat → V) (l : List (Nat × V)) {k k' : Nat} (v : V) (h : k' ≠ k) :
    Sparse.get d (Sparse.insert k v l) k' = Sparse.get d l k' := by
  induction l with
  | nil => simp [Sparse.insert, Sparse.get, h.symm]
  | cons p t ih =>
    unfold Sparse.insert
    split
    · simp [Sparse.get, h.symm]
    · split
      · rename_i h1 h2
        subst h2
        simp [Sparse.get, h.symm]
      · simp [Sparse.get, ih]

theorem sparse_get_erase_eq (d : Nat → V) (l : List (Nat × V)) (k : Nat) :
    Sparse.get d (Sparse.erase k l) k = d k := by
  induction l with
  | nil => rfl
  | cons p t ih =>
    unfold Sparse.erase at *
    by_cases h : p.1 = k
    · simpa [h] using ih
    · simp only [ne_eq, h, not_false_eq_true, decide_true, List.filter_cons_of_pos, Sparse.get, if_false]
      exact ih

theorem sparse_get_erase_ne (d : Nat → V) (l : List (Nat × V)) {k k' : Nat} (h : k' ≠ k) :
    Sparse.get d (Sparse.erase k l) k' = Sparse.get d l k' := by
  induction l with
  | nil => rfl
  | cons p t ih =>
    unfold Sparse.erase at *
    by_cases hp : p.1 = k
    · have : p.1 ≠ k' := fun e => h (e.symm.trans hp)
      simpa [hp, Sparse.get, this, h.symm] using ih
    · simp only [ne_eq, hp, not_false_eq_true, decide_true, List.filter_cons_of_pos, Sparse.get, ih]

/-- A read after a write of the same key gives the value written. -/
@[simp] theorem sparse_get_put_eq (d : Nat → V) (l : List (Nat × V)) (k : Nat) (v : V) :
    Sparse.get d (Sparse.put d l k v) k = v := by
  unfold Sparse.put
  split
  · rename_i h; rw [sparse_get_erase_eq, h]
  · exact sparse_get_insert_eq d l k v

/-- A write leaves every other key alone. -/
theorem sparse_get_put_ne (d : Nat → V) (l : List (Nat × V)) {k k' : Nat} (v : V) (h : k' ≠ k) :
    Sparse.get d (Sparse.put d l k v) k' = Sparse.get d l k' := by
  unfold Sparse.put
  split
  · exact sparse_get_erase_ne d l h
  · exact sparse_get_insert_ne d l v h

theorem rising_cons {p : Nat × V} {t : List (Nat × V)} :
    Sparse.rising (p :: t) = true ↔ (∀ q ∈ t, p.1 < q.1) ∧ Sparse.rising t = true := by
  induction t generalizing p with
  | nil => simp [Sparse.rising]
  | cons q u ih =>
    simp only [Sparse.rising, Bool.and_eq_true, decide_eq_true_eq]
    constructor
    · rintro ⟨h1, h2⟩
      refine ⟨?_, h2⟩
      intro r hr
      rcases List.mem_cons.mp hr with rfl | hr
      · exact h1
      · exact lt_trans h1 ((ih.mp h2).1 r hr)
    · rintro ⟨h1, h2⟩
      exact ⟨h1 q (by simp), h2⟩

theorem mem_insert {k : Nat} {v : V} {l : List (Nat × V)} {r : Nat × V} (h : r ∈ Sparse.insert k v l) :
    r = (k, v) ∨ r ∈ l := by
  induction l with
  | nil => simpa [Sparse.insert] using h
  | cons p t ih =>
    unfold Sparse.insert at h
    split at h
    · rcases List.mem_cons.mp h with h | h
      · exact .inl h
      · exact .inr h
    · split at h
      · rcases List.mem_cons.mp h with h | h
        · exact .inl h
        · exact .inr (List.mem_cons_of_mem _ h)
      · rcases List.mem_cons.mp h with h | h
        · exact .inr (h ▸ List.mem_cons_self)
        · rcases ih h with h | h
          · exact .inl h
          · exact .inr (List.mem_cons_of_mem _ h)

theorem rising_insert {k : Nat} {v : V} {l : List (Nat × V)} (h : Sparse.rising l = true) :
    Sparse.rising (Sparse.insert k v l) = true := by
  induction l with
  | nil => rfl
  | cons p t ih =>
    have hp := rising_cons.mp h
    unfold Sparse.insert
    split
    · rename_i hk
      refine rising_cons.mpr ⟨?_, h⟩
      intro q hq
      rcases List.mem_cons.mp hq with rfl | hq
      · exact hk
      · exact lt_trans hk (hp.1 q hq)
    · split
      · rename_i _ hk
        exact rising_cons.mpr ⟨fun q hq => by simpa [hk] using hp.1 q hq, hp.2⟩
      · rename_i h1 h2
        refine rising_cons.mpr ⟨?_, ih hp.2⟩
        intro q hq
        rcases mem_insert hq with rfl | hq
        · show p.1 < k; omega
        · exact hp.1 q hq

theorem rising_erase {k : Nat} {l : List (Nat × V)} (h : Sparse.rising l = true) :
    Sparse.rising (Sparse.erase k l) = true := by
  induction l with
  | nil => rfl
  | cons p t ih =>
    have hp := rising_cons.mp h
    unfold Sparse.erase at *
    by_cases hk : p.1 = k
    · simpa [hk] using ih hp.2
    · simp only [ne_eq, hk, not_false_eq_true, decide_true, List.filter_cons_of_pos]
      exact rising_cons.mpr ⟨fun q hq => hp.1 q (List.mem_of_mem_filter hq), ih hp.2⟩

/-- A write keeps the canonical form. -/
theorem sparse_wf_put (d : Nat → V) {l : List (Nat × V)} (k : Nat) (v : V) (h : Sparse.wf d l = true) :
    Sparse.wf d (Sparse.put d l k v) = true := by
  unfold Sparse.wf at *
  rw [Bool.and_eq_true] at *
  obtain ⟨h1, h2⟩ := h
  rw [List.all_eq_true] at *
  unfold Sparse.put
  split
  · refine ⟨rising_erase h1, fun p hp => h2 p (List.mem_of_mem_filter hp)⟩
  · rename_i hv
    refine ⟨rising_insert h1, fun p hp => ?_⟩
    rcases mem_insert hp with rfl | hp
    · simpa using hv
    · exact h2 p hp

/-- The empty map is canonical. -/
@[simp] theorem sparse_wf_nil (d : Nat → V) : Sparse.wf d [] = true := rfl

end Sys2Proof.Laws
end

