-- ==== Sys2Proof/Laws/State.lean ====
section
/-! SUPPORT. What each update of one part of the state leaves: one law per part. -/

namespace Sys2Proof.Laws

open Sys2Proof.Machine


/-! ## setReg -/

@[simp] theorem setReg_shadow (a : Nat) (w : Word) (s : State) : (setReg a w s).shadow = s.shadow := rfl
@[simp] theorem setReg_mem (a : Nat) (w : Word) (s : State) : (setReg a w s).mem = s.mem := rfl
@[simp] theorem setReg_queue (a : Nat) (w : Word) (s : State) : (setReg a w s).queue = s.queue := rfl
@[simp] theorem setReg_boot (a : Nat) (w : Word) (s : State) : (setReg a w s).boot = s.boot := rfl
@[simp] theorem setReg_time (a : Nat) (w : Word) (s : State) : (setReg a w s).time = s.time := rfl
@[simp] theorem setReg_fab (a : Nat) (w : Word) (s : State) : (setReg a w s).fab = s.fab := rfl
@[simp] theorem setReg_coils (a : Nat) (w : Word) (s : State) : (setReg a w s).coils = s.coils := rfl
@[simp] theorem setReg_sess (a : Nat) (w : Word) (s : State) : (setReg a w s).sess = s.sess := rfl
@[simp] theorem setReg_engs (a : Nat) (w : Word) (s : State) : (setReg a w s).engs = s.engs := rfl
@[simp] theorem setReg_players (a : Nat) (w : Word) (s : State) : (setReg a w s).players = s.players := rfl
@[simp] theorem setReg_commit (a : Nat) (w : Word) (s : State) : (setReg a w s).commit = s.commit := rfl
@[simp] theorem setReg_cvu (a : Nat) (w : Word) (s : State) : (setReg a w s).cvu = s.cvu := rfl
@[simp] theorem setReg_gov (a : Nat) (w : Word) (s : State) : (setReg a w s).gov = s.gov := rfl
@[simp] theorem setReg_crocus (a : Nat) (w : Word) (s : State) : (setReg a w s).crocus = s.crocus := rfl
@[simp] theorem setReg_radio (a : Nat) (w : Word) (s : State) : (setReg a w s).radio = s.radio := rfl
@[simp] theorem setReg_rx (a : Nat) (w : Word) (s : State) : (setReg a w s).rx = s.rx := rfl
@[simp] theorem setReg_link (a : Nat) (w : Word) (s : State) : (setReg a w s).link = s.link := rfl
@[simp] theorem setReg_tag (a : Nat) (w : Word) (s : State) : (setReg a w s).tag = s.tag := rfl
@[simp] theorem setReg_pwr (a : Nat) (w : Word) (s : State) : (setReg a w s).pwr = s.pwr := rfl
@[simp] theorem setReg_nvm (a : Nat) (w : Word) (s : State) : (setReg a w s).nvm = s.nvm := rfl
@[simp] theorem setReg_mgt (a : Nat) (w : Word) (s : State) : (setReg a w s).mgt = s.mgt := rfl
@[simp] theorem setReg_tap (a : Nat) (w : Word) (s : State) : (setReg a w s).tap = s.tap := rfl
@[simp] theorem setReg_heldWrites (a : Nat) (w : Word) (s : State) : (setReg a w s).heldWrites = s.heldWrites := rfl
@[simp] theorem setReg_applied (a : Nat) (w : Word) (s : State) : (setReg a w s).applied = s.applied := rfl
@[simp] theorem setReg_bus (a : Nat) (w : Word) (s : State) : (setReg a w s).bus = s.bus := rfl
@[simp] theorem setReg_dataOut (a : Nat) (w : Word) (s : State) : (setReg a w s).dataOut = s.dataOut := rfl
@[simp] theorem setReg_free (a : Nat) (w : Word) (s : State) : (setReg a w s).free = s.free := rfl
@[simp] theorem setReg_pending (a : Nat) (w : Word) (s : State) : (setReg a w s).pending = s.pending := rfl

/-! ## setShade -/

@[simp] theorem setShade_regs (a : Nat) (w : Word) (s : State) : (setShade a w s).regs = s.regs := rfl
@[simp] theorem setShade_mem (a : Nat) (w : Word) (s : State) : (setShade a w s).mem = s.mem := rfl
@[simp] theorem setShade_queue (a : Nat) (w : Word) (s : State) : (setShade a w s).queue = s.queue := rfl
@[simp] theorem setShade_boot (a : Nat) (w : Word) (s : State) : (setShade a w s).boot = s.boot := rfl
@[simp] theorem setShade_time (a : Nat) (w : Word) (s : State) : (setShade a w s).time = s.time := rfl
@[simp] theorem setShade_fab (a : Nat) (w : Word) (s : State) : (setShade a w s).fab = s.fab := rfl
@[simp] theorem setShade_coils (a : Nat) (w : Word) (s : State) : (setShade a w s).coils = s.coils := rfl
@[simp] theorem setShade_sess (a : Nat) (w : Word) (s : State) : (setShade a w s).sess = s.sess := rfl
@[simp] theorem setShade_engs (a : Nat) (w : Word) (s : State) : (setShade a w s).engs = s.engs := rfl
@[simp] theorem setShade_players (a : Nat) (w : Word) (s : State) : (setShade a w s).players = s.players := rfl
@[simp] theorem setShade_commit (a : Nat) (w : Word) (s : State) : (setShade a w s).commit = s.commit := rfl
@[simp] theorem setShade_cvu (a : Nat) (w : Word) (s : State) : (setShade a w s).cvu = s.cvu := rfl
@[simp] theorem setShade_gov (a : Nat) (w : Word) (s : State) : (setShade a w s).gov = s.gov := rfl
@[simp] theorem setShade_crocus (a : Nat) (w : Word) (s : State) : (setShade a w s).crocus = s.crocus := rfl
@[simp] theorem setShade_radio (a : Nat) (w : Word) (s : State) : (setShade a w s).radio = s.radio := rfl
@[simp] theorem setShade_rx (a : Nat) (w : Word) (s : State) : (setShade a w s).rx = s.rx := rfl
@[simp] theorem setShade_link (a : Nat) (w : Word) (s : State) : (setShade a w s).link = s.link := rfl
@[simp] theorem setShade_tag (a : Nat) (w : Word) (s : State) : (setShade a w s).tag = s.tag := rfl
@[simp] theorem setShade_pwr (a : Nat) (w : Word) (s : State) : (setShade a w s).pwr = s.pwr := rfl
@[simp] theorem setShade_nvm (a : Nat) (w : Word) (s : State) : (setShade a w s).nvm = s.nvm := rfl
@[simp] theorem setShade_mgt (a : Nat) (w : Word) (s : State) : (setShade a w s).mgt = s.mgt := rfl
@[simp] theorem setShade_tap (a : Nat) (w : Word) (s : State) : (setShade a w s).tap = s.tap := rfl
@[simp] theorem setShade_heldWrites (a : Nat) (w : Word) (s : State) : (setShade a w s).heldWrites = s.heldWrites := rfl
@[simp] theorem setShade_applied (a : Nat) (w : Word) (s : State) : (setShade a w s).applied = s.applied := rfl
@[simp] theorem setShade_bus (a : Nat) (w : Word) (s : State) : (setShade a w s).bus = s.bus := rfl
@[simp] theorem setShade_dataOut (a : Nat) (w : Word) (s : State) : (setShade a w s).dataOut = s.dataOut := rfl
@[simp] theorem setShade_free (a : Nat) (w : Word) (s : State) : (setShade a w s).free = s.free := rfl
@[simp] theorem setShade_pending (a : Nat) (w : Word) (s : State) : (setShade a w s).pending = s.pending := rfl

/-! ## setByte -/

@[simp] theorem setByte_regs (a : Nat) (b : Byte) (s : State) : (setByte a b s).regs = s.regs := rfl
@[simp] theorem setByte_shadow (a : Nat) (b : Byte) (s : State) : (setByte a b s).shadow = s.shadow := rfl
@[simp] theorem setByte_queue (a : Nat) (b : Byte) (s : State) : (setByte a b s).queue = s.queue := rfl
@[simp] theorem setByte_boot (a : Nat) (b : Byte) (s : State) : (setByte a b s).boot = s.boot := rfl
@[simp] theorem setByte_time (a : Nat) (b : Byte) (s : State) : (setByte a b s).time = s.time := rfl
@[simp] theorem setByte_fab (a : Nat) (b : Byte) (s : State) : (setByte a b s).fab = s.fab := rfl
@[simp] theorem setByte_coils (a : Nat) (b : Byte) (s : State) : (setByte a b s).coils = s.coils := rfl
@[simp] theorem setByte_sess (a : Nat) (b : Byte) (s : State) : (setByte a b s).sess = s.sess := rfl
@[simp] theorem setByte_engs (a : Nat) (b : Byte) (s : State) : (setByte a b s).engs = s.engs := rfl
@[simp] theorem setByte_players (a : Nat) (b : Byte) (s : State) : (setByte a b s).players = s.players := rfl
@[simp] theorem setByte_commit (a : Nat) (b : Byte) (s : State) : (setByte a b s).commit = s.commit := rfl
@[simp] theorem setByte_cvu (a : Nat) (b : Byte) (s : State) : (setByte a b s).cvu = s.cvu := rfl
@[simp] theorem setByte_gov (a : Nat) (b : Byte) (s : State) : (setByte a b s).gov = s.gov := rfl
@[simp] theorem setByte_crocus (a : Nat) (b : Byte) (s : State) : (setByte a b s).crocus = s.crocus := rfl
@[simp] theorem setByte_radio (a : Nat) (b : Byte) (s : State) : (setByte a b s).radio = s.radio := rfl
@[simp] theorem setByte_rx (a : Nat) (b : Byte) (s : State) : (setByte a b s).rx = s.rx := rfl
@[simp] theorem setByte_link (a : Nat) (b : Byte) (s : State) : (setByte a b s).link = s.link := rfl
@[simp] theorem setByte_tag (a : Nat) (b : Byte) (s : State) : (setByte a b s).tag = s.tag := rfl
@[simp] theorem setByte_pwr (a : Nat) (b : Byte) (s : State) : (setByte a b s).pwr = s.pwr := rfl
@[simp] theorem setByte_nvm (a : Nat) (b : Byte) (s : State) : (setByte a b s).nvm = s.nvm := rfl
@[simp] theorem setByte_mgt (a : Nat) (b : Byte) (s : State) : (setByte a b s).mgt = s.mgt := rfl
@[simp] theorem setByte_tap (a : Nat) (b : Byte) (s : State) : (setByte a b s).tap = s.tap := rfl
@[simp] theorem setByte_heldWrites (a : Nat) (b : Byte) (s : State) : (setByte a b s).heldWrites = s.heldWrites := rfl
@[simp] theorem setByte_applied (a : Nat) (b : Byte) (s : State) : (setByte a b s).applied = s.applied := rfl
@[simp] theorem setByte_bus (a : Nat) (b : Byte) (s : State) : (setByte a b s).bus = s.bus := rfl
@[simp] theorem setByte_dataOut (a : Nat) (b : Byte) (s : State) : (setByte a b s).dataOut = s.dataOut := rfl
@[simp] theorem setByte_free (a : Nat) (b : Byte) (s : State) : (setByte a b s).free = s.free := rfl
@[simp] theorem setByte_pending (a : Nat) (b : Byte) (s : State) : (setByte a b s).pending = s.pending := rfl

/-! ## setCoil -/

@[simp] theorem setCoil_regs (n : Nat) (c : Coil) (s : State) : (setCoil n c s).regs = s.regs := rfl
@[simp] theorem setCoil_shadow (n : Nat) (c : Coil) (s : State) : (setCoil n c s).shadow = s.shadow := rfl
@[simp] theorem setCoil_mem (n : Nat) (c : Coil) (s : State) : (setCoil n c s).mem = s.mem := rfl
@[simp] theorem setCoil_queue (n : Nat) (c : Coil) (s : State) : (setCoil n c s).queue = s.queue := rfl
@[simp] theorem setCoil_boot (n : Nat) (c : Coil) (s : State) : (setCoil n c s).boot = s.boot := rfl
@[simp] theorem setCoil_time (n : Nat) (c : Coil) (s : State) : (setCoil n c s).time = s.time := rfl
@[simp] theorem setCoil_fab (n : Nat) (c : Coil) (s : State) : (setCoil n c s).fab = s.fab := rfl
@[simp] theorem setCoil_sess (n : Nat) (c : Coil) (s : State) : (setCoil n c s).sess = s.sess := rfl
@[simp] theorem setCoil_engs (n : Nat) (c : Coil) (s : State) : (setCoil n c s).engs = s.engs := rfl
@[simp] theorem setCoil_players (n : Nat) (c : Coil) (s : State) : (setCoil n c s).players = s.players := rfl
@[simp] theorem setCoil_commit (n : Nat) (c : Coil) (s : State) : (setCoil n c s).commit = s.commit := rfl
@[simp] theorem setCoil_cvu (n : Nat) (c : Coil) (s : State) : (setCoil n c s).cvu = s.cvu := rfl
@[simp] theorem setCoil_gov (n : Nat) (c : Coil) (s : State) : (setCoil n c s).gov = s.gov := rfl
@[simp] theorem setCoil_crocus (n : Nat) (c : Coil) (s : State) : (setCoil n c s).crocus = s.crocus := rfl
@[simp] theorem setCoil_radio (n : Nat) (c : Coil) (s : State) : (setCoil n c s).radio = s.radio := rfl
@[simp] theorem setCoil_rx (n : Nat) (c : Coil) (s : State) : (setCoil n c s).rx = s.rx := rfl
@[simp] theorem setCoil_link (n : Nat) (c : Coil) (s : State) : (setCoil n c s).link = s.link := rfl
@[simp] theorem setCoil_tag (n : Nat) (c : Coil) (s : State) : (setCoil n c s).tag = s.tag := rfl
@[simp] theorem setCoil_pwr (n : Nat) (c : Coil) (s : State) : (setCoil n c s).pwr = s.pwr := rfl
@[simp] theorem setCoil_nvm (n : Nat) (c : Coil) (s : State) : (setCoil n c s).nvm = s.nvm := rfl
@[simp] theorem setCoil_mgt (n : Nat) (c : Coil) (s : State) : (setCoil n c s).mgt = s.mgt := rfl
@[simp] theorem setCoil_tap (n : Nat) (c : Coil) (s : State) : (setCoil n c s).tap = s.tap := rfl
@[simp] theorem setCoil_heldWrites (n : Nat) (c : Coil) (s : State) : (setCoil n c s).heldWrites = s.heldWrites := rfl
@[simp] theorem setCoil_applied (n : Nat) (c : Coil) (s : State) : (setCoil n c s).applied = s.applied := rfl
@[simp] theorem setCoil_bus (n : Nat) (c : Coil) (s : State) : (setCoil n c s).bus = s.bus := rfl
@[simp] theorem setCoil_dataOut (n : Nat) (c : Coil) (s : State) : (setCoil n c s).dataOut = s.dataOut := rfl
@[simp] theorem setCoil_free (n : Nat) (c : Coil) (s : State) : (setCoil n c s).free = s.free := rfl
@[simp] theorem setCoil_pending (n : Nat) (c : Coil) (s : State) : (setCoil n c s).pending = s.pending := rfl

/-! ## setEng -/

@[simp] theorem setEng_regs (n : Nat) (e : Eng) (s : State) : (setEng n e s).regs = s.regs := rfl
@[simp] theorem setEng_shadow (n : Nat) (e : Eng) (s : State) : (setEng n e s).shadow = s.shadow := rfl
@[simp] theorem setEng_mem (n : Nat) (e : Eng) (s : State) : (setEng n e s).mem = s.mem := rfl
@[simp] theorem setEng_queue (n : Nat) (e : Eng) (s : State) : (setEng n e s).queue = s.queue := rfl
@[simp] theorem setEng_boot (n : Nat) (e : Eng) (s : State) : (setEng n e s).boot = s.boot := rfl
@[simp] theorem setEng_time (n : Nat) (e : Eng) (s : State) : (setEng n e s).time = s.time := rfl
@[simp] theorem setEng_fab (n : Nat) (e : Eng) (s : State) : (setEng n e s).fab = s.fab := rfl
@[simp] theorem setEng_coils (n : Nat) (e : Eng) (s : State) : (setEng n e s).coils = s.coils := rfl
@[simp] theorem setEng_sess (n : Nat) (e : Eng) (s : State) : (setEng n e s).sess = s.sess := rfl
@[simp] theorem setEng_players (n : Nat) (e : Eng) (s : State) : (setEng n e s).players = s.players := rfl
@[simp] theorem setEng_commit (n : Nat) (e : Eng) (s : State) : (setEng n e s).commit = s.commit := rfl
@[simp] theorem setEng_cvu (n : Nat) (e : Eng) (s : State) : (setEng n e s).cvu = s.cvu := rfl
@[simp] theorem setEng_gov (n : Nat) (e : Eng) (s : State) : (setEng n e s).gov = s.gov := rfl
@[simp] theorem setEng_crocus (n : Nat) (e : Eng) (s : State) : (setEng n e s).crocus = s.crocus := rfl
@[simp] theorem setEng_radio (n : Nat) (e : Eng) (s : State) : (setEng n e s).radio = s.radio := rfl
@[simp] theorem setEng_rx (n : Nat) (e : Eng) (s : State) : (setEng n e s).rx = s.rx := rfl
@[simp] theorem setEng_link (n : Nat) (e : Eng) (s : State) : (setEng n e s).link = s.link := rfl
@[simp] theorem setEng_tag (n : Nat) (e : Eng) (s : State) : (setEng n e s).tag = s.tag := rfl
@[simp] theorem setEng_pwr (n : Nat) (e : Eng) (s : State) : (setEng n e s).pwr = s.pwr := rfl
@[simp] theorem setEng_nvm (n : Nat) (e : Eng) (s : State) : (setEng n e s).nvm = s.nvm := rfl
@[simp] theorem setEng_mgt (n : Nat) (e : Eng) (s : State) : (setEng n e s).mgt = s.mgt := rfl
@[simp] theorem setEng_tap (n : Nat) (e : Eng) (s : State) : (setEng n e s).tap = s.tap := rfl
@[simp] theorem setEng_heldWrites (n : Nat) (e : Eng) (s : State) : (setEng n e s).heldWrites = s.heldWrites := rfl
@[simp] theorem setEng_applied (n : Nat) (e : Eng) (s : State) : (setEng n e s).applied = s.applied := rfl
@[simp] theorem setEng_bus (n : Nat) (e : Eng) (s : State) : (setEng n e s).bus = s.bus := rfl
@[simp] theorem setEng_dataOut (n : Nat) (e : Eng) (s : State) : (setEng n e s).dataOut = s.dataOut := rfl
@[simp] theorem setEng_free (n : Nat) (e : Eng) (s : State) : (setEng n e s).free = s.free := rfl
@[simp] theorem setEng_pending (n : Nat) (e : Eng) (s : State) : (setEng n e s).pending = s.pending := rfl

/-! ## setPlayer -/

@[simp] theorem setPlayer_regs (k : Nat) (p : Player) (s : State) : (setPlayer k p s).regs = s.regs := rfl
@[simp] theorem setPlayer_shadow (k : Nat) (p : Player) (s : State) : (setPlayer k p s).shadow = s.shadow := rfl
@[simp] theorem setPlayer_mem (k : Nat) (p : Player) (s : State) : (setPlayer k p s).mem = s.mem := rfl
@[simp] theorem setPlayer_queue (k : Nat) (p : Player) (s : State) : (setPlayer k p s).queue = s.queue := rfl
@[simp] theorem setPlayer_boot (k : Nat) (p : Player) (s : State) : (setPlayer k p s).boot = s.boot := rfl
@[simp] theorem setPlayer_time (k : Nat) (p : Player) (s : State) : (setPlayer k p s).time = s.time := rfl
@[simp] theorem setPlayer_fab (k : Nat) (p : Player) (s : State) : (setPlayer k p s).fab = s.fab := rfl
@[simp] theorem setPlayer_coils (k : Nat) (p : Player) (s : State) : (setPlayer k p s).coils = s.coils := rfl
@[simp] theorem setPlayer_sess (k : Nat) (p : Player) (s : State) : (setPlayer k p s).sess = s.sess := rfl
@[simp] theorem setPlayer_engs (k : Nat) (p : Player) (s : State) : (setPlayer k p s).engs = s.engs := rfl
@[simp] theorem setPlayer_commit (k : Nat) (p : Player) (s : State) : (setPlayer k p s).commit = s.commit := rfl
@[simp] theorem setPlayer_cvu (k : Nat) (p : Player) (s : State) : (setPlayer k p s).cvu = s.cvu := rfl
@[simp] theorem setPlayer_gov (k : Nat) (p : Player) (s : State) : (setPlayer k p s).gov = s.gov := rfl
@[simp] theorem setPlayer_crocus (k : Nat) (p : Player) (s : State) : (setPlayer k p s).crocus = s.crocus := rfl
@[simp] theorem setPlayer_radio (k : Nat) (p : Player) (s : State) : (setPlayer k p s).radio = s.radio := rfl
@[simp] theorem setPlayer_rx (k : Nat) (p : Player) (s : State) : (setPlayer k p s).rx = s.rx := rfl
@[simp] theorem setPlayer_link (k : Nat) (p : Player) (s : State) : (setPlayer k p s).link = s.link := rfl
@[simp] theorem setPlayer_tag (k : Nat) (p : Player) (s : State) : (setPlayer k p s).tag = s.tag := rfl
@[simp] theorem setPlayer_pwr (k : Nat) (p : Player) (s : State) : (setPlayer k p s).pwr = s.pwr := rfl
@[simp] theorem setPlayer_nvm (k : Nat) (p : Player) (s : State) : (setPlayer k p s).nvm = s.nvm := rfl
@[simp] theorem setPlayer_mgt (k : Nat) (p : Player) (s : State) : (setPlayer k p s).mgt = s.mgt := rfl
@[simp] theorem setPlayer_tap (k : Nat) (p : Player) (s : State) : (setPlayer k p s).tap = s.tap := rfl
@[simp] theorem setPlayer_heldWrites (k : Nat) (p : Player) (s : State) : (setPlayer k p s).heldWrites = s.heldWrites := rfl
@[simp] theorem setPlayer_applied (k : Nat) (p : Player) (s : State) : (setPlayer k p s).applied = s.applied := rfl
@[simp] theorem setPlayer_bus (k : Nat) (p : Player) (s : State) : (setPlayer k p s).bus = s.bus := rfl
@[simp] theorem setPlayer_dataOut (k : Nat) (p : Player) (s : State) : (setPlayer k p s).dataOut = s.dataOut := rfl
@[simp] theorem setPlayer_free (k : Nat) (p : Player) (s : State) : (setPlayer k p s).free = s.free := rfl
@[simp] theorem setPlayer_pending (k : Nat) (p : Player) (s : State) : (setPlayer k p s).pending = s.pending := rfl

/-! ## nextFree -/

@[simp] theorem nextFree_regs (s : State) : (nextFree s).regs = s.regs := rfl
@[simp] theorem nextFree_shadow (s : State) : (nextFree s).shadow = s.shadow := rfl
@[simp] theorem nextFree_mem (s : State) : (nextFree s).mem = s.mem := rfl
@[simp] theorem nextFree_queue (s : State) : (nextFree s).queue = s.queue := rfl
@[simp] theorem nextFree_boot (s : State) : (nextFree s).boot = s.boot := rfl
@[simp] theorem nextFree_time (s : State) : (nextFree s).time = s.time := rfl
@[simp] theorem nextFree_fab (s : State) : (nextFree s).fab = s.fab := rfl
@[simp] theorem nextFree_coils (s : State) : (nextFree s).coils = s.coils := rfl
@[simp] theorem nextFree_sess (s : State) : (nextFree s).sess = s.sess := rfl
@[simp] theorem nextFree_engs (s : State) : (nextFree s).engs = s.engs := rfl
@[simp] theorem nextFree_players (s : State) : (nextFree s).players = s.players := rfl
@[simp] theorem nextFree_commit (s : State) : (nextFree s).commit = s.commit := rfl
@[simp] theorem nextFree_cvu (s : State) : (nextFree s).cvu = s.cvu := rfl
@[simp] theorem nextFree_gov (s : State) : (nextFree s).gov = s.gov := rfl
@[simp] theorem nextFree_crocus (s : State) : (nextFree s).crocus = s.crocus := rfl
@[simp] theorem nextFree_radio (s : State) : (nextFree s).radio = s.radio := rfl
@[simp] theorem nextFree_rx (s : State) : (nextFree s).rx = s.rx := rfl
@[simp] theorem nextFree_link (s : State) : (nextFree s).link = s.link := rfl
@[simp] theorem nextFree_tag (s : State) : (nextFree s).tag = s.tag := rfl
@[simp] theorem nextFree_pwr (s : State) : (nextFree s).pwr = s.pwr := rfl
@[simp] theorem nextFree_nvm (s : State) : (nextFree s).nvm = s.nvm := rfl
@[simp] theorem nextFree_mgt (s : State) : (nextFree s).mgt = s.mgt := rfl
@[simp] theorem nextFree_tap (s : State) : (nextFree s).tap = s.tap := rfl
@[simp] theorem nextFree_heldWrites (s : State) : (nextFree s).heldWrites = s.heldWrites := rfl
@[simp] theorem nextFree_applied (s : State) : (nextFree s).applied = s.applied := rfl
@[simp] theorem nextFree_bus (s : State) : (nextFree s).bus = s.bus := rfl
@[simp] theorem nextFree_dataOut (s : State) : (nextFree s).dataOut = s.dataOut := rfl
@[simp] theorem nextFree_pending (s : State) : (nextFree s).pending = s.pending := rfl

/-! ## advance -/

@[simp] theorem advance_regs (t : Nat) (s : State) : (advance t s).regs = s.regs := rfl
@[simp] theorem advance_shadow (t : Nat) (s : State) : (advance t s).shadow = s.shadow := rfl
@[simp] theorem advance_mem (t : Nat) (s : State) : (advance t s).mem = s.mem := rfl
@[simp] theorem advance_queue (t : Nat) (s : State) : (advance t s).queue = s.queue := rfl
@[simp] theorem advance_boot (t : Nat) (s : State) : (advance t s).boot = s.boot := rfl
@[simp] theorem advance_fab (t : Nat) (s : State) : (advance t s).fab = s.fab := rfl
@[simp] theorem advance_coils (t : Nat) (s : State) : (advance t s).coils = s.coils := rfl
@[simp] theorem advance_sess (t : Nat) (s : State) : (advance t s).sess = s.sess := rfl
@[simp] theorem advance_engs (t : Nat) (s : State) : (advance t s).engs = s.engs := rfl
@[simp] theorem advance_players (t : Nat) (s : State) : (advance t s).players = s.players := rfl
@[simp] theorem advance_commit (t : Nat) (s : State) : (advance t s).commit = s.commit := rfl
@[simp] theorem advance_cvu (t : Nat) (s : State) : (advance t s).cvu = s.cvu := rfl
@[simp] theorem advance_gov (t : Nat) (s : State) : (advance t s).gov = s.gov := rfl
@[simp] theorem advance_crocus (t : Nat) (s : State) : (advance t s).crocus = s.crocus := rfl
@[simp] theorem advance_radio (t : Nat) (s : State) : (advance t s).radio = s.radio := rfl
@[simp] theorem advance_rx (t : Nat) (s : State) : (advance t s).rx = s.rx := rfl
@[simp] theorem advance_link (t : Nat) (s : State) : (advance t s).link = s.link := rfl
@[simp] theorem advance_tag (t : Nat) (s : State) : (advance t s).tag = s.tag := rfl
@[simp] theorem advance_pwr (t : Nat) (s : State) : (advance t s).pwr = s.pwr := rfl
@[simp] theorem advance_nvm (t : Nat) (s : State) : (advance t s).nvm = s.nvm := rfl
@[simp] theorem advance_mgt (t : Nat) (s : State) : (advance t s).mgt = s.mgt := rfl
@[simp] theorem advance_tap (t : Nat) (s : State) : (advance t s).tap = s.tap := rfl
@[simp] theorem advance_heldWrites (t : Nat) (s : State) : (advance t s).heldWrites = s.heldWrites := rfl
@[simp] theorem advance_applied (t : Nat) (s : State) : (advance t s).applied = s.applied := rfl
@[simp] theorem advance_bus (t : Nat) (s : State) : (advance t s).bus = s.bus := rfl
@[simp] theorem advance_dataOut (t : Nat) (s : State) : (advance t s).dataOut = s.dataOut := rfl
@[simp] theorem advance_free (t : Nat) (s : State) : (advance t s).free = s.free := rfl
@[simp] theorem advance_pending (t : Nat) (s : State) : (advance t s).pending = s.pending := rfl

/-! ## modSess -/

@[simp] theorem modSess_regs (f : SessSt → SessSt) (s : State) : (modSess f s).regs = s.regs := rfl
@[simp] theorem modSess_shadow (f : SessSt → SessSt) (s : State) : (modSess f s).shadow = s.shadow := rfl
@[simp] theorem modSess_mem (f : SessSt → SessSt) (s : State) : (modSess f s).mem = s.mem := rfl
@[simp] theorem modSess_queue (f : SessSt → SessSt) (s : State) : (modSess f s).queue = s.queue := rfl
@[simp] theorem modSess_boot (f : SessSt → SessSt) (s : State) : (modSess f s).boot = s.boot := rfl
@[simp] theorem modSess_time (f : SessSt → SessSt) (s : State) : (modSess f s).time = s.time := rfl
@[simp] theorem modSess_fab (f : SessSt → SessSt) (s : State) : (modSess f s).fab = s.fab := rfl
@[simp] theorem modSess_coils (f : SessSt → SessSt) (s : State) : (modSess f s).coils = s.coils := rfl
@[simp] theorem modSess_sess (f : SessSt → SessSt) (s : State) : (modSess f s).sess = f s.sess := rfl
@[simp] theorem modSess_engs (f : SessSt → SessSt) (s : State) : (modSess f s).engs = s.engs := rfl
@[simp] theorem modSess_players (f : SessSt → SessSt) (s : State) : (modSess f s).players = s.players := rfl
@[simp] theorem modSess_commit (f : SessSt → SessSt) (s : State) : (modSess f s).commit = s.commit := rfl
@[simp] theorem modSess_cvu (f : SessSt → SessSt) (s : State) : (modSess f s).cvu = s.cvu := rfl
@[simp] theorem modSess_gov (f : SessSt → SessSt) (s : State) : (modSess f s).gov = s.gov := rfl
@[simp] theorem modSess_crocus (f : SessSt → SessSt) (s : State) : (modSess f s).crocus = s.crocus := rfl
@[simp] theorem modSess_radio (f : SessSt → SessSt) (s : State) : (modSess f s).radio = s.radio := rfl
@[simp] theorem modSess_rx (f : SessSt → SessSt) (s : State) : (modSess f s).rx = s.rx := rfl
@[simp] theorem modSess_link (f : SessSt → SessSt) (s : State) : (modSess f s).link = s.link := rfl
@[simp] theorem modSess_tag (f : SessSt → SessSt) (s : State) : (modSess f s).tag = s.tag := rfl
@[simp] theorem modSess_pwr (f : SessSt → SessSt) (s : State) : (modSess f s).pwr = s.pwr := rfl
@[simp] theorem modSess_nvm (f : SessSt → SessSt) (s : State) : (modSess f s).nvm = s.nvm := rfl
@[simp] theorem modSess_mgt (f : SessSt → SessSt) (s : State) : (modSess f s).mgt = s.mgt := rfl
@[simp] theorem modSess_tap (f : SessSt → SessSt) (s : State) : (modSess f s).tap = s.tap := rfl
@[simp] theorem modSess_heldWrites (f : SessSt → SessSt) (s : State) : (modSess f s).heldWrites = s.heldWrites := rfl
@[simp] theorem modSess_applied (f : SessSt → SessSt) (s : State) : (modSess f s).applied = s.applied := rfl
@[simp] theorem modSess_bus (f : SessSt → SessSt) (s : State) : (modSess f s).bus = s.bus := rfl
@[simp] theorem modSess_dataOut (f : SessSt → SessSt) (s : State) : (modSess f s).dataOut = s.dataOut := rfl
@[simp] theorem modSess_free (f : SessSt → SessSt) (s : State) : (modSess f s).free = s.free := rfl
@[simp] theorem modSess_pending (f : SessSt → SessSt) (s : State) : (modSess f s).pending = s.pending := rfl

/-! ## modQueue -/

@[simp] theorem modQueue_regs (f : QueueSt → QueueSt) (s : State) : (modQueue f s).regs = s.regs := rfl
@[simp] theorem modQueue_shadow (f : QueueSt → QueueSt) (s : State) : (modQueue f s).shadow = s.shadow := rfl
@[simp] theorem modQueue_mem (f : QueueSt → QueueSt) (s : State) : (modQueue f s).mem = s.mem := rfl
@[simp] theorem modQueue_queue (f : QueueSt → QueueSt) (s : State) : (modQueue f s).queue = f s.queue := rfl
@[simp] theorem modQueue_boot (f : QueueSt → QueueSt) (s : State) : (modQueue f s).boot = s.boot := rfl
@[simp] theorem modQueue_time (f : QueueSt → QueueSt) (s : State) : (modQueue f s).time = s.time := rfl
@[simp] theorem modQueue_fab (f : QueueSt → QueueSt) (s : State) : (modQueue f s).fab = s.fab := rfl
@[simp] theorem modQueue_coils (f : QueueSt → QueueSt) (s : State) : (modQueue f s).coils = s.coils := rfl
@[simp] theorem modQueue_sess (f : QueueSt → QueueSt) (s : State) : (modQueue f s).sess = s.sess := rfl
@[simp] theorem modQueue_engs (f : QueueSt → QueueSt) (s : State) : (modQueue f s).engs = s.engs := rfl
@[simp] theorem modQueue_players (f : QueueSt → QueueSt) (s : State) : (modQueue f s).players = s.players := rfl
@[simp] theorem modQueue_commit (f : QueueSt → QueueSt) (s : State) : (modQueue f s).commit = s.commit := rfl
@[simp] theorem modQueue_cvu (f : QueueSt → QueueSt) (s : State) : (modQueue f s).cvu = s.cvu := rfl
@[simp] theorem modQueue_gov (f : QueueSt → QueueSt) (s : State) : (modQueue f s).gov = s.gov := rfl
@[simp] theorem modQueue_crocus (f : QueueSt → QueueSt) (s : State) : (modQueue f s).crocus = s.crocus := rfl
@[simp] theorem modQueue_radio (f : QueueSt → QueueSt) (s : State) : (modQueue f s).radio = s.radio := rfl
@[simp] theorem modQueue_rx (f : QueueSt → QueueSt) (s : State) : (modQueue f s).rx = s.rx := rfl
@[simp] theorem modQueue_link (f : QueueSt → QueueSt) (s : State) : (modQueue f s).link = s.link := rfl
@[simp] theorem modQueue_tag (f : QueueSt → QueueSt) (s : State) : (modQueue f s).tag = s.tag := rfl
@[simp] theorem modQueue_pwr (f : QueueSt → QueueSt) (s : State) : (modQueue f s).pwr = s.pwr := rfl
@[simp] theorem modQueue_nvm (f : QueueSt → QueueSt) (s : State) : (modQueue f s).nvm = s.nvm := rfl
@[simp] theorem modQueue_mgt (f : QueueSt → QueueSt) (s : State) : (modQueue f s).mgt = s.mgt := rfl
@[simp] theorem modQueue_tap (f : QueueSt → QueueSt) (s : State) : (modQueue f s).tap = s.tap := rfl
@[simp] theorem modQueue_heldWrites (f : QueueSt → QueueSt) (s : State) : (modQueue f s).heldWrites = s.heldWrites := rfl
@[simp] theorem modQueue_applied (f : QueueSt → QueueSt) (s : State) : (modQueue f s).applied = s.applied := rfl
@[simp] theorem modQueue_bus (f : QueueSt → QueueSt) (s : State) : (modQueue f s).bus = s.bus := rfl
@[simp] theorem modQueue_dataOut (f : QueueSt → QueueSt) (s : State) : (modQueue f s).dataOut = s.dataOut := rfl
@[simp] theorem modQueue_free (f : QueueSt → QueueSt) (s : State) : (modQueue f s).free = s.free := rfl
@[simp] theorem modQueue_pending (f : QueueSt → QueueSt) (s : State) : (modQueue f s).pending = s.pending := rfl

/-! ## modBoot -/

@[simp] theorem modBoot_regs (f : BootSt → BootSt) (s : State) : (modBoot f s).regs = s.regs := rfl
@[simp] theorem modBoot_shadow (f : BootSt → BootSt) (s : State) : (modBoot f s).shadow = s.shadow := rfl
@[simp] theorem modBoot_mem (f : BootSt → BootSt) (s : State) : (modBoot f s).mem = s.mem := rfl
@[simp] theorem modBoot_queue (f : BootSt → BootSt) (s : State) : (modBoot f s).queue = s.queue := rfl
@[simp] theorem modBoot_boot (f : BootSt → BootSt) (s : State) : (modBoot f s).boot = f s.boot := rfl
@[simp] theorem modBoot_time (f : BootSt → BootSt) (s : State) : (modBoot f s).time = s.time := rfl
@[simp] theorem modBoot_fab (f : BootSt → BootSt) (s : State) : (modBoot f s).fab = s.fab := rfl
@[simp] theorem modBoot_coils (f : BootSt → BootSt) (s : State) : (modBoot f s).coils = s.coils := rfl
@[simp] theorem modBoot_sess (f : BootSt → BootSt) (s : State) : (modBoot f s).sess = s.sess := rfl
@[simp] theorem modBoot_engs (f : BootSt → BootSt) (s : State) : (modBoot f s).engs = s.engs := rfl
@[simp] theorem modBoot_players (f : BootSt → BootSt) (s : State) : (modBoot f s).players = s.players := rfl
@[simp] theorem modBoot_commit (f : BootSt → BootSt) (s : State) : (modBoot f s).commit = s.commit := rfl
@[simp] theorem modBoot_cvu (f : BootSt → BootSt) (s : State) : (modBoot f s).cvu = s.cvu := rfl
@[simp] theorem modBoot_gov (f : BootSt → BootSt) (s : State) : (modBoot f s).gov = s.gov := rfl
@[simp] theorem modBoot_crocus (f : BootSt → BootSt) (s : State) : (modBoot f s).crocus = s.crocus := rfl
@[simp] theorem modBoot_radio (f : BootSt → BootSt) (s : State) : (modBoot f s).radio = s.radio := rfl
@[simp] theorem modBoot_rx (f : BootSt → BootSt) (s : State) : (modBoot f s).rx = s.rx := rfl
@[simp] theorem modBoot_link (f : BootSt → BootSt) (s : State) : (modBoot f s).link = s.link := rfl
@[simp] theorem modBoot_tag (f : BootSt → BootSt) (s : State) : (modBoot f s).tag = s.tag := rfl
@[simp] theorem modBoot_pwr (f : BootSt → BootSt) (s : State) : (modBoot f s).pwr = s.pwr := rfl
@[simp] theorem modBoot_nvm (f : BootSt → BootSt) (s : State) : (modBoot f s).nvm = s.nvm := rfl
@[simp] theorem modBoot_mgt (f : BootSt → BootSt) (s : State) : (modBoot f s).mgt = s.mgt := rfl
@[simp] theorem modBoot_tap (f : BootSt → BootSt) (s : State) : (modBoot f s).tap = s.tap := rfl
@[simp] theorem modBoot_heldWrites (f : BootSt → BootSt) (s : State) : (modBoot f s).heldWrites = s.heldWrites := rfl
@[simp] theorem modBoot_applied (f : BootSt → BootSt) (s : State) : (modBoot f s).applied = s.applied := rfl
@[simp] theorem modBoot_bus (f : BootSt → BootSt) (s : State) : (modBoot f s).bus = s.bus := rfl
@[simp] theorem modBoot_dataOut (f : BootSt → BootSt) (s : State) : (modBoot f s).dataOut = s.dataOut := rfl
@[simp] theorem modBoot_free (f : BootSt → BootSt) (s : State) : (modBoot f s).free = s.free := rfl
@[simp] theorem modBoot_pending (f : BootSt → BootSt) (s : State) : (modBoot f s).pending = s.pending := rfl

/-! ## modTime -/

@[simp] theorem modTime_regs (f : TimeSt → TimeSt) (s : State) : (modTime f s).regs = s.regs := rfl
@[simp] theorem modTime_shadow (f : TimeSt → TimeSt) (s : State) : (modTime f s).shadow = s.shadow := rfl
@[simp] theorem modTime_mem (f : TimeSt → TimeSt) (s : State) : (modTime f s).mem = s.mem := rfl
@[simp] theorem modTime_queue (f : TimeSt → TimeSt) (s : State) : (modTime f s).queue = s.queue := rfl
@[simp] theorem modTime_boot (f : TimeSt → TimeSt) (s : State) : (modTime f s).boot = s.boot := rfl
@[simp] theorem modTime_time (f : TimeSt → TimeSt) (s : State) : (modTime f s).time = f s.time := rfl
@[simp] theorem modTime_fab (f : TimeSt → TimeSt) (s : State) : (modTime f s).fab = s.fab := rfl
@[simp] theorem modTime_coils (f : TimeSt → TimeSt) (s : State) : (modTime f s).coils = s.coils := rfl
@[simp] theorem modTime_sess (f : TimeSt → TimeSt) (s : State) : (modTime f s).sess = s.sess := rfl
@[simp] theorem modTime_engs (f : TimeSt → TimeSt) (s : State) : (modTime f s).engs = s.engs := rfl
@[simp] theorem modTime_players (f : TimeSt → TimeSt) (s : State) : (modTime f s).players = s.players := rfl
@[simp] theorem modTime_commit (f : TimeSt → TimeSt) (s : State) : (modTime f s).commit = s.commit := rfl
@[simp] theorem modTime_cvu (f : TimeSt → TimeSt) (s : State) : (modTime f s).cvu = s.cvu := rfl
@[simp] theorem modTime_gov (f : TimeSt → TimeSt) (s : State) : (modTime f s).gov = s.gov := rfl
@[simp] theorem modTime_crocus (f : TimeSt → TimeSt) (s : State) : (modTime f s).crocus = s.crocus := rfl
@[simp] theorem modTime_radio (f : TimeSt → TimeSt) (s : State) : (modTime f s).radio = s.radio := rfl
@[simp] theorem modTime_rx (f : TimeSt → TimeSt) (s : State) : (modTime f s).rx = s.rx := rfl
@[simp] theorem modTime_link (f : TimeSt → TimeSt) (s : State) : (modTime f s).link = s.link := rfl
@[simp] theorem modTime_tag (f : TimeSt → TimeSt) (s : State) : (modTime f s).tag = s.tag := rfl
@[simp] theorem modTime_pwr (f : TimeSt → TimeSt) (s : State) : (modTime f s).pwr = s.pwr := rfl
@[simp] theorem modTime_nvm (f : TimeSt → TimeSt) (s : State) : (modTime f s).nvm = s.nvm := rfl
@[simp] theorem modTime_mgt (f : TimeSt → TimeSt) (s : State) : (modTime f s).mgt = s.mgt := rfl
@[simp] theorem modTime_tap (f : TimeSt → TimeSt) (s : State) : (modTime f s).tap = s.tap := rfl
@[simp] theorem modTime_heldWrites (f : TimeSt → TimeSt) (s : State) : (modTime f s).heldWrites = s.heldWrites := rfl
@[simp] theorem modTime_applied (f : TimeSt → TimeSt) (s : State) : (modTime f s).applied = s.applied := rfl
@[simp] theorem modTime_bus (f : TimeSt → TimeSt) (s : State) : (modTime f s).bus = s.bus := rfl
@[simp] theorem modTime_dataOut (f : TimeSt → TimeSt) (s : State) : (modTime f s).dataOut = s.dataOut := rfl
@[simp] theorem modTime_free (f : TimeSt → TimeSt) (s : State) : (modTime f s).free = s.free := rfl
@[simp] theorem modTime_pending (f : TimeSt → TimeSt) (s : State) : (modTime f s).pending = s.pending := rfl

/-! ## modFab -/

@[simp] theorem modFab_regs (f : FabricSt → FabricSt) (s : State) : (modFab f s).regs = s.regs := rfl
@[simp] theorem modFab_shadow (f : FabricSt → FabricSt) (s : State) : (modFab f s).shadow = s.shadow := rfl
@[simp] theorem modFab_mem (f : FabricSt → FabricSt) (s : State) : (modFab f s).mem = s.mem := rfl
@[simp] theorem modFab_queue (f : FabricSt → FabricSt) (s : State) : (modFab f s).queue = s.queue := rfl
@[simp] theorem modFab_boot (f : FabricSt → FabricSt) (s : State) : (modFab f s).boot = s.boot := rfl
@[simp] theorem modFab_time (f : FabricSt → FabricSt) (s : State) : (modFab f s).time = s.time := rfl
@[simp] theorem modFab_fab (f : FabricSt → FabricSt) (s : State) : (modFab f s).fab = f s.fab := rfl
@[simp] theorem modFab_coils (f : FabricSt → FabricSt) (s : State) : (modFab f s).coils = s.coils := rfl
@[simp] theorem modFab_sess (f : FabricSt → FabricSt) (s : State) : (modFab f s).sess = s.sess := rfl
@[simp] theorem modFab_engs (f : FabricSt → FabricSt) (s : State) : (modFab f s).engs = s.engs := rfl
@[simp] theorem modFab_players (f : FabricSt → FabricSt) (s : State) : (modFab f s).players = s.players := rfl
@[simp] theorem modFab_commit (f : FabricSt → FabricSt) (s : State) : (modFab f s).commit = s.commit := rfl
@[simp] theorem modFab_cvu (f : FabricSt → FabricSt) (s : State) : (modFab f s).cvu = s.cvu := rfl
@[simp] theorem modFab_gov (f : FabricSt → FabricSt) (s : State) : (modFab f s).gov = s.gov := rfl
@[simp] theorem modFab_crocus (f : FabricSt → FabricSt) (s : State) : (modFab f s).crocus = s.crocus := rfl
@[simp] theorem modFab_radio (f : FabricSt → FabricSt) (s : State) : (modFab f s).radio = s.radio := rfl
@[simp] theorem modFab_rx (f : FabricSt → FabricSt) (s : State) : (modFab f s).rx = s.rx := rfl
@[simp] theorem modFab_link (f : FabricSt → FabricSt) (s : State) : (modFab f s).link = s.link := rfl
@[simp] theorem modFab_tag (f : FabricSt → FabricSt) (s : State) : (modFab f s).tag = s.tag := rfl
@[simp] theorem modFab_pwr (f : FabricSt → FabricSt) (s : State) : (modFab f s).pwr = s.pwr := rfl
@[simp] theorem modFab_nvm (f : FabricSt → FabricSt) (s : State) : (modFab f s).nvm = s.nvm := rfl
@[simp] theorem modFab_mgt (f : FabricSt → FabricSt) (s : State) : (modFab f s).mgt = s.mgt := rfl
@[simp] theorem modFab_tap (f : FabricSt → FabricSt) (s : State) : (modFab f s).tap = s.tap := rfl
@[simp] theorem modFab_heldWrites (f : FabricSt → FabricSt) (s : State) : (modFab f s).heldWrites = s.heldWrites := rfl
@[simp] theorem modFab_applied (f : FabricSt → FabricSt) (s : State) : (modFab f s).applied = s.applied := rfl
@[simp] theorem modFab_bus (f : FabricSt → FabricSt) (s : State) : (modFab f s).bus = s.bus := rfl
@[simp] theorem modFab_dataOut (f : FabricSt → FabricSt) (s : State) : (modFab f s).dataOut = s.dataOut := rfl
@[simp] theorem modFab_free (f : FabricSt → FabricSt) (s : State) : (modFab f s).free = s.free := rfl
@[simp] theorem modFab_pending (f : FabricSt → FabricSt) (s : State) : (modFab f s).pending = s.pending := rfl

/-! ## modRadio -/

@[simp] theorem modRadio_regs (f : RadioSt → RadioSt) (s : State) : (modRadio f s).regs = s.regs := rfl
@[simp] theorem modRadio_shadow (f : RadioSt → RadioSt) (s : State) : (modRadio f s).shadow = s.shadow := rfl
@[simp] theorem modRadio_mem (f : RadioSt → RadioSt) (s : State) : (modRadio f s).mem = s.mem := rfl
@[simp] theorem modRadio_queue (f : RadioSt → RadioSt) (s : State) : (modRadio f s).queue = s.queue := rfl
@[simp] theorem modRadio_boot (f : RadioSt → RadioSt) (s : State) : (modRadio f s).boot = s.boot := rfl
@[simp] theorem modRadio_time (f : RadioSt → RadioSt) (s : State) : (modRadio f s).time = s.time := rfl
@[simp] theorem modRadio_fab (f : RadioSt → RadioSt) (s : State) : (modRadio f s).fab = s.fab := rfl
@[simp] theorem modRadio_coils (f : RadioSt → RadioSt) (s : State) : (modRadio f s).coils = s.coils := rfl
@[simp] theorem modRadio_sess (f : RadioSt → RadioSt) (s : State) : (modRadio f s).sess = s.sess := rfl
@[simp] theorem modRadio_engs (f : RadioSt → RadioSt) (s : State) : (modRadio f s).engs = s.engs := rfl
@[simp] theorem modRadio_players (f : RadioSt → RadioSt) (s : State) : (modRadio f s).players = s.players := rfl
@[simp] theorem modRadio_commit (f : RadioSt → RadioSt) (s : State) : (modRadio f s).commit = s.commit := rfl
@[simp] theorem modRadio_cvu (f : RadioSt → RadioSt) (s : State) : (modRadio f s).cvu = s.cvu := rfl
@[simp] theorem modRadio_gov (f : RadioSt → RadioSt) (s : State) : (modRadio f s).gov = s.gov := rfl
@[simp] theorem modRadio_crocus (f : RadioSt → RadioSt) (s : State) : (modRadio f s).crocus = s.crocus := rfl
@[simp] theorem modRadio_radio (f : RadioSt → RadioSt) (s : State) : (modRadio f s).radio = f s.radio := rfl
@[simp] theorem modRadio_rx (f : RadioSt → RadioSt) (s : State) : (modRadio f s).rx = s.rx := rfl
@[simp] theorem modRadio_link (f : RadioSt → RadioSt) (s : State) : (modRadio f s).link = s.link := rfl
@[simp] theorem modRadio_tag (f : RadioSt → RadioSt) (s : State) : (modRadio f s).tag = s.tag := rfl
@[simp] theorem modRadio_pwr (f : RadioSt → RadioSt) (s : State) : (modRadio f s).pwr = s.pwr := rfl
@[simp] theorem modRadio_nvm (f : RadioSt → RadioSt) (s : State) : (modRadio f s).nvm = s.nvm := rfl
@[simp] theorem modRadio_mgt (f : RadioSt → RadioSt) (s : State) : (modRadio f s).mgt = s.mgt := rfl
@[simp] theorem modRadio_tap (f : RadioSt → RadioSt) (s : State) : (modRadio f s).tap = s.tap := rfl
@[simp] theorem modRadio_heldWrites (f : RadioSt → RadioSt) (s : State) : (modRadio f s).heldWrites = s.heldWrites := rfl
@[simp] theorem modRadio_applied (f : RadioSt → RadioSt) (s : State) : (modRadio f s).applied = s.applied := rfl
@[simp] theorem modRadio_bus (f : RadioSt → RadioSt) (s : State) : (modRadio f s).bus = s.bus := rfl
@[simp] theorem modRadio_dataOut (f : RadioSt → RadioSt) (s : State) : (modRadio f s).dataOut = s.dataOut := rfl
@[simp] theorem modRadio_free (f : RadioSt → RadioSt) (s : State) : (modRadio f s).free = s.free := rfl
@[simp] theorem modRadio_pending (f : RadioSt → RadioSt) (s : State) : (modRadio f s).pending = s.pending := rfl

/-! ## modRx -/

@[simp] theorem modRx_regs (f : RxSt → RxSt) (s : State) : (modRx f s).regs = s.regs := rfl
@[simp] theorem modRx_shadow (f : RxSt → RxSt) (s : State) : (modRx f s).shadow = s.shadow := rfl
@[simp] theorem modRx_mem (f : RxSt → RxSt) (s : State) : (modRx f s).mem = s.mem := rfl
@[simp] theorem modRx_queue (f : RxSt → RxSt) (s : State) : (modRx f s).queue = s.queue := rfl
@[simp] theorem modRx_boot (f : RxSt → RxSt) (s : State) : (modRx f s).boot = s.boot := rfl
@[simp] theorem modRx_time (f : RxSt → RxSt) (s : State) : (modRx f s).time = s.time := rfl
@[simp] theorem modRx_fab (f : RxSt → RxSt) (s : State) : (modRx f s).fab = s.fab := rfl
@[simp] theorem modRx_coils (f : RxSt → RxSt) (s : State) : (modRx f s).coils = s.coils := rfl
@[simp] theorem modRx_sess (f : RxSt → RxSt) (s : State) : (modRx f s).sess = s.sess := rfl
@[simp] theorem modRx_engs (f : RxSt → RxSt) (s : State) : (modRx f s).engs = s.engs := rfl
@[simp] theorem modRx_players (f : RxSt → RxSt) (s : State) : (modRx f s).players = s.players := rfl
@[simp] theorem modRx_commit (f : RxSt → RxSt) (s : State) : (modRx f s).commit = s.commit := rfl
@[simp] theorem modRx_cvu (f : RxSt → RxSt) (s : State) : (modRx f s).cvu = s.cvu := rfl
@[simp] theorem modRx_gov (f : RxSt → RxSt) (s : State) : (modRx f s).gov = s.gov := rfl
@[simp] theorem modRx_crocus (f : RxSt → RxSt) (s : State) : (modRx f s).crocus = s.crocus := rfl
@[simp] theorem modRx_radio (f : RxSt → RxSt) (s : State) : (modRx f s).radio = s.radio := rfl
@[simp] theorem modRx_rx (f : RxSt → RxSt) (s : State) : (modRx f s).rx = f s.rx := rfl
@[simp] theorem modRx_link (f : RxSt → RxSt) (s : State) : (modRx f s).link = s.link := rfl
@[simp] theorem modRx_tag (f : RxSt → RxSt) (s : State) : (modRx f s).tag = s.tag := rfl
@[simp] theorem modRx_pwr (f : RxSt → RxSt) (s : State) : (modRx f s).pwr = s.pwr := rfl
@[simp] theorem modRx_nvm (f : RxSt → RxSt) (s : State) : (modRx f s).nvm = s.nvm := rfl
@[simp] theorem modRx_mgt (f : RxSt → RxSt) (s : State) : (modRx f s).mgt = s.mgt := rfl
@[simp] theorem modRx_tap (f : RxSt → RxSt) (s : State) : (modRx f s).tap = s.tap := rfl
@[simp] theorem modRx_heldWrites (f : RxSt → RxSt) (s : State) : (modRx f s).heldWrites = s.heldWrites := rfl
@[simp] theorem modRx_applied (f : RxSt → RxSt) (s : State) : (modRx f s).applied = s.applied := rfl
@[simp] theorem modRx_bus (f : RxSt → RxSt) (s : State) : (modRx f s).bus = s.bus := rfl
@[simp] theorem modRx_dataOut (f : RxSt → RxSt) (s : State) : (modRx f s).dataOut = s.dataOut := rfl
@[simp] theorem modRx_free (f : RxSt → RxSt) (s : State) : (modRx f s).free = s.free := rfl
@[simp] theorem modRx_pending (f : RxSt → RxSt) (s : State) : (modRx f s).pending = s.pending := rfl

/-! ## modLink -/

@[simp] theorem modLink_regs (f : LinkSt → LinkSt) (s : State) : (modLink f s).regs = s.regs := rfl
@[simp] theorem modLink_shadow (f : LinkSt → LinkSt) (s : State) : (modLink f s).shadow = s.shadow := rfl
@[simp] theorem modLink_mem (f : LinkSt → LinkSt) (s : State) : (modLink f s).mem = s.mem := rfl
@[simp] theorem modLink_queue (f : LinkSt → LinkSt) (s : State) : (modLink f s).queue = s.queue := rfl
@[simp] theorem modLink_boot (f : LinkSt → LinkSt) (s : State) : (modLink f s).boot = s.boot := rfl
@[simp] theorem modLink_time (f : LinkSt → LinkSt) (s : State) : (modLink f s).time = s.time := rfl
@[simp] theorem modLink_fab (f : LinkSt → LinkSt) (s : State) : (modLink f s).fab = s.fab := rfl
@[simp] theorem modLink_coils (f : LinkSt → LinkSt) (s : State) : (modLink f s).coils = s.coils := rfl
@[simp] theorem modLink_sess (f : LinkSt → LinkSt) (s : State) : (modLink f s).sess = s.sess := rfl
@[simp] theorem modLink_engs (f : LinkSt → LinkSt) (s : State) : (modLink f s).engs = s.engs := rfl
@[simp] theorem modLink_players (f : LinkSt → LinkSt) (s : State) : (modLink f s).players = s.players := rfl
@[simp] theorem modLink_commit (f : LinkSt → LinkSt) (s : State) : (modLink f s).commit = s.commit := rfl
@[simp] theorem modLink_cvu (f : LinkSt → LinkSt) (s : State) : (modLink f s).cvu = s.cvu := rfl
@[simp] theorem modLink_gov (f : LinkSt → LinkSt) (s : State) : (modLink f s).gov = s.gov := rfl
@[simp] theorem modLink_crocus (f : LinkSt → LinkSt) (s : State) : (modLink f s).crocus = s.crocus := rfl
@[simp] theorem modLink_radio (f : LinkSt → LinkSt) (s : State) : (modLink f s).radio = s.radio := rfl
@[simp] theorem modLink_rx (f : LinkSt → LinkSt) (s : State) : (modLink f s).rx = s.rx := rfl
@[simp] theorem modLink_link (f : LinkSt → LinkSt) (s : State) : (modLink f s).link = f s.link := rfl
@[simp] theorem modLink_tag (f : LinkSt → LinkSt) (s : State) : (modLink f s).tag = s.tag := rfl
@[simp] theorem modLink_pwr (f : LinkSt → LinkSt) (s : State) : (modLink f s).pwr = s.pwr := rfl
@[simp] theorem modLink_nvm (f : LinkSt → LinkSt) (s : State) : (modLink f s).nvm = s.nvm := rfl
@[simp] theorem modLink_mgt (f : LinkSt → LinkSt) (s : State) : (modLink f s).mgt = s.mgt := rfl
@[simp] theorem modLink_tap (f : LinkSt → LinkSt) (s : State) : (modLink f s).tap = s.tap := rfl
@[simp] theorem modLink_heldWrites (f : LinkSt → LinkSt) (s : State) : (modLink f s).heldWrites = s.heldWrites := rfl
@[simp] theorem modLink_applied (f : LinkSt → LinkSt) (s : State) : (modLink f s).applied = s.applied := rfl
@[simp] theorem modLink_bus (f : LinkSt → LinkSt) (s : State) : (modLink f s).bus = s.bus := rfl
@[simp] theorem modLink_dataOut (f : LinkSt → LinkSt) (s : State) : (modLink f s).dataOut = s.dataOut := rfl
@[simp] theorem modLink_free (f : LinkSt → LinkSt) (s : State) : (modLink f s).free = s.free := rfl
@[simp] theorem modLink_pending (f : LinkSt → LinkSt) (s : State) : (modLink f s).pending = s.pending := rfl

/-! ## modTag -/

@[simp] theorem modTag_regs (f : TagSt → TagSt) (s : State) : (modTag f s).regs = s.regs := rfl
@[simp] theorem modTag_shadow (f : TagSt → TagSt) (s : State) : (modTag f s).shadow = s.shadow := rfl
@[simp] theorem modTag_mem (f : TagSt → TagSt) (s : State) : (modTag f s).mem = s.mem := rfl
@[simp] theorem modTag_queue (f : TagSt → TagSt) (s : State) : (modTag f s).queue = s.queue := rfl
@[simp] theorem modTag_boot (f : TagSt → TagSt) (s : State) : (modTag f s).boot = s.boot := rfl
@[simp] theorem modTag_time (f : TagSt → TagSt) (s : State) : (modTag f s).time = s.time := rfl
@[simp] theorem modTag_fab (f : TagSt → TagSt) (s : State) : (modTag f s).fab = s.fab := rfl
@[simp] theorem modTag_coils (f : TagSt → TagSt) (s : State) : (modTag f s).coils = s.coils := rfl
@[simp] theorem modTag_sess (f : TagSt → TagSt) (s : State) : (modTag f s).sess = s.sess := rfl
@[simp] theorem modTag_engs (f : TagSt → TagSt) (s : State) : (modTag f s).engs = s.engs := rfl
@[simp] theorem modTag_players (f : TagSt → TagSt) (s : State) : (modTag f s).players = s.players := rfl
@[simp] theorem modTag_commit (f : TagSt → TagSt) (s : State) : (modTag f s).commit = s.commit := rfl
@[simp] theorem modTag_cvu (f : TagSt → TagSt) (s : State) : (modTag f s).cvu = s.cvu := rfl
@[simp] theorem modTag_gov (f : TagSt → TagSt) (s : State) : (modTag f s).gov = s.gov := rfl
@[simp] theorem modTag_crocus (f : TagSt → TagSt) (s : State) : (modTag f s).crocus = s.crocus := rfl
@[simp] theorem modTag_radio (f : TagSt → TagSt) (s : State) : (modTag f s).radio = s.radio := rfl
@[simp] theorem modTag_rx (f : TagSt → TagSt) (s : State) : (modTag f s).rx = s.rx := rfl
@[simp] theorem modTag_link (f : TagSt → TagSt) (s : State) : (modTag f s).link = s.link := rfl
@[simp] theorem modTag_tag (f : TagSt → TagSt) (s : State) : (modTag f s).tag = f s.tag := rfl
@[simp] theorem modTag_pwr (f : TagSt → TagSt) (s : State) : (modTag f s).pwr = s.pwr := rfl
@[simp] theorem modTag_nvm (f : TagSt → TagSt) (s : State) : (modTag f s).nvm = s.nvm := rfl
@[simp] theorem modTag_mgt (f : TagSt → TagSt) (s : State) : (modTag f s).mgt = s.mgt := rfl
@[simp] theorem modTag_tap (f : TagSt → TagSt) (s : State) : (modTag f s).tap = s.tap := rfl
@[simp] theorem modTag_heldWrites (f : TagSt → TagSt) (s : State) : (modTag f s).heldWrites = s.heldWrites := rfl
@[simp] theorem modTag_applied (f : TagSt → TagSt) (s : State) : (modTag f s).applied = s.applied := rfl
@[simp] theorem modTag_bus (f : TagSt → TagSt) (s : State) : (modTag f s).bus = s.bus := rfl
@[simp] theorem modTag_dataOut (f : TagSt → TagSt) (s : State) : (modTag f s).dataOut = s.dataOut := rfl
@[simp] theorem modTag_free (f : TagSt → TagSt) (s : State) : (modTag f s).free = s.free := rfl
@[simp] theorem modTag_pending (f : TagSt → TagSt) (s : State) : (modTag f s).pending = s.pending := rfl

/-! ## modMgt -/

@[simp] theorem modMgt_regs (f : MgtSt → MgtSt) (s : State) : (modMgt f s).regs = s.regs := rfl
@[simp] theorem modMgt_shadow (f : MgtSt → MgtSt) (s : State) : (modMgt f s).shadow = s.shadow := rfl
@[simp] theorem modMgt_mem (f : MgtSt → MgtSt) (s : State) : (modMgt f s).mem = s.mem := rfl
@[simp] theorem modMgt_queue (f : MgtSt → MgtSt) (s : State) : (modMgt f s).queue = s.queue := rfl
@[simp] theorem modMgt_boot (f : MgtSt → MgtSt) (s : State) : (modMgt f s).boot = s.boot := rfl
@[simp] theorem modMgt_time (f : MgtSt → MgtSt) (s : State) : (modMgt f s).time = s.time := rfl
@[simp] theorem modMgt_fab (f : MgtSt → MgtSt) (s : State) : (modMgt f s).fab = s.fab := rfl
@[simp] theorem modMgt_coils (f : MgtSt → MgtSt) (s : State) : (modMgt f s).coils = s.coils := rfl
@[simp] theorem modMgt_sess (f : MgtSt → MgtSt) (s : State) : (modMgt f s).sess = s.sess := rfl
@[simp] theorem modMgt_engs (f : MgtSt → MgtSt) (s : State) : (modMgt f s).engs = s.engs := rfl
@[simp] theorem modMgt_players (f : MgtSt → MgtSt) (s : State) : (modMgt f s).players = s.players := rfl
@[simp] theorem modMgt_commit (f : MgtSt → MgtSt) (s : State) : (modMgt f s).commit = s.commit := rfl
@[simp] theorem modMgt_cvu (f : MgtSt → MgtSt) (s : State) : (modMgt f s).cvu = s.cvu := rfl
@[simp] theorem modMgt_gov (f : MgtSt → MgtSt) (s : State) : (modMgt f s).gov = s.gov := rfl
@[simp] theorem modMgt_crocus (f : MgtSt → MgtSt) (s : State) : (modMgt f s).crocus = s.crocus := rfl
@[simp] theorem modMgt_radio (f : MgtSt → MgtSt) (s : State) : (modMgt f s).radio = s.radio := rfl
@[simp] theorem modMgt_rx (f : MgtSt → MgtSt) (s : State) : (modMgt f s).rx = s.rx := rfl
@[simp] theorem modMgt_link (f : MgtSt → MgtSt) (s : State) : (modMgt f s).link = s.link := rfl
@[simp] theorem modMgt_tag (f : MgtSt → MgtSt) (s : State) : (modMgt f s).tag = s.tag := rfl
@[simp] theorem modMgt_pwr (f : MgtSt → MgtSt) (s : State) : (modMgt f s).pwr = s.pwr := rfl
@[simp] theorem modMgt_nvm (f : MgtSt → MgtSt) (s : State) : (modMgt f s).nvm = s.nvm := rfl
@[simp] theorem modMgt_mgt (f : MgtSt → MgtSt) (s : State) : (modMgt f s).mgt = f s.mgt := rfl
@[simp] theorem modMgt_tap (f : MgtSt → MgtSt) (s : State) : (modMgt f s).tap = s.tap := rfl
@[simp] theorem modMgt_heldWrites (f : MgtSt → MgtSt) (s : State) : (modMgt f s).heldWrites = s.heldWrites := rfl
@[simp] theorem modMgt_applied (f : MgtSt → MgtSt) (s : State) : (modMgt f s).applied = s.applied := rfl
@[simp] theorem modMgt_bus (f : MgtSt → MgtSt) (s : State) : (modMgt f s).bus = s.bus := rfl
@[simp] theorem modMgt_dataOut (f : MgtSt → MgtSt) (s : State) : (modMgt f s).dataOut = s.dataOut := rfl
@[simp] theorem modMgt_free (f : MgtSt → MgtSt) (s : State) : (modMgt f s).free = s.free := rfl
@[simp] theorem modMgt_pending (f : MgtSt → MgtSt) (s : State) : (modMgt f s).pending = s.pending := rfl

/-! ## modNvm -/

@[simp] theorem modNvm_regs (f : NvmSt → NvmSt) (s : State) : (modNvm f s).regs = s.regs := rfl
@[simp] theorem modNvm_shadow (f : NvmSt → NvmSt) (s : State) : (modNvm f s).shadow = s.shadow := rfl
@[simp] theorem modNvm_mem (f : NvmSt → NvmSt) (s : State) : (modNvm f s).mem = s.mem := rfl
@[simp] theorem modNvm_queue (f : NvmSt → NvmSt) (s : State) : (modNvm f s).queue = s.queue := rfl
@[simp] theorem modNvm_boot (f : NvmSt → NvmSt) (s : State) : (modNvm f s).boot = s.boot := rfl
@[simp] theorem modNvm_time (f : NvmSt → NvmSt) (s : State) : (modNvm f s).time = s.time := rfl
@[simp] theorem modNvm_fab (f : NvmSt → NvmSt) (s : State) : (modNvm f s).fab = s.fab := rfl
@[simp] theorem modNvm_coils (f : NvmSt → NvmSt) (s : State) : (modNvm f s).coils = s.coils := rfl
@[simp] theorem modNvm_sess (f : NvmSt → NvmSt) (s : State) : (modNvm f s).sess = s.sess := rfl
@[simp] theorem modNvm_engs (f : NvmSt → NvmSt) (s : State) : (modNvm f s).engs = s.engs := rfl
@[simp] theorem modNvm_players (f : NvmSt → NvmSt) (s : State) : (modNvm f s).players = s.players := rfl
@[simp] theorem modNvm_commit (f : NvmSt → NvmSt) (s : State) : (modNvm f s).commit = s.commit := rfl
@[simp] theorem modNvm_cvu (f : NvmSt → NvmSt) (s : State) : (modNvm f s).cvu = s.cvu := rfl
@[simp] theorem modNvm_gov (f : NvmSt → NvmSt) (s : State) : (modNvm f s).gov = s.gov := rfl
@[simp] theorem modNvm_crocus (f : NvmSt → NvmSt) (s : State) : (modNvm f s).crocus = s.crocus := rfl
@[simp] theorem modNvm_radio (f : NvmSt → NvmSt) (s : State) : (modNvm f s).radio = s.radio := rfl
@[simp] theorem modNvm_rx (f : NvmSt → NvmSt) (s : State) : (modNvm f s).rx = s.rx := rfl
@[simp] theorem modNvm_link (f : NvmSt → NvmSt) (s : State) : (modNvm f s).link = s.link := rfl
@[simp] theorem modNvm_tag (f : NvmSt → NvmSt) (s : State) : (modNvm f s).tag = s.tag := rfl
@[simp] theorem modNvm_pwr (f : NvmSt → NvmSt) (s : State) : (modNvm f s).pwr = s.pwr := rfl
@[simp] theorem modNvm_nvm (f : NvmSt → NvmSt) (s : State) : (modNvm f s).nvm = f s.nvm := rfl
@[simp] theorem modNvm_mgt (f : NvmSt → NvmSt) (s : State) : (modNvm f s).mgt = s.mgt := rfl
@[simp] theorem modNvm_tap (f : NvmSt → NvmSt) (s : State) : (modNvm f s).tap = s.tap := rfl
@[simp] theorem modNvm_heldWrites (f : NvmSt → NvmSt) (s : State) : (modNvm f s).heldWrites = s.heldWrites := rfl
@[simp] theorem modNvm_applied (f : NvmSt → NvmSt) (s : State) : (modNvm f s).applied = s.applied := rfl
@[simp] theorem modNvm_bus (f : NvmSt → NvmSt) (s : State) : (modNvm f s).bus = s.bus := rfl
@[simp] theorem modNvm_dataOut (f : NvmSt → NvmSt) (s : State) : (modNvm f s).dataOut = s.dataOut := rfl
@[simp] theorem modNvm_free (f : NvmSt → NvmSt) (s : State) : (modNvm f s).free = s.free := rfl
@[simp] theorem modNvm_pending (f : NvmSt → NvmSt) (s : State) : (modNvm f s).pending = s.pending := rfl

/-! ## modPwr -/

@[simp] theorem modPwr_regs (f : PwrSt → PwrSt) (s : State) : (modPwr f s).regs = s.regs := rfl
@[simp] theorem modPwr_shadow (f : PwrSt → PwrSt) (s : State) : (modPwr f s).shadow = s.shadow := rfl
@[simp] theorem modPwr_mem (f : PwrSt → PwrSt) (s : State) : (modPwr f s).mem = s.mem := rfl
@[simp] theorem modPwr_queue (f : PwrSt → PwrSt) (s : State) : (modPwr f s).queue = s.queue := rfl
@[simp] theorem modPwr_boot (f : PwrSt → PwrSt) (s : State) : (modPwr f s).boot = s.boot := rfl
@[simp] theorem modPwr_time (f : PwrSt → PwrSt) (s : State) : (modPwr f s).time = s.time := rfl
@[simp] theorem modPwr_fab (f : PwrSt → PwrSt) (s : State) : (modPwr f s).fab = s.fab := rfl
@[simp] theorem modPwr_coils (f : PwrSt → PwrSt) (s : State) : (modPwr f s).coils = s.coils := rfl
@[simp] theorem modPwr_sess (f : PwrSt → PwrSt) (s : State) : (modPwr f s).sess = s.sess := rfl
@[simp] theorem modPwr_engs (f : PwrSt → PwrSt) (s : State) : (modPwr f s).engs = s.engs := rfl
@[simp] theorem modPwr_players (f : PwrSt → PwrSt) (s : State) : (modPwr f s).players = s.players := rfl
@[simp] theorem modPwr_commit (f : PwrSt → PwrSt) (s : State) : (modPwr f s).commit = s.commit := rfl
@[simp] theorem modPwr_cvu (f : PwrSt → PwrSt) (s : State) : (modPwr f s).cvu = s.cvu := rfl
@[simp] theorem modPwr_gov (f : PwrSt → PwrSt) (s : State) : (modPwr f s).gov = s.gov := rfl
@[simp] theorem modPwr_crocus (f : PwrSt → PwrSt) (s : State) : (modPwr f s).crocus = s.crocus := rfl
@[simp] theorem modPwr_radio (f : PwrSt → PwrSt) (s : State) : (modPwr f s).radio = s.radio := rfl
@[simp] theorem modPwr_rx (f : PwrSt → PwrSt) (s : State) : (modPwr f s).rx = s.rx := rfl
@[simp] theorem modPwr_link (f : PwrSt → PwrSt) (s : State) : (modPwr f s).link = s.link := rfl
@[simp] theorem modPwr_tag (f : PwrSt → PwrSt) (s : State) : (modPwr f s).tag = s.tag := rfl
@[simp] theorem modPwr_pwr (f : PwrSt → PwrSt) (s : State) : (modPwr f s).pwr = f s.pwr := rfl
@[simp] theorem modPwr_nvm (f : PwrSt → PwrSt) (s : State) : (modPwr f s).nvm = s.nvm := rfl
@[simp] theorem modPwr_mgt (f : PwrSt → PwrSt) (s : State) : (modPwr f s).mgt = s.mgt := rfl
@[simp] theorem modPwr_tap (f : PwrSt → PwrSt) (s : State) : (modPwr f s).tap = s.tap := rfl
@[simp] theorem modPwr_heldWrites (f : PwrSt → PwrSt) (s : State) : (modPwr f s).heldWrites = s.heldWrites := rfl
@[simp] theorem modPwr_applied (f : PwrSt → PwrSt) (s : State) : (modPwr f s).applied = s.applied := rfl
@[simp] theorem modPwr_bus (f : PwrSt → PwrSt) (s : State) : (modPwr f s).bus = s.bus := rfl
@[simp] theorem modPwr_dataOut (f : PwrSt → PwrSt) (s : State) : (modPwr f s).dataOut = s.dataOut := rfl
@[simp] theorem modPwr_free (f : PwrSt → PwrSt) (s : State) : (modPwr f s).free = s.free := rfl
@[simp] theorem modPwr_pending (f : PwrSt → PwrSt) (s : State) : (modPwr f s).pending = s.pending := rfl

/-! ## modCrocus -/

@[simp] theorem modCrocus_regs (f : CrocusSt → CrocusSt) (s : State) : (modCrocus f s).regs = s.regs := rfl
@[simp] theorem modCrocus_shadow (f : CrocusSt → CrocusSt) (s : State) : (modCrocus f s).shadow = s.shadow := rfl
@[simp] theorem modCrocus_mem (f : CrocusSt → CrocusSt) (s : State) : (modCrocus f s).mem = s.mem := rfl
@[simp] theorem modCrocus_queue (f : CrocusSt → CrocusSt) (s : State) : (modCrocus f s).queue = s.queue := rfl
@[simp] theorem modCrocus_boot (f : CrocusSt → CrocusSt) (s : State) : (modCrocus f s).boot = s.boot := rfl
@[simp] theorem modCrocus_time (f : CrocusSt → CrocusSt) (s : State) : (modCrocus f s).time = s.time := rfl
@[simp] theorem modCrocus_fab (f : CrocusSt → CrocusSt) (s : State) : (modCrocus f s).fab = s.fab := rfl
@[simp] theorem modCrocus_coils (f : CrocusSt → CrocusSt) (s : State) : (modCrocus f s).coils = s.coils := rfl
@[simp] theorem modCrocus_sess (f : CrocusSt → CrocusSt) (s : State) : (modCrocus f s).sess = s.sess := rfl
@[simp] theorem modCrocus_engs (f : CrocusSt → CrocusSt) (s : State) : (modCrocus f s).engs = s.engs := rfl
@[simp] theorem modCrocus_players (f : CrocusSt → CrocusSt) (s : State) : (modCrocus f s).players = s.players := rfl
@[simp] theorem modCrocus_commit (f : CrocusSt → CrocusSt) (s : State) : (modCrocus f s).commit = s.commit := rfl
@[simp] theorem modCrocus_cvu (f : CrocusSt → CrocusSt) (s : State) : (modCrocus f s).cvu = s.cvu := rfl
@[simp] theorem modCrocus_gov (f : CrocusSt → CrocusSt) (s : State) : (modCrocus f s).gov = s.gov := rfl
@[simp] theorem modCrocus_crocus (f : CrocusSt → CrocusSt) (s : State) : (modCrocus f s).crocus = f s.crocus := rfl
@[simp] theorem modCrocus_radio (f : CrocusSt → CrocusSt) (s : State) : (modCrocus f s).radio = s.radio := rfl
@[simp] theorem modCrocus_rx (f : CrocusSt → CrocusSt) (s : State) : (modCrocus f s).rx = s.rx := rfl
@[simp] theorem modCrocus_link (f : CrocusSt → CrocusSt) (s : State) : (modCrocus f s).link = s.link := rfl
@[simp] theorem modCrocus_tag (f : CrocusSt → CrocusSt) (s : State) : (modCrocus f s).tag = s.tag := rfl
@[simp] theorem modCrocus_pwr (f : CrocusSt → CrocusSt) (s : State) : (modCrocus f s).pwr = s.pwr := rfl
@[simp] theorem modCrocus_nvm (f : CrocusSt → CrocusSt) (s : State) : (modCrocus f s).nvm = s.nvm := rfl
@[simp] theorem modCrocus_mgt (f : CrocusSt → CrocusSt) (s : State) : (modCrocus f s).mgt = s.mgt := rfl
@[simp] theorem modCrocus_tap (f : CrocusSt → CrocusSt) (s : State) : (modCrocus f s).tap = s.tap := rfl
@[simp] theorem modCrocus_heldWrites (f : CrocusSt → CrocusSt) (s : State) : (modCrocus f s).heldWrites = s.heldWrites := rfl
@[simp] theorem modCrocus_applied (f : CrocusSt → CrocusSt) (s : State) : (modCrocus f s).applied = s.applied := rfl
@[simp] theorem modCrocus_bus (f : CrocusSt → CrocusSt) (s : State) : (modCrocus f s).bus = s.bus := rfl
@[simp] theorem modCrocus_dataOut (f : CrocusSt → CrocusSt) (s : State) : (modCrocus f s).dataOut = s.dataOut := rfl
@[simp] theorem modCrocus_free (f : CrocusSt → CrocusSt) (s : State) : (modCrocus f s).free = s.free := rfl
@[simp] theorem modCrocus_pending (f : CrocusSt → CrocusSt) (s : State) : (modCrocus f s).pending = s.pending := rfl

/-! ## modTap -/

@[simp] theorem modTap_regs (f : TapSt → TapSt) (s : State) : (modTap f s).regs = s.regs := rfl
@[simp] theorem modTap_shadow (f : TapSt → TapSt) (s : State) : (modTap f s).shadow = s.shadow := rfl
@[simp] theorem modTap_mem (f : TapSt → TapSt) (s : State) : (modTap f s).mem = s.mem := rfl
@[simp] theorem modTap_queue (f : TapSt → TapSt) (s : State) : (modTap f s).queue = s.queue := rfl
@[simp] theorem modTap_boot (f : TapSt → TapSt) (s : State) : (modTap f s).boot = s.boot := rfl
@[simp] theorem modTap_time (f : TapSt → TapSt) (s : State) : (modTap f s).time = s.time := rfl
@[simp] theorem modTap_fab (f : TapSt → TapSt) (s : State) : (modTap f s).fab = s.fab := rfl
@[simp] theorem modTap_coils (f : TapSt → TapSt) (s : State) : (modTap f s).coils = s.coils := rfl
@[simp] theorem modTap_sess (f : TapSt → TapSt) (s : State) : (modTap f s).sess = s.sess := rfl
@[simp] theorem modTap_engs (f : TapSt → TapSt) (s : State) : (modTap f s).engs = s.engs := rfl
@[simp] theorem modTap_players (f : TapSt → TapSt) (s : State) : (modTap f s).players = s.players := rfl
@[simp] theorem modTap_commit (f : TapSt → TapSt) (s : State) : (modTap f s).commit = s.commit := rfl
@[simp] theorem modTap_cvu (f : TapSt → TapSt) (s : State) : (modTap f s).cvu = s.cvu := rfl
@[simp] theorem modTap_gov (f : TapSt → TapSt) (s : State) : (modTap f s).gov = s.gov := rfl
@[simp] theorem modTap_crocus (f : TapSt → TapSt) (s : State) : (modTap f s).crocus = s.crocus := rfl
@[simp] theorem modTap_radio (f : TapSt → TapSt) (s : State) : (modTap f s).radio = s.radio := rfl
@[simp] theorem modTap_rx (f : TapSt → TapSt) (s : State) : (modTap f s).rx = s.rx := rfl
@[simp] theorem modTap_link (f : TapSt → TapSt) (s : State) : (modTap f s).link = s.link := rfl
@[simp] theorem modTap_tag (f : TapSt → TapSt) (s : State) : (modTap f s).tag = s.tag := rfl
@[simp] theorem modTap_pwr (f : TapSt → TapSt) (s : State) : (modTap f s).pwr = s.pwr := rfl
@[simp] theorem modTap_nvm (f : TapSt → TapSt) (s : State) : (modTap f s).nvm = s.nvm := rfl
@[simp] theorem modTap_mgt (f : TapSt → TapSt) (s : State) : (modTap f s).mgt = s.mgt := rfl
@[simp] theorem modTap_tap (f : TapSt → TapSt) (s : State) : (modTap f s).tap = f s.tap := rfl
@[simp] theorem modTap_heldWrites (f : TapSt → TapSt) (s : State) : (modTap f s).heldWrites = s.heldWrites := rfl
@[simp] theorem modTap_applied (f : TapSt → TapSt) (s : State) : (modTap f s).applied = s.applied := rfl
@[simp] theorem modTap_bus (f : TapSt → TapSt) (s : State) : (modTap f s).bus = s.bus := rfl
@[simp] theorem modTap_dataOut (f : TapSt → TapSt) (s : State) : (modTap f s).dataOut = s.dataOut := rfl
@[simp] theorem modTap_free (f : TapSt → TapSt) (s : State) : (modTap f s).free = s.free := rfl
@[simp] theorem modTap_pending (f : TapSt → TapSt) (s : State) : (modTap f s).pending = s.pending := rfl

end Sys2Proof.Laws
end

