-- ==== Sys2Proof/Laws/Ops.lean ====
section
/-! SUPPORT. The laws of the named operations: what a read of a register, a shadow, a byte or a unit's state gives after each
update, and that the updates keep the canonical form. -/

namespace Sys2Proof.Laws

open Sys2Proof.Machine

/-! ## Reads after an update of another part -/

@[simp] theorem setReg_shade (a : Nat) (w : Word) (x : Nat) (s : State) : (setReg a w s).shade x = s.shade x := rfl
@[simp] theorem setReg_byte (a : Nat) (w : Word) (x : Nat) (s : State) : (setReg a w s).byte x = s.byte x := rfl
@[simp] theorem setReg_coil (a : Nat) (w : Word) (x : Nat) (s : State) : (setReg a w s).coil x = s.coil x := rfl
@[simp] theorem setReg_eng (a : Nat) (w : Word) (x : Nat) (s : State) : (setReg a w s).eng x = s.eng x := rfl
@[simp] theorem setReg_player (a : Nat) (w : Word) (x : Nat) (s : State) : (setReg a w s).player x = s.player x := rfl
@[simp] theorem setReg_now (a : Nat) (w : Word) (s : State) : (setReg a w s).now = s.now := rfl
@[simp] theorem setShade_reg (a : Nat) (w : Word) (x : Nat) (s : State) : (setShade a w s).reg x = s.reg x := rfl
@[simp] theorem setShade_byte (a : Nat) (w : Word) (x : Nat) (s : State) : (setShade a w s).byte x = s.byte x := rfl
@[simp] theorem setShade_rf (a : Nat) (w : Word) (x hi lo : Nat) (s : State) : (setShade a w s).rf x hi lo = s.rf x hi lo := rfl
@[simp] theorem setShade_rb (a : Nat) (w : Word) (x j : Nat) (s : State) : (setShade a w s).rb x j = s.rb x j := rfl
@[simp] theorem setShade_coil (a : Nat) (w : Word) (x : Nat) (s : State) : (setShade a w s).coil x = s.coil x := rfl
@[simp] theorem setShade_eng (a : Nat) (w : Word) (x : Nat) (s : State) : (setShade a w s).eng x = s.eng x := rfl
@[simp] theorem setShade_player (a : Nat) (w : Word) (x : Nat) (s : State) : (setShade a w s).player x = s.player x := rfl
@[simp] theorem setShade_now (a : Nat) (w : Word) (s : State) : (setShade a w s).now = s.now := rfl
@[simp] theorem setByte_reg (a : Nat) (b : Byte) (x : Nat) (s : State) : (setByte a b s).reg x = s.reg x := rfl
@[simp] theorem setByte_shade (a : Nat) (b : Byte) (x : Nat) (s : State) : (setByte a b s).shade x = s.shade x := rfl
@[simp] theorem setByte_rf (a : Nat) (b : Byte) (x hi lo : Nat) (s : State) : (setByte a b s).rf x hi lo = s.rf x hi lo := rfl
@[simp] theorem setByte_rb (a : Nat) (b : Byte) (x j : Nat) (s : State) : (setByte a b s).rb x j = s.rb x j := rfl
@[simp] theorem setByte_coil (a : Nat) (b : Byte) (x : Nat) (s : State) : (setByte a b s).coil x = s.coil x := rfl
@[simp] theorem setByte_eng (a : Nat) (b : Byte) (x : Nat) (s : State) : (setByte a b s).eng x = s.eng x := rfl
@[simp] theorem setByte_player (a : Nat) (b : Byte) (x : Nat) (s : State) : (setByte a b s).player x = s.player x := rfl
@[simp] theorem setByte_now (a : Nat) (b : Byte) (s : State) : (setByte a b s).now = s.now := rfl
@[simp] theorem setCoil_reg (n : Nat) (c : Coil) (x : Nat) (s : State) : (setCoil n c s).reg x = s.reg x := rfl
@[simp] theorem setCoil_shade (n : Nat) (c : Coil) (x : Nat) (s : State) : (setCoil n c s).shade x = s.shade x := rfl
@[simp] theorem setCoil_byte (n : Nat) (c : Coil) (x : Nat) (s : State) : (setCoil n c s).byte x = s.byte x := rfl
@[simp] theorem setCoil_rf (n : Nat) (c : Coil) (x hi lo : Nat) (s : State) : (setCoil n c s).rf x hi lo = s.rf x hi lo := rfl
@[simp] theorem setCoil_rb (n : Nat) (c : Coil) (x j : Nat) (s : State) : (setCoil n c s).rb x j = s.rb x j := rfl
@[simp] theorem setCoil_eng (n : Nat) (c : Coil) (x : Nat) (s : State) : (setCoil n c s).eng x = s.eng x := rfl
@[simp] theorem setCoil_player (n : Nat) (c : Coil) (x : Nat) (s : State) : (setCoil n c s).player x = s.player x := rfl
@[simp] theorem setCoil_now (n : Nat) (c : Coil) (s : State) : (setCoil n c s).now = s.now := rfl
@[simp] theorem setEng_reg (n : Nat) (e : Eng) (x : Nat) (s : State) : (setEng n e s).reg x = s.reg x := rfl
@[simp] theorem setEng_shade (n : Nat) (e : Eng) (x : Nat) (s : State) : (setEng n e s).shade x = s.shade x := rfl
@[simp] theorem setEng_byte (n : Nat) (e : Eng) (x : Nat) (s : State) : (setEng n e s).byte x = s.byte x := rfl
@[simp] theorem setEng_rf (n : Nat) (e : Eng) (x hi lo : Nat) (s : State) : (setEng n e s).rf x hi lo = s.rf x hi lo := rfl
@[simp] theorem setEng_rb (n : Nat) (e : Eng) (x j : Nat) (s : State) : (setEng n e s).rb x j = s.rb x j := rfl
@[simp] theorem setEng_coil (n : Nat) (e : Eng) (x : Nat) (s : State) : (setEng n e s).coil x = s.coil x := rfl
@[simp] theorem setEng_player (n : Nat) (e : Eng) (x : Nat) (s : State) : (setEng n e s).player x = s.player x := rfl
@[simp] theorem setEng_now (n : Nat) (e : Eng) (s : State) : (setEng n e s).now = s.now := rfl
@[simp] theorem setPlayer_reg (k : Nat) (p : Player) (x : Nat) (s : State) : (setPlayer k p s).reg x = s.reg x := rfl
@[simp] theorem setPlayer_shade (k : Nat) (p : Player) (x : Nat) (s : State) : (setPlayer k p s).shade x = s.shade x := rfl
@[simp] theorem setPlayer_byte (k : Nat) (p : Player) (x : Nat) (s : State) : (setPlayer k p s).byte x = s.byte x := rfl
@[simp] theorem setPlayer_rf (k : Nat) (p : Player) (x hi lo : Nat) (s : State) : (setPlayer k p s).rf x hi lo = s.rf x hi lo := rfl
@[simp] theorem setPlayer_rb (k : Nat) (p : Player) (x j : Nat) (s : State) : (setPlayer k p s).rb x j = s.rb x j := rfl
@[simp] theorem setPlayer_coil (k : Nat) (p : Player) (x : Nat) (s : State) : (setPlayer k p s).coil x = s.coil x := rfl
@[simp] theorem setPlayer_eng (k : Nat) (p : Player) (x : Nat) (s : State) : (setPlayer k p s).eng x = s.eng x := rfl
@[simp] theorem setPlayer_now (k : Nat) (p : Player) (s : State) : (setPlayer k p s).now = s.now := rfl
@[simp] theorem nextFree_reg (x : Nat) (s : State) : (nextFree s).reg x = s.reg x := rfl
@[simp] theorem nextFree_shade (x : Nat) (s : State) : (nextFree s).shade x = s.shade x := rfl
@[simp] theorem nextFree_byte (x : Nat) (s : State) : (nextFree s).byte x = s.byte x := rfl
@[simp] theorem nextFree_rf (x hi lo : Nat) (s : State) : (nextFree s).rf x hi lo = s.rf x hi lo := rfl
@[simp] theorem nextFree_rb (x j : Nat) (s : State) : (nextFree s).rb x j = s.rb x j := rfl
@[simp] theorem nextFree_coil (x : Nat) (s : State) : (nextFree s).coil x = s.coil x := rfl
@[simp] theorem nextFree_eng (x : Nat) (s : State) : (nextFree s).eng x = s.eng x := rfl
@[simp] theorem nextFree_player (x : Nat) (s : State) : (nextFree s).player x = s.player x := rfl
@[simp] theorem nextFree_now (s : State) : (nextFree s).now = s.now := rfl
@[simp] theorem advance_reg (t : Nat) (x : Nat) (s : State) : (advance t s).reg x = s.reg x := rfl
@[simp] theorem advance_shade (t : Nat) (x : Nat) (s : State) : (advance t s).shade x = s.shade x := rfl
@[simp] theorem advance_byte (t : Nat) (x : Nat) (s : State) : (advance t s).byte x = s.byte x := rfl
@[simp] theorem advance_rf (t : Nat) (x hi lo : Nat) (s : State) : (advance t s).rf x hi lo = s.rf x hi lo := rfl
@[simp] theorem advance_rb (t : Nat) (x j : Nat) (s : State) : (advance t s).rb x j = s.rb x j := rfl
@[simp] theorem advance_coil (t : Nat) (x : Nat) (s : State) : (advance t s).coil x = s.coil x := rfl
@[simp] theorem advance_eng (t : Nat) (x : Nat) (s : State) : (advance t s).eng x = s.eng x := rfl
@[simp] theorem advance_player (t : Nat) (x : Nat) (s : State) : (advance t s).player x = s.player x := rfl
@[simp] theorem modSess_reg (f : SessSt → SessSt) (x : Nat) (s : State) : (modSess f s).reg x = s.reg x := rfl
@[simp] theorem modSess_shade (f : SessSt → SessSt) (x : Nat) (s : State) : (modSess f s).shade x = s.shade x := rfl
@[simp] theorem modSess_byte (f : SessSt → SessSt) (x : Nat) (s : State) : (modSess f s).byte x = s.byte x := rfl
@[simp] theorem modSess_rf (f : SessSt → SessSt) (x hi lo : Nat) (s : State) : (modSess f s).rf x hi lo = s.rf x hi lo := rfl
@[simp] theorem modSess_rb (f : SessSt → SessSt) (x j : Nat) (s : State) : (modSess f s).rb x j = s.rb x j := rfl
@[simp] theorem modSess_coil (f : SessSt → SessSt) (x : Nat) (s : State) : (modSess f s).coil x = s.coil x := rfl
@[simp] theorem modSess_eng (f : SessSt → SessSt) (x : Nat) (s : State) : (modSess f s).eng x = s.eng x := rfl
@[simp] theorem modSess_player (f : SessSt → SessSt) (x : Nat) (s : State) : (modSess f s).player x = s.player x := rfl
@[simp] theorem modSess_now (f : SessSt → SessSt) (s : State) : (modSess f s).now = s.now := rfl
@[simp] theorem modQueue_reg (f : QueueSt → QueueSt) (x : Nat) (s : State) : (modQueue f s).reg x = s.reg x := rfl
@[simp] theorem modQueue_shade (f : QueueSt → QueueSt) (x : Nat) (s : State) : (modQueue f s).shade x = s.shade x := rfl
@[simp] theorem modQueue_byte (f : QueueSt → QueueSt) (x : Nat) (s : State) : (modQueue f s).byte x = s.byte x := rfl
@[simp] theorem modQueue_rf (f : QueueSt → QueueSt) (x hi lo : Nat) (s : State) : (modQueue f s).rf x hi lo = s.rf x hi lo := rfl
@[simp] theorem modQueue_rb (f : QueueSt → QueueSt) (x j : Nat) (s : State) : (modQueue f s).rb x j = s.rb x j := rfl
@[simp] theorem modQueue_coil (f : QueueSt → QueueSt) (x : Nat) (s : State) : (modQueue f s).coil x = s.coil x := rfl
@[simp] theorem modQueue_eng (f : QueueSt → QueueSt) (x : Nat) (s : State) : (modQueue f s).eng x = s.eng x := rfl
@[simp] theorem modQueue_player (f : QueueSt → QueueSt) (x : Nat) (s : State) : (modQueue f s).player x = s.player x := rfl
@[simp] theorem modQueue_now (f : QueueSt → QueueSt) (s : State) : (modQueue f s).now = s.now := rfl
@[simp] theorem modBoot_reg (f : BootSt → BootSt) (x : Nat) (s : State) : (modBoot f s).reg x = s.reg x := rfl
@[simp] theorem modBoot_shade (f : BootSt → BootSt) (x : Nat) (s : State) : (modBoot f s).shade x = s.shade x := rfl
@[simp] theorem modBoot_byte (f : BootSt → BootSt) (x : Nat) (s : State) : (modBoot f s).byte x = s.byte x := rfl
@[simp] theorem modBoot_rf (f : BootSt → BootSt) (x hi lo : Nat) (s : State) : (modBoot f s).rf x hi lo = s.rf x hi lo := rfl
@[simp] theorem modBoot_rb (f : BootSt → BootSt) (x j : Nat) (s : State) : (modBoot f s).rb x j = s.rb x j := rfl
@[simp] theorem modBoot_coil (f : BootSt → BootSt) (x : Nat) (s : State) : (modBoot f s).coil x = s.coil x := rfl
@[simp] theorem modBoot_eng (f : BootSt → BootSt) (x : Nat) (s : State) : (modBoot f s).eng x = s.eng x := rfl
@[simp] theorem modBoot_player (f : BootSt → BootSt) (x : Nat) (s : State) : (modBoot f s).player x = s.player x := rfl
@[simp] theorem modBoot_now (f : BootSt → BootSt) (s : State) : (modBoot f s).now = s.now := rfl
@[simp] theorem modTime_reg (f : TimeSt → TimeSt) (x : Nat) (s : State) : (modTime f s).reg x = s.reg x := rfl
@[simp] theorem modTime_shade (f : TimeSt → TimeSt) (x : Nat) (s : State) : (modTime f s).shade x = s.shade x := rfl
@[simp] theorem modTime_byte (f : TimeSt → TimeSt) (x : Nat) (s : State) : (modTime f s).byte x = s.byte x := rfl
@[simp] theorem modTime_rf (f : TimeSt → TimeSt) (x hi lo : Nat) (s : State) : (modTime f s).rf x hi lo = s.rf x hi lo := rfl
@[simp] theorem modTime_rb (f : TimeSt → TimeSt) (x j : Nat) (s : State) : (modTime f s).rb x j = s.rb x j := rfl
@[simp] theorem modTime_coil (f : TimeSt → TimeSt) (x : Nat) (s : State) : (modTime f s).coil x = s.coil x := rfl
@[simp] theorem modTime_eng (f : TimeSt → TimeSt) (x : Nat) (s : State) : (modTime f s).eng x = s.eng x := rfl
@[simp] theorem modTime_player (f : TimeSt → TimeSt) (x : Nat) (s : State) : (modTime f s).player x = s.player x := rfl
@[simp] theorem modFab_reg (f : FabricSt → FabricSt) (x : Nat) (s : State) : (modFab f s).reg x = s.reg x := rfl
@[simp] theorem modFab_shade (f : FabricSt → FabricSt) (x : Nat) (s : State) : (modFab f s).shade x = s.shade x := rfl
@[simp] theorem modFab_byte (f : FabricSt → FabricSt) (x : Nat) (s : State) : (modFab f s).byte x = s.byte x := rfl
@[simp] theorem modFab_rf (f : FabricSt → FabricSt) (x hi lo : Nat) (s : State) : (modFab f s).rf x hi lo = s.rf x hi lo := rfl
@[simp] theorem modFab_rb (f : FabricSt → FabricSt) (x j : Nat) (s : State) : (modFab f s).rb x j = s.rb x j := rfl
@[simp] theorem modFab_coil (f : FabricSt → FabricSt) (x : Nat) (s : State) : (modFab f s).coil x = s.coil x := rfl
@[simp] theorem modFab_eng (f : FabricSt → FabricSt) (x : Nat) (s : State) : (modFab f s).eng x = s.eng x := rfl
@[simp] theorem modFab_player (f : FabricSt → FabricSt) (x : Nat) (s : State) : (modFab f s).player x = s.player x := rfl
@[simp] theorem modFab_now (f : FabricSt → FabricSt) (s : State) : (modFab f s).now = s.now := rfl
@[simp] theorem modRadio_reg (f : RadioSt → RadioSt) (x : Nat) (s : State) : (modRadio f s).reg x = s.reg x := rfl
@[simp] theorem modRadio_shade (f : RadioSt → RadioSt) (x : Nat) (s : State) : (modRadio f s).shade x = s.shade x := rfl
@[simp] theorem modRadio_byte (f : RadioSt → RadioSt) (x : Nat) (s : State) : (modRadio f s).byte x = s.byte x := rfl
@[simp] theorem modRadio_rf (f : RadioSt → RadioSt) (x hi lo : Nat) (s : State) : (modRadio f s).rf x hi lo = s.rf x hi lo := rfl
@[simp] theorem modRadio_rb (f : RadioSt → RadioSt) (x j : Nat) (s : State) : (modRadio f s).rb x j = s.rb x j := rfl
@[simp] theorem modRadio_coil (f : RadioSt → RadioSt) (x : Nat) (s : State) : (modRadio f s).coil x = s.coil x := rfl
@[simp] theorem modRadio_eng (f : RadioSt → RadioSt) (x : Nat) (s : State) : (modRadio f s).eng x = s.eng x := rfl
@[simp] theorem modRadio_player (f : RadioSt → RadioSt) (x : Nat) (s : State) : (modRadio f s).player x = s.player x := rfl
@[simp] theorem modRadio_now (f : RadioSt → RadioSt) (s : State) : (modRadio f s).now = s.now := rfl
@[simp] theorem modRx_reg (f : RxSt → RxSt) (x : Nat) (s : State) : (modRx f s).reg x = s.reg x := rfl
@[simp] theorem modRx_shade (f : RxSt → RxSt) (x : Nat) (s : State) : (modRx f s).shade x = s.shade x := rfl
@[simp] theorem modRx_byte (f : RxSt → RxSt) (x : Nat) (s : State) : (modRx f s).byte x = s.byte x := rfl
@[simp] theorem modRx_rf (f : RxSt → RxSt) (x hi lo : Nat) (s : State) : (modRx f s).rf x hi lo = s.rf x hi lo := rfl
@[simp] theorem modRx_rb (f : RxSt → RxSt) (x j : Nat) (s : State) : (modRx f s).rb x j = s.rb x j := rfl
@[simp] theorem modRx_coil (f : RxSt → RxSt) (x : Nat) (s : State) : (modRx f s).coil x = s.coil x := rfl
@[simp] theorem modRx_eng (f : RxSt → RxSt) (x : Nat) (s : State) : (modRx f s).eng x = s.eng x := rfl
@[simp] theorem modRx_player (f : RxSt → RxSt) (x : Nat) (s : State) : (modRx f s).player x = s.player x := rfl
@[simp] theorem modRx_now (f : RxSt → RxSt) (s : State) : (modRx f s).now = s.now := rfl
@[simp] theorem modLink_reg (f : LinkSt → LinkSt) (x : Nat) (s : State) : (modLink f s).reg x = s.reg x := rfl
@[simp] theorem modLink_shade (f : LinkSt → LinkSt) (x : Nat) (s : State) : (modLink f s).shade x = s.shade x := rfl
@[simp] theorem modLink_byte (f : LinkSt → LinkSt) (x : Nat) (s : State) : (modLink f s).byte x = s.byte x := rfl
@[simp] theorem modLink_rf (f : LinkSt → LinkSt) (x hi lo : Nat) (s : State) : (modLink f s).rf x hi lo = s.rf x hi lo := rfl
@[simp] theorem modLink_rb (f : LinkSt → LinkSt) (x j : Nat) (s : State) : (modLink f s).rb x j = s.rb x j := rfl
@[simp] theorem modLink_coil (f : LinkSt → LinkSt) (x : Nat) (s : State) : (modLink f s).coil x = s.coil x := rfl
@[simp] theorem modLink_eng (f : LinkSt → LinkSt) (x : Nat) (s : State) : (modLink f s).eng x = s.eng x := rfl
@[simp] theorem modLink_player (f : LinkSt → LinkSt) (x : Nat) (s : State) : (modLink f s).player x = s.player x := rfl
@[simp] theorem modLink_now (f : LinkSt → LinkSt) (s : State) : (modLink f s).now = s.now := rfl
@[simp] theorem modTag_reg (f : TagSt → TagSt) (x : Nat) (s : State) : (modTag f s).reg x = s.reg x := rfl
@[simp] theorem modTag_shade (f : TagSt → TagSt) (x : Nat) (s : State) : (modTag f s).shade x = s.shade x := rfl
@[simp] theorem modTag_byte (f : TagSt → TagSt) (x : Nat) (s : State) : (modTag f s).byte x = s.byte x := rfl
@[simp] theorem modTag_rf (f : TagSt → TagSt) (x hi lo : Nat) (s : State) : (modTag f s).rf x hi lo = s.rf x hi lo := rfl
@[simp] theorem modTag_rb (f : TagSt → TagSt) (x j : Nat) (s : State) : (modTag f s).rb x j = s.rb x j := rfl
@[simp] theorem modTag_coil (f : TagSt → TagSt) (x : Nat) (s : State) : (modTag f s).coil x = s.coil x := rfl
@[simp] theorem modTag_eng (f : TagSt → TagSt) (x : Nat) (s : State) : (modTag f s).eng x = s.eng x := rfl
@[simp] theorem modTag_player (f : TagSt → TagSt) (x : Nat) (s : State) : (modTag f s).player x = s.player x := rfl
@[simp] theorem modTag_now (f : TagSt → TagSt) (s : State) : (modTag f s).now = s.now := rfl
@[simp] theorem modMgt_reg (f : MgtSt → MgtSt) (x : Nat) (s : State) : (modMgt f s).reg x = s.reg x := rfl
@[simp] theorem modMgt_shade (f : MgtSt → MgtSt) (x : Nat) (s : State) : (modMgt f s).shade x = s.shade x := rfl
@[simp] theorem modMgt_byte (f : MgtSt → MgtSt) (x : Nat) (s : State) : (modMgt f s).byte x = s.byte x := rfl
@[simp] theorem modMgt_rf (f : MgtSt → MgtSt) (x hi lo : Nat) (s : State) : (modMgt f s).rf x hi lo = s.rf x hi lo := rfl
@[simp] theorem modMgt_rb (f : MgtSt → MgtSt) (x j : Nat) (s : State) : (modMgt f s).rb x j = s.rb x j := rfl
@[simp] theorem modMgt_coil (f : MgtSt → MgtSt) (x : Nat) (s : State) : (modMgt f s).coil x = s.coil x := rfl
@[simp] theorem modMgt_eng (f : MgtSt → MgtSt) (x : Nat) (s : State) : (modMgt f s).eng x = s.eng x := rfl
@[simp] theorem modMgt_player (f : MgtSt → MgtSt) (x : Nat) (s : State) : (modMgt f s).player x = s.player x := rfl
@[simp] theorem modMgt_now (f : MgtSt → MgtSt) (s : State) : (modMgt f s).now = s.now := rfl
@[simp] theorem modNvm_reg (f : NvmSt → NvmSt) (x : Nat) (s : State) : (modNvm f s).reg x = s.reg x := rfl
@[simp] theorem modNvm_shade (f : NvmSt → NvmSt) (x : Nat) (s : State) : (modNvm f s).shade x = s.shade x := rfl
@[simp] theorem modNvm_byte (f : NvmSt → NvmSt) (x : Nat) (s : State) : (modNvm f s).byte x = s.byte x := rfl
@[simp] theorem modNvm_rf (f : NvmSt → NvmSt) (x hi lo : Nat) (s : State) : (modNvm f s).rf x hi lo = s.rf x hi lo := rfl
@[simp] theorem modNvm_rb (f : NvmSt → NvmSt) (x j : Nat) (s : State) : (modNvm f s).rb x j = s.rb x j := rfl
@[simp] theorem modNvm_coil (f : NvmSt → NvmSt) (x : Nat) (s : State) : (modNvm f s).coil x = s.coil x := rfl
@[simp] theorem modNvm_eng (f : NvmSt → NvmSt) (x : Nat) (s : State) : (modNvm f s).eng x = s.eng x := rfl
@[simp] theorem modNvm_player (f : NvmSt → NvmSt) (x : Nat) (s : State) : (modNvm f s).player x = s.player x := rfl
@[simp] theorem modNvm_now (f : NvmSt → NvmSt) (s : State) : (modNvm f s).now = s.now := rfl
@[simp] theorem modPwr_reg (f : PwrSt → PwrSt) (x : Nat) (s : State) : (modPwr f s).reg x = s.reg x := rfl
@[simp] theorem modPwr_shade (f : PwrSt → PwrSt) (x : Nat) (s : State) : (modPwr f s).shade x = s.shade x := rfl
@[simp] theorem modPwr_byte (f : PwrSt → PwrSt) (x : Nat) (s : State) : (modPwr f s).byte x = s.byte x := rfl
@[simp] theorem modPwr_rf (f : PwrSt → PwrSt) (x hi lo : Nat) (s : State) : (modPwr f s).rf x hi lo = s.rf x hi lo := rfl
@[simp] theorem modPwr_rb (f : PwrSt → PwrSt) (x j : Nat) (s : State) : (modPwr f s).rb x j = s.rb x j := rfl
@[simp] theorem modPwr_coil (f : PwrSt → PwrSt) (x : Nat) (s : State) : (modPwr f s).coil x = s.coil x := rfl
@[simp] theorem modPwr_eng (f : PwrSt → PwrSt) (x : Nat) (s : State) : (modPwr f s).eng x = s.eng x := rfl
@[simp] theorem modPwr_player (f : PwrSt → PwrSt) (x : Nat) (s : State) : (modPwr f s).player x = s.player x := rfl
@[simp] theorem modPwr_now (f : PwrSt → PwrSt) (s : State) : (modPwr f s).now = s.now := rfl
@[simp] theorem modCrocus_reg (f : CrocusSt → CrocusSt) (x : Nat) (s : State) : (modCrocus f s).reg x = s.reg x := rfl
@[simp] theorem modCrocus_shade (f : CrocusSt → CrocusSt) (x : Nat) (s : State) : (modCrocus f s).shade x = s.shade x := rfl
@[simp] theorem modCrocus_byte (f : CrocusSt → CrocusSt) (x : Nat) (s : State) : (modCrocus f s).byte x = s.byte x := rfl
@[simp] theorem modCrocus_rf (f : CrocusSt → CrocusSt) (x hi lo : Nat) (s : State) : (modCrocus f s).rf x hi lo = s.rf x hi lo := rfl
@[simp] theorem modCrocus_rb (f : CrocusSt → CrocusSt) (x j : Nat) (s : State) : (modCrocus f s).rb x j = s.rb x j := rfl
@[simp] theorem modCrocus_coil (f : CrocusSt → CrocusSt) (x : Nat) (s : State) : (modCrocus f s).coil x = s.coil x := rfl
@[simp] theorem modCrocus_eng (f : CrocusSt → CrocusSt) (x : Nat) (s : State) : (modCrocus f s).eng x = s.eng x := rfl
@[simp] theorem modCrocus_player (f : CrocusSt → CrocusSt) (x : Nat) (s : State) : (modCrocus f s).player x = s.player x := rfl
@[simp] theorem modCrocus_now (f : CrocusSt → CrocusSt) (s : State) : (modCrocus f s).now = s.now := rfl
@[simp] theorem modTap_reg (f : TapSt → TapSt) (x : Nat) (s : State) : (modTap f s).reg x = s.reg x := rfl
@[simp] theorem modTap_shade (f : TapSt → TapSt) (x : Nat) (s : State) : (modTap f s).shade x = s.shade x := rfl
@[simp] theorem modTap_byte (f : TapSt → TapSt) (x : Nat) (s : State) : (modTap f s).byte x = s.byte x := rfl
@[simp] theorem modTap_rf (f : TapSt → TapSt) (x hi lo : Nat) (s : State) : (modTap f s).rf x hi lo = s.rf x hi lo := rfl
@[simp] theorem modTap_rb (f : TapSt → TapSt) (x j : Nat) (s : State) : (modTap f s).rb x j = s.rb x j := rfl
@[simp] theorem modTap_coil (f : TapSt → TapSt) (x : Nat) (s : State) : (modTap f s).coil x = s.coil x := rfl
@[simp] theorem modTap_eng (f : TapSt → TapSt) (x : Nat) (s : State) : (modTap f s).eng x = s.eng x := rfl
@[simp] theorem modTap_player (f : TapSt → TapSt) (x : Nat) (s : State) : (modTap f s).player x = s.player x := rfl
@[simp] theorem modTap_now (f : TapSt → TapSt) (s : State) : (modTap f s).now = s.now := rfl

/-! ## Registers -/

/-- A register reads as it was written. -/
@[simp] theorem setReg_reg_eq (a : Nat) (w : Word) (s : State) : (setReg a w s).reg a = w := by
  simp [State.reg, setReg]

/-- A write leaves every other register. -/
theorem setReg_reg_ne {a x : Nat} (h : x ≠ a) (w : Word) (s : State) : (setReg a w s).reg x = s.reg x := by
  simp [State.reg, setReg, sparse_get_put_ne _ _ _ h]

/-- A shadow reads as it was written. -/
@[simp] theorem setShade_shade_eq (a : Nat) (w : Word) (s : State) : (setShade a w s).shade a = w := by
  simp [State.shade, setShade]

theorem setShade_shade_ne {a x : Nat} (h : x ≠ a) (w : Word) (s : State) : (setShade a w s).shade x = s.shade x := by
  simp [State.shade, setShade, sparse_get_put_ne _ _ _ h]

/-- A byte reads as it was written. -/
@[simp] theorem setByte_byte_eq (a : Nat) (b : Byte) (s : State) : (setByte a b s).byte a = b := by
  simp [State.byte, setByte]

/-- A write leaves every other byte. -/
theorem setByte_byte_ne {a x : Nat} (h : x ≠ a) (b : Byte) (s : State) : (setByte a b s).byte x = s.byte x := by
  simp [State.byte, setByte, sparse_get_put_ne _ _ _ h]

/-- Bytes outside the written run are as before. -/
theorem setBytes_byte_ne (l : List Byte) {a x : Nat} (h : x < a ∨ a + l.length ≤ x) (s : State) :
    (setBytes a l s).byte x = s.byte x := by
  induction l generalizing a s with
  | nil => rfl
  | cons b t ih =>
    simp only [List.length_cons] at h
    rw [setBytes, ih (by omega), setByte_byte_ne (by omega)]

/-- A run of bytes leaves the registers. -/
@[simp] theorem setBytes_regs (l : List Byte) (a : Nat) (s : State) : (setBytes a l s).regs = s.regs := by
  induction l generalizing a s with
  | nil => rfl
  | cons b t ih => rw [setBytes, ih]; rfl

/-- A field written leaves every other register. -/
theorem setRf_reg_ne {a x : Nat} (h : x ≠ a) (hi lo v : Nat) (s : State) : (setRf a hi lo v s).reg x = s.reg x :=
  setReg_reg_ne h _ s

theorem setRb_reg_ne {a x : Nat} (h : x ≠ a) (k : Nat) (b : Bool) (s : State) : (setRb a k b s).reg x = s.reg x :=
  setReg_reg_ne h _ s

theorem addRf_reg_ne {a x : Nat} (h : x ≠ a) (hi lo n : Nat) (s : State) : (addRf a hi lo n s).reg x = s.reg x :=
  setReg_reg_ne h _ s

theorem wrapRf_reg_ne {a x : Nat} (h : x ≠ a) (hi lo n : Nat) (s : State) : (wrapRf a hi lo n s).reg x = s.reg x :=
  setReg_reg_ne h _ s

theorem setPair_reg_ne {a x : Nat} (h : x ≠ a) (h' : x ≠ a + 4) (v : Nat) (s : State) :
    (setPair a v s).reg x = s.reg x := by
  rw [setPair, setReg_reg_ne h', setReg_reg_ne h]

/-- A field reads as it was written, modulo its width. -/
theorem setRf_rf_eq {hi : Nat} (h : hi < 32) (a lo v : Nat) (s : State) :
    (setRf a hi lo v s).rf a hi lo = v % 2 ^ (hi + 1 - lo) := by
  simp [State.rf, setRf, fld_setFld_eq _ _ h]

/-- A bit reads as it was written. -/
theorem setRb_rb_eq {k : Nat} (h : k < 32) (a : Nat) (b : Bool) (s : State) : (setRb a k b s).rb a k = b := by
  simp [State.rb, setRb, bit_setBit_eq _ _ h]

/-- A bit other than the one written is as before. -/
theorem setRb_rb_ne {k j : Nat} (h : j < 32) (hk : j ≠ k) (a : Nat) (b : Bool) (s : State) :
    (setRb a k b s).rb a j = s.rb a j := by
  simp [State.rb, setRb, bit_setBit_ne _ _ h hk]

/-! ## The units' states -/

@[simp] theorem setCoil_coil_eq (n : Nat) (c : Coil) (s : State) : (setCoil n c s).coil n = c := by
  simp [State.coil, setCoil, tabGet, tabSet]

theorem setCoil_coil_ne {n x : Nat} (h : x ≠ n) (c : Coil) (s : State) : (setCoil n c s).coil x = s.coil x := by
  simp [State.coil, setCoil, tabGet, tabSet, sparse_get_put_ne _ _ _ h]

@[simp] theorem setEng_eng_eq (n : Nat) (e : Eng) (s : State) : (setEng n e s).eng n = e := by
  simp [State.eng, setEng, tabGet, tabSet]

theorem setEng_eng_ne {n x : Nat} (h : x ≠ n) (e : Eng) (s : State) : (setEng n e s).eng x = s.eng x := by
  simp [State.eng, setEng, tabGet, tabSet, sparse_get_put_ne _ _ _ h]

@[simp] theorem setPlayer_player_eq (k : Nat) (p : Player) (s : State) : (setPlayer k p s).player k = p := by
  simp [State.player, setPlayer, tabGet, tabSet]

theorem setPlayer_player_ne {k x : Nat} (h : x ≠ k) (p : Player) (s : State) : (setPlayer k p s).player x = s.player x := by
  simp [State.player, setPlayer, tabGet, tabSet, sparse_get_put_ne _ _ _ h]

/-! ## The canonical form -/

theorem wf_of_parts {s t : State} (h1 : t.regs = s.regs) (h2 : t.shadow = s.shadow) (h3 : t.mem = s.mem)
    (h : s.wf = true) : t.wf = true := by
  simpa only [State.wf, h1, h2, h3] using h

/-- A register write keeps the canonical form. -/
theorem setReg_wf (a : Nat) (w : Word) {s : State} (h : s.wf = true) : (setReg a w s).wf = true := by
  simp only [State.wf, Bool.and_eq_true, setReg_shadow, setReg_mem] at *
  exact ⟨⟨sparse_wf_put _ _ _ h.1.1, h.1.2⟩, h.2⟩

/-- A write of a shadow keeps the canonical form. -/
theorem setShade_wf (a : Nat) (w : Word) {s : State} (h : s.wf = true) : (setShade a w s).wf = true := by
  simp only [State.wf, Bool.and_eq_true, setShade_regs, setShade_mem] at *
  exact ⟨⟨h.1.1, sparse_wf_put _ _ _ h.1.2⟩, h.2⟩

/-- A write of a byte keeps the canonical form. -/
theorem setByte_wf (a : Nat) (b : Byte) {s : State} (h : s.wf = true) : (setByte a b s).wf = true := by
  simp only [State.wf, Bool.and_eq_true, setByte_regs, setByte_shadow] at *
  exact ⟨h.1, sparse_wf_put _ _ _ h.2⟩

theorem setBytes_wf (l : List Byte) (a : Nat) {s : State} (h : s.wf = true) : (setBytes a l s).wf = true := by
  induction l generalizing a s with
  | nil => exact h
  | cons b t ih => exact ih _ (setByte_wf _ _ h)

theorem setRf_wf (a hi lo v : Nat) {s : State} (h : s.wf = true) : (setRf a hi lo v s).wf = true := setReg_wf _ _ h
theorem setRb_wf (a k : Nat) (b : Bool) {s : State} (h : s.wf = true) : (setRb a k b s).wf = true := setReg_wf _ _ h
theorem addRf_wf (a hi lo n : Nat) {s : State} (h : s.wf = true) : (addRf a hi lo n s).wf = true := setReg_wf _ _ h
theorem wrapRf_wf (a hi lo n : Nat) {s : State} (h : s.wf = true) : (wrapRf a hi lo n s).wf = true := setReg_wf _ _ h
theorem setPair_wf (a v : Nat) {s : State} (h : s.wf = true) : (setPair a v s).wf = true :=
  setReg_wf _ _ (setReg_wf _ _ h)

/-- An effect for each number of a list keeps the canonical form when each does. -/
theorem forEach_wf (l : List Nat) (f : Nat → State → State) (hf : ∀ k s, s.wf = true → (f k s).wf = true) {s : State}
    (h : s.wf = true) : (forEach l f s).wf = true := by
  unfold forEach
  induction l generalizing s with
  | nil => exact h
  | cons k t ih => exact ih (hf k s h)

/-- An effect under a condition keeps the canonical form when the effect does. -/
theorem sif_wf (c : Bool) (f : State → State) (hf : ∀ s, s.wf = true → (f s).wf = true) {s : State} (h : s.wf = true) :
    (sif c f s).wf = true := by
  unfold sif; split
  · exact hf s h
  · exact h

/-! ## Shared operations of the commands -/

/-- An enabled page does the work asked of it (R135). -/
theorem pageWork_on {p : Nat} {s : State} (h : s.rb (Reg.ctrl p) 0 = true) (f : State → State) : pageWork p f s = f s := by
  simp [pageWork, h]

/-- A disabled page refuses the work asked of it (R135). -/
theorem pageWork_off {p : Nat} {s : State} (h : s.rb (Reg.ctrl p) 0 = false) (f : State → State) :
    pageWork p f s = refusalErr p Err.modeAbort openDetail openDetail s := by
  simp [pageWork, h]

theorem advance_wf (e : Nat) {s : State} (h : s.wf = true) : (advance e s).wf = true := wf_of_parts rfl rfl rfl h

/-! ## Reports, the governor and the passing of time -/

/-- Either branch keeps the canonical form when both do. -/
theorem ite_wf {c : Prop} [Decidable c] {t u : State} (ht : t.wf = true) (hu : u.wf = true) :
    (if c then t else u).wf = true := by split <;> assumption

theorem modCoil_wf (n : Nat) (f : Coil → Coil) {s : State} (h : s.wf = true) : (modCoil n f s).wf = true := wf_of_parts rfl rfl rfl h
theorem modEng_wf (n : Nat) (f : Eng → Eng) {s : State} (h : s.wf = true) : (modEng n f s).wf = true := wf_of_parts rfl rfl rfl h
theorem modTime_wf (f : TimeSt → TimeSt) {s : State} (h : s.wf = true) : (modTime f s).wf = true := wf_of_parts rfl rfl rfl h
theorem modFab_wf (f : FabricSt → FabricSt) {s : State} (h : s.wf = true) : (modFab f s).wf = true := wf_of_parts rfl rfl rfl h

/-- An occurrence of an event source keeps the canonical form. -/
theorem irq_wf (p k : Nat) {s : State} (h : s.wf = true) : (irq p k s).wf = true :=
  ite_wf (setRb_wf _ _ _ (setRb_wf _ _ _ h)) (setRb_wf _ _ _ h)

/-- A level source keeps the canonical form. -/
theorem irqLevel_wf (p k : Nat) (b : Bool) {s : State} (h : s.wf = true) : (irqLevel p k b s).wf = true :=
  ite_wf (setRb_wf _ _ _ (setRb_wf _ _ _ h)) (setRb_wf _ _ _ h)

/-- A fault keeps the canonical form. -/
theorem faultIn_wf (same : Bool) (cls p code : Nat) {s : State} (h : s.wf = true) : (faultIn same cls p code s).wf = true :=
  sif_wf _ _ (fun _ h => setPair_wf _ _ (setReg_wf _ _ h)) (sif_wf _ _ (fun _ h => irq_wf _ _ (setRb_wf _ _ _ h)) h)

/-- An error that a page records keeps the canonical form. -/
theorem recErrAs_wf (cls : Option Nat) (p code info extra : Nat) {s : State} (h : s.wf = true) :
    (recErrAs cls p code info extra s).wf = true := by
  have hd : ∀ (d : Nat) (u : State), u.wf = true → (detailUsed d u).wf = true := fun _ _ hu => ite_wf (wf_of_parts rfl rfl rfl hu) hu
  have hn : (noteFirst p code info extra s).wf = true := hd _ _ (setReg_wf _ _ (setReg_wf _ _ (hd _ _ h)))
  have ht := irq_wf p 31 (ite_wf (c := s.rf (Reg.errCode p) 15 10 = 0) hn (addRf_wf (Reg.errCode p) 15 10 1 h))
  cases cls with
  | none => exact ht
  | some c => exact faultIn_wf _ _ _ _ ht

/-- A write or another command that is refused keeps the canonical form. -/
theorem refusalErr_wf (p code info extra : Nat) {s : State} (h : s.wf = true) : (refusalErr p code info extra s).wf = true := by
  unfold refusalErr
  split
  · exact faultIn_wf _ _ _ _ (recErrAs_wf _ _ _ _ _ h)
  · exact recErrAs_wf _ _ _ _ _ h

/-- The governor's computation keeps the canonical form. -/
theorem govern_wf {s : State} (h : s.wf = true) : (govern s).wf = true := by
  have hset : ∀ (g : Nat) (t : State), t.wf = true → (govSet g t).wf = true := fun g t ht =>
    ite_wf (wf_of_parts rfl rfl rfl ht) (ite_wf ht (wf_of_parts rfl rfl rfl ht))
  have hend : (limitEnd s).wf = true := sif_wf _ _ (fun _ h => setReg_wf _ _ (irqLevel_wf _ _ _ h)) h
  have hrep : ∀ (o g : Nat) (l : List Nat) (t : State), t.wf = true → (govReport o g l t).wf = true := fun o g l t ht =>
    ite_wf (recErrAs_wf _ _ _ _ _ (irq_wf _ _ (sif_wf _ _ (fun _ h => addRf_wf _ _ _ _ h) (addRf_wf _ _ _ _ ht)))) ht
  have hmark : ∀ (g : Nat) (t : State), t.wf = true → (floorMark g t).wf = true := fun g t ht =>
    ite_wf (forEach_wf _ _ (fun _ _ h => ite_wf (modEng_wf _ _ h) h) ht) ht
  unfold govern
  refine ite_wf h ?_
  refine forEach_wf _ _ (fun _ _ h => irqLevel_wf _ _ _ (setRb_wf _ _ _ h)) ?_
  refine hmark _ _ (hrep _ _ _ _ (irqLevel_wf _ _ _ (setRf_wf _ _ _ _ (setReg_wf _ _ ?_))))
  exact wf_of_parts (s := govSet _ _) rfl rfl rfl (hset _ _ (forEach_wf _ _ (fun _ _ h => modCoil_wf _ _ h) hend))

/-- A reset edge of a chain that has come keeps the canonical form. -/
theorem chainEdge_wf (n t : Nat) {s : State} (h : s.wf = true) : (chainEdge n t s).wf = true := by
  have hr : ∀ (e : Nat) (u : State), u.wf = true → (chainReset n e u).wf = true := fun _ _ hu =>
    setReg_wf _ _ (setRf_wf _ _ _ _ (modCoil_wf _ _ hu))
  unfold chainEdge
  split
  · exact h
  · exact ite_wf h (ite_wf (hr _ _ (setRf_wf _ _ _ _ (setRb_wf _ _ _ (modCoil_wf _ _ h)))) (hr _ _ (setRf_wf _ _ _ _ (modCoil_wf _ _ h))))

/-- Time that passes keeps the canonical form, with the governor's boundaries and the chains' reset edges on the way. -/
theorem passTo_wf (t : Nat) {s : State} (h : s.wf = true) : (passTo t s).wf = true := by
  have hl : ∀ (l : List Nat) (u : State), u.wf = true → (l.foldl (fun u b => governAt b u) u).wf = true := by
    intro l
    induction l with
    | nil => exact fun _ hu => hu
    | cons b l ih => exact fun u hu => ih _ (modTime_wf _ (govern_wf (modTime_wf _ hu)))
  exact forEach_wf _ _ (fun _ _ h => chainEdge_wf _ _ h) (advance_wf _ (ite_wf h (hl _ _ h)))

/-- With no coil driven, no sweep and no reset edge of a chain to come, time alone passes. -/
theorem passTo_quiet {t : Nat} {s : State} (hd : s.driven = []) (hs : s.crocus.sweep = none)
    (hc : ∀ n, (s.coil n).pendReset = none) : passTo t s = advance t s := by
  have he : ∀ (l : List Nat) (u : State), (∀ n, (u.coil n).pendReset = none) → ∀ m, forEach l (fun n => chainEdge n m) u = u := by
    intro l
    induction l with
    | nil => exact fun _ _ _ => rfl
    | cons n l ih =>
      intro u hu m
      have : chainEdge n m u = u := by simp [chainEdge, hu n]
      simpa [forEach, this] using ih u hu m
  have hp : passGov t s = advance t s := by simp [passGov, hd, hs]
  simpa [passTo, chainsNow, hp] using he _ (advance t s) hc _

/-- The way to a carrier-cycle boundary keeps the canonical form. -/
theorem toCc_wf {s : State} (h : s.wf = true) : (toCc s).wf = true := ite_wf (passTo_wf _ h) h

end Sys2Proof.Laws
end

