-- ==== Sys2Proof/WellFormed.lean ====
section
/-! DEFINITION. Which commands are well formed: operands that a port, a pin or a field of the spec can carry. -/

namespace Sys2Proof

/-- A tick is a value of the 64-bit time base (R157). -/
def isTick (t : Nat) : Bool := decide (t < 2 ^ 64)

/-- The mailbox codes of R429. -/
def mailboxListed (code : Nat) : Bool := [0x01, 0x02, 0x10, 0x20, 0x21, 0x30, 0x31, 0x32, 0x40, 0x50].contains code

/-- Converter codes are of 10 bits (R340). -/
def RbSamples.wf (x : RbSamples) : Bool :=
  match x with
  | .base _ => true
  | .codes _ l => l.all (fun v => decide (-512 ≤ v ∧ v ≤ 511))

/-- The class and instruction of the APDUs of R412. -/
def apduListed (cla ins : Nat) : Bool :=
  (cla == 0 && [0xa4, 0xb0, 0xd6, 0x20, 0x24].contains ins) || (cla == 0x80 && [0x32, 0x34].contains ins)

/-- The blocks that carry an APDU and its answer (R408): CIDs of four bits and ticks, and one good I-block that ends the APDU. -/
def TagBlock.wf (b : TagBlock) : Bool := b.cid.all (fun c => decide (c < 16)) && isTick b.ends

/-- An APDU of the row with instruction `ins`: one-byte fields, an Le of 1–256, its blocks, and the row's instruction or one that R412 does not
list for its class (R412, R414). -/
def Apdu.wf (ins : Nat) (x : Apdu) : Bool :=
  decide (x.cla < 256) && decide (x.ins < 256) && decide (x.p1 < 256) && decide (x.p2 < 256) && x.le.all (fun n => decide (1 ≤ n ∧ n ≤ 256)) &&
    x.data.all (fun l => decide (l.length < 65536)) && x.blocks.all TagBlock.wf &&
    (x.blocks.filter (fun b => b.kind == .iLast && b.good)).length == 1 && (x.ins == ins || !apduListed x.cla x.ins)

/-- Whether a command's operands lie in their ranges. -/
def Instr.wf : Instr → Bool
  | .qspiRead addr _ => decide (addr < 2 ^ 24)
  | .qspiWrite addr _ => decide (addr < 2 ^ 24)
  | .qspiQread addr _ => decide (addr < 2 ^ 24)
  | .qspiQwrite addr _ => decide (addr < 2 ^ 24)
  | .qspiStatus => true
  | .qspiUnknownCommand code => !(code == 0x0b || code == 0x02 || code == 0xeb || code == 0x38 || code == 0x05)
  | .qcsNRisePartialWord => true
  | .registerWrite _ addr _ => decide (addr < 2 ^ 24)
  | .pairLoRead _ addr => decide (addr < 2 ^ 24)
  | .ftbLoRead _ => true
  | .cmdPortWrite _ => true
  | .resPortRead => true
  | .evtPortRead => true
  | .sessionCreate => true
  | .sessionDestroy => true
  | .sessionClosed _ => true
  | .sessionPlace => true
  | .sessionMigrate => true
  | .migrationComplete _ => true
  | .hfExchange => true
  | .rbExchange => true
  | .xbExchange => true
  | .discover => true
  | .snap => true
  | .sync => true
  | .mark => true
  | .pendingCommandStart _ => true
  | .resultHeldPost tick => isTick tick
  | .staleTimeout => true
  | .queueFlush _ _ => true
  | .queueMarksWrite _ _ _ => true
  | .queueCntClr _ _ => true
  | .hifCntClr _ _ => true
  | .sessionRamWrite addr _ => decide (0x40000 ≤ addr ∧ addr < 0x4c000)
  | .quiesceRequest _ _ => true
  | .quiesceReached _ => true
  | .quiesceRelease _ _ => true
  | .blockDisable _ _ => true
  | .blockEnable _ _ => true
  | .irqSetWrite _ _ _ => true
  | .irqEnWrite _ _ _ => true
  | .lockWrite _ _ _ => true
  | .ownerWrite _ _ _ => true
  | .errCodeClr _ _ => true
  | .stageApply _ _ => true
  | .stageDiscard _ _ => true
  | .sysClaim _ _ => true
  | .clkGateRbOff _ => true
  | .clkGateRbOn _ => true
  | .porRelease _ _ _ => true
  | .coreSupplyFail _ => true
  | .vddrfSupervisor => true
  | .vddioSupervisor => true
  | .vfldFall => true
  | .vfldRise => true
  | .resetNAssert => true
  | .resetNRelease _ => true
  | .swResetSystem _ _ => true
  | .swResetMgt _ _ => true
  | .blockReset _ _ => true
  | .clockLoss => true
  | .referenceQualified _ _ => true
  | .ready tick => isTick tick
  | .hollyhockRestart => true
  | .calHfAdc _ _ => true
  | .calChannelGainPhase _ _ => true
  | .calTunerSweep _ _ => true
  | .calRbAdcInterleave _ _ => true
  | .calSynthBandTable _ _ => true
  | .calPaAerial _ _ => true
  | .calSensors _ _ => true
  | .calCrocusBaseline _ _ => true
  | .calRecordWrite _ _ => true
  | .calDone tick _ skipped => isTick tick && decide (skipped < 4096)
  | .driftCheck => true
  | .snapGo _ => true
  | .snapCapture => true
  | .compareArm _ _ => true
  | .compareTargetWrite _ _ _ => true
  | .compareFire _ => true
  | .cadenceRun _ _ => true
  | .cadenceStop _ _ => true
  | .cadenceWrap _ => true
  | .cadencePeriodChange _ _ _ => true
  | .captureEvent _ => true
  | .captureHiRead _ _ => true
  | .syncGo _ => true
  | .syncEdge tick _ => isTick tick
  | .aonMeasUpdate ft => decide (839025 ≤ ft ∧ ft ≤ 855975)
  | .eventChannelEntry _ edge _ => isTick edge
  | .limiterRelease _ => true
  | .evfFire _ _ _ => true
  | .evfFireMask _ _ _ => true
  | .evfChReclaim _ _ => true
  | .cellOutputChange _ edge => isTick edge
  | .gpInputEdge _ _ tick => isTick tick
  | .gpEventOutput _ => true
  | .gpPulseEnd _ => true
  | .gpOutWrite _ _ => true
  | .evfTaskIrq => true
  | .evfCntClr _ _ => true
  | .mmMeasurementDone _ _ _ _ => true
  | .driverCurrentLimit _ => true
  | .tuneCodeApply _ => true
  | .thetaRecompute _ vfld => decide (vfld < 65536)
  | .chainOutput _ _ => true
  | .chainRestart _ _ _ => true
  | .profileChange _ _ _ => true
  | .coilCntClr _ _ _ => true
  | .coilSetAdd _ _ coils => decide (coils < 4096)
  | .coilSetRemove _ _ coils => decide (coils < 4096)
  | .coilRelease _ => true
  | .bankSelWrite _ _ _ => true
  | .bankSwapEvent _ => true
  | .xfadeEnd _ => true
  | .weightWrite _ _ _ _ _ => true
  | .governorMeasure _ => true
  | .fwgtCntClr _ _ => true
  | .stepIssue _ => true
  | .fieldStep _ => true
  | .bankStep _ => true
  | .txStep _ => true
  | .rxwinStep _ => true
  | .radioStep => true
  | .rbwinStep => true
  | .rbtxStep => true
  | .publishStep _ => true
  | .gpioStep _ => true
  | .writeStep _ => true
  | .snapStep _ => true
  | .commitStep _ => true
  | .nopStep _ => true
  | .branchStep _ => true
  | .endStep _ => true
  | .playerTrigger _ => true
  | .playerStart _ _ _ => true
  | .playerStop _ _ => true
  | .playerHold _ _ _ => true
  | .swapReq _ _ => true
  | .swapCancel _ _ => true
  | .verify _ _ => true
  | .verifyDone _ => true
  | .lspClaim _ _ => true
  | .scoreStoreWrite _ _ => true
  | .plSlotWrite _ _ _ _ => true
  | .commitGo _ _ => true
  | .commitMargin => true
  | .commitApply => true
  | .lspCntClr _ _ => true
  | .hfTxEnd _ => true
  | .guardDone _ => true
  | .hfRxSof _ tick ends _ _ => isTick tick && isTick ends
  | .hfRxEnd _ r => isTick r.endTick
  | .rxWindowClose _ => true
  | .feAbort _ => true
  | .fenCntClr _ _ _ => true
  | .sessCntClr _ _ => true
  | .rbSynReq _ _ => true
  | .radioStateReached tick => isTick tick
  | .synthCalDone tick _ _ => isTick tick
  | .synthLock tick => isTick tick
  | .synthSearchTimeout => true
  | .synthFullSearchFail => true
  | .lockLoss tick => isTick tick
  | .txRampEnd => true
  | .txEnd => true
  | .txTailEnd => true
  | .testTxGo _ _ => true
  | .testTxStop _ => true
  | .testTxTimeout => true
  | .aerialMmDone _ _ => true
  | .dutyBinAdvance _ => true
  | .antTuneApply => true
  | .rbSynCntClr _ _ => true
  | .rbTxCntClr _ _ => true
  | .rbAntCntClr _ _ => true
  | .preambleDet d => isTick d.sample && d.samples.wf && d.first.wf && d.second.wf
  | .agcAttack block _ => block.wf
  | .agcRelease => true
  | .afcFreeze samples => samples.wf
  | .longTrainingSync x => isTick x.start && x.samples.wf
  | .timingTimeout => true
  | .signalDecoded samples => samples.wf
  | .newerPreamble n => isTick n.sample && isTick n.start && n.samples.wf
  | .packetEnd => true
  | .decodeEnd tick samples => isTick tick && samples.wf
  | .rbWindowClose => true
  | .noiseUpdated _ block => block.wf
  | .rbRxAbort => true
  | .rbRxCntClr _ _ => true
  | .rbDemCntClr _ _ => true
  | .rbDecCntClr _ _ => true
  | .cvuStart _ _ _ => true
  | .cvuEnd _ _ _ => true
  | .cvuAbort _ _ _ => true
  | .cvuData _ _ _ => true
  | .cvuRunWrite _ _ _ => true
  | .cvuCfgWrite _ _ _ => true
  | .cvuChqWrite _ _ => true
  | .cvuCntClr _ _ => true
  | .tagFieldOn _ => true
  | .tagFieldLost => true
  | .tagReqa t => isTick t
  | .tagWupa t => isTick t
  | .tagAnticollision level known t => decide (1 ≤ level ∧ level ≤ 3) && decide (known.length < 40) && isTick t
  | .tagSelect level l t => decide (1 ≤ level ∧ level ≤ 3) && l.length == 5 && isTick t
  | .tagHlta => true
  | .tagRats param t => decide (param < 256) && isTick t
  | .tagPps cid dsi dri t => decide (cid < 15) && decide (dsi < 4) && decide (dri < 4) && isTick t
  | .tagDeselect cid t => cid.all (fun c => decide (c < 15)) && isTick t
  | .apduSelect x => x.wf 0xa4
  | .apduReadBinary x => x.wf 0xb0
  | .apduUpdateBinary x => x.wf 0xd6
  | .apduVerify x => x.wf 0x20
  | .apduChangeReferenceData x => x.wf 0x24
  | .apduIncrementCounter x => x.wf 0x32
  | .apduReadCounter x => x.wf 0x34
  | .i2cWriteTransaction addr mem _ _ => decide (addr < 128) && decide (mem < 65536)
  | .i2cReadTransaction addr mem _ _ => decide (addr < 128) && mem.all (fun a => decide (a < 65536))
  | .tagViewAccess _ _ _ => true
  | .wireGranule => true
  | .wireTimeout => true
  | .tagcPwSet _ _ _ => true
  | .tagcCntInc _ _ => true
  | .tagcConfigWrite _ _ _ => true
  | .tagcFieldWlock _ _ => true
  | .tagcCntClr _ _ => true
  | .mboxGetVersion _ tag args => decide (tag < 65536) && decide (args.length < 256)
  | .mboxLogNote _ tag args => decide (tag < 65536) && decide (args.length < 256)
  | .mboxCalibrate _ tag args => decide (tag < 65536) && decide (args.length < 256)
  | .mboxApplyRecord _ tag args => decide (tag < 65536) && decide (args.length < 256)
  | .mboxCheckStore _ tag args => decide (tag < 65536) && decide (args.length < 256)
  | .mboxFwSwitch _ tag args => decide (tag < 65536) && decide (args.length < 256)
  | .mboxFwConfirm _ tag args => decide (tag < 65536) && decide (args.length < 256)
  | .mboxFwRevert _ tag args => decide (tag < 65536) && decide (args.length < 256)
  | .mboxTagUnlock _ tag args => decide (tag < 65536) && decide (args.length < 256)
  | .mboxProtClear _ tag args => decide (tag < 65536) && decide (args.length < 256)
  | .mboxUnknownCode _ code tag args => decide (code < 256) && !mailboxListed code && decide (tag < 65536) && decide (args.length < 256)
  | .mboxReply => true
  | .mboxNotify => true
  | .sensorRefresh _ => true
  | .thermalLevelCheck => true
  | .protCapStep => true
  | .hwTrip _ _ => true
  | .vfldOvervoltage => true
  | .supplyRangeReport _ mv => decide (mv < 65536)
  | .logSelWrite _ _ => true
  | .logClear _ _ => true
  | .updTargetWrite _ _ => true
  | .updBegin _ => true
  | .updData _ _ => true
  | .updVerify _ => true
  | .updVerifyDone => true
  | .updAbort _ => true
  | .trialTimeout => true
  | .watchdogTrip pc => decide (pc < 2 ^ 32)
  | .sensCntClr _ _ => true
  | .modeReqSleep _ _ => true
  | .modeReqWatch _ _ => true
  | .modeEntered => true
  | .wakeTimerExpiry tick => isTick tick
  | .wakeDetect causes _ tick => decide (causes < 65536) && isTick tick
  | .ftbResume _ => true
  | .wakeRestore tick => isTick tick
  | .crocusCoilClaim _ => true
  | .crocusSweepStart _ tick => isTick tick
  | .crocusSweepEnd tick slots => isTick tick &&
    slots.all (fun x => x.samples.length == 256 && x.samples.all (fun v => decide (-2048 ≤ v ∧ v ≤ 2047)))
  | .crocusBaseReq _ _ => true
  | .crocusCntClr _ _ => true
  | .dbgCntClrAll _ _ => true
  | .injectFieldLoss _ _ => true
  | .injectLockLoss _ _ => true
  | .injectTemperature _ _ => true
  | .injectCvuMismatch _ _ => true
  | .injectEnd kind => decide (kind < 16)
  | .consoleLineSent => true
  | .tapExtest cells => cells.length == 91
  | .tapSamplePreload cells => cells.length == 91
  | .tapIdcode => true
  | .tapClamp => true
  | .tapHighz => true
  | .tapBypass => true
  | .vddioSupplyRecovery => true
  | .vddrfSupplyRecovery => true
  | .vfldOvervoltageClear => true
  | .surveyInputAlternate => true
  | .testLogicReset => true
  | .blockResetDone _ => true
  | .logClearDone => true

end Sys2Proof
end

