-- ==== Sys2Proof/Tests/Slice0.lean ====
section
/-! SUPPORT. Tests of the definitions: WellFormed refuses what is ill-formed, a witness for every statement that has hypotheses, and a few
results that the manual prints. -/

namespace Sys2Proof.Tests
open Sys2Proof Sys2Proof.Machine

/- One theorem after the other: elaborated side by side, every `decide +kernel` waits for the kernel's check of all before it
on a thread of its own, with a stack of its own, and a few dozen of them pass the memory limit of the check. -/
set_option Elab.async false

/-! ## States for the tests -/

/-- A device that is READY. -/
def up : State := { State.reset with boot := { phase := .ready }, time := { ftb := 1000 } }

/-- READY with every page the host's and enabled. -/
def upOwned : State := (List.range 0x2c).foldl (fun s p => setRf (Reg.owner p) 1 0 0 (setRb (Reg.ctrl p) 0 true s)) up

/-- The clocks run. -/
def running (s : State) : State :=
  { setRf Reg.pwrMode 2 0 0 s with boot := { s.boot with phase := .ready }, pwr := { s.pwr with ftbOff := false } }

/-- The host port is open. -/
def hosted (s : State) : State := { setRf Reg.pwrMode 2 0 0 s with boot := { s.boot with phase := .ready, vddio := true } }

/-- A write reaches the page. -/
def reaching (ag : Agent) (a : Nat) (s : State) : State :=
  let s := setRb (Reg.owner (a / 0x1000)) 8 false (if ag = .host then hosted s else s)
  if 0x1f ≤ a / 0x1000 ∧ a / 0x1000 ≤ 0x24 then setRb Reg.clkGate 0 false { s with boot := { s.boot with vddrf := true } } else s

/-- The page is quiesced and not locked where the register asks for it. -/
def unlocking (a : Nat) (s : State) : State :=
  let s := if hasAcc (BitVec.allOnes 32) a .rwl then setRb (Reg.lock (a / 0x1000)) 0 false s else s
  if hasAcc (BitVec.allOnes 32) a .rws then setRb (Reg.status (a / 0x1000)) 0 true s else s

/-- The register takes a write of an agent. -/
def taking (ag : Agent) (a : Nat) (s : State) : State :=
  setRf (Reg.owner (a / 0x1000)) 1 0 (agentCode ag) (unlocking a (reaching ag a s))

/-- The register takes a write of the agent that holds the unit. -/
def unitTaking (ag : Agent) (r a : Nat) (s : State) : State :=
  setRf (Reg.sysResClaim r) 15 12 (agentClaimant ag) (unlocking a (reaching ag a s))

/-- An event arrives at a task input. -/
def delivering (i : Nat) (e : Task) (s : State) : State :=
  let s := setRf Reg.pwrMode 2 0 0 s
  let s := setRb (Reg.status (taskPage i)) 0 false (setRb (Reg.ctrl (taskPage i)) 0 true s)
  { s with fab := { s.fab with tasks := [{ e with input := i }] } }

/-- An item stands at the head of the command queue. -/
def dispatching (typ : Nat) (i : Item) (s : State) : State :=
  let s := setRb (Reg.status 5) 0 false (setRb (Reg.ctrl 5) 0 true s)
  { s with boot := { s.boot with phase := .ready }, queue := { s.queue with cmd := { i with typ := typ } :: s.queue.cmd.tail } }

/-! ## The statements' hypotheses can be met -/

/-- The hypotheses of each clause of StepRunsFrontCommand can be met together. -/
theorem test_hyps_step_runs_front_command :
    ∃ (s : State) (c : Instr) (r : List Instr), s.pending = c :: r :=
  ⟨(fun (r : List Instr) => (fun s : State => { s with pending := Instr.xbExchange :: r }) up) [], Instr.xbExchange, [],
    by decide +kernel⟩

/-- The hypotheses of each clause of IdleStepIsATick can be met together. -/
theorem test_hyps_idle_step_is_a_tick :
    (∃ (s : State), s.pending = [] ∧ s.fldRuns = true ∧ s.now + 1 < 2 ^ 64) ∧
    (∃ (s : State), s.pending = [] ∧ s.fldRuns = false) :=
  ⟨⟨up, by decide +kernel⟩,
   ⟨State.reset, by decide +kernel⟩⟩

/-- The hypotheses of each clause of HostReadsComplete can be met together. -/
theorem test_hyps_host_reads_complete :
    (∃ (s : State), s.hostUp = true) ∧
    (∃ (s : State) (a : Nat) (n : Nat), s.portTakes = true ∧ (busEnd s).wordGoes false (a / 4 * 4) = false ∧ 0 < n) ∧
    (∃ (s : State) (a : Nat) (n : Nat), s.readsNow .host = true ∧ a % 4 = 0 ∧ ((sessBase + 192 ≤ a ∧ a + 4 * n ≤ sessBase + 0xc000) ∨
      (poolBase ≤ a ∧ a + 4 * n ≤ poolBase + 0x20000) ∨ (scoreBase ≤ a ∧ a + 4 * n ≤ scoreBase + 0x10000) ∨ (imageBase ≤ a ∧ a + 4 * n ≤
      imageBase + 0x40000))) ∧
    (∃ (s : State) (ag : Agent) (a : Nat), s.readsNow ag = true ∧ a % 4 = 0 ∧ isPairLo a = true ∧ s.answers a = true) ∧
    (∃ (s : State) (ag : Agent), s.readsNow ag = true) ∧
    (∃ (s : State) (ag : Agent) (c : CapIx), s.readsNow ag = true ∧ tabGet 0 s.time.capWait c = 0) :=
  ⟨⟨up, by decide +kernel⟩,
   ⟨setMode 3 up, 262348, 2, by decide +kernel⟩,
   ⟨up, 262348, 0, by decide +kernel⟩,
   ⟨up, Agent.host, 196, by decide +kernel⟩,
   ⟨up, Agent.host, by decide +kernel⟩,
   ⟨up, Agent.host, 1, by decide +kernel⟩⟩

/-- The hypotheses of each clause of QueuePortReads can be met together. -/
theorem test_hyps_queue_port_reads :
    (∃ (s : State) (w : Word) (r : List Word), s.readsNow .host = true ∧ s.queue.resPart = w :: r) ∧
    (∃ (s : State) (i : Item), s.readsNow .host = true ∧ s.queue.resPart = [] ∧ s.choose = some i ∧ s.effClass i = i.prio) ∧
    (∃ (s : State) (i : Item) (l : List Word), s.readsNow .host = true ∧ s.queue.resPart = [] ∧ s.choose = some i ∧ i.prio < s.effClass i
      ∧ l = ({ i with flags := i.flags ||| 0x40 } : Item).words) ∧
    (∃ (s : State), s.readsNow .host = true ∧ s.queue.resPart = [] ∧ s.queue.res = []) ∧
    (∃ (s : State) (w : Word) (r : List Word), s.readsNow .host = true ∧ s.queue.evtPart = w :: r) ∧
    (∃ (s : State) (i : Item) (r : List Item), s.readsNow .host = true ∧ s.queue.evtPart = [] ∧ s.queue.evt = i :: r) ∧
    (∃ (s : State), s.readsNow .host = true ∧ s.queue.evtPart = [] ∧ s.queue.evt = []) :=
  ⟨⟨(fun (r : List Word) => (fun s : State => { s with queue := { s.queue with resPart := 0x00000001#32 :: r } }) up) [], 0x00000001#32, [],
     by decide +kernel⟩,
   ⟨(fun (i : Item) => (fun s : State => { s with queue := { s.queue with res := [i] } }) up) ⟨24, 3, 2029, 11, 0, 84, 0, [], 0, 37, none⟩,
     ⟨24, 3, 2029, 11, 0, 84, 0, [], 0, 37, none⟩, by decide +kernel⟩,
   ⟨(fun (i : Item) => (fun s : State =>
     { setRf Reg.queueTimers 15 0 1 s with time := { s.time with ftb := 500000 }, queue := { s.queue with res := [i] } }) up) ⟨24, 1,
     2029, 11, 0, 4, 0, [], 0, 37, none⟩, ⟨24, 1, 2029, 11, 0, 4, 0, [], 0, 37, none⟩, _, by decide +kernel, by decide +kernel,
     by decide +kernel, by decide +kernel, rfl⟩,
   ⟨up, by decide +kernel⟩,
   ⟨(fun (r : List Word) => (fun s : State => { s with queue := { s.queue with evtPart := 0x00000001#32 :: r } }) up) [], 0x00000001#32, [],
     by decide +kernel⟩,
   ⟨(fun (i : Item) (r : List Item) => (fun s : State => { s with queue := { s.queue with evt := i :: r } }) up) ⟨4, 1, 2674, 9, 0, 110, 2,
     [], 352, 16, some 205⟩ [], ⟨4, 1, 2674, 9, 0, 110, 2, [], 352, 16, some 205⟩, [], by decide +kernel⟩,
   ⟨up, by decide +kernel⟩⟩

/-- The hypotheses of each clause of CommandPortWrites can be met together. -/
theorem test_hyps_command_port_writes :
    (∃ (s : State), s.hostUp = true ∧ s.isReady = false) ∧
    (∃ (s : State) (w : Word), s.hostUp = true ∧ s.isReady = true ∧ s.queue.swallow = 0 ∧ s.queue.bad = none ∧ s.queue.cmdPart = [] ∧
      s.cmdFill < 2048 ∧ 4 ≤ headLen w ∧ headLen w ≤ 1028 ∧ isCommandType (headType w) = true) ∧
    (∃ (s : State) (w : Word) (h : Word) (r : List Word), s.hostUp = true ∧ s.isReady = true ∧ s.queue.swallow = 0 ∧ s.queue.bad = none ∧
      s.queue.cmdPart = h :: r ∧ (r ≠ [] ∨ fld w 15 5 = 0 ∧ fld w 3 0 = 0) ∧ s.cmdFill < 2048 ∧ r.length + 2 < headLen h) ∧
    (∃ (s : State) (h : Word) (r : List Word), s.hostUp = true ∧ s.isReady = true ∧ s.queue.swallow = 0 ∧ s.queue.bad = none ∧
      s.queue.cmdPart = h :: r ∧ r ≠ [] ∧ s.cmdFill < 2048 ∧ r.length + 2 = headLen h) ∧
    (∃ (s : State) (w : Word) (h : Word), s.hostUp = true ∧ s.isReady = true ∧ s.queue.swallow = 0 ∧ s.queue.bad = none ∧ s.queue.cmdPart
      = [h] ∧ (fld w 15 5 ≠ 0 ∨ fld w 3 0 ≠ 0) ∧ s.cmdFill < 2048 ∧ 2 < headLen h) ∧
    (∃ (s : State) (b : BadItem), s.hostUp = true ∧ s.isReady = true ∧ s.queue.swallow = 0 ∧ s.queue.bad = some b ∧ 2 ≤ b.got ∧ b.got + 1
      = b.total) :=
  ⟨⟨(fun s : State => { s with boot := { s.boot with phase := .starting } }) up, by decide +kernel⟩,
   ⟨up, 0x02004944#32, by decide +kernel⟩,
   ⟨(fun (r : List Word) => (fun s : State => { s with queue := { s.queue with cmdPart := 0xc35a0001#32 :: r } }) up) [0xa5c30038#32],
     0xa5c30057#32, 0xc35a0001#32, [0xa5c30038#32], by decide +kernel⟩,
   ⟨(fun (r : List Word) => (fun s : State => { s with queue := { s.queue with cmdPart := 0x0500448c#32 :: r } }) up) [0xa5c30057#32,
     0x00000400#32], 0x0500448c#32, [0xa5c30057#32, 0x00000400#32], by decide +kernel⟩,
   ⟨(fun s : State => { s with queue := { s.queue with cmdPart := [0x0500448c#32] } }) up, 0x00120100#32, 0x0500448c#32, by decide +kernel⟩,
   ⟨(fun (b : BadItem) => (fun s : State => { s with queue := { s.queue with bad := some b } }) up) ⟨0x0500448c#32, 0x12, 3, 4, 10⟩,
     ⟨0x0500448c#32, 0x12, 3, 4, 10⟩, by decide +kernel⟩⟩

/-- The hypotheses of each clause of HostWritesComplete can be met together. -/
theorem test_hyps_host_writes_complete :
    (∃ (s : State) (a : Nat), s.portTakes = true ∧ (busEnd s).wordGoes true (a / 4 * 4) = true) ∧
    (∃ (s : State) (a : Nat), s.portTakes = true ∧ (busEnd s).wordGoes true (a / 4 * 4) = false) ∧
    (∃ (s : State) (k : SlotIx) (o : Nat), s.hostUp = true ∧ s.isReady = true ∧ k.val ≠ 0 ∧ o % 4 = 0 ∧ 8 ≤ o ∧ o < 192 ∧ (s.sessState k =
      1 ∨ s.sessState k = 2)) ∧
    (∃ (s : State) (ag : Agent) (n : EngIx), s.takes ag (Reg.feRxCfg n) ∧ s.rb (Reg.stageCtrl (Page.fe n)) 0 = false) ∧
    (∃ (s : State) (c : Byte), s.hostUp = true ∧ c ∉ [0x0b, 0x02, 0xeb, 0x38, 0x05]) ∧
    (∃ (s : State), s.hostUp = true) :=
  ⟨⟨up, 0x4010, by decide +kernel⟩,
   ⟨setMode 3 up, 0x4010, by decide +kernel⟩,
   ⟨(fun s : State => setCtx 71 3 (s.ctx 71 3 / 8 * 8 + 1 + 8 / 4 % 2) s) up, 71, 8, by decide +kernel⟩,
   ⟨taking Agent.host (Reg.feRxCfg 2) up, Agent.host, 2, by decide +kernel⟩,
   ⟨up, 0x42#8, by decide +kernel⟩,
   ⟨up, by decide +kernel⟩⟩

/-- The hypotheses of each clause of QueueMarks can be met together. -/
theorem test_hyps_queue_marks :
    (∃ (s : State) (ag : Agent) (w : Word), s.takes ag Reg.queueHoldMarks ∧ fld w 27 16 < fld w 11 0 ∧ fld w 11 0 ≤ 2048) ∧
    (∃ (s : State) (ag : Agent) (w : Word), s.takes ag Reg.queueHoldMarks ∧ (fld w 11 0 ≤ fld w 27 16 ∨ 2048 < fld w 11 0) ∧ s.rf
      (Reg.errCode Page.queue) 15 10 = 0) ∧
    (∃ (s : State) (ag : Agent) (w : Word), s.takes ag Reg.queueAttnMarks ∧ fld w 28 16 < fld w 12 0 ∧ fld w 12 0 ≤ 4096) ∧
    (∃ (s : State) (ag : Agent) (w : Word), s.takes ag Reg.queueAttnMarks ∧ (fld w 12 0 ≤ fld w 28 16 ∨ 4096 < fld w 12 0) ∧ s.rf
      (Reg.errCode Page.queue) 15 10 = 0) :=
  ⟨⟨taking Agent.host Reg.queueHoldMarks up, Agent.host, 0x00000001#32, by decide +kernel⟩,
   ⟨taking Agent.host Reg.queueHoldMarks up, Agent.host, 0x00050000#32, by decide +kernel⟩,
   ⟨taking Agent.host Reg.queueAttnMarks up, Agent.host, 0x00000001#32, by decide +kernel⟩,
   ⟨taking Agent.host Reg.queueAttnMarks up, Agent.host, 0x00001001#32, by decide +kernel⟩⟩

/-- The hypotheses of each clause of QueueCommandsComplete can be met together. -/
theorem test_hyps_queue_commands_complete :
    (∃ (s : State) (ag : Agent), s.takes ag Reg.queueCntClr) ∧
    (∃ (s : State) (ag : Agent) (w : Word), s.takes ag Reg.hifCfg ∧ bit w 8 = true) ∧
    (∃ (s : State) (ag : Agent), s.takes ag Reg.queueFlush ∧ s.queueBusy = false) ∧
    (∃ (s : State) (x : Held) (r : List Held), s.queue.held = x :: r ∧ s.quiesced Page.queue = false ∧ s.resFill + x.item.len ≤ 4096 ∧
      x.src = 5 ∧ x.slot = 0 ∧ x.item.err = 0 ∧ x.item.cls = none ∧ x.item.typ ≠ 0x30 ∧ x.item.typ ≠ 0x31 ∧ s.now < 2 ^ 64) ∧
    (∃ (s : State), 0 < s.resFill ∧ s.queue.stale = false ∧ s.gated = false) :=
  ⟨⟨taking Agent.host Reg.queueCntClr up, Agent.host, by decide +kernel⟩,
   ⟨up, Agent.host, 0x06d90914#32, by decide +kernel⟩,
   ⟨taking Agent.host Reg.queueFlush up, Agent.host, by decide +kernel⟩,
   ⟨(fun (x : Held) (r : List Held) => (fun s : State => setRb (Reg.status Page.queue) 0 false (setRb (Reg.ctrl Page.queue) 0 true s)) ((fun
     s : State => { s with queue := { s.queue with held := x :: r } }) up)) ⟨⟨16, 0, 2702, 3, 0, 5, 12, [], 66, 4, none⟩, 5, 0⟩ [], ⟨⟨16,
     0, 2702, 3, 0, 5, 12, [], 66, 4, none⟩, 5, 0⟩, [], by decide +kernel⟩,
   ⟨(fun s : State => { s with queue := { s.queue with resPart := [wd 7] } }) up, by decide +kernel⟩⟩

/-- The hypotheses of each clause of PageControlComplete can be met together. -/
theorem test_hyps_page_control_complete :
    (∃ (s : State) (ag : Agent) (p : PageIx), s.takes ag (Reg.ctrl p) ∧ pageFixed p = false ∧ s.rb (Reg.ctrl p) 0 = true) ∧
    (∃ (s : State) (p : PageIx), s.rb (Reg.ctrl p) 1 = true ∧ s.rb (Reg.ctrl p) 0 = true ∧ s.rb (Reg.status p) 0 = false ∧ s.pageUp p =
      true ∧ s.atBoundary p = true) ∧
    (∃ (s : State) (ag : Agent) (p : PageIx), s.takes ag (Reg.ctrl p) ∧ pageFixed p = false ∧ s.rb (Reg.ctrl p) 0 = true ∧ s.rb (Reg.ctrl
      p) 1 = true ∧ s.rb (Reg.status p) 0 = true) ∧
    (∃ (s : State) (ag : Agent) (p : PageIx), s.takes ag (Reg.ctrl p) ∧ pageFixed p = false ∧ s.rb (Reg.ctrl p) 0 = true ∧ s.rb
      (Reg.status p) 0 = true) ∧
    (∃ (s : State) (ag : Agent) (p : PageIx), s.takes ag (Reg.ctrl p) ∧ pageFixed p = false ∧ s.rb (Reg.ctrl p) 0 = false) ∧
    (∃ (s : State) (ag : Agent) (p : PageIx), s.takes ag (Reg.ctrl p) ∧ pageFixed p = true) :=
  ⟨⟨setRb (Reg.ctrl 15) 0 true (taking Agent.host (Reg.ctrl 15) up), Agent.host, 15, by decide +kernel⟩,
   ⟨setRb (Reg.ctrl 9) 0 true (setRb (Reg.ctrl 9) 1 true up), 9, by decide +kernel⟩,
   ⟨setRb (Reg.status 2) 0 true (setRb (Reg.ctrl 2) 1 true (setRb (Reg.ctrl 2) 0 true (taking Agent.host (Reg.ctrl 2) up))), Agent.host, 2,
     by decide +kernel⟩,
   ⟨setRb (Reg.status 27) 0 true (setRb (Reg.ctrl 27) 0 true (taking Agent.host (Reg.ctrl 27) up)), Agent.host, 27, by decide +kernel⟩,
   ⟨taking Agent.host (Reg.ctrl 9) up, Agent.host, 9, by decide +kernel⟩,
   ⟨taking Agent.host (Reg.ctrl 3) up, Agent.host, 3, by decide +kernel⟩⟩

/-- The hypotheses of each clause of DisableNeedsQuiesce can be met together. -/
theorem test_hyps_disable_needs_quiesce :
    ∃ (s : State) (ag : Agent) (p : PageIx), s.takes ag (Reg.ctrl p) ∧ pageFixed p = false ∧ s.rb (Reg.ctrl p) 0 = true ∧ s.rb (Reg.status
      p) 0 = false ∧ s.rf (Reg.errCode p) 15 10 = 0 :=
  ⟨setRb (Reg.ctrl 8) 0 true (taking Agent.host (Reg.ctrl 8) up), Agent.host, 8, by decide +kernel⟩

/-- The hypotheses of each clause of InterruptWritesComplete can be met together. -/
theorem test_hyps_interrupt_writes_complete :
    (∃ (s : State) (ag : Agent) (p : PageIx), s.takes ag (Reg.irqEn p)) ∧
    (∃ (s : State) (ag : Agent) (p : PageIx), s.takes ag (Reg.irqSet p)) :=
  ⟨⟨taking Agent.host (Reg.irqEn 0) up, Agent.host, 0, by decide +kernel⟩,
   ⟨taking Agent.host (Reg.irqSet 6) up, Agent.host, 6, by decide +kernel⟩⟩

/-- The hypotheses of each clause of OwnershipWritesComplete can be met together. -/
theorem test_hyps_ownership_writes_complete :
    (∃ (s : State) (ag : Agent) (p : PageIx) (w : Word), s.takes ag (Reg.lock p) ∧ bit w 0 = true) ∧
    (∃ (s : State) (ag : Agent) (p : PageIx) (w : Word), s.takes ag (Reg.lock p) ∧ bit w 0 = false ∧ fld w 31 16 = 0xc35a) ∧
    (∃ (s : State) (ag : Agent) (p : PageIx) (w : Word), s.takes ag (Reg.owner p) ∧ fld w 1 0 ≠ 3) ∧
    (∃ (s : State) (p : PageIx) (w : Word), s.reaches .host (Reg.owner p) ∧ s.unlocked (Reg.owner p) ∧ s.rf (Reg.owner p) 1 0 = 2 ∧ fld w
      1 0 = 0 ∧ fld w 31 16 = 0xc35a) ∧
    (∃ (s : State) (ag : Agent) (p : PageIx), s.reaches ag (Reg.errCode p)) :=
  ⟨⟨taking Agent.host (Reg.lock 5) up, Agent.host, 5, 0x0000351f#32, by decide +kernel⟩,
   ⟨taking Agent.host (Reg.lock 9) up, Agent.host, 9, 0xc35a0000#32, by decide +kernel⟩,
   ⟨taking Agent.host (Reg.owner 8) up, Agent.host, 8, 0x10000000#32, by decide +kernel⟩,
   ⟨setRf (Reg.owner 8) 1 0 2 up, 8, 0xc35a0000#32, by decide +kernel⟩,
   ⟨up, Agent.host, 1, by decide +kernel⟩⟩

/-- The hypotheses of each clause of RefusedWritesChangeNothingElse can be met together. -/
theorem test_hyps_refused_writes_change_nothing_else :
    (∃ (s : State) (p : PageIx), s.holdsWrite .host (Reg.irqEn p) = false ∧ s.hostUp = true ∧ s.isReady = false ∧ s.pageUp p = true ∧
      p.val ∉ [Page.rst, Page.hif, Page.pinmux, Page.upd] ∧ s.rf (Reg.errCode p) 15 10 = 0) ∧
    (∃ (s : State) (ag : Agent) (p : PageIx), s.holdsWrite ag (Reg.irqEn p) = false ∧ (ag = .host → s.hostUp = true ∧ s.isReady = true) ∧
      s.pageUp p = true ∧ s.secureOut ag p = true ∧ s.rf (Reg.errCode p) 15 10 = 0) ∧
    (∃ (s : State) (ag : Agent) (p : PageIx), s.reaches ag (Reg.irqEn p) ∧ s.rf (Reg.owner p) 1 0 ≠ agentCode ag ∧ s.rf (Reg.errCode p) 15
      10 = 0) ∧
    (∃ (s : State) (ag : Agent) (p : PageIx), s.holdsWrite ag (Reg.irqEn p) = false ∧ (ag = .host → s.hostUp = true) ∧ s.pageUp p = false
      ∧ s.rf (Reg.errCode Page.sys) 15 10 = 0) ∧
    (∃ (s : State) (ag : Agent) (a : Nat), listedReg a = true ∧ s.holdsWrite ag a = false ∧ (ag = .host → s.hostUp = true) ∧ s.pageUp (a /
      0x1000) = false ∧ s.rf (Reg.errCode Page.sys) 15 10 = 0) ∧
    (∃ (s : State) (ag : Agent) (a : Nat), listedReg a = true ∧ s.holdsWrite ag a = false ∧ (ag = .host → s.hostUp = true ∧ s.isReady =
      true) ∧ s.pageUp (a / 0x1000) = true ∧ s.secureOut ag (a / 0x1000) = true ∧ s.rf (Reg.errCode (a / 0x1000)) 15 10 = 0) ∧
    (∃ (s : State) (ag : Agent) (a : Nat), listedReg a = true ∧ pageOwned (a / 0x1000) = true ∧ s.reaches ag a ∧ s.rf (Reg.owner (a /
      0x1000)) 1 0 ≠ agentCode ag ∧ s.rf (Reg.errCode (a / 0x1000)) 15 10 = 0) ∧
    (∃ (s : State) (ag : Agent) (a : Nat), listedReg a = true ∧ pageOwned (a / 0x1000) = true ∧ s.reaches ag a ∧ s.rf (Reg.owner (a /
      0x1000)) 1 0 = agentCode ag ∧ hasAcc (BitVec.allOnes 32) a .rwl = true ∧ s.rb (Reg.lock (a / 0x1000)) 0 = true ∧ s.rf (Reg.errCode
      (a / 0x1000)) 15 10 = 0) ∧
    (∃ (s : State) (ag : Agent) (a : Nat), listedReg a = true ∧ pageOwned (a / 0x1000) = true ∧ s.reaches ag a ∧ s.rf (Reg.owner (a /
      0x1000)) 1 0 = agentCode ag ∧ s.rb (Reg.lock (a / 0x1000)) 0 = false ∧ hasAcc (BitVec.allOnes 32) a .rws = true ∧ s.quiesced (a /
      0x1000) = false ∧ s.rf (Reg.errCode (a / 0x1000)) 15 10 = 0) :=
  ⟨⟨(fun s : State => { s with boot := { s.boot with phase := .starting } }) up, 5, by decide +kernel⟩,
   ⟨(fun s : State => setRb (Reg.owner 0) 8 true (setRf (Reg.owner 0) 1 0 2 (hosted s))) up, Agent.host, 0, by decide +kernel⟩,
   ⟨up, Agent.host, 0, by decide +kernel⟩,
   ⟨(fun s : State => { hosted s with boot := { (hosted s).boot with vddrf := false } }) up, Agent.host, 34, by decide +kernel⟩,
   ⟨(fun s : State => { hosted s with boot := { (hosted s).boot with vddrf := false } }) up, Agent.host, Reg.rbTxCh 3, by decide +kernel⟩,
   ⟨(fun s : State => setRb (Reg.owner 0) 8 true (setRf (Reg.owner 0) 1 0 2 (hosted s))) up, Agent.host, Reg.sysClaim, by decide +kernel⟩,
   ⟨setRf (Reg.owner Page.fwgt) 1 0 2 (hosted up), Agent.host, Reg.fwgtGovBudget, by decide +kernel⟩,
   ⟨setRb (Reg.lock Page.sens) 0 true (taking Agent.host Reg.sensThermCfg up), Agent.host, Reg.sensThermCfg, by decide +kernel⟩,
   ⟨setRb (Reg.status Page.queue) 0 false (setRb (Reg.ctrl Page.queue) 0 true (taking Agent.host 0x5070 up)), Agent.host, 0x5070,
     by decide +kernel⟩⟩

/-- The hypotheses of each clause of ErrorReporting can be met together. -/
theorem test_hyps_error_reporting :
    (∃ (s : State) (p : Nat) (code : Nat) (info : Nat) (extra : Nat), p < 0x2c ∧ code < 0x1a ∧ info ≠ openDetail ∧ extra ≠ openDetail ∧
      s.rf (Reg.errCode p) 15 10 = 0) ∧
    (∃ (s : State) (p : Nat), p < 0x2c ∧ 0 < s.rf (Reg.errCode p) 15 10) ∧
    (∃ (s : State) (ag : Agent) (p : PageIx) (code : Nat) (info : Nat) (extra : Nat), s.reaches ag (Reg.errCode p) ∧ code < 0x1a ∧ info ≠
      openDetail ∧ extra ≠ openDetail) :=
  ⟨⟨up, 0, 1, 0, 43, by decide +kernel⟩,
   ⟨setRf (Reg.errCode 2) 15 10 63 up, 2, by decide +kernel⟩,
   ⟨up, Agent.host, 1, 2, 3, 0, by decide +kernel⟩⟩

/-- The hypotheses of each clause of StagingComplete can be met together. -/
theorem test_hyps_staging_complete :
    (∃ (s : State) (ag : Agent) (p : PageIx), s.takes ag (Reg.stageCtrl p) ∧ pageStaged p = true ∧ (p.val < 0xc ∨ 0x1c < p.val)) ∧
    (∃ (s : State) (ag : Agent) (p : PageIx), s.takes ag (Reg.stageCtrl p) ∧ pageStaged p = true ∧ 0x10 ≤ p.val ∧ p.val ≤ 0x1c ∧ s.ccNow <
      2 ^ 64) ∧
    (∃ (s : State) (ag : Agent) (p : PageIx), s.takes ag (Reg.stageCtrl p) ∧ 0xc ≤ p.val ∧ p.val < 0x10 ∧ s.stdFree (p.val - 0xc) = true) ∧
    (∃ (s : State) (ag : Agent) (p : PageIx), s.takes ag (Reg.stageCtrl p) ∧ 0xc ≤ p.val ∧ p.val < 0x10 ∧ s.stdFree (p.val - 0xc) = false) ∧
    (∃ (s : State) (ag : Agent) (p : PageIx), s.takes ag (Reg.stageCtrl p) ∧ pageStaged p = true) :=
  ⟨⟨taking Agent.host (Reg.stageCtrl 6) up, Agent.host, 6, by decide +kernel⟩,
   ⟨taking Agent.host (Reg.stageCtrl 0x16) up, Agent.host, 0x16, by decide +kernel⟩,
   ⟨taking Agent.host (Reg.stageCtrl 13) up, Agent.host, 13, by decide +kernel⟩,
   ⟨modEng 1 (fun e =>
     { e with exch := some ⟨⟨16, 0, 2702, 3, 0, 5, 12, [], 66, 4, none⟩, 1, 0, {}, true, false, [], 0, none, {}, false, false⟩ }) (taking
     Agent.host (Reg.stageCtrl 13) up), Agent.host, 13, by decide +kernel⟩,
   ⟨taking Agent.host (Reg.stageCtrl 8) up, Agent.host, 8, by decide +kernel⟩⟩

/-- The hypotheses of each clause of CommitComplete can be met together. -/
theorem test_hyps_commit_complete :
    (∃ (s : State) (ag : Agent) (w : Word), s.takes ag Reg.lspCommitCtrl ∧ bit w 0 = true ∧ s.quiesced Page.lsp = false ∧ s.commit = none
      ∧ s.now ≤ roundUp (s.regPair Reg.lspCommitTickLo) 8 - s.marginFt) ∧
    (∃ (s : State) (ag : Agent) (w : Word), s.takes ag Reg.lspCommitCtrl ∧ bit w 0 = true ∧ s.quiesced Page.lsp = false ∧ s.commit = none
      ∧ roundUp (s.regPair Reg.lspCommitTickLo) 8 - s.marginFt < s.now) ∧
    (∃ (s : State) (u : State) (c : Commit), s.commit = some c ∧ c.issued = false ∧ u = passTo c.margin s ∧ (u.armed.all (fun p =>
      u.stageReady p)) = true) ∧
    (∃ (s : State) (u : State) (c : Commit) (l : List Nat), s.commit = some c ∧ c.issued = false ∧ s.heldWrites = [] ∧ u = passTo c.margin
      s ∧ l = u.armed.filter (fun p => !u.stageReady p) ∧ l ≠ [] ∧ l.all (fun p => !u.pageUp p || u.rf (Reg.errCode p) 15 10 == 0) = true) ∧
    (∃ (s : State) (c : Commit), s.commit = some c ∧ c.issued = true ∧ s.heldWrites = [] ∧ c.pages = []) ∧
    (∃ (s : State) (c : Commit) (e : Nat), s.commit = some c ∧ c.issued = true ∧ s.heldWrites = [] ∧ c.pages ≠ [] ∧ c.pages.all (fun p =>
      decide (p < 0x2c) && pageStaged p) = true ∧ e = (s.rf Reg.sysEpochStatus 31 16 + 1) % 65536) :=
  ⟨⟨(fun s : State => setRb (Reg.status Page.lsp) 0 false (setRb (Reg.ctrl Page.lsp) 0 true s)) (taking Agent.host Reg.lspCommitCtrl ((fun s
     : State => setPair Reg.lspCommitTickLo (s.now + 100000) s) up)), Agent.host, 0x00000001#32, by decide +kernel⟩,
   ⟨(fun s : State => setRb (Reg.status Page.lsp) 0 false (setRb (Reg.ctrl Page.lsp) 0 true s)) (taking Agent.host Reg.lspCommitCtrl up),
     Agent.host, 0x00000001#32, by decide +kernel⟩,
   ⟨(fun (c : Commit) => (fun s : State => { s with commit := some c }) ((fun s : State => setRb (Reg.ctrl 10) 0 true (setRb (Reg.ctrl 10) 1
     false (setRb (Reg.status 10) 1 false s))) up)) ⟨6, 0, [], false⟩, _, ⟨6, 0, [], false⟩, by decide +kernel, by decide +kernel, rfl,
     by decide +kernel⟩,
   ⟨(fun (c : Commit) => (fun s : State => setRb (Reg.stageCtrl 9) 1 true { s with commit := some c }) up) ⟨800, 1000, [], false⟩, _, ⟨800,
     1000, [], false⟩, _, by decide +kernel, by decide +kernel, by decide +kernel, rfl, rfl, by decide +kernel, by decide +kernel⟩,
   ⟨(fun (c : Commit) => (fun s : State => { s with commit := some c }) up) ⟨0, 0, [], true⟩, ⟨0, 0, [], true⟩, by decide +kernel⟩,
   ⟨(fun (c : Commit) => (fun s : State => setShade (Reg.ftbCadPeriod 1) 77 (setRb (Reg.ctrl 8) 0 true (setRb (Reg.ctrl 8) 1 false (setRb
     (Reg.status 8) 0 false { s with commit := some c })))) up) ⟨2000, 1000, [8, 28], true⟩, ⟨2000, 1000, [8, 28], true⟩, _,
     by decide +kernel, by decide +kernel, by decide +kernel, by decide +kernel, by decide +kernel, rfl⟩⟩

/-- The hypotheses of each clause of ResetsComplete can be met together. -/
theorem test_hyps_resets_complete :
    (∃ (s : State), s.boot.phase = .powerOn) ∧
    (∃ (s : State), s.boot.phase ≠ .powerOn) ∧
    (∃ (s : State), s.boot.resetN = true ∧ s.boot.phase ≠ .powerOn) ∧
    (∃ (s : State), s.boot.resetN = false ∧ s.boot.phase = .pinHeld) ∧
    (∃ (s : State) (ag : Agent) (w : Word), s.takes ag Reg.rstSwReset ∧ fld w 31 16 = 0xa5c3 ∧ s.boot.resetN = true) ∧
    (∃ (s : State), s.oscRuns = true ∧ s.boot.phase ≠ .waitRef ∧ s.boot.resetN = true) ∧
    (∃ (s : State) (ag : Agent) (w : Word), s.takes ag Reg.rstSwReset ∧ fld w 31 16 ≠ 0xa5c3 ∧ s.rf (Reg.errCode Page.rst) 15 10 = 0) :=
  ⟨⟨(fun s : State => { s with boot := { s.boot with phase := .powerOn } }) up, by decide +kernel⟩,
   ⟨up, by decide +kernel⟩,
   ⟨up, by decide +kernel⟩,
   ⟨(fun s : State => { s with boot := { s.boot with phase := .pinHeld } }) ((fun s : State =>
     { s with boot := { s.boot with resetN := false } }) up), by decide +kernel⟩,
   ⟨up, Agent.host, 0xa5c30400#32, by decide +kernel⟩,
   ⟨up, by decide +kernel⟩,
   ⟨up, Agent.host, 0x04cf0b2d#32, by decide +kernel⟩⟩

/-- The hypotheses of each clause of SupplySupervisorsComplete can be met together. -/
theorem test_hyps_supply_supervisors_complete :
    (∃ (s : State), s.boot.vddrf = true ∧ s.boot.phase ≠ .powerOn) ∧
    (∃ (s : State), s.boot.vddio = true ∧ s.boot.phase ≠ .powerOn) :=
  ⟨⟨up, by decide +kernel⟩,
   ⟨up, by decide +kernel⟩⟩

/-- The hypotheses of each clause of StartComplete can be met together. -/
theorem test_hyps_start_complete :
    (∃ (s : State), s.boot.phase = .waitRef) ∧
    (∃ (s : State), s.boot.phase = .starting ∧ (startRun (2 ^ 64) s).boot.phase = .starting ∧ s.rb Reg.dbgWdog 0 = false) ∧
    (∃ (s : State) (p : StartPlan), s.boot.phase = .starting ∧ s.boot.plan = some p ∧ p.main = [(3, 0)] ∧ p.rb = [] ∧ p.ends ≤ 2 ^ 64 ∧
      (bootSlot 4 (advance p.ends s)).rf Reg.rstBoot 5 4 = 0 ∧ s.rb Reg.dbgWdog 0 = false) :=
  ⟨⟨(fun s : State => { s with boot := { s.boot with phase := .waitRef } }) up, by decide +kernel⟩,
   ⟨(fun s : State =>
     { s with boot := { s.boot with phase := .starting, plan := some ⟨⟨6, 5, ⟨[], ⟨[], [], [], [9, 3, 5], false, 0, 17, 3, 900⟩, []⟩, []⟩, false, 0, [], 5000, [], 0, false, 0, 0, false⟩ } })
     up, by decide +kernel⟩,
   ⟨(fun s : State =>
     { s with boot := { s.boot with phase := .starting, plan := some ⟨⟨6, 5, ⟨[], ⟨[], [], [], [9, 3, 5], false, 0, 17, 3, 900⟩, []⟩, []⟩, false, 0, [(3, 0)], 5000, [], 0, false, 0, 0, false⟩ }, nvm := { s.nvm with slots := [] } })
     up, ⟨⟨6, 5, ⟨[], ⟨[], [], [], [9, 3, 5], false, 0, 17, 3, 900⟩, []⟩, []⟩, false, 0, [(3, 0)], 5000, [], 0, false, 0, 0, false⟩,
     by decide +kernel⟩⟩

/-- The hypotheses of each clause of BlockResetComplete can be met together. -/
theorem test_hyps_block_reset_complete :
    (∃ (s : State) (ag : Agent) (w : Word) (p : Nat), s.takes ag Reg.rstBlockRst ∧ fld w 31 16 = 0xa5c3 ∧ p = fld w 7 0 ∧ blockResets p =
      true ∧ s.quiesced p = true ∧ s.resetHeld p = false) ∧
    (∃ (s : State) (p : PageIx), p.val ∈ s.boot.blocks ∧ s.mgt.cal.any (fun j => j.owned.any (fun x => x.1 == p.val)) = false) ∧
    (∃ (s : State) (ag : Agent), s.takes ag Reg.clkGate ∧ s.rbState = 0 ∧ s.holder 0x78 = 0 ∧ s.rb Reg.clkGate 0 = false) ∧
    (∃ (s : State) (ag : Agent), s.takes ag Reg.clkGate ∧ s.rbState = 0 ∧ s.holder 0x78 = 0 ∧ s.rb Reg.clkGate 0 = true) ∧
    (∃ (s : State) (ag : Agent), s.takes ag Reg.clkGate ∧ s.rb Reg.clkGate 0 = true ∧ s.rbState = 0) ∧
    (∃ (s : State) (ag : Agent), s.takes ag Reg.clkGate ∧ s.rb Reg.clkGate 0 = false) :=
  ⟨⟨(fun s : State => setRb (Reg.status 6) 0 true (setRb (Reg.ctrl 6) 1 true s)) (taking Agent.host Reg.rstBlockRst up), Agent.host,
     0xa5c30006#32, 6, by decide +kernel⟩,
   ⟨modBoot (fun b => { b with blocks := [6] }) (setRb (Reg.status 6) 0 true (setRb (Reg.status 6) 1 true up)), 6, by decide +kernel⟩,
   ⟨setRf Reg.rbSynState 3 0 0 (taking Agent.host Reg.clkGate up), Agent.host, by decide +kernel⟩,
   ⟨setRf Reg.rbSynState 3 0 0 (setRb Reg.clkGate 0 true (taking Agent.host Reg.clkGate up)), Agent.host, by decide +kernel⟩,
   ⟨setRf Reg.rbSynState 3 0 0 (setRb Reg.clkGate 0 true (taking Agent.host Reg.clkGate up)), Agent.host, by decide +kernel⟩,
   ⟨taking Agent.host Reg.clkGate up, Agent.host, by decide +kernel⟩⟩

/-- The hypotheses of each clause of HollyhockResetComplete can be met together. -/
theorem test_hyps_hollyhock_reset_complete :
    (∃ (s : State) (ag : Agent) (w : Word), s.takes ag Reg.rstSwReset ∧ fld w 31 16 = 0xa5c3 ∧ s.isReady = true) ∧
    (∃ (s : State), s.mgtRuns = true) ∧
    (∃ (s : State), s.boot.mgtDown = true ∧ s.isReady = true ∧ s.gated = false ∧ s.rb Reg.dbgWdog 0 = false ∧ (bootSlot 2 s).rf
      Reg.rstBoot 5 4 ≠ 0) ∧
    (∃ (s : State), s.mgtRuns = true ∧ s.nvm.trialRun = true) :=
  ⟨⟨up, Agent.host, 0xa5c30003#32, by decide +kernel⟩,
   ⟨up, by decide +kernel⟩,
   ⟨(fun s : State => { s with boot := { s.boot with mgtDown := true } }) up, by decide +kernel⟩,
   ⟨(fun s : State => { s with nvm := { s.nvm with trialRun := true } }) up, by decide +kernel⟩⟩

/-- The hypotheses of each clause of ClaimsComplete can be met together. -/
theorem test_hyps_claims_complete :
    (∃ (s : State) (ag : Agent) (w : Word), s.takes ag Reg.sysClaim ∧ resListed (fld w 6 0) = true ∧ bit w 31 = false ∧ (fld w 6 0 < 12 →
      s.quiesced (Page.coil (fld w 6 0)) = false) ∧ s.holder (fld w 6 0) = 0) ∧
    (∃ (s : State) (ag : Agent) (w : Word), s.takes ag Reg.sysClaim ∧ resListed (fld w 6 0) = true ∧ bit w 31 = false ∧ (fld w 6 0 < 12 →
      s.quiesced (Page.coil (fld w 6 0)) = false) ∧ 1 < s.holder (fld w 6 0)) ∧
    (∃ (s : State) (ag : Agent) (w : Word), s.takes ag Reg.sysClaim ∧ resListed (fld w 6 0) = true ∧ bit w 31 = true ∧ s.holder (fld w 6
      0) = 1) ∧
    (∃ (s : State) (ag : Agent) (w : Word), s.takes ag Reg.lspClaim ∧ resListed (fld w 6 0) = true ∧ bit w 31 = false ∧ (fld w 6 0 < 12 →
      s.quiesced (Page.coil (fld w 6 0)) = false) ∧ s.holder (fld w 6 0) = 0 ∧ s.rb (Reg.ctrl Page.lsp) 0 = true) ∧
    (∃ (s : State) (ag : Agent) (w : Word), s.takes ag Reg.lspClaim ∧ resListed (fld w 6 0) = true ∧ bit w 31 = true ∧ s.holder (fld w 6
      0) ≠ 0 ∧ s.holder (fld w 6 0) ≠ 3 ∧ s.rb (Reg.ctrl Page.lsp) 0 = true) ∧
    (∃ (s : State) (ag : Agent) (w : Word), s.takes ag Reg.sysClaim ∧ fld w 6 0 < 12 ∧ bit w 31 = false ∧ s.quiesced (Page.coil (fld w 6
      0)) = true ∧ s.holder (fld w 6 0) ≠ 1) :=
  ⟨⟨taking Agent.host Reg.sysClaim up, Agent.host, 0x25c3003d#32, by decide +kernel⟩,
   ⟨taking Agent.host Reg.sysClaim (setRf (Reg.sysResClaim (fld 0x00000012#32 6 0)) 15 12 3 up), Agent.host, 0x00000012#32,
     by decide +kernel⟩,
   ⟨setRf (Reg.sysResClaim (fld 0x800070e9#32 6 0)) 15 12 1 (taking Agent.host Reg.sysClaim up), Agent.host, 0x800070e9#32,
     by decide +kernel⟩,
   ⟨setRb (Reg.ctrl Page.lsp) 0 true (setRb (Reg.ctrl (Page.coil 3)) 0 true (taking Agent.host Reg.lspClaim up)), Agent.host, 0x435a0003#32,
     by decide +kernel⟩,
   ⟨setRb (Reg.ctrl Page.lsp) 0 true (taking Agent.host Reg.lspClaim (setRf (Reg.sysResClaim (fld 0x80000002#32 6 0)) 15 12 1 up)),
     Agent.host, 0x80000002#32, by decide +kernel⟩,
   ⟨taking Agent.host Reg.sysClaim up, Agent.host, 0x00000003#32, by decide +kernel⟩⟩

/-- The hypotheses of each clause of CalibrationComplete can be met together. -/
theorem test_hyps_calibration_complete :
    (∃ (s : State) (ag : Agent) (w : Word), s.takes ag Reg.calReq ∧ s.mgtRuns = true ∧ s.mgt.cal = none ∧ s.quiesced Page.cal = false ∧
      (s.mgt.job.isSome = true → s.rf Reg.mboxState 31 24 ≠ 0x10) ∧ (bitsOf 12 (fld w 27 16)).all (fun c => s.quiesced (Page.coil c) &&
      s.holder c == 0) = true) ∧
    (∃ (s : State) (ag : Agent), s.takes ag Reg.calReq ∧ s.mgtRuns = true ∧ s.mgt.cal = none ∧ s.quiesced Page.cal = false ∧
      (s.mgt.job.isSome = true → s.rf Reg.mboxState 31 24 ≠ 0x10) ∧ rbPages.all (fun p => s.quiesced p && s.pageUp p) = true ∧ s.holder
      0x78 = 0) ∧
    (∃ (s : State) (ag : Agent), s.takes ag Reg.calReq ∧ s.mgtRuns = true ∧ s.mgt.cal = none ∧ s.quiesced Page.cal = false ∧
      (s.mgt.job.isSome = true → s.rf Reg.mboxState 31 24 ≠ 0x10)) ∧
    (∃ (s : State) (j : CalJob), s.mgt.cal = some j ∧ s.mgtRuns = true) ∧
    (∃ (s : State) (v : Int), s.mgtRuns = true ∧ s.rf Reg.calDrift 7 0 ≠ 0 ∧ s.dieSum = some v ∧ s.drifted v ≠ []) ∧
    (∃ (s : State) (ag : Agent) (w : Word) (c : CoilIx), s.takes ag Reg.calReq ∧ s.mgtRuns = true ∧ s.mgt.cal = none ∧ s.quiesced Page.cal
      = false ∧ (s.mgt.job.isSome = true → s.rf Reg.mboxState 31 24 ≠ 0x10) ∧ (fld w 27 16).testBit c = true ∧ s.quiesced (Page.coil c) =
      false) ∧
    (∃ (s : State) (ag : Agent), s.takes ag Reg.calReq ∧ s.mgtRuns = true ∧ s.mgt.cal = none ∧ s.quiesced Page.cal = false ∧
      (s.mgt.job.isSome = true → s.rf Reg.mboxState 31 24 ≠ 0x10) ∧ rbPages.all (fun p => s.quiesced p && s.pageUp p) = true ∧ s.holder
      0x78 ≠ 0) :=
  ⟨⟨(fun s : State => setRb (Reg.status Page.cal) 0 false (setRb (Reg.ctrl Page.cal) 0 true s)) (taking Agent.host Reg.calReq up),
     Agent.host, 0x00050000#32, by decide +kernel⟩,
   ⟨(fun s : State => setRb (Reg.status Page.cal) 0 false (setRb (Reg.ctrl Page.cal) 0 true s)) (taking Agent.host Reg.calReq up),
     Agent.host, by decide +kernel⟩,
   ⟨(fun s : State => setRb (Reg.status Page.cal) 0 false (setRb (Reg.ctrl Page.cal) 0 true s)) (taking Agent.host Reg.calReq up),
     Agent.host, by decide +kernel⟩,
   ⟨(fun (j : CalJob) => (fun s : State => { s with mgt := { s.mgt with cal := some j } }) up) ⟨6, 42056, 3, false, true, [(2, 1149)]⟩, ⟨6,
     42056, 3, false, true, [(2, 1149)]⟩, by decide +kernel⟩,
   ⟨(fun s : State => { s with mgt := { s.mgt with temps := [(0, some 1000), (1, some 1000), (2, some 1000)], calTemp := [(3, some 10)] } })
     up, 3000, by decide +kernel⟩,
   ⟨(fun s : State => setRb (Reg.status (Page.coil 2)) 0 false (setRb (Reg.ctrl (Page.coil 2)) 0 true s)) ((fun s : State => setRb
     (Reg.status Page.cal) 0 false (setRb (Reg.ctrl Page.cal) 0 true s)) (taking Agent.host Reg.calReq up)), Agent.host, 0x00044a2d#32, 2,
     by decide +kernel⟩,
   ⟨(fun s : State => setRb (Reg.status Page.cal) 0 false (setRb (Reg.ctrl Page.cal) 0 true s)) (taking Agent.host Reg.calReq (setReg
     (Reg.sysResClaim 0x78) (wd 0x1000) up)), Agent.host, by decide +kernel⟩⟩

/-- The hypotheses of each clause of SnapshotAndSyncComplete can be met together. -/
theorem test_hyps_snapshot_and_sync_complete :
    (∃ (s : State) (ag : Agent), s.takes ag Reg.ftbSnapCtrl ∧ s.rb (Reg.ctrl Page.ftb) 0 = true) ∧
    (∃ (s : State) (e : Task), s.delivers 0x34 e) ∧
    (∃ (s : State) (i : Item), s.dispatches 0x10 i ∧ s.rb (Reg.ctrl Page.ftb) 0 = true) ∧
    (∃ (s : State), s.time.snapReq = true ∧ s.gated = false ∧ s.now + 1 < 2 ^ 64) ∧
    (∃ (s : State) (ag : Agent), s.takes ag Reg.ftbSyncCtrl ∧ s.rb (Reg.ctrl Page.ftb) 0 = true) ∧
    (∃ (s : State) (i : Item), s.dispatches 0x11 i ∧ bit (i.word 4) 0 = false ∧ i.hasTick = false ∧ s.rb (Reg.ctrl Page.ftb) 0 = true) ∧
    (∃ (s : State) (k : Nat), s.fldRuns = true ∧ s.rb Reg.ftbSyncCtrl 0 = true ∧ s.pinIgnored (roundUp k 4) = false) ∧
    (∃ (s : State) (ft : Nat), s.fldRuns = true ∧ 839025 ≤ ft ∧ ft ≤ 855975) ∧
    (∃ (s : State) (j : SyncJob) (r : List SyncJob), s.fldRuns = true ∧ s.time.syncJobs = j :: r ∧ j.item = none) ∧
    (∃ (s : State) (i : Item), s.dispatches 0x10 i ∧ s.rb (Reg.ctrl Page.ftb) 0 = false) :=
  ⟨⟨(setRb (Reg.ctrl Page.ftb) 0 true (taking Agent.host Reg.ftbSnapCtrl up)), Agent.host, by decide +kernel⟩,
   ⟨(fun (e : Task) => delivering 0x34 e up) ⟨52, 0, 61, 2⟩, ⟨52, 0, 61, 2⟩, by decide +kernel⟩,
   ⟨(setRb (Reg.ctrl Page.ftb) 0 true ((fun (i : Item) => dispatching 0x10 i up) ⟨16, 3, 668, 0, 17, 138, 0, [], 0, 43, none⟩)), ⟨16, 3, 668,
     0, 17, 138, 0, [], 0, 43, none⟩, by decide +kernel⟩,
   ⟨(fun s : State => { s with time := { s.time with snapReq := true } }) up, by decide +kernel⟩,
   ⟨(setRb (Reg.ctrl Page.ftb) 0 true (taking Agent.host Reg.ftbSyncCtrl up)), Agent.host, by decide +kernel⟩,
   ⟨(setRb (Reg.ctrl Page.ftb) 0 true ((fun (i : Item) => dispatching 0x11 i up) ⟨17, 0, 2266, 13, 9, 44, 0, [], 966, 41, none⟩)), ⟨17, 0,
     2266, 13, 9, 44, 0, [], 966, 41, none⟩, by decide +kernel⟩,
   ⟨setRb Reg.ftbSyncCtrl 0 true up, 0, by decide +kernel⟩,
   ⟨up, 847000, by decide +kernel⟩,
   ⟨(fun s : State => { s with time := { s.time with syncJobs := [⟨1044, true, none⟩] } }) up, ⟨1044, true, none⟩, [], by decide +kernel⟩,
   ⟨(id ((fun (i : Item) => dispatching 0x10 i up) ⟨16, 3, 668, 0, 17, 138, 0, [], 0, 43, none⟩)), ⟨16, 3, 668, 0, 17, 138, 0, [], 0, 43,
     none⟩, by decide +kernel⟩⟩

/-- The hypotheses of each clause of CompareAndCadenceComplete can be met together. -/
theorem test_hyps_compare_and_cadence_complete :
    (∃ (s : State) (ag : Agent) (k : CmpIx), s.unitTakes ag (0x20 + k) (Reg.ftbCmpCtrl k) ∧ s.rb (Reg.ctrl Page.ftb) 0 = true ∧ (s.rb
      (Reg.ftbCmpCtrl k) 0 = true → s.cmpDue k = true)) ∧
    (∃ (s : State) (ag : Agent) (k : CmpIx), s.unitTakes ag (0x20 + k) (Reg.ftbCmpCtrl k) ∧ s.rb (Reg.ctrl Page.ftb) 0 = true ∧ s.rb
      (Reg.ftbCmpCtrl k) 0 = true ∧ s.cmpDue k = false) ∧
    (∃ (s : State) (ag : Agent) (k : CmpIx), s.unitTakes ag (0x20 + k) (Reg.ftbCmpTargetHi k)) ∧
    (∃ (s : State) (k : CmpIx), s.rb (Reg.ftbCmpCtrl k) 0 = true ∧ s.fldRuns = true ∧ s.quiesced Page.ftb = false ∧ s.rf (Reg.errCode
      Page.ftb) 15 10 = 0) ∧
    (∃ (s : State) (ag : Agent) (g : CadIx), s.unitTakes ag (0x40 + g) (Reg.ftbCadCtrl g) ∧ s.rb (Reg.ftbCadCtrl g) 0 = false ∧ s.rb
      (Reg.ftbCadCtrl g) 1 = false ∧ s.rb (Reg.ctrl Page.ftb) 0 = true) ∧
    (∃ (s : State) (ag : Agent) (g : CadIx), s.unitTakes ag (0x40 + g) (Reg.ftbCadCtrl g) ∧ s.rb (Reg.ftbCadCtrl g) 0 = true) ∧
    (∃ (s : State) (g : CadIx), s.rb (Reg.ftbCadCtrl g) 0 = true ∧ s.fldRuns = true ∧ s.quiesced Page.ftb = false) ∧
    (∃ (s : State) (ag : Agent) (g : CadIx), s.unitTakes ag (0x40 + g) (Reg.ftbCadPeriod g) ∧ s.rb (Reg.stageCtrl Page.ftb) 0 = false ∧
      s.rb (Reg.ftbCadCtrl g) 0 = true ∧ tabGet 0 s.time.cadZero g ≤ s.now) ∧
    (∃ (s : State) (e : Task) (c : CapIx), s.delivers (0x30 + c) e ∧ s.rb (Reg.ftbCapCtrl c) 0 = true ∧ tabGet false s.time.capLatched c =
      false ∧ s.rb (Reg.ftbCapStatus c) 0 = false) :=
  ⟨⟨setRb (Reg.ctrl Page.ftb) 0 true (unitTaking Agent.host (0x20 + 2) (Reg.ftbCmpCtrl 2) up), Agent.host, 2, by decide +kernel⟩,
   ⟨setReg (Reg.ftbCmpTargetHi 2) 5 (setRb (Reg.ftbCmpCtrl 2) 0 true (setRb (Reg.ctrl Page.ftb) 0 true (unitTaking Agent.host (0x20 + 2)
     (Reg.ftbCmpCtrl 2) up))), Agent.host, 2, by decide +kernel⟩,
   ⟨unitTaking Agent.host (0x20 + 0) (Reg.ftbCmpTargetHi 0) up, Agent.host, 0, by decide +kernel⟩,
   ⟨(fun s : State => setRb (Reg.status Page.ftb) 0 false (setRb (Reg.ctrl Page.ftb) 0 true s)) (setRb (Reg.ftbCmpCtrl 8) 0 true up), 8,
     by decide +kernel⟩,
   ⟨setRb (Reg.ctrl Page.ftb) 0 true (unitTaking Agent.host (0x40 + 3) (Reg.ftbCadCtrl 3) up), Agent.host, 3, by decide +kernel⟩,
   ⟨setRb (Reg.ftbCadCtrl 4) 0 true (unitTaking Agent.host (0x40 + 4) (Reg.ftbCadCtrl 4) up), Agent.host, 4, by decide +kernel⟩,
   ⟨(fun s : State => setRb (Reg.status Page.ftb) 0 false (setRb (Reg.ctrl Page.ftb) 0 true s)) (setRb (Reg.ftbCadCtrl 6) 0 true up), 6,
     by decide +kernel⟩,
   ⟨setRb (Reg.ftbCadCtrl 2) 0 true (unitTaking Agent.host (0x40 + 2) (Reg.ftbCadPeriod 2) up), Agent.host, 2, by decide +kernel⟩,
   ⟨(fun (e : Task) => setRb (Reg.ftbCapCtrl 1) 0 true (delivering (0x30 + 1) e up)) ⟨49, 0, 61, 13⟩, ⟨49, 0, 61, 13⟩, 1, by decide +kernel⟩⟩

/-- The hypotheses of each clause of TaskEventsComplete can be met together. -/
theorem test_hyps_task_events_complete :
    (∃ (s : State) (e : Task) (k : CmpIx), s.delivers k e ∧ (s.rb (Reg.ftbCmpCtrl k) 0 = true → s.cmpDue k = true)) ∧
    (∃ (s : State) (e : Task) (k : CmpIx), s.delivers k e ∧ s.rb (Reg.ftbCmpCtrl k) 0 = true ∧ s.cmpDue k = false ∧ s.rf (Reg.errCode
      Page.evf) 15 10 = 0) ∧
    (∃ (s : State) (e : Task) (g : CadIx), s.delivers (0x20 + g) e ∧ s.rb (Reg.ftbCadCtrl g) 0 = false ∧ s.rb (Reg.ftbCadCtrl g) 1 =
      false) ∧
    (∃ (s : State) (e : Task) (g : CadIx), s.delivers (0x28 + g) e ∧ s.rb (Reg.ftbCadCtrl g) 0 = true) ∧
    (∃ (s : State) (e : Task), s.delivers 0x35 e ∧ s.syncBusy = false) ∧
    (∃ (s : State) (e : Task), s.delivers 0x9b e) ∧
    (∃ (s : State) (e : Task), s.delivers 0x9a e) ∧
    (∃ (s : State) (e : Task) (n : GpIx), s.delivers (0x38 + n) e ∧ tabGet none s.fab.gpPulse n = none ∧ s.rf (Reg.evfGpCfg n) 2 0 = 2 ∧
      s.rf (Reg.evfGpCfg n) 7 6 = 3) :=
  ⟨⟨(fun (e : Task) => delivering 10 e up) ⟨10, 0, 62, 0⟩, ⟨10, 0, 62, 0⟩, 10, by decide +kernel⟩,
   ⟨setReg (Reg.ftbCmpTargetHi 5) 7 ((fun (e : Task) => setRb (Reg.ftbCmpCtrl 5) 0 true (delivering 5 e up)) ⟨5, 2, 10, 5⟩), ⟨5, 2, 10, 5⟩,
     5, by decide +kernel⟩,
   ⟨(fun (e : Task) => delivering (0x20 + 3) e up) ⟨35, 8, 6, 0⟩, ⟨35, 8, 6, 0⟩, 3, by decide +kernel⟩,
   ⟨(fun (e : Task) => setRb (Reg.ftbCadCtrl 1) 0 true (delivering (0x28 + 1) e up)) ⟨41, 885, 19, 0⟩, ⟨41, 885, 19, 0⟩, 1,
     by decide +kernel⟩,
   ⟨(fun (e : Task) => delivering 0x35 e up) ⟨53, 5, 35, 13⟩, ⟨53, 5, 35, 13⟩, by decide +kernel⟩,
   ⟨(fun (e : Task) => delivering 0x9b e up) ⟨155, 0, 52, 2⟩, ⟨155, 0, 52, 2⟩, by decide +kernel⟩,
   ⟨(fun (e : Task) => delivering 0x9a e up) ⟨154, 0, 57, 0⟩, ⟨154, 0, 57, 0⟩, by decide +kernel⟩,
   ⟨(fun (e : Task) => setRf (Reg.evfGpCfg 1) 7 6 3 (setRf (Reg.evfGpCfg 1) 2 0 2 (delivering (0x38 + 1) e up))) ⟨57, 12, 61, 0⟩, ⟨57, 12,
     61, 0⟩, 1, by decide +kernel⟩⟩

/-- The hypotheses of each clause of EventFabricComplete can be met together. -/
theorem test_hyps_event_fabric_complete :
    (∃ (s : State) (n : ChanIx) (k : Nat) (e : Event), s.gated = false ∧ s.quiesced Page.evf = false ∧ s.fab.waiting.filter (fun x =>
      s.chanOf x == n) = [e] ∧ (s.limiter n).held = none ∧ (s.limiter n).last.all (fun p => decide (p + s.spacing n ≤ k)) = true) ∧
    (∃ (s : State) (n : ChanIx) (k : Nat) (x : Event) (y : Event), s.gated = false ∧ s.quiesced Page.evf = false ∧ s.fab.waiting.filter
      (fun z => s.chanOf z == n) = [x, y] ∧ (s.limiter n).held = none ∧ (s.limiter n).last.all (fun p => decide (p + s.spacing n ≤ k)) =
      true ∧ x.prod ≠ 0xf8 ∧ x.prod ≠ 0xf9 ∧ y.prod ≠ 0xf8 ∧ y.prod ≠ 0xf9) ∧
    (∃ (s : State) (n : ChanIx) (k : Nat) (p : Nat) (x : Event) (y : Event), s.gated = false ∧ s.quiesced Page.evf = false ∧
      s.fab.waiting.filter (fun z => s.chanOf z == n) = [x, y] ∧ (s.limiter n).held = none ∧ (s.limiter n).last = some p ∧ k < p +
      s.spacing n) ∧
    (∃ (s : State) (n : ChanIx) (k : Nat) (e : Event) (h : HeldEvent), s.gated = false ∧ s.quiesced Page.evf = false ∧
      s.fab.waiting.filter (fun x => s.chanOf x == n) = [e] ∧ (s.limiter n).held = some h ∧ k < h.due ∧ s.rf (Reg.errCode Page.evf) 15 10
      = 0) ∧
    (∃ (s : State) (n : ChanIx) (k : Nat) (p : Nat) (e : Event), s.gated = false ∧ s.quiesced Page.evf = false ∧ s.fab.waiting.filter (fun
      x => s.chanOf x == n) = [e] ∧ (s.limiter n).held = none ∧ (s.limiter n).last = some p ∧ k < p + s.spacing n) ∧
    (∃ (s : State) (n : ChanIx) (h : HeldEvent), s.gated = false ∧ (s.limiter n).held = some h) ∧
    (∃ (s : State) (ag : Agent) (w : Word), s.reaches ag Reg.evfFire ∧ s.chanSecure ag (fld w 5 0) = false ∧ s.rb (Reg.ctrl Page.evf) 0 =
      true) ∧
    (∃ (s : State) (ag : Agent) (w : Word), s.reaches ag Reg.evfFireMaskHi ∧ (bitsOf 64 (pair (s.loFor Reg.evfFireMaskLo) w)).any
      (s.chanSecure ag) = false ∧ s.rb (Reg.ctrl Page.evf) 0 = true) ∧
    (∃ (s : State) (w : Word), s.reaches .host Reg.evfChReclaim ∧ fld w 31 16 = 0xc35a ∧ s.rf (Reg.evfChCfg (fld w 5 0)) 15 14 = 2) ∧
    (∃ (s : State) (ag : Agent), s.takes ag Reg.evfCntClr) ∧
    (∃ (s : State) (n : GpIx) (b : Bool), s.gated = false ∧ s.rb Reg.evfGpIn n ≠ b) ∧
    (∃ (s : State) (u : State) (n : GpIx) (k : Nat), s.gated = false ∧ tabGet none s.fab.gpPulse n = some k ∧ u = cellsNow (passTo k s)) ∧
    (∃ (s : State) (ag : Agent) (w : Word), s.takes ag Reg.evfGpOut ∧ (bitsOf 16 (fld w 31 16)).all (fun n => s.holds ag (0x68 + n)) =
      true) ∧
    (∃ (s : State) (u : State) (c : CellIx) (k : Nat), s.quiesced Page.evfLut = false ∧ s.gated = false ∧ s.rf (Reg.evfLutCellCfg c) 15 12
      = 0 ∧ u = cellsTo k (passTo (k / 2) s)) :=
  ⟨⟨(fun (e : Event) => (fun s : State => setRb (Reg.status Page.evf) 0 false (setRb (Reg.ctrl Page.evf) 0 true s)) ((fun s : State =>
     { s with fab := { s.fab with waiting := [{ e with named := some 17 }], limiters := [] } }) up)) ⟨0, 1, some 17⟩, 17, 2000, ⟨0, 1,
     some 17⟩, by decide +kernel⟩,
   ⟨(fun (x y : Event) => (fun s : State => setRb (Reg.status Page.evf) 0 false (setRb (Reg.ctrl Page.evf) 0 true s)) ((fun s : State =>
     { s with fab := { s.fab with waiting := [{ x with named := some 17 }, { y with named := some 17 }], limiters := [(17, { last := some 1000 })] } })
     up)) ⟨5, 9, some 17⟩ ⟨3, 11, some 17⟩, 17, 2000, ⟨5, 9, some 17⟩, ⟨3, 11, some 17⟩, by decide +kernel⟩,
   ⟨(fun (x y : Event) => (fun s : State => setRb (Reg.status Page.evf) 0 false (setRb (Reg.ctrl Page.evf) 0 true s)) ((fun s : State =>
     { s with fab := { s.fab with waiting := [{ x with named := some 17 }, { y with named := some 17 }], limiters := [(17, { last := some 2000 })] } })
     up)) ⟨5, 9, some 17⟩ ⟨3, 11, some 17⟩, 17, 2000, 2000, ⟨5, 9, some 17⟩, ⟨3, 11, some 17⟩, by decide +kernel⟩,
   ⟨(fun (e : Event) (h : HeldEvent) => (fun s : State => setRb (Reg.status Page.evf) 0 false (setRb (Reg.ctrl Page.evf) 0 true s)) ((fun s :
     State => setLimiter 17 { held := some h } { s with fab := { s.fab with waiting := [{ e with named := some 17 }] } }) up)) ⟨5, 9, some
     17⟩ ⟨3, 0, true, 1024, false, [0]⟩, 17, 1000, ⟨5, 9, some 17⟩, ⟨3, 0, true, 1024, false, [0]⟩, by decide +kernel⟩,
   ⟨(fun (e : Event) => (fun s : State => setRb (Reg.status Page.evf) 0 false (setRb (Reg.ctrl Page.evf) 0 true s)) ((fun s : State =>
     { s with fab := { s.fab with waiting := [{ e with named := some 6 }], limiters := [(6, { last := some 0 })] } }) up)) ⟨0, 970, some
     6⟩, 6, 0, 0, ⟨0, 970, some 6⟩, by decide +kernel⟩,
   ⟨(fun (h : HeldEvent) => setLimiter 11 { held := some h } up) ⟨3, 0, true, 1024, false, [0]⟩, 11, ⟨3, 0, true, 1024, false, [0]⟩,
     by decide +kernel⟩,
   ⟨setRb (Reg.ctrl Page.evf) 0 true (up), Agent.host, 0x07f10403#32, by decide +kernel⟩,
   ⟨setRb (Reg.ctrl Page.evf) 0 true (up), Agent.host, 0xa5c3001d#32, by decide +kernel⟩,
   ⟨setRf (Reg.evfChCfg (fld 0xc35a0c7f#32 5 0)) 15 14 2 up, 0xc35a0c7f#32, by decide +kernel⟩,
   ⟨taking Agent.host Reg.evfCntClr up, Agent.host, by decide +kernel⟩,
   ⟨up, 5, true, by decide +kernel⟩,
   ⟨(fun s : State => { s with fab := { s.fab with gpPulse := [(8, some 0)] } }) up, _, 8, 0, by decide +kernel, by decide +kernel, rfl⟩,
   ⟨taking Agent.host Reg.evfGpOut ((fun s : State => (List.range 16).foldl (fun s n => setRf (Reg.sysResClaim (0x68 + n)) 15 12
     (agentClaimant Agent.host) s) s) up), Agent.host, 0x0e00784b#32, by decide +kernel⟩,
   ⟨(fun s : State => setRb (Reg.status Page.evfLut) 0 false (setRb (Reg.ctrl Page.evfLut) 0 true s)) up, _, 2, 20, by decide +kernel,
     by decide +kernel, by decide +kernel, rfl⟩⟩

/-- The hypotheses of each clause of ChainCommandsComplete can be met together. -/
theorem test_hyps_chain_commands_complete :
    (∃ (s : State) (u : State) (ag : Agent) (n : CoilIx) (w : Word), s.takes ag (Reg.coilChainCtrl n) ∧ s.rb (Reg.stageCtrl (Page.coil n))
      0 = false ∧ s.quiesced (Page.coil n) = false ∧ u = chainEdge n s.now s ∧ u.rb (Reg.coilChainStatus n) 0 = true ∧ bit w 0 = true ∧
      bit w 1 = s.rb (Reg.coilChainCtrl n) 1) ∧
    (∃ (s : State) (ag : Agent) (n : CoilIx) (w : Word), s.takes ag (Reg.coilChainCtrl n) ∧ s.rb (Reg.stageCtrl (Page.coil n)) 0 = false ∧
      s.quiesced (Page.coil n) = false ∧ (chainEdge n s.now s).rb (Reg.coilChainStatus n) 0 = true ∧ bit w 0 = true ∧ bit w 1 ≠ s.rb
      (Reg.coilChainCtrl n) 1) ∧
    (∃ (s : State) (n : CoilIx), s.rb (Reg.coilChainStatus n) 0 = true ∧ (s.coil n).pendReset = none) ∧
    (∃ (s : State) (n : CoilIx) (l : List Int), s.rb (Reg.coilChainStatus n) 0 = false ∧ (s.coil n).pendReset = none ∧ l.all (fun x =>
      !clipped (adc x)) = true) ∧
    (∃ (s : State) (n : CoilIx) (x : Int) (p1 : StageSt) (p2 : StageSt) (p3 : StageSt) (z1 : Int × Int) (z2 : Int × Int) (z3 : Int × Int)
      (y : Int × Int) (k : Nat), s.rb (Reg.coilChainStatus n) 0 = true ∧ (s.coil n).pendReset = none ∧ k = (s.coil n).nextTick ∧ k + 10 <
      2 ^ 64 ∧ stagePush ((s.coil n).loaded.getD 0 0) (s.coil n).st1 (mix k (adc x)) = (p1, some (z1, 0)) ∧ stagePush ((s.coil
      n).loaded.getD 1 0) (s.coil n).st2 z1 = (p2, some (z2, 0)) ∧ stagePush ((s.coil n).loaded.getD 2 0) (s.coil n).st3 z2 = (p3, some
      (z3, 0)) ∧ y = calGain (s.reg (Reg.coilCalGain n)) z3) ∧
    (∃ (s : State) (ag : Agent) (n : CoilIx), s.takes ag (Reg.coilCntClr n)) ∧
    (∃ (s : State) (n : CoilIx) (e : Nat) (ws : List Word), s.rb (Reg.coilChainStatus n) 0 = true ∧ s.quiesced (Page.coil n) = false ∧
      s.fldRuns = true ∧ (s.coil n).pendReset = some (e, ws) ∧ e ≤ (s.coil n).nextTick) :=
  ⟨⟨setRb (Reg.coilChainStatus 6) 0 true ((fun s : State => setRb (Reg.status (Page.coil 6)) 0 false (setRb (Reg.ctrl (Page.coil 6)) 0 true
     s)) (taking Agent.host (Reg.coilChainCtrl 6) (setReg (Reg.coilChainCtrl 6) 3 up))), _, Agent.host, 6, 0x00000007#32,
     by decide +kernel, by decide +kernel, by decide +kernel, rfl, by decide +kernel, by decide +kernel, by decide +kernel⟩,
   ⟨setRb (Reg.coilChainStatus 7) 0 true ((fun s : State => setRb (Reg.status (Page.coil 7)) 0 false (setRb (Reg.ctrl (Page.coil 7)) 0 true
     s)) (taking Agent.host (Reg.coilChainCtrl 7) (setReg (Reg.coilChainCtrl 7) 3 up))), Agent.host, 7, 0x00000001#32, by decide +kernel⟩,
   ⟨modCoil 6 (fun e => { e with loaded := [0, 0, 0] }) ((fun s : State => setRb (Reg.status (Page.coil 6)) 0 false (setRb (Reg.ctrl
     (Page.coil 6)) 0 true s)) (setRb (Reg.coilChainStatus 6) 0 true up)), 6, by decide +kernel⟩,
   ⟨up, 6, [2, -3], by decide +kernel⟩,
   ⟨setReg (Reg.coilCalGain 6) 0x40000000 (modCoil 6 (fun e => { e with loaded := [0, 0, 0] }) ((fun s : State => setRb (Reg.status
     (Page.coil 6)) 0 false (setRb (Reg.ctrl (Page.coil 6)) 0 true s)) (setRb (Reg.coilChainStatus 6) 0 true up))), 6, 2, ⟨[(2, 0)], 0⟩,
     ⟨[(2, 0)], 0⟩, ⟨[(2, 0)], 0⟩, (2, 0), (2, 0), (2, 0), (2, 0), 0, by decide +kernel⟩,
   ⟨taking Agent.host (Reg.coilCntClr 2) up, Agent.host, 2, by decide +kernel⟩,
   ⟨modCoil 6 (fun e => { e with nextTick := 1008, pendReset := some (1008, [5]) }) ((fun s : State => setRb (Reg.status (Page.coil 6)) 0
     false (setRb (Reg.ctrl (Page.coil 6)) 0 true s)) (setRb (Reg.coilChainStatus 6) 0 true up)), 6, 1008, [5], by decide +kernel⟩⟩

/-- The hypotheses of each clause of CoilDriveComplete can be met together. -/
theorem test_hyps_coil_drive_complete :
    (∃ (s : State), s.moving = false) ∧
    (∃ (s : State), s.moving = true) ∧
    (∃ (s : State) (c : CoilIx) (k : Nat), (s.coil c).mmDue = some k) ∧
    (∃ (s : State) (c : CoilIx), (s.coilOn c = true ∨ s.watchPulse c = true) ∧ s.rf (Reg.errCode (Page.coil c)) 15 10 = 0) ∧
    (∃ (s : State) (c : CoilIx), (s.coilOn c = false ∨ s.holder c = 2)) :=
  ⟨⟨(fun s : State => setRf (Reg.sysResClaim 5) 15 12 (4 + 3 % 4) (setRb (Reg.coilDriveStatus 5) 0 true s)) up, by decide +kernel⟩,
   ⟨modEng 2 (fun e => { e with fade := some (992, 5) }) up, by decide +kernel⟩,
   ⟨modCoil 3 (fun e => { e with mmDue := some 8 }) up, 3, 8, by decide +kernel⟩,
   ⟨setRb (Reg.coilDriveStatus 6) 0 true up, 6, by decide +kernel⟩,
   ⟨up, 9, by decide +kernel⟩⟩

/-- The hypotheses of each clause of FieldShapingComplete can be met together. -/
theorem test_hyps_field_shaping_complete :
    (∃ (s : State) (ag : Agent) (n : EngIx) (m : Nat), s.takes ag (Reg.fwgtFeCoils n) ∧ s.rb (Reg.stageCtrl Page.fwgt) 0 = false ∧ m <
      4096 ∧ s.coilRefused n (m &&& (s.coilSet n ^^^ 0xfff)) = none ∧ s.rb (Reg.ctrl Page.fwgt) 0 = true) ∧
    (∃ (s : State) (ag : Agent) (n : EngIx) (m : Nat), s.takes ag (Reg.fwgtFeCoils n) ∧ s.rb (Reg.stageCtrl Page.fwgt) 0 = false ∧ m <
      4096 ∧ (bitsOf 12 m).all (fun c => !s.coilOn c) = true) ∧
    (∃ (s : State) (c : CoilIx), (s.coil c).damped = true ∧ s.coilOn c = false) ∧
    (∃ (s : State) (ag : Agent) (n : EngIx) (b : Bool), s.takes ag (Reg.fwgtFeBank n) ∧ s.rb (Reg.stageCtrl Page.fwgt) 0 = false ∧ (s.eng
      n).fade = none ∧ (s.eng n).swapTo = none ∧ s.quiesced Page.fwgt = false ∧ s.rf (Reg.fwgtFeBank n) 0 0 = s.bankInUse n ∧ b.toNat ≠
      s.bankInUse n ∧ 0 < s.rf (Reg.fwgtFeBank n) 26 16) ∧
    (∃ (s : State) (e : Task) (n : EngIx), s.delivers (0x94 + n) e ∧ (s.eng n).fade = none ∧ (s.eng n).swapTo = none ∧ s.rf
      (Reg.fwgtFeBank n) 0 0 = s.bankInUse n ∧ 0 < s.rf (Reg.fwgtFeBank n) 26 16) ∧
    (∃ (s : State) (n : EngIx) (k : Nat) (len : Nat), (s.eng n).fade = some (k, len) ∧ (s.eng n).swapTo = none) ∧
    (∃ (s : State) (ag : Agent) (n : EngIx) (c : CoilIx), s.takes ag (Reg.fwgtFeWa n c) ∧ s.bankInUse n = 1 ∧ (s.eng n).fade = none ∧
      (s.eng n).swapTo = none) ∧
    (∃ (s : State) (ag : Agent) (n : EngIx) (c : CoilIx), s.takes ag (Reg.fwgtFeWb n c) ∧ s.bankInUse n = 1 ∧ s.rf (Reg.errCode Page.fwgt)
      15 10 = 0) ∧
    (∃ (s : State) (ag : Agent), s.takes ag Reg.fwgtCntClr) ∧
    (∃ (s : State) (u : State) (mw : Nat), 105 * s.budgetB < 100 * (mw * 1000 * powerUnit) ∧ u = limitEnd (passTo s.nextCc (setRf
      Reg.fwgtGovMeas 11 0 (min 4095 mw) s))) :=
  ⟨⟨setRb (Reg.ctrl Page.fwgt) 0 true (taking Agent.host (Reg.fwgtFeCoils 2) up), Agent.host, 2, 0, by decide +kernel⟩,
   ⟨taking Agent.host (Reg.fwgtFeCoils 0) up, Agent.host, 0, 0, by decide +kernel⟩,
   ⟨modCoil 4 (fun e => { e with damped := true }) up, 4, by decide +kernel⟩,
   ⟨(fun s : State => setRb (Reg.status Page.fwgt) 0 false (setRb (Reg.ctrl Page.fwgt) 0 true s)) (taking Agent.host (Reg.fwgtFeBank 2)
     (setRf (Reg.fwgtFeBank 2) 26 16 100 up)), Agent.host, 2, true, by decide +kernel⟩,
   ⟨(fun (e : Task) => delivering (0x94 + 3) e (setRf (Reg.fwgtFeBank 3) 26 16 100 up)) ⟨151, 0, 12, 0⟩, ⟨151, 0, 12, 0⟩, 3,
     by decide +kernel⟩,
   ⟨modEng 1 (fun e => { e with fade := some (0, 5) }) up, 1, 0, 5, by decide +kernel⟩,
   ⟨taking Agent.host (Reg.fwgtFeWa 0 7) (setRf (Reg.fwgtFeBank 0) 2 2 1 up), Agent.host, 0, 7, by decide +kernel⟩,
   ⟨taking Agent.host (Reg.fwgtFeWb 2 5) (setRf (Reg.fwgtFeBank 2) 2 2 1 up), Agent.host, 2, 5, by decide +kernel⟩,
   ⟨taking Agent.host Reg.fwgtCntClr up, Agent.host, by decide +kernel⟩,
   ⟨up, _, 4489, by decide +kernel, rfl⟩⟩

/-- The hypotheses of each clause of FieldStepsComplete can be met together. -/
theorem test_hyps_field_steps_complete :
    (∃ (s : State) (n : EngIx) (c : CoilIx) (i : Issued), s.nextStep n = some i ∧ i.op = 1 ∧ s.quiesced (Page.fe n) = false ∧ i.operand =
      2 ^ 24 + 2 ^ c.val ∧ s.feHolds n c = true ∧ s.driveBar = none ∧ (s.coil c).damped = false ∧ (s.coil c).injected = false ∧ s.commit =
      none) ∧
    (∃ (s : State) (n : EngIx) (i : Issued), s.nextStep n = some i ∧ i.op = 1 ∧ s.quiesced (Page.fe n) = false ∧ i.operand = 0) ∧
    (∃ (s : State) (n : EngIx) (i : Issued), s.nextStep n = some i ∧ i.op = 2 ∧ s.quiesced (Page.fe n) = false ∧ s.quiesced Page.fwgt =
      false ∧ (s.eng n).fade = none ∧ (s.eng n).swapTo = none ∧ i.operand % 2 ≠ s.bankInUse n ∧ 0 < s.rf (Reg.fwgtFeBank n) 26 16) :=
  ⟨⟨(fun (i : Issued) => (fun s : State => setRb (Reg.status (Page.fe 3)) 0 false (setRb (Reg.ctrl (Page.fe 3)) 0 true s)) ((fun s : State =>
     setRb Reg.sensProt 28 false (modPlayer 3 (fun p => { p with flight := [i] }) s)) ((fun s : State => setRf (Reg.sysResClaim 1) 15 12
     (4 + 3) { s with boot := { s.boot with vfld := true, overvolt := false } }) up))) ⟨1, 92, 16777218, 81, 2407, 0, 619, 0, 0⟩, 3, 1,
     ⟨1, 92, 16777218, 81, 2407, 0, 619, 0, 0⟩, by decide +kernel⟩,
   ⟨(fun (i : Issued) => (fun s : State => setRb (Reg.status (Page.fe 3)) 0 false (setRb (Reg.ctrl (Page.fe 3)) 0 true s)) ((fun s : State =>
     setRf (Reg.sysResClaim 3) 15 12 (4 + 3) (modPlayer 3 (fun p => { p with flight := [i] }) s)) up)) ⟨1, 0, 0, 0, 95027, 0, 2, 0, 0⟩, 3,
     ⟨1, 0, 0, 0, 95027, 0, 2, 0, 0⟩, by decide +kernel⟩,
   ⟨(fun (i : Issued) => (fun s : State => setRb (Reg.status Page.fwgt) 0 false (setRb (Reg.ctrl Page.fwgt) 0 true s)) ((fun s : State =>
     setRb (Reg.status (Page.fe 3)) 0 false (setRb (Reg.ctrl (Page.fe 3)) 0 true s)) ((fun s : State => setRf (Reg.fwgtFeBank 3) 26 16 100
     (modPlayer 3 (fun p => { p with flight := [i] }) s)) up))) ⟨2, 0, 129, 0, 33992, 4859, 9, 0, 0⟩, 3, ⟨2, 0, 129, 0, 33992, 4859, 9, 0,
     0⟩, by decide +kernel⟩⟩

/-- The hypotheses of each clause of SessionLifeComplete can be met together. -/
theorem test_hyps_session_life_complete :
    (∃ (s : State) (i : Item) (k : SlotIx), s.dispatches 0x01 i ∧ s.quiesced Page.sess = false ∧ fld (i.word 4) 31 30 < 3 ∧ fld (i.word 4)
      23 20 ≤ 8 ∧ s.pickSlot = some k.val) ∧
    (∃ (s : State) (i : Item), s.dispatches 0x01 i ∧ s.quiesced Page.sess = false ∧ fld (i.word 4) 31 30 < 3 ∧ fld (i.word 4) 23 20 ≤ 8 ∧
      s.pickSlot = none) ∧
    (∃ (s : State) (i : Item), s.dispatches 0x02 i ∧ s.quiesced Page.sess = false ∧ s.badHandle i = none) ∧
    (∃ (s : State) (k : SlotIx) (i : Item), tabGet none s.sess.closing k = some i ∧ i.slot = k ∧ s.closeDue k i = true ∧ s.quiesced
      Page.queue = false ∧ s.resFill + 4 ≤ 4096) ∧
    (∃ (s : State) (k : SlotIx) (i : Item), tabGet none s.sess.closing k = some i ∧ s.closeDue k i = true ∧ 4096 < s.resFill + 4) :=
  ⟨⟨(fun (i : Item) => (fun s : State => setRb (Reg.status Page.sess) 0 false (setRb (Reg.ctrl Page.sess) 0 true s)) (dispatching 0x01 i
     ((fun s : State =>
     { s with sess := { s.sess with freed := 209 :: s.sess.freed, used := (List.range 256).map (fun j => (j, true)) } }) up))) ⟨1, 0,
     1132, 6, 0, 84, 1000, [0x20000000#32], 0, 2, none⟩, ⟨1, 0, 1132, 6, 0, 84, 1000, [0x20000000#32], 0, 2, none⟩, 209,
     by decide +kernel⟩,
   ⟨(fun (i : Item) => (fun s : State => setRb (Reg.status Page.sess) 0 false (setRb (Reg.ctrl Page.sess) 0 true s)) (dispatching 0x01 i
     ((fun s : State => { s with sess := { s.sess with freed := [], used := (List.range 256).map (fun j => (j, true)) } }) up))) ⟨1, 2,
     2615, 2, 0, 101, 860, [0x20000000#32], 0, 22, some 914⟩, ⟨1, 2, 2615, 2, 0, 101, 860, [0x20000000#32], 0, 22, some 914⟩,
     by decide +kernel⟩,
   ⟨(fun (i : Item) => (fun s : State => setRb (Reg.status Page.sess) 0 false (setRb (Reg.ctrl Page.sess) 0 true s)) (dispatching 0x02 i
     ((fun s : State => setCtx16 i.slot 0 i.handle (setCtx i.slot 3 (1 + 16 * (i.flags % 16)) s)) up))) ⟨2, 0, 2596, 10, 7, 75, 396, [],
     0, 28, some 8⟩, ⟨2, 0, 2596, 10, 7, 75, 396, [], 0, 28, some 8⟩, by decide +kernel⟩,
   ⟨(fun (i : Item) => setRb (Reg.ctrl 5) 0 true (modSess (fun x => { x with closing := tabSet none x.closing 81 (some i), pend := [] }) up))
     ⟨18, 1, 156, 0x0551, 13, 62, 1, [], 0, 13, some 5⟩, 81, ⟨18, 1, 156, 0x0551, 13, 62, 1, [], 0, 13, some 5⟩, by decide +kernel⟩,
   ⟨(fun (i : Item) => modQueue (fun q => { q with res := List.replicate 1024 ⟨4, 1, 2674, 9, 0, 110, 2, [], 352, 16, none⟩ }) (modSess (fun
     x => { x with closing := tabSet none x.closing 81 (some i), pend := [] }) up)) ⟨18, 1, 156, 0x0551, 13, 62, 1, [], 0, 13, some 5⟩,
     81, ⟨18, 1, 156, 0x0551, 13, 62, 1, [], 0, 13, some 5⟩, by decide +kernel⟩⟩

/-- The hypotheses of each clause of SessionPlacementComplete can be met together. -/
theorem test_hyps_session_placement_complete :
    (∃ (s : State) (i : Item) (n : Nat), s.dispatches 0x03 i ∧ s.badHandle i = none ∧ s.sessState i.slot = SessState.opened ∧
      s.targetEngine i.slot (fld (i.word 4) 31 28) = some n ∧ (n = 0xe ∨ s.engineFits i.slot n = true)) ∧
    (∃ (s : State) (i : Item), s.dispatches 0x04 i ∧ s.badHandle i = none ∧ s.sessKind i.slot ≠ 1 ∧ (s.sessState i.slot = SessState.placed
      ∨ s.sessState i.slot = SessState.busy) ∧ fld (i.word 4) 31 28 ≠ s.sessEngine i.slot ∧ fld (i.word 4) 31 28 < 4 ∧ s.engineFits i.slot
      (fld (i.word 4) 31 28) = true) ∧
    (∃ (s : State) (i : Item), s.dispatches 0x04 i ∧ s.badHandle i = none ∧ s.sessKind i.slot ≠ 1 ∧ (s.sessState i.slot = SessState.placed
      ∨ s.sessState i.slot = SessState.busy) ∧ fld (i.word 4) 31 28 = s.sessEngine i.slot) ∧
    (∃ (s : State) (k : SlotIx) (n : EngIx) (c : Item), s.fence k = some ⟨n, some c⟩ ∧ s.inFlight k = false) ∧
    (∃ (s : State) (k : SlotIx) (n : EngIx), s.fence k = some ⟨n, none⟩ ∧ s.inFlight k = false) :=
  ⟨⟨(fun (i : Item) (n : Nat) => dispatching 0x03 i ((fun s : State => (List.range 4).foldl (fun s n => setRf (Reg.feMode n) 3 0 1 (setRb
     (Reg.ctrl (Page.fe n)) 0 true (setRf (Reg.fwgtFeCoils n) 27 16 5 s))) (setCtx i.slot 8 1 s)) ((fun s : State => setCtx16 i.slot 0
     i.handle (setCtx i.slot 3 (1 + 16 * (i.flags % 16)) s)) up))) ⟨3, 3, 465, 4, 17, 147, 12485, [0x30000000#32], 348, 15, none⟩ 3, ⟨3,
     3, 465, 4, 17, 147, 12485, [0x30000000#32], 348, 15, none⟩, 3, by decide +kernel⟩,
   ⟨(fun (i : Item) => dispatching 0x04 i ((fun s : State => (List.range 4).foldl (fun s n => setRf (Reg.feMode n) 3 0 1 (setRb (Reg.ctrl
     (Page.fe n)) 0 true (setRf (Reg.fwgtFeCoils n) 27 16 5 s))) (setCtx i.slot 8 1 s)) (setCtx i.slot 4 ((i.flags + 1) % 4) ((fun s :
     State => setCtx16 i.slot 0 i.handle (setCtx i.slot 3 (2 + 16 * (i.flags % 16)) s)) up)))) ⟨4, 1, 3373, 14, 0, 48, 0, [0x00000000#32],
     93, 0, some 1000⟩, ⟨4, 1, 3373, 14, 0, 48, 0, [0x00000000#32], 93, 0, some 1000⟩, by decide +kernel⟩,
   ⟨(fun (i : Item) => dispatching 0x04 i (setCtx i.slot 4 (i.flags % 4) ((fun s : State => setCtx16 i.slot 0 i.handle (setCtx i.slot 3 (2 +
     16 * (i.flags % 16)) s)) up))) ⟨4, 3, 2843, 6, 0, 67, 3, [0x30000000#32], 0, 36, none⟩, ⟨4, 3, 2843, 6, 0, 67, 3, [0x30000000#32], 0,
     36, none⟩, by decide +kernel⟩,
   ⟨(fun (c : Item) => setFence 165 (some ⟨2, some c⟩) up) ⟨9, 3, 2709, 5, 0, 227, 1179, [], 58, 10, none⟩, 165, 2, ⟨9, 3, 2709, 5, 0, 227,
     1179, [], 58, 10, none⟩, by decide +kernel⟩,
   ⟨setFence 4 (some ⟨2, none⟩) up, 4, 2, by decide +kernel⟩⟩

/-- The hypotheses of each clause of BadHandlesRefused can be met together. -/
theorem test_hyps_bad_handles_refused :
    (∃ (s : State) (i : Item) (e : Nat) (x : Nat), s.dispatches 0x02 i ∧ s.quiesced Page.sess = false ∧ s.badHandle i = some (e, x)) ∧
    (∃ (s : State) (i : Item) (e : Nat) (x : Nat), s.dispatches 0x03 i ∧ s.badHandle i = some (e, x)) ∧
    (∃ (s : State) (i : Item) (e : Nat) (x : Nat), s.dispatches 0x04 i ∧ s.badHandle i = some (e, x)) ∧
    (∃ (s : State) (i : Item) (e : Nat) (x : Nat), s.dispatches 0x08 i ∧ s.badHandle i = some (e, x)) ∧
    (∃ (s : State) (i : Item) (e : Nat) (x : Nat), s.dispatches 0x09 i ∧ s.badHandle i = some (e, x)) ∧
    (∃ (s : State) (i : Item) (e : Nat) (x : Nat), s.dispatches 0x0a i ∧ s.badHandle i = some (e, x)) :=
  ⟨⟨(fun (i : Item) => (fun s : State => setRb (Reg.status Page.sess) 0 false (setRb (Reg.ctrl Page.sess) 0 true s)) (dispatching 0x02 i up))
     ⟨2, 3, 1774, 15, 17, 235, 1000, [], 254, 24, none⟩, ⟨2, 3, 1774, 15, 17, 235, 1000, [], 254, 24, none⟩, 2, 0, by decide +kernel⟩,
   ⟨(fun (i : Item) => dispatching 0x03 i ((fun s : State => modSess (fun y => { y with gens := tabSet 0 y.gens i.slot 77 }) (setCtx16 i.slot
     0 (i.handle + 256) (setCtx i.slot 3 (if 77 = 0 then 0 else 1) s))) up)) ⟨3, 3, 3665, 24327, 1, 186, 0, [], 278, 35, none⟩, ⟨3, 3,
     3665, 24327, 1, 186, 0, [], 278, 35, none⟩, 3, 77, by decide +kernel⟩,
   ⟨(fun (i : Item) => dispatching 0x04 i ((fun s : State => modSess (fun y => { y with gens := tabSet 0 y.gens i.slot 77 }) (setCtx16 i.slot
     0 (i.handle + 256) (setCtx i.slot 3 (if 77 = 0 then 0 else 1) s))) up)) ⟨4, 1, 2234, 5, 1, 69, 0, [], 0, 15, some 0⟩, ⟨4, 1, 2234, 5,
     1, 69, 0, [], 0, 15, some 0⟩, 3, 77, by decide +kernel⟩,
   ⟨(fun (i : Item) => dispatching 0x08 i up) ⟨8, 3, 3094, 13118, 9, 46, 13, [], 0, 34, none⟩, ⟨8, 3, 3094, 13118, 9, 46, 13, [], 0, 34,
     none⟩, 2, 0, by decide +kernel⟩,
   ⟨(fun (i : Item) => dispatching 0x09 i ((fun s : State => modSess (fun y => { y with gens := tabSet 0 y.gens i.slot 77 }) (setCtx16 i.slot
     0 (i.handle + 256) (setCtx i.slot 3 (if 77 = 0 then 0 else 1) s))) up)) ⟨9, 0, 715, 2, 0, 203, 25452, [], 0, 29, none⟩, ⟨9, 0, 715,
     2, 0, 203, 25452, [], 0, 29, none⟩, 3, 77, by decide +kernel⟩,
   ⟨(fun (i : Item) => dispatching 0x0a i up) ⟨10, 1, 2401, 15, 3, 146, 38785, [], 968, 5, none⟩, ⟨10, 1, 2401, 15, 3, 146, 38785, [], 968,
     5, none⟩, 2, 0, by decide +kernel⟩⟩

/-- The hypotheses of each clause of ExchangeDispatchComplete can be met together. -/
theorem test_hyps_exchange_dispatch_complete :
    (∃ (s : State) (i : Item), s.dispatches 0x20 i) ∧
    (∃ (s : State) (i : Item), s.dispatches 0x08 i ∧ s.badHandle i = none ∧ s.sessState i.slot ≠ SessState.opened ∧ (s.pendOf
      i.slot).length < s.pendMax ∧ hfCheck 0 i i.slot s = none ∧ s.frameMax i.slot ≤ s.freePool.length) ∧
    (∃ (s : State) (i : Item), s.dispatches 0x09 i ∧ s.badHandle i = none ∧ s.sessState i.slot ≠ SessState.opened ∧ (s.pendOf
      i.slot).length < s.pendMax ∧ linkCheck false i i.slot s = none ∧ s.frameMax i.slot ≤ s.freePool.length) ∧
    (∃ (s : State) (i : Item), s.dispatches 0x0a i ∧ s.badHandle i = none ∧ s.sessState i.slot ≠ SessState.opened ∧ (s.pendOf
      i.slot).length < s.pendMax ∧ linkCheck true i i.slot s = none ∧ s.frameMax i.slot ≤ s.freePool.length) ∧
    (∃ (s : State) (i : Item), s.dispatches 0x08 i ∧ s.badHandle i = none ∧ s.sessState i.slot ≠ SessState.opened ∧ (s.pendOf
      i.slot).length < s.pendMax ∧ hfCheck 0 i i.slot s = none ∧ s.freePool.length < s.frameMax i.slot) ∧
    (∃ (s : State) (i : Item) (n : EngIx), s.dispatches 0x0c i ∧ fld (i.word 4) 27 26 = n ∧ s.discBad i n = false ∧ (s.eng n).disc = none
      ∧ (s.eng n).discWait = none ∧ s.engFree n = false) :=
  ⟨⟨(fun (i : Item) => dispatching 0x20 i up) ⟨32, 1, 521, 4, 11, 8, 12888, [], 0, 39, none⟩, ⟨32, 1, 521, 4, 11, 8, 12888, [], 0, 39, none⟩,
     by decide +kernel⟩,
   ⟨(fun (i : Item) => dispatching 0x08 i (setCtx i.slot 6 3 ((fun s : State => setCtx i.slot 4 2 (setCtx i.slot 0x40 1 (setCtx i.slot 9 0
     s))) ((fun s : State => (List.range 4).foldl (fun s n => setRf (Reg.feMode n) 3 0 1 (setRb (Reg.ctrl (Page.fe n)) 0 true (setRf
     (Reg.fwgtFeCoils n) 27 16 5 s))) (setCtx i.slot 8 1 s)) ((fun s : State => setCtx16 i.slot 0 i.handle (setCtx i.slot 3 (2 + 16 *
     (i.flags % 16)) s)) up))))) ⟨8, 1, 765, 9, 1, 20, 67, [0x04000015#32, 0x00000000#32, 0x12345678#32, 0x12345678#32, 0x12345678#32,
     0x12345678#32, 0x12345678#32, 0x12345678#32, 0x12345678#32, 0x12345678#32, 0x12345678#32, 0x12345678#32, 0x12345678#32,
     0x12345678#32, 0x12345678#32, 0x12345678#32], 0, 7, none⟩, ⟨8, 1, 765, 9, 1, 20, 67, [0x04000015#32, 0x00000000#32, 0x12345678#32,
     0x12345678#32, 0x12345678#32, 0x12345678#32, 0x12345678#32, 0x12345678#32, 0x12345678#32, 0x12345678#32, 0x12345678#32,
     0x12345678#32, 0x12345678#32, 0x12345678#32, 0x12345678#32, 0x12345678#32], 0, 7, none⟩, by decide +kernel⟩,
   ⟨(fun s : State => (List.range 6).foldl (fun s j => setRb (Reg.ctrl (0x1f + j)) 0 true (setRb (Reg.ctrl (0x1f + j)) 1 false (setRb
     (Reg.status (0x1f + j)) 0 false s))) (setRb Reg.clkGate 0 false { s with boot := { s.boot with vddrf := true } })) ((fun (i : Item)
     => dispatching 0x09 i (setReg (Reg.sysResClaim 0x62) (wd 0x3004) (setCtx i.slot 6 3 (setCtx i.slot 2 1 ((fun s : State => setCtx16
     i.slot 0 i.handle (setCtx i.slot 3 (2 + 16 * (i.flags % 16)) s)) up))))) ⟨9, 1, 264, 1, 0, 186, 0, [0x03000024#32, 0x00000000#32,
     0x12345678#32, 0x12345678#32, 0x12345678#32, 0x12345678#32, 0x12345678#32, 0x12345678#32, 0x12345678#32, 0x12345678#32,
     0x12345678#32, 0x12345678#32, 0x12345678#32, 0x12345678#32, 0x12345678#32, 0x12345678#32], 0, 36, none⟩), ⟨9, 1, 264, 1, 0, 186, 0,
     [0x03000024#32, 0x00000000#32, 0x12345678#32, 0x12345678#32, 0x12345678#32, 0x12345678#32, 0x12345678#32, 0x12345678#32,
     0x12345678#32, 0x12345678#32, 0x12345678#32, 0x12345678#32, 0x12345678#32, 0x12345678#32, 0x12345678#32, 0x12345678#32], 0, 36,
     none⟩, by decide +kernel⟩,
   ⟨((fun s : State => (List.range 6).foldl (fun s j => setRb (Reg.ctrl (0x1f + j)) 0 true (setRb (Reg.ctrl (0x1f + j)) 1 false (setRb
     (Reg.status (0x1f + j)) 0 false s))) (setRb Reg.clkGate 0 false { s with boot := { s.boot with vddrf := true } })) ((fun (i : Item)
     => dispatching 0x0a i (setReg (Reg.sysResClaim 0x62) (wd 0x3004) (setCtx i.slot 0x40 5 (setCtx i.slot 6 3 ((fun s : State => setRf
     (Reg.feMode 2) 3 0 5 (setRb (Reg.ctrl (Page.fe 2)) 0 true s)) (setCtx i.slot 4 2 (setCtx i.slot 2 2 ((fun s : State => setCtx16
     i.slot 0 i.handle (setCtx i.slot 3 (2 + 16 * (i.flags % 16)) s)) up)))))))) ⟨10, 1, 2881, 805, 15, 81, 3, [0x0300001f#32,
     0x00000000#32, 0x12345678#32, 0x12345678#32, 0x12345678#32, 0x12345678#32, 0x12345678#32, 0x12345678#32, 0x12345678#32,
     0x12345678#32, 0x12345678#32, 0x12345678#32, 0x12345678#32, 0x12345678#32, 0x12345678#32, 0x12345678#32], 0, 1, none⟩)), ⟨10, 1,
     2881, 805, 15, 81, 3, [0x0300001f#32, 0x00000000#32, 0x12345678#32, 0x12345678#32, 0x12345678#32, 0x12345678#32, 0x12345678#32,
     0x12345678#32, 0x12345678#32, 0x12345678#32, 0x12345678#32, 0x12345678#32, 0x12345678#32, 0x12345678#32, 0x12345678#32,
     0x12345678#32], 0, 1, none⟩, by decide +kernel⟩,
   ⟨(fun (i : Item) => dispatching 0x08 i (modSess (fun x => { x with pend := [], blocks := [(3, List.range 253)] }) (setCtx i.slot 6 4 ((fun
     s : State => setCtx i.slot 4 2 (setCtx i.slot 0x40 1 (setCtx i.slot 9 0 s))) ((fun s : State => (List.range 4).foldl (fun s n =>
     setRf (Reg.feMode n) 3 0 1 (setRb (Reg.ctrl (Page.fe n)) 0 true (setRf (Reg.fwgtFeCoils n) 27 16 5 s))) (setCtx i.slot 8 1 s)) ((fun
     s : State => setCtx16 i.slot 0 i.handle (setCtx i.slot 3 (2 + 16 * (i.flags % 16)) s)) up)))))) ⟨8, 3, 953, 8, 0, 1, 0,
     [0x04000002#32, 0x00000000#32, 0x12345678#32, 0x12345678#32, 0x12345678#32, 0x12345678#32, 0x12345678#32, 0x12345678#32,
     0x12345678#32, 0x12345678#32, 0x12345678#32, 0x12345678#32, 0x12345678#32, 0x12345678#32, 0x12345678#32, 0x12345678#32], 0, 32,
     none⟩, ⟨8, 3, 953, 8, 0, 1, 0, [0x04000002#32, 0x00000000#32, 0x12345678#32, 0x12345678#32, 0x12345678#32, 0x12345678#32,
     0x12345678#32, 0x12345678#32, 0x12345678#32, 0x12345678#32, 0x12345678#32, 0x12345678#32, 0x12345678#32, 0x12345678#32,
     0x12345678#32, 0x12345678#32], 0, 32, none⟩, by decide +kernel⟩,
   ⟨(fun (i : Item) => dispatching 0x0c i ((fun s : State => setRf (Reg.feMode 0) 3 0 1 (setRb (Reg.ctrl (Page.fe 0)) 0 true (setRf
     (Reg.sysResClaim 3) 15 12 (4 + 0) s))) up)) ⟨12, 3, 3169, 7568, 1, 91, 855, [0x10000000#32, 0x00000000#32], 0, 16, none⟩, ⟨12, 3,
     3169, 7568, 1, 91, 855, [0x10000000#32, 0x00000000#32], 0, 16, none⟩, 0, by decide +kernel⟩⟩

/-- The hypotheses of each clause of CommandStartComplete can be met together. -/
theorem test_hyps_command_start_complete :
    (∃ (s : State) (k : SlotIx) (n : EngIx) (i : Item) (r : List Item) (c : Section) (S : Nat), s.sessEngine k = n ∧ s.link.ex = none ∧
      s.pendOf k = i :: r ∧ i.typ = 0x08 ∧ s.inFlight k = false ∧ s.fence k = none ∧ s.engFree n = true ∧ (s.eng n).discWait = none ∧
      s.sessState k = SessState.placed ∧ hfCheck 0 i k s = none ∧ s.startOn n i (if fld (i.word 5) 31 24 = 0 then Kind.exchange else
      Kind.command) (fld (i.word 4) 31 28) (s.feStd n != 5) = .go c S) ∧
    (∃ (s : State) (k : SlotIx) (i : Item) (r : List Item) (c : Section), s.link.ex = none ∧ s.pendOf k = i :: r ∧ i.typ = 0x09 ∧
      s.inFlight k = false ∧ s.fence k = none ∧ s.rbFree = true ∧ s.linkStartBad k i = none ∧ s.commandSection 4 (linkSection i) (linkKind
      i) 0 0 = some c ∧ s.radioFree = true ∧ i.hasTick = false) ∧
    (∃ (s : State) (k : SlotIx) (n : EngIx) (i : Item) (r : List Item) (c : Section) (S : Nat), s.sessEngine k = n ∧ s.link.ex = none ∧
      s.pendOf k = i :: r ∧ i.typ = 0x0a ∧ s.inFlight k = false ∧ s.fence k = none ∧ s.xbFree n = true ∧ (s.eng n).discWait = none ∧
      s.linkStartBad k i = none ∧ s.xbPresetOk k = true ∧ linkNoReply i = true ∧ s.startOn n i (linkKind i) 0 false = .go c S) ∧
    (∃ (s : State) (i : Item) (n : EngIx) (c : Section) (S : Nat), s.dispatches 0x0c i ∧ fld (i.word 4) 27 26 = n ∧ s.discBad i n = false
      ∧ (s.eng n).disc = none ∧ (s.eng n).discWait = none ∧ s.engFree n = true ∧ s.rb Reg.sensProt 28 = false ∧ s.startOn n i (if fld
      (i.word 5) 31 24 = 0 then Kind.discover else Kind.command) 0 true = .go c S) :=
  ⟨⟨setCtx 224 8 1 (setCtx 224 9 0 (setCtx 224 0x40 1 (setCtx 224 6 3 ((fun (i : Item) (r : List Item) => (fun s : State => setCtx 224 4 2
     (setCtx 224 3 2 s)) (setPend 224 (i :: r) (setRf (Reg.feMode 2) 3 0 1 ((fun s : State => setRb (Reg.lspPlStatus 2) 23 false (setRb
     (Reg.lspPlStatus 2) 22 false (setRb (Reg.lspPlStatus 2) 21 false (setRb (Reg.lspPlCtrl 2) 0 false (setRb (Reg.status Page.lsp) 0
     false (setRb (Reg.ctrl Page.lsp) 0 true (setRb (Reg.ctrl Page.lsp) 1 false s))))))) ((fun s : State => setMem 4 scoreBase 0x00000020
     (setMem 4 (scoreBase + 4) 0x5c0e0101 (setMem 4 (scoreBase + 16) 9 (setMem 4 (scoreBase + 20) 0x01110000 s)))) ((fun s : State =>
     setReg (slotReg 2 (s.activeSlot 2)) (wd (64 * 65536)) s) ((fun s : State => setRf (Reg.sysResClaim 3) 15 12 (4 + 2) (modCoil 3 (fun x
     => { x with loaded := [0,0,0] }) s)) ((fun s : State => modEng 2 (fun e => { e with exch := none, disc := none, discWait := none })
     (setRb (Reg.status (Page.fe 2)) 0 false (setRb (Reg.ctrl (Page.fe 2)) 0 true (setRb (Reg.ctrl (Page.fe 2)) 1 false s)))) up))))))))
     ⟨8, 1, 3376, 4, 13, 0, 15, [0x04000001#32, 0x00000000#32, 0x00000005#32], 0, 35, none⟩ [])))), 224, 2, ⟨8, 1, 3376, 4, 13, 0, 15,
     [0x04000001#32, 0x00000000#32, 0x00000005#32], 0, 35, none⟩, [], ⟨1, 1, 1, 0, false, 0, 9⟩, 1024, by decide +kernel⟩,
   ⟨(fun s : State => (List.range 6).foldl (fun s j => setRb (Reg.ctrl (0x1f + j)) 0 true (setRb (Reg.ctrl (0x1f + j)) 1 false (setRb
     (Reg.status (0x1f + j)) 0 false s))) (setRb Reg.clkGate 0 false { s with boot := { s.boot with vddrf := true } })) ((fun (i : Item)
     (r : List Item) => (fun s : State => setRb (Reg.ctrl Page.cvu) 0 true (setRb (Reg.ctrl Page.cvu) 1 false (setRb (Reg.status Page.cvu)
     0 false s))) (setReg (Reg.sysResClaim 0x62) (wd 0x3004) (setPend 14 (i :: r) ((fun s : State => setRb (Reg.lspPlStatus 4) 23 false
     (setRb (Reg.lspPlStatus 4) 22 false (setRb (Reg.lspPlStatus 4) 21 false (setRb (Reg.lspPlCtrl 4) 0 false (setRb (Reg.status Page.lsp)
     0 false (setRb (Reg.ctrl Page.lsp) 0 true (setRb (Reg.ctrl Page.lsp) 1 false s))))))) ((fun s : State => setMem 4 scoreBase
     0x00000020 (setMem 4 (scoreBase + 4) 0x5c0e0101 (setMem 4 (scoreBase + 16) 9 (setMem 4 (scoreBase + 20) 0x01100000 s)))) ((fun s :
     State => setReg (slotReg 4 (s.activeSlot 4)) (wd (64 * 65536)) s) up)))))) ⟨9, 1, 2700, 6, 9, 0, 11, [0x04000001#32, 0x00000000#32,
     0x00000005#32], 0, 7, none⟩ []), 14, ⟨9, 1, 2700, 6, 9, 0, 11, [0x04000001#32, 0x00000000#32, 0x00000005#32], 0, 7, none⟩, [], ⟨1, 1,
     0, 0, false, 0, 9⟩, by decide +kernel⟩,
   ⟨setCtx 179 0x40 5 ((fun s : State => (List.range 6).foldl (fun s j => setRb (Reg.ctrl (0x1f + j)) 0 true (setRb (Reg.ctrl (0x1f + j)) 1
     false (setRb (Reg.status (0x1f + j)) 0 false s))) (setRb Reg.clkGate 0 false { s with boot := { s.boot with vddrf := true } }))
     (setRb (Reg.coilChainStatus 3) 0 true ((fun (i : Item) (r : List Item) => (fun s : State => (List.range 0x2c).foldl (fun s p => setRb
     (Reg.ctrl p) 0 true (setRb (Reg.ctrl p) 1 false (setRb (Reg.status p) 0 false s))) s) ((fun s : State => setReg (Reg.sysResClaim
     0x62) (wd 0x3004) (setRb Reg.sensProt 28 false s)) ((fun s : State => setCtx 179 4 3 (setCtx 179 3 2 s)) (setPend 179 (i :: r) (setRf
     (Reg.feMode 3) 3 0 5 ((fun s : State => setMem 4 scoreBase 0x00000020 (setMem 4 (scoreBase + 4) 0x5c0e0101 (setMem 4 (scoreBase + 16)
     9 (setMem 4 (scoreBase + 20) 0x01150000 s)))) ((fun s : State => setReg (slotReg 3 (s.activeSlot 3)) (wd (64 * 65536)) s) ((fun s :
     State => setRf (Reg.sysResClaim 3) 15 12 (4 + 3) (modCoil 3 (fun x => { x with loaded := [0,0,0] }) s)) up)))))))) ⟨10, 3, 2613, 1,
     0, 0, 1000, [0x04400001#32, 0x00000000#32, 0x00000005#32], 0, 0, none⟩ []))), 179, 3, ⟨10, 3, 2613, 1, 0, 0, 1000, [0x04400001#32,
     0x00000000#32, 0x00000005#32], 0, 0, none⟩, [], ⟨1, 1, 5, 0, false, 0, 9⟩, 1024, by decide +kernel⟩,
   ⟨(fun (i : Item) => dispatching 0x0c i (setRf (Reg.feMode 1) 3 0 1 ((fun s : State => setRb (Reg.lspPlStatus 1) 23 false (setRb
     (Reg.lspPlStatus 1) 22 false (setRb (Reg.lspPlStatus 1) 21 false (setRb (Reg.lspPlCtrl 1) 0 false (setRb (Reg.status Page.lsp) 0
     false (setRb (Reg.ctrl Page.lsp) 0 true (setRb (Reg.ctrl Page.lsp) 1 false s))))))) ((fun s : State => setMem 4 scoreBase 0x00000020
     (setMem 4 (scoreBase + 4) 0x5c0e0101 (setMem 4 (scoreBase + 16) 9 (setMem 4 (scoreBase + 20) 0x01210000 s)))) ((fun s : State =>
     setReg (slotReg 1 (s.activeSlot 1)) (wd (64 * 65536)) s) ((fun s : State => setRf (Reg.sysResClaim 3) 15 12 (4 + 1) (modCoil 3 (fun x
     => { x with loaded := [0,0,0] }) s)) ((fun s : State => modEng 1 (fun e => { e with exch := none, disc := none, discWait := none })
     (setRb (Reg.status (Page.fe 1)) 0 false (setRb (Reg.ctrl (Page.fe 1)) 0 true (setRb (Reg.ctrl (Page.fe 1)) 1 false s)))) up)))))))
     ⟨12, 2, 910, 11, 3, 0, 2, [0x14000000#32, 0x00000000#32, 0x00000005#32], 785, 18, none⟩, ⟨12, 2, 910, 11, 3, 0, 2, [0x14000000#32,
     0x00000000#32, 0x00000005#32], 785, 18, none⟩, 1, ⟨1, 2, 1, 0, false, 0, 9⟩, 1816, by decide +kernel⟩⟩

/-- The hypotheses of each clause of StepIssueComplete can be met together. -/
theorem test_hyps_step_issue_complete :
    (∃ (s : State) (k : PlayerIx) (w : StepWord) (T : Nat), s.playing k = true ∧ s.pastEnd k = false ∧ s.stepAt k = w ∧ isInternal w.op =
      false ∧ w.op ≠ 0xa ∧ w.op ≠ 0xc ∧ s.inFree k = false ∧ s.stepTarget k w = some T ∧ s.issueTick k T ≤ T) ∧
    (∃ (s : State) (k : PlayerIx) (w : StepWord) (T : Nat), s.playing k = true ∧ s.pastEnd k = false ∧ s.stepAt k = w ∧ isInternal w.op =
      false ∧ w.op ≠ 0xa ∧ w.op ≠ 0xc ∧ s.inFree k = false ∧ s.stepTarget k w = some T ∧ T < s.issueTick k T ∧ w.lateDrop = true) ∧
    (∃ (s : State) (k : PlayerIx), s.playing k = true ∧ s.pastEnd k = true ∧ s.rb (Reg.lspPlCtrl k) 0 = true ∧ 5 ≤ k.val ∧ s.rf
      (Reg.errCode Page.lsp) 15 10 = 0) :=
  ⟨⟨(fun s : State => modPlayer 7 (fun p =>
     { p with p := s.now + 1000, sS := s.now + 900, lastIssue := 0, avail := 0, shift := 0, shiftFrom := 2 ^ 62, anchor := s.now + 999 })
     s) ((fun s : State => setMem 4 (scoreBase + 72) (5 % 4 + 2 ^ 30) (setMem 4 (scoreBase + 76) ((1 + 5 % 9) * 2 ^ 28 + 5 % 4 * 2 ^ 25 +
     5 % 100) s)) ((fun s : State => setMem 4 scoreBase 0x00000020 (setMem 4 (scoreBase + 4) 0x5c0e0101 s)) ((fun s : State => setReg
     (slotReg 7 (s.activeSlot 7)) (wd (64 * 65536)) (setRb (Reg.lspPlStatus 7) 23 true s)) up))), 7, ⟨5, 6, 917761, false, false, 32⟩,
     2000, by decide +kernel⟩,
   ⟨(fun s : State => setMem 4 (scoreBase + 72) (7 % 4 + 2 ^ 30) (setMem 4 (scoreBase + 76) ((1 + 7 % 9) * 2 ^ 28 + 7 % 4 * 2 ^ 25 + 7 % 100)
     s)) (modPlayer 5 (fun p => { p with pc := 9, kind := 1 }) ((fun s : State => setMem 4 scoreBase 0x00000020 (setMem 4 (scoreBase + 4)
     0x5c0e0101 s)) ((fun s : State => setReg (slotReg 5 (s.activeSlot 5)) (wd (64 * 65536)) (setRb (Reg.lspPlStatus 5) 23 true s)) up))),
     5, ⟨8, 3, 7, false, true, 3⟩, 7, by decide +kernel⟩,
   ⟨setRb (Reg.lspPlCtrl 6) 0 true (modPlayer 6 (fun p => { p with pc := 99 }) ((fun s : State => setReg (slotReg 6 (s.activeSlot 6)) (wd (64
     * 65536)) (setRb (Reg.lspPlStatus 6) 23 true s)) up)), 6, by decide +kernel⟩⟩

/-- The hypotheses of each clause of InternalStepsComplete can be met together. -/
theorem test_hyps_internal_steps_complete :
    (∃ (s : State) (k : PlayerIx) (T : Nat), s.playing k = true ∧ s.pastEnd k = false ∧ (s.stepAt k).op = 0 ∧ (s.stepAt k).swap = false ∧
      s.stepTarget k (s.stepAt k) = some T) ∧
    (∃ (s : State) (k : PlayerIx) (T : Nat), s.playing k = true ∧ s.pastEnd k = false ∧ (s.stepAt k).op = 0xd ∧ s.stepTarget k (s.stepAt
      k) = some T) ∧
    (∃ (s : State) (k : PlayerIx) (T : Nat), s.playing k = true ∧ s.pastEnd k = false ∧ (s.stepAt k).op = 0xe ∧ s.stepTarget k (s.stepAt
      k) = some T ∧ 5 ≤ k.val ∧ (s.player k).trig = none ∧ s.rf (Reg.lspPlStatus k) 19 16 = 3) :=
  ⟨⟨modPlayer 0 (fun p => { p with pc := 9, kind := 1 }) ((fun s : State => setMem 4 scoreBase 0x00000020 (setMem 4 (scoreBase + 4)
     0x5c0e0101 s)) ((fun s : State => setReg (slotReg 0 (s.activeSlot 0)) (wd (64 * 65536)) (setRb (Reg.lspPlStatus 0) 23 true s)) up)),
     0, 0, by decide +kernel⟩,
   ⟨(fun s : State => setMem 4 (scoreBase + 72) (3 % 16 * 2 ^ 26 + 3 % 2 * 2 ^ 25 + 17) (setMem 4 (scoreBase + 76) (13 * 2 ^ 28 + 3 % 4 * 2 ^
     25 + 3 % 100) s)) (modPlayer 1 (fun p => { p with pc := 9, kind := 1 }) ((fun s : State => setMem 4 scoreBase 0x00000020 (setMem 4
     (scoreBase + 4) 0x5c0e0101 s)) ((fun s : State => setReg (slotReg 1 (s.activeSlot 1)) (wd (64 * 65536)) (setRb (Reg.lspPlStatus 1) 23
     true s)) up))), 1, 3, by decide +kernel⟩,
   ⟨setRf (Reg.lspPlStatus 7) 19 16 3 ((fun s : State => setMem 4 (scoreBase + 72) (0 % 4) (setMem 4 (scoreBase + 76) (14 * 2 ^ 28 + 0 % 4 *
     2 ^ 25 + 0 % 100) s)) (modPlayer 7 (fun p => { p with pc := 9, kind := 1 }) ((fun s : State => setMem 4 scoreBase 0x00000020 (setMem
     4 (scoreBase + 4) 0x5c0e0101 s)) ((fun s : State => setReg (slotReg 7 (s.activeSlot 7)) (wd (64 * 65536)) (setRb (Reg.lspPlStatus 7)
     23 true s)) up)))), 7, 0, by decide +kernel⟩⟩

/-- The hypotheses of each clause of GeneralStepsComplete can be met together. -/
theorem test_hyps_general_steps_complete :
    (∃ (s : State) (k : PlayerIx) (i : Issued), s.nextStep k = some i ∧ i.op = 8 ∧ s.quiesced Page.evf = false ∧ i.act = i.target ∧
      s.chanSecure .larkspur (i.operand % 64) = false) ∧
    (∃ (s : State) (u : State) (k : PlayerIx) (i : Issued) (n : Nat), s.nextStep k = some i ∧ i.op = 9 ∧ s.quiesced Page.evf = false ∧
      i.act = i.target ∧ n = i.operand % 16 ∧ s.holds .larkspur (0x68 + n) = true ∧ s.rf (Reg.evfGpCfg n) 2 0 = 4 ∧ u = cellsNow (passTo
      i.act s)) ∧
    (∃ (s : State) (k : PlayerIx) (i : Issued), s.nextStep k = some i ∧ i.op = 0xb ∧ s.quiesced Page.ftb = false ∧ i.act = i.target ∧
      s.time.snapWait = [] ∧ max s.now i.act < 2 ^ 64) ∧
    (∃ (s : State) (k : PlayerIx) (i : Issued) (p : PageIx), s.nextStep k = some i ∧ i.op = 0xa ∧ i.act = i.target ∧ stepAddr i.operand =
      Reg.irqEn p ∧ s.takes .larkspur (Reg.irqEn p)) ∧
    (∃ (s : State) (k : PlayerIx) (i : Issued) (p : PageIx), s.nextStep k = some i ∧ i.op = 0xa ∧ stepAddr i.operand = Reg.irqEn p ∧
      s.reaches .larkspur (Reg.irqEn p) ∧ s.rf (Reg.owner p) 1 0 ≠ 2) ∧
    (∃ (s : State) (k : PlayerIx) (i : Issued), s.nextStep k = some i ∧ i.op = 0xc ∧ s.quiesced Page.lsp = false ∧ s.commit = none ∧ max
      s.now i.act ≤ roundUp i.target 8 - s.marginFt) :=
  ⟨⟨(fun (i : Issued) => (fun s : State => setRb (Reg.status Page.evf) 0 false (setRb (Reg.ctrl Page.evf) 0 true s)) (modPlayer 6 (fun p =>
     { p with flight := [i] }) up)) ⟨8, 0, 14, 1, 12947, 0, 0, 0, 0⟩, 6, ⟨8, 0, 14, 1, 12947, 0, 0, 0, 0⟩, by decide +kernel⟩,
   ⟨(fun (i : Issued) => (fun s : State => setRb (Reg.status Page.evf) 0 false (setRb (Reg.ctrl Page.evf) 0 true s)) ((fun s : State =>
     setReg (Reg.sysResClaim (0x68 + i.operand % 16)) (wd 0x3000) (setRf (Reg.evfGpCfg (i.operand % 16)) 2 0 4 s)) (modPlayer 4 (fun p =>
     { p with flight := [i] }) up))) ⟨9, 2, 3, 239, 0, 7, 2, 0, 0⟩, _, 4, ⟨9, 2, 3, 239, 0, 7, 2, 0, 0⟩, _, by decide +kernel,
     by decide +kernel, by decide +kernel, by decide +kernel, rfl, by decide +kernel, by decide +kernel, rfl⟩,
   ⟨(fun (i : Issued) => (fun s : State => setRb (Reg.status Page.ftb) 0 false (setRb (Reg.ctrl Page.ftb) 0 true s)) (modPlayer 6 (fun p =>
     { p with flight := [i] }) up)) ⟨11, 1, 0, 48992, 65, 3, 1, 0, 0⟩, 6, ⟨11, 1, 0, 48992, 65, 3, 1, 0, 0⟩, by decide +kernel⟩,
   ⟨(fun (i : Issued) (p : PageIx) => taking .larkspur (Reg.irqEn p) (modPlayer 2 (fun p => { p with flight := [i] }) up)) ⟨10, 29, 2555909,
     171798687, 1000, 0, 29, 0, 0⟩ 39, 2, ⟨10, 29, 2555909, 171798687, 1000, 0, 29, 0, 0⟩, 39, by decide +kernel⟩,
   ⟨(fun (i : Issued) (p : PageIx) => modPlayer 2 (fun p => { p with flight := [i] }) up) ⟨10, 3, 65541, 60434961427, 1000, 9, 936, 0, 0⟩ 1,
     2, ⟨10, 3, 65541, 60434961427, 1000, 9, 936, 0, 0⟩, 1, by decide +kernel⟩,
   ⟨(fun (i : Issued) => (fun s : State => setRb (Reg.status Page.lsp) 0 false (setRb (Reg.ctrl Page.lsp) 0 true s)) (modPlayer 6 (fun p =>
     { p with flight := [i] }) up)) ⟨12, 20002, 9, 0, 818, 28256, 2, 0, 0⟩, 6, ⟨12, 20002, 9, 0, 818, 28256, 2, 0, 0⟩, by decide +kernel⟩⟩

/-- The hypotheses of each clause of PlayerControlComplete can be met together. -/
theorem test_hyps_player_control_complete :
    (∃ (s : State) (ag : Agent) (k : PlayerIx) (num : SlotIx) (c : Section), s.takes ag (Reg.lspPlCtrl k) ∧ s.holds ag (0x18 + k) = true ∧
      s.playing k = false ∧ s.freeSection k num = some c ∧ s.toHold k = false ∧ (k = 4 → s.radioFree = true)) ∧
    (∃ (s : State) (ag : Agent) (k : PlayerIx), s.takes ag (Reg.lspPlCtrl k) ∧ s.holds ag (0x18 + k) = true ∧ s.playing k = true ∧ s.rb
      (Reg.lspPlCtrl k) 0 = true ∧ s.rf (Reg.errCode Page.lsp) 15 10 = 0) ∧
    (∃ (s : State) (ag : Agent) (k : PlayerIx), s.takes ag (Reg.lspPlCtrl k) ∧ s.holds ag (0x18 + k) = true ∧ s.playing k = true ∧ s.rb
      (Reg.lspPlCtrl k) 0 = false ∧ 5 ≤ k.val ∧ (s.player k).trig = none) ∧
    (∃ (s : State) (ag : Agent) (k : PlayerIx), s.takes ag (Reg.lspPlCtrl k) ∧ s.holds ag (0x18 + k) = true) ∧
    (∃ (s : State) (ag : Agent) (k : PlayerIx), s.takes ag (Reg.lspPlCtrl k) ∧ s.holds ag (0x18 + k) = true ∧ s.rf (Reg.lspPlStatus k) 19
      16 ≠ 2 ∧ s.rf (Reg.lspPlStatus k) 19 16 ≠ 5 ∧ s.playing k = true ∧ s.rb (Reg.ctrl Page.lsp) 0 = true) ∧
    (∃ (s : State) (ag : Agent) (k : PlayerIx), s.takes ag (Reg.lspPlCtrl k) ∧ s.holds ag (0x18 + k) = false ∧ s.rf (Reg.errCode Page.lsp)
      15 10 = 0) :=
  ⟨⟨taking Agent.host (Reg.lspPlCtrl 2) (setReg (Reg.sysResClaim (0x18 + 2)) (wd (4096 * agentClaimant Agent.host)) ((fun s : State => setRb
     (Reg.lspPlStatus 2) 23 false (setRb (Reg.lspPlStatus 2) 22 false (setRb (Reg.lspPlStatus 2) 21 false (setRb (Reg.lspPlCtrl 2) 0 false
     (setRb (Reg.status Page.lsp) 0 false (setRb (Reg.ctrl Page.lsp) 0 true (setRb (Reg.ctrl Page.lsp) 1 false s))))))) ((fun s : State =>
     setMem 4 scoreBase 0x00000020 (setMem 4 (scoreBase + 4) 0x5c0e0101 (setMem 4 (scoreBase + 16) 9 (setMem 4 (scoreBase + 20) 0x01500000
     s)))) ((fun s : State => setReg (slotReg 2 (s.activeSlot 2)) (wd (64 * 65536)) s) up)))), Agent.host, 2, 1, ⟨1, 5, 0, 0, false, 0,
     9⟩, by decide +kernel⟩,
   ⟨setRb (Reg.lspPlCtrl 7) 0 true (taking Agent.host (Reg.lspPlCtrl 7) (setRb (Reg.lspPlStatus 7) 23 true (setReg (Reg.sysResClaim (0x18 +
     7)) (wd (4096 * agentClaimant Agent.host)) up))), Agent.host, 7, by decide +kernel⟩,
   ⟨taking Agent.host (Reg.lspPlCtrl 7) (setRb (Reg.lspPlStatus 7) 23 true (setReg (Reg.sysResClaim (0x18 + 7)) (wd (4096 * agentClaimant
     Agent.host)) up)), Agent.host, 7, by decide +kernel⟩,
   ⟨taking Agent.host (Reg.lspPlCtrl 7) (setReg (Reg.sysResClaim (0x18 + 7)) (wd (4096 * agentClaimant Agent.host)) up), Agent.host, 7,
     by decide +kernel⟩,
   ⟨setRb (Reg.ctrl Page.lsp) 0 true (taking Agent.host (Reg.lspPlCtrl 4) ((fun s : State => setRf (Reg.lspPlStatus 4) 19 16 1 (setRb
     (Reg.lspPlStatus 4) 23 true s)) (setReg (Reg.sysResClaim (0x18 + 4)) (wd (4096 * agentClaimant Agent.host)) up))), Agent.host, 4,
     by decide +kernel⟩,
   ⟨taking Agent.host (Reg.lspPlCtrl 4) up, Agent.host, 4, by decide +kernel⟩⟩

/-- The hypotheses of each clause of SwapRequests can be met together. -/
theorem test_hyps_swap_requests :
    (∃ (s : State) (ag : Agent) (k : PlayerIx), s.takes ag (Reg.lspPlCtrl k) ∧ s.holds ag (0x18 + k) = true ∧ s.rf (Reg.lspPlStatus k) 19
      16 = 3 ∧ s.playing k = true ∧ s.rb (Reg.ctrl Page.lsp) 0 = true) ∧
    (∃ (s : State) (ag : Agent) (k : PlayerIx), s.takes ag (Reg.lspPlCtrl k) ∧ s.holds ag (0x18 + k) = true ∧ s.rf (Reg.lspPlStatus k) 19
      16 = 3 ∧ s.playing k = false ∧ s.quiesced Page.lsp = false ∧ s.rb (Reg.ctrl Page.lsp) 0 = true) ∧
    (∃ (s : State) (ag : Agent) (k : PlayerIx), s.takes ag (Reg.lspPlCtrl k) ∧ s.holds ag (0x18 + k) = true ∧ s.rf (Reg.lspPlStatus k) 19
      16 = 5 ∧ s.playing k = true) ∧
    (∃ (s : State) (ag : Agent) (k : PlayerIx), s.takes ag (Reg.lspPlCtrl k) ∧ s.holds ag (0x18 + k) = true ∧ s.rf (Reg.lspPlStatus k) 19
      16 ≠ 3 ∧ s.rf (Reg.errCode Page.lsp) 15 10 = 0 ∧ s.rb (Reg.ctrl Page.lsp) 0 = true) ∧
    (∃ (s : State) (ag : Agent) (k : PlayerIx), s.takes ag (Reg.lspPlCtrl k) ∧ s.holds ag (0x18 + k) = true ∧ s.rf (Reg.lspPlStatus k) 19
      16 ≠ 5) :=
  ⟨⟨setRb (Reg.ctrl Page.lsp) 0 true (setRf (Reg.lspPlStatus 5) 19 16 3 (taking Agent.host (Reg.lspPlCtrl 5) (setRb (Reg.lspPlStatus 5) 23
     true (setReg (Reg.sysResClaim (0x18 + 5)) (wd (4096 * agentClaimant Agent.host)) up)))), Agent.host, 5, by decide +kernel⟩,
   ⟨setRb (Reg.ctrl Page.lsp) 0 true (setRb (Reg.lspPlCtrl 4) 0 true ((fun s : State => setRb (Reg.status Page.lsp) 0 false (setRb (Reg.ctrl
     Page.lsp) 0 true s)) (setRf (Reg.lspPlStatus 4) 19 16 3 (taking Agent.host (Reg.lspPlCtrl 4) (setReg (Reg.sysResClaim (0x18 + 4)) (wd
     (4096 * agentClaimant Agent.host)) up))))), Agent.host, 4, by decide +kernel⟩,
   ⟨setRf (Reg.lspPlStatus 6) 19 16 5 (taking Agent.host (Reg.lspPlCtrl 6) (setRb (Reg.lspPlStatus 6) 23 true (setReg (Reg.sysResClaim (0x18
     + 6)) (wd (4096 * agentClaimant Agent.host)) up))), Agent.host, 6, by decide +kernel⟩,
   ⟨setRb (Reg.ctrl Page.lsp) 0 true (taking Agent.host (Reg.lspPlCtrl 5) (setReg (Reg.sysResClaim (0x18 + 5)) (wd (4096 * agentClaimant
     Agent.host)) up)), Agent.host, 5, by decide +kernel⟩,
   ⟨taking Agent.host (Reg.lspPlCtrl 3) (setReg (Reg.sysResClaim (0x18 + 3)) (wd (4096 * agentClaimant Agent.host)) up), Agent.host, 3,
     by decide +kernel⟩⟩

/-- The hypotheses of each clause of ScoresComplete can be met together. -/
theorem test_hyps_scores_complete :
    (∃ (s : State) (k : PlayerIx) (e : Task) (c : Section), s.delivers (0x88 + k) e ∧ (s.player k).trig = none ∧ s.playing k = false ∧
      s.toHold k = false ∧ (s.activeSections k).find? (fun c => c.kind == Kind.trigger) = some c ∧ (k = 4 → s.radioFree = true)) ∧
    (∃ (s : State) (k : PlayerIx) (e : Task), s.delivers (0x88 + k) e ∧ (s.player k).trig = none ∧ s.playing k = true ∧ (s.player k).kind
      ≠ Kind.trigger) ∧
    (∃ (s : State) (k : PlayerIx), s.rf (Reg.lspPlStatus k) 19 16 = 2 ∧ s.slotFault k (s.standbySlot k) = none) ∧
    (∃ (s : State) (k : PlayerIx) (i : Nat) (c : Nat), s.rf (Reg.lspPlStatus k) 19 16 = 2 ∧ s.slotFault k (s.standbySlot k) = some (i, c)
      ∧ s.rf (Reg.errCode Page.lsp) 15 10 = 0 ∧ i < 2 ^ 32 ∧ c < 8) ∧
    (∃ (s : State) (j : ScoreIx) (k : Nat) (b : Nat), s.hostUp = true ∧ s.isReady = true ∧ s.storeSlot (j / 2) = some (k, b) ∧ b =
      s.standbySlot k ∧ s.holds .host (0x18 + k) = true ∧ s.rf (Reg.lspPlStatus k) 19 16 ≠ 2 ∧ s.rf (Reg.lspPlStatus k) 19 16 ≠ 5) ∧
    (∃ (s : State) (ag : Agent) (k : PlayerIx) (onB : Bool) (w : Word), s.takes ag (slotReg k onB.toNat) ∧ s.holds ag (0x18 + k) = true ∧
      onB.toNat = s.standbySlot k ∧ s.rf (Reg.lspPlStatus k) 19 16 ≠ 2 ∧ s.rf (Reg.lspPlStatus k) 19 16 ≠ 5 ∧ s.slotClash k onB.toNat (fld
      w 12 0) (fld w 29 16) = false) ∧
    (∃ (s : State) (ag : Agent), s.takes ag Reg.lspCntClr) :=
  ⟨⟨(fun (e : Task) => delivering (0x88 + 4) e ((fun s : State => setMem 4 scoreBase 0x00000020 (setMem 4 (scoreBase + 4) 0x5c0e0101 (setMem
     4 (scoreBase + 16) 9 (setMem 4 (scoreBase + 20) 0x01400000 s)))) ((fun s : State => setReg (slotReg 4 (s.activeSlot 4)) (wd (64 *
     65536)) s) up))) ⟨140, 3, 60, 1⟩, 4, ⟨140, 3, 60, 1⟩, ⟨1, 4, 0, 0, false, 0, 9⟩, by decide +kernel⟩,
   ⟨(fun (e : Task) => delivering (0x88 + 5) e ((fun s : State => setRb (Reg.lspPlStatus 5) 23 true (modPlayer 5 (fun p =>
     { p with kind := 1 }) s)) up)) ⟨141, 0, 54, 1⟩, 5, ⟨141, 0, 54, 1⟩, by decide +kernel⟩,
   ⟨setRf (Reg.lspPlStatus 6) 19 16 2 ((fun s : State => setMem 4 (scoreBase + 8) (crc32 (imageBytes (fun j => s.slotWord 6 (s.standbySlot 6)
     j) 4)) (setMem 4 (scoreBase + 12) 7 s)) ((fun s : State => setMem 4 (scoreBase) 4 (setMem 4 (scoreBase + 4) 0x5c0e0101 (setMem 4
     (scoreBase + 16) 3 (setMem 4 (scoreBase + 20) 0x01500000 (setMem 4 (scoreBase + 24) 0 (setMem 4 (scoreBase + 28) 0xe0000000 s))))))
     ((fun s : State => setReg (slotReg 6 (s.standbySlot 6)) (wd (8 * 65536)) s) up))), 6, by decide +kernel⟩,
   ⟨setRf (Reg.lspPlStatus 6) 19 16 2 ((fun s : State => if 2 % 4 < 2 then s else setMem 4 (scoreBase + 8) (crc32 (imageBytes (fun j =>
     s.slotWord 6 (s.standbySlot 6) j) 4)) (if 2 % 4 = 2 then setMem 1 (scoreBase + 31) 0xf0 s else setMem 1 (scoreBase + 31) 0xd0 s))
     up), 6, 0, 1, by decide +kernel⟩,
   ⟨(fun (b : Nat) => (fun s : State => setReg (slotReg 1 (s.standbySlot 1)) (wd (64 * 65536)) (setReg (Reg.sysResClaim (0x18 + 1)) (wd
     0x1000) (setRf (Reg.lspPlStatus 1) 19 16 1 s))) ((fun s : State => (List.range 16).foldl (fun s b => setReg (slotReg (b / 2) (b % 2))
     0 s) s) up)) 0, 7, 1, 1, by decide +kernel⟩,
   ⟨taking Agent.host (slotReg 4 (true : Bool).toNat) (setReg (Reg.sysResClaim (0x18 + 4)) (wd (4096 * agentClaimant Agent.host)) up),
     Agent.host, 4, true, 0x00004c22#32, by decide +kernel⟩,
   ⟨taking Agent.host Reg.lspCntClr up, Agent.host, by decide +kernel⟩⟩

/-- The hypotheses of each clause of HfFramesComplete can be met together. -/
theorem test_hyps_hf_frames_complete :
    (∃ (s : State) (n : EngIx) (i : Issued) (x : Exch) (need : Nat), s.nextStep n = some i ∧ i.op = 3 ∧ i.operand % 4 = 0 ∧ s.quiesced
      (Page.fe n) = false ∧ i.act = i.target ∧ (s.eng n).exch = some x ∧ x.isL4 = false ∧ x.toSend = true ∧ need = max ((if s.engOn n then
      s.frameGuard n else none).getD 0) (s.turnEnd n (s.sendRate x.slot)) ∧ s.firstBad n = none ∧ (s.eng n).waits = [] ∧ s.movedOn n =
      false ∧ s.chanWaits n = false) ∧
    (∃ (s : State) (n : EngIx) (i : Issued) (x : Exch), s.nextStep n = some i ∧ i.op = 3 ∧ i.operand % 4 = 0 ∧ s.quiesced (Page.fe n) =
      false ∧ i.act = i.target ∧ (s.eng n).exch = some x ∧ x.isL4 = true ∧ x.toSend = true ∧ s.firstBad n = none ∧ (s.eng n).waits = [] ∧
      s.movedOn n = false ∧ s.chanWaits n = false) ∧
    (∃ (s : State) (n : EngIx) (i : Issued) (d : Disc), s.nextStep n = some i ∧ i.op = 3 ∧ i.operand % 4 = 0 ∧ s.quiesced (Page.fe n) =
      false ∧ i.act = i.target ∧ (s.eng n).exch = none ∧ (s.eng n).disc = some d ∧ d.sent = false ∧ s.firstBad n = none ∧ (s.eng n).waits
      = [] ∧ s.movedOn n = false ∧ s.chanWaits n = false) ∧
    (∃ (s : State) (n : EngIx) (r : Nat), (s.eng n).air.ref = some r ∧ s.rf (Reg.feExchStatus n) 10 8 = 2 ∧ s.feStd n ≠ 5 ∧ s.stepsLeft n
      = true) ∧
    (∃ (s : State) (n : EngIx) (i : Issued) (x : Exch), s.nextStep n = some i ∧ i.op = 4 ∧ s.quiesced (Page.fe n) = false ∧ i.act =
      i.target ∧ (s.eng n).exch = some x ∧ x.isL4 = false) ∧
    (∃ (s : State) (n : EngIx) (g : Nat), s.guardEnd n = some g ∧ s.rb (Reg.feFieldStatus n) 31 = false) :=
  ⟨⟨(fun s : State => setReg (Reg.sysResClaim (0x60 + s.rf (Reg.feCvu 1) 2 0)) (wd (4096 * (4 + 1))) (setRb (Reg.ctrl Page.cvu) 0 true (setRb
     (Reg.status Page.cvu) 0 false s))) ((fun (i : Issued) (x : Exch) => modEng 1 (fun e => { e with exch := some x }) ((fun s : State =>
     setRb (Reg.status (Page.fe 1)) 0 false (setRb (Reg.ctrl (Page.fe 1)) 0 true s)) (modPlayer 1 (fun p => { p with flight := [i] })
     up))) ⟨3, 981, 0, 1145, 1057, 1000, 981, 0, 0⟩ ⟨⟨1096, 897, 1000, 24145, 892, 334, 918, [0x00080000#32], 10, 2, some 10⟩, 9, 16485,
     ⟨[], 147, false, true, false, 1000, false⟩, true, false, [], 80431, none, ⟨[0xdd#8, 0x20#8, 0x50#8], [0x6f#8], true, 0, true, [], 6,
     true, 72, 809, 869, false⟩, true, false⟩), 1, ⟨3, 981, 0, 1145, 1057, 1000, 981, 0, 0⟩, ⟨⟨1096, 897, 1000, 24145, 892, 334, 918,
     [0x00080000#32], 10, 2, some 10⟩, 9, 16485, ⟨[], 147, false, true, false, 1000, false⟩, true, false, [], 80431, none, ⟨[0xdd#8,
     0x20#8, 0x50#8], [0x6f#8], true, 0, true, [], 6, true, 72, 809, 869, false⟩, true, false⟩, 0, by decide +kernel⟩,
   ⟨(fun s : State => setReg (Reg.sysResClaim (0x60 + s.rf (Reg.feCvu 0) 2 0)) (wd (4096 * (4 + 0))) (setRb (Reg.ctrl Page.cvu) 0 true (setRb
     (Reg.status Page.cvu) 0 false s))) ((fun (i : Issued) (x : Exch) => modEng 0 (fun e => { e with exch := some x }) ((fun s : State =>
     setRb (Reg.status (Page.fe 0)) 0 false (setRb (Reg.ctrl (Page.fe 0)) 0 true s)) (modPlayer 0 (fun p => { p with flight := [i] })
     up))) ⟨3, 0, 0, 1000, 1000, 3, 0, 0, 0⟩ ⟨⟨801, 2, 50514, 22, 805, 813, 22, [], 28361, 0, some 815⟩, 8, 1000, ⟨[], 1000, false, false,
     true, 1058, true⟩, true, true, [2], 103155, none, ⟨[], [0xcd#8], false, 1108, true, [0xfe#8, 0x0c#8], 5955, true, 811, 0, 977,
     false⟩, false, false⟩), 0, ⟨3, 0, 0, 1000, 1000, 3, 0, 0, 0⟩, ⟨⟨801, 2, 50514, 22, 805, 813, 22, [], 28361, 0, some 815⟩, 8, 1000,
     ⟨[], 1000, false, false, true, 1058, true⟩, true, true, [2], 103155, none, ⟨[], [0xcd#8], false, 1108, true, [0xfe#8, 0x0c#8], 5955,
     true, 811, 0, 977, false⟩, false, false⟩, by decide +kernel⟩,
   ⟨(fun s : State => setReg (Reg.sysResClaim (0x60 + s.rf (Reg.feCvu 3) 2 0)) (wd (4096 * (4 + 3))) (setRb (Reg.ctrl Page.cvu) 0 true (setRb
     (Reg.status Page.cvu) 0 false s))) ((fun (i : Issued) (d : Disc) => modEng 3 (fun e => { e with disc := some d }) ((fun s : State =>
     setRb (Reg.status (Page.fe 3)) 0 false (setRb (Reg.ctrl (Page.fe 3)) 0 true s)) (modPlayer 3 (fun p => { p with flight := [i] })
     up))) ⟨3, 113, 0, 89, 13, 694, 113, 0, 0⟩ ⟨⟨1021, 3, 43708, 989, 18010, 1, 48, [0x00007011#32], 31345, 9737, none⟩, 895, ⟨1184,
     [0xe5#8], [true, true, false, false]⟩, [⟨1000, [], [false]⟩], 0, 1178, 1085, false, 6, 1, 5, 0, 0, 2, [1000], [], 1064, false, true,
     4471, 1000, [[0xba#8]], false, false, [3]⟩), 3, ⟨3, 113, 0, 89, 13, 694, 113, 0, 0⟩, ⟨⟨1021, 3, 43708, 989, 18010, 1, 48,
     [0x00007011#32], 31345, 9737, none⟩, 895, ⟨1184, [0xe5#8], [true, true, false, false]⟩, [⟨1000, [], [false]⟩], 0, 1178, 1085, false,
     6, 1, 5, 0, 0, 2, [1000], [], 1064, false, true, 4471, 1000, [[0xba#8]], false, false, [3]⟩, by decide +kernel⟩,
   ⟨setRf (Reg.feExchStatus 0) 10 8 2 (modEng 0 (fun e => { e with air := { e.air with ref := some 0 } }) ((fun s : State => setRf
     (Reg.feMode 0) 3 0 2 (setRb (Reg.lspPlStatus 0) 23 true s)) up)), 0, 0, by decide +kernel⟩,
   ⟨(fun (i : Issued) (x : Exch) => modEng 3 (fun e => { e with exch := some x }) ((fun s : State => setRb (Reg.status (Page.fe 3)) 0 false
     (setRb (Reg.ctrl (Page.fe 3)) 0 true s)) (modPlayer 3 (fun p => { p with flight := [i] }) up))) ⟨4, 0, 96990, 19887, 70266, 244, 0,
     0, 0⟩ ⟨⟨835, 976, 29, 172, 3339, 0, 2, [0x0000000c#32, 0xc35a0003#32], 2, 1, some 1972⟩, 68894, 1090, ⟨[], 20085, true, false, false,
     7, false⟩, false, false, [1169], 3262, some 13, ⟨[], [0x9d#8, 0xa1#8, 0x50#8], true, 3, false, [0xa0#8], 1011, true, 38166, 1626,
     1044, true⟩, false, false⟩, 3, ⟨4, 0, 96990, 19887, 70266, 244, 0, 0, 0⟩, ⟨⟨835, 976, 29, 172, 3339, 0, 2, [0x0000000c#32,
     0xc35a0003#32], 2, 1, some 1972⟩, 68894, 1090, ⟨[], 20085, true, false, false, 7, false⟩, false, false, [1169], 3262, some 13, ⟨[],
     [0x9d#8, 0xa1#8, 0x50#8], true, 3, false, [0xa0#8], 1011, true, 38166, 1626, 1044, true⟩, false, false⟩, by decide +kernel⟩,
   ⟨modEng 3 (fun e => { e with guardFrom := some 0 }) up, 3, 0, by decide +kernel⟩⟩

/-- The hypotheses of each clause of HfResultsComplete can be met together. -/
theorem test_hyps_hf_results_complete :
    (∃ (s : State) (n : EngIx) (o : Nat) (c : Nat) (tick : Nat) (ends : Nat) (k : Nat) (low : Bool) (f : SofShape) (x : SumOut), (s.eng
      n).air.opened = some o ∧ (s.eng n).air.close = some c ∧ s.awaiting n = true ∧ (s.eng n).air.sof = none ∧ s.beganEarly n o low =
      false ∧ s.sofOut n tick ends (carrierMean (s.sumOuts n) o) (halfCycle (s.feStd n) (s.replyRate n) low) = some x ∧ k = halfTick x.at2
      ∧ sofFits (s.feStd n) (s.replyRate n) f = true ∧ o ≤ k ∧ k ≤ c ∧ k < 2 ^ 64) ∧
    (∃ (s : State) (n : EngIx) (o : Nat) (c : Nat) (low : Bool) (x : Exch), (s.eng n).air.opened = some o ∧ (s.eng n).air.close = some c ∧
      s.awaiting n = true ∧ (s.eng n).air.sof = none ∧ s.beganEarly n o low = true ∧ (s.eng n).exch = some x ∧ x.isL4 = false ∧ x.xb =
      false) ∧
    (∃ (s : State) (n : EngIx) (sof : Nat) (ref : Nat) (m : Nat) (x : Exch) (r : HfReply) (l : List Bool) (w : List (Nat × HfMark)),
      (s.eng n).air.sof = some sof ∧ (s.eng n).air.ref = some ref ∧ (s.eng n).exch = some x ∧ x.isL4 = false ∧ x.xb = false ∧ (s.eng
      n).air.frame.bits = false ∧ (s.eng n).air.frame.rxCrc = false ∧ s.feStd n ≠ 4 ∧ guardMarks (s.feStd n) (s.replyRate n) (8 * m) r =
      [] ∧ s.heardBits n r = (l, w) ∧ w.all (fun q => (markStatus (s.rf (Reg.feRxCfg n) 31 24) q.2).isNone) = true ∧ l.length = 8 * m ∧ m
      ≤ s.frameMax x.slot * 512 ∧ m ≤ 65535 ∧ s.checkWaits n = false ∧ (s.eng n).heard = none) ∧
    (∃ (s : State) (n : EngIx) (c : Nat) (x : Exch), (s.eng n).air.close = some c ∧ (s.eng n).air.sof = none ∧ s.awaiting n = true ∧
      (s.eng n).exch = some x ∧ (s.eng n).disc = none ∧ x.isL4 = false ∧ x.xb = false ∧ s.beganEarly n ((s.eng n).air.opened.getD 0) true
      = false) ∧
    (∃ (s : State) (n : EngIx) (c : Nat) (d : Disc), (s.eng n).air.close = some c ∧ (s.eng n).air.sof = none ∧ s.awaiting n = true ∧
      (s.eng n).exch = none ∧ (s.eng n).disc = some d ∧ d.heard = false ∧ d.typeA = true ∧ d.step = 0 ∧ d.resume = false ∧ d.errs = [] ∧
      s.beganEarly n ((s.eng n).air.opened.getD 0) true = false) ∧
    (∃ (s : State) (n : EngIx) (e : Task) (x : Exch), s.delivers (0x90 + n) e ∧ (s.eng n).exch = some x ∧ x.xb = false) ∧
    (∃ (s : State) (ag : Agent) (n : EngIx), s.takes ag (Reg.feCntClr n)) ∧
    (∃ (s : State) (ag : Agent), s.takes ag Reg.sessCntClr) :=
  ⟨⟨setRf (Reg.feRxCfg 2) 23 0 0 (modCoil 3 (fun e =>
     { e with outs := [⟨60, 100, true, 0, 0, 2, some (0, 0)⟩, ⟨50, 4, true, 0, 0, 2, some (0, 0)⟩] }) (setReg (Reg.sysResClaim 3) (wd
     (4096 * 6)) (modEng 2 (fun e => { e with air := { e.air with close := some 60 } }) (modEng 2 (fun e =>
     { e with air := { e.air with opened := some 3 } }) ((fun s : State => modEng 2 (fun e =>
     { e with exch := some { item := s.queue.cmd.headD ⟨8, 0, 0, 0, 0, 0, 0, [], 0, 0, none⟩, slot := 3, start := 0, toSend := false }, air := { e.air with ref := some 5 } })
     s) up))))), 2, 3, 60, 50, 55, 50, true, .fixed 0, ⟨100, true, (0, 0)⟩, by decide +kernel⟩,
   ⟨modCoil 3 (fun e => { e with outs := [⟨60, 2400, true, 0, 0, 2, some (0, 5 * 2 ^ 88)⟩, ⟨50, 4, true, 0, 0, 2, some (0, 0)⟩] }) (setReg
     (Reg.sysResClaim 3) (wd (4096 * 6)) ((fun (x : Exch) => modEng 2 (fun e => { e with exch := some x }) (modEng 2 (fun e =>
     { e with air := { e.air with close := some 1 } }) (modEng 2 (fun e => { e with air := { e.air with opened := some 1000 } }) (modEng 2
     (fun e => { e with air := { e.air with ref := some 77 } }) up)))) ⟨⟨38598, 22745, 115943, 100779, 1000, 4555, 6781, [], 55285, 0,
     some 2⟩, 3, 73, ⟨[], 0, true, false, true, 39873, true⟩, false, false, [56575], 10, some 27390, ⟨[], [0xc7#8], false, 0, true,
     [0x3e#8], 14796, false, 10, 9072, 1072, true⟩, false, false⟩)), 2, 1000, 1, true, ⟨⟨38598, 22745, 115943, 100779, 1000, 4555, 6781,
     [], 55285, 0, some 2⟩, 3, 73, ⟨[], 0, true, false, true, 39873, true⟩, false, false, [56575], 10, some 27390, ⟨[], [0xc7#8], false,
     0, true, [0x3e#8], 14796, false, 10, 9072, 1072, true⟩, false, false⟩, by decide +kernel⟩,
   ⟨(fun s : State => setReg (Reg.sysResClaim (0x60 + s.rf (Reg.feCvu 1) 2 0)) (wd (4096 * (4 + 1))) (setRb (Reg.ctrl Page.cvu) 0 true (setRb
     (Reg.status Page.cvu) 0 false s))) (setRf (Reg.feMode 1) 3 0 1 (setCtx 3 9 0 (setCtx 3 6 1 ((fun (x : Exch) => modEng 1 (fun e =>
     { e with exch := some x }) (modEng 1 (fun e => { e with air := { e.air with ref := some 0 } }) (modEng 1 (fun e =>
     { e with air := { e.air with sof := some 49404 } }) (modEng 1 (fun e =>
     { e with air := { e.air with frame := { e.air.frame with bits := false, rxCrc := false } } }) up)))) ⟨⟨3183, 6, 3, 94, 179, 2, 0,
     [0xc35a0001#32], 1, 9, some 3539⟩, 3, 12, ⟨[], 54, false, false, true, 29406, false⟩, false, false, [53044], 36916, none, ⟨[0x8b#8,
     0xb9#8, 0x57#8, 0xfd#8], [0x51#8, 0x9d#8], true, 6, false, [0xf1#8, 0xea#8, 0xd8#8, 0x95#8], 101477, false, 1136, 4901, 22956, true⟩,
     false, false⟩)))), 1, 49404, 0, 1, ⟨⟨3183, 6, 3, 94, 179, 2, 0, [0xc35a0001#32], 1, 9, some 3539⟩, 3, 12, ⟨[], 54, false, false,
     true, 29406, false⟩, false, false, [53044], 36916, none, ⟨[0x8b#8, 0xb9#8, 0x57#8, 0xfd#8], [0x51#8, 0x9d#8], true, 6, false,
     [0xf1#8, 0xea#8, 0xd8#8, 0x95#8], 101477, false, 1136, 4901, 22956, true⟩, false, false⟩, ⟨2943, [.halves 20 700, .halves 700 20,
     .halves 700 20, .halves 20 700, .halves 20 700, .halves 700 20, .halves 20 700, .halves 20 700, .halves 20 700], [⟨2, true⟩], [], 0⟩,
     [false, true, true, false, false, true, false, false], [(0, .halves 20 700), (1, .halves 20 700), (2, .halves 20 700), (3, .halves 20
     700), (4, .halves 20 700), (5, .halves 20 700), (6, .halves 20 700), (7, .halves 20 700), (7, .parityHalves 20 700)],
     by decide +kernel⟩,
   ⟨(fun (x : Exch) => modEng 1 (fun e => { e with exch := some x }) (modEng 1 (fun e => { e with air := { e.air with close := some 4 } })
     (modEng 1 (fun e => { e with air := { e.air with ref := some 77 } }) up))) ⟨⟨1000, 11, 1160, 4875, 3, 2094, 119206, [], 3, 0, some
     0⟩, 8, 15837, ⟨[0x71#8], 992, true, false, false, 1000, false⟩, false, false, [1000], 12, none, ⟨[0x49#8, 0xe1#8, 0xea#8], [0xc2#8,
     0xb5#8, 0x81#8], false, 0, false, [0xe5#8], 1743, true, 1000, 9, 0, false⟩, false, false⟩, 1, 4, ⟨⟨1000, 11, 1160, 4875, 3, 2094,
     119206, [], 3, 0, some 0⟩, 8, 15837, ⟨[0x71#8], 992, true, false, false, 1000, false⟩, false, false, [1000], 12, none, ⟨[0x49#8,
     0xe1#8, 0xea#8], [0xc2#8, 0xb5#8, 0x81#8], false, 0, false, [0xe5#8], 1743, true, 1000, 9, 0, false⟩, false, false⟩,
     by decide +kernel⟩,
   ⟨(fun (d : Disc) => modEng 1 (fun e => { e with disc := some d }) (modEng 1 (fun e => { e with air := { e.air with close := some 1000 } })
     (modEng 1 (fun e => { e with air := { e.air with ref := some 77 } }) up))) ⟨⟨95040, 1165, 114999, 2, 0, 0, 4, [0x10000000#32], 6446,
     153, some 990⟩, 0, ⟨8, [], []⟩, [], 4556, 85094, 808, true, 0, 2, 128, 132, 2, 2223, [243, 83901, 70211], [], 1436, true, false,
     23364, 1141, [[]], false, false, []⟩, 1, 1000, ⟨⟨95040, 1165, 114999, 2, 0, 0, 4, [0x10000000#32], 6446, 153, some 990⟩, 0, ⟨8, [],
     []⟩, [], 4556, 85094, 808, true, 0, 2, 128, 132, 2, 2223, [243, 83901, 70211], [], 1436, true, false, 23364, 1141, [[]], false,
     false, []⟩, by decide +kernel⟩,
   ⟨(fun (e : Task) (x : Exch) => modEng 0 (fun e => { e with exch := some x }) (delivering (0x90 + 0) e up)) ⟨144, 0, 46, 0⟩ ⟨⟨8, 4841, 226,
     42460, 0, 2, 3, [0x00000002#32], 1182, 476, none⟩, 7, 2940, ⟨[], 998, false, true, true, 7, false⟩, false, false, [0], 3, none,
     ⟨[0x3c#8, 0x6b#8, 0x50#8, 0x0b#8], [0xe3#8], true, 45181, false, [], 0, true, 1, 34, 114060, false⟩, false, false⟩, 0, ⟨144, 0, 46,
     0⟩, ⟨⟨8, 4841, 226, 42460, 0, 2, 3, [0x00000002#32], 1182, 476, none⟩, 7, 2940, ⟨[], 998, false, true, true, 7, false⟩, false, false,
     [0], 3, none, ⟨[0x3c#8, 0x6b#8, 0x50#8, 0x0b#8], [0xe3#8], true, 45181, false, [], 0, true, 1, 34, 114060, false⟩, false, false⟩,
     by decide +kernel⟩,
   ⟨taking Agent.host (Reg.feCntClr 2) up, Agent.host, 2, by decide +kernel⟩,
   ⟨taking Agent.host Reg.sessCntClr up, Agent.host, by decide +kernel⟩⟩

/-- The hypotheses of each clause of RadioStatesComplete can be met together. -/
theorem test_hyps_radio_states_complete :
    (∃ (s : State) (ag : Agent) (w : Word) (q : RadioReq), s.takes ag Reg.rbSynReq ∧ s.holds ag 0x78 = true ∧ bit w 31 = true ∧ s.rb
      (Reg.ctrl Page.rbSyn) 0 = true ∧ q = reqOf w.toNat none 0 ∧ q.bad = false ∧ s.radioBusy = false ∧ s.radioHeld = false ∧ s.rb
      Reg.sensProt 28 = false) ∧
    (∃ (s : State) (ag : Agent) (w : Word), s.takes ag Reg.rbSynReq ∧ s.holds ag 0x78 = true ∧ bit w 31 = true ∧ s.rb (Reg.ctrl
      Page.rbSyn) 0 = true ∧ (reqOf w.toNat none 0).bad = false ∧ (s.radioBusy = true ∨ s.radioHeld = true)) ∧
    (∃ (s : State) (ag : Agent) (w : Word), s.takes ag Reg.rbSynReq ∧ s.holds ag 0x78 = false ∧ bit w 31 = true ∧ s.rb (Reg.ctrl
      Page.rbSyn) 0 = true ∧ s.rf (Reg.errCode Page.rbSyn) 15 10 = 0) ∧
    (∃ (s : State) (i : Issued), s.nextStep 4 = some i ∧ i.op = 5 ∧ s.rbPageOn Page.rbSyn = true ∧ (reqOf i.operand none 0).bad = false ∧
      i.act = i.target ∧ s.radioBusy = false ∧ s.radioHeld = false) ∧
    (∃ (s : State) (v : Nat), s.radio.legTo = some v ∧ s.radio.goal = some v ∧ v ≤ 4 ∧ (v ≤ 3 ∨ s.rbLocked = true) ∧ s.radioHeld = false) ∧
    (∃ (s : State) (tick : Nat) (e : Nat), (s.radio.phase = 1 ∨ s.radio.phase = 2) ∧ e = min (max tick (max s.now s.radio.synthStart))
      (s.radio.synthStart + (if s.radio.phase = 1 then 5641 else 11282))) ∧
    (∃ (s : State), (s.radio.phase = 3 ∨ s.radio.phase = 4 ∨ s.radio.phase = 5) ∧ s.radio.testWaits = none ∧ 3 ≤ s.radio.goal.getD 4 ∧
      s.radio.regain = false) ∧
    (∃ (s : State), s.radio.phase = 1) ∧
    (∃ (s : State), s.radio.phase = 2 ∧ s.link.ex = none ∧ s.radioHeld = false ∧ s.rf (Reg.errCode Page.rbSyn) 15 10 = 0) ∧
    (∃ (s : State), s.rbLocked = true ∧ s.radio.tx = none ∧ s.rx.rx = none) :=
  ⟨⟨(fun s : State => (List.range 6).foldl (fun s j => setRb (Reg.ctrl (0x1f + j)) 0 true (setRb (Reg.ctrl (0x1f + j)) 1 false (setRb
     (Reg.status (0x1f + j)) 0 false s))) (setRb Reg.clkGate 0 false { s with boot := { s.boot with vddrf := true } })) (setRb (Reg.ctrl
     Page.rbSyn) 0 true (taking Agent.host Reg.rbSynReq (setRf (Reg.sysResClaim 0x78) 15 12 (agentClaimant Agent.host) up))), Agent.host,
     0x80000001#32, ⟨1, 0, 0, 0, none, 0⟩, by decide +kernel⟩,
   ⟨setRb (Reg.ctrl Page.rbSyn) 0 true (taking Agent.host Reg.rbSynReq ((fun s : State =>
     { s with radio := { s.radio with tx := some ⟨[], 0, 0, 0, 0, 0, 0, 0, 0, 0, false, 0, false⟩ } }) (setRf (Reg.sysResClaim 0x78) 15 12
     (agentClaimant Agent.host) up))), Agent.host, 0x80010000#32, by decide +kernel⟩,
   ⟨setRb (Reg.ctrl Page.rbSyn) 0 true (taking Agent.host Reg.rbSynReq up), Agent.host, 0x80078cd0#32, by decide +kernel⟩,
   ⟨(fun (i : Issued) => (fun s : State => (List.range 6).foldl (fun s j => setRb (Reg.status (0x1f + j)) 0 false (setRb (Reg.ctrl (0x1f +
     j)) 0 true (setRb (Reg.ctrl (0x1f + j)) 1 false s))) s) (modPlayer 4 (fun p => { p with flight := [i] }) up)) ⟨5, 38, 2, 0, 1000, 3,
     38, 0, 0⟩, ⟨5, 38, 2, 0, 1000, 3, 38, 0, 0⟩, by decide +kernel⟩,
   ⟨(fun s : State => (List.range 6).foldl (fun s j => setRb (Reg.ctrl (0x1f + j)) 0 true (setRb (Reg.ctrl (0x1f + j)) 1 false (setRb
     (Reg.status (0x1f + j)) 0 false s))) (setRb Reg.clkGate 0 false { s with boot := { s.boot with vddrf := true } })) ((fun s : State =>
     { s with radio := { s.radio with goal := some 2 } }) ((fun s : State => { s with radio := { s.radio with legTo := some 2 } }) up)),
     2, by decide +kernel⟩,
   ⟨(fun s : State => { s with radio := { s.radio with phase := 1 } }) up, 20, _, by decide +kernel, rfl⟩,
   ⟨(fun s : State => { s with radio := { s.radio with phase := 3 } }) up, by decide +kernel⟩,
   ⟨(fun s : State => { s with radio := { s.radio with phase := 1 } }) up, by decide +kernel⟩,
   ⟨(fun s : State => (List.range 6).foldl (fun s j => setRb (Reg.ctrl (0x1f + j)) 0 true (setRb (Reg.ctrl (0x1f + j)) 1 false (setRb
     (Reg.status (0x1f + j)) 0 false s))) (setRb Reg.clkGate 0 false { s with boot := { s.boot with vddrf := true } })) ((fun s : State =>
     { s with radio := { s.radio with phase := 2 } }) up), by decide +kernel⟩,
   ⟨setRb Reg.rbSynState 12 true up, by decide +kernel⟩⟩

/-- The hypotheses of each clause of TransmissionsComplete can be met together. -/
theorem test_hyps_transmissions_complete :
    (∃ (s : State) (i : Issued) (x : LinkEx) (k : Nat) (c : Bool) (chan : Nat) (l : List Byte), s.nextStep 4 = some i ∧ i.op = 7 ∧
      i.operand % 2 = 0 ∧ s.radioHeld = false ∧ s.rbPageOn Page.rbTx = true ∧ s.link.ex = some x ∧ x.xb = false ∧ x.again = false ∧
      linkCmd x.item ≠ Cmd.wake ∧ x.sent = false ∧ chan = s.lkChannel x.slot ∧ s.canRamp chan = true ∧ s.rb Reg.rbAntStatus 2 = false ∧
      s.rb (Reg.rbTxCh chan) 31 = true ∧ s.paStep chan (s.askedStep (s.rf Reg.rbSynState 23 19)) = some (k, c) ∧ l = withCrc (s.linkFrame
      x.slot (linkCmd x.item) (s.txFcnt x.slot) (linkPayload x.item)) ∧ (dutySettle (s.rf (Reg.rbTxCh chan) 25 24) (passTo (max s.now (max
      (i.target - 192) i.issued)) s)).dutyOver (s.rf (Reg.rbTxCh chan) 25 24) (packetThirds (s.lkTxRate x.slot) l.length + 3 * 384) =
      false) ∧
    (∃ (s : State) (i : Issued) (x : LinkEx) (chan : Nat), s.nextStep 4 = some i ∧ i.op = 7 ∧ i.operand % 2 = 0 ∧ s.radioHeld = false ∧
      s.rbPageOn Page.rbTx = true ∧ s.link.ex = some x ∧ x.xb = false ∧ x.again = false ∧ linkCmd x.item ≠ Cmd.wake ∧ x.sent = false ∧
      chan = s.lkChannel x.slot ∧ s.canRamp chan = true ∧ s.rb Reg.rbAntStatus 2 = false ∧ s.rb (Reg.rbTxCh chan) 31 = false ∧ s.rf
      (Reg.errCode Page.rbTx) 15 10 = 0) ∧
    (∃ (s : State) (x : RadioTx), s.radio.tx = some x ∧ s.rbState = 6) ∧
    (∃ (s : State) (x : RadioTx), s.radio.tx = some x ∧ s.rbState = 7 ∧ x.test = 0) ∧
    (∃ (s : State) (x : RadioTx) (b : Nat) (r : List Nat), s.radio.tx = some x ∧ s.rbState = 8 ∧ (dutySettle (s.rf (Reg.rbTxCh x.chan) 25
      24) (passTo (x.last + 192) s)).dutyBins (s.rf (Reg.rbTxCh x.chan) 25 24) = b :: r) ∧
    (∃ (s : State) (x : RadioTx) (g : Nat), s.radio.tx = some x ∧ s.rbState = 7 ∧ x.measured = false ∧ x.first + 512 ≤ x.last ∧ g ≤ s.rf
      Reg.rbAntMmCfg 7 0) ∧
    (∃ (s : State) (x : RadioTx) (g : Nat), s.radio.tx = some x ∧ s.rbState = 7 ∧ x.measured = false ∧ x.first + 512 ≤ x.last ∧ s.rf
      Reg.rbAntMmCfg 7 0 < g ∧ s.rf (Reg.errCode Page.rbAnt) 15 10 = 0) ∧
    (∃ (s : State) (ag : Agent) (w : Word) (k : Nat) (c : Bool), s.takes ag Reg.rbTxCtrl ∧ s.holds ag 0x78 = true ∧ bit w 0 = true ∧ bit w
      3 = false ∧ (fld w 2 1 = 1 ∨ fld w 2 1 = 2) ∧ s.radio.tx = none ∧ s.radio.testWaits = none ∧ s.rb Reg.rbAntStatus 2 = false ∧ s.rb
      (Reg.rbTxCh s.rbChannel) 31 = true ∧ s.paStep s.rbChannel (s.askedStep (s.rf Reg.rbSynState 23 19)) = some (k, c) ∧ (dutySettle
      (s.rf (Reg.rbTxCh s.rbChannel) 25 24) s).dutyOver (s.rf (Reg.rbTxCh s.rbChannel) 25 24) (3 * (108480 * max 1 (fld w 31 16) + 384)) =
      false ∧ s.rb (Reg.ctrl Page.rbTx) 0 = true) ∧
    (∃ (s : State) (ag : Agent) (x : RadioTx), s.takes ag Reg.rbTxCtrl ∧ s.radio.tx = some x ∧ x.test ≠ 0 ∧ s.rbState = 7 ∧ bit (s.reg
      Reg.rbTxCtrl) 0 = false) ∧
    (∃ (s : State) (x : RadioTx), s.radio.tx = some x ∧ x.test ≠ 0 ∧ s.rbState = 7) ∧
    (∃ (s : State) (g : DutyIx) (e : Nat), s.fldRuns = true ∧ s.dutyWindow g ≠ 0 ∧ e = tabGet 0 s.radio.binFrom g + s.binLength g ∧ s.now
      < e + s.binLength g ∧ e < 2 ^ 64 ∧ s.now < 2 ^ 64) ∧
    (∃ (s : State), s.radioBusy = false) ∧
    (∃ (s : State) (ag : Agent), s.takes ag Reg.rbSynCntClr) ∧
    (∃ (s : State) (ag : Agent), s.takes ag Reg.rbTxCntClr) ∧
    (∃ (s : State) (ag : Agent), s.takes ag Reg.rbAntCntClr) :=
  ⟨⟨(fun (i : Issued) (x : LinkEx) => (fun s : State => { s with link := { s.link with ex := some x } }) (setReg (Reg.rbTxCh 7) (wd (2 ^ 31 +
     20 * 65536)) ((fun s : State => setRf (Reg.rbTxDuty 0) 15 0 10000 (setRf (Reg.rbTxDuty 1) 15 0 10000 (setRf (Reg.rbTxDuty 2) 15 0
     10000 (setRf (Reg.rbTxDuty 3) 15 0 10000 s)))) (setCtx x.slot 0x86 7 ((fun s : State => setRf Reg.rbSynState 9 4 7 (setRb
     Reg.rbSynState 12 true (setRf Reg.rbSynState 3 0 (3 + i.act % 3) s))) ((fun s : State => (List.range 6).foldl (fun s j => setRb
     (Reg.status (0x1f + j)) 0 false (setRb (Reg.ctrl (0x1f + j)) 0 true (setRb (Reg.ctrl (0x1f + j)) 1 false s))) s) (modPlayer 4 (fun p
     => { p with flight := [i] }) up))))))) ⟨7, 147, 176, 24208, 103615, 55877, 11, 0, 0⟩ ⟨⟨847, 1000, 1516, 0, 42685, 10, 0,
     [0x03000008#32], 1, 46503, none⟩, 8, false, 9939, [52819], true, false, false, some 3, 944, 38193, 2, false, 11, 4, 3465, 5286, 2147,
     []⟩, ⟨7, 147, 176, 24208, 103615, 55877, 11, 0, 0⟩, ⟨⟨847, 1000, 1516, 0, 42685, 10, 0, [0x03000008#32], 1, 46503, none⟩, 8, false,
     9939, [52819], true, false, false, some 3, 944, 38193, 2, false, 11, 4, 3465, 5286, 2147, []⟩, 0, false, 7, [0x01#8, 0x00#8, 0x00#8,
     0x00#8, 0x00#8, 0x00#8, 0x00#8, 0x00#8, 0x00#8, 0x00#8, 0x03#8, 0x28#8, 0xb1#8, 0xeb#8], by decide +kernel⟩,
   ⟨(fun (i : Issued) (x : LinkEx) => (fun s : State => { s with link := { s.link with ex := some x } }) (setCtx x.slot 0x86 7 ((fun s :
     State => setRf Reg.rbSynState 9 4 7 (setRb Reg.rbSynState 12 true (setRf Reg.rbSynState 3 0 (3 + i.act % 3) s))) ((fun s : State =>
     (List.range 6).foldl (fun s j => setRb (Reg.status (0x1f + j)) 0 false (setRb (Reg.ctrl (0x1f + j)) 0 true (setRb (Reg.ctrl (0x1f +
     j)) 1 false s))) s) (modPlayer 4 (fun p => { p with flight := [i] }) up))))) ⟨7, 878, 0, 915, 96769, 57900, 3, 0, 0⟩ ⟨⟨1000, 120372,
     1000, 85964, 1000, 237, 95563, [0x03000008#32], 0, 86, some 1052⟩, 0, false, 1012, [906], false, false, false, none, 29613, 1, 0,
     false, 45, 1544, 186, 18947, 0, [254]⟩, ⟨7, 878, 0, 915, 96769, 57900, 3, 0, 0⟩, ⟨⟨1000, 120372, 1000, 85964, 1000, 237, 95563,
     [0x03000008#32], 0, 86, some 1052⟩, 0, false, 1012, [906], false, false, false, none, 29613, 1, 0, false, 45, 1544, 186, 18947, 0,
     [254]⟩, 7, by decide +kernel⟩,
   ⟨(fun (x : RadioTx) => (fun s : State => { s with radio := { s.radio with tx := some x } }) (setRf Reg.rbSynState 3 0 6 up)) ⟨[], 1591,
     163, 0, 3, 1047, 0, 907, 1000, 0, false, 0, false⟩, ⟨[], 1591, 163, 0, 3, 1047, 0, 907, 1000, 0, false, 0, false⟩, by decide +kernel⟩,
   ⟨(fun (x : RadioTx) => (fun s : State => { s with radio := { s.radio with tx := some x } }) (setRf Reg.rbSynState 3 0 7 up)) ⟨[0xa6#8], 0,
     0, 99355, 6, 3, 0, 15, 80, 0, false, 0, true⟩, ⟨[0xa6#8], 0, 0, 99355, 6, 3, 0, 15, 80, 0, false, 0, true⟩, by decide +kernel⟩,
   ⟨(fun (x : RadioTx) (r : List Nat) => (fun s : State => { s with radio := { s.radio with tx := some x } }) ((fun s : State => setRf
     Reg.rbSynState 3 0 8 { s with radio := { s.radio with bins := (List.range 4).map (fun g => (g, 0 :: r)) } }) up)) ⟨[], 39980, 12,
     1024, 843, 0, 0, 30822, 4402, 1, true, 0, true⟩ [66894], ⟨[], 39980, 12, 1024, 843, 0, 0, 30822, 4402, 1, true, 0, true⟩, 0, [66894],
     by decide +kernel⟩,
   ⟨(fun (x : RadioTx) => (fun s : State => { s with radio := { s.radio with tx := some x } }) ((fun s : State => setRf Reg.rbSynState 3 0 7
     (setRf Reg.rbAntMmCfg 7 0 50 s)) up)) ⟨[], 904, 55360, 1, 1000, 8, 0, 1640, 1128, 1, true, 0, false⟩, ⟨[], 904, 55360, 1, 1000, 8, 0,
     1640, 1128, 1, true, 0, false⟩, 11, by decide +kernel⟩,
   ⟨(fun (x : RadioTx) => (fun s : State => { s with radio := { s.radio with tx := some x } }) ((fun s : State => setRf Reg.rbSynState 3 0 7
     (setRf Reg.rbAntMmCfg 7 0 50 s)) up)) ⟨[], 64588, 0, 190, 2, 1, 0, 2433, 3239, 1, true, 0, false⟩, ⟨[], 64588, 0, 190, 2, 1, 0, 2433,
     3239, 1, true, 0, false⟩, 1073, by decide +kernel⟩,
   ⟨setRb (Reg.ctrl Page.rbTx) 0 true (taking Agent.host Reg.rbTxCtrl (setReg (Reg.rbTxCh 7) (wd (2 ^ 31 + 20 * 65536)) ((fun s : State =>
     setRf Reg.rbSynState 9 4 7 (setRb Reg.rbSynState 12 (bit 0xa5c30003#32 16) s)) ((fun s : State => setRf (Reg.rbTxDuty 0) 15 0 10000
     (setRf (Reg.rbTxDuty 1) 15 0 10000 (setRf (Reg.rbTxDuty 2) 15 0 10000 (setRf (Reg.rbTxDuty 3) 15 0 10000 s)))) (setRf
     (Reg.sysResClaim 0x78) 15 12 (agentClaimant Agent.host) up))))), Agent.host, 0xa5c30003#32, 0, false, by decide +kernel⟩,
   ⟨(fun (x : RadioTx) => (fun s : State => { s with radio := { s.radio with tx := some x } }) (taking Agent.host Reg.rbTxCtrl ((fun s :
     State => setRf Reg.rbSynState 3 0 7 (setRb Reg.rbTxCtrl 0 false s)) up))) ⟨[], 60596, 1014, 1, 995, 0, 0, 881, 3, 1, false, 0,
     false⟩, Agent.host, ⟨[], 60596, 1014, 1, 995, 0, 0, 881, 3, 1, false, 0, false⟩, by decide +kernel⟩,
   ⟨(fun (x : RadioTx) => (fun s : State => { s with radio := { s.radio with tx := some x } }) (setRf Reg.rbSynState 3 0 7 up)) ⟨[], 1025,
     5147, 1000, 999, 0, 0, 0, 0, 1, false, 0, true⟩, ⟨[], 1025, 5147, 1000, 999, 0, 0, 0, 0, 1, false, 0, true⟩, by decide +kernel⟩,
   ⟨setReg (Reg.rbTxDuty 1) 0x00010020 up, 1, _, by decide +kernel, by decide +kernel, rfl, by decide +kernel, by decide +kernel,
     by decide +kernel⟩,
   ⟨up, by decide +kernel⟩,
   ⟨taking Agent.host Reg.rbSynCntClr up, Agent.host, by decide +kernel⟩,
   ⟨taking Agent.host Reg.rbTxCntClr up, Agent.host, by decide +kernel⟩,
   ⟨taking Agent.host Reg.rbAntCntClr up, Agent.host, by decide +kernel⟩⟩

/-- The hypotheses of each clause of ReceptionComplete can be met together. -/
theorem test_hyps_reception_complete :
    (∃ (s : State) (d : Detection), s.rbState = 4 ∧ s.rx.rx = none ∧ s.radio.legTo = none ∧ s.meets
      { d with samples := s.heard d.samples, first := s.heard d.first, second := s.heard d.second } = true) ∧
    (∃ (s : State) (u : State) (x : RbSamples) (b : Bool), s.rbState = 4 ∧ s.rb Reg.rbRxAgcStatus 31 = false ∧ (b || codesClip x) = true ∧
      u = passTo (sampleTick (max s.rx.agcFrom (sampleNo s.now) + 3)) s) ∧
    (∃ (s : State) (u : State) (x : RbSamples) (l : List (Int × Int)) (att : Nat) (full : Int), s.rbState = 4 ∧ s.rb Reg.rbRxAgcStatus 31
      = false ∧ codesClip x = false ∧ l = s.baseband x ∧ att = s.rf Reg.rbRxAgcStatus 3 0 ∧ full = powerOf l - Config.fullScale +
      s.agcTarget ∧ u = passTo (sampleTick (max s.rx.agcFrom (sampleNo s.now) + 3)) s) ∧
    (∃ (s : State), s.rbState = 4 ∧ s.rb Reg.rbRxAgcStatus 31 = false ∧ 32 ≤ s.rx.quiet ∧ s.rf Reg.rbRxAgcStatus 3 0 ≠ 0) ∧
    (∃ (s : State), s.rf Reg.rbRxAgcStatus 3 0 = 0) ∧
    (∃ (s : State) (r : RbRx) (x : LongSync), s.rx.rx = some r ∧ r.timed = false ∧ r.timedBy { x with samples := s.heard x.samples } =
      true) ∧
    (∃ (s : State) (r : RbRx), s.rx.rx = some r ∧ r.timed = false ∧ s.rx.win = none ∧ s.rx.old = none) ∧
    (∃ (s : State) (r : RbRx) (x : RbSamples) (l : List (Int × Int)), s.rx.rx = some r ∧ r.timed = true ∧ r.phase = 1 ∧ r.equal.taps = []
      ∧ l = s.baseband x) ∧
    (∃ (s : State) (r : RbRx) (x : RbSamples) (g : Signal), s.rx.rx = some r ∧ r.timed = true ∧ r.phase = 1 ∧ r.equal.taps ≠ [] ∧ g =
      r.signal s.freeVal (s.baseband x)) ∧
    (∃ (s : State) (r : RbRx) (x : Newer) (n : Newer), s.rx.rx = some r ∧ r.phase = 2 ∧ bit s.rx.capCfg 8 = true ∧ n =
      { x with samples := s.heard x.samples } ∧ s.stronger r n = true ∧ sampleNo (sampleTick (max n.sample (sampleNo s.now))) ≤ n.start +
      175) ∧
    (∃ (s : State) (r : RbRx) (x : Newer) (n : Newer), s.rx.rx = some r ∧ r.phase = 2 ∧ bit s.rx.capCfg 8 = false ∧ n =
      { x with samples := s.heard x.samples } ∧ s.stronger r n = true) ∧
    (∃ (s : State) (r : RbRx), s.rx.rx = some r ∧ r.phase = 2 ∧ s.rx.dec = none) ∧
    (∃ (s : State) (r : RbRx), s.rx.dec = some r ∧ s.link.ex = none) :=
  ⟨⟨setRf Reg.rbSynState 3 0 4 up, ⟨100, .base (List.replicate 64 (4096, 0)), .base [], .base []⟩, by decide +kernel⟩,
   ⟨setRf Reg.rbSynState 3 0 4 up, _, .codes 5 [511], false, by decide +kernel, by decide +kernel, by decide +kernel, rfl⟩,
   ⟨setRf Reg.rbSynState 3 0 4 up, _, .base (List.replicate 4 (4096, 0)), _, _, _, by decide +kernel, by decide +kernel, by decide +kernel,
     rfl, rfl, rfl, rfl⟩,
   ⟨setRf Reg.rbRxAgcStatus 3 0 2 ((fun s : State => { s with rx := { s.rx with quiet := 32 } }) (setRf Reg.rbSynState 3 0 4 up)),
     by decide +kernel⟩,
   ⟨up, by decide +kernel⟩,
   ⟨(fun (r : RbRx) => (fun s : State => { s with rx := { s.rx with rx := some r } }) (up)) ⟨100, (1, 0), none, 1, 0, false, 0, false, 254,
     45587, none, 1006, 0, ⟨0, 0, 0, []⟩⟩, ⟨100, (1, 0), none, 1, 0, false, 0, false, 254, 45587, none, 1006, 0, ⟨0, 0, 0, []⟩⟩, ⟨60,
     .base ((List.range 16).map longSample ++ (List.range 16).map longSample)⟩, by decide +kernel⟩,
   ⟨(fun (r : RbRx) => (fun s : State => { s with rx := { s.rx with rx := some r } }) up) ⟨2, (0, 0), none, 1779, 2, false, 965, false, 194,
     62883, none, 1000, 0, ⟨0, 0, 0, []⟩⟩, ⟨2, (0, 0), none, 1779, 2, false, 965, false, 194, 62883, none, 1000, 0, ⟨0, 0, 0, []⟩⟩,
     by decide +kernel⟩,
   ⟨(fun (r : RbRx) => (fun s : State => { s with rx := { s.rx with rx := some r } }) up) ⟨6, (0, 0), none, 1, 88, true, 15, false, 96, 1554,
     some (-1759, 0), 200, 0, ⟨0, 0, 0, []⟩⟩, ⟨6, (0, 0), none, 1, 88, true, 15, false, 96, 1554, some (-1759, 0), 200, 0, ⟨0, 0, 0, []⟩⟩,
     .base ((List.range 32).map longSample), _, by decide +kernel, by decide +kernel, by decide +kernel, by decide +kernel, rfl⟩,
   ⟨(fun (r : RbRx) => (fun s : State => { s with rx := { s.rx with rx := some r } }) (up)) ⟨6146, (1, 0), none, 1, 6200, true, 1163, false,
     118, 14, none, 53156, 0, ⟨0x00000002#32, 8, 1, List.replicate 14 (16384, 0)⟩⟩, ⟨6146, (1, 0), none, 1, 6200, true, 1163, false, 118,
     14, none, 53156, 0, ⟨0x00000002#32, 8, 1, List.replicate 14 (16384, 0)⟩⟩, .base (List.replicate 80 (16384, 0)), _, by decide +kernel,
     by decide +kernel, by decide +kernel, by decide +kernel, rfl⟩,
   ⟨(fun (r : RbRx) => (fun s : State => { s with rx := { s.rx with rx := some r } }) ((fun s : State =>
     { s with rx := { s.rx with capCfg := wd 0x103 } }) up)) ⟨0, (0, 0), none, 2, 1124, false, 34750, true, 90, 1125, none, 2157, 0, ⟨0,
     0, 0, []⟩⟩, ⟨0, (0, 0), none, 2, 1124, false, 34750, true, 90, 1125, none, 2157, 0, ⟨0, 0, 0, []⟩⟩, ⟨200, 100, .base (List.replicate
     64 (4096, 0))⟩, _, by decide +kernel, by decide +kernel, by decide +kernel, rfl, by decide +kernel, by decide +kernel⟩,
   ⟨(fun (r : RbRx) => (fun s : State => { s with rx := { s.rx with rx := some r } }) up) ⟨11, (0, 0), none, 2, 1000, false, 23486, true, 37,
     3, none, 3, 0, ⟨0, 0, 0, []⟩⟩, ⟨11, (0, 0), none, 2, 1000, false, 23486, true, 37, 3, none, 3, 0, ⟨0, 0, 0, []⟩⟩, ⟨200, 100, .base
     (List.replicate 64 (4096, 0))⟩, _, by decide +kernel, by decide +kernel, by decide +kernel, rfl, by decide +kernel⟩,
   ⟨(fun (r : RbRx) => (fun s : State => { s with rx := { s.rx with rx := some r } }) up) ⟨834, (0, 0), none, 2, 3, true, 3, true, 53, 1000,
     none, 35697, 0, ⟨0, 0, 0, []⟩⟩, ⟨834, (0, 0), none, 2, 3, true, 3, true, 53, 1000, none, 35697, 0, ⟨0, 0, 0, []⟩⟩, by decide +kernel⟩,
   ⟨(fun (r : RbRx) => (fun s : State => { s with rx := { s.rx with dec := some r } }) up) ⟨6, (0, 0), none, 3, 164, false, 2, true, 5, 0,
     none, 4181, 0, ⟨0, 0, 0, []⟩⟩, ⟨6, (0, 0), none, 3, 164, false, 2, true, 5, 0, none, 4181, 0, ⟨0, 0, 0, []⟩⟩, by decide +kernel⟩⟩

/-- The hypotheses of each clause of ReceiverUpkeepComplete can be met together. -/
theorem test_hyps_receiver_upkeep_complete :
    (∃ (s : State) (i : Issued), s.nextStep 4 = some i ∧ i.op = 6 ∧ s.radioHeld = false ∧ s.rbPageOn Page.rbRx = true ∧ s.rx.win = none ∧
      s.link.ex = none) ∧
    (∃ (s : State) (w : RbWindow), s.rx.win = some w ∧ w.live = true ∧ w.done = false ∧ s.rx.rx = none ∧ s.rx.dec = none ∧ s.link.ex =
      none) ∧
    (∃ (s : State) (e : Task) (r : RbRx), s.delivers 0x98 e ∧ s.rx.rx = some r ∧ s.link.ex = none) ∧
    (∃ (s : State) (x : RbSamples) (l : List (Int × Int)) (e : Nat), s.rbState = 4 ∧ s.survey = false ∧ s.rx.rx = none ∧ s.rx.attack =
      false ∧ s.rx.spoil = none ∧ codesClip x = false ∧ l = s.baseband x ∧ e = (s.noiseBlock s.rx.inputB (max (sampleNo s.now) ((if
      s.rx.inputB then s.rx.noiseB else s.rx.noiseA) + 1))).2) ∧
    (∃ (s : State) (e : Nat), s.rbState = 4 ∧ s.survey = true ∧ s.rx.rx = none ∧ e = sampleTick (s.rx.search + 20 * (s.rx.alts + 1))) ∧
    (∃ (s : State) (ag : Agent), s.takes ag Reg.rbRxCntClr) ∧
    (∃ (s : State) (ag : Agent), s.takes ag Reg.rbDemCntClr) ∧
    (∃ (s : State) (ag : Agent), s.takes ag Reg.rbDecCntClr) :=
  ⟨⟨(fun s : State => (List.range 6).foldl (fun s j => setRb (Reg.ctrl (0x1f + j)) 0 true (setRb (Reg.ctrl (0x1f + j)) 1 false (setRb
     (Reg.status (0x1f + j)) 0 false s))) (setRb Reg.clkGate 0 false { s with boot := { s.boot with vddrf := true } })) ((fun (i : Issued)
     => (fun s : State => setRb (Reg.status Page.rbRx) 0 false (setRb (Reg.ctrl Page.rbRx) 0 true s)) (modPlayer 4 (fun p =>
     { p with flight := [i] }) up)) ⟨6, 0, 0, 39, 952, 8, 15, 0, 0⟩), ⟨6, 0, 0, 39, 952, 8, 15, 0, 0⟩, by decide +kernel⟩,
   ⟨(fun (w : RbWindow) => (fun s : State => { s with rx := { s.rx with win := some w } }) up) ⟨940, 0, true, true, true, 0, false, true,
     false, true, true, true, false, true, 0⟩, ⟨940, 0, true, true, true, 0, false, true, false, true, true, true, false, true, 0⟩,
     by decide +kernel⟩,
   ⟨(fun (e : Task) (r : RbRx) => (fun s : State => { s with rx := { s.rx with rx := some r } }) (delivering 0x98 e up)) ⟨152, 3278, 7,
     14464⟩ ⟨15, (0, 0), none, 4, 11, true, 963, false, 34, 64541, none, 1000, 0, ⟨0, 0, 0, []⟩⟩, ⟨152, 3278, 7, 14464⟩, ⟨15, (0, 0),
     none, 4, 11, true, 963, false, 34, 64541, none, 1000, 0, ⟨0, 0, 0, []⟩⟩, by decide +kernel⟩,
   ⟨setRf Reg.rbSynState 3 0 4 up, .base [(4096, 0), (4096, 0)], _, _, by decide +kernel, by decide +kernel, by decide +kernel,
     by decide +kernel, by decide +kernel, by decide +kernel, rfl, rfl⟩,
   ⟨setRf Reg.rbAntMode 1 0 2 (setRf Reg.rbSynState 3 0 4 up), _, by decide +kernel, by decide +kernel, by decide +kernel, rfl⟩,
   ⟨taking Agent.host Reg.rbRxCntClr up, Agent.host, by decide +kernel⟩,
   ⟨taking Agent.host Reg.rbDemCntClr up, Agent.host, by decide +kernel⟩,
   ⟨taking Agent.host Reg.rbDecCntClr up, Agent.host, by decide +kernel⟩⟩

/-- The hypotheses of each clause of CheckValuesComplete can be met together. -/
theorem test_hyps_check_values_complete :
    (∃ (s : State) (ag : Agent) (c : CvuIx), s.unitTakes ag (0x60 + c) (Reg.cvuCCtrl c) ∧ s.cvuBad c = none ∧ s.cvuOff c = false ∧
      s.chqAsked c = false) ∧
    (∃ (s : State) (ag : Agent) (c : CvuIx), s.unitTakes ag (0x60 + c) (Reg.cvuCData c) ∧ s.rb (Reg.cvuCStatus c) 0 = true) ∧
    (∃ (s : State) (ag : Agent) (c : CvuIx), s.unitTakes ag (0x60 + c) (Reg.cvuCCtrl c) ∧ s.rb (Reg.cvuCStatus c) 0 = true ∧ s.rb
      (Reg.cvuCCfg c) 4 = false) ∧
    (∃ (s : State) (ag : Agent) (c : CvuIx), s.unitTakes ag (0x60 + c) (Reg.cvuCCtrl c) ∧ s.rb (Reg.cvuCStatus c) 0 = true ∧ s.rb
      (Reg.cvuCCfg c) 4 = true) ∧
    (∃ (s : State) (ag : Agent) (c : CvuIx), s.unitTakes ag (0x60 + c) (Reg.cvuCCtrl c)) ∧
    (∃ (s : State) (ag : Agent) (c : CvuIx), s.unitTakes ag (0x60 + c) (Reg.cvuCRun c)) ∧
    (∃ (s : State) (ag : Agent) (c : CvuIx) (w : Word) (p : CrcPar), s.unitTakes ag (0x60 + c) (Reg.cvuCCfg c) ∧ s.rb (Reg.cvuCStatus c) 0
      = false ∧ preset (fld w 3 0) = some p) ∧
    (∃ (s : State) (ag : Agent), s.takes ag Reg.cvuChq) ∧
    (∃ (s : State) (ag : Agent), s.takes ag Reg.cvuCntClr) :=
  ⟨⟨unitTaking Agent.host (0x60 + 4) (Reg.cvuCCtrl 4) ((fun s : State => setRf (Reg.cvuCCfg 4) 3 0 3 (setRb Reg.cvuChq (16 + 4) false (setRb
     (Reg.status Page.cvu) 0 false (setRb (Reg.ctrl Page.cvu) 0 true s)))) up), Agent.host, 4, by decide +kernel⟩,
   ⟨unitTaking Agent.host (0x60 + 0) (Reg.cvuCData 0) ((fun s : State => setRb (Reg.cvuCStatus 0) 0 true (setRf (Reg.cvuCCfg 0) 21 16 16 s))
     up), Agent.host, 0, by decide +kernel⟩,
   ⟨unitTaking Agent.host (0x60 + 1) (Reg.cvuCCtrl 1) ((fun s : State => setRb (Reg.cvuCStatus 1) 0 true (setRf (Reg.cvuCCfg 1) 21 16 16 s))
     up), Agent.host, 1, by decide +kernel⟩,
   ⟨setRb (Reg.cvuCCfg 1) 4 true (unitTaking Agent.host (0x60 + 1) (Reg.cvuCCtrl 1) ((fun s : State => setRb (Reg.cvuCStatus 1) 0 true (setRf
     (Reg.cvuCCfg 1) 21 16 16 s)) up)), Agent.host, 1, by decide +kernel⟩,
   ⟨unitTaking Agent.host (0x60 + 7) (Reg.cvuCCtrl 7) up, Agent.host, 7, by decide +kernel⟩,
   ⟨unitTaking Agent.host (0x60 + 2) (Reg.cvuCRun 2) up, Agent.host, 2, by decide +kernel⟩,
   ⟨unitTaking Agent.host (0x60 + 4) (Reg.cvuCCfg 4) up, Agent.host, 4, 0xade15c64#32, ⟨16, 4129, 0, false, false, 0⟩, by decide +kernel⟩,
   ⟨taking Agent.host Reg.cvuChq up, Agent.host, by decide +kernel⟩,
   ⟨taking Agent.host Reg.cvuCntClr up, Agent.host, by decide +kernel⟩⟩

/-- The hypotheses of each clause of TagAirComplete can be met together. -/
theorem test_hyps_tag_air_complete :
    (∃ (s : State), s.tag.field = false) ∧
    (∃ (s : State), s.tag.cmd = none) ∧
    (∃ (s : State), s.tag.cmd = none ∧ s.tag.field = true ∧ s.tagFlag 1 = true ∧ s.tag.air = .idle) ∧
    (∃ (s : State), s.tag.cmd = none ∧ s.tag.field = true ∧ s.tagFlag 1 = true ∧ s.tag.air = .halted) ∧
    (∃ (s : State), s.tag.cmd = none ∧ s.tag.field = true ∧ s.tagFlag 1 = true ∧ (s.tag.air = .halted ∨ s.tag.air = .idle)) ∧
    (∃ (s : State) (lv : Nat) (k : List Bool), s.tag.cmd = none ∧ s.tag.field = true ∧ s.tagFlag 1 = true ∧ s.tag.air = .ready ∧ lv =
      s.tag.level ∧ (levelBits (s.cascade lv)).take k.length = k) ∧
    (∃ (s : State), s.tag.cmd = none ∧ s.tag.field = true ∧ s.tagFlag 1 = true ∧ s.tag.air = .ready ∧ s.tag.level = 1) ∧
    (∃ (s : State), s.tag.cmd = none ∧ s.tag.field = true ∧ s.tagFlag 1 = true ∧ s.tag.air = .ready ∧ s.tag.level = 2) ∧
    (∃ (s : State), s.tag.cmd = none ∧ s.tag.field = true ∧ s.tagFlag 1 = true ∧ s.tag.air = .active ∧ s.tag.l4 = false) ∧
    (∃ (s : State) (param : Nat), s.tag.cmd = none ∧ s.tag.field = true ∧ s.tagFlag 1 = true ∧ s.tag.air = .active ∧ s.tag.l4 = false ∧
      param % 16 ≤ 14) ∧
    (∃ (s : State) (cid : Nat), s.tag.cmd = none ∧ s.tag.field = true ∧ s.tagFlag 1 = true ∧ s.forTag (some cid) = true) ∧
    (∃ (s : State) (cid : Option Nat), s.tag.cmd = none ∧ s.tag.field = true ∧ s.tagFlag 1 = true ∧ s.forTag cid = true) :=
  ⟨⟨up, by decide +kernel⟩,
   ⟨up, by decide +kernel⟩,
   ⟨(fun s : State => { s with tag := { s.tag with air := .idle } }) ((fun s : State => { s with tag := { s.tag with field := true } }) up),
     by decide +kernel⟩,
   ⟨(fun s : State => { s with tag := { s.tag with air := .halted } }) ((fun s : State => { s with tag := { s.tag with field := true } })
     up), by decide +kernel⟩,
   ⟨(fun s : State => { s with tag := { s.tag with air := .halted } }) ((fun s : State => { s with tag := { s.tag with field := true } })
     up), by decide +kernel⟩,
   ⟨(fun s : State => { s with tag := { s.tag with air := .ready } }) ((fun s : State => { s with tag := { s.tag with field := true } }) up),
     1, [], by decide +kernel⟩,
   ⟨(fun s : State => { s with tag := { s.tag with air := .ready } }) ((fun s : State => { s with tag := { s.tag with field := true } }) up),
     by decide +kernel⟩,
   ⟨(fun s : State => { s with tag := { s.tag with level := 2 } }) ((fun s : State => { s with tag := { s.tag with air := .ready } }) ((fun s
     : State => { s with tag := { s.tag with field := true } }) up)), by decide +kernel⟩,
   ⟨(fun s : State => { s with tag := { s.tag with air := .active } }) ((fun s : State => { s with tag := { s.tag with field := true } })
     up), by decide +kernel⟩,
   ⟨(fun s : State => { s with tag := { s.tag with air := .active } }) ((fun s : State => { s with tag := { s.tag with field := true } })
     up), 0x84, by decide +kernel⟩,
   ⟨(fun s : State => { s with tag := { s.tag with field := true } }) (modTag (fun x => { x with air := .active, l4 := true, cid := 2 }) up),
     2, by decide +kernel⟩,
   ⟨(fun s : State => { s with tag := { s.tag with field := true } }) (modTag (fun x =>
     { x with air := .active, l4 := true, cid := (none : Option Nat).getD 3 }) up), none, by decide +kernel⟩⟩

/-- The hypotheses of each clause of TagApdusComplete can be met together. -/
theorem test_hyps_tag_apdus_complete :
    (∃ (s : State) (x : Apdu), s.tag.cmd = none ∧ s.tag.field = true ∧ s.tagFlag 1 = true ∧ s.asks 0xa4 x = true ∧ x.cla = 0 ∧ x.extended
      = false ∧ x.le = none ∧ x.p1 = 4 ∧ x.p2 = 0 ∧ x.data = some tagAid) ∧
    (∃ (s : State) (x : Apdu) (n : Nat), s.tag.cmd = none ∧ s.tag.field = true ∧ s.tagFlag 1 = true ∧ s.asks 0xb0 x = true ∧
      s.tag.selected = true ∧ x.cla = 0 ∧ x.extended = false ∧ x.data = none ∧ x.le = some n ∧ 0 < n ∧ n ≤ 256 ∧ x.p1 < 128 ∧ apduAddr x +
      n ≤ 0x4000 ∧ s.pwNeeds (s.needed false (apduAddr x) n) = none) ∧
    (∃ (s : State) (x : Apdu) (l : List Byte), s.tag.cmd = none ∧ s.tag.field = true ∧ s.tagFlag 1 = true ∧ s.asks 0xd6 x = true ∧
      s.tag.selected = true ∧ x.cla = 0 ∧ x.extended = false ∧ x.data = some l ∧ x.le = none ∧ l ≠ [] ∧ l.length ≤ 255 ∧ x.p1 < 128 ∧
      0x100 ≤ apduAddr x ∧ apduAddr x + l.length ≤ 0x4000 ∧ s.pwNeeds (s.needed true (apduAddr x) l.length) = none ∧ (regionsOf (apduAddr
      x) l.length).all (fun r => !s.rb Reg.tagcFieldWlock r && !(s.tag16 0x22).testBit r) = true ∧ l.length + apduAddr x % 4 ≤ 4 *
      x.writes) ∧
    (∃ (s : State) (x : Apdu) (k : Nat) (l : List Byte), s.tag.cmd = none ∧ s.tag.field = true ∧ s.tagFlag 1 = true ∧ s.asks 0x20 x = true
      ∧ s.tag.selected = true ∧ x.cla = 0 ∧ x.extended = false ∧ x.data = some l ∧ x.le = none ∧ l.length = 4 ∧ x.p1 = 0 ∧ x.p2 = 0x80 + k
      ∧ k < 4 ∧ s.pwLeft k ≠ 0 ∧ pwOf l = s.pwWord k ∧ 2 ≤ x.writes) ∧
    (∃ (s : State) (x : Apdu) (k : Nat) (l : List Byte), s.tag.cmd = none ∧ s.tag.field = true ∧ s.tagFlag 1 = true ∧ s.asks 0x20 x = true
      ∧ s.tag.selected = true ∧ x.cla = 0 ∧ x.extended = false ∧ x.data = some l ∧ x.le = none ∧ l.length = 4 ∧ x.p1 = 0 ∧ x.p2 = 0x80 + k
      ∧ k < 4 ∧ s.pwLeft k ≠ 0 ∧ pwOf l ≠ s.pwWord k ∧ 1 ≤ x.writes) ∧
    (∃ (s : State) (x : Apdu) (k : Nat) (l : List Byte), s.tag.cmd = none ∧ s.tag.field = true ∧ s.tagFlag 1 = true ∧ s.asks 0x24 x = true
      ∧ s.tag.selected = true ∧ x.cla = 0 ∧ x.extended = false ∧ x.data = some l ∧ x.le = none ∧ l.length = 8 ∧ x.p1 = 0 ∧ x.p2 = 0x80 + k
      ∧ k < 4 ∧ s.pwLeft k ≠ 0 ∧ pwOf (l.take 4) = s.pwWord k ∧ 3 ≤ x.writes) ∧
    (∃ (s : State) (x : Apdu) (l : List Byte) (b : Nat), s.tag.cmd = none ∧ s.tag.field = true ∧ s.tagFlag 1 = true ∧ s.asks 0x32 x = true
      ∧ s.tag.selected = true ∧ x.cla = 0x80 ∧ x.extended = false ∧ x.data = some l ∧ l.length = 3 ∧ x.le = some 3 ∧ x.p1 ≤ 7 ∧ x.p2 = 0 ∧
      s.cntNeeds x.p1 = false ∧ s.newerCopy x.p1 = some b ∧ s.copyVal x.p1 b + pwOf l ≤ 0xffffff ∧ 2 ≤ x.writes) ∧
    (∃ (s : State) (x : Apdu) (v : Nat), s.tag.cmd = none ∧ s.tag.field = true ∧ s.tagFlag 1 = true ∧ s.asks 0x34 x = true ∧
      s.tag.selected = true ∧ x.cla = 0x80 ∧ x.extended = false ∧ x.data = none ∧ x.le = some 3 ∧ x.p1 ≤ 7 ∧ x.p2 = 0 ∧ s.counter x.p1 =
      some v) :=
  ⟨⟨(fun s : State => { s with tag := { s.tag with l4 := true } }) ((fun s : State => { s with tag := { s.tag with air := .active } }) ((fun
     s : State => { s with tag := { s.tag with field := true } }) up)), ⟨0, 0xa4, 4, 0, some [0xf0#8, 0x56#8, 0x58#8, 0x52#8, 0x4e#8,
     0x01#8], none, false, 34, [⟨.iLast, false, none, true, 3000⟩]⟩, by decide +kernel⟩,
   ⟨(fun s : State => { s with tag := { s.tag with selected := true } }) ((fun s : State => { s with tag := { s.tag with l4 := true } })
     ((fun s : State => { s with tag := { s.tag with air := .active } }) ((fun s : State =>
     { s with tag := { s.tag with field := true } }) up))), ⟨0, 0xb0, 0, 0, none, some 1, false, 8, [⟨.iLast, false, none, true, 3000⟩]⟩,
     1, by decide +kernel⟩,
   ⟨(fun s : State => { s with tag := { s.tag with selected := true } }) ((fun s : State => { s with tag := { s.tag with l4 := true } })
     ((fun s : State => { s with tag := { s.tag with air := .active } }) ((fun s : State =>
     { s with tag := { s.tag with field := true } }) up))), ⟨0, 0xd6, 5, 2, some [0x12#8], none, false, 80, [⟨.iMore, false, none, true,
     2000⟩, ⟨.iLast, true, none, true, 3000⟩]⟩, [0x12#8], by decide +kernel⟩,
   ⟨(fun (l : List Byte) => (fun s : State => { s with tag := { s.tag with selected := true } }) ((fun s : State =>
     { s with tag := { s.tag with l4 := true } }) ((fun s : State => { s with tag := { s.tag with air := .active } }) ((fun s : State =>
     { s with tag := { s.tag with field := true } }) (setPw 0 (pwOf (l.take 4)) up))))) [0x01#8, 0x02#8, 0x03#8, 0x04#8], ⟨0, 0x20, 0,
     128, some [0x01#8, 0x02#8, 0x03#8, 0x04#8], none, false, 6, [⟨.iLast, false, none, true, 3000⟩]⟩, 0, [0x01#8, 0x02#8, 0x03#8,
     0x04#8], by decide +kernel⟩,
   ⟨(fun s : State => { s with tag := { s.tag with selected := true } }) ((fun s : State => { s with tag := { s.tag with l4 := true } })
     ((fun s : State => { s with tag := { s.tag with air := .active } }) ((fun s : State =>
     { s with tag := { s.tag with field := true } }) up))), ⟨0, 0x20, 0, 128, some [0xb1#8, 0xc0#8, 0x01#8, 0x02#8], none, false, 6,
     [⟨.iLast, false, none, true, 3000⟩]⟩, 0, [0xb1#8, 0xc0#8, 0x01#8, 0x02#8], by decide +kernel⟩,
   ⟨(fun (l : List Byte) => (fun s : State => { s with tag := { s.tag with selected := true } }) ((fun s : State =>
     { s with tag := { s.tag with l4 := true } }) ((fun s : State => { s with tag := { s.tag with air := .active } }) ((fun s : State =>
     { s with tag := { s.tag with field := true } }) (setPw 0 (pwOf (l.take 4)) up))))) [0xf9#8, 0x46#8, 0x01#8, 0x02#8, 0x03#8, 0x04#8,
     0x05#8, 0x06#8], ⟨0, 0x24, 0, 128, some [0xf9#8, 0x46#8, 0x01#8, 0x02#8, 0x03#8, 0x04#8, 0x05#8, 0x06#8], none, false, 5, [⟨.iLast,
     false, none, true, 3000⟩]⟩, 0, [0xf9#8, 0x46#8, 0x01#8, 0x02#8, 0x03#8, 0x04#8, 0x05#8, 0x06#8], by decide +kernel⟩,
   ⟨(fun s : State => { s with tag := { s.tag with selected := true } }) ((fun s : State => { s with tag := { s.tag with l4 := true } })
     ((fun s : State => { s with tag := { s.tag with air := .active } }) ((fun s : State =>
     { s with tag := { s.tag with field := true } }) up))), ⟨128, 0x32, 2, 0, some [0x75#8, 0x01#8, 0x02#8], some 3, false, 3, [⟨.iLast,
     false, none, true, 3000⟩]⟩, [0x75#8, 0x01#8, 0x02#8], 0, by decide +kernel⟩,
   ⟨(fun s : State => { s with tag := { s.tag with selected := true } }) ((fun s : State => { s with tag := { s.tag with l4 := true } })
     ((fun s : State => { s with tag := { s.tag with air := .active } }) ((fun s : State =>
     { s with tag := { s.tag with field := true } }) up))), ⟨128, 0x34, 7, 0, none, some 3, false, 0, [⟨.iLast, false, none, true,
     3000⟩]⟩, 0, by decide +kernel⟩⟩

/-- The hypotheses of each clause of TagWireComplete can be met together. -/
theorem test_hyps_tag_wire_complete :
    (∃ (s : State) (a : Nat) (m : Nat) (f : Nat) (l : List Byte), s.tag.cmd = none ∧ s.tag.waiting = [] ∧ s.i2cMine a = true ∧ 0x100 ≤ m ∧
      m < 0x4000 ∧ l ≠ [] ∧ l.length ≤ 16 - m % 16 ∧ 1 ≤ f) ∧
    (∃ (s : State) (a : Nat) (m : Nat) (n : Nat) (f : Nat), s.tag.cmd = none ∧ s.tag.waiting = [] ∧ s.i2cMine a = true ∧ m < 0x4000 ∧ 0 <
      n ∧ n ≤ 16 - m % 16 ∧ 1 ≤ f) ∧
    (∃ (s : State), s.tag.cmd = none ∧ s.tag.waiting = [] ∧ s.hostUp = true) ∧
    (∃ (s : State) (a : TagWordIx), s.tag.cmd = none ∧ s.tag.waiting = [] ∧ s.hostUp = true ∧ s.isReady = true ∧ 0x100 ≤ 4 * a.val) ∧
    (∃ (s : State) (a : Nat) (p : Option Nat) (h : Bool) (r : List WireWait), s.tag.waiting = ⟨.viewRead a, p, h⟩ :: r ∧ s.tag.cmd = none) ∧
    (∃ (s : State) (a : Nat) (p : Nat) (h : Bool) (w : Word) (c : FieldCmd) (r : List WireWait), s.tag.waiting = ⟨.viewWrite a w, some p,
      h⟩ :: r ∧ s.tag.cmd = some c ∧ p + wireLimit < c.ends ∧ s.sysUp = true ∧ s.rf (Reg.errCode Page.tagc) 15 10 = 0) ∧
    (∃ (s : State) (ag : Agent) (w : Word), s.takes ag Reg.tagcPwValue ∧ s.takes ag Reg.tagcPwCtrl ∧ bit w 8 = true ∧ s.tag.cmd = none ∧
      s.tag.waiting = [] ∧ s.pwLeft (fld w 1 0) ≠ 0 ∧ s.rb (Reg.ctrl Page.tagc) 0 = true) ∧
    (∃ (s : State) (ag : Agent) (w : Word) (b : Nat), s.takes ag Reg.tagcCntCtrl ∧ bit w 31 = true ∧ s.tag.cmd = none ∧ s.tag.waiting = []
      ∧ s.newerCopy (fld w 26 24) = some b ∧ s.copyVal (fld w 26 24) b + max 1 (fld w 23 0) ≤ 0xffffff ∧ s.rb (Reg.ctrl Page.tagc) 0 =
      true) ∧
    (∃ (s : State) (ag : Agent), s.takes ag Reg.tagcCfg ∧ s.tag.cmd = none ∧ s.tag.waiting = []) ∧
    (∃ (s : State) (ag : Agent), s.takes ag Reg.tagcFieldWlock) ∧
    (∃ (s : State) (ag : Agent), s.takes ag Reg.tagcCntClr) :=
  ⟨⟨(fun s : State => setTag 0x20 [BitVec.ofNat 8 (125 % 128), 3] (setRb (Reg.ctrl Page.tagc) 0 true (setRb (Reg.status Page.tagc) 0 false
     { s with boot := { s.boot with vddio := true, vaon := true, phase := .ready } }))) up, 125, 259, 862, [0x12#8], by decide +kernel⟩,
   ⟨(fun s : State => setTag 0x20 [BitVec.ofNat 8 (11 % 128), 3] (setRb (Reg.ctrl Page.tagc) 0 true (setRb (Reg.status Page.tagc) 0 false
     { s with boot := { s.boot with vddio := true, vaon := true, phase := .ready } }))) up, 11, 0, 1, 1, by decide +kernel⟩,
   ⟨up, by decide +kernel⟩,
   ⟨up, 921, by decide +kernel⟩,
   ⟨(fun (r : List WireWait) => (fun s : State => { s with tag := { s.tag with waiting := ⟨.viewRead 7, some 1000, true⟩ :: r } }) up) [], 7,
     some 1000, true, [], by decide +kernel⟩,
   ⟨(fun (c : FieldCmd) (r : List WireWait) => (fun s : State => { s with tag := { s.tag with cmd := some c } }) ((fun s : State =>
     { s with tag := { s.tag with waiting := ⟨.viewWrite 16 0xc35a0003#32, some 1000, false⟩ :: r } }) up)) ⟨501000, none⟩ [], 16, 1000,
     false, 0xc35a0003#32, ⟨501000, none⟩, [], by decide +kernel⟩,
   ⟨setRb (Reg.ctrl Page.tagc) 0 true (taking Agent.host Reg.tagcPwValue up), Agent.host, 0x00000160#32, by decide +kernel⟩,
   ⟨setRb (Reg.ctrl Page.tagc) 0 true (taking Agent.host Reg.tagcCntCtrl up), Agent.host, 0x80000000#32, 0, by decide +kernel⟩,
   ⟨taking Agent.host Reg.tagcCfg up, Agent.host, by decide +kernel⟩,
   ⟨taking Agent.host Reg.tagcFieldWlock up, Agent.host, by decide +kernel⟩,
   ⟨taking Agent.host Reg.tagcCntClr up, Agent.host, by decide +kernel⟩⟩

/-- The hypotheses of each clause of MailboxComplete can be met together. -/
theorem test_hyps_mailbox_complete :
    (∃ (s : State) (ag : Agent), s.mboxFree ag) ∧
    (∃ (s : State) (ag : Agent) (a : Word), s.mboxFree ag ∧ s.logOpen = true ∧ s.mgt.logWaits = [] ∧ s.rf Reg.logFilter 1 0 ≤ 1 ∧ 0x8000 ≤
      fld a 15 0) ∧
    (∃ (s : State) (ag : Agent), s.mboxFree ag ∧ s.mgtRuns = true ∧ s.mgt.cal = none ∧ s.quiesced Page.cal = false ∧ s.quiesced Page.sens
      = true ∧ s.pageUp Page.sens = true) ∧
    (∃ (s : State) (ag : Agent) (i : Nat) (l : List Nat), s.mboxFree ag ∧ s.commit = none ∧ s.setOk = true ∧ i < s.records ∧ i < 256 ∧
      s.recordOk (s.recordAt i) = true ∧ (s.recordAt i).typ = 0x12 ∧ imageRegs 0x12 (s.recordAt i).target = some l ∧ imageOk 0x12 l
      (s.payload (s.recordAt i)) (s.recordAt i).len = true) ∧
    (∃ (s : State) (ag : Agent) (l : List Nat), s.mboxFree ag ∧ s.setOk = true ∧ l = (List.range s.records).filter (fun i => !s.recordOk
      (s.recordAt i))) ∧
    (∃ (s : State) (ag : Agent), s.mboxFree ag ∧ (s.fwSlot (1 - s.nvm.active)).verified = true ∧ s.nvm.trialRun = false ∧ s.nvm.trial =
      none ∧ s.nvm.header = none) ∧
    (∃ (s : State) (ag : Agent) (x : Nat), s.mboxFree ag ∧ s.nvm.trialRun = true ∧ s.nvm.trial = some x) ∧
    (∃ (s : State) (ag : Agent), s.mboxFree ag ∧ s.nvm.trialRun = true ∧ s.nvm.header = none) ∧
    (∃ (s : State) (ag : Agent), s.mboxFree ag ∧ s.tag.cmd = none ∧ s.tag.waiting = []) ∧
    (∃ (s : State) (ag : Agent) (x : Nat) (v : Int), s.mboxFree ag ∧ s.rb Reg.sensProt 28 = true ∧ s.hottest = some (x, v) ∧ v < 16 * s.rf
      Reg.sensThermCfg 23 16 - 80) ∧
    (∃ (s : State) (ag : Agent) (code : Nat) (l : List Word), s.mboxFree ag ∧ mboxArgs (code % 256) = none ∧ l.length ≤ 64) ∧
    (∃ (s : State) (j : Job), s.mgt.job = some j ∧ j.wait = .none ∧ s.mgtRuns = true ∧ j.words.length ≤ 64 ∧ j.err < 256) :=
  ⟨⟨(fun s : State => setRb (Reg.ctrl Page.mbox) 0 true (setRb (Reg.status Page.mbox) 0 false (setRb (Reg.ctrl Page.mbox) 1 false s))) (setRf
     Reg.mboxState 1 0 (if 2 % 2 = 0 then 0 else 2) ((fun s : State => taking Agent.host Reg.mboxReq (taking Agent.host Reg.mboxCtrl s))
     up)), Agent.host, by decide +kernel⟩,
   ⟨(fun s : State => setRb (Reg.ctrl Page.mbox) 0 true (setRb (Reg.status Page.mbox) 0 false (setRb (Reg.ctrl Page.mbox) 1 false s))) (setRf
     Reg.mboxState 1 0 (if 741 % 2 = 0 then 0 else 2) ((fun s : State => taking Agent.host Reg.mboxReq (taking Agent.host Reg.mboxCtrl s))
     up)), Agent.host, 0xc35a8001#32, by decide +kernel⟩,
   ⟨(fun s : State => setRb (Reg.status Page.cal) 0 false (setRb (Reg.ctrl Page.cal) 0 true s)) ((fun s : State => setRb (Reg.ctrl Page.mbox)
     0 true (setRb (Reg.status Page.mbox) 0 false (setRb (Reg.ctrl Page.mbox) 1 false s))) (setRf Reg.mboxState 1 0 (if 7 % 2 = 0 then 0
     else 2) ((fun s : State => taking Agent.host Reg.mboxReq (taking Agent.host Reg.mboxCtrl s)) up))), Agent.host, by decide +kernel⟩,
   ⟨(fun s : State => setMem 4 (imageBase + 20) (crc32 (s.bytes imageBase 20 ++ s.bytes (imageBase + 32) 16)) s) ((fun s : State => setMem 4
     (imageBase + 44) (crc32 (s.bytes (imageBase + 0x30) 0x100)) s) ((fun s : State => setMem 4 (imageBase + 32) 0x00000312 (setMem 4
     (imageBase + 36) 0x30 (setMem 4 (imageBase + 40) 0x100 s))) ((fun s : State => setMem 4 imageBase 0x0f1e4480 (setMem 4 (imageBase +
     4) 0x00010001 (setMem 4 (imageBase + 8) 7 (setMem 4 (imageBase + 12) 0xb0 (setMem 4 (imageBase + 16) 0x130 s))))) ((fun s : State =>
     setRb (Reg.ctrl Page.mbox) 0 true (setRb (Reg.status Page.mbox) 0 false (setRb (Reg.ctrl Page.mbox) 1 false s))) (setRf Reg.mboxState
     1 0 (if 1 % 2 = 0 then 0 else 2) ((fun s : State => taking Agent.host Reg.mboxReq (taking Agent.host Reg.mboxCtrl s)) up)))))),
     Agent.host, 0, [78848, 78852, 78856, 78860, 78864, 78868, 78872, 78876, 78880, 78884, 78888, 78892, 78896, 78900, 78904, 78908,
     78912, 78916, 78920, 78924, 78928, 78932, 78936, 78940, 78944, 78948, 78952, 78956, 78960, 78964, 78968, 78972, 78976, 78980, 78984,
     78988, 78992, 78996, 79000, 79004, 79008, 79012, 79016, 79020, 79024, 79028, 79032, 79036, 79040, 79044, 79048, 79052, 79056, 79060,
     79064, 79068, 79072, 79076, 79080, 79084, 79088, 79092, 79096, 79100], by decide +kernel⟩,
   ⟨(fun s : State => setMem 4 (imageBase + 20) (crc32 (s.bytes imageBase 20 ++ s.bytes (imageBase + 32) 16)) s) ((fun s : State => setMem 4
     imageBase 0x0f1e4480 (setMem 4 (imageBase + 4) 0x00010001 (setMem 4 (imageBase + 8) 7 (setMem 4 (imageBase + 12) 0xb0 (setMem 4
     (imageBase + 16) 0x130 s))))) ((fun s : State => setRb (Reg.ctrl Page.mbox) 0 true (setRb (Reg.status Page.mbox) 0 false (setRb
     (Reg.ctrl Page.mbox) 1 false s))) (setRf Reg.mboxState 1 0 (if 1131 % 2 = 0 then 0 else 2) ((fun s : State => taking Agent.host
     Reg.mboxReq (taking Agent.host Reg.mboxCtrl s)) up)))), Agent.host, [0], by decide +kernel⟩,
   ⟨(fun s : State =>
     { s with nvm := { s.nvm with active := s.nvm.active % 2, slots := [(0, { verified := true, version := 7 }), (1, { verified := true, version := 8 })] } })
     ((fun s : State => setRb (Reg.ctrl Page.mbox) 0 true (setRb (Reg.status Page.mbox) 0 false (setRb (Reg.ctrl Page.mbox) 1 false s)))
     (setRf Reg.mboxState 1 0 (if 6 % 2 = 0 then 0 else 2) ((fun s : State => taking Agent.host Reg.mboxReq (taking Agent.host
     Reg.mboxCtrl s)) up))), Agent.host, by decide +kernel⟩,
   ⟨(fun s : State => { s with nvm := { s.nvm with trial := some 1 } }) ((fun s : State => { s with nvm := { s.nvm with trialRun := true } })
     ((fun s : State => setRb (Reg.ctrl Page.mbox) 0 true (setRb (Reg.status Page.mbox) 0 false (setRb (Reg.ctrl Page.mbox) 1 false s)))
     (setRf Reg.mboxState 1 0 (if 1120 % 2 = 0 then 0 else 2) ((fun s : State => taking Agent.host Reg.mboxReq (taking Agent.host
     Reg.mboxCtrl s)) up)))), Agent.host, 1, by decide +kernel⟩,
   ⟨(fun s : State => { s with nvm := { s.nvm with trialRun := true } }) ((fun s : State => setRb (Reg.ctrl Page.mbox) 0 true (setRb
     (Reg.status Page.mbox) 0 false (setRb (Reg.ctrl Page.mbox) 1 false s))) (setRf Reg.mboxState 1 0 (if 0 % 2 = 0 then 0 else 2) ((fun s
     : State => taking Agent.host Reg.mboxReq (taking Agent.host Reg.mboxCtrl s)) up))), Agent.host, by decide +kernel⟩,
   ⟨(fun s : State => setRb (Reg.ctrl Page.mbox) 0 true (setRb (Reg.status Page.mbox) 0 false (setRb (Reg.ctrl Page.mbox) 1 false s))) (setRf
     Reg.mboxState 1 0 (if 0 % 2 = 0 then 0 else 2) ((fun s : State => taking Agent.host Reg.mboxReq (taking Agent.host Reg.mboxCtrl s))
     up)), Agent.host, by decide +kernel⟩,
   ⟨setRb Reg.sensProt 28 true ((fun s : State => { s with mgt := { s.mgt with temps := [(0, some 1000), (2, some 900)] } }) ((fun s : State
     => setRb (Reg.ctrl Page.mbox) 0 true (setRb (Reg.status Page.mbox) 0 false (setRb (Reg.ctrl Page.mbox) 1 false s))) (setRf
     Reg.mboxState 1 0 (if 7 % 2 = 0 then 0 else 2) ((fun s : State => taking Agent.host Reg.mboxReq (taking Agent.host Reg.mboxCtrl s))
     up)))), Agent.host, 0, 1000, by decide +kernel⟩,
   ⟨(fun s : State => setRb (Reg.ctrl Page.mbox) 0 true (setRb (Reg.status Page.mbox) 0 false (setRb (Reg.ctrl Page.mbox) 1 false s))) (setRf
     Reg.mboxState 1 0 (if 0 % 2 = 0 then 0 else 2) ((fun s : State => taking Agent.host Reg.mboxReq (taking Agent.host Reg.mboxCtrl s))
     up)), Agent.host, 4, [], by decide +kernel⟩,
   ⟨(fun (j : Job) => (fun s : State => { s with mgt := { s.mgt with job := some j } }) up) ⟨846, 0, [], JobWait.none, [], none⟩, ⟨846, 0,
     [], JobWait.none, [], none⟩, by decide +kernel⟩⟩

/-- The hypotheses of each clause of ProtectionComplete can be met together. -/
theorem test_hyps_protection_complete :
    (∃ (s : State), s.mgtRuns = true ∧ s.quiesced Page.sens = false) ∧
    (∃ (s : State), s.mgtRuns = true ∧ s.quiesced Page.sens = false) ∧
    (∃ (s : State) (x : Nat) (v : Int), s.mgtRuns = true ∧ s.hottest = some (x, v) ∧ s.rf Reg.sensProt 31 30 < s.levelOf (s.rf
      Reg.sensProt 31 30) v ∧ s.levelOf (s.rf Reg.sensProt 31 30) v < 3 ∧ s.rf (Reg.errCode Page.sens) 15 10 = 0) ∧
    (∃ (s : State) (x : Nat) (v : Int), s.mgtRuns = true ∧ s.hottest = some (x, v) ∧ s.rf Reg.sensProt 31 30 < 3 ∧ 2080 ≤ v) ∧
    (∃ (s : State) (x : Nat) (v : Int), s.mgtRuns = true ∧ s.hottest = some (x, v) ∧ s.levelOf (s.rf Reg.sensProt 31 30) v ≤ s.rf
      Reg.sensProt 31 30) ∧
    (∃ (s : State), s.mgtRuns = true ∧ s.rf Reg.sensProt 31 30 < 3) ∧
    (∃ (s : State) (v : Int), s.started = true ∧ 2240 ≤ v ∧ s.rb Reg.sensProt 29 = false) ∧
    (∃ (s : State), s.boot.vfld = true ∧ s.boot.phase ≠ .powerOn) ∧
    (∃ (s : State), s.boot.overvolt = false) ∧
    (∃ (s : State), s.mgtRuns = true) ∧
    (∃ (s : State) (ag : Agent) (w : Word), s.takes ag Reg.sensCntClr ∧ bit w 0 = true) :=
  ⟨⟨(fun s : State => setRb (Reg.status Page.sens) 0 false (setRb (Reg.ctrl Page.sens) 0 true s)) up, by decide +kernel⟩,
   ⟨(fun s : State => setRb (Reg.status Page.sens) 0 false (setRb (Reg.ctrl Page.sens) 0 true s)) up, by decide +kernel⟩,
   ⟨(fun s : State => { s with mgt := { s.mgt with temps := [(0, some 1900), (1, some 1990)], injTemp := none } }) up, 1, 1990,
     by decide +kernel⟩,
   ⟨(fun s : State => { s with mgt := { s.mgt with temps := [(1, some 2090), (2, some 1000)], injTemp := none } }) up, 1, 2090,
     by decide +kernel⟩,
   ⟨(fun s : State => { s with mgt := { s.mgt with temps := [(0, some 1000), (2, some 1100)], injTemp := none } }) up, 2, 1100,
     by decide +kernel⟩,
   ⟨up, by decide +kernel⟩,
   ⟨up, 2240, by decide +kernel⟩,
   ⟨up, by decide +kernel⟩,
   ⟨up, by decide +kernel⟩,
   ⟨up, by decide +kernel⟩,
   ⟨taking Agent.host Reg.sensCntClr up, Agent.host, 0x03760869#32, by decide +kernel⟩⟩

/-- The hypotheses of each clause of LogAndUpdateComplete can be met together. -/
theorem test_hyps_log_and_update_complete :
    (∃ (s : State) (ag : Agent) (w : Word) (l : List Word), s.takes ag Reg.logSel ∧ s.quiesced Page.log = false ∧ s.mgtRuns = true ∧ l =
      tabGet [] s.nvm.log (fld w 11 0) ∧ l.length = 8 ∧ l.getD 7 0 = wd (crc32 (wordsBytes (l.take 7)))) ∧
    (∃ (s : State) (ag : Agent) (w : Word), s.takes ag Reg.logCtrl ∧ bit w 0 = true ∧ fld w 31 16 = 0xc35a ∧ s.rb (Reg.ctrl Page.log) 0 =
      true) ∧
    (∃ (s : State), s.rb (Reg.status Page.log) 1 = true ∧ s.mgtRuns = true ∧ s.mgt.logWaits = []) ∧
    (∃ (s : State) (l : List Word) (r : List (List Word)), s.mgt.console = l :: r ∧ s.rb Reg.dbgConsole 0 = true) ∧
    (∃ (s : State) (ag : Agent) (w : Word), s.takes ag Reg.updTarget ∧ s.updState ≠ 1 ∧ s.updState ≠ 2 ∧ s.slotInUse (fld w 1 0) = false ∧
      (fld w 1 0 ≠ 3 ∨ s.storeUsed = false)) ∧
    (∃ (s : State) (ag : Agent), s.takes ag Reg.updCtrl ∧ (s.updTarget = 1 ∨ s.updTarget = 2) ∧ s.updState ≠ 2 ∧ s.slotInUse s.updTarget =
      false ∧ s.rb (Reg.ctrl Page.upd) 0 = true) ∧
    (∃ (s : State) (ag : Agent), s.takes ag Reg.updCtrl ∧ s.updTarget = 3 ∧ s.updState ≠ 2 ∧ s.storeUsed = false ∧ s.rb (Reg.ctrl
      Page.upd) 0 = true) ∧
    (∃ (s : State) (ag : Agent) (a : Nat) (o : Nat), s.takes ag Reg.updData ∧ s.quiesced Page.upd = false ∧ s.updState = 1 ∧ o = (s.reg
      Reg.updOffset).toNat ∧ o + 4 ≤ 0x40000 ∧ a = s.updBase + o) ∧
    (∃ (s : State) (ag : Agent), s.takes ag Reg.updCtrl ∧ s.updState = 1 ∧ s.rb (Reg.ctrl Page.upd) 0 = true) ∧
    (∃ (s : State) (ag : Agent), s.takes ag Reg.updCtrl ∧ s.rb (Reg.ctrl Page.upd) 0 = true) ∧
    (∃ (s : State), s.updState = 2 ∧ s.mgtRuns = true ∧ s.quiesced Page.upd = false ∧ s.updTarget = 3 ∧ s.setCheck (s.reg
      Reg.updOffset).toNat = none) ∧
    (∃ (s : State) (x : Nat) (c : Nat), s.updState = 2 ∧ s.mgtRuns = true ∧ s.quiesced Page.upd = false ∧ (s.updTarget = 1 ∨ s.updTarget =
      2) ∧ x = (s.reg Reg.updOffset).toNat ∧ s.fwCheck s.updBase x = some c ∧ s.rf (Reg.errCode Page.upd) 15 10 = 0) :=
  ⟨⟨(fun s : State => setRb (Reg.status Page.log) 0 false (setRb (Reg.ctrl Page.log) 0 true s)) (taking Agent.host Reg.logSel ((fun s : State
     => { s with nvm := { s.nvm with log := [(3, LogRec.words ⟨5, 0x8001, 1, 2, 3, 4⟩ 7 9)] } }) up)), Agent.host, 0x00000003#32,
     [0x00000005#32, 0x00000000#32, 0x00000003#32, 0x00000004#32, 0x00000007#32, 0x02018001#32, 0x00000009#32, 0x003ab361#32],
     by decide +kernel⟩,
   ⟨setRb (Reg.ctrl Page.log) 0 true (taking Agent.host Reg.logCtrl up), Agent.host, 0xc35a0001#32, by decide +kernel⟩,
   ⟨setRb (Reg.status Page.log) 1 true up, by decide +kernel⟩,
   ⟨(fun (l : List Word) (r : List (List Word)) => setRb Reg.dbgConsole 0 true ((fun s : State =>
     { s with mgt := { s.mgt with console := l :: r } }) up)) [] [], [], [], by decide +kernel⟩,
   ⟨taking Agent.host Reg.updTarget up, Agent.host, 0xfbfe44ff#32, by decide +kernel⟩,
   ⟨setRb (Reg.ctrl Page.upd) 0 true (taking Agent.host Reg.updCtrl (setReg Reg.updTarget (wd 2) up)), Agent.host, by decide +kernel⟩,
   ⟨setRb (Reg.ctrl Page.upd) 0 true (taking Agent.host Reg.updCtrl (setReg Reg.updTarget (wd 3) up)), Agent.host, by decide +kernel⟩,
   ⟨(fun s : State => setRb (Reg.status Page.upd) 0 false (setRb (Reg.ctrl Page.upd) 0 true s)) (taking Agent.host Reg.updData (setReg
     Reg.updStatus (wd (2 ^ 24)) up)), Agent.host, 16777216, 0, by decide +kernel⟩,
   ⟨setRb (Reg.ctrl Page.upd) 0 true (taking Agent.host Reg.updCtrl (setReg Reg.updStatus (wd (2 ^ 24)) up)), Agent.host, by decide +kernel⟩,
   ⟨setRb (Reg.ctrl Page.upd) 0 true (taking Agent.host Reg.updCtrl up), Agent.host, by decide +kernel⟩,
   ⟨(fun s : State => setRb (Reg.status Page.upd) 0 false (setRb (Reg.ctrl Page.upd) 0 true s)) ((fun s : State => setMem 4 (imageBase + 20)
     (crc32 (s.bytes imageBase 20 ++ s.bytes (imageBase + 32) 16)) s) ((fun s : State => setMem 4 (imageBase + 44) (crc32 (s.bytes
     (imageBase + 0x30) 0x100)) s) ((fun s : State => setMem 4 (imageBase + 32) 0x00000312 (setMem 4 (imageBase + 36) 0x30 (setMem 4
     (imageBase + 40) 0x100 s))) ((fun s : State => setMem 4 imageBase 0x0f1e4480 (setMem 4 (imageBase + 4) 0x00010001 (setMem 4
     (imageBase + 8) 7 (setMem 4 (imageBase + 12) 0xb0 (setMem 4 (imageBase + 16) 0x130 s))))) ((fun s : State => setReg Reg.updTarget 3
     (setReg Reg.updOffset 0x130 s)) (setReg Reg.updStatus (wd (2 ^ 25)) up)))))), by decide +kernel⟩,
   ⟨(fun s : State => setRb (Reg.status Page.upd) 0 false (setRb (Reg.ctrl Page.upd) 0 true s)) ((fun s : State => setReg Reg.updTarget (wd
     (1 + s.now % 2)) (setReg Reg.updOffset 64 s)) (setReg Reg.updStatus (wd (2 ^ 25)) up)), 64, 1, by decide +kernel⟩⟩

/-- The hypotheses of each clause of PowerAndCrocusComplete can be met together. -/
theorem test_hyps_power_and_crocus_complete :
    (∃ (s : State) (ag : Agent) (w : Word), s.takes ag Reg.pwrModeReq ∧ fld w 31 16 = 0xa5c3 ∧ s.modeCheck 1 = none ∧ s.mode = 0 ∧ s.rb
      (Reg.ctrl Page.pwr) 0 = true) ∧
    (∃ (s : State) (ag : Agent) (w : Word), s.takes ag Reg.pwrModeReq ∧ fld w 31 16 = 0xa5c3 ∧ s.modeCheck 2 = none ∧ s.mode = 0 ∧ s.rb
      (Reg.ctrl Page.pwr) 0 = true) ∧
    (∃ (s : State), s.mode = 2 ∧ s.crocus.sweep = none ∧ s.rbState = 0 ∧ s.pwr.due = 0 ∧ s.pwr.target = 1) ∧
    (∃ (s : State), s.mode = 2 ∧ s.crocus.sweep = none ∧ s.rbState = 0 ∧ s.pwr.due = 0 ∧ s.pwr.target = 2) ∧
    (∃ (s : State) (tick : Nat), s.fldRuns = true ∧ s.reg Reg.pwrWakeTimer ≠ 0 ∧ s.rb Reg.pwrWakeEn 4 = true ∧ s.mode = 3 ∧ s.now ≤ tick ∧
      tick < 2 ^ 64) ∧
    (∃ (s : State) (cycles : Nat) (n : Nat), s.mode = 4 ∧ s.pwr.ftbOff = true ∧ n = max cycles s.pwr.shown) ∧
    (∃ (s : State) (cycles : Nat), s.mode = 5 ∧ s.pwr.ftbOff = true ∧ s.pwr.cycles = some cycles ∧ s.pwr.shown ≤ cycles ∧ s.now ≤
      s.resumeTick cycles ∧ s.resumeTick cycles < 2 ^ 64) ∧
    (∃ (s : State) (tick : Nat), s.fldRuns = true ∧ s.mode = 5 ∧ s.now ≤ tick ∧ tick < 2 ^ 64) ∧
    (∃ (s : State) (c : CoilIx), s.isReady = true ∧ s.crocusSet.testBit c = true ∧ s.holder c = 0 ∧ s.rb (Reg.ctrl Page.crocus) 0 = true ∧
      s.quiesced (Page.coil c) = false) ∧
    (∃ (s : State) (tick : Nat), s.rf Reg.crocusCfg 31 30 = 0 ∧ s.crocus.sweep = none ∧ s.crocus.waits = none ∧ s.sweepOk = true ∧ s.mode
      = 0 ∧ s.defers = false ∧ tick < 2 ^ 63 ∧ s.now < 2 ^ 63) ∧
    (∃ (s : State) (st : Nat) (c : CoilIx) (x : CrocusSlot), s.crocus.sweep = some (st, [c.val]) ∧ s.crocus.lost = 0 ∧ s.crocus.dark = 0 ∧
      s.boot.vfld = true ∧ s.boot.overvolt = false ∧ (s.coil c).injected = false ∧ slotClip x = false ∧ 54 < s.rf (Reg.coilMmWin c) 7 0 +
      max 8 (s.rf (Reg.coilMmWin c) 15 8)) ∧
    (∃ (s : State) (ag : Agent), s.takes ag Reg.crocusBaseReq ∧ s.rb (Reg.ctrl Page.crocus) 0 = true) ∧
    (∃ (s : State) (ag : Agent) (w : Word), s.takes ag Reg.crocusCntClr ∧ bit w 0 = true) :=
  ⟨⟨setRb (Reg.ctrl Page.pwr) 0 true (taking Agent.host Reg.pwrModeReq up), Agent.host, 0xa5c30001#32, by decide +kernel⟩,
   ⟨setRb (Reg.ctrl Page.pwr) 0 true (taking Agent.host Reg.pwrModeReq up), Agent.host, 0xa5c30249#32, by decide +kernel⟩,
   ⟨setRf Reg.pwrMode 2 0 2 ((fun s : State => setRf Reg.rbSynState 3 0 0
     { s with pwr := { s.pwr with target := 1, due := 0 }, crocus := { s.crocus with sweep := none } }) up), by decide +kernel⟩,
   ⟨setRf Reg.pwrMode 2 0 2 ((fun s : State => setRf Reg.rbSynState 3 0 0
     { s with pwr := { s.pwr with target := 2, due := 0 }, crocus := { s.crocus with sweep := none } }) up), by decide +kernel⟩,
   ⟨setRf Reg.pwrMode 2 0 3 (setRb Reg.pwrWakeEn 4 true (setReg Reg.pwrWakeTimer 77 up)), 5077, by decide +kernel⟩,
   ⟨(fun s : State => { s with pwr := { s.pwr with ftbOff := true } }) (setRf Reg.pwrMode 2 0 4 up), 20, _, by decide +kernel,
     by decide +kernel, rfl⟩,
   ⟨(fun s : State => { s with pwr := { s.pwr with ftbOff := true } }) (setRf Reg.pwrMode 2 0 5 ((fun s : State =>
     { s with pwr := { s.pwr with entryFtb := s.now, entryMeas := 847500, cycles := some 0 } }) up)), 0, by decide +kernel⟩,
   ⟨setRf Reg.pwrMode 2 0 5 up, 6000, by decide +kernel⟩,
   ⟨(fun s : State => setRb (Reg.status (Page.coil 9)) 0 false (setRb (Reg.ctrl (Page.coil 9)) 0 true s)) (setRb (Reg.ctrl Page.crocus) 0
     true (setRf Reg.crocusSet 11 0 0xfff up)), 9, by decide +kernel⟩,
   ⟨(fun s : State => [Page.crocus, Page.pwr].foldl (fun s p => setRb (Reg.ctrl p) 0 true (setRb (Reg.ctrl p) 1 false (setRb (Reg.status p) 0
     false s))) s) up, 0, by decide +kernel⟩,
   ⟨(fun s : State => { s with crocus := { s.crocus with sweep := some (1, [8]), lost := 0 } }) (setRf (Reg.coilMmWin 8) 7 0 60 up), 1, 8,
     ⟨List.replicate 256 100, 7, 9, 978⟩, by decide +kernel⟩,
   ⟨setRb (Reg.ctrl Page.crocus) 0 true (taking Agent.host Reg.crocusBaseReq up), Agent.host, by decide +kernel⟩,
   ⟨taking Agent.host Reg.crocusCntClr up, Agent.host, 0x00000007#32, by decide +kernel⟩⟩

/-- The hypotheses of each clause of DebugAndTestComplete can be met together. -/
theorem test_hyps_debug_and_test_complete :
    (∃ (s : State) (ag : Agent) (w : Word), s.takes ag Reg.dbgCntClrAll ∧ fld w 31 16 = 0xa5c3 ∧ bit w 0 = true) ∧
    (∃ (s : State) (cls : Nat) (p : Nat) (code : Nat), cls < 32 ∧ p < 256 ∧ code < 256 ∧ s.reg Reg.dbgFaultSum = 0) ∧
    (∃ (s : State) (ag : Agent) (w : Word), s.takes ag Reg.dbgInject ∧ fld w 31 16 = 0xa5c3 ∧ s.rb (Reg.lock Page.dbg) 0 = false ∧
      s.isReady = true ∧ s.injecting 1 = false ∧ s.rb (Reg.ctrl Page.dbg) 0 = true) ∧
    (∃ (s : State) (ag : Agent) (w : Word), s.takes ag Reg.dbgInject ∧ fld w 31 16 = 0xa5c3 ∧ s.rb (Reg.lock Page.dbg) 0 = false ∧
      s.isReady = true ∧ s.rbLocked = true ∧ s.radio.tx = none ∧ s.rx.rx = none ∧ s.rb (Reg.ctrl Page.dbg) 0 = true) ∧
    (∃ (s : State) (ag : Agent) (w : Word), s.takes ag Reg.dbgInject ∧ fld w 31 16 = 0xa5c3 ∧ s.rb (Reg.lock Page.dbg) 0 = false ∧
      s.isReady = true ∧ s.injecting 3 = false ∧ s.rb (Reg.ctrl Page.dbg) 0 = true) ∧
    (∃ (s : State) (ag : Agent) (w : Word) (c : Fin 8), s.takes ag Reg.dbgInject ∧ fld w 31 16 = 0xa5c3 ∧ s.rb (Reg.lock Page.dbg) 0 =
      false ∧ s.isReady = true ∧ s.injecting 4 = false ∧ bit w c = true ∧ s.rb (Reg.ctrl Page.dbg) 0 = true) ∧
    (∃ (s : State) (l : List Bool), s.boot.vddio = true ∧ s.boot.resetN = false ∧ l.length = 91) ∧
    (∃ (s : State), s.boot.vddio = true ∧ s.boot.resetN = true) ∧
    (∃ (s : State) (l : List Bool), s.boot.vddio = true ∧ l.length = 91) ∧
    (∃ (s : State), s.boot.vddio = true) ∧
    (∃ (s : State), s.boot.vddio = true) ∧
    (∃ (s : State), s.boot.vddio = true) ∧
    (∃ (s : State), s.boot.vddio = true) :=
  ⟨⟨taking Agent.host Reg.dbgCntClrAll up, Agent.host, 0xa5c30001#32, by decide +kernel⟩,
   ⟨up, 0, 0, 0, by decide +kernel⟩,
   ⟨setRb (Reg.ctrl Page.dbg) 0 true (taking Agent.host Reg.dbgInject up), Agent.host, 0xa5c30001#32, by decide +kernel⟩,
   ⟨setRb (Reg.ctrl Page.dbg) 0 true (taking Agent.host Reg.dbgInject (setRb Reg.rbSynState 12 true up)), Agent.host, 0xa5c37906#32,
     by decide +kernel⟩,
   ⟨setRb (Reg.ctrl Page.dbg) 0 true (taking Agent.host Reg.dbgInject up), Agent.host, 0xa5c30096#32, by decide +kernel⟩,
   ⟨setRb (Reg.ctrl Page.dbg) 0 true (taking Agent.host Reg.dbgInject up), Agent.host, 0xa5c36680#32, 7, by decide +kernel⟩,
   ⟨(fun s : State => { s with boot := { s.boot with resetN := false } }) up, [true, true, true, true, true, true, true, true, true, true,
     true, true, true, true, true, true, true, true, true, true, true, true, true, true, true, true, true, true, true, true, true, true,
     true, true, true, true, true, true, true, true, true, true, true, true, true, true, true, true, true, true, true, true, true, true,
     true, true, true, true, true, true, true, true, true, true, true, true, true, true, true, true, true, true, true, true, true, true,
     true, true, true, true, true, true, true, true, true, true, true, true, true, true, true], by decide +kernel⟩,
   ⟨up, by decide +kernel⟩,
   ⟨up, [true, true, true, true, true, true, true, true, true, true, true, true, true, true, true, true, true, true, true, true, true, true,
     true, true, true, true, true, true, true, true, true, true, true, true, true, true, true, true, true, true, true, true, true, true,
     true, true, true, true, true, true, true, true, true, true, true, true, true, true, true, true, true, true, true, true, true, true,
     true, true, true, true, true, true, true, true, true, true, true, true, true, true, true, true, true, true, true, true, true, true,
     true, true, true], by decide +kernel⟩,
   ⟨up, by decide +kernel⟩,
   ⟨up, by decide +kernel⟩,
   ⟨up, by decide +kernel⟩,
   ⟨up, by decide +kernel⟩⟩

/-- The hypotheses of StepKeepsSoundness can be met: a sound state whose step answers a next state. -/
theorem test_hyps_step_keeps_soundness :
    ∃ s t : State, s.pending = [.tagFieldOn false] ∧ s.wf = true ∧ step s = .next t :=
  ⟨{ up with pending := [.tagFieldOn false] }, _, rfl, by decide +kernel, rfl⟩

/-- The hypotheses of StepTakesOneCommand can be met: a state with two commands whose step answers a next state. -/
theorem test_hyps_step_takes_one_command :
    ∃ s t : State, s.pending = [.testLogicReset, .tapIdcode] ∧ step s = .next t :=
  ⟨{ up with pending := [.testLogicReset, .tapIdcode] }, _, rfl, rfl⟩

/-! ## WellFormed refuses what is ill-formed -/

/-- Commands none of which is well formed. -/
def refused (l : List Instr) : Bool := l.all (fun c => !c.wf)

/-- Addresses beyond the 24 bits of the host port, or outside the session RAM. -/
theorem test_wf_addresses :
    refused [.qspiRead 0x1000000 1, .qspiWrite 0x1000000 [], .qspiQread 0x1000000 1, .qspiQwrite 0x1000000 [],
      .registerWrite .host 0x1000000 0, .pairLoRead .host 0x1000000, .sessionRamWrite 0x3fffc 0, .sessionRamWrite 0x4c000 0] = true := by
  decide

/-- Command bytes that the port knows are no unknown command. -/
theorem test_wf_command_bytes :
    refused [.qspiUnknownCommand 0x0b, .qspiUnknownCommand 0x02, .qspiUnknownCommand 0xeb, .qspiUnknownCommand 0x38,
      .qspiUnknownCommand 0x05] = true := by decide

/-- Ticks beyond 64 bits. -/
theorem test_wf_ticks :
    refused [.resultHeldPost (2 ^ 64), .ready (2 ^ 64),
      .calDone (2 ^ 64) ⟨[], {}, []⟩ 0, .syncEdge (2 ^ 64) false, .eventChannelEntry 0 (2 ^ 64) 0, .cellOutputChange 0 (2 ^ 64),
      .gpInputEdge 0 true (2 ^ 64), .hfRxSof 0 (2 ^ 64) 0 true (.fixed 0), .hfRxSof 0 0 (2 ^ 64) true (.fixed 0),
      .hfRxEnd 0 ⟨2 ^ 64, [], [], [], 0⟩, .radioStateReached (2 ^ 64), .synthCalDone (2 ^ 64) 0 0, .synthLock (2 ^ 64), .lockLoss (2 ^ 64),
      .preambleDet ⟨2 ^ 64, .base [], .base [], .base []⟩, .longTrainingSync ⟨2 ^ 64, .base []⟩,
      .newerPreamble ⟨2 ^ 64, 0, .base []⟩, .newerPreamble ⟨0, 2 ^ 64, .base []⟩, .decodeEnd (2 ^ 64) (.base []),
      .tagReqa (2 ^ 64), .tagWupa (2 ^ 64), .wakeTimerExpiry (2 ^ 64), .wakeDetect 1 0 (2 ^ 64), .wakeRestore (2 ^ 64),
      .crocusSweepStart true (2 ^ 64), .crocusSweepEnd (2 ^ 64) []] = true := by decide

/-- Converter codes beyond 10 bits, and a Crocus slot without its 256 codes. -/
theorem test_wf_samples :
    refused [.agcAttack (.codes 0 [512]) false, .noiseUpdated false (.codes 0 [-513]), .crocusSweepEnd 0 [⟨[0], 0, 0, 0⟩]] = true := by
  decide

/-- Masks and values wider than their fields. -/
theorem test_wf_fields :
    refused [.calDone 0 ⟨[], {}, []⟩ 4096, .aonMeasUpdate 839024, .aonMeasUpdate 855976, .thetaRecompute 0 65536, .coilSetAdd .host 0 4096,
      .coilSetRemove .host 0 4096, .supplyRangeReport 0 65536, .watchdogTrip (2 ^ 32), .wakeDetect 65536 0 0, .injectEnd 16,
      .tapExtest (List.replicate 90 true), .tapSamplePreload (List.replicate 92 true)] = true := by decide

/-- Frames and transactions that the panel tag cannot be sent. -/
theorem test_wf_tag :
    refused [.tagAnticollision 0 [] 0, .tagAnticollision 4 [] 0, .tagAnticollision 1 (List.replicate 40 true) 0,
      .tagAnticollision 1 [] (2 ^ 64), .tagSelect 4 [0, 0, 0, 0] 0, .tagSelect 1 [0, 0, 0] 0, .tagSelect 1 [0, 0, 0, 0] (2 ^ 64),
      .tagRats 256 0, .tagRats 0 (2 ^ 64), .tagPps 15 0 0 0, .tagPps 0 4 0 0, .tagPps 0 0 4 0, .tagPps 0 0 0 (2 ^ 64),
      .tagDeselect (some 15) 0, .tagDeselect none (2 ^ 64), .i2cWriteTransaction 128 0 [] 0,
      .i2cWriteTransaction 0 65536 [] 0, .i2cReadTransaction 128 none 0 0, .i2cReadTransaction 0 (some 65536) 0 0] = true := by decide

/-- The block that carries a short APDU, with a CID and a tick. -/
def oneBlock (cid : Option Nat) (ends : Nat) : List TagBlock := [⟨.iLast, false, cid, true, ends⟩]

/-- APDUs whose fields or blocks are ill-formed, that no good block ends, or that are another row's. -/
theorem test_wf_apdu :
    refused [.apduSelect ⟨256, 0xa4, 0, 0, none, none, false, 0, oneBlock none 0⟩, .apduSelect ⟨0, 256, 0, 0, none, none, false, 0, oneBlock none 0⟩,
      .apduReadBinary ⟨0, 0xb0, 256, 0, none, none, false, 0, oneBlock none 0⟩,
      .apduUpdateBinary ⟨0, 0xd6, 0, 256, none, none, false, 0, oneBlock none 0⟩,
      .apduVerify ⟨0, 0x20, 0, 0, none, some 0, false, 0, oneBlock none 0⟩,
      .apduVerify ⟨0, 0x20, 0, 0, none, none, false, 0, oneBlock (some 16) 0⟩,
      .apduChangeReferenceData ⟨0, 0x24, 0, 0, none, some 257, false, 0, oneBlock none 0⟩,
      .apduReadCounter ⟨0x80, 0x34, 0, 0, none, none, false, 0, []⟩, .apduReadCounter ⟨0x80, 0x32, 0, 0, none, none, false, 0, oneBlock none 0⟩,
      .apduIncrementCounter ⟨0x80, 0x32, 0, 0, none, none, false, 0, oneBlock none (2 ^ 64)⟩] = true := by decide

/-- Data longer than an APDU can carry. -/
theorem test_wf_apdu_data :
    Instr.wf (.apduReadCounter ⟨0x80, 0x34, 0, 0, some (List.replicate 65536 0), none, true, 0, oneBlock none 0⟩) = false := by
  simp only [Instr.wf, Apdu.wf, Option.all_some, List.length_replicate]
  decide

/-- Mailbox headers wider than their fields, and a listed CODE given as unknown. -/
theorem test_wf_mailbox :
    refused [.mboxGetVersion .host 65536 [], .mboxLogNote .host 65536 [], .mboxCalibrate .host 65536 [], .mboxApplyRecord .host 65536 [],
      .mboxCheckStore .host 65536 [], .mboxFwSwitch .host 65536 [], .mboxFwConfirm .host 65536 [], .mboxFwRevert .host 65536 [],
      .mboxTagUnlock .host 65536 [], .mboxProtClear .host 65536 [], .mboxProtClear .host 0 (List.replicate 256 0),
      .mboxUnknownCode .host 0x10 0 [], .mboxUnknownCode .host 256 0 [], .mboxUnknownCode .host 3 65536 []] = true := by decide +kernel

/-! ## Results that the manual prints -/

/-- The digits 0x31–0x39. -/
def digits : List Byte := [0x31, 0x32, 0x33, 0x34, 0x35, 0x36, 0x37, 0x38, 0x39]

/-- The check values of the table of R392 (16_check_value_units). -/
theorem test_check_values :
    (preset 1).map (·.crc digits) = some 0xbf05 ∧ (preset 1).map (·.crc [0x30, 0x04]) = some 0xee26 ∧
      (preset 2).map (·.crc digits) = some 0x906e ∧ (preset 3).map (·.crc digits) = some 0x906e ∧
      (preset 4).map (·.crc digits) = some 0x31c3 ∧ (preset 5).map (·.crc digits) = some 0x4b ∧
      (preset 6).map (·.crc [0x00]) = some 0xa3fc4c ∧ (preset 7).map (·.crc digits) = some 0xcbf43926 := by decide +kernel

/-- The SHA-256 example of FIPS 180-4, the digest of "abc" (R438, 18_hollyhock_management; log entry 140). -/
theorem test_sha256 : sha256 [0x61, 0x62, 0x63] = 0xba7816bf8f01cfea414140de5dae2223b00361a396177a9cb410ff61f20015ad := by decide +kernel

/-- CRC_A starts from RUN = 0x6363 (R391, 16_check_value_units). -/
theorem test_crc_a_start : (preset 1).map CrcPar.start = some 0x6363 := by decide +kernel

/-- The four results of the example under R114 (04_host_port_queues), at a tick `t`, with AGE_LIMIT at 500 µs. -/
def ageing (t : Nat) : State :=
  let i := fun prio handle posted => (⟨0x08, prio, 0, handle, 0, 0, 0, [], posted, 0, none⟩ : Item)
  { setRf Reg.queueTimers 15 0 500 up with
    time := { ftb := t }
    queue := { res := [i 1 0x0103 0, i 3 0x0207 10848, i 2 0x0103 21696, i 0 0x0309 32544] } }

/-- At 400 µs B is read first; once it is gone, C is next but A is returned in its place (R113, R114). -/
theorem test_read_order :
    (ageing 43392).choose.map Item.handle = some 0x0207 ∧
      ((ageing 43392).choose.map (fun b => ((modQueue (fun q => { q with res := q.res.erase b }) (ageing 43392)).choose).map
        (fun i => (i.handle, i.prio)))) = some (some (0x0103, 1)) := by decide +kernel

/-- At 1,000 µs A has reached class 3 and is read first (R113). -/
theorem test_read_order_aged : (ageing 108480).choose.map (fun i => (i.handle, i.prio)) = some (0x0103, 1) := by decide +kernel

/-- With MAG 4,800 and MAG_DELTA 20, Crocus trips at a change of more than 93 (19_crocus_low_power, after R463). -/
theorem test_crocus_threshold :
    let s := setRf (Reg.crocusThr 0) 7 0 20 up
    s.beyond 0 4707 0 (wd (4800 * 65536)) false = false ∧ s.beyond 0 4706 0 (wd (4800 * 65536)) false = true := by decide +kernel

/-- IDCODE is 0x144800b9 (R478). -/
theorem test_idcode : (match exec .tapIdcode up with
    | .next t => t.dataOut
    | _ => []) = [0x144800b9] := by decide +kernel

/-- A command is taken from the front of the queue, and with none waiting a tick passes (log entry 5). -/
theorem test_step_order :
    (match step { up with pending := [.tapIdcode, .testLogicReset] } with
      | .next t => t.pending
      | _ => []) = [.testLogicReset] ∧
    (match step up with
      | .next t => t.now
      | _ => 0) = 1001 := by decide +kernel

end Sys2Proof.Tests
end

section
/-! PROOFS. What the operations shared by the queue commands leave unchanged — the checks of R139 on a write that passes them, the
interrupt sources (R136), the error report (R140) and the settling of the queue pins (R117–R120) — and the queue marks (R121). -/

namespace Sys2Proof.Proofs

open Sys2Proof.Machine Sys2Proof.Laws

/-! ## Frames -/

/-- Two changes in a row leave what each of them leaves. -/
theorem sameRegs_trans {l : List Nat} {s t u : State} (h : SameRegs l s t) (h' : SameRegs l t u) : SameRegs l s u :=
  fun a ha => (h' a ha).trans (h a ha)

theorem sameRegs_mono {l m : List Nat} {s t : State} (hlm : l ⊆ m) (h : SameRegs l s t) : SameRegs m s t :=
  fun a ha => h a (fun hl => ha (hlm hl))

/-- Changes of registers of the pages listed leave the other pages. -/
theorem samePages_of_sameRegs {l m : List Nat} {s t : State} (hlm : ∀ a ∈ l, a / 0x1000 ∈ m) (h : SameRegs l s t) : SamePages m s t :=
  fun a ha => h a (fun hl => ha (hlm a hl))

theorem sameBytes_of_mem {s t : State} (h : t.mem = s.mem) : SameBytes s t := fun a => by simp only [State.byte, h]

theorem rf_of_sameRegs {l : List Nat} {s t : State} (h : SameRegs l s t) {a : Nat} (ha : a ∉ l) (hi lo : Nat) :
    t.rf a hi lo = s.rf a hi lo := by simp only [State.rf, h a ha]

theorem quiesced_of_sameRegs {l : List Nat} {s t : State} (h : SameRegs l s t) {p : Nat} (hs : Reg.status p ∉ l) (hc : Reg.ctrl p ∉ l) :
    t.quiesced p = s.quiesced p := by simp only [State.quiesced, State.rb, h _ hs, h _ hc]

theorem onlyRegs_refl (l : List Nat) (s : State) : OnlyRegs l s s := ⟨fun _ _ => rfl, fun _ => rfl, rfl⟩

theorem onlyRegs_trans {l : List Nat} {s t u : State} (h : OnlyRegs l s t) (h' : OnlyRegs l t u) : OnlyRegs l s u := by
  obtain ⟨hr, hb, hst⟩ := h
  obtain ⟨hr', hb', htu⟩ := h'
  refine ⟨sameRegs_trans hr hr', fun a => (hb' a).trans (hb a), ?_⟩
  calc { u with regs := s.regs } = { ({ u with regs := t.regs } : State) with regs := s.regs } := rfl
    _ = s := by rw [htu, hst]

theorem onlyRegs_mono {l m : List Nat} {s t : State} (hlm : l ⊆ m) (h : OnlyRegs l s t) : OnlyRegs m s t :=
  ⟨sameRegs_mono hlm h.1, h.2⟩

/-- A change of registers alone leaves every other part of the state. -/
theorem field_of_onlyRegs {α : Type} {l : List Nat} {s t : State} (f : State → α) (hf : ∀ (u : State) r, f { u with regs := r } = f u)
    (h : OnlyRegs l s t) : f t = f s := by
  obtain ⟨-, -, hst⟩ := h
  rw [← hf t s.regs, hst]

theorem queue_of_onlyRegs {l : List Nat} {s t : State} (h : OnlyRegs l s t) : t.queue = s.queue :=
  field_of_onlyRegs State.queue (fun _ _ => rfl) h

theorem mem_of_onlyRegs {l : List Nat} {s t : State} (h : OnlyRegs l s t) : t.mem = s.mem :=
  field_of_onlyRegs State.mem (fun _ _ => rfl) h

theorem boot_of_onlyRegs {l : List Nat} {s t : State} (h : OnlyRegs l s t) : t.boot = s.boot :=
  field_of_onlyRegs State.boot (fun _ _ => rfl) h

theorem setReg_onlyRegs {a : Nat} {l : List Nat} (ha : a ∈ l) (w : Word) (s : State) : OnlyRegs l s (setReg a w s) :=
  ⟨fun _ hx => setReg_reg_ne (ne_of_mem_of_not_mem ha hx).symm w s, fun _ => rfl, rfl⟩

theorem setRb_onlyRegs {a : Nat} {l : List Nat} (ha : a ∈ l) (k : Nat) (b : Bool) (s : State) : OnlyRegs l s (setRb a k b s) :=
  setReg_onlyRegs ha _ s

theorem addRf_onlyRegs {a : Nat} {l : List Nat} (ha : a ∈ l) (hi lo n : Nat) (s : State) : OnlyRegs l s (addRf a hi lo n s) :=
  setReg_onlyRegs ha _ s

/-- An effect under a condition changes no more registers than the effect. -/
theorem sif_onlyRegs {l : List Nat} {f : State → State} {s : State} (c : Bool) (h : OnlyRegs l s (f s)) : OnlyRegs l s (sif c f s) := by
  cases c
  · exact onlyRegs_refl l s
  · exact h

/-- The fields of a register written whole. -/
theorem setReg_rf_eq (a hi lo : Nat) (w : Word) (s : State) : (setReg a w s).rf a hi lo = fld w hi lo := by
  rw [State.rf, setReg_reg_eq]

@[simp] theorem setReg_cmdFill (a : Nat) (w : Word) (s : State) : (setReg a w s).cmdFill = s.cmdFill := rfl
@[simp] theorem setReg_isReady (a : Nat) (w : Word) (s : State) : (setReg a w s).isReady = s.isReady := rfl
@[simp] theorem setReg_resFill (a : Nat) (w : Word) (s : State) : (setReg a w s).resFill = s.resFill := rfl

/-! ## Words of two halves -/

/-- A field at the foot of the low half of a word of two halves. -/
theorem fld_wd_low {lo hi k : Nat} (hk : k < 16) (h : hi < 2 ^ (k + 1)) : fld (wd (lo * 65536 + hi)) k 0 = hi := by
  have hword : 2 ^ (k + 1) ∣ 2 ^ 32 := pow_dvd_pow 2 (by omega)
  obtain ⟨c, hc⟩ : 2 ^ (k + 1) ∣ lo * 65536 := Dvd.dvd.mul_left (pow_dvd_pow 2 (by omega : k + 1 ≤ 16)) lo
  simp only [fld, wd, BitVec.toNat_ofNat, Nat.shiftRight_zero, Nat.sub_zero]
  rw [Nat.mod_mod_of_dvd _ hword, hc, Nat.mul_add_mod, Nat.mod_eq_of_lt h]

/-- A field at the foot of the high half. -/
theorem fld_wd_high {lo hi k : Nat} (hk : k < 16) (hhi : hi < 65536) (h : lo < 2 ^ (k + 1)) :
    fld (wd (lo * 65536 + hi)) (k + 16) 16 = lo := by
  have hlo : lo < 2 ^ 16 := h.trans_le (Nat.pow_le_pow_right (by omega) (by omega))
  have hhalf : (lo * 65536 + hi) % 2 ^ 32 / 2 ^ 16 = lo := by omega
  rw [fld, wd, BitVec.toNat_ofNat, Nat.shiftRight_eq_div_pow, hhalf, show k + 16 + 1 - 16 = k + 1 by omega, Nat.mod_eq_of_lt h]

/-! ## Interrupt sources (R136) -/

theorem irq_onlyRegs (p k : Nat) (s : State) : OnlyRegs [Reg.irqRaw p, Reg.irqStat p] s (irq p k s) := by
  have hraw := setRb_onlyRegs (a := Reg.irqRaw p) (l := [Reg.irqRaw p, Reg.irqStat p]) (by simp) k true s
  unfold irq
  split
  · exact onlyRegs_trans hraw (setRb_onlyRegs (by simp) _ _ _)
  · exact hraw

theorem irqLevel_onlyRegs (p k : Nat) (b : Bool) (s : State) : OnlyRegs [Reg.irqRaw p, Reg.irqStat p] s (irqLevel p k b s) := by
  have hraw := setRb_onlyRegs (a := Reg.irqRaw p) (l := [Reg.irqRaw p, Reg.irqStat p]) (by simp) k b s
  unfold irqLevel
  split
  · exact onlyRegs_trans hraw (setRb_onlyRegs (by simp) _ _ _)
  · exact hraw

@[simp] theorem irqLevel_queue (p k : Nat) (b : Bool) (s : State) : (irqLevel p k b s).queue = s.queue :=
  queue_of_onlyRegs (irqLevel_onlyRegs p k b s)
@[simp] theorem irqLevel_mem (p k : Nat) (b : Bool) (s : State) : (irqLevel p k b s).mem = s.mem :=
  mem_of_onlyRegs (irqLevel_onlyRegs p k b s)
@[simp] theorem irqLevel_boot (p k : Nat) (b : Bool) (s : State) : (irqLevel p k b s).boot = s.boot :=
  boot_of_onlyRegs (irqLevel_onlyRegs p k b s)

/-! ## Register writes: the checks (R139) and the error report (R140, R474) -/

/-- A write that the register takes has its effect. -/
theorem guarded_of_takes {s : State} {ag : Agent} {a : Nat} (h : s.takes ag a) (eff : State → State) : guarded ag a eff s = eff s := by
  obtain ⟨⟨-, hhost, hup, hsec⟩, hown, hlock, hquiet⟩ := h
  have hin : (ag == .host && !s.hostUp) = false := by cases ag <;> simp_all
  have hready : (ag == .host && !s.isReady) = false := by cases ag <;> simp_all
  have havail : ∀ f : State → State, secureGuard ag a f s = f s := fun f => by
    simp only [secureGuard, availGuard, hin, hready, hup, hsec, Bool.not_true, Bool.false_and, Bool.false_eq_true, if_false]
  simp only [guarded, guardedBy, guardedFor, havail, hown, hlock, hquiet, beq_self_eq_true, Bool.not_true, Bool.false_eq_true, if_false]

@[simp] theorem detailUsed_reg (d x : Nat) (s : State) : (detailUsed d s).reg x = s.reg x := by unfold detailUsed; split <;> rfl
@[simp] theorem detailUsed_queue (d : Nat) (s : State) : (detailUsed d s).queue = s.queue := by unfold detailUsed; split <;> rfl
@[simp] theorem detailUsed_mem (d : Nat) (s : State) : (detailUsed d s).mem = s.mem := by unfold detailUsed; split <;> rfl

theorem noteFirst_sameRegs (p code info extra : Nat) (s : State) :
    SameRegs [Reg.errCode p, Reg.errInfo p] s (noteFirst p code info extra s) := by
  intro x hx
  obtain ⟨hcode, hinfo⟩ : x ≠ Reg.errCode p ∧ x ≠ Reg.errInfo p := by simpa using hx
  simp only [noteFirst, detailUsed_reg, setReg_reg_ne hcode, setReg_reg_ne hinfo]

@[simp] theorem noteFirst_queue (p code info extra : Nat) (s : State) : (noteFirst p code info extra s).queue = s.queue := by
  rw [noteFirst, detailUsed_queue, setReg_queue, setReg_queue, detailUsed_queue]

@[simp] theorem noteFirst_mem (p code info extra : Nat) (s : State) : (noteFirst p code info extra s).mem = s.mem := by
  rw [noteFirst, detailUsed_mem, setReg_mem, setReg_mem, detailUsed_mem]

/-- The code that a page's first error leaves in ERR_CODE (R140). -/
theorem noteFirst_errCode {code : Nat} (hc : code < 2 ^ 8) (p info extra : Nat) (s : State) :
    (noteFirst p code info extra s).rf (Reg.errCode p) 7 0 = code := by
  have hne : Reg.errCode p ≠ Reg.errInfo p := by simp
  simp only [State.rf, noteFirst, detailUsed_reg, setReg_reg_ne hne, setReg_reg_eq, fld, wd, BitVec.toNat_ofNat]
  omega

/-- What a page records of an error before the interrupt source and the fault summary follow (R140). -/
def errNoted (p code info extra : Nat) (s : State) : State :=
  if s.rf (Reg.errCode p) 15 10 = 0 then noteFirst p code info extra s else addRf (Reg.errCode p) 15 10 1 s

theorem errNoted_sameRegs (p code info extra : Nat) (s : State) :
    SameRegs [Reg.errCode p, Reg.errInfo p] s (errNoted p code info extra s) := by
  unfold errNoted
  split
  · exact noteFirst_sameRegs _ _ _ _ s
  · exact (addRf_onlyRegs (by simp) _ _ _ s).1

@[simp] theorem errNoted_queue (p code info extra : Nat) (s : State) : (errNoted p code info extra s).queue = s.queue := by
  unfold errNoted
  split
  · exact noteFirst_queue _ _ _ _ s
  · rfl

@[simp] theorem errNoted_mem (p code info extra : Nat) (s : State) : (errNoted p code info extra s).mem = s.mem := by
  unfold errNoted
  split
  · exact noteFirst_mem _ _ _ _ s
  · rfl

/-- The registers of page DBG that hold the fault summary and its interrupt (R474). -/
def faultRegs : List Nat :=
  [Reg.dbgFaultSum, Reg.dbgFirst, Reg.dbgFirstTickLo, Reg.dbgFirstTickHi, Reg.irqRaw Page.dbg, Reg.irqStat Page.dbg]

theorem faultIn_onlyRegs (same : Bool) (cls p code : Nat) (s : State) : OnlyRegs faultRegs s (faultIn same cls p code s) := by
  have hsum : OnlyRegs faultRegs s (irq Page.dbg 0 (setRb Reg.dbgFaultSum cls true s)) :=
    onlyRegs_trans (setRb_onlyRegs (by decide) _ _ s) (onlyRegs_mono (by decide) (irq_onlyRegs _ _ _))
  have hfirst : ∀ (t : State) (v : Nat) (w : Word), OnlyRegs faultRegs t (setPair Reg.dbgFirstTickLo v (setReg Reg.dbgFirst w t)) :=
    fun t v w => onlyRegs_trans (setReg_onlyRegs (by decide) w t)
      (onlyRegs_trans (setReg_onlyRegs (by decide) _ _) (setReg_onlyRegs (by decide) _ _))
  exact onlyRegs_trans (sif_onlyRegs _ hsum) (sif_onlyRegs _ (hfirst _ _ _))

/-- What follows an error that a page has recorded: its interrupt source and the fault summary. -/
theorem refusalErr_onlyRegs (p code info extra : Nat) (s : State) :
    OnlyRegs ([Reg.irqRaw p, Reg.irqStat p] ++ faultRegs) (errNoted p code info extra s) (refusalErr p code info extra s) := by
  have hirq : OnlyRegs ([Reg.irqRaw p, Reg.irqStat p] ++ faultRegs) (errNoted p code info extra s) (recErrAs none p code info extra s) :=
    onlyRegs_mono (List.subset_append_left _ _) (irq_onlyRegs p 31 _)
  unfold refusalErr
  split
  · exact onlyRegs_trans hirq (onlyRegs_mono (List.subset_append_right _ _) (faultIn_onlyRegs _ _ _ _ _))
  · exact hirq

/-- A refusal changes no register but those of the error report. -/
theorem refusalErr_sameRegs (p code info extra : Nat) (s : State) : SameRegs (reportRegs p) s (refusalErr p code info extra s) :=
  sameRegs_trans (sameRegs_mono (by simp [reportRegs]) (errNoted_sameRegs p code info extra s))
    (sameRegs_mono (by simp [reportRegs, faultRegs]) (refusalErr_onlyRegs p code info extra s).1)

@[simp] theorem refusalErr_queue (p code info extra : Nat) (s : State) : (refusalErr p code info extra s).queue = s.queue := by
  rw [queue_of_onlyRegs (refusalErr_onlyRegs p code info extra s), errNoted_queue]

@[simp] theorem refusalErr_mem (p code info extra : Nat) (s : State) : (refusalErr p code info extra s).mem = s.mem := by
  rw [mem_of_onlyRegs (refusalErr_onlyRegs p code info extra s), errNoted_mem]

/-- The registers that follow an error record do not hold the record. -/
theorem errCode_not_mem_followers (p : Nat) : Reg.errCode p ∉ [Reg.irqRaw p, Reg.irqStat p] ++ faultRegs := by
  have hoff : ∀ a ∈ faultRegs, a % 0x1000 ≠ 0x28 := by decide
  have hcode : Reg.errCode p % 0x1000 = 0x28 := by simp [Reg.errCode, Nat.add_mod]
  intro hm
  rcases List.mem_append.mp hm with h | h
  · simp at h
  · exact hoff _ h hcode

/-- A refusal that is a page's first error leaves its code in ERR_CODE. -/
theorem refusalErr_errCode {p code : Nat} (hc : code < 2 ^ 8) (info extra : Nat) {s : State} (h : s.rf (Reg.errCode p) 15 10 = 0) :
    (refusalErr p code info extra s).rf (Reg.errCode p) 7 0 = code := by
  rw [rf_of_sameRegs (refusalErr_onlyRegs p code info extra s).1 (errCode_not_mem_followers p), errNoted, if_pos h, noteFirst_errCode hc]

/-! ## The queue pins (R117–R120) -/

/-- What a watermark latch becomes: set by a fill at HIGH, released by one at LOW, and kept between the marks (R117, R118). -/
def latchNext (latch atHigh atLow : Bool) : Bool := if latch then !atLow else atHigh

/-- What the HOLD watermark latch becomes (R117). -/
def holdLatchNext (s : State) : Bool :=
  latchNext s.queue.holdLatch (decide (s.rf Reg.queueHoldMarks 11 0 ≤ s.cmdFill)) (decide (s.cmdFill ≤ s.rf Reg.queueHoldMarks 27 16))

/-- What the ATTN watermark latch becomes (R118). -/
def attnLatchNext (s : State) : Bool :=
  latchNext s.queue.attnLatch (decide (s.rf Reg.queueAttnMarks 12 0 ≤ s.resFill)) (decide (s.resFill ≤ s.rf Reg.queueAttnMarks 28 16))

/-- A fill between the marks keeps the latch. -/
theorem latchNext_between (latch : Bool) : latchNext latch false false = latch := by cases latch <;> rfl

theorem holdLatchNext_of_between {s : State} (hlo : s.rf Reg.queueHoldMarks 27 16 < s.cmdFill)
    (hhi : s.cmdFill < s.rf Reg.queueHoldMarks 11 0) : holdLatchNext s = s.queue.holdLatch := by
  rw [holdLatchNext, decide_eq_false hhi.not_ge, decide_eq_false hlo.not_ge, latchNext_between]

theorem attnLatchNext_of_between {s : State} (hlo : s.rf Reg.queueAttnMarks 28 16 < s.resFill)
    (hhi : s.resFill < s.rf Reg.queueAttnMarks 12 0) : attnLatchNext s = s.queue.attnLatch := by
  rw [attnLatchNext, decide_eq_false hhi.not_ge, decide_eq_false hlo.not_ge, latchNext_between]

/-- A latch that records its crossings in the registers `l` changes nothing else but itself. -/
theorem latch_onlyRegs {l : List Nat} {s : State} {latch atHigh atLow : Bool} (set : Bool → QueueSt → QueueSt) {cross : State → State}
    (hcross : ∀ t, OnlyRegs l t (cross t)) (hkeep : modQueue (set latch) s = s) :
    OnlyRegs l (modQueue (set (latchNext latch atHigh atLow)) s)
      (if !latch && atHigh then cross (modQueue (set true) s) else if latch && atLow then modQueue (set false) s else s) := by
  cases latch with
  | false =>
    cases atHigh with
    | true => exact hcross _
    | false => rw [show latchNext false false atLow = false from rfl, hkeep]; exact onlyRegs_refl l s
  | true =>
    cases atLow with
    | true => exact onlyRegs_refl l _
    | false => rw [show latchNext true atHigh false = true from rfl, hkeep]; exact onlyRegs_refl l s

/-- The registers that the settling of the pins may change: the crossings' notices and counters, and their interrupt sources. -/
def settleRegs : List Nat := [Reg.queueNotice, Reg.queueCrossCnt, Reg.irqRaw Page.queue, Reg.irqStat Page.queue]

/-- What a crossing of HIGH records (R120). -/
theorem crossing_onlyRegs (k j hi lo : Nat) (s : State) :
    OnlyRegs settleRegs s (addRf Reg.queueCrossCnt hi lo 1 (irq Page.queue k (setRb Reg.queueNotice j true s))) :=
  onlyRegs_trans (setRb_onlyRegs (by decide) _ _ s)
    (onlyRegs_trans (onlyRegs_mono (by decide) (irq_onlyRegs _ _ _)) (addRf_onlyRegs (by decide) _ _ _ _))

theorem holdLatch_onlyRegs (s : State) :
    OnlyRegs settleRegs (modQueue (fun q => { q with holdLatch := holdLatchNext s }) s) (holdLatch s) :=
  latch_onlyRegs (fun b q => { q with holdLatch := b }) (crossing_onlyRegs 3 0 15 0) rfl

theorem attnLatch_onlyRegs (s : State) :
    OnlyRegs settleRegs (modQueue (fun q => { q with attnLatch := attnLatchNext s }) s) (attnLatch s) :=
  latch_onlyRegs (fun b q => { q with attnLatch := b }) (crossing_onlyRegs 4 1 31 16) rfl

theorem holdLatch_queue (s : State) : (holdLatch s).queue = { s.queue with holdLatch := holdLatchNext s } :=
  queue_of_onlyRegs (holdLatch_onlyRegs s)

theorem attnLatch_queue (s : State) : (attnLatch s).queue = { s.queue with attnLatch := attnLatchNext s } :=
  queue_of_onlyRegs (attnLatch_onlyRegs s)

@[simp] theorem publish_queue (p t : Nat) (s : State) : (publish p t s).queue = s.queue := rfl
@[simp] theorem publish_mem (p t : Nat) (s : State) : (publish p t s).mem = s.mem := rfl
@[simp] theorem publish_boot (p t : Nat) (s : State) : (publish p t s).boot = s.boot := rfl

@[simp] theorem holdPin_reg (x : Nat) (s : State) : (holdPin s).reg x = s.reg x := by unfold holdPin; split <;> rfl
@[simp] theorem holdPin_mem (s : State) : (holdPin s).mem = s.mem := by unfold holdPin; split <;> rfl
@[simp] theorem holdPin_boot (s : State) : (holdPin s).boot = s.boot := by unfold holdPin; split <;> rfl
@[simp] theorem holdPin_queue (s : State) : (holdPin s).queue = { s.queue with holdLow := s.holdNow } := by
  unfold holdPin; split <;> rfl

/-- ATTN_N changes with its level source; what it publishes waits in the fabric. -/
theorem attnPin_sameRegs (s : State) : SameRegs settleRegs s (attnPin s) := by
  have hirq := sameRegs_mono (m := settleRegs) (by decide)
    (irqLevel_onlyRegs Page.queue 0 s.attnNow (modQueue (fun q => { q with attnLow := s.attnNow }) s)).1
  unfold attnPin
  split <;> exact hirq

@[simp] theorem attnPin_mem (s : State) : (attnPin s).mem = s.mem := by unfold attnPin; split <;> simp
@[simp] theorem attnPin_boot (s : State) : (attnPin s).boot = s.boot := by unfold attnPin; split <;> simp
@[simp] theorem attnPin_queue (s : State) : (attnPin s).queue = { s.queue with attnLow := s.attnNow } := by
  unfold attnPin; split <;> simp

@[simp] theorem settle_mem (s : State) : (settle s).mem = s.mem := by
  simp [settle, mem_of_onlyRegs (attnLatch_onlyRegs _), mem_of_onlyRegs (holdLatch_onlyRegs _)]

@[simp] theorem settle_boot (s : State) : (settle s).boot = s.boot := by
  simp [settle, boot_of_onlyRegs (attnLatch_onlyRegs _), boot_of_onlyRegs (holdLatch_onlyRegs _)]

theorem settle_sameRegs (s : State) : SameRegs settleRegs s (settle s) := by
  have hhold : ∀ t : State, SameRegs settleRegs t (holdLatch t) := fun t => (holdLatch_onlyRegs t).1
  have hattn : ∀ t : State, SameRegs settleRegs t (attnLatch t) := fun t => (attnLatch_onlyRegs t).1
  have hpins : ∀ t : State, SameRegs settleRegs t (attnPin (holdPin t)) := fun t =>
    sameRegs_trans (fun x _ => holdPin_reg x t) (attnPin_sameRegs _)
  exact sameRegs_trans (hhold (modQueue _ s)) (sameRegs_trans (hattn _) (sameRegs_trans (hpins _)
    (sameRegs_mono (by decide) (irqLevel_onlyRegs _ _ _ _).1)))

/-- Settling keeps the fills, so each latch follows the marks and the fill it started from. -/
theorem settle_holdLatch (s : State) : (settle s).queue.holdLatch = holdLatchNext s := by
  simp only [settle, irqLevel_queue, attnPin_queue, holdPin_queue, attnLatch_queue, holdLatch_queue]
  rfl

@[simp] theorem settle_flushing (s : State) : (settle s).queue.flushing = s.queue.flushing := by
  simp only [settle, irqLevel_queue, attnPin_queue, holdPin_queue, attnLatch_queue, holdLatch_queue, modQueue_queue]

theorem settle_stale (s : State) : (settle s).queue.stale = (s.queue.stale && decide (0 < s.resFill)) := by
  simp only [settle, irqLevel_queue, attnPin_queue, holdPin_queue, attnLatch_queue, holdLatch_queue, modQueue_queue]

/-- The HOLD latch has no part in what the ATTN latch becomes. -/
theorem attnLatchNext_holdLatch (s : State) : attnLatchNext (holdLatch s) = attnLatchNext s := by
  have hrf : ∀ hi lo, (holdLatch s).rf Reg.queueAttnMarks hi lo = s.rf Reg.queueAttnMarks hi lo :=
    rf_of_sameRegs (holdLatch_onlyRegs s).1 (by decide)
  have hfill : (holdLatch s).resFill = s.resFill := by simp only [State.resFill, holdLatch_queue]
  have hlatch : (holdLatch s).queue.attnLatch = s.queue.attnLatch := by rw [holdLatch_queue]
  simp only [attnLatchNext, hrf, hfill, hlatch]

theorem settle_attnLatch (s : State) : (settle s).queue.attnLatch = attnLatchNext s := by
  simp only [settle, irqLevel_queue, attnPin_queue, holdPin_queue, attnLatch_queue, attnLatchNext_holdLatch]
  rfl

/-- HOLD_N's condition after the settling follows the new latch (R117). -/
theorem settle_holdNow (s : State) :
    (settle s).holdNow = (holdLatchNext s || s.queue.flushing || s.quiesced Page.queue || !s.isReady) := by
  have hq : (settle s).quiesced Page.queue = s.quiesced Page.queue := quiesced_of_sameRegs (settle_sameRegs s) (by decide) (by decide)
  simp only [State.holdNow, State.isReady, settle_holdLatch, settle_flushing, hq, settle_boot]

/-- ATTN_N's condition after the settling follows the new latch (R118). -/
theorem settle_attnNow (s : State) : (settle s).attnNow = (attnLatchNext s || (s.queue.stale && decide (0 < s.resFill))) := by
  simp only [State.attnNow, settle_attnLatch, settle_stale]

/-! ## The queue marks (R121) -/

/-- The register that a write of the marks goes to: ATTN_MARKS of the result queue or HOLD_MARKS of the command queue. -/
def marksReg (attn : Bool) : Nat := if attn then Reg.queueAttnMarks else Reg.queueHoldMarks

/-- LOW in a word for the marks. -/
def marksLow (attn : Bool) (w : Word) : Nat := if attn then fld w 28 16 else fld w 27 16

/-- HIGH in a word for the marks. -/
def marksHigh (attn : Bool) (w : Word) : Nat := if attn then fld w 12 0 else fld w 11 0

/-- The queue's capacity in words (R107). -/
def marksCap (attn : Bool) : Nat := if attn then 4096 else 2048

/-- The word that a valid write of the marks leaves. -/
def marksWord (attn : Bool) (w : Word) : Word := wd (marksLow attn w * 65536 + marksHigh attn w)

theorem exec_queueMarksWrite (ag : Agent) (attn : Bool) (w : Word) (s : State) :
    exec (.queueMarksWrite ag attn w) s = .next (marksWrite ag attn w s) := rfl

theorem marksWrite_eq {ag : Agent} {attn : Bool} {s : State} (h : s.takes ag (marksReg attn)) (w : Word) :
    marksWrite ag attn w s = if marksHigh attn w ≤ marksLow attn w ∨ marksCap attn < marksHigh attn w
      then refusalErr Page.queue Err.modeAbort openDetail openDetail s
      else settle (setReg (marksReg attn) (marksWord attn w) s) :=
  guarded_of_takes h _

theorem marksReg_hold : marksReg false = Reg.queueHoldMarks := rfl
theorem marksReg_attn : marksReg true = Reg.queueAttnMarks := rfl
theorem marksHigh_hold (w : Word) : marksHigh false w = fld w 11 0 := rfl
theorem marksLow_hold (w : Word) : marksLow false w = fld w 27 16 := rfl
theorem marksHigh_attn (w : Word) : marksHigh true w = fld w 12 0 := rfl
theorem marksLow_attn (w : Word) : marksLow true w = fld w 28 16 := rfl

theorem marksWord_hold_high (w : Word) : fld (marksWord false w) 11 0 = fld w 11 0 := by
  rw [marksWord, marksHigh_hold, fld_wd_low (by omega) (fld_lt w 11 0)]

theorem marksWord_hold_low (w : Word) : fld (marksWord false w) 27 16 = fld w 27 16 := by
  rw [marksWord, marksHigh_hold, marksLow_hold, fld_wd_high (k := 11) (by omega) ((fld_lt w 11 0).trans (by decide)) (fld_lt w 27 16)]

theorem marksWord_attn_high (w : Word) : fld (marksWord true w) 12 0 = fld w 12 0 := by
  rw [marksWord, marksHigh_attn, fld_wd_low (by omega) (fld_lt w 12 0)]

theorem marksWord_attn_low (w : Word) : fld (marksWord true w) 28 16 = fld w 28 16 := by
  rw [marksWord, marksHigh_attn, marksLow_attn, fld_wd_high (k := 12) (by omega) ((fld_lt w 12 0).trans (by decide)) (fld_lt w 28 16)]

/-- The state in which a valid write of the marks leaves the device. -/
def marked (attn : Bool) (w : Word) (s : State) : State := settle (setReg (marksReg attn) (marksWord attn w) s)

theorem exec_marks_valid {ag : Agent} {attn : Bool} {w : Word} {s : State} (h : s.takes ag (marksReg attn))
    (hlt : marksLow attn w < marksHigh attn w) (hcap : marksHigh attn w ≤ marksCap attn) :
    exec (.queueMarksWrite ag attn w) s = .next (marked attn w s) := by
  rw [exec_queueMarksWrite, marksWrite_eq h, if_neg (by omega), marked]

theorem exec_marks_refused {ag : Agent} {attn : Bool} {w : Word} {s : State} (h : s.takes ag (marksReg attn))
    (hbad : marksHigh attn w ≤ marksLow attn w ∨ marksCap attn < marksHigh attn w) :
    exec (.queueMarksWrite ag attn w) s = .next (refusalErr Page.queue Err.modeAbort openDetail openDetail s) := by
  rw [exec_queueMarksWrite, marksWrite_eq h, if_pos hbad]

/-- A valid write leaves the marks in their register. -/
theorem marked_rf (attn : Bool) (w : Word) (s : State) (hi lo : Nat) :
    (marked attn w s).rf (marksReg attn) hi lo = fld (marksWord attn w) hi lo := by
  have hout : marksReg attn ∉ settleRegs := by cases attn <;> decide
  rw [marked, rf_of_sameRegs (settle_sameRegs _) hout, setReg_rf_eq]

theorem marked_samePages (attn : Bool) (w : Word) (s : State) : SamePages [5] s (marked attn w s) := by
  have hset : SameRegs (marksReg attn :: settleRegs) s (setReg (marksReg attn) (marksWord attn w) s) :=
    (setReg_onlyRegs List.mem_cons_self _ s).1
  exact samePages_of_sameRegs (by cases attn <;> decide)
    (sameRegs_trans hset (sameRegs_mono (List.subset_cons_self _ _) (settle_sameRegs _)))

theorem marked_sameBytes (attn : Bool) (w : Word) (s : State) : SameBytes s (marked attn w s) :=
  sameBytes_of_mem (by rw [marked, settle_mem, setReg_mem])

/-- A fill of the command queue between the new marks keeps the HOLD latch and with it HOLD_N's condition. -/
theorem marked_hold_kept {w : Word} {s : State} (hlo : fld w 27 16 < s.cmdFill) (hhi : s.cmdFill < fld w 11 0) :
    (marked false w s).queue.holdLatch = s.queue.holdLatch ∧ (marked false w s).holdNow = s.holdNow := by
  have hnext : holdLatchNext (setReg Reg.queueHoldMarks (marksWord false w) s) = s.queue.holdLatch := by
    rw [holdLatchNext_of_between, setReg_queue]
    · rwa [setReg_rf_eq, marksWord_hold_low, setReg_cmdFill]
    · rwa [setReg_rf_eq, marksWord_hold_high, setReg_cmdFill]
  have hquiet : (setReg Reg.queueHoldMarks (marksWord false w) s).quiesced Page.queue = s.quiesced Page.queue :=
    quiesced_of_sameRegs (setReg_onlyRegs (List.mem_singleton_self _) _ s).1 (by decide) (by decide)
  rw [marked, marksReg_hold]
  exact ⟨by rw [settle_holdLatch, hnext], by
    rw [settle_holdNow, hnext, hquiet, setReg_queue, setReg_isReady, State.holdNow]⟩

/-- A fill of the result queue between the new marks is not 0, so the stale condition stays, and so does the ATTN latch. -/
theorem marked_attn_kept {w : Word} {s : State} (hlo : fld w 28 16 < s.resFill) (hhi : s.resFill < fld w 12 0) :
    (marked true w s).queue.attnLatch = s.queue.attnLatch ∧ (marked true w s).attnNow = s.attnNow := by
  have hnext : attnLatchNext (setReg Reg.queueAttnMarks (marksWord true w) s) = s.queue.attnLatch := by
    rw [attnLatchNext_of_between, setReg_queue]
    · rwa [setReg_rf_eq, marksWord_attn_low, setReg_resFill]
    · rwa [setReg_rf_eq, marksWord_attn_high, setReg_resFill]
  have hfill : 0 < s.resFill := Nat.zero_lt_of_lt hlo
  rw [marked, marksReg_attn]
  exact ⟨by rw [settle_attnLatch, hnext], by
    rw [settle_attnNow, hnext, setReg_queue, setReg_resFill, decide_eq_true hfill, Bool.and_true, State.attnNow]⟩

/-- What a refused write of the marks leaves: the error report of the queues' page and nothing else. -/
theorem exec_marks_refused_report {ag : Agent} {attn : Bool} {w : Word} {s : State} (h : s.takes ag (marksReg attn))
    (hbad : marksHigh attn w ≤ marksLow attn w ∨ marksCap attn < marksHigh attn w) (hfirst : s.rf (Reg.errCode Page.queue) 15 10 = 0) :
    ∃ t, exec (.queueMarksWrite ag attn w) s = .next t ∧ t.rf (Reg.errCode Page.queue) 7 0 = Err.modeAbort ∧
      SameRegs (reportRegs Page.queue) s t ∧ SameBytes s t ∧ t.queue = s.queue :=
  ⟨_, exec_marks_refused h hbad, refusalErr_errCode (by decide) _ _ hfirst, refusalErr_sameRegs _ _ _ _ s,
    sameBytes_of_mem (refusalErr_mem _ _ _ _ s), refusalErr_queue _ _ _ _ s⟩

/-- Settles O10: a valid write is the settling of the pins under the new marks, an invalid one a refusal of the queues' page. -/
theorem queueMarks : Obligations.QueueMarks := by
  refine ⟨fun s ag w h hlt hcap => ?_, fun s ag w h hbad hfirst => ?_, fun s ag w h hlt hcap => ?_, fun s ag w h hbad hfirst => ?_⟩
  · exact ⟨_, exec_marks_valid (attn := false) h hlt hcap, (marked_rf false w s 11 0).trans (marksWord_hold_high w),
      (marked_rf false w s 27 16).trans (marksWord_hold_low w), marked_hold_kept,
      marked_samePages false w s, marked_sameBytes false w s⟩
  · exact exec_marks_refused_report (attn := false) h hbad hfirst
  · exact ⟨_, exec_marks_valid (attn := true) h hlt hcap, (marked_rf true w s 12 0).trans (marksWord_attn_high w),
      (marked_rf true w s 28 16).trans (marksWord_attn_low w), marked_attn_kept,
      marked_samePages true w s, marked_sameBytes true w s⟩
  · exact exec_marks_refused_report (attn := true) h hbad hfirst

end Sys2Proof.Proofs
end

section
/-! PROOFS. The error report of a page (R140): what the record of an error writes in ERR_CODE and ERR_INFO, the interrupt source that
it sets, and the clear that makes the next error the first again. -/

namespace Sys2Proof.Proofs

open Sys2Proof.Machine Sys2Proof.Laws

/-! ## The fault summary and the interrupt source behind a record -/

theorem faultOpt_onlyRegs (cls : Option Nat) (p code : Nat) (s : State) : OnlyRegs faultRegs s (faultOpt cls p code s) := by
  cases cls with
  | some c => exact faultIn_onlyRegs true c p code s
  | none => exact onlyRegs_refl faultRegs s

/-- The interrupt source of page `p` and the fault summary follow what `recErr` notes. -/
theorem recErr_eq (p code info extra : Nat) (s : State) :
    recErr p code info extra s = faultOpt (errClass code) p code (irq p 31 (errNoted p code info extra s)) := rfl

theorem recErr_onlyRegs (p code info extra : Nat) (s : State) :
    OnlyRegs ([Reg.irqRaw p, Reg.irqStat p] ++ faultRegs) (errNoted p code info extra s) (recErr p code info extra s) := by
  rw [recErr_eq]
  exact onlyRegs_trans (onlyRegs_mono (List.subset_append_left _ _) (irq_onlyRegs p 31 _))
    (onlyRegs_mono (List.subset_append_right _ _) (faultOpt_onlyRegs _ _ _ _))

theorem recErr_sameRegs (p code info extra : Nat) (s : State) : SameRegs (reportRegs p) s (recErr p code info extra s) :=
  sameRegs_trans (sameRegs_mono (by simp [reportRegs]) (errNoted_sameRegs p code info extra s))
    (sameRegs_mono (by simp [reportRegs, faultRegs]) (recErr_onlyRegs p code info extra s).1)

theorem errInfo_not_mem_followers (p : Nat) : Reg.errInfo p ∉ [Reg.irqRaw p, Reg.irqStat p] ++ faultRegs := by
  have hoff : ∀ a ∈ faultRegs, a % 0x1000 ≠ 0x2c := by decide
  have hinfo : Reg.errInfo p % 0x1000 = 0x2c := by simp [Reg.errInfo, Nat.add_mod]
  intro hm
  rcases List.mem_append.mp hm with h | h
  · simp at h
  · exact hoff _ h hinfo

/-- What follows a record leaves ERR_CODE as the record noted it. -/
theorem recErr_errCode_reg (p code info extra : Nat) (s : State) :
    (recErr p code info extra s).reg (Reg.errCode p) = (errNoted p code info extra s).reg (Reg.errCode p) :=
  (recErr_onlyRegs p code info extra s).1 _ (errCode_not_mem_followers p)

theorem recErr_errInfo_reg (p code info extra : Nat) (s : State) :
    (recErr p code info extra s).reg (Reg.errInfo p) = (errNoted p code info extra s).reg (Reg.errInfo p) :=
  (recErr_onlyRegs p code info extra s).1 _ (errInfo_not_mem_followers p)

theorem setRb_true_keeps_set {a x j : Nat} (k : Nat) {s : State} (hj : j < 32) (h : s.rb x j = true) :
    (setRb a k true s).rb x j = true := by
  by_cases hx : x = a
  · subst hx
    by_cases hk : j = k
    · subst hk; exact setRb_rb_eq hj x true s
    · rwa [setRb_rb_ne hj hk]
  · rwa [State.rb, setRb_reg_ne hx]

theorem irq_keeps_set {p k x j : Nat} {s : State} (hj : j < 32) (h : s.rb x j = true) : (irq p k s).rb x j = true := by
  unfold irq
  split
  · exact setRb_true_keeps_set k hj (setRb_true_keeps_set k hj h)
  · exact setRb_true_keeps_set k hj h

/-- An occurrence sets its bit of IRQ_RAW (R136). -/
theorem irq_irqRaw {p k : Nat} (hk : k < 32) (s : State) : (irq p k s).rb (Reg.irqRaw p) k = true := by
  have hraw : (setRb (Reg.irqRaw p) k true s).rb (Reg.irqRaw p) k = true := setRb_rb_eq hk _ _ s
  unfold irq
  split
  · exact setRb_true_keeps_set k hk hraw
  · exact hraw

/-- A fault sets bits of the registers outside DBG.FIRST and clears none there. -/
theorem faultIn_keeps_set {same : Bool} {cls p code x j : Nat} {s : State} (hj : j < 32)
    (hx : x ∉ [Reg.dbgFirst, Reg.dbgFirstTickLo, Reg.dbgFirstTickHi]) (h : s.rb x j = true) :
    (faultIn same cls p code s).rb x j = true := by
  obtain ⟨hfirst, hlo, hhi⟩ : x ≠ Reg.dbgFirst ∧ x ≠ Reg.dbgFirstTickLo ∧ x ≠ Reg.dbgFirstTickHi := by simpa using hx
  have hsif : ∀ (c : Bool) (f : State → State) (t : State), t.rb x j = true → (t.rb x j = true → (f t).rb x j = true) →
      (sif c f t).rb x j = true := fun c f t ht hf => by
    cases c
    · exact ht
    · exact hf ht
  refine hsif _ _ _ (hsif _ _ _ h fun h => irq_keeps_set hj (setRb_true_keeps_set cls hj h)) fun h => ?_
  rwa [State.rb, setPair_reg_ne hlo hhi, setReg_reg_ne hfirst]

/-- Every recorded error sets IRQ_RAW[31] of its page (R140). -/
theorem recErr_irqRaw (p code info extra : Nat) (s : State) : (recErr p code info extra s).rb (Reg.irqRaw p) 31 = true := by
  have hirq : (irq p 31 (errNoted p code info extra s)).rb (Reg.irqRaw p) 31 = true := irq_irqRaw (by decide) _
  have hout : Reg.irqRaw p ∉ [Reg.dbgFirst, Reg.dbgFirstTickLo, Reg.dbgFirstTickHi] := by
    simp only [Reg.irqRaw, Reg.dbgFirst, Reg.dbgFirstTickLo, Reg.dbgFirstTickHi, List.mem_cons, List.not_mem_nil, or_false]
    omega
  rw [recErr_eq]
  cases errClass code with
  | some c => exact faultIn_keeps_set (by decide) hout hirq
  | none => exact hirq

/-! ## The first error -/

/-- ERR_CODE as a page's first error leaves it: the code, COUNT 1 and the detail (R140). -/
def firstErrWord (code extra : Nat) : Word := wd (extra % 2 ^ 16 * 2 ^ 16 + 2 ^ 10 + code)

theorem firstErrWord_code {code : Nat} (hc : code < 0x1a) (extra : Nat) : fld (firstErrWord code extra) 7 0 = code := by
  simp only [fld, firstErrWord, wd, BitVec.toNat_ofNat]
  omega

theorem firstErrWord_count {code : Nat} (hc : code < 0x1a) (extra : Nat) : fld (firstErrWord code extra) 15 10 = 1 := by
  simp only [fld, firstErrWord, wd, BitVec.toNat_ofNat, Nat.shiftRight_eq_div_pow]
  omega

theorem firstErrWord_detail {code : Nat} (hc : code < 0x1a) (extra : Nat) : fld (firstErrWord code extra) 31 16 = extra % 65536 := by
  simp only [fld, firstErrWord, wd, BitVec.toNat_ofNat, Nat.shiftRight_eq_div_pow]
  omega

theorem detail_of_given {d : Nat} (h : d ≠ openDetail) (s : State) : s.detail d = d := if_neg h

theorem noteFirst_errCode_reg {extra : Nat} (h : extra ≠ openDetail) (p code info : Nat) (s : State) :
    (noteFirst p code info extra s).reg (Reg.errCode p) = firstErrWord code extra := by
  have hne : Reg.errCode p ≠ Reg.errInfo p := by simp
  simp only [noteFirst, detailUsed_reg, setReg_reg_ne hne, setReg_reg_eq, detail_of_given h, firstErrWord]

theorem noteFirst_errInfo_reg {info : Nat} (h : info ≠ openDetail) (p code extra : Nat) (s : State) :
    (noteFirst p code info extra s).reg (Reg.errInfo p) = wd info := by
  simp only [noteFirst, detailUsed_reg, setReg_reg_eq, detail_of_given h]

theorem recErr_first_errCode {extra : Nat} (he : extra ≠ openDetail) (code info : Nat) {p : Nat} {s : State}
    (h : s.rf (Reg.errCode p) 15 10 = 0) : (recErr p code info extra s).reg (Reg.errCode p) = firstErrWord code extra := by
  rw [recErr_errCode_reg, errNoted, if_pos h, noteFirst_errCode_reg he]

theorem recErr_first_errInfo {info : Nat} (hi : info ≠ openDetail) (code extra : Nat) {p : Nat} {s : State}
    (h : s.rf (Reg.errCode p) 15 10 = 0) : (recErr p code info extra s).reg (Reg.errInfo p) = wd info := by
  rw [recErr_errInfo_reg, errNoted, if_pos h, noteFirst_errInfo_reg hi]

/-! ## A later error -/

/-- A later error adds 1 to COUNT, which saturates at 63, and writes no other bit of ERR_CODE (R140). -/
theorem recErr_later_errCode (code info extra : Nat) {p : Nat} {s : State} (h : 0 < s.rf (Reg.errCode p) 15 10) :
    (recErr p code info extra s).reg (Reg.errCode p) =
      setFld (s.reg (Reg.errCode p)) 15 10 (satAdd 63 (s.rf (Reg.errCode p) 15 10) 1) := by
  rw [recErr_errCode_reg, errNoted, if_neg h.ne', addRf, setRf, setReg_reg_eq]
  rfl

theorem recErr_later_errInfo (code info extra : Nat) {p : Nat} {s : State} (h : 0 < s.rf (Reg.errCode p) 15 10) :
    (recErr p code info extra s).reg (Reg.errInfo p) = s.reg (Reg.errInfo p) := by
  rw [recErr_errInfo_reg, errNoted, if_neg h.ne', addRf_reg_ne (by simp)]

theorem satAdd_one_eq_min (max n : Nat) : satAdd max n 1 = min max (n + 1) := by
  unfold satAdd
  split <;> omega

theorem recErr_later_count (code info extra : Nat) {p : Nat} {s : State} (h : 0 < s.rf (Reg.errCode p) 15 10) :
    (recErr p code info extra s).rf (Reg.errCode p) 15 10 = min 63 (s.rf (Reg.errCode p) 15 10 + 1) := by
  have hfit : min 63 (s.rf (Reg.errCode p) 15 10 + 1) < 2 ^ (15 + 1 - 10) := Nat.lt_succ_of_le (min_le_left _ _)
  rw [State.rf, recErr_later_errCode code info extra h, fld_setFld_eq _ _ (by decide), satAdd_one_eq_min, Nat.mod_eq_of_lt hfit]

/-- The fields of ERR_CODE below and above COUNT keep the first error. -/
theorem recErr_later_kept (code info extra : Nat) {p hi lo : Nat} {s : State} (h : 0 < s.rf (Reg.errCode p) 15 10) (h32 : hi < 32)
    (hout : hi < 10 ∨ 15 < lo) : (recErr p code info extra s).rf (Reg.errCode p) hi lo = s.rf (Reg.errCode p) hi lo := by
  rw [State.rf, recErr_later_errCode code info extra h, fld_setFld_ne _ _ h32 hout, State.rf]

/-! ## The clear -/

theorem hold_of_reaches {s : State} {ag : Agent} {a : Nat} (h : s.reaches ag a) (w : Word) (f : State → State) : hold ag a w f s = f s := by
  obtain ⟨hheld, -⟩ := h
  simp only [hold, hheld, Bool.false_and, Bool.false_eq_true, if_false]

/-- A write that reaches its page passes the checks 1 and 2 of R139. -/
theorem secureGuard_of_reaches {s : State} {ag : Agent} {a : Nat} (h : s.reaches ag a) (eff : State → State) :
    secureGuard ag a eff s = eff s := by
  obtain ⟨-, hhost, hup, hsec⟩ := h
  have hin : (ag == .host && !s.hostUp) = false := by cases ag <;> simp_all
  have hready : (ag == .host && !s.isReady) = false := by cases ag <;> simp_all
  simp only [secureGuard, availGuard, hin, hready, hup, hsec, Bool.not_true, Bool.false_and, Bool.false_eq_true, if_false]

/-- The state in which CLR leaves page `p`: ERR_CODE and ERR_INFO hold no error. -/
def errCleared (p : Nat) (s : State) : State := setReg (Reg.errInfo p) 0 (setReg (Reg.errCode p) 0 s)

theorem exec_errCodeClr_eq (ag : Agent) (p : PageIx) (s : State) :
    exec (.errCodeClr ag p) s = .next (errCodeWrite ag p 0x100 s) := rfl

/-- A clear that reaches its page empties the report. -/
theorem exec_errCodeClr {s : State} {ag : Agent} {p : PageIx} (h : s.reaches ag (Reg.errCode p)) :
    exec (.errCodeClr ag p) s = .next (errCleared p s) := by
  rw [exec_errCodeClr_eq, errCodeWrite, hold_of_reaches h, secureGuard_of_reaches h, if_pos (by decide), errCleared]

theorem errCleared_errCode (p : Nat) (s : State) : (errCleared p s).reg (Reg.errCode p) = 0 := by
  rw [errCleared, setReg_reg_ne (by simp), setReg_reg_eq]

theorem errCleared_errInfo (p : Nat) (s : State) : (errCleared p s).reg (Reg.errInfo p) = 0 := setReg_reg_eq _ _ _

theorem errCleared_count (p : Nat) (s : State) : (errCleared p s).rf (Reg.errCode p) 15 10 = 0 := by
  rw [State.rf, errCleared_errCode]
  decide

/-- Settles O17: ERR_CODE with COUNT 0 takes the error whole, with COUNT above 0 it counts alone, and CLR leaves COUNT 0. -/
theorem errorReporting : Obligations.ErrorReporting := by
  refine ⟨fun s p code info extra _ hc hi he h => ?_, fun s p code info extra _ h => ?_, fun s ag p code info extra hr hc hi he => ?_⟩
  · have hword := recErr_first_errCode he code info h
    exact ⟨by rw [State.rf, hword, firstErrWord_code hc], by rw [State.rf, hword, firstErrWord_detail hc],
      by rw [State.rf, hword, firstErrWord_count hc], recErr_first_errInfo hi code extra h, recErr_irqRaw _ _ _ _ s,
      recErr_sameRegs _ _ _ _ s⟩
  · exact ⟨recErr_later_count _ _ _ h, recErr_later_kept _ _ _ h (by decide) (.inl (by decide)),
      recErr_later_kept _ _ _ h (by decide) (.inr (by decide)), recErr_later_errInfo _ _ _ h, recErr_irqRaw _ _ _ _ s⟩
  · have hzero := errCleared_count p s
    have hword := recErr_first_errCode he code info hzero
    exact ⟨errCleared p s, exec_errCodeClr hr, errCleared_errCode p s, errCleared_errInfo p s,
      by rw [State.rf, hword, firstErrWord_code hc], by rw [State.rf, hword, firstErrWord_count hc],
      recErr_first_errInfo hi code extra hzero⟩

end Sys2Proof.Proofs
end

section
/-! PROOFS. SWAP_CANCEL of a player with no swap pending (R304): the write stores HOLD as it stands, so every register reads as before;
the state is the same one when its register file is in the canonical form, and need not be when it is not. -/

namespace Sys2Proof.Proofs

open Sys2Proof.Machine Sys2Proof.Laws

/-! ## A register written back as it reads -/

theorem setBit_bit_self (w : Word) (k : Nat) : setBit w k (bit w k) = w := by
  apply BitVec.eq_of_getLsbD_eq
  intro j hj
  change bit (setBit w k (bit w k)) j = bit w j
  by_cases h : j = k
  · rw [h, bit_setBit_eq _ _ (h ▸ hj)]
  · exact bit_setBit_ne _ _ hj h

theorem setRb_rb_self (a k : Nat) (s : State) : setRb a k (s.rb a k) s = setReg a (s.reg a) s := by
  rw [setRb, State.rb, setBit_bit_self]

/-- No register reads otherwise, whatever becomes of the entries that hold them. -/
theorem setReg_self_reg (a x : Nat) (s : State) : (setReg a (s.reg a) s).reg x = s.reg x := by
  by_cases h : x = a
  · rw [h, setReg_reg_eq]
  · exact setReg_reg_ne h _ s

theorem setReg_self_swapReady (a k : Nat) (s : State) : (setReg a (s.reg a) s).swapReady k = s.swapReady k := by
  simp only [State.swapReady, State.quiesced, State.rf, State.rb, setReg_self_reg]

theorem sparse_get_of_lt {V : Type} (d : Nat → V) {l : List (Nat × V)} {k : Nat} (h : ∀ p ∈ l, k < p.1) : Sparse.get d l k = d k := by
  induction l with
  | nil => rfl
  | cons p t ih =>
    rw [Sparse.get, if_neg (h p List.mem_cons_self).ne', ih fun q hq => h q (List.mem_cons_of_mem p hq)]

theorem sparse_erase_of_lt {V : Type} {l : List (Nat × V)} {k : Nat} (h : ∀ p ∈ l, k < p.1) : Sparse.erase k l = l :=
  List.filter_eq_self.mpr fun p hp => decide_eq_true (h p hp).ne'

theorem sparse_erase_cons_ne {V : Type} {p : Nat × V} {k : Nat} (h : p.1 ≠ k) (t : List (Nat × V)) :
    Sparse.erase k (p :: t) = p :: Sparse.erase k t := by simp [Sparse.erase, h]

/-- A canonical map is left as it is by the write of a value that it holds. -/
theorem sparse_put_get_self {V : Type} [DecidableEq V] (d : Nat → V) {l : List (Nat × V)} (k : Nat) (h : Sparse.wf d l = true) :
    Sparse.put d l k (Sparse.get d l k) = l := by
  induction l with
  | nil => simp [Sparse.put, Sparse.get, Sparse.erase]
  | cons p t ih =>
    obtain ⟨hrise, hval⟩ := Bool.and_eq_true_iff.mp h
    obtain ⟨hlt, hrest⟩ := rising_cons.mp hrise
    obtain ⟨hp, hvals⟩ := Bool.and_eq_true_iff.mp hval
    have ht := ih (Bool.and_eq_true_iff.mpr ⟨hrest, hvals⟩)
    rcases Nat.lt_trichotomy k p.1 with hk | rfl | hk
    · have hall : ∀ q ∈ p :: t, k < q.1 := List.forall_mem_cons.mpr ⟨hk, fun q hq => hk.trans (hlt q hq)⟩
      rw [Sparse.put, if_pos (sparse_get_of_lt d hall), sparse_erase_of_lt hall]
    · rw [Sparse.put, Sparse.get, if_pos rfl, if_neg (of_decide_eq_true hp), Sparse.insert, if_neg (lt_irrefl _), if_pos rfl]
    · rw [Sparse.get, if_neg hk.ne]
      rw [Sparse.put] at ht ⊢
      split
      · next heq =>
        rw [if_pos heq] at ht
        rw [sparse_erase_cons_ne hk.ne, ht]
      · next hne =>
        rw [if_neg hne] at ht
        rw [Sparse.insert, if_neg hk.not_gt, if_neg hk.ne', ht]

theorem setReg_self_of_wf (a : Nat) {s : State} (h : s.wf = true) : setReg a (s.reg a) s = s := by
  simp only [State.wf, Bool.and_eq_true] at h
  obtain ⟨⟨hregs, -⟩, -⟩ := h
  rw [setReg, State.reg, sparse_put_get_self regReset a hregs]

/-! ## SWAP_CANCEL -/

/-- The word that SWAP_CANCEL writes to PLk_CTRL when HOLD stands at `on`. -/
def cancelWord (on : Bool) : Word := wd (8 + on.toNat)

/-- Of the bits of PLk_CTRL, SWAP_CANCEL alone is set, and HOLD as it stands. -/
theorem cancelWord_bits (on : Bool) : bit (cancelWord on) 0 = on ∧ bit (cancelWord on) 1 = false ∧ bit (cancelWord on) 2 = false ∧
    bit (cancelWord on) 3 = true ∧ bit (cancelWord on) 4 = false ∧ bit (cancelWord on) 5 = false := by
  cases on <;> decide

theorem playerCancel_of_not_pending {k : Nat} {s : State} (h : s.rf (Reg.lspPlStatus k) 19 16 ≠ 5) : playerCancel k s = s := if_neg h

theorem plCtrlEffect_cancel_of_not_pending {k : Nat} {s : State} (h : s.rf (Reg.lspPlStatus k) 19 16 ≠ 5) :
    plCtrlEffect k (cancelWord (s.rb (Reg.lspPlCtrl k) 0)) s = setReg (Reg.lspPlCtrl k) (s.reg (Reg.lspPlCtrl k)) s := by
  obtain ⟨hold, verify, swap, cancel, stop, start⟩ := cancelWord_bits (s.rb (Reg.lspPlCtrl k) 0)
  simp only [plCtrlEffect, hold, verify, swap, cancel, stop, start, sif, if_true, Bool.false_eq_true, if_false,
    playerCancel_of_not_pending h, setRb_rb_self, setReg_self_swapReady, and_self]

theorem exec_swapCancel_eq (ag : Agent) (k : PlayerIx) (s : State) :
    exec (.swapCancel ag k) s = .next (plCtrlWrite ag k (cancelWord (s.rb (Reg.lspPlCtrl k) 0)) s) := rfl

/-- A write of PLk_CTRL that the register takes from the player's holder has its effect (R288). -/
theorem plCtrlWrite_of_takes {s : State} {ag : Agent} {k : Nat} (h : s.takes ag (Reg.lspPlCtrl k)) (hheld : s.holds ag (0x18 + k) = true)
    (w : Word) : plCtrlWrite ag k w s = plCtrlEffect k w s := by
  rw [plCtrlWrite, plGuard, guarded_of_takes h, if_pos hheld]

/-- With no swap pending a cancel writes PLk_CTRL back as it reads. -/
theorem exec_swapCancel_of_not_pending {s : State} {ag : Agent} {k : PlayerIx} (h : s.takes ag (Reg.lspPlCtrl k))
    (hheld : s.holds ag (0x18 + k) = true) (hst : s.rf (Reg.lspPlStatus k) 19 16 ≠ 5) :
    exec (.swapCancel ag k) s = .next (setReg (Reg.lspPlCtrl k) (s.reg (Reg.lspPlCtrl k)) s) := by
  rw [exec_swapCancel_eq, plCtrlWrite_of_takes h hheld, plCtrlEffect_cancel_of_not_pending hst]

/-- The last clause of SwapRequests as it holds: of the sound states, which the clause does not ask for. -/
theorem exec_swapCancel_of_wf {s : State} {ag : Agent} {k : PlayerIx} (hwf : s.wf = true) (h : s.takes ag (Reg.lspPlCtrl k))
    (hheld : s.holds ag (0x18 + k) = true) (hst : s.rf (Reg.lspPlStatus k) 19 16 ≠ 5) : exec (.swapCancel ag k) s = .next s := by
  rw [exec_swapCancel_of_not_pending h hheld hst, setReg_self_of_wf _ hwf]

/-! ## The counterexample -/

/-- The reset state but for player 0, which is Hollyhock's, and an entry for PL0_CTRL that says what the register reads without one: not
the canonical form. -/
def needlessEntry : State := { State.reset with regs := [(Reg.sysResClaim 0x18, 0x2000), (Reg.lspPlCtrl 0, 0)] }

theorem needlessEntry_takes : needlessEntry.takes .hollyhock (Reg.lspPlCtrl (0 : PlayerIx)) := by decide +kernel

theorem needlessEntry_holds : needlessEntry.holds .hollyhock (0x18 + (0 : PlayerIx)) = true := by decide +kernel

theorem needlessEntry_not_pending : needlessEntry.rf (Reg.lspPlStatus (0 : PlayerIx)) 19 16 ≠ 5 := by decide +kernel

theorem needlessEntry_rewritten_ne :
    setReg (Reg.lspPlCtrl (0 : PlayerIx)) (needlessEntry.reg (Reg.lspPlCtrl (0 : PlayerIx))) needlessEntry ≠ needlessEntry := by
  intro h
  exact absurd (congrArg (fun t => t.regs.length) h) (by decide +kernel)

/-- Refutes O44: its last clause has a cancel with no swap pending answer the very state it was given, and of a register file not in
the canonical form the write of PLk_CTRL drops a needless entry. Of a sound state the clause holds (`exec_swapCancel_of_wf`). -/
theorem not_swapRequests : ¬ Obligations.SwapRequests := by
  rintro ⟨-, -, -, -, hcancel⟩
  have hself := hcancel needlessEntry .hollyhock 0 needlessEntry_takes needlessEntry_holds needlessEntry_not_pending
  have hback := exec_swapCancel_of_not_pending needlessEntry_takes needlessEntry_holds needlessEntry_not_pending
  exact needlessEntry_rewritten_ne (Host.Outcome.next.inj (hback.symm.trans hself))

end Sys2Proof.Proofs
end

section
/-! PROOFS. Every update of the state leaves the queue of waiting commands and keeps the canonical form: one rule per operation of the
model, in the model's order, each put together from the rules of the operations that it calls; so a step takes one command and keeps the
representation sound. -/

namespace Sys2Proof.Proofs
open Sys2Proof Sys2Proof.Machine Sys2Proof.Laws

/-- The queue of waiting commands is `l` and, where `W` asks for it, the representation is sound. -/
structure Sound (l : List Instr) (W : Prop) (s : State) : Prop where
  pending : s.pending = l
  wf : W → s.wf = true

variable {l : List Instr} {W : Prop}

/-- The state that a command answers is as `Sound` asks. -/
def SoundNext (l : List Instr) (W : Prop) : Host.Outcome State Fault Refusal → Prop
  | .next s => Sound l W s
  | _ => True

theorem Sound.parts {s t : State} (h : Sound l W s) (hp : t.pending = s.pending) (hr : t.regs = s.regs) (hs : t.shadow = s.shadow)
    (hm : t.mem = s.mem) : Sound l W t :=
  ⟨hp.trans h.pending, fun hw => wf_of_parts hr hs hm (h.wf hw)⟩

theorem Sound.ite {c : Prop} [Decidable c] {s t : State} (hs : Sound l W s) (ht : Sound l W t) : Sound l W (if c then s else t) := by
  split <;> assumption

theorem Sound.ite_app {c : Prop} [Decidable c] {f g : State → State} {s : State} (hf : Sound l W (f s)) (hg : Sound l W (g s)) :
    Sound l W ((if c then f else g) s) := by
  split <;> assumption

theorem Sound.ite_snd {α : Type} {c : Prop} [Decidable c] {p q : α × State} (hp : Sound l W p.2) (hq : Sound l W q.2) :
    Sound l W (if c then p else q).2 := by
  split <;> assumption

theorem Sound.pair {α : Type} {x : α} {s : State} (h : Sound l W s) : Sound l W (x, s).2 := h

theorem Sound.out {xs : List Byte} {n used : Nat} {query : Bool} {s : State} (h : Sound l W s) :
    Sound l W (ApduOut.mk xs n query used s).next := h

theorem Sound.ite_fst {α : Type} {c : Prop} [Decidable c] {p q : State × α} (hp : Sound l W p.1) (hq : Sound l W q.1) :
    Sound l W (if c then p else q).1 := by
  split <;> assumption

theorem Sound.ite_next {c : Prop} [Decidable c] {p q : ApduOut} (hp : Sound l W p.next) (hq : Sound l W q.next) :
    Sound l W (if c then p else q).next := by
  split <;> assumption

theorem Sound.dite {c : Prop} [Decidable c] {s : c → State} {t : ¬ c → State} (hs : ∀ h, Sound l W (s h)) (ht : ∀ h, Sound l W (t h)) :
    Sound l W (if h : c then s h else t h) := by
  split
  · exact hs _
  · exact ht _

theorem Sound.foldl {α : Type} {f : State → α → State} {s : State} (h : Sound l W s) (hf : ∀ s a, Sound l W s → Sound l W (f s a))
    {xs : List α} : Sound l W (xs.foldl f s) := by
  induction xs generalizing s with
  | nil => exact h
  | cons x xs ih => exact ih (hf s x h)

theorem Sound.forEach {xs : List Nat} {f : Nat → State → State} {s : State} (h : Sound l W s)
    (hf : ∀ k s, Sound l W s → Sound l W (f k s)) : Sound l W (forEach xs f s) := h.foldl fun s k => hf k s

theorem Sound.sif {c : Bool} {f : State → State} {s : State} (h : Sound l W s) (hf : ∀ s, Sound l W s → Sound l W (f s)) :
    Sound l W (sif c f s) := by
  unfold Machine.sif; exact .ite (hf s h) h

theorem Sound.setReg {a : Nat} {w : Word} {s : State} (h : Sound l W s) : Sound l W (setReg a w s) :=
  ⟨h.pending, fun hw => setReg_wf a w (h.wf hw)⟩

theorem Sound.setShade {a : Nat} {w : Word} {s : State} (h : Sound l W s) : Sound l W (setShade a w s) :=
  ⟨h.pending, fun hw => setShade_wf a w (h.wf hw)⟩

theorem Sound.setByte {a : Nat} {b : Byte} {s : State} (h : Sound l W s) : Sound l W (setByte a b s) :=
  ⟨h.pending, fun hw => setByte_wf a b (h.wf hw)⟩

theorem Sound.setBytes {a : Nat} {xs : List Byte} {s : State} (h : Sound l W s) : Sound l W (setBytes a xs s) := by
  induction xs generalizing a s with
  | nil => exact h
  | cons x xs ih => exact ih h.setByte

theorem rising_filter {V : Type} [DecidableEq V] {f : Nat × V → Bool} {xs : List (Nat × V)} (h : Sparse.rising xs = true) :
    Sparse.rising (xs.filter f) = true := by
  induction xs with
  | nil => rfl
  | cons p t ih =>
    obtain ⟨hlt, ht⟩ := rising_cons.mp h
    rw [List.filter_cons]
    split
    · exact rising_cons.mpr ⟨fun q hq => hlt q (List.mem_of_mem_filter hq), ih ht⟩
    · exact ih ht

/-- A map from which entries are taken stays in the canonical form. -/
theorem sparse_wf_filter {V : Type} [DecidableEq V] {d : Nat → V} {f : Nat × V → Bool} {xs : List (Nat × V)}
    (h : Sparse.wf d xs = true) : Sparse.wf d (xs.filter f) = true := by
  obtain ⟨hrise, hval⟩ := Bool.and_eq_true_iff.mp h
  refine Bool.and_eq_true_iff.mpr ⟨rising_filter hrise, List.all_eq_true.mpr fun p hp => ?_⟩
  exact List.all_eq_true.mp hval p (List.mem_of_mem_filter hp)

/-- The canonical form, map by map. -/
theorem wf_iff {s : State} :
    s.wf = true ↔ Sparse.wf regReset s.regs = true ∧ Sparse.wf regReset s.shadow = true ∧ Sparse.wf memDefault s.mem = true := by
  simp only [State.wf, Bool.and_eq_true, and_assoc]

/-- Registers that are forgotten read their Reset values, which the canonical form does not hold. -/
theorem Sound.filterRegs {f : Nat × Word → Bool} {s : State} (h : Sound l W s) :
    Sound l W { s with regs := s.regs.filter f, shadow := s.shadow.filter f } := by
  refine ⟨h.pending, fun hw => ?_⟩
  obtain ⟨hregs, hshadow, hmem⟩ := wf_iff.mp (h.wf hw)
  exact wf_iff.mpr ⟨sparse_wf_filter hregs, sparse_wf_filter hshadow, hmem⟩

theorem Sound.giveWord {r : Word × State} (h : Sound l W r.2) : Sound l W (giveWord r) :=
  h.parts rfl rfl rfl rfl

theorem Sound.setRf {a x1 lo v : Nat} {s : State} (h : Sound l W s) : Sound l W (setRf a x1 lo v s) :=
  h.setReg

theorem Sound.setRb {a k : Nat} {b : Bool} {s : State} (h : Sound l W s) : Sound l W (setRb a k b s) :=
  h.setReg

theorem Sound.addRf {a x1 lo n : Nat} {s : State} (h : Sound l W s) : Sound l W (addRf a x1 lo n s) :=
  h.setRf

theorem Sound.wrapRf {a x1 lo n : Nat} {s : State} (h : Sound l W s) : Sound l W (wrapRf a x1 lo n s) :=
  h.setRf

theorem Sound.setPair {a v : Nat} {s : State} (h : Sound l W s) : Sound l W (setPair a v s) :=
  h.setReg.setReg

theorem Sound.setCoil {n : Nat} {c : Coil} {s : State} (h : Sound l W s) : Sound l W (setCoil n c s) :=
  h.parts rfl rfl rfl rfl

theorem Sound.modCoil {n : Nat} {f : Coil → Coil} {s : State} (h : Sound l W s) : Sound l W (modCoil n f s) :=
  h.setCoil

theorem Sound.setEng {n : Nat} {e : Eng} {s : State} (h : Sound l W s) : Sound l W (setEng n e s) :=
  h.parts rfl rfl rfl rfl

theorem Sound.modEng {n : Nat} {f : Eng → Eng} {s : State} (h : Sound l W s) : Sound l W (modEng n f s) :=
  h.setEng

theorem Sound.setPlayer {k : Nat} {p : Player} {s : State} (h : Sound l W s) : Sound l W (setPlayer k p s) :=
  h.parts rfl rfl rfl rfl

theorem Sound.modPlayer {k : Nat} {f : Player → Player} {s : State} (h : Sound l W s) : Sound l W (modPlayer k f s) :=
  h.setPlayer

theorem Sound.modSess {f : SessSt → SessSt} {s : State} (h : Sound l W s) : Sound l W (modSess f s) :=
  h.parts rfl rfl rfl rfl

theorem Sound.setMem {n a v : Nat} {s : State} (h : Sound l W s) : Sound l W (setMem n a v s) :=
  h.setBytes

theorem Sound.setCtx {k o v : Nat} {s : State} (h : Sound l W s) : Sound l W (setCtx k o v s) :=
  h.setByte

theorem Sound.setCtx16 {k o v : Nat} {s : State} (h : Sound l W s) : Sound l W (setCtx16 k o v s) :=
  h.setMem

theorem Sound.setCtx32 {k o v : Nat} {s : State} (h : Sound l W s) : Sound l W (setCtx32 k o v s) :=
  h.setMem

theorem Sound.incCtx16 {k o : Nat} {s : State} (h : Sound l W s) : Sound l W (incCtx16 k o s) :=
  h.setCtx16

theorem Sound.incCtx32 {k o : Nat} {s : State} (h : Sound l W s) : Sound l W (incCtx32 k o s) :=
  h.setCtx32

theorem Sound.nextFree {s : State} (h : Sound l W s) : Sound l W (nextFree s) :=
  h.parts rfl rfl rfl rfl

theorem Sound.wakeSource {k : Nat} {s : State} (h : Sound l W s) : Sound l W (wakeSource k s) :=
  Sound.ite (h.parts rfl rfl rfl rfl) h

theorem Sound.advance {t : Nat} {s : State} (h : Sound l W s) : Sound l W (advance t s) :=
  h.parts rfl rfl rfl rfl

theorem Sound.modQueue {f : QueueSt → QueueSt} {s : State} (h : Sound l W s) : Sound l W (modQueue f s) :=
  h.parts rfl rfl rfl rfl

theorem Sound.modBoot {f : BootSt → BootSt} {s : State} (h : Sound l W s) : Sound l W (modBoot f s) :=
  h.parts rfl rfl rfl rfl

theorem Sound.modTime {f : TimeSt → TimeSt} {s : State} (h : Sound l W s) : Sound l W (modTime f s) :=
  h.parts rfl rfl rfl rfl

theorem Sound.modFab {f : FabricSt → FabricSt} {s : State} (h : Sound l W s) : Sound l W (modFab f s) :=
  h.parts rfl rfl rfl rfl

theorem Sound.irq {p k : Nat} {s : State} (h : Sound l W s) : Sound l W (irq p k s) :=
  Sound.ite h.setRb.setRb h.setRb

theorem Sound.irqLevel {p k : Nat} {b : Bool} {s : State} (h : Sound l W s) : Sound l W (irqLevel p k b s) :=
  Sound.ite h.setRb.setRb h.setRb

theorem Sound.readSensor {k : Nat} {v : ℤ} {x2 : State} (h : Sound l W x2) : Sound l W (readSensor k v x2) :=
  h.parts rfl rfl rfl rfl

theorem Sound.faultIn {same : Bool} {cls p code : Nat} {s : State} (h : Sound l W s) : Sound l W (faultIn same cls p code s) :=
  (h.sif (fun _ h' => h'.setRb.irq)).sif (fun _ h' => h'.setReg.setPair)

theorem Sound.fault {cls p code : Nat} {s : State} (h : Sound l W s) : Sound l W (fault cls p code s) :=
  h.faultIn

theorem Sound.faultOpt {cls : Option Nat} {p code : Nat} {s : State} (h : Sound l W s) : Sound l W (faultOpt cls p code s) := by
  unfold Machine.faultOpt
  split
  · exact h.fault
  · exact h

theorem Sound.detailUsed {d : Nat} {s : State} (h : Sound l W s) : Sound l W (detailUsed d s) :=
  Sound.ite h.nextFree h

theorem Sound.noteFirst {p code info extra : Nat} {s : State} (h : Sound l W s) : Sound l W (noteFirst p code info extra s) :=
  h.detailUsed.setReg.setReg.detailUsed

theorem Sound.recErrAs {cls : Option Nat} {p code info extra : Nat} {s : State} (h : Sound l W s) : Sound l W (recErrAs cls p code info
    extra s) :=
  Sound.faultOpt (Sound.irq (Sound.ite h.noteFirst h.addRf))

theorem Sound.recErr {p code info extra : Nat} {s : State} (h : Sound l W s) : Sound l W (recErr p code info extra s) :=
  h.recErrAs

theorem Sound.refusalErr {p code info extra : Nat} {s : State} (h : Sound l W s) : Sound l W (refusalErr p code info extra s) := by
  unfold Machine.refusalErr
  split
  · exact h.recErrAs.faultIn
  · exact h.recErrAs

theorem Sound.recLate {p target actual : Nat} {s : State} (h : Sound l W s) : Sound l W (recLate p target actual s) :=
  h.recErr

theorem Sound.dropLapsed {s : State} (h : Sound l W s) : Sound l W (dropLapsed s) :=
  h.modFab

theorem Sound.publish {p t : Nat} {s : State} (h : Sound l W s) : Sound l W (publish p t s) :=
  h.dropLapsed.modFab

theorem Sound.publishOn {p chan t : Nat} {s : State} (h : Sound l W s) : Sound l W (publishOn p chan t s) :=
  h.modFab

theorem Sound.pageWork {p : Nat} {f : State → State} {s : State} (h : Sound l W s) (hf : ∀ y0, Sound l W y0 → Sound l W (f y0)) : Sound
    l W (pageWork p f s) :=
  Sound.ite (hf _ h) h.refusalErr

theorem Sound.holdLatch {s : State} (h : Sound l W s) : Sound l W (holdLatch s) :=
  Sound.ite h.modQueue.setRb.irq.addRf (Sound.ite h.modQueue h)

theorem Sound.attnLatch {s : State} (h : Sound l W s) : Sound l W (attnLatch s) :=
  Sound.ite h.modQueue.setRb.irq.addRf (Sound.ite h.modQueue h)

theorem Sound.holdPin {s : State} (h : Sound l W s) : Sound l W (holdPin s) :=
  Sound.ite h.modQueue.publish h.modQueue

theorem Sound.attnPin {s : State} (h : Sound l W s) : Sound l W (attnPin s) :=
  Sound.ite h.modQueue.irqLevel.publish h.modQueue.irqLevel

theorem Sound.settle {s : State} (h : Sound l W s) : Sound l W (settle s) :=
  h.modQueue.holdLatch.attnLatch.holdPin.attnPin.irqLevel

theorem Sound.cellMark {c edge : Nat} {x2 : State} (h : Sound l W x2) : Sound l W (cellMark c edge x2) :=
  h.modFab

theorem Sound.cellClaimed {c : Nat} {s : State} (h : Sound l W s) : Sound l W (cellClaimed c s) :=
  h.setRb.cellMark

theorem Sound.claimRes {i claimant x2 detail : Nat} {s : State} (h : Sound l W s) : Sound l W (claimRes i claimant x2 detail s) :=
  h.setReg.sif (fun _ h' => h'.cellClaimed)

theorem Sound.gpRelease {g : Nat} {s : State} (h : Sound l W s) : Sound l W (gpRelease g s) :=
  h.setRf.setShade.modFab

theorem Sound.releaseRes {i : Nat} {s : State} (h : Sound l W s) : Sound l W (releaseRes i s) :=
  h.setReg.sif (fun _ h' => h'.gpRelease)

theorem Sound.releaseAll {p : Nat → Nat → Bool} {s : State} (h : Sound l W s) : Sound l W (releaseAll p s) :=
  h.forEach (fun _ _ h' => (Sound.ite h'.releaseRes h'))

theorem Sound.setSessState {k v : Nat} {s : State} (h : Sound l W s) : Sound l W (setSessState k v s) :=
  h.setCtx

theorem Sound.useCount {s : State} (h : Sound l W s) : Sound l W (useCount s) :=
  h.setRf.setRf

theorem Sound.engineClaims {s : State} (h : Sound l W s) : Sound l W (engineClaims s) :=
  h.forEach (fun _ _ h' => (by split; exacts [h'.claimRes, h']))

theorem Sound.framesArea {k : Nat} {s : State} (h : Sound l W s) : Sound l W (framesArea k s) :=
  h.setBytes.parts rfl rfl rfl rfl

theorem Sound.freeBlocks {k : Nat} {s : State} (h : Sound l W s) : Sound l W (freeBlocks k s) :=
  Sound.ite h h.modSess.framesArea

theorem Sound.countResult {i : Item} {src : Nat} {s : State} (h : Sound l W s) : Sound l W (countResult i src s) := by
  unfold Machine.countResult
  split
  · exact h
  · exact (Sound.ite h (Sound.ite h.incCtx16 h.incCtx16))

theorem Sound.closeSlot {x0 : Nat} {s : State} (h : Sound l W s) : Sound l W (closeSlot x0 s) :=
  h.modSess.releaseAll.setSessState.useCount.engineClaims

theorem Sound.postedEnds {i : Item} {t : Nat} {s : State} (h : Sound l W s) : Sound l W (postedEnds i t s) :=
  Sound.ite h.modQueue.setRb.irq.publish (Sound.ite h.closeSlot h)

theorem Sound.putResult {i : Item} {src slot t : Nat} {s : State} (h : Sound l W s) : Sound l W (putResult i src slot t s) :=
  h.modQueue.countResult.freeBlocks.publish.faultOpt.postedEnds.settle

theorem Sound.postResult {i : Item} {src slot : Nat} {s : State} (h : Sound l W s) : Sound l W (postResult i src slot s) :=
  Sound.ite h.putResult h.modQueue

theorem Sound.refuseFor {slot : Nat} {c : Item} {err d4 d5 : Nat} {s : State} (h : Sound l W s) : Sound l W (refuseFor slot c err d4 d5
    s) :=
  h.postResult

theorem Sound.refuse {x0 : Item} {x1 x2 x3 : Nat} {x4 : State} (h : Sound l W x4) : Sound l W (refuse x0 x1 x2 x3 x4) :=
  h.refuseFor

theorem Sound.postUnsolicited {i : Item} {src slot : Nat} {s : State} (h : Sound l W s) : Sound l W (postUnsolicited i src slot s) :=
  h.modQueue.postResult

theorem Sound.putEvent {i : Item} {s : State} (h : Sound l W s) : Sound l W (putEvent i s) :=
  h.modQueue

theorem Sound.offerEvent {i : Item} {s : State} (h : Sound l W s) : Sound l W (offerEvent i s) :=
  Sound.ite (Sound.settle (Sound.putEvent (Sound.ite h h.putEvent.modQueue.fault))) h.modQueue.addRf.setRb.irq.fault

theorem Sound.availGuard {ag : Agent} {a : Nat} {eff : State → State} {s : State} (h : Sound l W s) (heff : ∀ y0, Sound l W y0 → Sound
    l W (eff y0)) : Sound l W (availGuard ag a eff s) :=
  Sound.ite h (Sound.ite h.refusalErr (Sound.ite h.refusalErr (heff _ h)))

theorem Sound.secureGuard {ag : Agent} {a : Nat} {eff : State → State} {s : State} (h : Sound l W s) (heff : ∀ y0, Sound l W y0 → Sound
    l W (eff y0)) : Sound l W (secureGuard ag a eff s) :=
  h.availGuard (fun _ h' => (Sound.ite h'.refusalErr (heff _ h')))

theorem Sound.guardedFor {m : Word} {own : Bool} {ag : Agent} {a : Nat} {eff : State → State} {s : State} (h : Sound l W s) (heff : ∀
    y0, Sound l W y0 → Sound l W (eff y0)) : Sound l W (guardedFor m own ag a eff s) :=
  h.secureGuard (fun _ h' => (Sound.ite h'.refusalErr (Sound.ite h'.refusalErr (Sound.ite h'.refusalErr (heff _ h')))))

theorem Sound.guardedBy {own : Bool} {x1 : Agent} {x2 : Nat} {x3 : State → State} {x4 : State} (h : Sound l W x4) (ha : ∀ y0, Sound l W
    y0 → Sound l W (x3 y0)) : Sound l W (guardedBy own x1 x2 x3 x4) :=
  h.guardedFor ha

theorem Sound.guarded {ag : Agent} {a : Nat} {eff : State → State} {s : State} (h : Sound l W s) (heff : ∀ y0, Sound l W y0 → Sound l W
    (eff y0)) : Sound l W (guarded ag a eff s) :=
  h.guardedBy heff

theorem Sound.latchPair {ag : Agent} {a : Nat} {x2 : Word} {s : State} (h : Sound l W s) : Sound l W (latchPair ag a x2 s) :=
  h.modTime

theorem Sound.unlatch {ag : Agent} {a : Nat} {s : State} (h : Sound l W s) : Sound l W (unlatch ag a s) :=
  h.modTime

theorem Sound.holdLo {a : Nat} {w : Word} {s : State} (h : Sound l W s) : Sound l W (holdLo a w s) :=
  h.modTime

theorem Sound.dropLo {a : Nat} {s : State} (h : Sound l W s) : Sound l W (dropLo a s) :=
  h.modTime

theorem Sound.windowWrite {a : Nat} {eff : State → State} {s : State} (h : Sound l W s) (heff : ∀ y0, Sound l W y0 → Sound l W (eff
    y0)) : Sound l W (windowWrite a eff s) :=
  Sound.ite h (Sound.ite h.refusalErr (heff _ h))

theorem Sound.dropApplied {a : Nat} {s : State} (h : Sound l W s) : Sound l W (dropApplied a s) :=
  h.parts rfl rfl rfl rfl

theorem Sound.storeWith {a : Nat} {w : Word} {inUse : Word → State → State} {s : State} (h : Sound l W s) (hinUse : ∀ y0 y1, Sound l W
    y1 → Sound l W (inUse y0 y1)) : Sound l W (storeWith a w inUse s) :=
  hinUse _ _ (Sound.ite (h.sif (fun _ h' => h'.dropApplied)).setShade h)

theorem Sound.storeReg {a : Nat} {w : Word} {x2 : State} (h : Sound l W x2) : Sound l W (storeReg a w x2) :=
  h.storeWith (fun _ _ h' => h'.setReg)

theorem Sound.dropStaged {p : Nat} {s : State} (h : Sound l W s) : Sound l W (dropStaged p s) :=
  h.forEach (fun _ _ h' => h'.dropApplied)

theorem Sound.pushHeld {ag : Agent} {a : Nat} {w : Word} {s : State} (h : Sound l W s) : Sound l W (pushHeld ag a w s) :=
  h.parts rfl rfl rfl rfl

theorem Sound.hold {ag : Agent} {a : Nat} {w : Word} {f : State → State} {s : State} (h : Sound l W s) (hf : ∀ y0, Sound l W y0 → Sound
    l W (f y0)) : Sound l W (hold ag a w f s) :=
  Sound.ite h.pushHeld (hf _ h)

theorem Sound.stagePlain {p : Nat} {only : Nat → Bool} {s : State} (h : Sound l W s) : Sound l W (stagePlain p only s) :=
  h.forEach (fun _ _ h' => (Sound.ite h' h'.setReg))

theorem Sound.stageReport {p : Nat} {s : State} (h : Sound l W s) : Sound l W (stageReport p s) :=
  h.setRb.irq

theorem Sound.coincide {i : Nat} {s : State} (h : Sound l W s) : Sound l W (coincide i s) :=
  h.setRb.addRf.irq

theorem Sound.taskOverrun {i chan : Nat} {s : State} (h : Sound l W s) : Sound l W (taskOverrun i chan s) :=
  h.setRb.addRf.irq.recErr

theorem Sound.takeTasks {xs : List Task} {s : State} (h : Sound l W s) : Sound l W (takeTasks xs s) :=
  h.modFab

theorem Sound.onTask {i : Nat} {busy : State → Bool} {act : Nat → State → State} {s : State} (h : Sound l W s) (hact : ∀ y0 y1, Sound l
    W y1 → Sound l W (act y0 y1)) : Sound l W (onTask i busy act s) := by
  unfold Machine.onTask
  split
  · exact h
  · exact (Sound.ite (h.takeTasks.sif (fun _ h' => h'.coincide)).addRf (Sound.ite (h.takeTasks.sif (fun _ h' =>
      h'.coincide)).taskOverrun (hact _ _ (h.takeTasks.sif (fun _ h' => h'.coincide)))))

theorem Sound.bySource {src : Source} {i : Nat} {busy : State → Bool} {onWrite : Agent → State → State} {act : Nat → State → State} {s
    : State} (h : Sound l W s) (honWrite : ∀ y0 y1, Sound l W y1 → Sound l W (onWrite y0 y1)) (hact : ∀ y0 y1, Sound l W y1 → Sound l W
    (act y0 y1)) : Sound l W (bySource src i busy onWrite act s) := by
  unfold Machine.bySource
  split
  · exact (honWrite _ _ h)
  · exact (h.onTask hact)

theorem Sound.heldRefresh {n : Nat} {s : State} (h : Sound l W s) : Sound l W (heldRefresh n s) :=
  h.setRf

theorem Sound.weighOuts {c : Nat} {s : State} (h : Sound l W s) : Sound l W (weighOuts c s) := by
  unfold Machine.weighOuts
  exact h.modCoil

theorem Sound.coilLeaves {n c : Nat} {s : State} (h : Sound l W s) : Sound l W (coilLeaves n c s) :=
  h.sif (fun _ h' => h'.modCoil)

theorem Sound.trimOuts {c : Nat} {s : State} (h : Sound l W s) : Sound l W (trimOuts c s) :=
  Sound.ite h h.modCoil

theorem Sound.floorMark {g : Nat} {s : State} (h : Sound l W s) : Sound l W (floorMark g s) :=
  Sound.ite (h.forEach (fun _ _ h' => (Sound.ite h'.modEng h'))) h

theorem Sound.govShow {g : Nat} {s : State} (h : Sound l W s) : Sound l W (govShow g s) :=
  h.setReg.setRf.irqLevel

theorem Sound.govReport {old g : Nat} {newly : List Nat} {s : State} (h : Sound l W s) : Sound l W (govReport old g newly s) :=
  Sound.ite (h.addRf.sif (fun _ h' => h'.addRf)).irq.recErr h

theorem Sound.govSet {g : Nat} {s : State} (h : Sound l W s) : Sound l W (govSet g s) :=
  Sound.ite (h.parts rfl rfl rfl rfl) (Sound.ite h (h.parts rfl rfl rfl rfl))

theorem Sound.limitEnd {s : State} (h : Sound l W s) : Sound l W (limitEnd s) :=
  h.sif (fun _ h' => h'.irqLevel.setReg)

theorem Sound.headFollow {c : Nat} {s : State} (h : Sound l W s) : Sound l W (headFollow c s) :=
  h.setRb.irqLevel

theorem Sound.govern {r : State} (h : Sound l W r) : Sound l W (govern r) :=
  Sound.ite h (Sound.forEach (Sound.floorMark (Sound.govReport (Sound.govShow (Sound.parts (h.limitEnd.forEach (fun _ _ h' =>
      h'.modCoil)).govSet rfl rfl rfl rfl)))) (fun _ _ h' => h'.headFollow))

theorem Sound.govDefer {b : Bool} {s : State} (h : Sound l W s) : Sound l W (govDefer b s) :=
  h.parts rfl rfl rfl rfl

theorem Sound.governAt {b : Nat} {s : State} (h : Sound l W s) : Sound l W (governAt b s) :=
  h.modTime.govern.modTime

theorem Sound.passGov {t : Nat} {s : State} (h : Sound l W s) : Sound l W (passGov t s) :=
  Sound.advance (Sound.ite h (h.foldl (fun _ _ h' => h'.governAt)))

theorem Sound.chainReset {n e : Nat} {s : State} (h : Sound l W s) : Sound l W (chainReset n e s) :=
  h.modCoil.setRf.setReg

theorem Sound.chainStart {n e : Nat} {s : State} (h : Sound l W s) : Sound l W (chainStart n e s) :=
  h.modCoil.setRb.setRf.chainReset

theorem Sound.chainEdge {n t : Nat} {s : State} (h : Sound l W s) : Sound l W (chainEdge n t s) := by
  unfold Machine.chainEdge
  split
  · exact h
  · exact (Sound.ite h (Sound.ite h.chainStart h.modCoil.setRf.chainReset))

theorem Sound.chainsNow {s : State} (h : Sound l W s) : Sound l W (chainsNow s) :=
  h.forEach (fun _ _ h' => h'.chainEdge)

theorem Sound.passTo {t : Nat} {s : State} (h : Sound l W s) : Sound l W (passTo t s) :=
  h.passGov.chainsNow

theorem Sound.toCc {s : State} (h : Sound l W s) : Sound l W (toCc s) :=
  Sound.ite h.passTo h

theorem Sound.postBad {b : BadItem} {s : State} (h : Sound l W s) : Sound l W (postBad b s) :=
  h.postResult

theorem Sound.takeBad {b : BadItem} {s : State} (h : Sound l W s) : Sound l W (takeBad b s) :=
  Sound.ite h.modQueue.postBad h.modQueue

theorem Sound.startBad {b : BadItem} {s : State} (h : Sound l W s) : Sound l W (startBad b s) :=
  h.irq.takeBad

theorem Sound.pushCmd {w : Word} {s : State} (h : Sound l W s) : Sound l W (pushCmd w s) :=
  Sound.ite h.modQueue (by split; exacts [h.takeBad, (by split; exacts [(Sound.ite h.irq.recErrAs (Sound.ite h.startBad (Sound.ite
      h.startBad h.modQueue))), (Sound.ite h.startBad (Sound.ite h.modQueue h.modQueue))])])

theorem Sound.cmdPortWrite {w : Word} {s : State} (h : Sound l W s) : Sound l W (cmdPortWrite w s) :=
  Sound.ite h (Sound.ite h.setRb (Sound.ite h.pushCmd.settle h))

theorem Sound.execCmdPortWrite {w : Word} {s : State} (h : Sound l W s) : SoundNext l W (execCmdPortWrite w s) :=
  h.cmdPortWrite

theorem Sound.notePromoted {s : State} (h : Sound l W s) : Sound l W (notePromoted s) :=
  h.addRf.setRb

theorem Sound.popRes {s : State} (h : Sound l W s) : Sound l W (popRes s).2 := by
  unfold Machine.popRes
  split
  · exact h.modQueue.settle
  · exact (by split; exacts [h, (h.modQueue.sif (fun _ h' => h'.notePromoted)).settle])

theorem Sound.popEvt {s : State} (h : Sound l W s) : Sound l W (popEvt s).2 := by
  unfold Machine.popEvt
  split
  · exact h.modQueue.settle
  · exact (by split; exacts [h, h.modQueue.settle])

theorem Sound.giveOut {xs : List Word} {s : State} (h : Sound l W s) : Sound l W (giveOut xs s) :=
  h.parts rfl rfl rfl rfl

theorem Sound.execResPortRead {s : State} (h : Sound l W s) : SoundNext l W (execResPortRead s) :=
  Sound.ite h.popRes.giveOut h

theorem Sound.execEvtPortRead {s : State} (h : Sound l W s) : SoundNext l W (execEvtPortRead s) :=
  Sound.ite h.popEvt.giveOut h

theorem Sound.execResultHeldPost {t : Nat} {s : State} (h : Sound l W s) : SoundNext l W (execResultHeldPost t s) := by
  unfold Machine.execResultHeldPost
  dsimp only
  split
  · exact h
  · exact h.passTo.modQueue.putResult

theorem Sound.execStaleTimeout {s : State} (h : Sound l W s) : SoundNext l W (execStaleTimeout s) :=
  Sound.ite h.passTo.modQueue.setRb.settle h

theorem Sound.flush {w : Word} {s : State} (h : Sound l W s) : Sound l W (flush w s) :=
  h.modQueue.setRb.settle.postUnsolicited.settle

theorem Sound.queueFlush {ag : Agent} {w : Word} {x2 : State} (h : Sound l W x2) : Sound l W (queueFlush ag w x2) :=
  h.guarded (fun _ h' => (Sound.ite h'.refusalErr h'.flush))

theorem Sound.execQueueFlush {ag : Agent} {w : Word} {s : State} (h : Sound l W s) : SoundNext l W (execQueueFlush ag w s) :=
  h.queueFlush

theorem Sound.marksWrite {ag : Agent} {attn : Bool} {w : Word} {x3 : State} (h : Sound l W x3) : Sound l W (marksWrite ag attn w x3) :=
  h.guarded (fun _ h' => (Sound.ite h'.refusalErr h'.setReg.settle))

theorem Sound.execQueueMarksWrite {ag : Agent} {attn : Bool} {w : Word} {s : State} (h : Sound l W s) : SoundNext l W
    (execQueueMarksWrite ag attn w s) :=
  h.marksWrite

theorem Sound.queueCntClr {ag : Agent} {w : Word} {x2 : State} (h : Sound l W x2) : Sound l W (queueCntClr ag w x2) :=
  h.guarded (fun _ h' => ((h'.sif (fun _ h1 => h1.setReg)).sif (fun _ h1 => h1.setReg)))

theorem Sound.execQueueCntClr {ag : Agent} {w : Word} {s : State} (h : Sound l W s) : SoundNext l W (execQueueCntClr ag w s) :=
  h.queueCntClr

theorem Sound.hifCfgWrite {ag : Agent} {w : Word} {x2 : State} (h : Sound l W x2) : Sound l W (hifCfgWrite ag w x2) :=
  h.guarded (fun _ h' => (h'.setRf.sif (fun _ h1 => h1.setReg)))

theorem Sound.execHifCntClr {ag : Agent} {w : Word} {s : State} (h : Sound l W s) : SoundNext l W (execHifCntClr ag w s) :=
  h.hifCfgWrite

theorem Sound.popCmd {s : State} (h : Sound l W s) : Sound l W (popCmd s) :=
  h.modQueue.publish.settle

theorem Sound.dispatch {typ : Nat} {f : Item → State → State} {s : State} (h : Sound l W s) (hf : ∀ y0 y1, Sound l W y1 → Sound l W (f
    y0 y1)) : Sound l W (dispatch typ f s) := by
  unfold Machine.dispatch
  split
  · exact h
  · exact (hf _ _ h.popCmd)

theorem Sound.execMark {s : State} (h : Sound l W s) : SoundNext l W (execMark s) :=
  h.dispatch (fun _ _ h' => h'.postResult)

theorem Sound.busEnd {s : State} (h : Sound l W s) : Sound l W (busEnd s) :=
  h.parts rfl rfl rfl rfl

theorem Sound.execQspiStatus {s : State} (h : Sound l W s) : SoundNext l W (execQspiStatus s) :=
  Sound.ite h (Sound.ite h.busEnd.giveOut (h.busEnd.parts rfl rfl rfl rfl))

theorem Sound.execQspiUnknownCommand {c : Byte} {s : State} (h : Sound l W s) : SoundNext l W (execQspiUnknownCommand c s) :=
  Sound.ite h.busEnd.addRf h.busEnd

theorem Sound.execQcsNRisePartialWord {s : State} (h : Sound l W s) : SoundNext l W (execQcsNRisePartialWord s) :=
  Sound.ite h.busEnd.addRf h.busEnd

theorem Sound.snapRequest {i : Option Item} {x1 : State} (h : Sound l W x1) : Sound l W (snapRequest i x1) :=
  h.modTime

theorem Sound.ftbCmd {f : Item → State → State} {i : Item} {s : State} (h : Sound l W s) (hf : ∀ y0 y1, Sound l W y1 → Sound l W (f y0
    y1)) : Sound l W (ftbCmd f i s) :=
  Sound.ite (hf _ _ h) h.refuse

theorem Sound.ftbAct {f : State → State} {s : State} (h : Sound l W s) (hf : ∀ y0, Sound l W y0 → Sound l W (f y0)) : Sound l W (ftbAct
    f s) :=
  h.pageWork hf

theorem Sound.execSnap {s : State} (h : Sound l W s) : SoundNext l W (execSnap s) :=
  h.dispatch (fun _ _ h' => (h'.ftbCmd (fun _ _ h1 => h1.snapRequest)))

theorem Sound.snapGoWrite {ag : Agent} {x1 : State} (h : Sound l W x1) : Sound l W (snapGoWrite ag x1) :=
  h.hold (fun _ h' => (h'.guarded (fun _ h1 => (h1.ftbAct (fun _ h2 => h2.snapRequest)))))

theorem Sound.execSnapGo {src : Source} {s : State} (h : Sound l W s) : SoundNext l W (execSnapGo src s) :=
  h.bySource (fun _ _ h' => h'.snapGoWrite) (fun _ _ h' => h'.snapRequest)

theorem Sound.snapCopy {from_ to_ : Nat} {s : State} (h : Sound l W s) : Sound l W (snapCopy from_ to_ s) :=
  h.setReg

theorem Sound.snapPage {p : Nat} {s : State} (h : Sound l W s) : Sound l W (snapPage p s) :=
  Sound.ite (h.forEach (fun _ _ h' => h'.setReg)) (Sound.ite (h.forEach (fun _ _ h' => h'.snapCopy)) (Sound.ite
      h.snapCopy.snapCopy.snapCopy.snapCopy (Sound.ite h.setReg (Sound.ite (h.forEach (fun _ _ h' => h'.snapCopy)) (Sound.ite
      (h.forEach (fun _ _ h' => h'.snapCopy)) (Sound.ite h.snapCopy (Sound.ite h.snapCopy (Sound.ite h.snapCopy (Sound.ite h.snapCopy
      h)))))))))

theorem Sound.snapAnswer {i : Option Item} {s : State} (h : Sound l W s) : Sound l W (snapAnswer i s) := by
  unfold Machine.snapAnswer
  split
  · exact h
  · exact h.postResult

theorem Sound.capture {s : State} (h : Sound l W s) : Sound l W (capture s) :=
  Sound.foldl (h.modTime.setPair.wrapRf.publish.irq.forEach (fun _ _ h' => (Sound.ite h'.snapPage h'))) (fun _ _ h' => h'.snapAnswer)

theorem Sound.execSnapCapture {s : State} (h : Sound l W s) : SoundNext l W (execSnapCapture s) :=
  Sound.ite h.passTo.capture h

theorem Sound.cmpFrom {k : Nat} {s : State} (h : Sound l W s) : Sound l W (cmpFrom k s) :=
  h.modTime

theorem Sound.cmpFired {k f : Nat} {late : Bool} {s : State} (h : Sound l W s) : Sound l W (cmpFired k f late s) := by
  unfold Machine.cmpFired
  exact (h.publish.setRb.setRb.sif (fun _ h' => h'.irq.wakeSource)).sif (fun _ h' => h'.setRb.irq.recLate)

theorem Sound.cmpSettle {k : Nat} {s : State} (h : Sound l W s) : Sound l W (cmpSettle k s) := by
  unfold Machine.cmpSettle
  exact h.sif (fun _ h' => h'.cmpFired)

theorem Sound.cmpArm {k : Nat} {s : State} (h : Sound l W s) : Sound l W (cmpArm k s) :=
  h.setRb.cmpFrom

theorem Sound.cmpRearm {k : Nat} {s : State} (h : Sound l W s) : Sound l W (cmpRearm k s) :=
  h.cmpSettle.sif (fun _ h' => h'.cmpArm)

theorem Sound.unitGuardFor {m : Word} {ag : Agent} {res a : Nat} {eff : State → State} {s : State} (h : Sound l W s) (heff : ∀ y0,
    Sound l W y0 → Sound l W (eff y0)) : Sound l W (unitGuardFor m ag res a eff s) :=
  h.guardedFor heff

theorem Sound.unitGuard {x0 : Agent} {x1 x2 : Nat} {x3 : State → State} {x4 : State} (h : Sound l W x4) (ha : ∀ y0, Sound l W y0 →
    Sound l W (x3 y0)) : Sound l W (unitGuard x0 x1 x2 x3 x4) :=
  h.unitGuardFor ha

theorem Sound.cmpCtrlWrite {ag : Agent} {k : Nat} {w : Word} {x3 : State} (h : Sound l W x3) : Sound l W (cmpCtrlWrite ag k w x3) :=
  h.hold (fun _ h' => (h'.unitGuard (fun _ h1 => (Sound.ite (Sound.ite h1.cmpSettle.setRb (h1.cmpSettle.setRb.ftbAct (fun _ h2 =>
      h2.cmpArm))) h1.cmpSettle.setRb.setRb))))

theorem Sound.execCompareArm {k : CmpIx} {src : Source} {s : State} (h : Sound l W s) : SoundNext l W (execCompareArm k src s) :=
  h.bySource (fun _ _ h' => (h'.hold (fun _ h1 => (h1.unitGuard (fun _ h2 => (h2.ftbAct (fun _ h3 => h3.cmpRearm))))))) (fun _ _ h' =>
      h'.cmpRearm)

theorem Sound.cmpTargetWrite {ag : Agent} {k : Nat} {x2 : Word} {x3 : State} (h : Sound l W x3) : Sound l W (cmpTargetWrite ag k x2 x3) :=
  h.hold (fun _ h' => (h'.unitGuard (fun _ h1 => (h1.dropLo.setReg.setReg.sif (fun _ h2 => h2.cmpFrom)))))

theorem Sound.execCompareTargetWrite {ag : Agent} {k : CmpIx} {x2 : Word} {s : State} (h : Sound l W s) : SoundNext l W
    (execCompareTargetWrite ag k x2 s) :=
  h.cmpTargetWrite

theorem Sound.execCompareFire {k : CmpIx} {s : State} (h : Sound l W s) : SoundNext l W (execCompareFire k s) := by
  unfold Machine.execCompareFire
  exact Sound.ite h.passTo.cmpFired h

theorem Sound.cadSet {g z next : Nat} {s : State} (h : Sound l W s) : Sound l W (cadSet g z next s) :=
  h.modTime

theorem Sound.cadRun {g : Nat} {s : State} (h : Sound l W s) : Sound l W (cadRun g s) :=
  Sound.ite h.setRb.cadSet (Sound.ite h.setRb.cadSet h.setRb.cadSet.setRb.recLate)

theorem Sound.cadStop {g : Nat} {s : State} (h : Sound l W s) : Sound l W (cadStop g s) :=
  h.setReg.setRb

theorem Sound.cadCtrlWrite {m : Word} {ag : Agent} {g : Nat} {w : Word} {x4 : State} (h : Sound l W x4) : Sound l W (cadCtrlWrite m ag
    g w x4) :=
  h.hold (fun _ h' => (h'.unitGuardFor (fun _ h1 => (Sound.ite h1.setRb.setRb (Sound.ite (h1.setRb.setRb.ftbAct (fun _ h2 =>
      h2.cadRun)) h1.setRb.setRb.cadStop)))))

theorem Sound.cadRunWrite {ag : Agent} {g : Nat} {b : Bool} {s : State} (h : Sound l W s) : Sound l W (cadRunWrite ag g b s) :=
  h.cadCtrlWrite

theorem Sound.execCadenceRun {g : CadIx} {src : Source} {s : State} (h : Sound l W s) : SoundNext l W (execCadenceRun g src s) :=
  h.bySource (fun _ _ h' => h'.cadRunWrite) (fun _ _ h' => h'.cadRun)

theorem Sound.execCadenceStop {g : CadIx} {src : Source} {s : State} (h : Sound l W s) : SoundNext l W (execCadenceStop g src s) :=
  h.bySource (fun _ _ h' => h'.cadRunWrite) (fun _ _ h' => (Sound.ite h'.cadStop h'))

theorem Sound.cadWrapped {g : Nat} {s : State} (h : Sound l W s) : Sound l W (cadWrapped g s) :=
  h.publish.wrapRf.setRb.sif (fun _ h' => h'.irq)

theorem Sound.execCadenceWrap {g : CadIx} {s : State} (h : Sound l W s) : SoundNext l W (execCadenceWrap g s) :=
  Sound.ite (Sound.ite h.passTo.cadSet.modTime h.passTo.cadSet.cadWrapped) h

theorem Sound.cadPublished {s : State} (h : Sound l W s) : Sound l W (cadPublished s) :=
  (h.forEach (fun _ _ h' => h'.addRf)).modTime

theorem Sound.cadPeriodInUse {g : Nat} {w : Word} {s : State} (h : Sound l W s) : Sound l W (cadPeriodInUse g w s) :=
  Sound.ite (Sound.ite h.setReg.cadSet h.setReg.cadSet) h.setReg

theorem Sound.cadPeriodWrite {ag : Agent} {g : Nat} {w : Word} {x3 : State} (h : Sound l W x3) : Sound l W (cadPeriodWrite ag g w x3) :=
  h.hold (fun _ h' => (h'.unitGuard (fun _ h1 => (h1.storeWith (fun _ _ h2 => h2.cadPeriodInUse)))))

theorem Sound.execCadencePeriodChange {ag : Agent} {g : CadIx} {w : Word} {s : State} (h : Sound l W s) : SoundNext l W
    (execCadencePeriodChange ag g w s) :=
  h.cadPeriodWrite

theorem Sound.capStore {c t : Nat} {s : State} (h : Sound l W s) : Sound l W (capStore c t s) :=
  h.setPair.setRb.sif (fun _ h' => h'.irq)

theorem Sound.capOverrun {c : Nat} {s : State} (h : Sound l W s) : Sound l W (capOverrun c s) :=
  h.setRb.addRf.irq.fault

theorem Sound.capEvent {c t : Nat} {s : State} (h : Sound l W s) : Sound l W (capEvent c t s) :=
  Sound.ite h (Sound.ite h.modTime (Sound.ite (h.capOverrun.sif (fun _ h' => h'.capStore)) h.capStore))

theorem Sound.execCaptureEvent {c : CapIx} {s : State} (h : Sound l W s) : SoundNext l W (execCaptureEvent c s) :=
  h.onTask (fun _ _ h' => h'.capEvent)

theorem Sound.capLoRead {ag : Agent} {c : Nat} {s : State} (h : Sound l W s) : Sound l W (capLoRead ag c s).2 := by
  unfold Machine.capLoRead
  dsimp only
  exact h.latchPair.modTime

theorem Sound.capHiRead {ag : Agent} {c : Nat} {s : State} (h : Sound l W s) : Sound l W (capHiRead ag c s).2 :=
  Sound.ite h.unlatch.modTime.setRb h.unlatch.modTime.setRb.capStore

theorem Sound.execCaptureHiRead {ag : Agent} {c : CapIx} {s : State} (h : Sound l W s) : SoundNext l W (execCaptureHiRead ag c s) :=
  Sound.ite h.capHiRead.giveOut h

theorem Sound.ftbLoRead {ag : Agent} {s : State} (h : Sound l W s) : Sound l W (ftbLoRead ag s).2 :=
  h.latchPair

theorem Sound.ftbHiRead {ag : Agent} {s : State} (h : Sound l W s) : Sound l W (ftbHiRead ag s).2 :=
  h.unlatch

theorem Sound.execFtbLoRead {ag : Agent} {s : State} (h : Sound l W s) : SoundNext l W (execFtbLoRead ag s) :=
  Sound.ite h.ftbLoRead.giveOut h

theorem Sound.refuseLate {slot : Nat} {c : Item} {named first : Nat} {s : State} (h : Sound l W s) : Sound l W (refuseLate slot c named
    first s) :=
  h.postResult

theorem Sound.syncRequest {named : Option Nat} {rise : Nat} {out : Bool} {i : Option Item} {s : State} (h : Sound l W s) : Sound l W
    (syncRequest named rise out i s) := by
  unfold Machine.syncRequest
  exact h.modTime

theorem Sound.execSync {s : State} (h : Sound l W s) : SoundNext l W (execSync s) :=
  h.dispatch (fun _ _ h' => (h'.ftbCmd (fun _ _ h1 => (Sound.ite h1.refuse (Sound.ite h1.refuseLate h1.syncRequest)))))

theorem Sound.syncGo {s : State} (h : Sound l W s) : Sound l W (syncGo s) :=
  h.syncRequest

theorem Sound.execSyncGo {src : Source} {s : State} (h : Sound l W s) : SoundNext l W (execSyncGo src s) :=
  h.bySource (fun _ _ h' => (h'.hold (fun _ h1 => (h1.guarded (fun _ h2 => (h2.ftbAct (fun _ h3 => h3.syncGo))))))) (fun _ _ h' =>
      h'.syncGo)

theorem Sound.syncChains {s : State} (h : Sound l W s) : Sound l W (syncChains s) :=
  h.forEach (fun _ _ h' => (h'.chainEdge.sif (fun _ h1 => h1.chainReset)))

theorem Sound.syncAct {s : State} (h : Sound l W s) : Sound l W (syncAct s) :=
  h.modTime.syncChains.setPair.wrapRf.irq.publish

theorem Sound.syncAnswer {j : SyncJob} {s : State} (h : Sound l W s) : Sound l W (syncAnswer j s) := by
  unfold Machine.syncAnswer
  split
  · exact h
  · exact h.postResult

theorem Sound.syncPin {k : Nat} {s : State} (h : Sound l W s) : Sound l W (syncPin k s) :=
  Sound.ite h.modTime.passTo.syncAct h

theorem Sound.syncJobEdge {s : State} (h : Sound l W s) : Sound l W (syncJobEdge s) := by
  unfold Machine.syncJobEdge
  split
  · exact h
  · exact h.modTime.passTo.syncAct.syncAnswer

theorem Sound.execSyncEdge {t : Nat} {pin : Bool} {s : State} (h : Sound l W s) : SoundNext l W (execSyncEdge t pin s) :=
  Sound.ite h (Sound.ite h.syncPin h.syncJobEdge)

theorem Sound.measStart {s : State} (h : Sound l W s) : Sound l W (measStart s) :=
  h.modTime

theorem Sound.execAonMeasUpdate {ft : Nat} {s : State} (h : Sound l W s) : SoundNext l W (execAonMeasUpdate ft s) :=
  Sound.ite h.passTo.modTime.setRf h

theorem Sound.setLimiter {n : Nat} {xs : Limiter} {s : State} (h : Sound l W s) : Sound l W (setLimiter n xs s) :=
  h.modFab.setRb

theorem Sound.sendTasks {n edge tick : Nat} {xs : List Nat} {s : State} (h : Sound l W s) : Sound l W (sendTasks n edge tick xs s) :=
  h.addRf.modFab

theorem Sound.passEvent {n edge prod tick : Nat} {merged deferred q : Bool} {xs : List Nat} {s : State} (h : Sound l W s) : Sound l W
    (passEvent n edge prod tick merged deferred q xs s) :=
  (h.wrapRf.setLimiter.sif (fun _ h' => h'.offerEvent)).sendTasks

theorem Sound.releaseHeld {n : Nat} {s : State} (h : Sound l W s) : Sound l W (releaseHeld n s) := by
  unfold Machine.releaseHeld
  split
  · exact h.passEvent
  · exact h

theorem Sound.suppressed {n : Nat} {s : State} (h : Sound l W s) : Sound l W (suppressed n s) :=
  h.addRf.setRb.irq.recErr

theorem Sound.limit {n edge prod tick : Nat} {merged : Bool} {s : State} (h : Sound l W s) : Sound l W (limit n edge prod tick merged
    s) :=
  Sound.ite h.suppressed (Sound.ite h.setLimiter h.passEvent)

theorem Sound.enterChannel {n edge : Nat} {xs : List Event} {s : State} (h : Sound l W s) : Sound l W (enterChannel n edge xs s) := by
  unfold Machine.enterChannel
  split
  · exact h
  · exact (Sound.ite h.modFab.addRf (Sound.limit (Sound.sif (Sound.ite h.modFab h.modFab.setRb.irq) (fun _ h' => h'.releaseHeld))))

theorem Sound.execEventChannelEntry {chan : ChanIx} {edge count : Nat} {s : State} (h : Sound l W s) : SoundNext l W
    (execEventChannelEntry chan edge count s) :=
  Sound.ite h h.passTo.enterChannel

theorem Sound.execLimiterRelease {chan : ChanIx} {s : State} (h : Sound l W s) : SoundNext l W (execLimiterRelease chan s) :=
  Sound.ite h (by split; exacts [h.passTo.releaseHeld, h])

theorem Sound.fireWrite {ag : Agent} {k : StepOf} {w : Word} {x3 : State} (h : Sound l W x3) : Sound l W (fireWrite ag k w x3) :=
  h.hold (fun _ h' => (h'.secureGuard (fun _ h1 => (Sound.ite h1.refusalErr (h1.pageWork (fun _ h2 => h2.publishOn))))))

theorem Sound.execEvfFire {ag : Agent} {k : PlayerIx} {w : Word} {s : State} (h : Sound l W s) : SoundNext l W (execEvfFire ag k w s) :=
  h.fireWrite

theorem Sound.fireMaskWrite {ag : Agent} {k : StepOf} {x2 : Word} {x3 : State} (h : Sound l W x3) : Sound l W (fireMaskWrite ag k x2
    x3) :=
  h.hold (fun _ h' => (h'.secureGuard (fun _ h1 => (Sound.ite h1.dropLo.refusalErr (h1.dropLo.pageWork (fun _ h2 => (h2.forEach (fun _
      _ h3 => h3.publishOn))))))))

theorem Sound.execEvfFireMask {ag : Agent} {k : PlayerIx} {x2 : Word} {s : State} (h : Sound l W s) : SoundNext l W (execEvfFireMask ag
    k x2 s) :=
  h.fireMaskWrite

theorem Sound.chReclaim {ag : Agent} {w : Word} {x2 : State} (h : Sound l W x2) : Sound l W (chReclaim ag w x2) :=
  h.hold (fun _ h' => (h'.secureGuard (fun _ h1 => (Sound.ite h1.refusalErr (Sound.ite h1.setRf h1)))))

theorem Sound.execEvfChReclaim {ag : Agent} {w : Word} {s : State} (h : Sound l W s) : SoundNext l W (execEvfChReclaim ag w s) :=
  h.chReclaim

theorem Sound.chCfgWrite {ag : Agent} {n : Nat} {w : Word} {x3 : State} (h : Sound l W x3) : Sound l W (chCfgWrite ag n w x3) :=
  h.hold (fun _ h' => (h'.guardedBy (fun _ h1 => (Sound.ite h1.refusalErr (Sound.ite h1.refusalErr (h1.storeReg.sif (fun _ h2 =>
      h2.setRb)))))))

theorem Sound.routeWrite {ag : Agent} {a old n : Nat} {unit : Option Nat} {bad : Bool} {w : Word} {s : State} (h : Sound l W s) : Sound
    l W (routeWrite ag a old n unit bad w s) :=
  h.guardedBy (fun _ h' => (Sound.ite h'.refusalErr (Sound.ite h'.refusalErr h'.dropLapsed.storeReg)))

theorem Sound.pubWrite {ag : Agent} {p : Nat} {w : Word} {x3 : State} (h : Sound l W x3) : Sound l W (pubWrite ag p w x3) :=
  Sound.ite_app (h.hold (fun _ h' => (h'.guardedBy (fun _ h1 => h1)))) (h.hold (fun _ h' => h'.routeWrite))

theorem Sound.evfCntClr {ag : Agent} {w : Word} {x2 : State} (h : Sound l W x2) : Sound l W (evfCntClr ag w x2) :=
  h.hold (fun _ h' => (h'.guarded (fun _ h1 => (((h1.sif (fun _ h2 => h2.setReg)).sif (fun _ h2 => h2.setReg)).sif (fun _ h2 =>
      (h2.forEach (fun _ _ h3 => h3.setRf)))))))

theorem Sound.execEvfCntClr {ag : Agent} {w : Word} {s : State} (h : Sound l W s) : SoundNext l W (execEvfCntClr ag w s) :=
  h.evfCntClr

theorem Sound.execEvfTaskIrq {s : State} (h : Sound l W s) : SoundNext l W (execEvfTaskIrq s) :=
  h.onTask (fun _ _ h' => h'.irq)

theorem Sound.markReaders {n edge : Nat} {s : State} (h : Sound l W s) : Sound l W (markReaders n edge s) :=
  h.forEach (fun _ _ h' => (Sound.ite h'.cellMark h'))

theorem Sound.pinSeen {n : Nat} {b : Bool} {t : Nat} {s : State} (h : Sound l W s) : Sound l W (pinSeen n b t s) :=
  Sound.ite h (h.modFab.setRb.markReaders.sif (fun _ h' => h'.publish))

theorem Sound.pinTurn {edge n : Nat} {s : State} (h : Sound l W s) : Sound l W (pinTurn edge n s) := by
  unfold Machine.pinTurn
  split
  · exact (Sound.ite h.pinSeen h)
  · exact h

theorem Sound.drivePin {n : Nat} {b : Bool} {edge : Nat} {r : State} (h : Sound l W r) : Sound l W (drivePin n b edge r) := by
  unfold Machine.drivePin
  exact h.pinTurn.modFab

theorem Sound.gpFollow {n edge : Nat} {s : State} (h : Sound l W s) : Sound l W (gpFollow n edge s) :=
  Sound.ite h.drivePin (Sound.ite h.drivePin (Sound.ite h.drivePin h.modFab))

theorem Sound.cellChange {c : Nat} {b : Bool} {edge : Nat} {s : State} (h : Sound l W s) : Sound l W (cellChange c b edge s) :=
  (h.markReaders.modFab.setRb.setRb.sif (fun _ h' => h'.publish)).forEach (fun _ _ h' => (Sound.ite h'.gpFollow h'))

theorem Sound.setSince {c : Nat} {e : Option Nat} {s : State} (h : Sound l W s) : Sound l W (setSince c e s) :=
  h.modFab

theorem Sound.cellFilter {c edge : Nat} {s : State} (h : Sound l W s) : Sound l W (cellFilter c edge s) := by
  unfold Machine.cellFilter
  split
  · exact (Sound.ite h.setSince.cellChange h)
  · exact h

theorem Sound.cellTake {c edge : Nat} {o : Bool} {s : State} (h : Sound l W s) : Sound l W (cellTake c edge o s) :=
  Sound.ite h.setSince (Sound.ite h.setSince.cellChange (Sound.ite h h.setSince))

theorem Sound.cellStep {c edge : Nat} {o : Bool} {s : State} (h : Sound l W s) : Sound l W (cellStep c edge o s) :=
  (h.sif (fun _ h' => h'.cellMark)).setRb.cellFilter.cellTake

theorem Sound.cellUnmark {c edge : Nat} {x2 : State} (h : Sound l W x2) : Sound l W (cellUnmark c edge x2) :=
  h.modFab

theorem Sound.cellTurn {edge c : Nat} {s : State} (h : Sound l W s) : Sound l W (cellTurn edge c s) :=
  Sound.ite h.cellFilter.cellUnmark.cellStep h.cellFilter

theorem Sound.cellsRun {edge n : Nat} {s : State} (h : Sound l W s) : Sound l W (cellsRun edge n s) := by
  induction n generalizing s with
  | zero => exact h
  | succ n ih =>
    unfold Machine.cellsRun
    split
    · exact .ite (ih ((h.forEach fun _ _ h' => h'.pinTurn).forEach fun _ _ h' => h'.cellTurn)) h
    · exact h

theorem Sound.cellsTo {edge : Nat} {s : State} (h : Sound l W s) : Sound l W (cellsTo edge s) :=
  Sound.ite h (Sound.ite (h.forEach (fun _ _ h' => h'.pinTurn)) (by split; exacts [h.cellsRun, h]))

theorem Sound.cellsNow {s : State} (h : Sound l W s) : Sound l W (cellsNow s) :=
  h.cellsTo

theorem Sound.cellEval {c edge : Nat} {s : State} (h : Sound l W s) : Sound l W (cellEval c edge s) :=
  (h.takeTasks.cellUnmark.sif (fun _ h' => h'.cellMark)).cellStep

theorem Sound.execCellOutputChange {c : CellIx} {edge : Nat} {s : State} (h : Sound l W s) : SoundNext l W (execCellOutputChange c edge
    s) :=
  Sound.ite h h.passTo.cellsTo.cellEval

theorem Sound.cellCfgInUse {c : Nat} {v : Word} {s : State} (h : Sound l W s) : Sound l W (cellCfgInUse c v s) :=
  h.cellsNow.cellFilter.setReg.setRb.setSince.cellMark

theorem Sound.cellsWake {s : State} (h : Sound l W s) : Sound l W (cellsWake s) :=
  h.forEach (fun _ _ h' => h'.cellMark)

theorem Sound.subMark {i : Nat} {s : State} (h : Sound l W s) : Sound l W (subMark i s) :=
  Sound.ite h.cellMark h

theorem Sound.subWrite {ag : Agent} {i : Nat} {w : Word} {x3 : State} (h : Sound l W x3) : Sound l W (subWrite ag i w x3) :=
  Sound.ite_app (h.hold (fun _ h' => (h'.guardedBy (fun _ h1 => h1)))) (h.hold (fun _ h' => h'.cellsNow.routeWrite.subMark))

theorem Sound.gpCfgInUse {n : Nat} {v : Word} {s : State} (h : Sound l W s) : Sound l W (gpCfgInUse n v s) :=
  (h.cellsNow.setReg.sif (fun _ h' => h'.modFab)).gpFollow

theorem Sound.gpCfgWrite {ag : Agent} {n : Nat} {w : Word} {x3 : State} (h : Sound l W x3) : Sound l W (gpCfgWrite ag n w x3) :=
  h.hold (fun _ h' => (h'.guardedBy (fun _ h1 => (Sound.ite h1.refusalErr (h1.storeWith (fun _ _ h2 => h2.gpCfgInUse))))))

theorem Sound.gpSet {n act : Nat} {s : State} (h : Sound l W s) : Sound l W (gpSet n act s) :=
  Sound.ite h.drivePin (Sound.ite h.drivePin (Sound.ite h.drivePin h.drivePin.modFab))

theorem Sound.gpAction {n : Nat} {s : State} (h : Sound l W s) : Sound l W (gpAction n s) :=
  Sound.ite h h.gpSet

theorem Sound.execGpEventOutput {n : GpIx} {s : State} (h : Sound l W s) : SoundNext l W (execGpEventOutput n s) :=
  h.onTask (fun _ _ h' => h'.cellsNow.gpAction)

theorem Sound.execGpPulseEnd {n : GpIx} {s : State} (h : Sound l W s) : SoundNext l W (execGpPulseEnd n s) := by
  unfold Machine.execGpPulseEnd
  split
  · exact h
  · exact h.passTo.cellsNow.modFab.drivePin

theorem Sound.gpOutWrite {ag : Agent} {w : Word} {x2 : State} (h : Sound l W x2) : Sound l W (gpOutWrite ag w x2) :=
  h.hold (fun _ h' => (h'.guarded (fun _ h1 => (Sound.ite h1.refusalErr (h1.cellsNow.forEach (fun _ _ h2 => h2.setRb.gpFollow))))))

theorem Sound.execGpOutWrite {ag : Agent} {w : Word} {s : State} (h : Sound l W s) : SoundNext l W (execGpOutWrite ag w s) :=
  h.gpOutWrite

theorem Sound.execGpInputEdge {n : GpIx} {level : Bool} {t : Nat} {s : State} (h : Sound l W s) : SoundNext l W (execGpInputEdge n
    level t s) :=
  Sound.ite h h.passTo.cellsNow.pinSeen

theorem Sound.cellCfgWrite {ag : Agent} {c : Nat} {w : Word} {x3 : State} (h : Sound l W x3) : Sound l W (cellCfgWrite ag c w x3) :=
  h.hold (fun _ h' => (h'.guardedBy (fun _ h1 => (h1.storeWith (fun _ _ h2 => h2.cellCfgInUse)))))

theorem Sound.setPend {k : Nat} {xs : List Item} {x2 : State} (h : Sound l W x2) : Sound l W (setPend k xs x2) :=
  h.modSess

theorem Sound.setFence {k : Nat} {f : Option Fence} {x2 : State} (h : Sound l W x2) : Sound l W (setFence k f x2) :=
  h.modSess

theorem Sound.dispatchSession {typ : Nat} {f : Item → Nat → State → State} {x2 : State} (h : Sound l W x2) (hf : ∀ y0 y1 y2, Sound l W
    y2 → Sound l W (f y0 y1 y2)) : Sound l W (dispatchSession typ f x2) :=
  h.dispatch (fun _ _ h' => (by split; exacts [h'.refuse, (hf _ _ _ h')]))

theorem Sound.openSession {k kind : Nat} {follow : Bool} {fmax : Nat} {s : State} (h : Sound l W s) : Sound l W (openSession k kind
    follow fmax s) :=
  h.modSess.setBytes.setBytes.useCount

theorem Sound.tableFull {i : Item} {s : State} (h : Sound l W s) : Sound l W (tableFull i s) :=
  h.irq.refuse

theorem Sound.sessTable {d : (Item → State → State) → State → State} {f : Item → State → State} {s : State} (h : Sound l W s)
    (hd : ∀ g s, Sound l W s → (∀ i s, Sound l W s → Sound l W (g i s)) → Sound l W (d g s))
    (hf : ∀ i s, Sound l W s → Sound l W (f i s)) : Sound l W (sessTable d f s) :=
  .ite h (hd _ _ h fun i s h' => .ite (hf i s h') h'.refuse)

theorem Sound.execSessionCreate {s : State} (h : Sound l W s) : SoundNext l W (execSessionCreate s) := by
  refine h.sessTable (fun _ _ h' hg => h'.dispatch hg) fun i s h' => .ite h'.refuse ?_
  split
  · exact h'.tableFull
  · exact h'.openSession.postResult

theorem Sound.dropFence {k : Nat} {s : State} (h : Sound l W s) : Sound l W (dropFence k s) := by
  unfold Machine.dropFence
  split
  · exact h
  · exact (by split; exacts [h.setFence, h.setFence.refuse])

theorem Sound.execSessionDestroy {s : State} (h : Sound l W s) : SoundNext l W (execSessionDestroy s) :=
  h.sessTable (fun _ _ h' hg => h'.dispatchSession fun i _ s hs => hg i s hs) fun _ _ h' => h'.dropFence.modSess.setSessState

theorem Sound.releaseFor {x0 : Nat} {x1 : State} (h : Sound l W x1) : Sound l W (releaseFor x0 x1) :=
  h.releaseAll

theorem Sound.execSessionClosed {slot : SlotIx} {s : State} (h : Sound l W s) : SoundNext l W (execSessionClosed slot s) := by
  unfold Machine.execSessionClosed
  dsimp only
  split
  · exact h
  · exact (Sound.ite h.postResult h)

theorem Sound.bindTo {k n place : Nat} {s : State} (h : Sound l W s) : Sound l W (bindTo k n place s) :=
  h.setCtx.setCtx.setCtx.engineClaims

theorem Sound.execSessionPlace {s : State} (h : Sound l W s) : SoundNext l W (execSessionPlace s) :=
  h.dispatchSession (fun _ _ _ h' => (by split; exacts [h'.refuse, (Sound.ite h'.refuse h'.bindTo.postResult)]))

theorem Sound.execSessionMigrate {s : State} (h : Sound l W s) : SoundNext l W (execSessionMigrate s) :=
  h.dispatchSession (fun _ _ _ h' => (Sound.ite h'.refuse (Sound.ite h'.refuse (Sound.ite h'.refuse (Sound.ite h'.postResult (Sound.ite
      h'.refuse h'.setFence.setSessState))))))

theorem Sound.autoMigrate {k : Nat} {r : Option Nat} {s : State} (h : Sound l W s) : Sound l W (autoMigrate k r s) := by
  unfold Machine.autoMigrate
  split
  · exact h.setCtx.irq
  · exact (Sound.ite h.setCtx.setFence.setSessState h.setCtx.irq)

theorem Sound.followTest {k : Nat} {valid : Bool} {r : Option Nat} {s : State} (h : Sound l W s) : Sound l W (followTest k valid r s) :=
  Sound.ite h (Sound.ite h.setCtx (Sound.ite h.setCtx (Sound.ite h.autoMigrate h.setCtx)))

theorem Sound.migrateAnswer {k : Nat} {f : Fence} {s : State} (h : Sound l W s) : Sound l W (migrateAnswer k f s) := by
  unfold Machine.migrateAnswer
  split
  · exact h.addRf.postResult
  · exact h.addRf.irq.postUnsolicited

theorem Sound.execMigrationComplete {slot : SlotIx} {s : State} (h : Sound l W s) : SoundNext l W (execMigrationComplete slot s) := by
  unfold Machine.execMigrationComplete
  dsimp only
  split
  · exact h
  · exact (Sound.ite h h.releaseFor.setFence.bindTo.migrateAnswer)

theorem Sound.reserve {k : Nat} {tx : List Byte} {s : State} (h : Sound l W s) : Sound l W (reserve k tx s) :=
  h.modSess.framesArea.foldl (fun _ _ h' => h'.setBytes)

theorem Sound.poolStore {k : Nat} {rx : List Byte} {s : State} (h : Sound l W s) : Sound l W (poolStore k rx s) :=
  (h.foldl (fun _ _ h' => h'.setBytes)).framesArea

theorem Sound.dispatchExchange {typ : Nat} {check : Item → Nat → State → Option (Nat × Nat × Nat)} {note : Item → Nat → State → State}
    {tx : Item → List Byte} {s : State} (h : Sound l W s) (hnote : ∀ y0 y1 y2, Sound l W y2 → Sound l W (note y0 y1 y2)) : Sound l W
    (dispatchExchange typ check note tx s) := by
  unfold Machine.dispatchExchange
  split
  · exact h
  · exact (Sound.ite h (h.dispatchSession (fun _ _ _ h' => (Sound.ite h'.refuse (by split; exacts [(hnote _ _ _ h').refuse, (Sound.ite
      h'.refuse h'.reserve.setPend)])))))

theorem Sound.sessionRamWrite {a : Nat} {w : Word} {s : State} (h : Sound l W s) : Sound l W (sessionRamWrite a w s) :=
  Sound.ite h.refusalErr (Sound.ite h.refusalErr (Sound.ite h.setCtx (Sound.ite h h.setBytes)))

theorem Sound.execSessionRamWrite {addr : Nat} {w : Word} {s : State} (h : Sound l W s) : SoundNext l W (execSessionRamWrite addr w s) :=
  Sound.ite (h.windowWrite (fun _ h' => h'.sessionRamWrite)) h

theorem Sound.sessCntClr {ag : Agent} {w : Word} {x2 : State} (h : Sound l W x2) : Sound l W (sessCntClr ag w x2) :=
  h.guarded (fun _ h' => ((h'.sif (fun _ h1 => h1.setReg)).sif (fun _ h1 => h1.setRf)))

theorem Sound.execSessCntClr {ag : Agent} {w : Word} {s : State} (h : Sound l W s) : SoundNext l W (execSessCntClr ag w s) :=
  h.sessCntClr

theorem Sound.cvuSetRun {c v : Nat} {s : State} (h : Sound l W s) : Sound l W (cvuSetRun c v s) :=
  h.setReg.setReg

theorem Sound.cvuFollow {c : Nat} {s : State} (h : Sound l W s) : Sound l W (cvuFollow c s) :=
  h.cvuSetRun

theorem Sound.cvuLoadCfg {c : Nat} {w : Word} {s : State} (h : Sound l W s) : Sound l W (cvuLoadCfg c w s) :=
  Sound.cvuFollow (by split; exacts [h.setReg, h.setReg.setReg.setReg.setReg])

theorem Sound.cvuDrop {c : Nat} {s : State} (h : Sound l W s) : Sound l W (cvuDrop c s) :=
  Sound.ite (h.addRf.setRb.sif (fun _ h' => h'.setRb)) h

theorem Sound.cvuBegin {c : Nat} {s : State} (h : Sound l W s) : Sound l W (cvuBegin c s) :=
  h.cvuDrop.cvuSetRun.setRb.setRb.setRf

theorem Sound.cvuCheckedBegin {c : Nat} {s : State} (h : Sound l W s) : Sound l W (cvuCheckedBegin c s) := by
  unfold Machine.cvuCheckedBegin
  split
  · exact h.recErr
  · exact h.cvuBegin

theorem Sound.cvuStart {c : Nat} {x1 : State} (h : Sound l W x1) : Sound l W (cvuStart c x1) :=
  h.pageWork (fun _ h' => (Sound.ite (Sound.cvuDrop (h'.parts rfl rfl rfl rfl)) h'.cvuCheckedBegin))

theorem Sound.cvuFeed {c : Nat} {xs : List Byte} {s : State} (h : Sound l W s) : Sound l W (cvuFeed c xs s) :=
  h.cvuSetRun.addRf

theorem Sound.cvuCompare {c : Nat} {s : State} (h : Sound l W s) : Sound l W (cvuCompare c s) :=
  Sound.ite h (Sound.ite h.setRb (h.setRb.setRb.addRf.publish.irq.fault.sif (fun _ h' => h'.recErr)))

theorem Sound.cvuFinish {c : Nat} {s : State} (h : Sound l W s) : Sound l W (cvuFinish c s) :=
  Sound.parts (h.setReg.setRb.setRb.cvuCompare.addRf.publish.irq.sif (fun _ h' => h'.setRb)) rfl rfl rfl rfl

theorem Sound.cvuEnd {c : Nat} {s : State} (h : Sound l W s) : Sound l W (cvuEnd c s) :=
  Sound.ite h.cvuFinish h.refusalErr

theorem Sound.cvuGuard {ag : Agent} {c a : Nat} {eff : State → State} {s : State} (h : Sound l W s) (heff : ∀ y0, Sound l W y0 → Sound
    l W (eff y0)) : Sound l W (cvuGuard ag c a eff s) :=
  h.guardedBy heff

theorem Sound.cvuCtrlWrite {ag : Agent} {c : Nat} {w : Word} {x3 : State} (h : Sound l W x3) : Sound l W (cvuCtrlWrite ag c w x3) :=
  h.cvuGuard (fun _ h' => (((h'.setRf.sif (fun _ h1 => h1.cvuEnd)).sif (fun _ h1 => h1.cvuDrop)).sif (fun _ h1 => h1.cvuStart)))

theorem Sound.execCvuStart {ag : Agent} {c : CvuIx} {w : Word} {s : State} (h : Sound l W s) : SoundNext l W (execCvuStart ag c w s) :=
  h.cvuCtrlWrite

theorem Sound.execCvuEnd {ag : Agent} {c : CvuIx} {w : Word} {s : State} (h : Sound l W s) : SoundNext l W (execCvuEnd ag c w s) :=
  h.cvuCtrlWrite

theorem Sound.execCvuAbort {ag : Agent} {c : CvuIx} {w : Word} {s : State} (h : Sound l W s) : SoundNext l W (execCvuAbort ag c w s) :=
  h.cvuCtrlWrite

theorem Sound.cvuDataWrite {ag : Agent} {c : Nat} {w : Word} {x3 : State} (h : Sound l W x3) : Sound l W (cvuDataWrite ag c w x3) :=
  h.cvuGuard (fun _ h' => (Sound.ite h'.cvuFeed h'.refusalErr))

theorem Sound.execCvuData {ag : Agent} {c : CvuIx} {w : Word} {s : State} (h : Sound l W s) : SoundNext l W (execCvuData ag c w s) :=
  h.cvuDataWrite

theorem Sound.cvuRunWrite {ag : Agent} {c : Nat} {w : Word} {x3 : State} (h : Sound l W x3) : Sound l W (cvuRunWrite ag c w x3) :=
  h.cvuGuard (fun _ h' => h'.cvuSetRun)

theorem Sound.execCvuRunWrite {ag : Agent} {c : CvuIx} {w : Word} {s : State} (h : Sound l W s) : SoundNext l W (execCvuRunWrite ag c w
    s) :=
  h.cvuRunWrite

theorem Sound.cvuCfgWrite {ag : Agent} {c : Nat} {w : Word} {x3 : State} (h : Sound l W x3) : Sound l W (cvuCfgWrite ag c w x3) :=
  h.cvuGuard (fun _ h' => (Sound.ite h'.refusalErr (Sound.ite h'.refusalErr h'.cvuLoadCfg)))

theorem Sound.execCvuCfgWrite {ag : Agent} {c : CvuIx} {w : Word} {s : State} (h : Sound l W s) : SoundNext l W (execCvuCfgWrite ag c w
    s) :=
  h.cvuCfgWrite

theorem Sound.cvuParWrite {ag : Agent} {c a : Nat} {w : Word} {x4 : State} (h : Sound l W x4) : Sound l W (cvuParWrite ag c a w x4) :=
  h.cvuGuard (fun _ h' => (Sound.ite h'.refusalErr (Sound.ite h'.refusalErr h'.setReg.cvuFollow)))

theorem Sound.cvuResume {c : Nat} {s : State} (h : Sound l W s) : Sound l W (cvuResume c s) :=
  Sound.ite (Sound.cvuCheckedBegin (h.parts rfl rfl rfl rfl)) h

theorem Sound.chqFollow {c : Nat} {s : State} (h : Sound l W s) : Sound l W (chqFollow c s) :=
  Sound.ite (Sound.ite h h.setRb) h.setRb.cvuResume

theorem Sound.chqBit {c : Nat} {b : Bool} {s : State} (h : Sound l W s) : Sound l W (chqBit c b s) :=
  h.setRb.chqFollow

theorem Sound.chqWrite {ag : Agent} {w : Word} {x2 : State} (h : Sound l W x2) : Sound l W (chqWrite ag w x2) :=
  h.guarded (fun _ h' => (h'.forEach (fun _ _ h1 => h1.chqBit)))

theorem Sound.execCvuChqWrite {ag : Agent} {w : Word} {s : State} (h : Sound l W s) : SoundNext l W (execCvuChqWrite ag w s) :=
  h.chqWrite

theorem Sound.cvuCntClr {ag : Agent} {w : Word} {x2 : State} (h : Sound l W x2) : Sound l W (cvuCntClr ag w x2) :=
  h.guarded (fun _ h' => (h'.forEach (fun _ _ h1 => (Sound.ite h1.setReg h1))))

theorem Sound.execCvuCntClr {ag : Agent} {w : Word} {s : State} (h : Sound l W s) : SoundNext l W (execCvuCntClr ag w s) :=
  h.cvuCntClr

theorem Sound.thrMove {n lo st : Nat} {s : State} (h : Sound l W s) : Sound l W (thrMove n lo st s) :=
  h.setRf.addRf.irq

theorem Sound.thrUnit {n lo : Nat} {en : Bool} {r : ThrSt} {s : State} (h : Sound l W s) : Sound l W (thrUnit n lo en r s) :=
  Sound.ite h.thrMove h

theorem Sound.thrOutput {n t : Nat} {s : State} (h : Sound l W s) : Sound l W (thrOutput n t s) :=
  (h.modCoil.thrUnit.thrUnit.sif (fun _ h' => h'.publish)).sif (fun _ h' => h'.publish)

theorem Sound.chainOut {n t : Nat} {z : ℤ × ℤ} {s : State} (h : Sound l W s) : Sound l W (chainOut n t z s) :=
  Sound.ite h.modCoil.setReg.setReg.setReg.setReg.setPair.setReg.setRb.passGov (Sound.ite
      h.modCoil.setReg.setReg.setReg.setReg.setPair.setReg.setRb.passGov.modCoil
      h.modCoil.setReg.setReg.setReg.setReg.setPair.setReg.setRb.passGov.modCoil.thrOutput)

theorem Sound.countSat {n sat : Nat} {s : State} (h : Sound l W s) : Sound l W (countSat n sat s) :=
  h.sif (fun _ h' => h'.addRf.irq.fault)

theorem Sound.countClip {n : Nat} {clip : Bool} {s : State} (h : Sound l W s) : Sound l W (countClip n clip s) :=
  h.sif (fun _ h' => h'.addRf.irq.fault)

theorem Sound.chainSample {n : Nat} {raw : ℤ} {r : State} (h : Sound l W r) : Sound l W (chainSample n raw r) := by
  unfold Machine.chainSample
  dsimp only
  split
  · exact h.chainEdge.countClip.modCoil
  · exact (by split; exacts [h.chainEdge.countClip.countSat.modCoil,
      (by split; exacts [h.chainEdge.countClip.countSat.countSat.modCoil,
      h.chainEdge.countClip.countSat.countSat.modCoil.countSat.chainOut])])

theorem Sound.chainSamples {n : Nat} {xs : List ℤ} {s : State} (h : Sound l W s) : Sound l W (chainSamples n xs s) :=
  h.foldl (fun _ _ h' => (Sound.ite h'.chainSample h'.countClip))

theorem Sound.chainWaits {n e : Nat} {ws : List Word} {x : State} (h : Sound l W x) : Sound l W (chainWaits n e ws x) :=
  h.chainEdge.modCoil.chainEdge

theorem Sound.chainFollow {n : Nat} {x : State} (h : Sound l W x) : Sound l W (chainFollow n x) :=
  Sound.ite (Sound.ite h.chainEdge h.chainEdge.modCoil.chainEdge) h.chainEdge.modCoil.setRb

theorem Sound.chainCtrlInUse {n : Nat} {w : Word} {x : State} (h : Sound l W x) : Sound l W (chainCtrlInUse n w x) :=
  Sound.ite h.chainEdge.setReg.chainWaits h.chainEdge.setReg.chainFollow

theorem Sound.chainCtrlWrite {ag : Agent} {n : Nat} {w : Word} {x3 : State} (h : Sound l W x3) : Sound l W (chainCtrlWrite ag n w x3) :=
  h.hold (fun _ h' => (h'.guarded (fun _ h1 => (Sound.ite (h1.chainEdge.storeWith (fun _ _ h2 => h2.chainCtrlInUse)).chainWaits
      (h1.chainEdge.storeWith (fun _ _ h2 => h2.chainCtrlInUse))))))

theorem Sound.profWrite {ag : Agent} {n p k : Nat} {w : Word} {x5 : State} (h : Sound l W x5) : Sound l W (profWrite ag n p k w x5) :=
  h.hold (fun _ h' => (h'.guarded (fun _ h1 => (Sound.ite h1.chainEdge.refusalErr (Sound.ite h1.chainEdge.refusalErr
      h1.chainEdge.storeReg)))))

theorem Sound.thrUnknown {n : Nat} {mag ph : Bool} {s : State} (h : Sound l W s) : Sound l W (thrUnknown n mag ph s) :=
  (h.sif (fun _ h' => h'.modCoil.setRf)).sif (fun _ h' => h'.modCoil.setRf)

theorem Sound.thrCtrlInUse {n : Nat} {w : Word} {s : State} (h : Sound l W s) : Sound l W (thrCtrlInUse n w s) :=
  h.setReg.thrUnknown

theorem Sound.thrMarkInUse {n a : Nat} {w : Word} {s : State} (h : Sound l W s) : Sound l W (thrMarkInUse n a w s) :=
  h.setReg.thrUnknown

theorem Sound.thrMarkWrite {ag : Agent} {n a : Nat} {w : Word} {x4 : State} (h : Sound l W x4) : Sound l W (thrMarkWrite ag n a w x4) :=
  h.hold (fun _ h' => (h'.guarded (fun _ h1 => (Sound.ite h1.refusalErr (h1.storeWith (fun _ _ h2 => h2.thrMarkInUse))))))

theorem Sound.thrCtrlWrite {ag : Agent} {n : Nat} {w : Word} {x3 : State} (h : Sound l W x3) : Sound l W (thrCtrlWrite ag n w x3) :=
  h.hold (fun _ h' => (h'.guarded (fun _ h1 => (h1.storeWith (fun _ _ h2 => h2.thrCtrlInUse)))))

theorem Sound.senseCfgWrite {ag : Agent} {n : Nat} {w : Word} {x3 : State} (h : Sound l W x3) : Sound l W (senseCfgWrite ag n w x3) :=
  h.hold (fun _ h' => (h'.guarded (fun _ h1 => (Sound.ite h1.refusalErr h1.storeReg))))

theorem Sound.coilCntClr {ag : Agent} {n : Nat} {w : Word} {x3 : State} (h : Sound l W x3) : Sound l W (coilCntClr ag n w x3) :=
  h.hold (fun _ h' => (h'.guarded (fun _ h1 => (((h1.sif (fun _ h2 => h2.setReg)).sif (fun _ h2 => h2.setReg)).sif (fun _ h2 =>
      h2.setRf)))))

theorem Sound.execChainRestart {ag : Agent} {n : CoilIx} {w : Word} {s : State} (h : Sound l W s) : SoundNext l W (execChainRestart ag
    n w s) :=
  h.chainCtrlWrite

theorem Sound.execProfileChange {ag : Agent} {n : CoilIx} {w : Word} {s : State} (h : Sound l W s) : SoundNext l W (execProfileChange
    ag n w s) :=
  h.chainCtrlWrite

theorem Sound.execCoilCntClr {ag : Agent} {n : CoilIx} {w : Word} {s : State} (h : Sound l W s) : SoundNext l W (execCoilCntClr ag n w
    s) :=
  h.coilCntClr

theorem Sound.govMeasure {mw : Nat} {s : State} (h : Sound l W s) : Sound l W (govMeasure mw s) :=
  Sound.ite h.setRf.passTo.limitEnd.govSet.govShow.govReport.floorMark h.setRf

theorem Sound.execGovernorMeasure {mw : Nat} {s : State} (h : Sound l W s) : SoundNext l W (execGovernorMeasure mw s) :=
  h.govMeasure

theorem Sound.execThetaRecompute {c : CoilIx} {vfld : Nat} {s : State} (h : Sound l W s) : SoundNext l W (execThetaRecompute c vfld s) :=
  (h.modCoil.sif (fun _ h' => h'.govern)).headFollow

theorem Sound.mmAbandon {c : Nat} {s : State} (h : Sound l W s) : Sound l W (mmAbandon c s) :=
  Sound.ite h.modCoil.setRb h

theorem Sound.coilEntry {c e : Nat} {s : State} (h : Sound l W s) : Sound l W (coilEntry c e s) :=
  Sound.ite h.modCoil h.modCoil.mmAbandon.setRf

theorem Sound.coilFieldOn {c e : Nat} {s : State} (h : Sound l W s) : Sound l W (coilFieldOn c e s) :=
  h.modCoil.setRf.setRb

theorem Sound.coilFieldOff {c : Nat} {s : State} (h : Sound l W s) : Sound l W (coilFieldOff c s) :=
  h.mmAbandon.modCoil.setRb

theorem Sound.fieldFollow {n : Nat} {s : State} (h : Sound l W s) : Sound l W (fieldFollow n s) :=
  h.setRb

theorem Sound.execChainOutput {c : CoilIx} {samples : List ℤ} {s : State} (h : Sound l W s) : SoundNext l W (execChainOutput c samples
    s) :=
  (h.passGov.chainSamples.weighOuts.forEach (fun _ _ h' => (h'.sif (fun _ h1 => h1.modEng)))).trimOuts

theorem Sound.startSection {k : Nat} {c : Section} {S slot : Nat} {s : State} (h : Sound l W s) : Sound l W (startSection k c S slot s) :=
  h.modPlayer.addRf.setPair.setRb.setRf

theorem Sound.engErr {n e : Nat} {x2 : State} (h : Sound l W x2) : Sound l W (engErr n e x2) :=
  h.modEng

theorem Sound.sectionErr {k slot e : Nat} {s : State} (h : Sound l W s) : Sound l W (sectionErr k slot e s) :=
  Sound.ite h (Sound.ite (Sound.ite h.engErr h) (Sound.ite (h.parts rfl rfl rfl rfl) h))

theorem Sound.stepRefused {k slot e index : Nat} {s : State} (h : Sound l W s) : Sound l W (stepRefused k slot e index s) :=
  h.irq.recErr.sectionErr

theorem Sound.stepLate {k slot T t : Nat} {s : State} (h : Sound l W s) : Sound l W (stepLate k slot T t s) :=
  h.publish.addRf.setPair.irq.recLate.sectionErr

theorem Sound.stepActed {k page : Nat} {i : Issued} {x3 t : Nat} {s : State} (h : Sound l W s) : Sound l W (stepActed k page i x3 t s) :=
  Sound.ite h.recLate.sectionErr h

theorem Sound.takeStep {k op page : Nat} {f : Issued → State → State} {s : State} (h : Sound l W s) (hf : ∀ y0 y1, Sound l W y1 → Sound
    l W (f y0 y1)) : Sound l W (takeStep k op page f s) := by
  unfold Machine.takeStep
  split
  · exact h
  · exact (Sound.ite h (hf _ _ h.modPlayer))

theorem Sound.takeAny {k op : Nat} {f : Issued → State → State} {s : State} (h : Sound l W s) (hf : ∀ y0 y1, Sound l W y1 → Sound l W
    (f y0 y1)) : Sound l W (takeAny k op f s) := by
  unfold Machine.takeAny
  split
  · exact h
  · exact (Sound.ite h (hf _ _ h.modPlayer))

theorem Sound.freeSteps {p : Nat} {s : State} (h : Sound l W s) : Sound l W (freeSteps p s) :=
  h.forEach (fun _ _ h' => h'.modPlayer)

theorem Sound.faultsMet {p : Nat} {cls : Nat → Option Nat} {xs : List Nat} {s : State} (h : Sound l W s) : Sound l W (faultsMet p cls
    xs s) :=
  h.foldl (fun _ _ h' => h'.faultOpt)

theorem Sound.frameDone {k : Nat} {s : State} (h : Sound l W s) : Sound l W (frameDone k s) :=
  h.sif (fun _ h' => h'.setSessState)

theorem Sound.fcntUsed {k : Nat} {s : State} (h : Sound l W s) : Sound l W (fcntUsed k s) :=
  h.setMem

theorem Sound.feEvent {n k t : Nat} {x3 : State} (h : Sound l W x3) : Sound l W (feEvent n k t x3) :=
  h.publish

theorem Sound.fePhase {n v : Nat} {x2 : State} (h : Sound l W x2) : Sound l W (fePhase n v x2) :=
  h.setRf

theorem Sound.modAir {n : Nat} {f : Air → Air} {x2 : State} (h : Sound l W x2) : Sound l W (modAir n f x2) :=
  h.modEng

theorem Sound.modExch {n : Nat} {f : Exch → Exch} {x2 : State} (h : Sound l W x2) : Sound l W (modExch n f x2) :=
  h.modEng

theorem Sound.loadFrameCfg {c : Nat} {slot : Option Nat} {pr : Nat} {cmp : Bool} {s : State} (h : Sound l W s) : Sound l W
    (loadFrameCfg c slot pr cmp s) :=
  Sound.ite h.cvuLoadCfg.setReg.setReg.setReg h.cvuLoadCfg

theorem Sound.checkOpen {c : Nat} {slot : Option Nat} {pr : Nat} {cmp : Bool} {s : State} (h : Sound l W s) : Sound l W (checkOpen c
    slot pr cmp s) :=
  Sound.ite h.loadFrameCfg.cvuCheckedBegin.cvuSetRun h.loadFrameCfg.cvuCheckedBegin

theorem Sound.checkClose {c : Nat} {slot : Option Nat} {xs : List Byte} {expect : Option Nat} {s : State} (h : Sound l W s) :
    Sound l W (checkClose c slot xs expect s) := by
  unfold Machine.checkClose
  cases expect with
  | none =>
    have hf := h.cvuFeed (c := c) (xs := xs) |>.cvuFinish (c := c)
    cases slot with
    | none => exact hf
    | some k => exact Sound.setCtx (.ite hf.setCtx32 hf)
  | some v =>
    have hf := h.setReg (a := Reg.cvuCExpect c) (w := wd v) |>.cvuFeed (c := c) (xs := xs) |>.cvuFinish (c := c)
    cases slot with
    | none => exact hf
    | some k => exact Sound.setCtx32 (Sound.setCtx (.ite hf.setCtx32 hf))

theorem Sound.checkOn {c : Nat} {slot : Option Nat} {pr : Nat} {xs : List Byte} {expect : Option Nat} {s : State} (h : Sound l W s) :
    Sound l W (checkOn c slot pr xs expect s) :=
  h.checkOpen.checkClose

theorem Sound.engOpen {n : Nat} {slot : Option Nat} {pr : Nat} {cmp : Bool} {bytes : List (Nat × Byte)} {s : State} (h : Sound l W s) :
    Sound l W (engOpen n slot pr cmp bytes s) := by
  unfold Machine.engOpen
  split
  · exact h
  · exact (Sound.modEng (Sound.checkOpen (Sound.ite h h.claimRes)))

theorem Sound.engFree {n : Nat} {k : Check} {s : State} (h : Sound l W s) : Sound l W (engFree n k s) :=
  h.modEng.sif (fun _ h' => h'.releaseRes)

theorem Sound.engClose {n : Nat} {xs : List Byte} {expect : Option Nat} {s : State} (h : Sound l W s) : Sound l W (engClose n xs expect
    s) := by
  unfold Machine.engClose
  split
  · exact h
  · exact (Sound.engFree (Sound.ite h.checkClose h))

theorem Sound.engDrop {n : Nat} {s : State} (h : Sound l W s) : Sound l W (engDrop n s) := by
  unfold Machine.engDrop
  dsimp only
  split
  · exact h.modEng
  · exact h.modEng.cvuDrop.engFree

theorem Sound.linkShift {n t d : Nat} {s : State} (h : Sound l W s) : Sound l W (linkShift n t d s) :=
  Sound.ite h.modPlayer h

theorem Sound.engShift {n d : Nat} {s : State} (h : Sound l W s) : Sound l W (engShift n d s) :=
  h.modEng.modFab.linkShift

theorem Sound.engFeed {n : Nat} {s : State} (h : Sound l W s) : Sound l W (engFeed n s) := by
  unfold Machine.engFeed
  dsimp only
  split
  · exact (by split; exacts [(Sound.ite h (Sound.ite h.engShift h.modEng.engOpen)), h])
  · exact (Sound.ite (by split; exacts [(Sound.ite h (Sound.ite h.engShift h.modEng.engOpen)), h]) (Sound.cvuFeed (Sound.modEng
      (by split; exacts [(Sound.ite h (Sound.ite h.engShift h.modEng.engOpen)), h]))))

theorem Sound.engSends {n st : Nat} {slot : Option Nat} {pr : Nat} {bytes : List (Nat × Byte)} {x5 : State} (h : Sound l W x5) : Sound
    l W (engSends n st slot pr bytes x5) :=
  h.modEng.engFeed

theorem Sound.modRadio {f : RadioSt → RadioSt} {s : State} (h : Sound l W s) : Sound l W (modRadio f s) :=
  h.parts rfl rfl rfl rfl

theorem Sound.modRx {f : RxSt → RxSt} {s : State} (h : Sound l W s) : Sound l W (modRx f s) :=
  h.parts rfl rfl rfl rfl

theorem Sound.modLink {f : LinkSt → LinkSt} {s : State} (h : Sound l W s) : Sound l W (modLink f s) :=
  h.parts rfl rfl rfl rfl

theorem Sound.modEx {f : LinkEx → LinkEx} {x1 : State} (h : Sound l W x1) : Sound l W (modEx f x1) :=
  h.modLink

theorem Sound.setLocked {b : Bool} {x1 : State} (h : Sound l W x1) : Sound l W (setLocked b x1) :=
  h.setRb

theorem Sound.searchCfg {t : Nat} {s : State} (h : Sound l W s) : Sound l W (searchCfg t s) := by
  unfold Machine.searchCfg
  exact h.setRb.modRx

theorem Sound.lateSearch {t : Nat} {s : State} (h : Sound l W s) : Sound l W (lateSearch t s) := by
  unfold Machine.lateSearch
  split
  · exact h
  · exact (Sound.ite h.modRx.recLate h)

theorem Sound.setRbState {v t : Nat} {s : State} (h : Sound l W s) : Sound l W (setRbState v t s) :=
  Sound.ite h (Sound.ite h.setRf.setRb.irq.publish.searchCfg.lateSearch h.setRf.setRb.irq.publish)

theorem Sound.dutyShow {g : Nat} {s : State} (h : Sound l W s) : Sound l W (dutyShow g s) :=
  h.setRf.setRb

theorem Sound.setBins {g : Nat} {xs : List Nat} {s : State} (h : Sound l W s) : Sound l W (setBins g xs s) :=
  h.modRadio.dutyShow

theorem Sound.clearBins {g : Nat} {s : State} (h : Sound l W s) : Sound l W (clearBins g s) :=
  h.modRadio.setBins

theorem Sound.dutySettle {g : Nat} {s : State} (h : Sound l W s) : Sound l W (dutySettle g s) :=
  Sound.ite h h.modRadio.setBins

theorem Sound.dutyAdd {g air : Nat} {s : State} (h : Sound l W s) : Sound l W (dutyAdd g air s) :=
  h.dutySettle.setBins

theorem Sound.execDutyBinAdvance {g : DutyIx} {s : State} (h : Sound l W s) : SoundNext l W (execDutyBinAdvance g s) :=
  Sound.ite h.passTo.dutySettle h

theorem Sound.txRefused {cls code cause chan : Nat} {s : State} (h : Sound l W s) : Sound l W (txRefused cls code cause chan s) :=
  h.recErrAs.irq

theorem Sound.txCheck {chan ask air : Nat} {s0 : State} (h : Sound l W s0) : Sound l W (txCheck chan ask air s0).2 :=
  Sound.ite_snd h.dutySettle.nextFree.txRefused (Sound.ite_snd h.dutySettle.txRefused.addRf
      (by split; exacts [h.dutySettle.txRefused.addRf, (Sound.ite_snd (h.dutySettle.sif (fun _ h' =>
      h'.addRf.irq.setRb)).txRefused.addRf.irq (h.dutySettle.sif (fun _ h' => h'.addRf.irq.setRb)))]))

theorem Sound.startSynth {t : Nat} {s : State} (h : Sound l W s) : Sound l W (startSynth t s) :=
  (h.setLocked.modRadio.sif (fun _ h' => h'.addRf)).setRb

theorem Sound.stopSynth {s : State} (h : Sound l W s) : Sound l W (stopSynth s) :=
  h.modRadio.setLocked.setRb

theorem Sound.radioEnter {g t : Nat} {s : State} (h : Sound l W s) : Sound l W (radioEnter g t s) :=
  Sound.ite (Sound.startSynth (Sound.ite h.setRbState (Sound.ite h.setRbState (Sound.ite h.setRbState h)))) (Sound.ite h.setRbState
      (Sound.ite h.setRbState (Sound.ite h.setRbState h)))

theorem Sound.radioMove {t : Nat} {s : State} (h : Sound l W s) : Sound l W (radioMove t s) := by
  unfold Machine.radioMove
  split
  · exact h
  · exact (Sound.ite h.radioEnter.modRadio (by split; exacts [h.radioEnter.modRadio, (Sound.ite h.radioEnter (h.radioEnter.sif (fun _
      h' => h'.stopSynth)).modRadio)]))

theorem Sound.radioTo {g t : Nat} {s : State} (h : Sound l W s) : Sound l W (radioTo g t s) :=
  h.modRadio.radioMove

theorem Sound.radioAct {q : RadioReq} {t : Nat} {r : State} (h : Sound l W r) : Sound l W (radioAct q t r) :=
  (h.modRadio.setRb.setRf.setRf.setRf.sif (fun _ h' => h'.stopSynth)).modRadio.radioTo

theorem Sound.radioAsk {q : RadioReq} {t : Nat} {s : State} (h : Sound l W s) : Sound l W (radioAsk q t s) :=
  Sound.ite h (Sound.ite h.modRadio.setRb h.radioAct)

theorem Sound.radioTake {q : RadioReq} {t : Nat} {s : State} (h : Sound l W s) : Sound l W (radioTake q t s) := by
  unfold Machine.radioTake
  split
  · exact h.radioAct
  · exact (Sound.ite h.radioAct.recLate.sectionErr h.radioAct)

theorem Sound.radioStandby {t : Nat} {s : State} (h : Sound l W s) : Sound l W (radioStandby t s) :=
  Sound.ite (Sound.ite h.modRadio.radioTo h.modRadio) (h.modRadio.sif (fun _ h' => h'.stopSynth)).setRbState

theorem Sound.rampStart {x : RadioTx} {s : State} (h : Sound l W s) : Sound l W (rampStart x s) :=
  h.modRadio.setRf.setRbState

theorem Sound.testCheck {x : RadioTx} {s : State} (h : Sound l W s) : Sound l W (testCheck x s).2 :=
  Sound.ite_snd h h.txCheck

theorem Sound.testRamp {t : Nat} {s : State} (h : Sound l W s) : Sound l W (testRamp t s) := by
  unfold Machine.testRamp
  split
  · exact h
  · next x _ =>
    have hc : Sound l W (Machine.testCheck x s).2 := h.testCheck
    refine .ite ?_ h
    split <;> rename_i heq <;> rw [heq] at hc
    · exact (hc.sif fun _ h' => h'.setRbState).rampStart
    · exact hc.modRadio.radioTo

theorem Sound.radioReturn {t : Nat} {s : State} (h : Sound l W s) : Sound l W (radioReturn t s) :=
  Sound.ite h.radioStandby (Sound.testRamp (by split; exacts [h.radioTake, (Sound.ite h h.radioTo)]))

theorem Sound.radioIdle {t : Nat} {s : State} (h : Sound l W s) : Sound l W (radioIdle t s) :=
  Sound.ite h.radioAsk h

theorem Sound.radioFreed {was : Nat} {s : State} (h : Sound l W s) : Sound l W (radioFreed was s) :=
  Sound.ite h.radioIdle h

theorem Sound.radioResume {t : Nat} {s : State} (h : Sound l W s) : Sound l W (radioResume t s) :=
  Sound.ite h (Sound.testRamp (by split; exacts [h.radioTake, h.radioIdle]))

theorem Sound.radioOff {t : Nat} {s : State} (h : Sound l W s) : Sound l W (radioOff t s) :=
  h.modRadio.setRb.stopSynth.setRbState

theorem Sound.execRadioStateReached {tick : Nat} {s : State} (h : Sound l W s) : SoundNext l W (execRadioStateReached tick s) := by
  unfold Machine.execRadioStateReached
  split
  · exact h
  · exact h.passTo.modRadio.setRbState.radioMove.testRamp

theorem Sound.rbSynReqWrite {ag : Agent} {w : Word} {x2 : State} (h : Sound l W x2) : Sound l W (rbSynReqWrite ag w x2) :=
  h.guarded (fun _ h' => (Sound.ite h' (Sound.ite h'.refusalErr (Sound.ite h'.refusalErr (Sound.ite h'.refusalErr h'.radioAsk)))))

theorem Sound.execRbSynReq {ag : Agent} {w : Word} {s : State} (h : Sound l W s) : SoundNext l W (execRbSynReq ag w s) :=
  h.rbSynReqWrite

theorem Sound.execRadioStep {s : State} (h : Sound l W s) : SoundNext l W (execRadioStep s) :=
  h.takeAny (fun _ _ h' => (Sound.ite h'.stepRefused h'.passTo.stepActed.radioAsk))

theorem Sound.execSynthCalDone {tick band gain : Nat} {s : State} (h : Sound l W s) : SoundNext l W (execSynthCalDone tick band gain s) :=
  Sound.ite h.passTo.modRadio.setReg.setRf.setRb.publish h

theorem Sound.execSynthLock {tick : Nat} {s : State} (h : Sound l W s) : SoundNext l W (execSynthLock tick s) :=
  Sound.ite (Sound.testRamp (Sound.ite h.passTo.modRadio.setRf.setLocked.irq.publish.radioReturn
      h.passTo.modRadio.setRf.setLocked.irq.publish.radioMove)) h

theorem Sound.execSynthSearchTimeout {s : State} (h : Sound l W s) : SoundNext l W (execSynthSearchTimeout s) :=
  Sound.ite h.passTo.modRadio h

theorem Sound.tailStart {x : RadioTx} {t : Nat} {s : State} (h : Sound l W s) : Sound l W (tailStart x t s) :=
  h.passTo.modRadio.setRbState

theorem Sound.aerialMismatch {t : Nat} {s : State} (h : Sound l W s) : Sound l W (aerialMismatch t s) := by
  unfold Machine.aerialMismatch
  split
  · exact h.addRf.irq.publish.recErrAs.setRb
  · exact h.addRf.irq.publish.recErrAs.setRb.irqLevel
  · exact h.addRf.irq.publish.recErrAs

theorem Sound.execAerialMmDone {gamma : Nat} {phase : ℤ} {s : State} (h : Sound l W s) : SoundNext l W (execAerialMmDone gamma phase s)
    := by
  unfold Machine.execAerialMmDone
  split
  · exact h
  · exact (Sound.ite h (Sound.ite h.passTo.modRadio.setReg.aerialMismatch h.passTo.modRadio.setReg))

theorem Sound.execAntTuneApply {s : State} (h : Sound l W s) : SoundNext l W (execAntTuneApply s) :=
  Sound.ite h h.passTo.modRadio

theorem Sound.rbSynCntClr {ag : Agent} {w : Word} {x2 : State} (h : Sound l W x2) : Sound l W (rbSynCntClr ag w x2) :=
  h.guarded (fun _ h' => ((h'.sif (fun _ h1 => h1.setReg)).sif (fun _ h1 => h1.setReg)))

theorem Sound.execRbSynCntClr {ag : Agent} {w : Word} {s : State} (h : Sound l W s) : SoundNext l W (execRbSynCntClr ag w s) :=
  h.rbSynCntClr

theorem Sound.rbTxCntClr {ag : Agent} {w : Word} {x2 : State} (h : Sound l W x2) : Sound l W (rbTxCntClr ag w x2) :=
  h.guarded (fun _ h' => (h'.sif (fun _ h1 => h1.setReg.setReg)))

theorem Sound.execRbTxCntClr {ag : Agent} {w : Word} {s : State} (h : Sound l W s) : SoundNext l W (execRbTxCntClr ag w s) :=
  h.rbTxCntClr

theorem Sound.survClear {s : State} (h : Sound l W s) : Sound l W (survClear s) :=
  h.setReg.setReg.setReg.setReg

theorem Sound.rbAntCntClr {ag : Agent} {w : Word} {x2 : State} (h : Sound l W x2) : Sound l W (rbAntCntClr ag w x2) :=
  h.guarded (fun _ h' => ((h'.sif (fun _ h1 => h1.setReg)).sif (fun _ h1 => h1.survClear)))

theorem Sound.execRbAntCntClr {ag : Agent} {w : Word} {s : State} (h : Sound l W s) : SoundNext l W (execRbAntCntClr ag w s) :=
  h.rbAntCntClr

theorem Sound.setTxFcnt {k v : Nat} {x2 : State} (h : Sound l W x2) : Sound l W (setTxFcnt k v x2) :=
  h.setMem

theorem Sound.setRxFcnt {k v : Nat} {x2 : State} (h : Sound l W x2) : Sound l W (setRxFcnt k v x2) :=
  h.setMem

theorem Sound.setAttempts {k pw v : Nat} {s : State} (h : Sound l W s) : Sound l W (setAttempts k pw v s) :=
  Sound.ite h.setCtx (Sound.ite h.setCtx h)

theorem Sound.linkOpen {cmp : Bool} {s : State} (h : Sound l W s) : Sound l W (linkOpen cmp s) := by
  unfold Machine.linkOpen
  split
  · exact h
  · exact (Sound.ite h h.checkOpen)

theorem Sound.linkShut {slot : Option Nat} {xs : List Byte} {expect : Option Nat} {s : State} (h : Sound l W s) : Sound l W (linkShut
    slot xs expect s) := by
  unfold Machine.linkShut
  split
  · exact h
  · exact (Sound.ite h (by split; exacts [h.checkClose, (Sound.setCtx (by split; exacts [h.checkClose, h.checkClose.setCtx32]))]))

theorem Sound.linkDrop {s : State} (h : Sound l W s) : Sound l W (linkDrop s) := by
  unfold Machine.linkDrop
  split
  · exact h
  · exact h.cvuDrop

theorem Sound.wipe {i : Item} {k : Nat} {s : State} (h : Sound l W s) : Sound l W (wipe i k s) :=
  Sound.ite h.poolStore h

theorem Sound.windowsIdle {x0 : State} (h : Sound l W x0) : Sound l W (windowsIdle x0) :=
  h.modRx

theorem Sound.wipeAll {s : State} (h : Sound l W s) : Sound l W (wipeAll s) :=
  h.foldl (fun _ _ h' => (h'.sif (fun _ h1 => (h1.forEach (fun _ _ h2 => h2.setBytes)))))

theorem Sound.closeLink {x : LinkEx} {o0 : LinkOut} {s : State} (h : Sound l W s) : Sound l W (closeLink x o0 s) :=
  (h.modLink.faultsMet.windowsIdle.wipe.postResult.sif (fun _ h' => h'.incCtx16)).frameDone

theorem Sound.finishLink {o : LinkOut} {s : State} (h : Sound l W s) : Sound l W (finishLink o s) := by
  unfold Machine.finishLink
  split
  · exact h
  · exact (Sound.ite (Sound.ite h.closeLink h.faultsMet.modEx.incCtx16.windowsIdle) h.closeLink)

theorem Sound.noPacket {outcome t : Nat} {s : State} (h : Sound l W s) : Sound l W (noPacket outcome t s) := by
  unfold Machine.noPacket
  split
  · exact h
  · exact (Sound.ite h.finishLink h.finishLink)

theorem Sound.linkFault {e t : Nat} {s : State} (h : Sound l W s) : Sound l W (linkFault e t s) := by
  unfold Machine.linkFault
  split
  · exact h
  · exact h.modEx.noPacket

theorem Sound.announced {f : LinkRx} {s : State} (h : Sound l W s) : Sound l W (announced f s) :=
  h.forEach (fun _ _ h' => (h'.sif (fun _ h1 => h1.setTxFcnt)).setCtx.setAttempts.setAttempts)

theorem Sound.linkAccept {f : LinkRx} {k : Nat} {cmd : Option Item} {s : State} (h : Sound l W s) :
    Sound l W (linkAccept f k cmd s) := by
  have hpw : ∀ (t : State) (o : Option Nat) (g : Nat → Nat), Sound l W t → Sound l W
      (match o with
        | some pw => if f.at_ 12 = 0xff then t else Machine.setAttempts k pw (g pw) t
        | none => t) := by
    intro t o g ht
    split
    · exact .ite ht ht.setAttempts
    · exact ht
  have ha : Sound l W (if s.isBroadcast k then s else Machine.setRxFcnt k f.fcnt s) := .ite h h.setRxFcnt
  unfold Machine.linkAccept
  cases cmd with
  | none => exact ha
  | some i =>
    have hc := fun v => hpw _ (namedPw i) (fun _ => f.at_ 12 % 16) (ha.setCtx (k := k) (o := 0x8a) (v := v))
    exact .ite ha (.ite ha.setCtx (.ite (Sound.setRxFcnt (Sound.setTxFcnt (.ite (Sound.recErr (hc _)) (hc _))))
      (.ite (Sound.recErr (hc _)) (hc _))))

theorem Sound.postFrame {f : LinkRx} {k : Option Nat} {o : LinkOut} {s : State} (h : Sound l W s) : Sound l W (postFrame f k o s) :=
  h.postUnsolicited

theorem Sound.unsolicited {f : LinkRx} {s : State} (h : Sound l W s) : Sound l W (unsolicited f s) := by
  unfold Machine.unsolicited
  cases s.frameSlot f with
  | none => exact .ite h.incCtx16 (Sound.postFrame (.ite h.announced h))
  | some k =>
    have ht : Sound l W (Machine.incCtx32 k 0xb4 s) := h.incCtx32
    have hu := Sound.ite (c := s.linkStatus f (some k) = 0) (ht.linkAccept (f := f) (k := k) (cmd := none)) ht
    exact .ite ht.incCtx16 (Sound.postFrame (.ite hu.announced hu))

theorem Sound.linkReply {x : LinkEx} {f : LinkRx} {s : State} (h : Sound l W s) : Sound l W (linkReply x f s) :=
  Sound.finishLink (Sound.ite (Sound.announced (Sound.ite (Sound.setCtx32 (Sound.linkAccept (Sound.incCtx32 (Sound.poolStore (Sound.ite
      h h.nextFree))))) (Sound.incCtx32 (Sound.poolStore (Sound.ite h h.nextFree))))) (Sound.ite (Sound.setCtx32 (Sound.linkAccept
      (Sound.incCtx32 (Sound.poolStore (Sound.ite h h.nextFree))))) (Sound.incCtx32 (Sound.poolStore (Sound.ite h h.nextFree)))))

theorem Sound.wakeFrame {x : LinkEx} {f : LinkRx} {s : State} (h : Sound l W s) : Sound l W (wakeFrame x f s) :=
  Sound.ite h.fault.incCtx32 (Sound.ite h.unsolicited (Sound.ite h.incCtx32 (Sound.ite
      h.incCtx32.linkAccept.announced.setCtx32.nextFree h.incCtx32.linkAccept.announced.setCtx32.nextFree.modEx.postResult)))

theorem Sound.linkIn {f : LinkRx} {mine : Bool} {s : State} (h : Sound l W s) : Sound l W (linkIn f mine s) := by
  unfold Machine.linkIn
  dsimp only
  split
  · exact h.modLink.unsolicited
  · exact (Sound.ite h.modLink.unsolicited (Sound.ite h.modLink.wakeFrame (Sound.ite h.modLink.unsolicited h.modLink.linkReply)))

theorem Sound.wakeRoundEnd {x : LinkEx} {s : State} (h : Sound l W s) : Sound l W (wakeRoundEnd x s) :=
  Sound.ite h.closeLink (Sound.ite h.recErr.closeLink h.modEx)

theorem Sound.linkSettle {s : State} (h : Sound l W s) : Sound l W (linkSettle s) := by
  unfold Machine.linkSettle
  split
  · exact h
  · exact (Sound.ite h (Sound.ite h.wakeRoundEnd (Sound.ite h.closeLink h.noPacket)))

theorem Sound.execRbExchange {s : State} (h : Sound l W s) : SoundNext l W (execRbExchange s) :=
  h.dispatchExchange (fun _ _ _ h' => h')

theorem Sound.execXbExchange {s : State} (h : Sound l W s) : SoundNext l W (execXbExchange s) :=
  h.dispatchExchange (fun _ _ _ h' => h')

theorem Sound.guardCount {n t : Nat} {s : State} (h : Sound l W s) : Sound l W (guardCount n t s) :=
  h.modEng.setRb

theorem Sound.guardClear {n : Nat} {s : State} (h : Sound l W s) : Sound l W (guardClear n s) :=
  h.modEng.setRb

theorem Sound.envelopeCuts {n st : Nat} {s : State} (h : Sound l W s) : Sound l W (envelopeCuts n st s) :=
  h.forEach (fun _ _ h' => (h'.sif (fun _ h1 => h1.mmAbandon)))

theorem Sound.envelopeEnd {n : Nat} {s : State} (h : Sound l W s) : Sound l W (envelopeEnd n s) :=
  (h.forEach (fun _ _ h' => h'.modCoil.setRf)).govern

theorem Sound.sendFrame {n : Nat} {f : TxFrame} {slot : Option Nat} {rate floor waited t : Nat} {s : State} (h : Sound l W s) : Sound l
    W (sendFrame n f slot rate floor waited t s) :=
  ((h.sif (fun _ h' => h'.recErr.irq.addRf.engErr)).sif (fun _ h' => h'.engSends)).envelopeCuts.linkShift.modAir.fePhase.feEvent.govern

theorem Sound.stdSettle {n : Nat} {s : State} (h : Sound l W s) : Sound l W (stdSettle n s) :=
  Sound.ite h.dropStaged.modEng.stagePlain.stageReport h

theorem Sound.noStart {n : Nat} {s : State} (h : Sound l W s) : Sound l W (noStart n s) :=
  Sound.ite h.modFab h

theorem Sound.engIdle {n err : Nat} {s : State} (h : Sound l W s) : Sound l W (engIdle n err s) :=
  (h.noStart.engDrop.modEng.setReg.sif (fun _ h' => h'.envelopeEnd)).stdSettle

theorem Sound.halfDone {status err ts : Nat} {errs : List Nat} {s : State} (h : Sound l W s) : Sound l W (halfDone status err ts errs
    s) :=
  h.modEx.linkSettle

theorem Sound.exchErr {n : Nat} {o : RxOut} {s : State} (h : Sound l W s) : Sound l W (exchErr n o s) :=
  h.sif (fun _ h' => h'.irq.feEvent)

theorem Sound.setFdt {n fdt : Nat} {x2 : State} (h : Sound l W x2) : Sound l W (setFdt n fdt x2) :=
  h.setReg

theorem Sound.saveBlockNr {x : Exch} {s : State} (h : Sound l W s) : Sound l W (saveBlockNr x s) :=
  h.sif (fun _ h' => h'.setCtx)

theorem Sound.finishExch {n : Nat} {o : RxOut} {s : State} (h : Sound l W s) : Sound l W (finishExch n o s) := by
  unfold Machine.finishExch
  split
  · exact h
  · exact (Sound.ite h.setFdt.exchErr.saveBlockNr.faultsMet.engIdle.halfDone
      (h.setFdt.exchErr.saveBlockNr.faultsMet.engIdle.postResult.sif (fun _ h' => h'.incCtx16)).frameDone)

theorem Sound.localise {n : Nat} {m : List Nat} {s : State} (h : Sound l W s) : Sound l W (localise n m s) :=
  (h.forEach (fun _ _ h' => h'.setReg)).setReg.setReg.irq

theorem Sound.setPosition {k : Nat} {f : Nat × Nat × Nat} {s : State} (h : Sound l W s) : Sound l W (setPosition k f s) :=
  h.setCtx16.setCtx16.setCtx.setCtx

theorem Sound.localiseReply {n k : Nat} {m : List Nat} {s : State} (h : Sound l W s) : Sound l W (localiseReply n k m s) :=
  Sound.ite h.localise.setPosition.followTest h

theorem Sound.receive {n : Nat} {slot : Option Nat} {pr store : Nat} {r : HfReply} {s : State} (h : Sound l W s) : Sound l W (receive n
    slot pr store r s).2 :=
  Sound.sif (Sound.sif (Sound.sif (Sound.sif (Sound.ite h.nextFree.engClose (Sound.ite h.nextFree.engClose h.nextFree.engClose)) (fun _
      h' => h'.recErr)) (fun _ h' => h'.irq)) (fun _ h' => h'.addRf)) (fun _ h' => h'.addRf)

theorem Sound.replyEnded {n t status : Nat} {s : State} (h : Sound l W s) : Sound l W (replyEnded n t status s) :=
  h.modEng.addRf.irq.feEvent

theorem Sound.noReplyCount {n status : Nat} {s : State} (h : Sound l W s) : Sound l W (noReplyCount n status s) :=
  Sound.setFdt (Sound.ite h.addRf.irq h.addRf)

theorem Sound.noReply {n t status : Nat} {s : State} (h : Sound l W s) : Sound l W (noReply n t status s) :=
  h.modEng.noReplyCount

theorem Sound.rxCut {n t : Nat} {x2 : State} (h : Sound l W x2) : Sound l W (rxCut n t x2) :=
  h.modEng

theorem Sound.engFault {n cause t : Nat} {s : State} (h : Sound l W s) : Sound l W (engFault n cause t s) :=
  h.rxCut.engErr.finishExch

theorem Sound.clearBlockNr {n : Nat} {s : State} (h : Sound l W s) : Sound l W (clearBlockNr n s) :=
  h.forEach (fun _ _ h' => (Sound.ite h'.setCtx h'))

theorem Sound.rateNote {_i : Item} {k : Nat} {s : State} (h : Sound l W s) : Sound l W (rateNote _i k s) :=
  h.sif (fun _ h' => h'.recErr)

theorem Sound.execHfExchange {s : State} (h : Sound l W s) : SoundNext l W (execHfExchange s) :=
  h.dispatchExchange (fun _ _ _ h' => h'.rateNote)

theorem Sound.l4Finish {n : Nat} {x : Exch} {xs : L4St} {o : RxOut} {s : State} (h : Sound l W s) : Sound l W (l4Finish n x xs o s) :=
  (h.modExch.sif (fun _ h' => h'.irq)).finishExch

theorem Sound.turnaround {n : Nat} {s : State} (h : Sound l W s) : Sound l W (turnaround n s) := by
  unfold Machine.turnaround
  split
  · exact h
  · exact (Sound.ite (by split; exacts [h.startSection, h.engFault]) h)

theorem Sound.l4Go {n : Nat} {xs : L4St} {s : State} (h : Sound l W s) : Sound l W (l4Go n xs s) :=
  h.modExch.fePhase.turnaround

theorem Sound.l4Retry {n : Nat} {x : Exch} {xs : L4St} {next : Nat} {o : RxOut} {s : State} (h : Sound l W s) : Sound l W (l4Retry n x
    xs next o s) :=
  Sound.ite h.modExch.incCtx16.l4Go h.l4Finish

theorem Sound.l4Block {n : Nat} {x : Exch} {b : List Byte} {o : RxOut} {s : State} (h : Sound l W s) : Sound l W (l4Block n x b o s) :=
  Sound.ite h.addRf.l4Retry (Sound.ite (Sound.ite h.addRf.l4Retry (Sound.ite h.l4Retry (Sound.ite h.l4Go h.l4Finish))) (Sound.ite
      (Sound.ite h.l4Retry (Sound.ite h.l4Go h.addRf.l4Retry)) (Sound.ite (Sound.ite h.addRf.l4Go h.addRf.l4Retry) h.addRf.l4Retry)))

theorem Sound.l4Reply {n : Nat} {x : Exch} {o : RxOut} {s : State} (h : Sound l W s) : Sound l W (l4Reply n x o s) :=
  Sound.ite h.l4Finish (Sound.ite h.modExch.l4Block h.l4Retry)

theorem Sound.tagContext {k : Nat} {d : Disc} {t : TagFound} {s : State} (h : Sound l W s) : Sound l W (tagContext k d t s) :=
  h.setCtx.setCtx.setCtx.setBytes.setPosition

theorem Sound.postTag {n : Nat} {d : Disc} {t : TagFound} {x3 err : Nat} {s : State} (h : Sound l W s) : Sound l W (postTag n d t x3
    err s) :=
  h.postResult

theorem Sound.foundTag {n : Nat} {d : Disc} {t : TagFound} {s : State} (h : Sound l W s) : Sound l W (foundTag n d t s).2 :=
  Sound.ite_snd h (Sound.ite_snd h.postTag (by split; exacts [h.irq.postTag, h.openSession.bindTo.tagContext.postTag]))

theorem Sound.finishDisc {n : Nat} {d : Disc} {s : State} (h : Sound l W s) : Sound l W (finishDisc n d s) :=
  h.modEng.engIdle.postResult

theorem Sound.discGo {n : Nat} {d : Disc} {s : State} (h : Sound l W s) : Sound l W (discGo n d s) :=
  h.modEng.fePhase

theorem Sound.discPoll {n : Nat} {d : Disc} {s : State} (h : Sound l W s) : Sound l W (discPoll n d s) := by
  unfold Machine.discPoll
  split <;> exact h.discGo

theorem Sound.discNextTag {n : Nat} {d : Disc} {s : State} (h : Sound l W s) : Sound l W (discNextTag n d s) :=
  Sound.ite h.finishDisc h.discPoll

theorem Sound.discUnresolved {n : Nat} {d : Disc} {bits : List Bool} {c : Option Nat} {s : State} (h : Sound l W s) : Sound l W
    (discUnresolved n d bits c s) :=
  h.foundTag.discNextTag

theorem Sound.discCoding {n : Nat} {d : Disc} {s : State} (h : Sound l W s) : Sound l W (discCoding n d s) :=
  Sound.ite h.discUnresolved h.discGo

theorem Sound.levelKnown {n : Nat} {d : Disc} {bits : List Bool} {s : State} (h : Sound l W s) : Sound l W (levelKnown n d bits s) :=
  Sound.ite h.discCoding h.discGo

theorem Sound.onAnticol {n : Nat} {d : Disc} {o : RxOut} {nbits : Nat} {s : State} (h : Sound l W s) : Sound l W (onAnticol n d o nbits
    s) :=
  Sound.ite (Sound.ite h.discCoding (Sound.ite h.discUnresolved (Sound.ite h.discGo h.levelKnown))) (Sound.ite h.discCoding h.levelKnown)

theorem Sound.discPos {n : Nat} {loc : List Nat} {s : State} (h : Sound l W s) : Sound l W (discPos n loc s).2 :=
  Sound.ite_snd h.localise h

theorem Sound.onSelect {n : Nat} {d : Disc} {o : RxOut} {loc : List Nat} {s : State} (h : Sound l W s) : Sound l W (onSelect n d o loc
    s) :=
  Sound.ite (Sound.ite h.discUnresolved h.discGo) (Sound.ite h.discGo (Sound.ite h.discPos.foundTag.discGo
      h.discPos.foundTag.discNextTag))

theorem Sound.onPoll {n : Nat} {d : Disc} {o : RxOut} {answered : Bool} {s : State} (h : Sound l W s) : Sound l W (onPoll n d o
    answered s) :=
  Sound.ite (Sound.ite h.discPoll h.finishDisc) (Sound.ite h.discGo (Sound.ite h.discGo h.discGo))

theorem Sound.onResel {n : Nat} {d : Disc} {o : RxOut} {s : State} (h : Sound l W s) : Sound l W (onResel n d o s) :=
  Sound.ite h.discPoll (Sound.ite h.discGo h.discGo)

theorem Sound.onTypeA {n : Nat} {d : Disc} {o : RxOut} {answered : Bool} {nbits : Nat} {loc : List Nat} {s : State} (h : Sound l W s) :
    Sound l W (onTypeA n d o answered nbits loc s) := by
  unfold Machine.onTypeA
  split
  · exact h.onPoll
  · exact (Sound.ite h.onAnticol h.discPoll)
  · exact h.onSelect
  · exact h.discNextTag
  · exact h.onResel

theorem Sound.discExhausted {n : Nat} {d : Disc} {s : State} (h : Sound l W s) : Sound l W (discExhausted n d s) := by
  have hfold : ∀ (xs : List Nat) (f : State → Nat → TagFound) (p : Disc × State), Sound l W p.2 →
      Sound l W (xs.foldl (fun (p : Disc × State) x => Machine.foundTag n p.1 (f p.2 x) p.2) p).2 := by
    intro xs f
    induction xs with
    | nil => exact fun _ hp => hp
    | cons x xs ih => exact fun p hp => ih _ hp.foundTag
  exact .ite (Sound.finishDisc (hfold _ (fun t _ => { id := [], err := Err.collisionUnresolved, ts := t.now }) (d, s) h)) h.finishDisc

theorem Sound.roundEnd {n : Nat} {d0 : Disc} {s : State} (h : Sound l W s) : Sound l W (roundEnd n d0 s) :=
  Sound.ite h.discGo (Sound.ite h.finishDisc (Sound.ite (by split; exacts [h.finishDisc, h.discGo]) (Sound.ite h.finishDisc (Sound.ite
      h.discExhausted h.discGo))))

theorem Sound.nextSlot {n : Nat} {d : Disc} {s : State} (h : Sound l W s) : Sound l W (nextSlot n d s) :=
  Sound.ite (Sound.ite h.discGo h.finishDisc) (Sound.ite h.discGo h.roundEnd)

theorem Sound.slotOutcome {n : Nat} {d : Disc} {k : Nat} {o : RxOut} {loc : List Nat} {s : State} (h : Sound l W s) : Sound l W
    (slotOutcome n d k o loc s).2 :=
  Sound.ite_snd h (Sound.ite_snd h (by split; exacts [h, h.discPos.foundTag]))

theorem Sound.onSlot {n : Nat} {d : Disc} {o : RxOut} {answered : Bool} {slot18 : Nat} {loc : List Nat} {s : State} (h : Sound l W s) :
    Sound l W (onSlot n d o answered slot18 loc s) :=
  Sound.ite (Sound.ite h.roundEnd h.nextSlot) (Sound.ite (Sound.ite (Sound.ite h.slotOutcome.finishDisc (Sound.ite
      h.slotOutcome.roundEnd h.slotOutcome.modEng)) h.roundEnd) (Sound.ite (Sound.discGo (Sound.ite_snd h.slotOutcome h))
      (Sound.nextSlot (Sound.ite_snd h.slotOutcome h))))

theorem Sound.onDisc {n : Nat} {d : Disc} {o : RxOut} {answered : Bool} {nbits slot18 : Nat} {loc : List Nat} {s : State} (h : Sound l
    W s) : Sound l W (onDisc n d o answered nbits slot18 loc s) :=
  Sound.ite h.onTypeA h.onSlot

theorem Sound.startDisc {n : Nat} {s : State} (h : Sound l W s) : Sound l W (startDisc n s) := by
  unfold Machine.startDisc
  split
  · exact h
  · exact (Sound.ite h (Sound.ite h.modEng.refuse (Sound.ite h.modEng.refuse (by split; exacts [h.modEng.refuse, h.modEng.refuseLate,
      (Sound.startSection (Sound.fePhase (Sound.modEng (Sound.ite h.modEng.nextFree h.modEng))))]))))

theorem Sound.execDiscover {s : State} (h : Sound l W s) : SoundNext l W (execDiscover s) :=
  h.dispatch (fun _ _ h' => (Sound.ite h'.refuse (Sound.ite h'.refuse h'.modEng.startDisc)))

theorem Sound.dropPending {k : Nat} {s : State} (h : Sound l W s) : Sound l W (dropPending k s) :=
  h.setPend

theorem Sound.startHf {k n : Nat} {i : Item} {s : State} (h : Sound l W s) : Sound l W (startHf k n i s) := by
  unfold Machine.startHf
  dsimp only
  split
  · exact h.dropPending.refuseFor
  · exact (by split; exacts [h.dropPending.refuseFor, h.dropPending.refuseLate, (h.dropPending.sif (fun _ h' =>
      h'.setSessState)).modEng.setReg.startSection])

theorem Sound.engSettle {n : Nat} {s : State} (h : Sound l W s) : Sound l W (engSettle n s) := by
  unfold Machine.engSettle
  split
  · exact (Sound.ite h.noReplyCount.finishExch h)
  · exact (Sound.ite h.finishDisc h)
  · exact h

theorem Sound.exchSend {n floor waited t : Nat} {x : Exch} {s : State} (h : Sound l W s) : Sound l W (exchSend n floor waited t x s) :=
  Sound.ite h.modExch.sendFrame h.modExch.sendFrame

theorem Sound.firstRefused {n c : Nat} {s : State} (h : Sound l W s) : Sound l W (firstRefused n c s) := by
  unfold Machine.firstRefused
  split
  · exact h.engIdle.refuseFor.frameDone
  · exact h.modEng.engIdle.refuse
  · exact h

theorem Sound.eofAct {n floor waited t sec : Nat} {s : State} (h : Sound l W s) : Sound l W (eofAct n floor waited t sec s) :=
  Sound.ite h (h.modExch.sif (fun _ h' => h'.modEng)).sendFrame

theorem Sound.txAct {n floor waited t : Nat} {i : Issued} {s : State} (h : Sound l W s) : Sound l W (txAct n floor waited t i s) :=
  Sound.ite h.stepRefused (by split; exacts [h.firstRefused, (Sound.ite h.eofAct (by split; exacts [(Sound.ite h.exchSend h),
      (Sound.ite h h.modEng.sendFrame), h]))])

theorem Sound.openWindow {n : Nat} {i : Issued} {s : State} (h : Sound l W s) : Sound l W (openWindow n i s) := by
  unfold Machine.openWindow
  exact h.modAir

theorem Sound.heldStep {n floor : Nat} {i : Issued} {s : State} (h : Sound l W s) : Sound l W (heldStep n floor i s) :=
  Sound.ite h.modEng (Sound.ite h.txAct h.openWindow)

theorem Sound.serveWaits {n : Nat} {s : State} (h : Sound l W s) : Sound l W (serveWaits n s) := by
  unfold Machine.serveWaits
  split
  · exact h
  · exact (h.modEng.foldl (fun _ _ h' => h'.heldStep)).modEng

theorem Sound.engAfter {n : Nat} {s : State} (h : Sound l W s) : Sound l W (engAfter n s) :=
  h.engSettle.serveWaits.startDisc

theorem Sound.execTxStep {n : EngIx} {s : State} (h : Sound l W s) : SoundNext l W (execTxStep n s) :=
  h.takeStep (fun _ _ h' => (Sound.ite h'.passTo.stepActed.modEng h'.passTo.stepActed.txAct.engAfter))

theorem Sound.execRxwinStep {n : EngIx} {s : State} (h : Sound l W s) : SoundNext l W (execRxwinStep n s) :=
  h.takeStep (fun _ _ h' => (Sound.ite h'.stepRefused.engAfter (Sound.ite h'.passTo.stepActed.modEng h'.passTo.stepActed.openWindow)))

theorem Sound.txEnded {n r : Nat} {s : State} (h : Sound l W s) : Sound l W (txEnded n r s) := by
  unfold Machine.txEnded
  split
  · exact h
  · exact (Sound.ite h.incCtx32.finishExch h.incCtx32)

theorem Sound.engSent {n : Nat} {s : State} (h : Sound l W s) : Sound l W (engSent n s) :=
  h.engFeed.engClose

theorem Sound.engBegun {n : Nat} {s : State} (h : Sound l W s) : Sound l W (engBegun n s) := by
  unfold Machine.engBegun
  split
  · exact h
  · exact h.passTo.engFeed

theorem Sound.execHfTxEnd {n : EngIx} {s0 : State} (h : Sound l W s0) : SoundNext l W (execHfTxEnd n s0) := by
  unfold Machine.execHfTxEnd
  dsimp only
  split
  · exact h.engBegun
  · exact (Sound.ite h.engBegun h.engBegun.passTo.envelopeEnd.modEng.engSent.addRf.irq.fePhase.feEvent.txEnded.engAfter)

theorem Sound.execGuardDone {n : EngIx} {s : State} (h : Sound l W s) : SoundNext l W (execGuardDone n s) := by
  unfold Machine.execGuardDone
  split
  · exact h
  · exact (Sound.ite h h.passTo.setRb.irq.feEvent)

theorem Sound.windowOutcome {n : Nat} {o : RxOut} {answered : Bool} {nbits slot18 : Nat} {loc : List Nat} {s : State} (h : Sound l W s)
    : Sound l W (windowOutcome n o answered nbits slot18 loc s) := by
  unfold Machine.windowOutcome
  split
  · exact (Sound.engAfter (Sound.ite h.l4Reply h.finishExch))
  · exact h.exchErr.onDisc.engAfter
  · exact h.fePhase

theorem Sound.windowEnd {n t status : Nat} {s : State} (h : Sound l W s) : Sound l W (windowEnd n t status s) :=
  h.modAir.noReply.windowOutcome

theorem Sound.hearCheck {n : Nat} {s : State} (h : Sound l W s) : Sound l W (hearCheck n s) :=
  h.engOpen

theorem Sound.execHfRxSof {n : EngIx} {tick ends : Nat} {low : Bool} {shape : SofShape} {s : State} (h : Sound l W s) : SoundNext l W
    (execHfRxSof n tick ends low shape s) := by
  unfold Machine.execHfRxSof
  dsimp only
  split
  · exact (Sound.ite h (Sound.ite h.passTo.windowEnd (by split; exacts [h, (Sound.ite h
      h.passTo.modAir.hearCheck.setPair.fePhase.feEvent)])))
  · exact h

theorem Sound.replyEnd {n : Nat} {r : HfReply} {sof : Nat} {s : State} (h : Sound l W s) : Sound l W (replyEnd n r sof s) :=
  Sound.windowOutcome (Sound.ite (by split; exacts [h.passTo.receive.setFdt.replyEnded.modEng,
      h.passTo.receive.setFdt.replyEnded.modEng.poolStore.incCtx32.localiseReply]) (Sound.modAir
      (by split; exacts [h.passTo.receive.setFdt.replyEnded.modEng,
      h.passTo.receive.setFdt.replyEnded.modEng.poolStore.incCtx32.localiseReply])))

theorem Sound.execHfRxEnd {n : EngIx} {r : HfReply} {s : State} (h : Sound l W s) : SoundNext l W (execHfRxEnd n r s) := by
  unfold Machine.execHfRxEnd
  split
  · exact h
  · exact (Sound.ite h (Sound.ite h.passTo.modEng h.replyEnd))

theorem Sound.serveHeard {n : Nat} {s : State} (h : Sound l W s) : Sound l W (serveHeard n s) := by
  unfold Machine.serveHeard
  split
  · exact (Sound.ite h (h.sif (fun _ h' => h'.hearCheck)).modEng.replyEnd)
  · exact h

theorem Sound.engServe {n : Nat} {s : State} (h : Sound l W s) : Sound l W (engServe n s) :=
  h.engFeed.serveHeard.serveWaits.startDisc

theorem Sound.execRxWindowClose {n : EngIx} {s : State} (h : Sound l W s) : SoundNext l W (execRxWindowClose n s) := by
  unfold Machine.execRxWindowClose
  split
  · exact (Sound.ite h.passTo.modEng.engAfter (by split; exacts [(Sound.ite h.passTo.modAir.onDisc.engAfter h.passTo.windowEnd),
      h.passTo.windowEnd]))
  · exact h

theorem Sound.abortEngine {n cause t : Nat} {s : State} (h : Sound l W s) : Sound l W (abortEngine n cause t s) := by
  unfold Machine.abortEngine
  split
  · exact h.engFault.engAfter
  · exact h.rxCut.finishDisc.engAfter
  · exact h

theorem Sound.execFeAbort {n : EngIx} {s : State} (h : Sound l W s) : SoundNext l W (execFeAbort n s) :=
  h.onTask (fun _ _ h' => h'.passTo.abortEngine)

theorem Sound.fieldStopped {n cause t : Nat} {s : State} (h : Sound l W s) : Sound l W (fieldStopped n cause t s) :=
  h.fieldFollow.guardClear.faultOpt.irq.feEvent.abortEngine.clearBlockNr

theorem Sound.feCntClr {ag : Agent} {n : Nat} {w : Word} {x3 : State} (h : Sound l W x3) : Sound l W (feCntClr ag n w x3) :=
  h.hold (fun _ h' => (h'.guarded (fun _ h1 => ((h1.sif (fun _ h2 => h2.setReg)).sif (fun _ h2 => h2.setReg.setReg)))))

theorem Sound.execFenCntClr {ag : Agent} {n : EngIx} {w : Word} {s : State} (h : Sound l W s) : SoundNext l W (execFenCntClr ag n w s) :=
  h.feCntClr

theorem Sound.codesTaken {x : RbSamples} {s : State} (h : Sound l W s) : Sound l W (codesTaken x s) := by
  unfold Machine.codesTaken
  split
  · exact h
  · exact (h.parts rfl rfl rfl rfl)

theorem Sound.modWin {tag : Nat} {f : RbWindow → RbWindow} {x2 : State} (h : Sound l W x2) : Sound l W (modWin tag f x2) :=
  h.modRx

theorem Sound.recordOutcome {tag : Nat} {s : State} (h : Sound l W s) : Sound l W (recordOutcome tag s) := by
  unfold Machine.recordOutcome
  split
  · exact h
  · exact h.setReg.irq.modWin

theorem Sound.exWindow {w : RbWindow} {t : Nat} {s : State} (h : Sound l W s) : Sound l W (exWindow w t s) := by
  unfold Machine.exWindow
  split
  · exact h
  · exact (Sound.ite h (Sound.ite h.modEx (Sound.ite h h.noPacket)))

theorem Sound.closeOut {tag t : Nat} {s : State} (h : Sound l W s) : Sound l W (closeOut tag t s) := by
  unfold Machine.closeOut
  split
  · exact h
  · exact (Sound.linkSettle (Sound.exWindow (Sound.modRx (Sound.ite h h.recordOutcome))))

theorem Sound.setAside {t : Nat} {s : State} (h : Sound l W s) : Sound l W (setAside t s) :=
  Sound.ite h.modRx h.closeOut

theorem Sound.openRbGo {i : Issued} {o : Nat} {mine : Bool} {s : State} (h : Sound l W s) : Sound l W (openRb.go i o s mine) :=
  Sound.sif (Sound.modRx h.setAside) fun _ h' => h'.sectionErr

theorem Sound.openRb {i : Issued} {o : Nat} {s : State} (h : Sound l W s) : Sound l W (openRb i o s) := by
  unfold Machine.openRb
  split
  · exact .ite h.sectionErr.noPacket h.openRbGo
  · exact h.openRbGo

theorem Sound.execRbwinStep {s : State} (h : Sound l W s) : SoundNext l W (execRbwinStep s) :=
  h.takeAny (fun _ _ h' => (Sound.ite h'.stepRefused h'.passTo.stepActed.openRb.linkSettle))

theorem Sound.execRbWindowClose {s : State} (h : Sound l W s) : SoundNext l W (execRbWindowClose s) := by
  unfold Machine.execRbWindowClose
  split
  · exact h
  · exact (Sound.ite h (Sound.ite (Sound.ite h.passTo.modWin h.passTo.modWin.closeOut) (Sound.ite (Sound.modRx (Sound.ite
      h.passTo.modWin h.passTo.modWin.closeOut)) (Sound.radioReturn (Sound.ite h.passTo.modWin h.passTo.modWin.closeOut)))))

theorem Sound.showFloor {s : State} (h : Sound l W s) : Sound l W (showFloor s) :=
  h.setRf

theorem Sound.setGain {att : Nat} {gain : ℤ} {s : State} (h : Sound l W s) : Sound l W (setGain att gain s) :=
  h.setRf.setRf

theorem Sound.gainFor {power : ℤ} {s : State} (h : Sound l W s) : Sound l W (gainFor power s) :=
  h.setGain

theorem Sound.detected {d : Detection} {m : Nat} {s : State} (h : Sound l W s) : Sound l W (detected d m s) :=
  (h.modRx.sif (fun _ h' => h'.gainFor)).modRx.modWin.setRb.addRf.showFloor.publish.publish.irq.setRbState

theorem Sound.execPreambleDet {x : Detection} {s : State} (h : Sound l W s) : SoundNext l W (execPreambleDet x s) :=
  Sound.ite h.passTo.codesTaken.detected h

theorem Sound.gainChanged {e : Nat} {x1 : State} (h : Sound l W x1) : Sound l W (gainChanged e x1) :=
  h.modRx

theorem Sound.agcBlock {e : Nat} {xs : List (ℤ × ℤ)} {clip : Bool} {s : State} (h : Sound l W s) : Sound l W (agcBlock e xs clip s) :=
  Sound.ite h.modRx.setRf.addRf.irq.gainChanged (Sound.ite h.modRx.gainFor.gainChanged (Sound.ite h.modRx.modRx h.modRx.modRx))

theorem Sound.execAgcAttack {block : RbSamples} {clip : Bool} {s : State} (h : Sound l W s) : SoundNext l W (execAgcAttack block clip
    s) :=
  Sound.ite h h.passTo.codesTaken.agcBlock

theorem Sound.execAgcRelease {s : State} (h : Sound l W s) : SoundNext l W (execAgcRelease s) :=
  Sound.ite h h.setRf.gainChanged

theorem Sound.syncCount {c : SyncCause} {s : State} (h : Sound l W s) : Sound l W (c.count s) := by
  unfold SyncCause.count
  split <;> exact h.addRf

theorem Sound.falseSync {c : SyncCause} {tag t : Nat} {s : State} (h : Sound l W s) : Sound l W (falseSync c tag t s) :=
  h.irq.publish.syncCount.recErr.modWin

theorem Sound.rearm {t : Nat} {s : State} (h : Sound l W s) : Sound l W (rearm t s) :=
  Sound.ite (Sound.closeOut (Sound.ite h.modRx.searchCfg.radioReturn h.modRx.searchCfg.setRbState)) (Sound.ite
      h.modRx.searchCfg.radioReturn h.modRx.searchCfg.setRbState)

theorem Sound.restart {n : Preamble} {tag t : Nat} {levels : Option (ℤ × ℤ)} {x4 : Bool} {s : State} (h : Sound l W s) : Sound l W
    (restart n tag t levels x4 s) :=
  Sound.ite h.setRf.modRx.irq.modWin h.falseSync.rearm

theorem Sound.decodeStops {s : State} (h : Sound l W s) : Sound l W (decodeStops s) :=
  h.setRb.linkDrop

theorem Sound.abortRx {t : Nat} {s : State} (h : Sound l W s) : Sound l W (abortRx t s) := by
  unfold Machine.abortRx
  split
  · exact h
  · exact (Sound.ite (h.sif (fun _ h' => h'.decodeStops)).modRx.modWin.searchCfg.closeOut (h.sif (fun _ h' =>
      h'.decodeStops)).modRx.modWin.searchCfg)

theorem Sound.dropDec {t : Nat} {s : State} (h : Sound l W s) : Sound l W (dropDec t s) :=
  Sound.ite h ((h.decodeStops.modRx.forEach (fun _ _ h' => h'.modWin)).forEach (fun _ _ h' => (Sound.ite h'.closeOut h')))

theorem Sound.rbRxAbort {t : Nat} {s : State} (h : Sound l W s) : Sound l W (rbRxAbort t s) :=
  Sound.ite h.abortRx.radioReturn h

theorem Sound.execRbRxAbort {s : State} (h : Sound l W s) : SoundNext l W (execRbRxAbort s) :=
  h.onTask (fun _ _ h' => h'.rbRxAbort)

theorem Sound.execLongTrainingSync {y : LongSync} {s : State} (h : Sound l W s) : SoundNext l W (execLongTrainingSync y s) := by
  unfold Machine.execLongTrainingSync
  split
  · exact h
  · exact (Sound.ite h h.passTo.codesTaken.modRx.setPair)

theorem Sound.execTimingTimeout {s : State} (h : Sound l W s) : SoundNext l W (execTimingTimeout s) := by
  unfold Machine.execTimingTimeout
  split
  · exact h
  · exact (Sound.ite h h.passTo.falseSync.rearm)

theorem Sound.execAfcFreeze {samples : RbSamples} {s : State} (h : Sound l W s) : SoundNext l W (execAfcFreeze samples s) := by
  unfold Machine.execAfcFreeze
  split
  · exact h
  · exact (Sound.ite h (h.passTo.codesTaken.modRx.setReg.setReg.forEach (fun _ _ h' => h'.setReg)).publish)

theorem Sound.surveyPacket {lv : ℤ × ℤ} {s : State} (h : Sound l W s) : Sound l W (surveyPacket lv s) :=
  h.addRf.addRf.addRf.setRf.setRf

theorem Sound.headerGood {r : RbRx} {g : Signal} {t : Nat} {s : State} (h : Sound l W s) : Sound l W (headerGood r g t s) :=
  Sound.linkOpen (by split; exacts [h.modRx.addRf.irq.publish.setReg.setRb.surveyPacket, h.modRx.addRf.irq.publish.setReg.setRb])

theorem Sound.headerBad {r : RbRx} {c : SyncCause} {t : Nat} {s : State} (h : Sound l W s) : Sound l W (headerBad r c t s) := by
  unfold Machine.headerBad
  split
  · exact h.falseSync.restart
  · exact h.falseSync.rearm

theorem Sound.execSignalDecoded {samples : RbSamples} {s : State} (h : Sound l W s) : SoundNext l W (execSignalDecoded samples s) := by
  unfold Machine.execSignalDecoded
  split
  · exact h
  · exact (Sound.ite h (Sound.ite h.passTo.codesTaken.nextFree.addRf.setReg.headerGood
      h.passTo.codesTaken.nextFree.addRf.setReg.headerBad))

theorem Sound.newerInData {r : RbRx} {n : Preamble} {t : Nat} {s : State} (h : Sound l W s) : Sound l W (newerInData r n t s) :=
  Sound.ite h.irq.publish.fault.addRf.decodeStops.modWin.restart h.irq.addRf.modWin

theorem Sound.execNewerPreamble {x : Newer} {s : State} (h : Sound l W s) : SoundNext l W (execNewerPreamble x s) := by
  unfold Machine.execNewerPreamble
  split
  · exact h
  · exact (Sound.ite (Sound.ite h.passTo.codesTaken.newerInData h) (Sound.ite h.passTo.codesTaken.falseSync.restart (Sound.ite
      h.passTo.codesTaken.modRx h)))

theorem Sound.execPacketEnd {s : State} (h : Sound l W s) : SoundNext l W (execPacketEnd s) := by
  unfold Machine.execPacketEnd
  split
  · exact h
  · exact (Sound.ite h (Sound.ite h.passTo.modRx.searchCfg.setRbState h.passTo.modRx.searchCfg.radioReturn))

theorem Sound.decoded {r : RbRx} {vs : List (ℤ × ℤ)} {bits : List Bool} {t : Nat} {s : State} (h : Sound l W s) : Sound l W (decoded r
    vs bits t s) :=
  h.setReg.setReg.addRf.irq.publish

theorem Sound.passOn {r : RbRx} {bytes : List Byte} {t : Nat} {s0 : State} (h : Sound l W s0) : Sound l W (passOn r bytes t s0) :=
  Sound.ite (Sound.radioTo (Sound.ite (Sound.closeOut (Sound.linkIn (Sound.ite h.linkShut.modRx.modWin.recordOutcome
      h.linkShut.modRx.modWin))) (Sound.linkIn (Sound.ite h.linkShut.modRx.modWin.recordOutcome h.linkShut.modRx.modWin)))) (Sound.ite
      (Sound.closeOut (Sound.linkIn (Sound.ite h.linkShut.modRx.modWin.recordOutcome h.linkShut.modRx.modWin))) (Sound.linkIn
      (Sound.ite h.linkShut.modRx.modWin.recordOutcome h.linkShut.modRx.modWin)))

theorem Sound.packetIn {r : RbRx} {bytes : List Byte} {t : Nat} {s : State} (h : Sound l W s) : Sound l W (packetIn r bytes t s) :=
  Sound.ite h.modRx (h.sif (fun _ h' => h'.linkOpen)).passOn

theorem Sound.linkServe {s : State} (h : Sound l W s) : Sound l W (linkServe s) :=
  Sound.ite h (h.modRx.foldl (fun _ _ h' => h'.packetIn))

theorem Sound.execDecodeEnd {tick : Nat} {samples : RbSamples} {s : State} (h : Sound l W s) : SoundNext l W (execDecodeEnd tick
    samples s) := by
  unfold Machine.execDecodeEnd
  split
  · exact h
  · exact h.passTo.codesTaken.nextFree.modRx.decoded.packetIn

theorem Sound.noiseTaken {b : Bool} {power : ℤ} {s : State} (h : Sound l W s) : Sound l W (noiseTaken b power s) :=
  (h.modRx.showFloor.sif (fun _ h' => h'.setRf)).irq.publish

theorem Sound.execNoiseUpdated {onB : Bool} {block : RbSamples} {s : State} (h : Sound l W s) : SoundNext l W (execNoiseUpdated onB
    block s) :=
  Sound.ite h (Sound.ite h.passTo.codesTaken.modRx h.passTo.codesTaken.modRx.noiseTaken)

theorem Sound.execSurveyInputAlternate {s : State} (h : Sound l W s) : SoundNext l W (execSurveyInputAlternate s) :=
  Sound.ite h.passTo.modRx.showFloor h

theorem Sound.fixInput {s : State} (h : Sound l W s) : Sound l W (fixInput s) := by
  unfold Machine.fixInput
  split
  · exact h.modRx.showFloor
  · exact h.modRx.showFloor
  · exact h

theorem Sound.rbRxCntClr {ag : Agent} {w : Word} {x2 : State} (h : Sound l W x2) : Sound l W (rbRxCntClr ag w x2) :=
  h.guarded (fun _ h' => (h'.sif (fun _ h1 => h1.setReg)))

theorem Sound.execRbRxCntClr {ag : Agent} {w : Word} {s : State} (h : Sound l W s) : SoundNext l W (execRbRxCntClr ag w s) :=
  h.rbRxCntClr

theorem Sound.rbDemCntClr {ag : Agent} {w : Word} {x2 : State} (h : Sound l W x2) : Sound l W (rbDemCntClr ag w x2) :=
  h.guarded (fun _ h' => (h'.sif (fun _ h1 => h1.setReg.setReg.setReg)))

theorem Sound.execRbDemCntClr {ag : Agent} {w : Word} {s : State} (h : Sound l W s) : SoundNext l W (execRbDemCntClr ag w s) :=
  h.rbDemCntClr

theorem Sound.rbDecCntClr {ag : Agent} {w : Word} {x2 : State} (h : Sound l W x2) : Sound l W (rbDecCntClr ag w x2) :=
  h.guarded (fun _ h' => (h'.sif (fun _ h1 => h1.setReg)))

theorem Sound.execRbDecCntClr {ag : Agent} {w : Word} {s : State} (h : Sound l W s) : SoundNext l W (execRbDecCntClr ag w s) :=
  h.rbDecCntClr

theorem Sound.rbFrame {src : Nat} {s : State} (h : Sound l W s) : Sound l W (rbFrame src s).2 :=
  Sound.ite_snd (by split <;> exact h) (by split; exacts [h, (Sound.ite_snd h (Sound.ite_snd (Sound.ite_snd h h.modEx) (Sound.ite_snd h
      h.fcntUsed)))])

theorem Sound.txMissed {slot t : Nat} {s : State} (h : Sound l W s) : Sound l W (txMissed slot t s) :=
  Sound.ite h.addRf.irq.publish.fault.sectionErr h.addRf.irq.publish.fault.sectionErr.radioReturn

theorem Sound.preempt {t : Nat} {s : State} (h : Sound l W s) : Sound l W (preempt t s) :=
  Sound.ite h.addRf.abortRx h

theorem Sound.linkRamp {f : LinkTx} {i : Issued} {r : Nat} {s : State} (h : Sound l W s) : Sound l W (linkRamp f i r s) := by
  have hc : ∀ chan ask air p, Machine.txCheck chan ask air s = p → Sound l W p.2 := fun _ _ _ _ hp => hp ▸ h.txCheck
  refine .ite h.txMissed ?_
  dsimp only
  split <;> rename_i u heq
  · next e =>
    have hu : Sound l W u := hc _ _ _ _ heq
    have hv : Sound l W (if e = Err.modeAbort then Machine.stepRefused 4 i.slot e i.index u else Machine.sectionErr 4 i.slot e u) :=
      .ite hu.stepRefused hu.sectionErr
    exact .ite hv hv.radioReturn
  · have hu : Sound l W u := hc _ _ _ _ heq
    exact hu.stepActed.preempt.rampStart.sif fun _ h' => h'.modEx

theorem Sound.execRbtxStep {s : State} (h : Sound l W s) : SoundNext l W (execRbtxStep s) := by
  unfold Machine.execRbtxStep
  dsimp only
  exact h.takeAny (fun _ _ h' => (Sound.ite h'.stepRefused (by split; exacts [h'.passTo.rbFrame.linkSettle,
      h'.passTo.rbFrame.linkRamp.linkSettle])))

theorem Sound.execTxRampEnd {s : State} (h : Sound l W s) : SoundNext l W (execTxRampEnd s) := by
  unfold Machine.execTxRampEnd
  split
  · exact h
  · exact (Sound.ite (h.passTo.setRbState.publish.sif (fun _ h' => h'.linkOpen)) h)

theorem Sound.txDone {x : RadioTx} {t : Nat} {s : State} (h : Sound l W s) : Sound l W (txDone x t s) := by
  unfold Machine.txDone
  split
  · exact (h.tailStart.addRf.irq.publish.sif (fun _ h' => h'.linkShut.incCtx32))
  · exact (Sound.ite (h.tailStart.addRf.irq.publish.sif (fun _ h' => h'.linkShut.incCtx32)) (Sound.ite
      (h.tailStart.addRf.irq.publish.sif (fun _ h' => h'.linkShut.incCtx32)).finishLink (h.tailStart.addRf.irq.publish.sif (fun _ h' =>
      h'.linkShut.incCtx32))))

theorem Sound.execTxEnd {s : State} (h : Sound l W s) : SoundNext l W (execTxEnd s) := by
  unfold Machine.execTxEnd
  split
  · exact h
  · exact (Sound.ite h.txDone h)

theorem Sound.execTxTailEnd {s : State} (h : Sound l W s) : SoundNext l W (execTxTailEnd s) := by
  unfold Machine.execTxTailEnd
  split
  · exact h
  · exact (Sound.ite h (Sound.linkSettle (Sound.ite h.passTo.dutyAdd.modRadio.setRbState.modRadio
      h.passTo.dutyAdd.modRadio.setRbState.radioReturn)))

theorem Sound.testGo {kind : Nat} {s : State} (h : Sound l W s) : Sound l W (testGo kind s) := by
  have hc : ∀ chan ask air p, Machine.txCheck chan ask air s = p → Sound l W p.2 := fun _ _ _ _ hp => hp ▸ h.txCheck
  unfold Machine.testGo
  dsimp only
  split <;> rename_i u heq
  · have hu : Sound l W u := hc _ _ _ _ heq
    exact .ite hu hu.radioReturn
  · have hu : Sound l W u := hc _ _ _ _ heq
    exact hu.modRadio.testRamp

theorem Sound.testStop {s : State} (h : Sound l W s) : Sound l W (testStop s) := by
  unfold Machine.testStop
  split
  · exact h.modRadio
  · exact (Sound.ite h (Sound.ite h.modRadio (Sound.ite h.txDone h)))

theorem Sound.rbTxCtrlWrite {ag : Agent} {w : Word} {x2 : State} (h : Sound l W x2) : Sound l W (rbTxCtrlWrite ag w x2) :=
  h.guarded (fun _ h' => (Sound.ite (h'.setRf.setRf.sif (fun _ h1 => h1.testStop)) (Sound.ite (h'.setRf.setRf.sif (fun _ h1 =>
      h1.testStop)).refusalErr (Sound.ite (h'.setRf.setRf.sif (fun _ h1 => h1.testStop)).refusalErr (Sound.ite (h'.setRf.setRf.sif (fun
      _ h1 => h1.testStop)).refusalErr (h'.setRf.setRf.sif (fun _ h1 => h1.testStop)).testGo)))))

theorem Sound.execTestTxGo {ag : Agent} {w : Word} {s : State} (h : Sound l W s) : SoundNext l W (execTestTxGo ag w s) :=
  h.rbTxCtrlWrite

theorem Sound.execTestTxStop {ag : Agent} {s : State} (h : Sound l W s) : SoundNext l W (execTestTxStop ag s) :=
  h.rbTxCtrlWrite

theorem Sound.execTestTxTimeout {s : State} (h : Sound l W s) : SoundNext l W (execTestTxTimeout s) := by
  unfold Machine.execTestTxTimeout
  split
  · exact h
  · exact (Sound.ite h.txDone h)

theorem Sound.lockFailed {t : Nat} {s : State} (h : Sound l W s) : Sound l W (lockFailed t s) := by
  unfold Machine.lockFailed
  split
  · exact h
  · exact (Sound.ite h (Sound.ite h h.linkFault))

theorem Sound.execSynthFullSearchFail {s : State} (h : Sound l W s) : SoundNext l W (execSynthFullSearchFail s) :=
  Sound.ite h.passTo.modRadio.stopSynth.addRf.irq.recErrAs.radioTo.lockFailed h

theorem Sound.lockLoss {tick : Nat} {s : State} (h : Sound l W s) : Sound l W (lockLoss tick s) :=
  Sound.ite h (by split; exacts [(Sound.ite ((h.passTo.addRf.irq.fault.stopSynth.modRadio.sif (fun _ h' => h'.publish)).sif (fun _ h'
      => h'.linkDrop)).startSynth (((h.passTo.addRf.irq.fault.stopSynth.modRadio.sif (fun _ h' => h'.publish)).sif (fun _ h' =>
      h'.linkDrop)).startSynth.tailStart.sif (fun _ h' => h'.linkFault))), (Sound.ite (Sound.ite
      (h.passTo.addRf.irq.fault.stopSynth.modRadio.sif (fun _ h' => h'.modEx)).abortRx.radioStandby
      (by split; exacts [(h.passTo.addRf.irq.fault.stopSynth.modRadio.sif (fun _ h' => h'.modEx)).abortRx.radioTake,
      (h.passTo.addRf.irq.fault.stopSynth.modRadio.sif (fun _ h' => h'.modEx)).abortRx.radioTo])) (Sound.ite
      h.passTo.addRf.irq.fault.stopSynth.modRadio.radioTo h.passTo.addRf.irq.fault.stopSynth.modRadio))])

theorem Sound.execLockLoss {tick : Nat} {s : State} (h : Sound l W s) : SoundNext l W (execLockLoss tick s) :=
  h.lockLoss

theorem Sound.takeRadio {k : Nat} {s : State} (h : Sound l W s) : Sound l W (takeRadio k s) :=
  h.claimRes

theorem Sound.refuseStart {i : Item} {k err d4 d5 : Nat} {s : State} (h : Sound l W s) : Sound l W (refuseStart i k err d4 d5 s) :=
  h.dropPending.wipe.refuseFor

theorem Sound.refuseStartLate {i : Item} {k first : Nat} {s : State} (h : Sound l W s) : Sound l W (refuseStartLate i k first s) :=
  h.dropPending.wipe.refuseLate

theorem Sound.sessBusy {k : Nat} {s : State} (h : Sound l W s) : Sound l W (sessBusy k s) :=
  h.sif (fun _ h' => h'.setSessState)

theorem Sound.playRb {x : LinkEx} {c : Section} {S : Nat} {s : State} (h : Sound l W s) : Sound l W (playRb x c S s) :=
  h.modLink.takeRadio.startSection

theorem Sound.startRb {k : Nat} {i : Item} {s : State} (h : Sound l W s) : Sound l W (startRb k i s) := by
  unfold Machine.startRb
  split
  · exact h.refuseStart
  · exact (by split; exacts [h.refuseStart, (Sound.ite h.refuseStart (Sound.ite h.refuseStartLate h.dropPending.sessBusy.setRf.playRb))])

theorem Sound.playXb {n : Nat} {x : LinkEx} {c : Section} {c4 : Option Section} {S : Nat} {s : State} (h : Sound l W s) : Sound l W
    (playXb n x c c4 S s) := by
  unfold Machine.playXb
  split
  · exact h.modLink.modEng.setReg.fcntUsed.startSection
  · exact h.modLink.modEng.setReg.fcntUsed.startSection.takeRadio.startSection

theorem Sound.startXb {k n : Nat} {i : Item} {s : State} (h : Sound l W s) : Sound l W (startXb k n i s) := by
  unfold Machine.startXb
  split
  · exact h.refuseStart
  · exact (by split; exacts [h.refuseStart, h.refuseStartLate, (Sound.ite h (Sound.ite h.refuseStart (Sound.ite h.refuseStart
      (Sound.ite h.refuseStartLate h.dropPending.sessBusy.playXb))))])

theorem Sound.linkStop {x : LinkEx} {e : Nat} {s : State} (h : Sound l W s) : Sound l W (linkStop x e s) :=
  h.closeLink

theorem Sound.linkGo {s : State} (h : Sound l W s) : Sound l W (linkGo s) := by
  unfold Machine.linkGo
  split
  · exact h
  · exact (Sound.ite h (Sound.ite h.recErr.linkStop (Sound.ite h.linkStop (Sound.ite (Sound.ite h (by split; exacts [h.linkStop,
      (Sound.ite h (Sound.ite h.linkStop (Sound.ite h.linkStop h.playXb)))])) (Sound.ite h (by split; exacts [h.linkStop, (Sound.ite
      h.linkStop h.playRb)]))))))

theorem Sound.radioAbort {cause t : Nat} {s : State} (h : Sound l W s) : Sound l W (radioAbort cause t s) := by
  have htx : ∀ (u : State) (n : RadioTx → Nat), Sound l W u → Sound l W
      (match u.radio.tx with
        | none => u
        | some x => if u.rbState = 8 then u else Machine.dutyAdd (n x) (3 * (t - x.ramp)) u) := by
    intro u n hu
    split
    · exact hu
    · exact .ite hu hu.dutyAdd
  unfold Machine.radioAbort
  cases s.link.ex with
  | none => exact (htx s _ h).modRadio.setRb.abortRx
  | some x => exact (htx _ _ (h.sif fun _ h' => h'.engIdle).closeLink).modRadio.setRb.abortRx

theorem Sound.execPendingCommandStart {slot : SlotIx} {s : State} (h : Sound l W s) : SoundNext l W (execPendingCommandStart slot s) :=
  Sound.ite h.linkGo (by split; exacts [h, (Sound.ite h (Sound.ite (Sound.ite h.startHf h) (Sound.ite h (Sound.ite (Sound.ite h.startRb
      h) (Sound.ite h.startXb h)))))])

theorem Sound.pulseCut {c : Nat} {s : State} (h : Sound l W s) : Sound l W (pulseCut c s) :=
  Sound.ite h (Sound.ite h.setRb (h.parts rfl rfl rfl rfl))

theorem Sound.sweepDark {mask : Nat} {s : State} (h : Sound l W s) : Sound l W (sweepDark mask s) :=
  h.forEach (fun _ _ h' => (h'.pulseCut.parts rfl rfl rfl rfl))

theorem Sound.sweepLight {mask : Nat} {s : State} (h : Sound l W s) : Sound l W (sweepLight mask s) :=
  h.parts rfl rfl rfl rfl

theorem Sound.crocusYield {c : Nat} {s : State} (h : Sound l W s) : Sound l W (crocusYield c s) := by
  refine Sound.publish (Sound.addRf (h.sif fun t h' => ?_))
  exact h'.pulseCut.parts rfl rfl rfl rfl

theorem Sound.coilsAdd {n mask : Nat} {s : State} (h : Sound l W s) : Sound l W (coilsAdd n mask s) :=
  (h.forEach (fun _ _ h' => (Sound.modCoil (Sound.ite h' (h'.sif (fun _ h1 => h1.crocusYield)).claimRes)))).heldRefresh

theorem Sound.coilsDrop {n mask : Nat} {s : State} (h : Sound l W s) : Sound l W (coilsDrop n mask s) :=
  Sound.ite (h.forEach (fun _ _ h' => (Sound.ite h'.coilLeaves.modCoil h'.coilLeaves.releaseRes))).heldRefresh.abortEngine (h.forEach
      (fun _ _ h' => (Sound.ite h'.coilLeaves.modCoil h'.coilLeaves.releaseRes))).heldRefresh

theorem Sound.feCoilsInUse {n : Nat} {w : Word} {s : State} (h : Sound l W s) : Sound l W (feCoilsInUse n w s) :=
  h.setRf.setRb.coilsDrop.coilsAdd.toCc.govern

theorem Sound.coilsTake {n : Nat} {w : Word} {f : State → State} {s : State} (h : Sound l W s) (hf : ∀ y0, Sound l W y0 → Sound l W (f
    y0)) : Sound l W (coilsTake n w f s) :=
  Sound.ite (h.pageWork (fun _ h' => h')) (by split; exacts [(Sound.irq (Sound.ite h.refusalErr h.refusalErr)), (hf _ h)])

theorem Sound.feCoilsWrite {ag : Agent} {n : Nat} {w : Word} {x3 : State} (h : Sound l W x3) : Sound l W (feCoilsWrite ag n w x3) :=
  h.hold (fun _ h' => (h'.guarded (fun _ h1 => (Sound.ite h1.storeReg (h1.coilsTake (fun _ h2 => (h2.storeWith (fun _ _ h3 =>
      h3.feCoilsInUse))))))))

theorem Sound.execCoilSetAdd {ag : Agent} {n : EngIx} {coils : Nat} {s : State} (h : Sound l W s) : SoundNext l W (execCoilSetAdd ag n
    coils s) :=
  h.feCoilsWrite

theorem Sound.execCoilSetRemove {ag : Agent} {n : EngIx} {coils : Nat} {s : State} (h : Sound l W s) : SoundNext l W (execCoilSetRemove
    ag n coils s) :=
  h.feCoilsWrite

theorem Sound.execCoilRelease {c : CoilIx} {s : State} (h : Sound l W s) : SoundNext l W (execCoilRelease c s) :=
  Sound.ite (h.modCoil.releaseRes.forEach (fun _ _ h' => h'.heldRefresh)) h

theorem Sound.setSel {n b : Nat} {s : State} (h : Sound l W s) : Sound l W (setSel n b s) :=
  h.setRf.setShade

theorem Sound.bankBits {n : Nat} {s : State} (h : Sound l W s) : Sound l W (bankBits n s) :=
  h.setRb.setRb

theorem Sound.fadeDone {n t : Nat} {s : State} (h : Sound l W s) : Sound l W (fadeDone n t s) :=
  h.modEng.setRf.bankBits.addRf.irq.publish.govern

theorem Sound.swapStart {n t : Nat} {s : State} (h : Sound l W s) : Sound l W (swapStart n t s) :=
  Sound.ite h.passTo.fadeDone h.modEng.bankBits.govern

theorem Sound.bankAccept {n b t : Nat} {s : State} (h : Sound l W s) : Sound l W (bankAccept n b t s) :=
  Sound.ite h.setSel (Sound.ite h.setSel.modEng.bankBits h.setSel.swapStart)

theorem Sound.bankReject {n : Nat} {s : State} (h : Sound l W s) : Sound l W (bankReject n s) :=
  h.addRf.irq.refusalErr

theorem Sound.bankRequest {n b t : Nat} {no : State → State} {s : State} (h : Sound l W s) (hno : ∀ y0, Sound l W y0 → Sound l W (no
    y0)) : Sound l W (bankRequest n b t no s) :=
  Sound.ite (hno _ h.bankReject) h.bankAccept

theorem Sound.feBankInUse {n : Nat} {w : Word} {s : State} (h : Sound l W s) : Sound l W (feBankInUse n w s) :=
  Sound.govern (Sound.ite h.setRf.setRb (h.setRf.setRb.pageWork (fun _ h' => (h'.bankRequest (fun _ h1 => h1.setSel)))))

theorem Sound.feBankWrite {ag : Agent} {n : Nat} {w : Word} {x3 : State} (h : Sound l W x3) : Sound l W (feBankWrite ag n w x3) :=
  h.hold (fun _ h' => (h'.guarded (fun _ h1 => (h1.storeWith (fun _ _ h2 => h2.feBankInUse)))))

theorem Sound.execBankSelWrite {ag : Agent} {n : EngIx} {bank : Bool} {s : State} (h : Sound l W s) : SoundNext l W (execBankSelWrite
    ag n bank s) :=
  h.feBankWrite

theorem Sound.execBankSwapEvent {n : EngIx} {s : State} (h : Sound l W s) : SoundNext l W (execBankSwapEvent n s) :=
  (h.onTask (fun _ _ h' => h'.bankAccept)).sif (fun _ h' => h'.bankReject)

theorem Sound.swapNext {n t : Nat} {s : State} (h : Sound l W s) : Sound l W (swapNext n t s) := by
  unfold Machine.swapNext
  split
  · exact h
  · exact (Sound.ite h (Sound.ite h.modEng.bankBits h.modEng.bankBits.swapStart))

theorem Sound.execXfadeEnd {n : EngIx} {s : State} (h : Sound l W s) : SoundNext l W (execXfadeEnd n s) := by
  unfold Machine.execXfadeEnd
  split
  · exact h
  · exact h.passTo.fadeDone.swapNext

theorem Sound.weightWrite {ag : Agent} {n b c : Nat} {w : Word} {x5 : State} (h : Sound l W x5) : Sound l W (weightWrite ag n b c w x5) :=
  h.hold (fun _ h' => (h'.guarded (fun _ h1 => (Sound.ite h1.refusalErr h1.setReg))))

theorem Sound.execWeightWrite {ag : Agent} {n : EngIx} {bank : Bool} {c : CoilIx} {w : Word} {s : State} (h : Sound l W s) : SoundNext
    l W (execWeightWrite ag n bank c w s) :=
  h.weightWrite

theorem Sound.fwgtCntClr {ag : Agent} {w : Word} {x2 : State} (h : Sound l W x2) : Sound l W (fwgtCntClr ag w x2) :=
  h.hold (fun _ h' => (h'.guarded (fun _ h1 => ((h1.sif (fun _ h2 => h2.setReg)).sif (fun _ h2 => (h2.forEach (fun _ _ h3 =>
      h3.setReg)))))))

theorem Sound.execFwgtCntClr {ag : Agent} {w : Word} {s : State} (h : Sound l W s) : SoundNext l W (execFwgtCntClr ag w s) :=
  h.fwgtCntClr

theorem Sound.engineOn {n t e : Nat} {xs : List Nat} {s : State} (h : Sound l W s) : Sound l W (engineOn n t e xs s) :=
  ((h.forEach (fun _ _ h' => (Sound.ite h'.coilEntry h'.coilFieldOn.publish))).sif (fun _ h' => h'.guardCount)).fieldFollow.govern

theorem Sound.engineOff {n : Nat} {xs : List Nat} {s : State} (h : Sound l W s) : Sound l W (engineOff n xs s) :=
  ((h.forEach (fun _ _ h' => (Sound.ite h'.coilFieldOff h'))).sif (fun _ h' => h'.guardClear)).fieldFollow.govern

theorem Sound.fieldAct {n t : Nat} {i : Issued} {s : State} (h : Sound l W s) : Sound l W (fieldAct n t i s) :=
  Sound.ite (by split; exacts [(h.sif (fun _ h' => h'.stepRefused)).stepRefused, (((h.sif (fun _ h' => h'.stepRefused)).sif (fun _ h'
      => h'.stepRefused)).sif (fun _ h' => h'.stepRefused)).engineOn]) (h.sif (fun _ h' => h'.stepRefused)).engineOff

theorem Sound.execFieldStep {n : EngIx} {s : State} (h : Sound l W s) : SoundNext l W (execFieldStep n s) :=
  h.takeStep (fun _ _ h' => (Sound.ite h'.stepRefused h'.passTo.stepActed.fieldAct))

theorem Sound.execBankStep {n : EngIx} {s : State} (h : Sound l W s) : SoundNext l W (execBankStep n s) :=
  h.takeStep (fun _ _ h' => (Sound.ite h'.stepRefused (h'.passTo.stepActed.bankRequest (fun _ h1 => h1.stepRefused))))

theorem Sound.driversStop {cause t : Nat} {s : State} (h : Sound l W s) : Sound l W (driversStop cause t s) :=
  Sound.govern (Sound.forEach (Sound.forEach (Sound.sweepDark (Sound.ite h.passTo h)) (fun _ _ h' => (Sound.ite h'.coilFieldOff h')))
      (fun _ _ h' => h'.fieldStopped))

theorem Sound.mmAct {c : Nat} {s : State} (h : Sound l W s) : Sound l W (mmAct c s) := by
  unfold Machine.mmAct
  split
  · exact h
  · exact (Sound.ite h.passTo.modCoil.coilEntry.govern (Sound.ite (Sound.govern (Sound.ite h.passTo.coilFieldOff.fieldFollow
      h.passTo.coilFieldOff.fieldFollow.fieldStopped)) h))

theorem Sound.safeFollow {n : Nat} {s : State} (h : Sound l W s) : Sound l W (safeFollow n s) :=
  Sound.ite h.passTo.coilEntry.govern h

theorem Sound.mismatch {pulse : Bool} {code c w : Nat} {s : State} (h : Sound l W s) : Sound l W (mismatch pulse code c w s) :=
  Sound.ite (Sound.ite h.recErr h.recErr.modCoil.publish) (Sound.mmAct (Sound.ite h.recErr h.recErr.modCoil.publish))

theorem Sound.setCode {c v : Nat} {s : State} (h : Sound l W s) : Sound l W (setCode c v s) :=
  h.setRf.setShade

theorem Sound.mmTrack {c : Nat} {d : ℤ} {s : State} (h : Sound l W s) : Sound l W (mmTrack c d s) :=
  Sound.ite h (Sound.ite h.irq h.setCode)

theorem Sound.mmPut {ok : Bool} {c vpk ipk : Nat} {r : Nat × ℤ} {s : State} (h : Sound l W s) : Sound l W (mmPut ok c vpk ipk r s) :=
  h.setReg.setReg.govern

theorem Sound.mmJudge {pulse : Bool} {code c : Nat} {r : Nat × ℤ} {s : State} (h : Sound l W s) : Sound l W (mmJudge pulse code c r s) :=
  Sound.ite h.addRf.irq.mismatch h

theorem Sound.mmLoadAt {code c vpk ipk : Nat} {phase : ℤ} {s : State} (h : Sound l W s) : Sound l W (mmLoadAt code c vpk ipk phase s) :=
  h.mmPut.modCoil.mmJudge

theorem Sound.mmLoad {c vpk ipk : Nat} {phase : ℤ} {s : State} (h : Sound l W s) : Sound l W (mmLoad c vpk ipk phase s) :=
  h.mmLoadAt

theorem Sound.execMmMeasurementDone {c : CoilIx} {vpk ipk : Nat} {phase : ℤ} {s : State} (h : Sound l W s) : SoundNext l W
    (execMmMeasurementDone c vpk ipk phase s) := by
  unfold Machine.execMmMeasurementDone
  split
  · exact h
  · exact h.passTo.modCoil.mmLoad.mmTrack

theorem Sound.execDriverCurrentLimit {c : CoilIx} {s : State} (h : Sound l W s) : SoundNext l W (execDriverCurrentLimit c s) :=
  Sound.ite h.modCoil.addRf.irq.mismatch h

theorem Sound.execTuneCodeApply {c : CoilIx} {s : State} (h : Sound l W s) : SoundNext l W (execTuneCodeApply c s) :=
  Sound.ite h.passTo.modCoil h

theorem Sound.stepShown {k : Nat} {s : State} (h : Sound l W s) : Sound l W (stepShown k s) :=
  h.setRf

theorem Sound.swapSlots {k : Nat} {s : State} (h : Sound l W s) : Sound l W (swapSlots k s) :=
  h.modPlayer.setRf.setRf.addRf.publish.irq.setReg

theorem Sound.noSection {k : Nat} {s : State} (h : Sound l W s) : Sound l W (noSection k s) :=
  h.irq.recErr

theorem Sound.startOwn {k : Nat} {c : Section} {S : Nat} {s : State} (h : Sound l W s) : Sound l W (startOwn k c S s) :=
  Sound.ite h.startSection (Sound.ite h.recErr h.takeRadio.startSection)

theorem Sound.startTrigger {k S : Nat} {s : State} (h : Sound l W s) : Sound l W (startTrigger k S s) := by
  unfold Machine.startTrigger
  dsimp only
  split
  · exact h.modPlayer.setRb.startOwn
  · exact h.modPlayer.setRb.noSection

theorem Sound.serveNext {k : Nat} {s : State} (h : Sound l W s) : Sound l W (serveNext k s) :=
  Sound.ite h.turnaround.startDisc (Sound.ite h.linkGo h)

theorem Sound.playerIdle {k : Nat} {s : State} (h : Sound l W s) : Sound l W (playerIdle k s) :=
  Sound.ite h (Sound.ite (h.sif (fun _ h' => h'.swapSlots)).setRb (Sound.ite (Sound.ite (h.sif (fun _ h' =>
      h'.swapSlots)).setRb.startTrigger (h.sif (fun _ h' => h'.swapSlots)).setRb) (Sound.serveNext (Sound.ite (h.sif (fun _ h' =>
      h'.swapSlots)).setRb.startTrigger (h.sif (fun _ h' => h'.swapSlots)).setRb))))

theorem Sound.radioRelease {s : State} (h : Sound l W s) : Sound l W (radioRelease s) :=
  Sound.ite h.releaseRes.radioIdle h

theorem Sound.sectionOver {k t : Nat} {s : State} (h : Sound l W s) : Sound l W (sectionOver k t s) :=
  Sound.ite (Sound.radioRelease (Sound.playerIdle (Sound.ite h.modPlayer.setRb.engSettle.linkSettle (Sound.ite
      h.modPlayer.setRb.linkSettle h.modPlayer.setRb)))) (Sound.playerIdle (Sound.ite h.modPlayer.setRb.engSettle.linkSettle (Sound.ite
      h.modPlayer.setRb.linkSettle h.modPlayer.setRb)))

theorem Sound.swapPoint {k T : Nat} {s : State} (h : Sound l W s) : Sound l W (swapPoint k T s) := by
  unfold Machine.swapPoint
  dsimp only
  exact Sound.ite h.sectionOver (Sound.ite h (by split; exacts [h.swapSlots.modPlayer.setPair, h.swapSlots.stepRefused.sectionOver]))

theorem Sound.passNops {k n : Nat} {s : State} (h : Sound l W s) : Sound l W (passNops k n s) := by
  induction n generalizing s with
  | zero => exact h
  | succ n ih =>
    refine .ite h ?_
    split
    · exact h
    · exact ih h.stepShown.modPlayer

theorem Sound.deliver {k : Nat} {w : StepWord} {T t : Nat} {s : State} (h : Sound l W s) : Sound l W (deliver k w T t s) := by
  unfold Machine.deliver
  exact h.modPlayer

theorem Sound.issueStep {k : Nat} {w : StepWord} {T : Nat} {s : State} (h : Sound l W s) : Sound l W (issueStep k w T s) :=
  Sound.ite (Sound.swapPoint (Sound.modPlayer (Sound.ite (Sound.ite h.stepShown.passTo.stepLate (h.stepShown.passTo.sif (fun _ h' =>
      h'.addRf))) (Sound.deliver (Sound.ite h.stepShown.passTo.stepLate (h.stepShown.passTo.sif (fun _ h' => h'.addRf)))))))
      (Sound.modPlayer (Sound.ite (Sound.ite h.stepShown.passTo.stepLate (h.stepShown.passTo.sif (fun _ h' => h'.addRf)))
      (Sound.deliver (Sound.ite h.stepShown.passTo.stepLate (h.stepShown.passTo.sif (fun _ h' => h'.addRf))))))

theorem Sound.execStepIssue {k : PlayerIx} {s : State} (h : Sound l W s) : SoundNext l W (execStepIssue k s) :=
  Sound.ite h (Sound.ite h.passNops.stepRefused.sectionOver (Sound.ite h.passNops (by split; exacts [h.passNops, h.passNops.issueStep])))

theorem Sound.internalStep {k op : Nat} {f : StepWord → Nat → State → State} {s : State} (h : Sound l W s) (hf : ∀ y0 y1 y2, Sound l W
    y2 → Sound l W (f y0 y1 y2)) : Sound l W (internalStep k op f s) :=
  Sound.ite h (by split; exacts [h, (hf _ _ _ h.stepShown.passTo)])

theorem Sound.execNopStep {k : PlayerIx} {s : State} (h : Sound l W s) : SoundNext l W (execNopStep k s) :=
  h.internalStep (fun _ _ _ h' => (Sound.ite h'.modPlayer.swapPoint h'.modPlayer))

theorem Sound.execBranchStep {k : PlayerIx} {s : State} (h : Sound l W s) : SoundNext l W (execBranchStep k s) :=
  h.internalStep (fun _ _ _ h' => (Sound.ite h'.passTo.modPlayer.swapPoint h'.passTo.modPlayer))

theorem Sound.execEndStep {k : PlayerIx} {s : State} (h : Sound l W s) : SoundNext l W (execEndStep k s) :=
  h.internalStep (fun _ _ _ h' => h'.publish.sectionOver)

theorem Sound.atPage {k page : Nat} {i : Issued} {f : State → State} {s : State} (h : Sound l W s) (hf : ∀ y0, Sound l W y0 → Sound l W
    (f y0)) : Sound l W (atPage k page i f s) :=
  Sound.ite (hf _ h.passTo.stepActed) h.passTo.stepRefused

theorem Sound.execPublishStep {k : PlayerIx} {s : State} (h : Sound l W s) : SoundNext l W (execPublishStep k s) :=
  h.takeStep (fun _ _ h' => (h'.atPage (fun _ h1 => (Sound.ite h1.stepRefused h1.publishOn))))

theorem Sound.execGpioStep {k : PlayerIx} {s : State} (h : Sound l W s) : SoundNext l W (execGpioStep k s) :=
  h.takeStep (fun _ _ h' => (h'.atPage (fun _ h1 => (Sound.ite h1.stepRefused (Sound.ite h1.stepRefused h1.cellsNow.gpSet)))))

theorem Sound.execSnapStep {k : PlayerIx} {s : State} (h : Sound l W s) : SoundNext l W (execSnapStep k s) :=
  h.takeStep (fun _ _ h' => (h'.atPage (fun _ h1 => h1.capture)))

theorem Sound.triggered {k t : Nat} {s : State} (h : Sound l W s) : Sound l W (triggered k t s) :=
  Sound.ite h.modPlayer.setRb h.startTrigger

theorem Sound.execPlayerTrigger {k : PlayerIx} {s : State} (h : Sound l W s) : SoundNext l W (execPlayerTrigger k s) :=
  h.onTask (fun _ _ h' => h'.triggered)

theorem Sound.abortServed {k : Nat} {s : State} (h : Sound l W s) : Sound l W (abortServed k s) := by
  unfold Machine.abortServed
  dsimp only
  exact Sound.ite h.passTo.abortEngine (Sound.ite (by split; exacts [h.rbRxAbort, h.rbRxAbort.linkStop]) h)

theorem Sound.playerStop {k : Nat} {s : State} (h : Sound l W s) : Sound l W (playerStop k s) :=
  Sound.ite h.stepRefused.abortServed.sectionOver h.abortServed

theorem Sound.playerBusy {k : Nat} {x1 : State} (h : Sound l W x1) : Sound l W (playerBusy k x1) :=
  h.refusalErr

theorem Sound.playerVerify {k : Nat} {s : State} (h : Sound l W s) : Sound l W (playerVerify k s) :=
  Sound.ite h.playerBusy h.setRf

theorem Sound.playerSwap {k : Nat} {s : State} (h : Sound l W s) : Sound l W (playerSwap k s) :=
  Sound.ite h.setRf h.refusalErr

theorem Sound.playerCancel {k : Nat} {s : State} (h : Sound l W s) : Sound l W (playerCancel k s) :=
  Sound.ite h.setRf h

theorem Sound.playerStart {k num : Nat} {s : State} (h : Sound l W s) : Sound l W (playerStart k num s) :=
  Sound.ite h.playerBusy (by split; exacts [h.noSection, (Sound.ite h h.startOwn)])

theorem Sound.plCtrlEffect {k : Nat} {w : Word} {s : State} (h : Sound l W s) : Sound l W (plCtrlEffect k w s) :=
  Sound.ite (((((h.sif (fun _ h' => h'.playerStop)).sif (fun _ h' => (h'.pageWork (fun _ h1 => h1.playerVerify)))).sif (fun _ h' =>
      (h'.pageWork (fun _ h1 => h1.playerSwap)))).sif (fun _ h' => h'.playerCancel)).sif (fun _ h' => (h'.pageWork (fun _ h1 =>
      h1.playerStart)))).setRb (((((h.sif (fun _ h' => h'.playerStop)).sif (fun _ h' => (h'.pageWork (fun _ h1 =>
      h1.playerVerify)))).sif (fun _ h' => (h'.pageWork (fun _ h1 => h1.playerSwap)))).sif (fun _ h' => h'.playerCancel)).sif (fun _ h'
      => (h'.pageWork (fun _ h1 => h1.playerStart)))).setRb.playerIdle

theorem Sound.plGuard {ag : Agent} {k a : Nat} {eff : State → State} {x4 : State} (h : Sound l W x4) (heff : ∀ y0, Sound l W y0 → Sound
    l W (eff y0)) : Sound l W (plGuard ag k a eff x4) :=
  h.guarded (fun _ h' => (Sound.ite (heff _ h') h'.refusalErr))

theorem Sound.plCtrlWrite {ag : Agent} {k : Nat} {w : Word} {x3 : State} (h : Sound l W x3) : Sound l W (plCtrlWrite ag k w x3) :=
  h.plGuard (fun _ h' => h'.plCtrlEffect)

theorem Sound.plCtrlBits {ag : Agent} {k bits : Nat} {s : State} (h : Sound l W s) : Sound l W (plCtrlBits ag k bits s) :=
  h.plCtrlWrite

theorem Sound.execPlayerStart {ag : Agent} {k : PlayerIx} {num : SlotIx} {s : State} (h : Sound l W s) : SoundNext l W (execPlayerStart
    ag k num s) :=
  h.plCtrlBits

theorem Sound.execPlayerStop {ag : Agent} {k : PlayerIx} {s : State} (h : Sound l W s) : SoundNext l W (execPlayerStop ag k s) :=
  h.plCtrlBits

theorem Sound.execPlayerHold {ag : Agent} {k : PlayerIx} {on : Bool} {s : State} (h : Sound l W s) : SoundNext l W (execPlayerHold ag k
    on s) :=
  h.plCtrlWrite

theorem Sound.execSwapReq {ag : Agent} {k : PlayerIx} {s : State} (h : Sound l W s) : SoundNext l W (execSwapReq ag k s) :=
  h.plCtrlBits

theorem Sound.execSwapCancel {ag : Agent} {k : PlayerIx} {s : State} (h : Sound l W s) : SoundNext l W (execSwapCancel ag k s) :=
  h.plCtrlBits

theorem Sound.execVerify {ag : Agent} {k : PlayerIx} {s : State} (h : Sound l W s) : SoundNext l W (execVerify ag k s) :=
  h.plCtrlBits

theorem Sound.execVerifyDone {k : PlayerIx} {s : State} (h : Sound l W s) : SoundNext l W (execVerifyDone k s) :=
  Sound.ite h (by split; exacts [h.setRf.irq, h.setRf.irq.recErr])

theorem Sound.scoreWrite {o : Nat} {w : Word} {s : State} (h : Sound l W s) : Sound l W (scoreWrite o w s) :=
  Sound.ite h.refusalErr (Sound.setMem (by split; exacts [h, h.setRf]))

theorem Sound.execScoreStoreWrite {i : ScoreIx} {w : Word} {s : State} (h : Sound l W s) : SoundNext l W (execScoreStoreWrite i w s) :=
  h.windowWrite (fun _ h' => h'.scoreWrite)

theorem Sound.plSlotWrite {ag : Agent} {k b : Nat} {w : Word} {x4 : State} (h : Sound l W x4) : Sound l W (plSlotWrite ag k b w x4) :=
  h.plGuard (fun _ h' => (Sound.ite h' (Sound.ite h'.refusalErr (Sound.ite h'.playerBusy h'.setReg.setRf))))

theorem Sound.execPlSlotWrite {ag : Agent} {k : PlayerIx} {onB : Bool} {w : Word} {s : State} (h : Sound l W s) : SoundNext l W
    (execPlSlotWrite ag k onB w s) :=
  h.plSlotWrite

theorem Sound.claimAsk {c detail : Nat} {release : Bool} {i : Nat} {s : State} (h : Sound l W s) : Sound l W (claimAsk c detail release
    i s).1 :=
  Sound.ite_fst h (Sound.ite_fst (Sound.ite_fst h (Sound.ite_fst h.releaseRes.radioFreed h)) (Sound.ite_fst h (Sound.ite_fst (h.sif
      (fun _ h' => h'.cellsNow)).claimRes h)))

theorem Sound.claimTo {a c detail : Nat} {w : Word} {s : State} (h : Sound l W s) : Sound l W (claimTo a c detail w s) :=
  h.claimAsk.setReg

theorem Sound.lspClaim {ag : Agent} {w : Word} {x2 : State} (h : Sound l W x2) : Sound l W (lspClaim ag w x2) :=
  h.guarded (fun _ h' => (h'.pageWork (fun _ h1 => h1.claimTo)))

theorem Sound.execLspClaim {ag : Agent} {w : Word} {s : State} (h : Sound l W s) : SoundNext l W (execLspClaim ag w s) :=
  h.lspClaim

theorem Sound.lspCntClr {ag : Agent} {w : Word} {x2 : State} (h : Sound l W x2) : Sound l W (lspCntClr ag w x2) :=
  h.guarded (fun _ h' => (h'.sif (fun _ h1 => (h1.forEach (fun _ _ h2 => h2.setReg.setReg)))))

theorem Sound.execLspCntClr {ag : Agent} {w : Word} {s : State} (h : Sound l W s) : SoundNext l W (execLspCntClr ag w s) :=
  h.lspCntClr

theorem Sound.sysClaim {ag : Agent} {w : Word} {x2 : State} (h : Sound l W x2) : Sound l W (sysClaim ag w x2) :=
  h.guarded (fun _ h' => h'.claimTo)

theorem Sound.execSysClaim {ag : Agent} {w : Word} {s : State} (h : Sound l W s) : SoundNext l W (execSysClaim ag w s) :=
  h.sysClaim

theorem Sound.modCrocus {f : CrocusSt → CrocusSt} {s : State} (h : Sound l W s) : Sound l W (modCrocus f s) :=
  h.parts rfl rfl rfl rfl

theorem Sound.crocusDrop {s : State} (h : Sound l W s) : Sound l W (crocusDrop s) :=
  h.forEach (fun _ _ h' => (Sound.ite h' h'.releaseRes))

theorem Sound.crocusSetWrite {ag : Agent} {w : Word} {x2 : State} (h : Sound l W x2) : Sound l W (crocusSetWrite ag w x2) :=
  h.guarded (fun _ h' => (Sound.ite h'.storeReg h'.storeReg.crocusDrop))

theorem Sound.crocusCfgWrite {ag : Agent} {w : Word} {x2 : State} (h : Sound l W x2) : Sound l W (crocusCfgWrite ag w x2) :=
  h.guarded (fun _ h' => (Sound.ite h'.refusalErr h'.storeReg))

theorem Sound.execCrocusCoilClaim {c : CoilIx} {s : State} (h : Sound l W s) : SoundNext l W (execCrocusCoilClaim c s) :=
  Sound.ite h.claimRes h

theorem Sound.sweepBegin {r t : Nat} {s : State} (h : Sound l W s) : Sound l W (sweepBegin r t s) :=
  (h.modCrocus.setRb.setPair.forEach (fun _ _ h' => h'.modCoil)).govern

theorem Sound.sweepDue {t : Nat} {s : State} (h : Sound l W s) : Sound l W (sweepDue t s) := by
  unfold Machine.sweepDue
  split
  · exact (Sound.ite h.modCrocus h.passTo.sweepBegin)
  · exact (Sound.ite h.modCrocus.addRf (Sound.ite h h.passTo.sweepBegin))

theorem Sound.execCrocusSweepStart {gap : Bool} {tick : Nat} {s : State} (h : Sound l W s) : SoundNext l W (execCrocusSweepStart gap
    tick s) :=
  Sound.ite (Sound.ite h (Sound.ite h.sweepBegin (Sound.ite h.sweepDue h.sweepDue))) (h.onTask (fun _ _ h' => (Sound.ite h' h'.sweepDue)))

theorem Sound.setRuns {c dev clr : Nat} {x3 : State} (h : Sound l W x3) : Sound l W (setRuns c dev clr x3) :=
  h.modCrocus

theorem Sound.trip {c t : Nat} {s : State} (h : Sound l W s) : Sound l W (trip c t s) :=
  h.setRb.addRf.publish.irq.wakeSource

theorem Sound.judge {x0 : Bool} {c mag ph t : Nat} {s : State} (h : Sound l W s) : Sound l W (judge x0 c mag ph t s) :=
  Sound.ite (Sound.ite (Sound.ite h.setRuns.setRb h.setRuns) (Sound.ite h.setRuns.trip h.setRuns)) (Sound.setReg (Sound.ite (Sound.ite
      h.setRuns.setRb h.setRuns) (Sound.ite h.setRuns.trip h.setRuns)))

theorem Sound.slotValid {x0 : Bool} {c mag ph t : Nat} {s : State} (h : Sound l W s) : Sound l W (slotValid x0 c mag ph t s) :=
  Sound.judge (Sound.ite h.modCrocus.setReg h)

theorem Sound.slotMismatch {c : Nat} {x : CrocusSlot} {s : State} (h : Sound l W s) : Sound l W (slotMismatch c x s) :=
  Sound.ite (Sound.ite h h.setRb) (Sound.mmJudge (Sound.ite h h.mmPut))

theorem Sound.slotDone {x0 : Bool} {c t : Nat} {x : CrocusSlot} {s : State} (h : Sound l W s) : Sound l W (slotDone x0 c t x s) :=
  Sound.ite (Sound.setRb (Sound.ite h.slotMismatch h)) (Sound.ite (Sound.setRb (Sound.setReg (Sound.ite h.slotMismatch h)))
      (Sound.slotValid (Sound.setReg (Sound.ite h.slotMismatch h))))

theorem Sound.execCrocusSweepEnd {tick : Nat} {slots : List CrocusSlot} {s : State} (h : Sound l W s) : SoundNext l W
    (execCrocusSweepEnd tick slots s) := by
  unfold Machine.execCrocusSweepEnd
  split
  · exact h
  · exact (Sound.govern (Sound.crocusDrop (Sound.irq (Sound.publish (Sound.addRf (Sound.setRb (Sound.modCrocus (Sound.foldl
      (Sound.setReg (Sound.ite h.passTo h)) (fun _ _ h' => h'.slotDone)))))))))

theorem Sound.crocusBaseReq {ag : Agent} {w : Word} {x2 : State} (h : Sound l W x2) : Sound l W (crocusBaseReq ag w x2) :=
  h.guarded (fun _ h' => (h'.pageWork (fun _ h1 => h1.modCrocus)))

theorem Sound.execCrocusBaseReq {ag : Agent} {w : Word} {s : State} (h : Sound l W s) : SoundNext l W (execCrocusBaseReq ag w s) :=
  h.crocusBaseReq

theorem Sound.crocusCntClr {ag : Agent} {w : Word} {x2 : State} (h : Sound l W x2) : Sound l W (crocusCntClr ag w x2) :=
  h.guarded (fun _ h' => (h'.sif (fun _ h1 => h1.setReg.setReg)))

theorem Sound.execCrocusCntClr {ag : Agent} {w : Word} {s : State} (h : Sound l W s) : SoundNext l W (execCrocusCntClr ag w s) :=
  h.crocusCntClr

theorem Sound.modTag {f : TagSt → TagSt} {s : State} (h : Sound l W s) : Sound l W (modTag f s) :=
  h.parts rfl rfl rfl rfl

theorem Sound.setTag {a : Nat} {xs : List Byte} {x2 : State} (h : Sound l W x2) : Sound l W (setTag a xs x2) :=
  h.setBytes

theorem Sound.setLeft {k n : Nat} {x2 : State} (h : Sound l W x2) : Sound l W (setLeft k n x2) :=
  h.setTag

theorem Sound.setPw {k v : Nat} {x2 : State} (h : Sound l W x2) : Sound l W (setPw k v x2) :=
  h.setTag

theorem Sound.publishNow {p : Nat} {s : State} (h : Sound l W s) : Sound l W (publishNow p s) :=
  Sound.ite (Sound.publish (Sound.nextFree (h.parts rfl rfl rfl rfl))) h.publish

theorem Sound.onTagc {f : State → State} {s : State} (h : Sound l W s) (hf : ∀ y0, Sound l W y0 → Sound l W (f y0)) : Sound l W (onTagc
    f s) :=
  h.sif hf

theorem Sound.clearSecurity {x0 : State} (h : Sound l W x0) : Sound l W (clearSecurity x0) :=
  h.modTag

theorem Sound.copyBad {x0 : State} (h : Sound l W x0) : Sound l W (copyBad x0) :=
  h.onTagc (fun _ h' => h'.irq.fault)

theorem Sound.wireBusy {a path : Nat} {s : State} (h : Sound l W s) : Sound l W (wireBusy a path s) :=
  (h.onTagc (fun _ h' => h'.setRb.addRf.irq.recErr)).modTag

theorem Sound.busStop {x0 : State} (h : Sound l W x0) : Sound l W (busStop x0) :=
  h.modTag

theorem Sound.i2cStop {out : List Word} {s : State} (h : Sound l W s) : Sound l W (i2cStop out s) :=
  Sound.parts (h.busStop.onTagc (fun _ h' => h'.publishNow)) rfl rfl rfl rfl

theorem Sound.tagcIdle {s : State} (h : Sound l W s) : Sound l W (tagcIdle s) :=
  h.setRb

theorem Sound.wireExpire {op : WireOp} {s : State} (h : Sound l W s) : Sound l W (wireExpire op s) := by
  unfold Machine.wireExpire
  split
  · exact h.wireBusy.i2cStop
  · exact h.wireBusy.i2cStop
  · exact (h.wireBusy.parts rfl rfl rfl rfl)
  · exact h.wireBusy
  · exact h.wireBusy.tagcIdle
  · exact h.wireBusy.tagcIdle
  · exact h.wireBusy.tagcIdle

theorem Sound.writeCopy {k b v writes : Nat} {s : State} (h : Sound l W s) : Sound l W (writeCopy k b v writes s) :=
  Sound.ite (Sound.setTag (Sound.ite h.setTag h)) (Sound.ite h.setTag h)

theorem Sound.hostInc {k amount : Nat} {s : State} (h : Sound l W s) : Sound l W (hostInc k amount s) := by
  unfold Machine.hostInc
  split
  · exact h.recErr.copyBad
  · exact (Sound.ite h.recErr h.writeCopy)

theorem Sound.hostPw {k limit : Nat} {v : Word} {s : State} (h : Sound l W s) : Sound l W (hostPw k limit v s) :=
  Sound.ite h.recErr h.setPw.setTag.setLeft

theorem Sound.i2cPut {a : Nat} {xs : List Byte} {acked : Nat} {s : State} (h : Sound l W s) : Sound l W (i2cPut a xs acked s).2 := by
  have hg : ∀ ys f, Sound l W (Machine.modTag f (Machine.setTag a ys s)) := fun _ _ => h.setTag.modTag
  exact .ite_snd h.i2cStop (.ite_snd (h.onTagc fun _ h' => h'.setRb).modTag.i2cStop (.ite_snd (hg _ _).i2cStop (.pair (hg _ _))))

theorem Sound.i2cGet {a n : Nat} {got : List Byte} {s : State} (h : Sound l W s) : Sound l W (i2cGet a n got s).2 := by
  have hg : ∀ f, Sound l W (Machine.modTag f s) := fun _ => h.modTag
  exact .ite_snd h.i2cStop (.ite_snd h.modTag.i2cStop (.ite_snd (hg _).i2cStop (.pair (hg _))))

theorem Sound.granule {op : WireOp} {s : State} (h : Sound l W s) : Sound l W (granule op s).2 := by
  unfold Machine.granule
  split
  · exact h.i2cPut
  · exact h.i2cGet
  · exact (h.parts rfl rfl rfl rfl)
  · exact (Sound.ite h.setRb.recErr h.setTag)
  · exact (Sound.tagcIdle (Sound.setTag (Sound.ite h.modTag h)))
  · exact h.hostPw.tagcIdle
  · exact h.hostInc.tagcIdle

theorem Sound.wireWait {op : WireOp} {need : Option Nat} {x2 : State} (h : Sound l W x2) : Sound l W (wireWait op need x2) :=
  h.modTag

theorem Sound.granules {n : Nat} {op : WireOp} {s : State} (h : Sound l W s) : Sound l W (granules n op s) := by
  induction n generalizing op s with
  | zero => exact h.wireWait
  | succ n ih =>
    have hg : Sound l W (Machine.granule op s).2 := h.granule
    unfold Machine.granules
    split <;> rename_i heq <;> rw [heq] at hg
    · exact hg
    · exact ih hg

theorem Sound.wireStart {n : Nat} {op : WireOp} {s : State} (h : Sound l W s) : Sound l W (wireStart n op s) :=
  Sound.ite h.wireWait h.granules

theorem Sound.cmdOver {e : Nat} {s : State} (h : Sound l W s) : Sound l W (cmdOver e s) :=
  h.modTag.foldl (fun _ _ h' => h'.wireExpire)

theorem Sound.replyDone {c : FieldCmd} {s : State} (h : Sound l W s) : Sound l W (replyDone c s) := by
  unfold Machine.replyDone
  split
  · exact h.cmdOver
  · exact (h.cmdOver.onTagc (fun _ h' => (Sound.ite_app h'.addRf.addRf.irq.publishNow h'.addRf.addRf.irq.publish)))

theorem Sound.tagSettle {s : State} (h : Sound l W s) : Sound l W (tagSettle s) := by
  unfold Machine.tagSettle
  split
  · exact h
  · exact (Sound.ite h.replyDone h)

theorem Sound.tagEndCmd {s : State} (h : Sound l W s) : Sound l W (tagEndCmd s) := by
  unfold Machine.tagEndCmd
  split
  · exact h
  · exact h.passTo.replyDone

theorem Sound.wireNext {s : State} (h : Sound l W s) : Sound l W (wireNext s) := by
  unfold Machine.wireNext
  dsimp only
  split
  · exact h
  · exact (by split; exacts [(h.sif (fun _ h' => (h'.onTagc (fun _ h1 => h1.addRf)))).modTag.granule, (h.sif (fun _ h' => (h'.onTagc
      (fun _ h1 => h1.addRf)))).modTag.granule.wireWait])

theorem Sound.needNow {s : State} (h : Sound l W s) : Sound l W (needNow s) :=
  h.modTag

theorem Sound.execWireGranule {s : State} (h : Sound l W s) : SoundNext l W (execWireGranule s) :=
  Sound.ite h (Sound.ite h.needNow.tagEndCmd h.needNow.tagEndCmd.wireNext)

theorem Sound.execWireTimeout {s : State} (h : Sound l W s) : SoundNext l W (execWireTimeout s) := by
  unfold Machine.execWireTimeout
  dsimp only
  split
  · exact (Sound.ite h (h.needNow.passTo.modTag.foldl (fun _ _ h' => h'.wireExpire)))
  · exact h

theorem Sound.execI2cWriteTransaction {addr mem : Nat} {xs : List Byte} {first : Nat} {s : State} (h : Sound l W s) : SoundNext l W
    (execI2cWriteTransaction addr mem xs first s) :=
  Sound.ite h.busStop (Sound.ite h.tagSettle.i2cStop (Sound.ite h.tagSettle.modTag.i2cStop h.tagSettle.modTag.wireStart))

theorem Sound.execI2cReadTransaction {addr : Nat} {mem : Option Nat} {n first : Nat} {s : State} (h : Sound l W s) : SoundNext l W
    (execI2cReadTransaction addr mem n first s) :=
  Sound.ite h.busStop (Sound.ite h.tagSettle.i2cStop (Sound.ite h.tagSettle.i2cGet h.tagSettle.wireStart))

theorem Sound.viewAccess {write : Bool} {a : Nat} {w : Word} {s : State} (h : Sound l W s) : Sound l W (viewAccess write a w s) :=
  Sound.ite h h.tagSettle.wireStart

theorem Sound.execTagViewAccess {write : Bool} {a : TagWordIx} {w : Word} {s : State} (h : Sound l W s) : SoundNext l W
    (execTagViewAccess write a w s) :=
  Sound.ite (h.windowWrite (fun _ h' => h'.viewAccess)) (Sound.ite (Sound.viewAccess (h.parts rfl rfl rfl rfl)) h)

theorem Sound.tagSend {xs : List Byte} {apdu : Option Bool} {t : Nat} {s : State} (h : Sound l W s) : Sound l W (tagSend xs apdu t s) :=
  Sound.ite h.modTag.modTag h.modTag.replyDone

theorem Sound.tagReply {xs : List Byte} {t : Nat} {s : State} (h : Sound l W s) : Sound l W (tagReply xs t s) :=
  h.modTag.tagSend

theorem Sound.onAir {f : State → State} {s : State} (h : Sound l W s) (hf : ∀ y0, Sound l W y0 → Sound l W (f y0)) : Sound l W (onAir f
    s) :=
  Sound.ite (hf _ h.tagEndCmd) h.tagEndCmd

theorem Sound.setAir {a : AirState} {x1 : State} (h : Sound l W x1) : Sound l W (setAir a x1) :=
  h.modTag

theorem Sound.otherFrame {s : State} (h : Sound l W s) : Sound l W (otherFrame s) :=
  Sound.ite h.setAir h

theorem Sound.execTagFieldOn {reserve : Bool} {s : State} (h : Sound l W s) : SoundNext l W (execTagFieldOn reserve s) :=
  Sound.ite h (h.clearSecurity.modTag.onTagc (fun _ h' => h'.irq.irqLevel.publishNow))

theorem Sound.execTagFieldLost {s : State} (h : Sound l W s) : SoundNext l W (execTagFieldLost s) :=
  (h.tagSettle.sif (fun _ h' => h'.cmdOver)).clearSecurity.modTag.onTagc (fun _ h' => h'.irqLevel)

theorem Sound.atqa {t : Nat} {s : State} (h : Sound l W s) : Sound l W (atqa t s) :=
  h.modTag.tagReply

theorem Sound.execTagReqa {t : Nat} {s : State} (h : Sound l W s) : SoundNext l W (execTagReqa t s) :=
  h.onAir (fun _ h' => (Sound.ite h'.atqa h'.otherFrame))

theorem Sound.execTagWupa {t : Nat} {s : State} (h : Sound l W s) : SoundNext l W (execTagWupa t s) :=
  h.onAir (fun _ h' => (Sound.ite h'.atqa h'.otherFrame))

theorem Sound.execTagAnticollision {level : Nat} {known : List Bool} {t : Nat} {s : State} (h : Sound l W s) : SoundNext l W
    (execTagAnticollision level known t s) :=
  h.onAir (fun _ h' => (Sound.ite h'.otherFrame (Sound.ite h'.tagReply h')))

theorem Sound.execTagSelect {level : Nat} {xs : List Byte} {t : Nat} {s : State} (h : Sound l W s) : SoundNext l W (execTagSelect level
    xs t s) :=
  h.onAir (fun _ h' => (Sound.ite h'.otherFrame (Sound.ite h'.modTag.tagReply h'.modTag.tagReply)))

theorem Sound.execTagHlta {s : State} (h : Sound l W s) : SoundNext l W (execTagHlta s) :=
  h.onAir (fun _ h' => (Sound.ite h'.setAir h'.otherFrame))

theorem Sound.execTagRats {param t : Nat} {s : State} (h : Sound l W s) : SoundNext l W (execTagRats param t s) :=
  h.onAir (fun _ h' => (Sound.ite (Sound.ite h'.modTag.tagReply h') h'.otherFrame))

theorem Sound.execTagPps {cid dsi dri t : Nat} {s : State} (h : Sound l W s) : SoundNext l W (execTagPps cid dsi dri t s) :=
  h.onAir (fun _ h' => (Sound.ite h'.tagReply h'.otherFrame))

theorem Sound.execTagDeselect {cid : Option Nat} {t : Nat} {s : State} (h : Sound l W s) : SoundNext l W (execTagDeselect cid t s) :=
  h.onAir (fun _ h' => (Sound.ite h'.clearSecurity.modTag.tagReply h'.otherFrame))

theorem Sound.sw {n : Nat} {s : State} (h : Sound l W s) : Sound l W (sw n s).next :=
  h

theorem Sound.apduServe {cla ins size : Nat} {x : Apdu} {f : State → ApduOut} {s : State} (h : Sound l W s) (hf : ∀ y0, Sound l W y0 →
    Sound l W (f y0).next) : Sound l W (apduServe cla ins size x f s) := by
  unfold Machine.apduServe
  exact Sound.modTag (Sound.ite_next h.modTag.sw (Sound.ite_next h.modTag.sw (Sound.ite_next (h.modTag.sif (fun _ h' =>
      h'.clearSecurity)).sw (hf _ h.modTag))))

theorem Sound.toggleNo {x0 : State} (h : Sound l W x0) : Sound l W (toggleNo x0) :=
  h.modTag

theorem Sound.sendPart {b : TagBlock} {s : State} (h : Sound l W s) : Sound l W (sendPart b s) := by
  unfold Machine.sendPart
  split
  · exact h
  · exact h.modTag.tagSend

theorem Sound.sendAck {b : TagBlock} {s : State} (h : Sound l W s) : Sound l W (sendAck b s) :=
  h.tagSend

theorem Sound.sendAgain {b : TagBlock} {s : State} (h : Sound l W s) : Sound l W (sendAgain b s) := by
  unfold Machine.sendAgain
  split
  · exact h
  · exact h.tagSend

theorem Sound.blockIn {serve : Nat → State → State} {b : TagBlock} {x2 : State} (h : Sound l W x2) (hserve : ∀ y0 y1, Sound l W y1 →
    Sound l W (serve y0 y1)) : Sound l W (blockIn serve b x2) :=
  h.onAir (fun _ h' => (Sound.ite h'.otherFrame (Sound.ite h' (by split; exacts [h'.modTag.toggleNo.sendAck, (hserve _ _
      h'.modTag.toggleNo).sendPart, (Sound.ite h'.sendAgain (Sound.ite h' h'.toggleNo.sendPart)), (Sound.ite h'.sendAgain h'.sendAck)]))))

theorem Sound.wireGap {s : State} (h : Sound l W s) : Sound l W (wireGap s) :=
  h.tagEndCmd.forEach (fun _ _ h' => h'.needNow.wireNext)

theorem Sound.apdu {cla ins : Nat} {x : Apdu} {f : State → ApduOut} {s : State} (h : Sound l W s) (hf : ∀ y0, Sound l W y0 → Sound l W
    (f y0).next) : Sound l W (apdu cla ins x f s) := by
  unfold Machine.apdu
  split
  · exact h
  · exact (Sound.foldl (h.blockIn (fun _ _ h' => (h'.apduServe hf))) (fun _ _ h' => (h'.wireGap.blockIn (fun _ _ h1 => (h1.apduServe
      hf)))))

theorem Sound.execApduSelect {x : Apdu} {s : State} (h : Sound l W s) : SoundNext l W (execApduSelect x s) :=
  h.apdu (fun _ h' => (Sound.ite_next h'.clearSecurity.sw (Sound.ite_next h'.clearSecurity.sw (Sound.ite_next
      h'.clearSecurity.modTag.sw h'.clearSecurity.sw))))

theorem Sound.execApduReadBinary {x : Apdu} {s : State} (h : Sound l W s) : SoundNext l W (execApduReadBinary x s) :=
  h.apdu (fun _ h' => (by split; exacts [h'.sw, (Sound.ite_next h'.sw (Sound.ite_next h'.sw (Sound.ite_next h'.sw (Sound.ite_next h'.sw
      (by split; exacts [h'.sw, h'])))))]))

theorem Sound.fieldWrite {a : Nat} {xs : List Byte} {writes : Nat} {s : State} (h : Sound l W s) :
    Sound l W (fieldWrite a xs writes s).next := by
  have hu : ∀ (c : Prop) [Decidable c] (ys : List Byte) (w : Word), Sound l W (if c then Machine.setTag a ys s
      else Machine.onTagc (fun v => Machine.setReg Reg.tagcLastFwrite w (Machine.irq Page.tagc 2 v)) (Machine.setTag a ys s)) :=
    fun _ _ _ _ => .ite h.setTag (h.setTag.onTagc fun _ h' => h'.irq.setReg)
  exact .ite_next (hu _ _ _) ((hu _ _ _).onTagc fun _ h' => h'.addRf)

theorem Sound.execApduUpdateBinary {x : Apdu} {s : State} (h : Sound l W s) : SoundNext l W (execApduUpdateBinary x s) :=
  h.apdu (fun _ h' => (Sound.ite_next h'.sw (Sound.ite_next h'.sw (Sound.ite_next h'.sw (Sound.ite_next h'.sw (by split; exacts [h'.sw,
      (Sound.ite_next h'.sw h'.fieldWrite)]))))))

theorem Sound.lockout {k : Nat} {s : State} (h : Sound l W s) : Sound l W (lockout k s) :=
  h.sif (fun _ h' => (h'.onTagc (fun _ h1 => h1.irq.fault)))

theorem Sound.wrongPw {k : Nat} {s : State} (h : Sound l W s) : Sound l W (wrongPw k s).next := by
  unfold Machine.wrongPw
  dsimp only
  exact (h.onTagc (fun _ h' => h'.irq)).lockout.sw

theorem Sound.rightPw {k : Nat} {s : State} (h : Sound l W s) : Sound l W (rightPw k s) :=
  h.setLeft.modTag

theorem Sound.stopped {writes : Nat} {s : State} (h : Sound l W s) : Sound l W (stopped writes s).next := by
  unfold Machine.stopped
  dsimp only
  exact (h.onTagc (fun _ h' => h'.addRf)).sw

theorem Sound.pwAttempt {k v writes : Nat} {acts : List (State → State)} {s : State} (h : Sound l W s)
    (hacts : ∀ f ∈ acts, ∀ s, Sound l W s → Sound l W (f s)) : Sound l W (pwAttempt k v writes acts s).next := by
  have hrun : ∀ (xs : List (State → State)), (∀ f ∈ xs, ∀ s, Sound l W s → Sound l W (f s)) → ∀ t, Sound l W t →
      Sound l W (xs.foldl (fun x f => f x) t) := by
    intro xs
    induction xs with
    | nil => exact fun _ _ ht => ht
    | cons f xs ih => exact fun hxs t ht => ih (fun g hg => hxs g (List.mem_cons_of_mem _ hg)) _ (hxs f List.mem_cons_self t ht)
  have hu : Sound l W ((acts.take (writes - 2)).foldl (fun x f => f x) (Machine.rightPw k (Machine.setLeft k (s.pwLeft k - 1) s))) :=
    hrun _ (fun f hf => hacts f (List.mem_of_mem_take hf)) _ h.setLeft.rightPw
  exact .ite_next h.stopped (.ite_next h.setLeft.wrongPw (.ite_next h.setLeft.lockout.stopped (.ite_next hu.stopped hu)))

theorem Sound.pwChecks {x : Apdu} {badLen : Bool} {f : State → ApduOut} {s : State} (h : Sound l W s) (hf : ∀ y0, Sound l W y0 → Sound
    l W (f y0).next) : Sound l W (pwChecks x badLen f s).next :=
  Sound.ite_next h.sw (Sound.ite_next h.sw (Sound.ite_next h.sw (Sound.ite_next h.sw (hf _ h))))

theorem Sound.execApduVerify {x : Apdu} {s : State} (h : Sound l W s) : SoundNext l W (execApduVerify x s) := by
  refine h.apdu fun _ h' => h'.pwChecks fun t ht => .ite_next ht (ht.pwAttempt fun f hf u hu => ?_)
  split at hf
  · obtain ⟨j, -, rfl⟩ := List.mem_map.mp hf
    exact hu.setLeft
  · cases hf

theorem Sound.execApduChangeReferenceData {x : Apdu} {s : State} (h : Sound l W s) :
    SoundNext l W (execApduChangeReferenceData x s) := by
  refine h.apdu fun _ h' => h'.pwChecks fun t ht => ht.pwAttempt fun f hf u hu => ?_
  obtain rfl := List.mem_singleton.mp hf
  exact hu.setPw

theorem Sound.fieldInc {k a writes : Nat} {s : State} (h : Sound l W s) : Sound l W (fieldInc k a writes s).next := by
  have hw : ∀ b v n, Sound l W (Machine.writeCopy k b v n s) := fun _ _ _ => h.writeCopy
  unfold Machine.fieldInc
  split
  · exact h.copyBad
  · exact .ite_next h (.ite_next (hw _ _ _).stopped (.out (hw _ _ _)))

theorem Sound.execApduIncrementCounter {x : Apdu} {s : State} (h : Sound l W s) : SoundNext l W (execApduIncrementCounter x s) :=
  h.apdu (fun _ h' => (Sound.ite_next h'.sw (Sound.ite_next h'.sw (Sound.ite_next h'.sw (Sound.ite_next h'.sw h'.fieldInc)))))

theorem Sound.execApduReadCounter {x : Apdu} {s : State} (h : Sound l W s) : SoundNext l W (execApduReadCounter x s) :=
  h.apdu (fun _ h' => (Sound.ite_next h'.sw (Sound.ite_next h'.sw (Sound.ite_next h'.sw (by split; exacts [h'.copyBad, h'])))))

theorem Sound.tagcWire {op : WireOp} {s : State} (h : Sound l W s) : Sound l W (tagcWire op s) :=
  h.tagSettle.setRb.wireStart

theorem Sound.tagcPwWrite {ag : Agent} {w : Word} {x2 : State} (h : Sound l W x2) : Sound l W (tagcPwWrite ag w x2) :=
  h.guarded (fun _ h' => (h'.sif (fun _ h1 => (h1.pageWork (fun _ h2 => h2.modTag.tagcWire)))))

theorem Sound.execTagcPwSet {ag : Agent} {value w : Word} {s : State} (h : Sound l W s) : SoundNext l W (execTagcPwSet ag value w s) :=
  (h.guarded (fun _ h' => h'.modTag)).tagcPwWrite

theorem Sound.tagcPwValueWrite {ag : Agent} {w : Word} {x2 : State} (h : Sound l W x2) : Sound l W (tagcPwValueWrite ag w x2) :=
  h.guarded (fun _ h' => h'.modTag)

theorem Sound.tagcCntWrite {ag : Agent} {w : Word} {x2 : State} (h : Sound l W x2) : Sound l W (tagcCntWrite ag w x2) :=
  h.guarded (fun _ h' => (h'.sif (fun _ h1 => (h1.pageWork (fun _ h2 => h2.tagcWire)))))

theorem Sound.execTagcCntInc {ag : Agent} {w : Word} {s : State} (h : Sound l W s) : SoundNext l W (execTagcCntInc ag w s) :=
  h.tagcCntWrite

theorem Sound.tagcConfigWrite {ag : Agent} {a : Nat} {w : Word} {x3 : State} (h : Sound l W x3) : Sound l W (tagcConfigWrite ag a w x3) :=
  h.guarded (fun _ h' => (by split; exacts [h', h'.tagcWire]))

theorem Sound.execTagcConfigWrite {ag : Agent} {r : TagcReg} {w : Word} {s : State} (h : Sound l W s) : SoundNext l W
    (execTagcConfigWrite ag r w s) :=
  h.tagcConfigWrite

theorem Sound.tagcWlockWrite {ag : Agent} {w : Word} {x2 : State} (h : Sound l W x2) : Sound l W (tagcWlockWrite ag w x2) :=
  h.guarded (fun _ h' => h'.setReg)

theorem Sound.execTagcFieldWlock {ag : Agent} {w : Word} {s : State} (h : Sound l W s) : SoundNext l W (execTagcFieldWlock ag w s) :=
  h.tagcWlockWrite

theorem Sound.tagcCntClr {ag : Agent} {w : Word} {x2 : State} (h : Sound l W x2) : Sound l W (tagcCntClr ag w x2) :=
  h.guarded (fun _ h' => ((h'.sif (fun _ h1 => h1.setReg)).sif (fun _ h1 => h1.setReg)))

theorem Sound.execTagcCntClr {ag : Agent} {w : Word} {s : State} (h : Sound l W s) : SoundNext l W (execTagcCntClr ag w s) :=
  h.tagcCntClr

theorem Sound.modPwr {f : PwrSt → PwrSt} {s : State} (h : Sound l W s) : Sound l W (modPwr f s) :=
  h.parts rfl rfl rfl rfl

theorem Sound.setMode {v : Nat} {x1 : State} (h : Sound l W x1) : Sound l W (setMode v x1) :=
  h.setRf

theorem Sound.queueHold {s : State} (h : Sound l W s) : Sound l W (queueHold s) :=
  Sound.ite h h.setRb.irq.settle

theorem Sound.radioDown {s : State} (h : Sound l W s) : Sound l W (radioDown s) :=
  h.abortRx.modRadio.setRb.radioTo

theorem Sound.modeAccept {target : Nat} {s : State} (h : Sound l W s) : Sound l W (modeAccept target s) :=
  (h.modPwr.setMode.queueHold.forEach (fun _ _ h' => h'.playerIdle)).radioDown

theorem Sound.modeReqWrite {ag : Agent} {w : Word} {x2 : State} (h : Sound l W x2) : Sound l W (modeReqWrite ag w x2) :=
  h.guarded (fun _ h' => (Sound.ite h'.refusalErr (by split; exacts [h'.addRf.irq.refusalErr, (Sound.ite h'.addRf.irq.refusalErr
      h'.modeAccept)])))

theorem Sound.execModeReqSleep {ag : Agent} {w : Word} {s : State} (h : Sound l W s) : SoundNext l W (execModeReqSleep ag w s) :=
  h.modeReqWrite

theorem Sound.execModeReqWatch {ag : Agent} {w : Word} {s : State} (h : Sound l W s) : SoundNext l W (execModeReqWatch ag w s) :=
  h.modeReqWrite

theorem Sound.forget {lo hi : Nat} {s : State} (h : Sound l W s) : Sound l W (forget lo hi s) := by
  refine ⟨h.pending, fun hw => ?_⟩
  obtain ⟨hregs, hshadow, hmem⟩ := wf_iff.mp (h.wf hw)
  exact wf_iff.mpr ⟨hregs, hshadow, sparse_wf_filter hmem⟩

theorem Sound.modMgtSram {s : State} (h : Sound l W s) : Sound l W (modMgtSram s) :=
  h.parts rfl rfl rfl rfl

theorem Sound.watchEnter {s : State} (h : Sound l W s) : Sound l W (watchEnter s) :=
  Sound.setRb (Sound.modCrocus (Sound.modQueue (Sound.modMgtSram (Sound.modPwr (Sound.forget (Sound.forget (h.parts rfl rfl rfl rfl)))))))

theorem Sound.execModeEntered {s : State} (h : Sound l W s) : SoundNext l W (execModeEntered s) :=
  Sound.ite h (Sound.ite h.cellsNow.setRf.modPwr.modFab.setMode.watchEnter h.cellsNow.setRf.modPwr.modFab.setMode)

theorem Sound.wakeBegin {mask c t : Nat} {s : State} (h : Sound l W s) : Sound l W (wakeBegin mask c t s) :=
  Sound.ite h (Sound.setMode (Sound.modPwr (Sound.ite h.passTo h)))

theorem Sound.execWakeTimerExpiry {tick : Nat} {s : State} (h : Sound l W s) : SoundNext l W (execWakeTimerExpiry tick s) :=
  Sound.ite h h.wakeBegin

theorem Sound.execWakeDetect {causes cycles tick : Nat} {s : State} (h : Sound l W s) : SoundNext l W (execWakeDetect causes cycles
    tick s) :=
  h.wakeBegin

theorem Sound.cmpResume {k : Nat} {s : State} (h : Sound l W s) : Sound l W (cmpResume k s) :=
  Sound.ite h.cmpFrom h

theorem Sound.cadResume {g : Nat} {s : State} (h : Sound l W s) : Sound l W (cadResume g s) :=
  Sound.ite h.cadSet.addRf h

theorem Sound.execFtbResume {cycles : Nat} {s : State} (h : Sound l W s) : SoundNext l W (execFtbResume cycles s) :=
  Sound.ite ((h.modPwr.advance.measStart.forEach (fun _ _ h' => h'.cmpResume)).forEach (fun _ _ h' => h'.cadResume)) h

theorem Sound.modNvm {f : NvmSt → NvmSt} {s : State} (h : Sound l W s) : Sound l W (modNvm f s) :=
  h.parts rfl rfl rfl rfl

theorem Sound.modMgt {f : MgtSt → MgtSt} {s : State} (h : Sound l W s) : Sound l W (modMgt f s) :=
  h.parts rfl rfl rfl rfl

theorem Sound.setFwSlot {x : Nat} {v : FwSlot} {x2 : State} (h : Sound l W x2) : Sound l W (setFwSlot x v x2) :=
  h.modNvm

theorem Sound.consoleAdd {xs : List Word} {s : State} (h : Sound l W s) : Sound l W (consoleAdd xs s) :=
  Sound.ite h (Sound.ite h.modMgt h.addRf)

theorem Sound.execConsoleLineSent {s : State} (h : Sound l W s) : SoundNext l W (execConsoleLineSent s) := by
  unfold Machine.execConsoleLineSent
  split
  · exact h
  · exact (Sound.modMgt (h.parts rfl rfl rfl rfl))

theorem Sound.logWrite {r : LogRec} {s : State} (h : Sound l W s) : Sound l W (logWrite r s) :=
  Sound.ite h (Sound.consoleAdd (Sound.ite h.modNvm.irq.irq.publish h.modNvm.irq))

theorem Sound.logFlush {s : State} (h : Sound l W s) : Sound l W (logFlush s) :=
  Sound.ite (h.modMgt.foldl (fun _ _ h' => h'.logWrite)) h

theorem Sound.logRec {r : LogRec} {s : State} (h : Sound l W s) : Sound l W (logRec r s) :=
  Sound.ite h.logFlush.logWrite h.modMgt

theorem Sound.logAdd {code source sev info detail : Nat} {s : State} (h : Sound l W s) : Sound l W (logAdd code source sev info detail
    s) :=
  h.logRec

theorem Sound.selShow {s : State} (h : Sound l W s) : Sound l W (selShow s) :=
  Sound.ite (h.setRb.forEach (fun _ _ h' => h'.setReg)) (h.setRb.forEach (fun _ _ h' => h'.setReg)).addRf.fault

theorem Sound.selServe {s : State} (h : Sound l W s) : Sound l W (selServe s) :=
  Sound.ite h.modMgt h.modMgt.selShow

theorem Sound.logSelWrite {ag : Agent} {w : Word} {x2 : State} (h : Sound l W x2) : Sound l W (logSelWrite ag w x2) :=
  h.guarded (fun _ h' => (h'.pageWork (fun _ h1 => h1.storeReg.selServe)))

theorem Sound.execLogSelWrite {ag : Agent} {w : Word} {s : State} (h : Sound l W s) : SoundNext l W (execLogSelWrite ag w s) :=
  h.logSelWrite

theorem Sound.logCtrlWrite {ag : Agent} {w : Word} {x2 : State} (h : Sound l W x2) : Sound l W (logCtrlWrite ag w x2) :=
  h.guarded (fun _ h' => (Sound.ite h' (Sound.ite h'.refusalErr (h'.pageWork (fun _ h1 => h1.setRb)))))

theorem Sound.execLogClear {ag : Agent} {w : Word} {s : State} (h : Sound l W s) : SoundNext l W (execLogClear ag w s) :=
  h.logCtrlWrite

theorem Sound.execLogClearDone {s : State} (h : Sound l W s) : SoundNext l W (execLogClearDone s) :=
  Sound.ite h.modNvm.setRb.logFlush h

theorem Sound.sensorTake {x : SensorValue} {s : State} (h : Sound l W s) : Sound l W (sensorTake x s) := by
  unfold Machine.sensorTake
  split
  · exact (Sound.ite h.modMgt h.modMgt.setReg)
  · exact (Sound.ite h h.setReg)
  · exact (Sound.ite h h.setReg)
  · exact (Sound.ite h h.setReg)

theorem Sound.sensorRead {x : SensorValue} {x1 : State} (h : Sound l W x1) : Sound l W (sensorRead x x1) := by
  unfold Machine.sensorRead
  split
  · exact h.readSensor
  · exact (h.sif (fun _ h' => h'.readSensor))
  · exact h

theorem Sound.execSensorRefresh {x : SensorValue} {s : State} (h : Sound l W s) : SoundNext l W (execSensorRefresh x s) :=
  Sound.sensorRead (Sound.ite h.sensorTake h)

theorem Sound.sensCntClr {ag : Agent} {w : Word} {x2 : State} (h : Sound l W x2) : Sound l W (sensCntClr ag w x2) :=
  h.guarded (fun _ h' => (h'.sif (fun _ h1 => (h1.setReg.forEach (fun _ _ h2 => h2.setRf)))))

theorem Sound.execSensCntClr {ag : Agent} {w : Word} {s : State} (h : Sound l W s) : SoundNext l W (execSensCntClr ag w s) :=
  h.sensCntClr

theorem Sound.thermCfgWrite {ag : Agent} {w : Word} {x2 : State} (h : Sound l W x2) : Sound l W (thermCfgWrite ag w x2) :=
  h.guarded (fun _ h' => (Sound.ite h'.refusalErr h'.storeReg))

theorem Sound.takePages {ps : List Nat} {s : State} (h : Sound l W s) : Sound l W (takePages ps s).2 :=
  h.forEach (fun _ _ h' => h'.setRf)

theorem Sound.givePages {xs : List (Nat × Nat)} {s : State} (h : Sound l W s) : Sound l W (givePages xs s) :=
  h.foldl (fun _ _ h' => (Sound.ite h' h'.setRf))

theorem Sound.calTold {err : Nat} {s : State} (h : Sound l W s) : Sound l W (calTold err s) :=
  Sound.ite h.modMgt h

theorem Sound.calEndAs {inj err : Nat} {s : State} (h : Sound l W s) : Sound l W (calEndAs inj err s) := by
  unfold Machine.calEndAs
  split
  · exact h
  · exact ((h.modMgt.forEach (fun _ _ h' => (Sound.ite h'.releaseRes h'))).forEach (fun _ _ h' =>
      h'.setRb)).givePages.setRf.setRb.logAdd.calTold.faultOpt.irq.govern

theorem Sound.calEnd {err : Nat} {x1 : State} (h : Sound l W x1) : Sound l W (calEnd err x1) :=
  h.calEndAs

theorem Sound.crocusStop {s : State} (h : Sound l W s) : Sound l W (crocusStop s) :=
  h.modCrocus.setRb.crocusDrop

theorem Sound.radioLatch {s : State} (h : Sound l W s) : Sound l W (radioLatch s) :=
  Sound.ite h.radioAbort.modRadio.modRadio h.radioAbort.modRadio.radioTo

theorem Sound.protAct {inj : Nat} {s : State} (h : Sound l W s) : Sound l W (protAct inj s) :=
  Sound.ite h.driversStop.crocusStop.radioLatch.calEndAs h.driversStop.crocusStop.radioLatch

theorem Sound.protReport {inj level site : Nat} {v : ℤ} {s : State} (h : Sound l W s) : Sound l W (protReport inj level site v s) :=
  h.logAdd.publish.publishOn.irq.recErr

theorem Sound.protRise {inj level site : Nat} {v : ℤ} {s : State} (h : Sound l W s) : Sound l W (protRise inj level site v s) :=
  Sound.protReport (Sound.setRf (Sound.ite h.addRf (Sound.ite h.addRf h.addRf)))

theorem Sound.protLatch {trip : Bool} {inj : Nat} {s : State} (h : Sound l W s) : Sound l W (protLatch trip inj s) :=
  (h.sif (fun _ h' => h'.setRb)).setRb.irqLevel.protAct

theorem Sound.execThermalLevelCheck {s : State} (h : Sound l W s) : SoundNext l W (execThermalLevelCheck s) := by
  unfold Machine.execThermalLevelCheck
  split
  · exact h
  · exact (Sound.ite h.setRf (Sound.ite h.protRise.protLatch h.protRise))

theorem Sound.execProtCapStep {s : State} (h : Sound l W s) : SoundNext l W (execProtCapStep s) :=
  Sound.ite h (by split; exacts [h, h.setRf.govern, h.setRf.govern])

theorem Sound.execHwTrip {site : Fin 3} {temp : ℤ} {s : State} (h : Sound l W s) : SoundNext l W (execHwTrip site temp s) :=
  Sound.ite h h.protRise.protLatch

theorem Sound.protClear {s : State} (h : Sound l W s) : Sound l W (protClear s).2 :=
  Sound.ite_snd h (by split; exacts [(Sound.ite_snd h.setReg.logAdd.irqLevel.govern h), h])

theorem Sound.supplyTell {s : State} (h : Sound l W s) : Sound l W (supplyTell s) :=
  h.publish.publishOn.irq.fault

theorem Sound.supplyReport {rail mv : Nat} {s : State} (h : Sound l W s) : Sound l W (supplyReport rail mv s) :=
  Sound.ite h.logAdd.supplyTell h.logAdd.modMgt

theorem Sound.supplyTold {s : State} (h : Sound l W s) : Sound l W (supplyTold s) :=
  h.modMgt.forEach (fun _ _ h' => h'.supplyTell)

theorem Sound.supervisorReport {rail : Nat} {s : State} (h : Sound l W s) : Sound l W (supervisorReport rail s) :=
  h.nextFree.supplyReport

theorem Sound.calVfld {s : State} (h : Sound l W s) : Sound l W (calVfld s) := by
  unfold Machine.calVfld
  exact h.modMgt.modBoot

theorem Sound.vfldBack {s : State} (h : Sound l W s) : Sound l W (vfldBack s) :=
  h.calVfld.sif (fun _ h' => h'.sweepLight)

theorem Sound.execVfldFall {s : State} (h : Sound l W s) : SoundNext l W (execVfldFall s) :=
  Sound.ite (Sound.ite h.modBoot h.modBoot.calVfld.driversStop.supervisorReport) h

theorem Sound.execVfldRise {s : State} (h : Sound l W s) : SoundNext l W (execVfldRise s) :=
  Sound.ite h h.modBoot.vfldBack

theorem Sound.execVfldOvervoltage {s : State} (h : Sound l W s) : SoundNext l W (execVfldOvervoltage s) :=
  Sound.ite h h.modBoot.calVfld.driversStop

theorem Sound.execVfldOvervoltageClear {s : State} (h : Sound l W s) : SoundNext l W (execVfldOvervoltageClear s) :=
  h.modBoot.vfldBack

theorem Sound.execSupplyRangeReport {rail : Fin 6} {mv : Nat} {s : State} (h : Sound l W s) : SoundNext l W (execSupplyRangeReport rail
    mv s) :=
  h.supplyReport

theorem Sound.execMboxNotify {s : State} (h : Sound l W s) : SoundNext l W (execMboxNotify s) :=
  h.onTask (fun _ _ h' => h'.addRf.irq)

theorem Sound.loadReg {a : Nat} {w : Word} {s : State} (h : Sound l W s) : Sound l W (loadReg a w s) :=
  Sound.setReg (Sound.ite h.setShade h)

theorem Sound.loadRegs {regs : List Nat} {ws : List Word} {s : State} (h : Sound l W s) : Sound l W (loadRegs regs ws s) :=
  h.foldl (fun _ _ h' => h'.loadReg)

theorem Sound.loadRegion {ws : List Word} {s : State} (h : Sound l W s) : Sound l W (loadRegion ws s) :=
  ((h.forEach (fun _ _ h' => (Sound.ite h'.setReg.dutyShow h'.setReg.clearBins))).forEach (fun _ _ h' => h'.setReg)).setReg

theorem Sound.loadPa {ws : List Word} {s : State} (h : Sound l W s) : Sound l W (loadPa ws s) :=
  h.forEach (fun _ _ h' => h'.setReg)

theorem Sound.loadLayout {ws : List Word} {s : State} (h : Sound l W s) : Sound l W (loadLayout ws s) :=
  h.forEach (fun _ _ h' => h'.setReg)

theorem Sound.putScore {k b : Nat} {r : SetRec} {s t : State} (h : Sound l W s) (ht : putScore k b r s = some t) : Sound l W t := by
  unfold Machine.putScore at ht
  split at ht
  · cases ht
    exact h.setBytes
  · cases ht

theorem Sound.loadScore {r : SetRec} {s t : State} (h : Sound l W s) (ht : loadScore r s = some t) : Sound l W t := by
  unfold Machine.loadScore at ht
  dsimp only at ht
  split at ht
  · cases ht
  · next heq =>
    have hu := h.putScore heq
    split_ifs at ht <;> cases ht
    · exact hu.modPlayer.setReg
    · exact hu.setRf

/-- A record that loads keeps the representation; one that is refused loads nothing. -/
theorem Sound.loadRecord {r : SetRec} {s t : State} (h : Sound l W s) (ht : loadRecord r s = some t) : Sound l W t := by
  have hif : ∀ {c : Prop} [Decidable c] {u : State}, Sound l W u → (if c then some u else none) = some t → Sound l W t := by
    intro c _ u hu hc
    split at hc <;> cases hc
    exact hu
  unfold Machine.loadRecord at ht
  dsimp only at ht
  split at ht
  · exact hif h.loadRegs ht
  · split at ht
    · exact h.loadScore ht
    · exact hif h.loadLayout ht
    · exact hif h.loadRegion ht
    · exact hif h.loadPa ht
    · cases ht

theorem Sound.loadOne {i : Nat} {s : State} (h : Sound l W s) : Sound l W (loadOne i s) := by
  unfold Machine.loadOne
  dsimp only
  split
  · next heq =>
    split at heq
    · exact h.loadRecord heq
    · cases heq
  · exact h.recErr

theorem Sound.loadStore {s : State} (h : Sound l W s) : Sound l W (loadStore s) :=
  Sound.ite h.recErr ((h.forEach (fun _ _ h' => h'.loadOne)).forEach (fun _ _ h' => h'.loadOne))

theorem Sound.startAuto {s : State} (h : Sound l W s) : Sound l W (startAuto s) :=
  h.forEach (fun _ _ h' => (by split; exacts [h', (Sound.ite h' h'.startOwn)]))

theorem Sound.modJob {f : Job → Job} {x1 : State} (h : Sound l W x1) : Sound l W (modJob f x1) :=
  h.modMgt

theorem Sound.jobErr {e : Nat} {x1 : State} (h : Sound l W x1) : Sound l W (jobErr e x1) :=
  h.modJob

theorem Sound.jobWords {ws : List Word} {x1 : State} (h : Sound l W x1) : Sound l W (jobWords ws x1) :=
  h.modJob

theorem Sound.jobTake {ps : List Nat} {s : State} (h : Sound l W s) : Sound l W (jobTake ps s) :=
  h.takePages.modJob

theorem Sound.tableShut {s : State} (h : Sound l W s) : Sound l W (tableShut s) :=
  (h.jobTake.forEach (fun _ _ h' => h'.setRb)).modJob

theorem Sound.tableQuiet {s : State} (h : Sound l W s) : Sound l W (tableQuiet s) :=
  h.radioStandby.forEach (fun _ _ h' => (Sound.ite h' h'.setRb.irq))

theorem Sound.tableOpen {s : State} (h : Sound l W s) : Sound l W (tableOpen s) := by
  unfold Machine.tableOpen
  split
  · exact h
  · exact (h.forEach (fun _ _ h' => h'.setRb.setRb.freeSteps)).modJob

theorem Sound.tableDrop {s : State} (h : Sound l W s) : Sound l W (tableDrop s) :=
  h.tableOpen.sif (fun _ h' => h'.radioResume)

theorem Sound.applyFail {r : SetRec} {e : Nat} {s : State} (h : Sound l W s) : Sound l W (applyFail r e s) :=
  h.tableDrop.jobErr.faultOpt.logAdd

theorem Sound.applyDone {r : SetRec} {ps : List Nat} {extra : Word} {s : State} (h : Sound l W s) : Sound l W (applyDone r ps extra s) :=
  h.jobWords.logAdd

theorem Sound.applyScore {r : SetRec} {swap : Bool} {s : State} (h : Sound l W s) : Sound l W (applyScore r swap s) := by
  refine .ite h.applyFail ?_
  dsimp only
  split
  · exact h.applyFail
  · next heq =>
    have ht := h.putScore heq
    split
    · exact ht.jobTake.setRf.irq.recErr.applyFail
    · exact .ite ht.jobTake.setRf.irq.claimRes.playerSwap.playerIdle.applyDone.modJob ht.jobTake.setRf.irq.applyDone

theorem Sound.applyWeights {r : SetRec} {regs : List Nat} {ws : List Word} {swap : Bool} {s : State} (h : Sound l W s) : Sound l W
    (applyWeights r regs ws swap s) :=
  Sound.ite h.applyFail (Sound.applyDone (Sound.ite (h.loadRegs.jobTake.bankRequest (fun _ h' => h')) h.loadRegs.jobTake))

theorem Sound.applyStaged {r : SetRec} {regs : List Nat} {ws : List Word} {arm : Bool} {s : State} (h : Sound l W s) : Sound l W
    (applyStaged r regs ws arm s) :=
  Sound.applyDone (Sound.sif (Sound.ite h.setRb.jobTake.loadRegs.setShade (h.setRb.jobTake.foldl (fun _ _ h' => h'.setShade))) (fun _
      h' => h'.setRb))

theorem Sound.applyTable {r : SetRec} {ws : List Word} {arg : Nat} {s : State} (h : Sound l W s) : Sound l W (applyTable r ws arg s) :=
  Sound.ite h.applyFail (Sound.ite h.applyFail (Sound.ite (Sound.modJob (Sound.ite h h.tableShut)) (Sound.radioResume (Sound.applyDone
      (Sound.tableOpen (Sound.ite (Sound.loadRegion (Sound.tableQuiet (Sound.ite h h.tableShut))) (Sound.loadPa (Sound.tableQuiet
      (Sound.ite h h.tableShut)))))))))

theorem Sound.applyRecord {arg : Nat} {s : State} (h : Sound l W s) : Sound l W (applyRecord arg s) :=
  Sound.ite h.applyFail (Sound.ite h.modJob.jobTake (by split; exacts [(Sound.ite h.applyFail (Sound.ite h.applyWeights
      h.applyStaged)), (by split; exacts [h.applyScore, h.applyFail, h.applyTable, h.applyTable, h.applyFail])]))

theorem Sound.checkStore {s : State} (h : Sound l W s) : Sound l W (checkStore s) :=
  Sound.ite h.jobErr.faultOpt h.jobWords

theorem Sound.updBusy {x0 : State} (h : Sound l W x0) : Sound l W (updBusy x0) :=
  h.refusalErr

theorem Sound.updTargetWrite {ag : Agent} {w : Word} {x2 : State} (h : Sound l W x2) : Sound l W (updTargetWrite ag w x2) :=
  h.guarded (fun _ h' => (Sound.ite h'.updBusy h'.storeReg))

theorem Sound.execUpdTargetWrite {ag : Agent} {w : Word} {s : State} (h : Sound l W s) : SoundNext l W (execUpdTargetWrite ag w s) :=
  h.updTargetWrite

theorem Sound.updEmpty {g : Nat} {s : State} (h : Sound l W s) : Sound l W (updEmpty g s) :=
  Sound.ite h (Sound.ite h.setMem h.modNvm.setFwSlot)

theorem Sound.updBegin {s : State} (h : Sound l W s) : Sound l W (updBegin s) :=
  Sound.ite h.refusalErr (Sound.ite h.updBusy h.updEmpty.modMgt.setReg.setReg)

theorem Sound.updVerify {s : State} (h : Sound l W s) : Sound l W (updVerify s) :=
  Sound.ite h.setReg h.refusalErr

theorem Sound.updAbort {s : State} (h : Sound l W s) : Sound l W (updAbort s) :=
  h.sif (fun _ h' => h'.updEmpty.setReg)

theorem Sound.updCtrlWrite {ag : Agent} {w : Word} {x2 : State} (h : Sound l W x2) : Sound l W (updCtrlWrite ag w x2) :=
  h.guarded (fun _ h' => (h'.sif (fun _ h1 => (h1.pageWork (fun _ h2 => (((h2.sif (fun _ h3 => h3.updBegin)).sif (fun _ h3 =>
      h3.updVerify)).sif (fun _ h3 => h3.updAbort)))))))

theorem Sound.execUpdBegin {ag : Agent} {s : State} (h : Sound l W s) : SoundNext l W (execUpdBegin ag s) :=
  h.updCtrlWrite

theorem Sound.execUpdVerify {ag : Agent} {s : State} (h : Sound l W s) : SoundNext l W (execUpdVerify ag s) :=
  h.updCtrlWrite

theorem Sound.execUpdAbort {ag : Agent} {s : State} (h : Sound l W s) : SoundNext l W (execUpdAbort ag s) :=
  h.updCtrlWrite

theorem Sound.updDataWrite {ag : Agent} {w : Word} {s : State} (h : Sound l W s) : Sound l W (updDataWrite ag w s) :=
  Sound.ite h (h.guarded (fun _ h' => (h'.pageWork (fun _ h1 => (Sound.ite h1.refusalErr h1.setMem.setReg)))))

theorem Sound.execUpdData {ag : Agent} {w : Word} {s : State} (h : Sound l W s) : SoundNext l W (execUpdData ag w s) :=
  h.updDataWrite

theorem Sound.verifyReport {k sev : Nat} {s : State} (h : Sound l W s) : Sound l W (verifyReport k sev s) :=
  Sound.ite_app h.irq.publish.logWrite h.irq.publish.logRec

theorem Sound.slotVerified {x : Nat} {s : State} (h : Sound l W s) : Sound l W (slotVerified x s) :=
  Sound.ite h.setFwSlot.modNvm h.setFwSlot

theorem Sound.execUpdVerifyDone {s : State} (h : Sound l W s) : SoundNext l W (execUpdVerifyDone s) :=
  Sound.ite h (by split; exacts [(Sound.verifyReport (Sound.setReg (Sound.ite h h.slotVerified))), h.setReg.verifyReport.recErr])

theorem Sound.slotNoted {x : Nat} {s : State} (h : Sound l W s) : Sound l W (slotNoted x s) :=
  Sound.ite h h.setFwSlot

theorem Sound.slotFail {x : Nat} {s : State} (h : Sound l W s) : Sound l W (slotFail x s) :=
  h.logAdd

theorem Sound.revertTrial {cause : Nat} {s : State} (h : Sound l W s) : Sound l W (revertTrial cause s) :=
  h.modNvm.modMgt.logAdd

theorem Sound.bootSlot {cause : Nat} {s : State} (h : Sound l W s) : Sound l W (bootSlot cause s) := by
  have hd : ∀ (o : Option Nat) (t : State), Sound l W t → Sound l W ((o.map Machine.slotFail).getD id t) := by
    intro o t ht
    cases o with
    | none => exact ht
    | some x => exact ht.slotFail
  have ha : Sound l W (if s.nvm.trialRun then Machine.revertTrial cause s else s) := .ite h.revertTrial h
  unfold Machine.bootSlot
  generalize (if s.nvm.trialRun then Machine.revertTrial cause s else s) = a at ha ⊢
  have hb : Sound l W (Machine.modNvm (fun n => { n with trialCount := 0 }) a) := ha.modNvm
  dsimp only
  generalize Machine.modNvm (fun n => { n with trialCount := 0 }) a = b at hb ⊢
  have hc := Sound.ite (c := (a.nvm.trialCount == 1) = true ∧ Option.map Prod.snd a.bootPick ≠ some true)
    (Sound.modNvm (f := fun n => { n with trial := none }) (hd a.nvm.trial b hb)) hb
  split
  · exact hc.setRf
  · have hx : ∀ x, Sound l W (Machine.setRf Reg.rstBoot 5 4 (x + 1) (Machine.modMgt (fun m => { m with run := x }) (Machine.slotNoted x
      _))) :=
      fun x => hc.slotNoted.modMgt.setRf
    exact .ite (hx _).modMgt.modNvm (.ite (hx _).slotFail.setRb.fault (hx _))

theorem Sound.mgtClear {s : State} (h : Sound l W s) : Sound l W (mgtClear s) :=
  h.filterRegs

theorem Sound.mgtPages {s : State} (h : Sound l W s) : Sound l W (mgtPages s) :=
  h.mgtClear.forEach (fun _ _ h' => h'.setRb.setRf)

theorem Sound.recCut {s : State} (h : Sound l W s) : Sound l W (recCut s) :=
  h.sif (fun _ h' => h'.modNvm)

theorem Sound.recShow {r : CalRec} {x1 : State} (h : Sound l W x1) : Sound l W (recShow r x1) :=
  h.setReg

theorem Sound.checkRecord {s : State} (h : Sound l W s) : Sound l W (checkRecord s).2 :=
  (h.sif (fun _ h' => h'.setRb.fault)).sif (fun _ h' => h'.setRb.fault)

theorem Sound.hhReset {s0 : State} (h : Sound l W s0) : Sound l W (hhReset s0) :=
  Sound.irqLevel (Sound.releaseAll (Sound.modMgt (Sound.calEnd (Sound.modBoot (Sound.givePages (Sound.modMgt (Sound.mgtPages
      (Sound.recCut (Sound.ite h.tableDrop.modNvm h.tableDrop)))))))))

theorem Sound.mboxAnswer {code tag err : Nat} {ws : List Word} {s : State} (h : Sound l W s) : Sound l W (mboxAnswer code tag err ws s) :=
  (h.foldl (fun _ _ h' => h'.setReg)).setReg.setReg.setReg.irq.publish

theorem Sound.headerReply {trialFailed : Bool} {s : State} (h : Sound l W s) : Sound l W (headerReply trialFailed s) := by
  unfold Machine.headerReply
  split
  · exact h
  · exact (Sound.ite h.modNvm.mboxAnswer.fault (Sound.ite h.modNvm.mboxAnswer h.modNvm.mboxAnswer.faultOpt))

theorem Sound.mgtBack {s : State} (h : Sound l W s) : Sound l W (mgtBack s) :=
  Sound.sif (Sound.supplyTold (Sound.logFlush (Sound.sif (by split; exacts [h, h.modMgt.irq]) (fun _ h' => h'.irq)))) (fun _ h' =>
      h'.selServe)

theorem Sound.execHollyhockRestart {s : State} (h : Sound l W s) : SoundNext l W (execHollyhockRestart s) := by
  have hshow : ∀ (o : Option CalRec) (t : State), Sound l W t → Sound l W ((o.map Machine.recShow).getD id t) := by
    intro o t ht
    cases o with
    | none => exact ht
    | some x => exact ht.recShow
  exact .ite h (.ite h.bootSlot.irq.fault (Sound.mgtBack (Sound.headerReply (Sound.setRf (hshow _ _ h.bootSlot.modBoot.checkRecord)))))

theorem Sound.fwReset {s : State} (h : Sound l W s) : Sound l W (fwReset s) :=
  h.setRb.hhReset

theorem Sound.fwSwitch {s : State} (h : Sound l W s) : Sound l W (fwSwitch s) :=
  Sound.ite h.jobErr.faultOpt h.modNvm.publishOn.logAdd.fwReset

theorem Sound.raiseRollback {svn : Nat} {s : State} (h : Sound l W s) : Sound l W (raiseRollback svn s) :=
  Sound.ite h h.modNvm

theorem Sound.fwConfirm {advance : Bool} {s : State} (h : Sound l W s) : Sound l W (fwConfirm advance s) :=
  Sound.logAdd (Sound.jobWords (Sound.sif (by split; exacts [h.modNvm, h]) (fun _ h' => h'.raiseRollback)))

theorem Sound.fwRevert {s : State} (h : Sound l W s) : Sound l W (fwRevert s) :=
  Sound.ite h.revertTrial.fwReset h.jobErr.faultOpt

theorem Sound.execTrialTimeout {s : State} (h : Sound l W s) : SoundNext l W (execTrialTimeout s) :=
  Sound.ite h.passTo.revertTrial.fwReset h

theorem Sound.watchdog {pc : Nat} {reset : State → State} {s : State} (h : Sound l W s) (hreset : ∀ y0, Sound l W y0 → Sound l W (reset
    y0)) : Sound l W (watchdog pc reset s) :=
  Sound.ite (hreset _ h.fault.setRb.addRf).modMgt.setRb.irq (hreset _ h.fault.setRb.addRf).modMgt

theorem Sound.mgtReset {s : State} (h : Sound l W s) : Sound l W (mgtReset s) :=
  h.setRb.setRb.modMgt.hhReset

theorem Sound.calPut {a : Nat} {w : Word} {s : State} (h : Sound l W s) : Sound l W (calPut a w s) :=
  Sound.ite h.setReg.setShade h.setReg

theorem Sound.calKeep {xs : List Nat} {s : State} (h : Sound l W s) : Sound l W (calKeep xs s) :=
  h.modMgt

theorem Sound.capFollow {c : Nat} {s : State} (h : Sound l W s) : Sound l W (capFollow c s) :=
  h.modCoil

theorem Sound.writeRecord {temp : ℤ} {vfld : Nat} {s : State} (h : Sound l W s) : Sound l W (writeRecord temp vfld s) :=
  h.modNvm.recShow

theorem Sound.applyRetained {r : CalRec} {s : State} (h : Sound l W s) : Sound l W (applyRetained r s) :=
  (h.foldl (fun _ _ h' => h'.calPut)).modMgt.forEach (fun _ _ h' => h'.capFollow)

theorem Sound.setCoilStatus {c v : Nat} {x2 : State} (h : Sound l W x2) : Sound l W (setCoilStatus c v x2) :=
  h.setRf

theorem Sound.sweepCoil {c : Nat} {m : CoilMeas} {s : State} (h : Sound l W s) : Sound l W (sweepCoil c m s) :=
  Sound.capFollow (Sound.setCode (Sound.mmLoadAt (Sound.ite h.calPut.nextFree.setCoilStatus
      h.calPut.nextFree.setReg.setRb.setCoilStatus)))

theorem Sound.notSwept {c : Nat} {s : State} (h : Sound l W s) : Sound l W (notSwept c s) :=
  h.setCode.setCoilStatus.capFollow.modCrocus

theorem Sound.setTrims {k : Nat} {xs : List Word} {x2 : State} (h : Sound l W x2) : Sound l W (setTrims k xs x2) :=
  h.modMgt

theorem Sound.loadBands {m : RadioMeas} {s : State} (h : Sound l W s) : Sound l W (loadBands m s) :=
  (h.forEach (fun _ _ h' => h'.setReg)).modRadio

theorem Sound.loadPaAerial {m : RadioMeas} {s : State} (h : Sound l W s) : Sound l W (loadPaAerial m s) := by
  unfold Machine.loadPaAerial
  exact (h.forEach (fun _ _ h' => h'.setRf)).setRf.modRadio

theorem Sound.loadBaseline {c : Nat} {m : CoilMeas} {x2 : State} (h : Sound l W x2) : Sound l W (loadBaseline c m x2) :=
  h.setReg

theorem Sound.calCoil {kind c : Nat} {m : CoilMeas} {s : State} (h : Sound l W s) : Sound l W (calCoil kind c m s) := by
  unfold Machine.calCoil
  split
  · exact h.setTrims
  · exact h.setReg
  · exact h.sweepCoil
  · exact h.loadBaseline

theorem Sound.calOther {kind : Nat} {m : CalMeas} {s : State} (h : Sound l W s) : Sound l W (calOther kind m s) := by
  unfold Machine.calOther
  split
  · exact h.setTrims
  · exact h.loadBands
  · exact h.loadPaAerial
  · exact h.setTrims
  · exact h

theorem Sound.calTemps {xs : List Nat} {v : Option ℤ} {x2 : State} (h : Sound l W x2) : Sound l W (calTemps xs v x2) :=
  h.modMgt

theorem Sound.calRefuse {kind err x2 : Nat} {s : State} (h : Sound l W s) : Sound l W (calRefuse kind err x2 s) :=
  Sound.faultOpt (Sound.ite h.setRf.setRf h.setRf.setRf.setRf)

theorem Sound.calStart {kind coils : Nat} {s : State} (h : Sound l W s) : Sound l W (calStart kind coils s) :=
  (((h.forEach (fun _ _ h' => h'.claimRes)).takePages.sif (fun _ h' => (h'.forEach (fun _ _ h1 => h1.modCoil)))).modMgt.setReg.forEach
      (fun _ _ h' => h'.setRb)).govern

theorem Sound.calMake {w : Word} {s : State} (h : Sound l W s) : Sound l W (calMake w s) :=
  Sound.ite h.calRefuse (Sound.ite h.calRefuse (Sound.ite h.calRefuse (Sound.ite h.calRefuse (by split; exacts [h.calRefuse,
      h.calStart]))))

theorem Sound.calHold {w : Word} {own : Bool} {x2 : State} (h : Sound l W x2) : Sound l W (calHold w own x2) :=
  h.modMgt

theorem Sound.calAsk {w : Word} {s : State} (h : Sound l W s) : Sound l W (calAsk w s) :=
  Sound.ite h.calRefuse (Sound.ite h.calHold h.calMake)

theorem Sound.calOwn {w : Word} {s : State} (h : Sound l W s) : Sound l W (calOwn w s) :=
  Sound.ite h.calMake.modJob h.calMake.modJob

theorem Sound.calRelease {s : State} (h : Sound l W s) : Sound l W (calRelease s) :=
  h.modMgt.foldl (fun _ _ h' => (Sound.ite h'.calOwn h'.calMake))

theorem Sound.calReqWrite {ag : Agent} {w : Word} {x2 : State} (h : Sound l W x2) : Sound l W (calReqWrite ag w x2) :=
  h.guarded (fun _ h' => (Sound.ite h'.calAsk h'.calRefuse))

theorem Sound.calReqKind {ag : Agent} {kind : Nat} {w : Word} {s : State} (h : Sound l W s) : Sound l W (calReqKind ag kind w s) :=
  h.calReqWrite

theorem Sound.execCalHfAdc {ag : Agent} {w : Word} {s : State} (h : Sound l W s) : SoundNext l W (execCalHfAdc ag w s) :=
  h.calReqKind

theorem Sound.execCalChannelGainPhase {ag : Agent} {w : Word} {s : State} (h : Sound l W s) : SoundNext l W (execCalChannelGainPhase ag
    w s) :=
  h.calReqKind

theorem Sound.execCalTunerSweep {ag : Agent} {w : Word} {s : State} (h : Sound l W s) : SoundNext l W (execCalTunerSweep ag w s) :=
  h.calReqKind

theorem Sound.execCalRbAdcInterleave {ag : Agent} {w : Word} {s : State} (h : Sound l W s) : SoundNext l W (execCalRbAdcInterleave ag w
    s) :=
  h.calReqKind

theorem Sound.execCalSynthBandTable {ag : Agent} {w : Word} {s : State} (h : Sound l W s) : SoundNext l W (execCalSynthBandTable ag w
    s) :=
  h.calReqKind

theorem Sound.execCalPaAerial {ag : Agent} {w : Word} {s : State} (h : Sound l W s) : SoundNext l W (execCalPaAerial ag w s) :=
  h.calReqKind

theorem Sound.execCalSensors {ag : Agent} {w : Word} {s : State} (h : Sound l W s) : SoundNext l W (execCalSensors ag w s) :=
  h.calReqKind

theorem Sound.execCalCrocusBaseline {ag : Agent} {w : Word} {s : State} (h : Sound l W s) : SoundNext l W (execCalCrocusBaseline ag w
    s) :=
  h.calReqKind

theorem Sound.execCalRecordWrite {ag : Agent} {w : Word} {s : State} (h : Sound l W s) : SoundNext l W (execCalRecordWrite ag w s) :=
  h.calReqKind

theorem Sound.calFinish {j : CalJob} {m : CalMeas} {skipped : Nat} {s : State} (h : Sound l W s) : Sound l W (calFinish j m skipped s) :=
  Sound.calEnd (Sound.calTemps (Sound.calKeep (Sound.ite ((h.calOther.forEach (fun _ _ h' => h'.calCoil)).forEach (fun _ _ h' =>
      (h'.sif (fun _ h1 => h1.modCrocus)).setCoilStatus)).writeRecord ((h.calOther.forEach (fun _ _ h' => h'.calCoil)).forEach (fun _ _
      h' => (h'.sif (fun _ h1 => h1.modCrocus)).setCoilStatus)))))

theorem Sound.execCalDone {tick : Nat} {m : CalMeas} {skipped : Nat} {s : State} (h : Sound l W s) : SoundNext l W (execCalDone tick m
    skipped s) := by
  unfold Machine.execCalDone
  split
  · exact h
  · exact (Sound.ite h.passTo.calFinish h)

theorem Sound.execDriftCheck {s : State} (h : Sound l W s) : SoundNext l W (execDriftCheck s) := by
  unfold Machine.execDriftCheck
  split
  · exact h
  · exact (Sound.ite h h.logAdd.irq)

theorem Sound.mboxBusy {x0 : State} (h : Sound l W x0) : Sound l W (mboxBusy x0) :=
  h.refusalErr

theorem Sound.mboxPlainWrite {ag : Agent} {a : Nat} {w : Word} {x3 : State} (h : Sound l W x3) : Sound l W (mboxPlainWrite ag a w x3) :=
  h.guarded (fun _ h' => (Sound.ite h'.mboxBusy h'.storeReg))

theorem Sound.getVersion {s : State} (h : Sound l W s) : Sound l W (getVersion s) :=
  h.jobWords

theorem Sound.logNote {code : Nat} {info detail : Word} {s : State} (h : Sound l W s) : Sound l W (logNote code info detail s) :=
  Sound.ite h.jobErr.faultOpt (Sound.ite h.logAdd.nextFree.jobWords h.logAdd.jobWords)

theorem Sound.calibrate {w : Word} {s : State} (h : Sound l W s) : Sound l W (calibrate w s) :=
  Sound.ite h.modJob.calHold h.calOwn

theorem Sound.tagUnlock {mask : Nat} {s : State} (h : Sound l W s) : Sound l W (tagUnlock mask s) :=
  (h.tagSettle.forEach (fun _ _ h' => h'.wireStart)).modJob.logAdd

theorem Sound.mboxRun {code : Nat} {s : State} (h : Sound l W s) : Sound l W (mboxRun code s) := by
  unfold Machine.mboxRun
  split
  · exact h.getVersion
  · exact h.logNote
  · exact h.calibrate
  · exact h.applyRecord
  · exact h.checkStore
  · exact h.fwSwitch
  · exact h.fwConfirm
  · exact h.fwRevert
  · exact h.tagUnlock
  · exact h.protClear.faultOpt.modJob

theorem Sound.mboxStart {s : State} (h : Sound l W s) : Sound l W (mboxStart s) :=
  Sound.ite h.modMgt.setReg.mboxRun h.modMgt.setReg.jobErr.faultOpt

theorem Sound.mboxGo {s : State} (h : Sound l W s) : Sound l W (mboxGo s) :=
  Sound.ite h.mboxBusy (Sound.ite h.refusalErr (Sound.ite h.recErrAs (Sound.ite h.modMgt h.mboxStart)))

theorem Sound.mboxRelease {s : State} (h : Sound l W s) : Sound l W (mboxRelease s) :=
  Sound.ite h.modMgt.mboxGo h

theorem Sound.mboxCtrlWrite {ag : Agent} {w : Word} {x2 : State} (h : Sound l W x2) : Sound l W (mboxCtrlWrite ag w x2) :=
  h.guarded (fun _ h' => (h'.sif (fun _ h1 => (h1.pageWork (fun _ h2 => h2.mboxGo)))))

theorem Sound.mboxSend {ag : Agent} {code tag : Nat} {args : List Word} {s : State} (h : Sound l W s) : Sound l W (mboxSend ag code tag
    args s) :=
  (h.foldl (fun _ _ h' => h'.mboxPlainWrite)).mboxPlainWrite.mboxCtrlWrite

theorem Sound.execMboxGetVersion {ag : Agent} {tag : Nat} {args : List Word} {s : State} (h : Sound l W s) : SoundNext l W
    (execMboxGetVersion ag tag args s) :=
  h.mboxSend

theorem Sound.execMboxLogNote {ag : Agent} {tag : Nat} {args : List Word} {s : State} (h : Sound l W s) : SoundNext l W
    (execMboxLogNote ag tag args s) :=
  h.mboxSend

theorem Sound.execMboxCalibrate {ag : Agent} {tag : Nat} {args : List Word} {s : State} (h : Sound l W s) : SoundNext l W
    (execMboxCalibrate ag tag args s) :=
  h.mboxSend

theorem Sound.execMboxApplyRecord {ag : Agent} {tag : Nat} {args : List Word} {s : State} (h : Sound l W s) : SoundNext l W
    (execMboxApplyRecord ag tag args s) :=
  h.mboxSend

theorem Sound.execMboxCheckStore {ag : Agent} {tag : Nat} {args : List Word} {s : State} (h : Sound l W s) : SoundNext l W
    (execMboxCheckStore ag tag args s) :=
  h.mboxSend

theorem Sound.execMboxFwSwitch {ag : Agent} {tag : Nat} {args : List Word} {s : State} (h : Sound l W s) : SoundNext l W
    (execMboxFwSwitch ag tag args s) :=
  h.mboxSend

theorem Sound.execMboxFwConfirm {ag : Agent} {tag : Nat} {args : List Word} {s : State} (h : Sound l W s) : SoundNext l W
    (execMboxFwConfirm ag tag args s) :=
  h.mboxSend

theorem Sound.execMboxFwRevert {ag : Agent} {tag : Nat} {args : List Word} {s : State} (h : Sound l W s) : SoundNext l W
    (execMboxFwRevert ag tag args s) :=
  h.mboxSend

theorem Sound.execMboxTagUnlock {ag : Agent} {tag : Nat} {args : List Word} {s : State} (h : Sound l W s) : SoundNext l W
    (execMboxTagUnlock ag tag args s) :=
  h.mboxSend

theorem Sound.execMboxProtClear {ag : Agent} {tag : Nat} {args : List Word} {s : State} (h : Sound l W s) : SoundNext l W
    (execMboxProtClear ag tag args s) :=
  h.mboxSend

theorem Sound.execMboxUnknownCode {ag : Agent} {code tag : Nat} {args : List Word} {s : State} (h : Sound l W s) : SoundNext l W
    (execMboxUnknownCode ag code tag args s) :=
  h.mboxSend

theorem Sound.jobGoOn {s : State} (h : Sound l W s) : Sound l W (jobGoOn s) := by
  unfold Machine.jobGoOn
  split
  · exact (Sound.ite h h.jobWords)
  · exact (Sound.ite h h.modJob.applyRecord)
  · exact (Sound.ite h h.modJob.applyRecord)
  · exact (Sound.ite h (Sound.modJob (Sound.ite h.releaseRes h)))
  · exact h

theorem Sound.execMboxReply {s : State} (h : Sound l W s) : SoundNext l W (execMboxReply s) := by
  unfold Machine.execMboxReply
  dsimp only
  split
  · exact h.jobGoOn
  · exact (Sound.ite h.jobGoOn h.jobGoOn.modMgt.givePages.mboxAnswer)

theorem Sound.clearFields {xs : CntFields} {s : State} (h : Sound l W s) : Sound l W (clearFields xs s) :=
  h.foldl (fun _ _ h' => h'.setRf)

theorem Sound.clearPage {p : Nat} {s : State} (h : Sound l W s) : Sound l W (clearPage p s) :=
  Sound.ite h (h.sif (fun _ h' => h'.setRf)).clearFields

theorem Sound.cntClrAllWrite {ag : Agent} {w : Word} {x2 : State} (h : Sound l W x2) : Sound l W (cntClrAllWrite ag w x2) :=
  h.guarded (fun _ h' => (Sound.ite h'.refusalErr (Sound.ite (h'.forEach (fun _ _ h1 => h1.clearPage)) h')))

theorem Sound.execDbgCntClrAll {ag : Agent} {w : Word} {s : State} (h : Sound l W s) : SoundNext l W (execDbgCntClrAll ag w s) :=
  h.cntClrAllWrite

theorem Sound.injectStop {mask : Nat} {s : State} (h : Sound l W s) : Sound l W (injectStop mask s) :=
  Sound.supervisorReport (Sound.govern (Sound.modMgt (Sound.forEach (Sound.forEach (Sound.sweepDark (Sound.ite h.passTo h)) (fun _ _ h'
      => (h'.sif (fun _ h1 => h1.coilFieldOff)).modCoil)) (fun _ _ h' => (Sound.ite h' h'.fieldStopped)))))

theorem Sound.injectAct {kind arg : Nat} {s : State} (h : Sound l W s) : Sound l W (injectAct kind arg s) := by
  unfold Machine.injectAct
  split
  · exact h.injectStop
  · exact h.lockLoss
  · exact h.modMgt
  · exact (h.parts rfl rfl rfl rfl)

theorem Sound.injectWrite {ag : Agent} {w : Word} {x2 : State} (h : Sound l W x2) : Sound l W (injectWrite ag w x2) :=
  h.guarded (fun _ h' => (h'.pageWork (fun _ h1 => (Sound.ite h1.refusalErr (Sound.ite h1.refusalErr (Sound.ite h1.refusalErr
      h1.injectAct.fault))))))

theorem Sound.execInjectFieldLoss {ag : Agent} {w : Word} {s : State} (h : Sound l W s) : SoundNext l W (execInjectFieldLoss ag w s) :=
  h.injectWrite

theorem Sound.execInjectLockLoss {ag : Agent} {w : Word} {s : State} (h : Sound l W s) : SoundNext l W (execInjectLockLoss ag w s) :=
  h.injectWrite

theorem Sound.execInjectTemperature {ag : Agent} {w : Word} {s : State} (h : Sound l W s) : SoundNext l W (execInjectTemperature ag w
    s) :=
  h.injectWrite

theorem Sound.execInjectCvuMismatch {ag : Agent} {w : Word} {s : State} (h : Sound l W s) : SoundNext l W (execInjectCvuMismatch ag w
    s) :=
  h.injectWrite

theorem Sound.execInjectEnd {kind : Nat} {s : State} (h : Sound l W s) : SoundNext l W (execInjectEnd kind s) := by
  unfold Machine.execInjectEnd
  split
  · exact ((h.forEach (fun _ _ h' => h'.modCoil)).sif (fun _ h' => h'.sweepLight))
  · exact h.modMgt
  · exact h

theorem Sound.tapTake {f : State → State} {s : State} (h : Sound l W s) (hf : ∀ y0, Sound l W y0 → Sound l W (f y0)) : Sound l W
    (tapTake f s) :=
  h.sif hf

theorem Sound.modTap {f : TapSt → TapSt} {s : State} (h : Sound l W s) : Sound l W (modTap f s) :=
  h.parts rfl rfl rfl rfl

theorem Sound.sampleCells {s : State} (h : Sound l W s) : Sound l W (sampleCells s) :=
  h.parts rfl rfl rfl rfl

theorem Sound.loadCells {xs : List Bool} {x1 : State} (h : Sound l W x1) : Sound l W (loadCells xs x1) :=
  h.modTap

theorem Sound.bypassOut {xs : List Bool} {s : State} (h : Sound l W s) : Sound l W (bypassOut xs s) :=
  h.parts rfl rfl rfl rfl

theorem Sound.execTapExtest {cells : List Bool} {s : State} (h : Sound l W s) : SoundNext l W (execTapExtest cells s) :=
  h.tapTake (fun _ h' => (Sound.ite h'.modTap.sampleCells.loadCells h'.modTap.bypassOut))

theorem Sound.execTapSamplePreload {cells : List Bool} {s : State} (h : Sound l W s) : SoundNext l W (execTapSamplePreload cells s) :=
  h.tapTake (fun _ h' => h'.modTap.sampleCells.loadCells)

theorem Sound.execTapIdcode {s : State} (h : Sound l W s) : SoundNext l W (execTapIdcode s) :=
  h.tapTake fun s' h' => Sound.parts (s := s') h' rfl rfl rfl rfl

theorem Sound.execTapClamp {s : State} (h : Sound l W s) : SoundNext l W (execTapClamp s) :=
  h.tapTake (fun _ h' => h'.modTap.bypassOut)

theorem Sound.execTapHighz {s : State} (h : Sound l W s) : SoundNext l W (execTapHighz s) :=
  h.tapTake (fun _ h' => h'.modTap.bypassOut)

theorem Sound.execTapBypass {s : State} (h : Sound l W s) : SoundNext l W (execTapBypass s) :=
  h.tapTake (fun _ h' => h'.modTap.bypassOut)

theorem Sound.execTestLogicReset {s : State} (h : Sound l W s) : SoundNext l W (execTestLogicReset s) :=
  h.modTap

theorem Sound.stageCoils {add : Bool} {n : Nat} {s : State} (h : Sound l W s) : Sound l W (stageCoils add n s) :=
  Sound.ite h (Sound.ite h.feCoilsInUse (h.coilsTake (fun _ h' => h'.feCoilsInUse)))

theorem Sound.stageReg {a : Nat} {s : State} (h : Sound l W s) : Sound l W (stageReg a s) :=
  Sound.ite h (Sound.ite (Sound.ite h.feBankInUse h) (Sound.ite h.gpCfgInUse (Sound.ite h.cellCfgInUse (Sound.ite h.cadPeriodInUse
      (Sound.ite h.chainCtrlInUse (Sound.ite h.thrCtrlInUse h.thrMarkInUse))))))

theorem Sound.stagePages {ps : List Nat} {s : State} (h : Sound l W s) : Sound l W (stagePages ps s) :=
  ((((h.cellsNow.dropLapsed.govDefer.forEach (fun _ _ h' => h'.stagePlain)).sif (fun _ h' => h'.cellsWake)).sif (fun _ h' =>
      ((h'.forEach (fun _ _ h1 => h1.stageCoils)).forEach (fun _ _ h1 => h1.stageCoils)))).forEach (fun _ _ h' => (h'.forEach (fun _ _
      h1 => h1.stageReg)))).govDefer.sif (fun _ h' => h'.govern)

theorem Sound.stageKeep {p : Nat} {s : State} (h : Sound l W s) : Sound l W (stageKeep p s) :=
  h.forEach (fun _ _ h' => (h'.parts rfl rfl rfl rfl))

theorem Sound.stageResume {p : Nat} {s : State} (h : Sound l W s) : Sound l W (stageResume p s) :=
  Sound.ite h.stagePages.dropStaged h

theorem Sound.stageApply {p : Nat} {s : State} (h : Sound l W s) : Sound l W (stageApply p s) :=
  Sound.ite h.modEng.stdSettle (h.sif (fun _ h' => h'.toCc)).dropStaged.stagePages.stageReport

theorem Sound.stageDiscard {p : Nat} {s : State} (h : Sound l W s) : Sound l W (stageDiscard p s) :=
  h.forEach (fun _ _ h' => h'.setShade)

theorem Sound.stageCtrlWrite {ag : Agent} {p : Nat} {w : Word} {x3 : State} (h : Sound l W x3) : Sound l W (stageCtrlWrite ag p w x3) :=
  Sound.ite_app (h.hold (fun _ h' => (h'.guarded (fun _ h1 => h1)))) (h.hold (fun _ h' => (h'.guarded (fun _ h1 => ((h1.setRf.setRb.sif
      (fun _ h2 => h2.stageDiscard)).sif (fun _ h2 => h2.stageApply))))))

theorem Sound.execStageApply {ag : Agent} {page : PageIx} {s : State} (h : Sound l W s) : SoundNext l W (execStageApply ag page s) :=
  h.stageCtrlWrite

theorem Sound.execStageDiscard {ag : Agent} {page : PageIx} {s : State} (h : Sound l W s) : SoundNext l W (execStageDiscard ag page s) :=
  h.stageCtrlWrite

theorem Sound.epochState {st err tick : Nat} {s : State} (h : Sound l W s) : Sound l W (epochState st err tick s) :=
  h.setRf.setRf.setPair

theorem Sound.setPages {a : Nat} {ps : List Nat} {s : State} (h : Sound l W s) : Sound l W (setPages a ps s) :=
  h.setReg.setReg

theorem Sound.commitAsk {tick : Nat} {s : State} (h : Sound l W s) : Sound l W (commitAsk tick s).2 :=
  Sound.ite_snd h (Sound.ite_snd h (Sound.ite_snd h.epochState.irq (Sound.setRf (h.parts rfl rfl rfl rfl))))

theorem Sound.execCommitStep {k : PlayerIx} {s : State} (h : Sound l W s) : SoundNext l W (execCommitStep k s) :=
  h.takeAny (fun _ _ h' => (Sound.ite h'.passTo.commitAsk (Sound.ite (h'.passTo.commitAsk.sif (fun _ h1 => h1.stepLate)) (Sound.ite
      h'.passTo.commitAsk.irq.recErr.sectionErr h'.passTo.commitAsk.stepRefused))))

theorem Sound.commitCtrlWrite {ag : Agent} {w : Word} {x2 : State} (h : Sound l W x2) : Sound l W (commitCtrlWrite ag w x2) :=
  h.guarded (fun _ h' => (Sound.ite h' (Sound.ite h'.commitAsk (Sound.ite h'.commitAsk.irq.recLate (Sound.ite h'.commitAsk.recErr
      h'.commitAsk.recErr)))))

theorem Sound.execCommitGo {ag : Agent} {w : Word} {s : State} (h : Sound l W s) : SoundNext l W (execCommitGo ag w s) :=
  h.commitCtrlWrite

theorem Sound.commitAbort {c : Commit} {bad : List Nat} {s : State} (h : Sound l W s) : Sound l W (commitAbort c bad s) :=
  Sound.irq (Sound.setPages (Sound.epochState (Sound.forEach (h.parts rfl rfl rfl rfl) (fun _ _ h' => h'.recErr))))

theorem Sound.commitMark {c : Commit} {s : State} (h : Sound l W s) : Sound l W (commitMark c s) := by
  have ht : Sound l W (Machine.passTo c.margin s) := h.passTo
  unfold Machine.commitMark
  generalize Machine.passTo c.margin s = t at ht ⊢
  exact .ite ht.commitAbort (Sound.setRf (ht.parts rfl rfl rfl rfl))

theorem Sound.pageApplied {n p : Nat} {s : State} (h : Sound l W s) : Sound l W (pageApplied n p s) :=
  h.setRb.setRf.stageReport

theorem Sound.commitAct {c : Commit} {s : State} (h : Sound l W s) : Sound l W (commitAct c s) := by
  have ht : Sound l W (Machine.passTo c.tick s) := h.passTo
  unfold Machine.commitAct
  generalize Machine.passTo c.tick s = t at ht ⊢
  have hu : Sound l W { t with commit := none } := ht.parts rfl rfl rfl rfl
  generalize { t with commit := none } = u at hu ⊢
  exact Sound.irq (Sound.setPages (Sound.epochState (Sound.setRf (Sound.forEach
    (hu.forEach fun _ _ h' => h'.stageKeep).stagePages fun _ _ h' => h'.pageApplied))))

theorem Sound.clkGateWrite {ag : Agent} {w : Word} {x2 : State} (h : Sound l W x2) : Sound l W (clkGateWrite ag w x2) :=
  h.guarded (fun _ h' => (Sound.ite h' (Sound.ite h'.setRb.setRf.irqLevel.radioIdle (Sound.ite h'.refusalErr (Sound.ite h'.refusalErr
      h'.radioOff.setRb.setRf.irqLevel)))))

theorem Sound.execClkGateRbOff {ag : Agent} {s : State} (h : Sound l W s) : SoundNext l W (execClkGateRbOff ag s) :=
  h.clkGateWrite

theorem Sound.execClkGateRbOn {ag : Agent} {s : State} (h : Sound l W s) : SoundNext l W (execClkGateRbOn ag s) :=
  h.clkGateWrite

theorem Sound.resetTo {cause : Word} {b : BootSt} {s : State} (h : Sound l W s) : Sound l W (resetTo cause b s) := by
  have hk : Sound l W (Machine.recCut (Machine.forget sessBase (sessBase + 0xc000) (Machine.wipeAll s))) := h.wipeAll.forget.recCut
  refine Sound.setReg ⟨h.pending, fun hw => ?_⟩
  obtain ⟨-, -, hmem⟩ := wf_iff.mp (hk.wf hw)
  exact wf_iff.mpr ⟨sparse_wf_nil _, sparse_wf_nil _, hmem⟩

theorem Sound.systemReset {k : Nat} {fullCal : Bool} {s : State} (h : Sound l W s) : Sound l W (systemReset k fullCal s) :=
  (h.resetTo.forEach (fun _ _ h' => h'.modPlayer)).setReg

theorem Sound.execPorRelease {gp15 refclkIn resetN : Bool} {s : State} (h : Sound l W s) : SoundNext l W (execPorRelease gp15 refclkIn
    resetN s) :=
  Sound.ite h h.modBoot.setReg

theorem Sound.execCoreSupplyFail {rail : CoreRail} {s : State} (h : Sound l W s) : SoundNext l W (execCoreSupplyFail rail s) := by
  unfold Machine.execCoreSupplyFail
  split <;> exact (Sound.ite h h.forget.forget.resetTo)

theorem Sound.execResetNAssert {s : State} (h : Sound l W s) : SoundNext l W (execResetNAssert s) :=
  Sound.ite h (Sound.ite h.modBoot h.modBoot.systemReset)

theorem Sound.execResetNRelease {wakeHeld : Bool} {s : State} (h : Sound l W s) : SoundNext l W (execResetNRelease wakeHeld s) :=
  Sound.ite h h.modBoot

theorem Sound.updOpen {s : State} (h : Sound l W s) : Sound l W (updOpen s) :=
  h.setReg.setReg

theorem Sound.execClockLoss {s : State} (h : Sound l W s) : SoundNext l W (execClockLoss s) :=
  Sound.ite h.systemReset h

theorem Sound.pageReset {p : Nat} {keep : Nat → Bool} {s : State} (h : Sound l W s) : Sound l W (pageReset p keep s) :=
  h.filterRegs

theorem Sound.factoryPa {x0 : State} (h : Sound l W x0) : Sound l W (factoryPa x0) :=
  h.forEach (fun _ _ h' => h'.setRf)

theorem Sound.calReload {p : Nat} {s : State} (h : Sound l W s) : Sound l W (calReload p s) :=
  Sound.ite (h.foldl (fun _ _ h' => (Sound.ite h'.calPut h'))).capFollow (Sound.ite (h.foldl (fun _ _ h' => (Sound.ite h'.calPut
      h'))).modRadio (h.foldl (fun _ _ h' => (Sound.ite h'.calPut h'))))

theorem Sound.execVddrfSupervisor {s : State} (h : Sound l W s) : SoundNext l W (execVddrfSupervisor s) :=
  Sound.ite h (Sound.ite h.modBoot (((h.modBoot.radioAbort.radioOff.forEach (fun _ _ h' =>
      h'.pageReset)).factoryPa.modRadio.modRx.forEach (fun _ _ h' => h'.calReload)).sif (fun _ h' => (h'.forEach (fun _ _ h1 =>
      h1.setReg.setReg)))).setRb.fault.supervisorReport)

theorem Sound.execVddrfSupplyRecovery {s : State} (h : Sound l W s) : SoundNext l W (execVddrfSupplyRecovery s) :=
  Sound.ite h (h.modBoot.sif (fun _ h' => h'.radioIdle))

theorem Sound.execVddioSupervisor {s : State} (h : Sound l W s) : SoundNext l W (execVddioSupervisor s) := by
  have hp : Sound l W (Machine.pageReset Page.hif (fun _ => false) (Machine.modBoot (fun b => { b with vddio := false }) s)) :=
    h.modBoot.pageReset
  exact .ite h (.ite h.modBoot (Sound.supervisorReport (Sound.fault (Sound.setRb (hp.parts rfl rfl rfl rfl)))))

theorem Sound.execVddioSupplyRecovery {s : State} (h : Sound l W s) : SoundNext l W (execVddioSupplyRecovery s) :=
  h.modBoot

theorem Sound.noImage {s : State} (h : Sound l W s) : Sound l W (noImage s) :=
  h.modBoot.setRf.setRf.updOpen.setReg.irq.fault

theorem Sound.clocksLock {qualUs : Nat} {s : State} (h : Sound l W s) : Sound l W (clocksLock qualUs s) := by
  have hclk : ∀ b w v f, Sound l W (Machine.modTime (fun t => { t with ftb := 0, measFrom := 0 })
      (Machine.setReg Reg.clkRun w (Machine.setReg b v (Machine.modBoot f s)))) := fun _ _ _ _ => h.modBoot.setReg.setReg.modTime
  exact Sound.parts (hclk Reg.clkRef 0x23ff (wd ((if s.boot.oscWarm then 0 else min 0xffff qualUs) * 65536 + 4 +
    (if s.boot.refclkIn then 2 else 1))) fun b => { b with phase := .starting, oscWarm := false }) rfl rfl rfl rfl

theorem Sound.pageOn {p : Nat} {s : State} (h : Sound l W s) : Sound l W (pageOn p s) :=
  (h.sif (fun _ h' => h'.setRb)).setRb

theorem Sound.enablePages {s : State} (h : Sound l W s) : Sound l W (enablePages s) :=
  (h.forEach (fun _ _ h' => h'.pageOn)).calKeep

theorem Sound.modPlan {f : StartPlan → StartPlan} {x1 : State} (h : Sound l W x1) : Sound l W (modPlan f x1) :=
  h.modBoot

theorem Sound.startClaims {s : State} (h : Sound l W s) : Sound l W (startClaims s) :=
  h.forEach (fun _ _ h' => h'.claimRes)

theorem Sound.startReleases {s : State} (h : Sound l W s) : Sound l W (startReleases s) :=
  h.releaseAll

theorem Sound.startDecide {p : StartPlan} {s : State} (h : Sound l W s) : Sound l W (startDecide p s) :=
  (h.forEach (fun _ _ h' => h'.readSensor)).readSensor.checkRecord.setRf.setRf.logAdd.modPlan.startClaims

theorem Sound.restShown {p : StartPlan} {s : State} (h : Sound l W s) : Sound l W (restShown p s) :=
  h.forEach (fun _ _ h' => h'.setCoilStatus)

theorem Sound.startApply {s : State} (h : Sound l W s) : Sound l W (startApply s) := by
  unfold Machine.startApply
  split
  · exact h
  · exact h.applyRetained.recShow.calTemps.modRadio

theorem Sound.checkCoil {p : StartPlan} {c : Nat} {s : State} (h : Sound l W s) : Sound l W (checkCoil p c s) :=
  Sound.ite h.notSwept h.setCoilStatus.mmLoad

theorem Sound.startLock {m : RadioMeas} {s : State} (h : Sound l W s) : Sound l W (startLock m s) :=
  Sound.ite h.addRf.modRadio.setReg.setReg.publish.irq.publish h.addRf.addRf.irq.recErrAs

theorem Sound.startCheck {p : StartPlan} {s : State} (h : Sound l W s) : Sound l W (startCheck p s) :=
  ((h.forEach (fun _ _ h' => h'.checkCoil)).restShown.sif (fun _ h' => h'.startLock)).modPlan

theorem Sound.startBaseline {p : StartPlan} {s : State} (h : Sound l W s) : Sound l W (startBaseline p s) :=
  h.forEach (fun _ _ h' => (Sound.ite h' (Sound.ite h'.notSwept h'.loadBaseline)))

theorem Sound.startSwept {p : StartPlan} {c : Nat} {s : State} (h : Sound l W s) : Sound l W (startSwept p c s) :=
  Sound.ite h.modPlan (h.modPlan.forEach (fun _ _ h' => (Sound.ite h'.notSwept h'.sweepCoil.calTemps))).restShown

theorem Sound.stepEnd {p : StartPlan} {k c : Nat} {s : State} (h : Sound l W s) : Sound l W (stepEnd p k c s) := by
  unfold Machine.stepEnd
  split
  · exact (Sound.ite h.bootSlot.noImage h.bootSlot.modPlan)
  · exact h.startDecide
  · exact h.setTrims.modPlan
  · exact (h.forEach (fun _ _ h' => h'.setTrims))
  · exact ((h.sif (fun _ h' => h'.restShown)).forEach (fun _ _ h' => h'.setReg)).calTemps
  · exact h.startSwept
  · exact h.setTrims
  · exact h.loadBands
  · exact h.loadPaAerial
  · exact h.modRx.showFloor.calTemps
  · exact h.startBaseline
  · exact h.factoryPa.startReleases.loadStore.enablePages.startAuto
  · exact h.writeRecord
  · exact h.startApply
  · exact h.startCheck
  · exact h

theorem Sound.stepDone {p : StartPlan} {k c : Nat} {s : State} (h : Sound l W s) : Sound l W (stepDone p k c s) :=
  h.stepEnd.calKeep

theorem Sound.stepsShown {s : State} (h : Sound l W s) : Sound l W (stepsShown s) := by
  unfold Machine.stepsShown
  split
  · exact h
  · exact (h.sif (fun _ h' => h'.setRf)).setRf

theorem Sound.mainBegins {s : State} (h : Sound l W s) : Sound l W (mainBegins s) :=
  (h.modPlan.forEach (fun _ _ h' => h'.modCoil)).stepsShown

theorem Sound.startStep {until_ : Nat} {s : State} (h : Sound l W s) : Sound l W (startStep until_ s) := by
  unfold Machine.startStep
  split
  · exact h
  · exact (by split; exacts [h, (Sound.ite h (Sound.ite (Sound.ite h.passTo.stepDone.modPlan.mainBegins
      h.passTo.stepDone.modPlan.stepsShown) h.passTo.stepDone.modPlan.mainBegins))])

theorem Sound.startRun {until_ : Nat} {s : State} (h : Sound l W s) : Sound l W (startRun until_ s) :=
  h.foldl (fun _ _ h' => h'.startStep)

theorem Sound.execReferenceQualified {qualUs : Nat} {m : StartMeas} {s : State} (h : Sound l W s) : SoundNext l W
    (execReferenceQualified qualUs m s) :=
  Sound.ite h h.clocksLock.modBoot.mainBegins

theorem Sound.startAgain {s : State} (h : Sound l W s) : Sound l W (startAgain s) :=
  h.recCut.mgtClear.startReleases.modBoot.setRb.modMgt.mainBegins.govern

theorem Sound.startHalt {s : State} (h : Sound l W s) : Sound l W (startHalt s) :=
  Sound.ite h.modPlan h

theorem Sound.execWatchdogTrip {pc : Nat} {s : State} (h : Sound l W s) : SoundNext l W (execWatchdogTrip pc s) :=
  Sound.ite (h.watchdog (fun _ h' => h'.hhReset)) (Sound.ite (h.watchdog (fun _ h' => h'.startAgain)).startHalt h)

theorem Sound.swResetWrite {ag : Agent} {w : Word} {x2 : State} (h : Sound l W x2) : Sound l W (swResetWrite ag w x2) :=
  h.hold (fun _ h' => (h'.guarded (fun _ h1 => (Sound.ite h1.refusalErr (Sound.ite h1.systemReset (Sound.ite h1 (Sound.ite h1.mgtReset
      (h1.setRb.sif (fun _ h2 => h2.startAgain)))))))))

theorem Sound.execSwResetSystem {ag : Agent} {w : Word} {s : State} (h : Sound l W s) : SoundNext l W (execSwResetSystem ag w s) :=
  h.swResetWrite

theorem Sound.execSwResetMgt {ag : Agent} {w : Word} {s : State} (h : Sound l W s) : SoundNext l W (execSwResetMgt ag w s) :=
  h.swResetWrite

theorem Sound.bringUp {s : State} (h : Sound l W s) : Sound l W (bringUp s) :=
  (((h.forEach (fun _ _ h' => h'.setReg)).enablePages.forEach (fun _ _ h' => h'.setRf.claimRes)).claimRes.forEach (fun _ _ h' =>
      h'.setRf.setRb)).setReg.calKeep

theorem Sound.execReady {tick : Nat} {s : State} (h : Sound l W s) : SoundNext l W (execReady tick s) :=
  Sound.ite h (Sound.ite h.startRun (h.startRun.modBoot.passTo.bringUp.setReg.setRf.setRf.setReg.irq.logAdd.mgtBack.sif (fun _ h' =>
      h'.radioIdle)).settle)

theorem Sound.feRelease {n : Nat} {s : State} (h : Sound l W s) : Sound l W (feRelease n s) :=
  (h.engineOff.forEach (fun _ _ h' => h'.coilLeaves.modCoil)).releaseAll.heldRefresh

theorem Sound.blockClaims {p : Nat} {s : State} (h : Sound l W s) : Sound l W (blockClaims p s) :=
  Sound.ite h.feRelease (Sound.ite (h.releaseAll.sif (fun _ h' => h'.radioFreed)) (Sound.ite h.releaseAll h))

theorem Sound.discardHeld {s : State} (h : Sound l W s) : Sound l W (discardHeld s) :=
  h.forEach (fun _ _ h' => (Sound.ite h'.setLimiter.addRf h'))

theorem Sound.cellsShut {s : State} (h : Sound l W s) : Sound l W (cellsShut s) :=
  h.takeTasks.modFab.addRf

theorem Sound.chqAll {p : Nat} {s : State} (h : Sound l W s) : Sound l W (chqAll p s) :=
  Sound.ite (h.forEach (fun _ _ h' => h'.chqFollow)) h

theorem Sound.quiesceAct {p : Nat} {s : State} (h : Sound l W s) : Sound l W (quiesceAct p s) :=
  Sound.ite h.settle (Sound.ite h.discardHeld (Sound.ite h.cellsShut (Sound.ite h.chainFollow (Sound.ite h.radioStandby h))))

theorem Sound.execQuiesceReached {page : PageIx} {s : State} (h : Sound l W s) : SoundNext l W (execQuiesceReached page s) :=
  Sound.ite (h.sif (fun _ h' => h'.cellsNow)).setRb.irq.quiesceAct h

theorem Sound.resumeBlock {p : Nat} {s : State} (h : Sound l W s) : Sound l W (resumeBlock p s) :=
  Sound.ite h.settle (Sound.ite h.cellsWake (Sound.ite (h.forEach (fun _ _ h' => h'.cmpResume)).cadPublished (Sound.ite (h.forEach (fun
      _ _ h' => h'.playerIdle)) (Sound.ite (h.forEach (fun _ _ h' => h'.swapNext)) (Sound.ite h.chqAll (Sound.ite h.playerIdle
      (Sound.ite h.chainFollow (Sound.ite h.radioResume (Sound.ite h.mboxRelease (Sound.ite (Sound.ite h.selServe h) (Sound.ite
      h.calRelease h)))))))))))

theorem Sound.resume {p : Nat} {s : State} (h : Sound l W s) : Sound l W (resume p s) :=
  h.stageResume.resumeBlock

theorem Sound.quiesceSet {p : Nat} {b : Bool} {s : State} (h : Sound l W s) : Sound l W (quiesceSet p b s) :=
  Sound.ite h (Sound.ite (Sound.ite (h.setRb.forEach (fun _ _ h' => h'.playerIdle)) h.setRb.chqAll) (Sound.ite
      h.setRb.setRb.freeSteps.resume (Sound.ite h.setRb.resume h.setRb)))

theorem Sound.ctrlWrite {ag : Agent} {p : Nat} {w : Word} {x3 : State} (h : Sound l W x3) : Sound l W (ctrlWrite ag p w x3) :=
  h.hold (fun _ h' => (h'.guarded (fun _ h1 => (Sound.ite h1.setRb (Sound.ite (Sound.ite h1.setRb.setRb.setRb.setRb.chqAll
      h1.setRb.setRb) (Sound.ite h1.setRb.quiesceSet (Sound.ite h1.setRb.setRb.setRb.blockClaims h1.setRb.refusalErr.quiesceSet)))))))

theorem Sound.execQuiesceRequest {ag : Agent} {page : PageIx} {s : State} (h : Sound l W s) : SoundNext l W (execQuiesceRequest ag page
    s) :=
  h.ctrlWrite

theorem Sound.execQuiesceRelease {ag : Agent} {page : PageIx} {s : State} (h : Sound l W s) : SoundNext l W (execQuiesceRelease ag page
    s) :=
  h.ctrlWrite

theorem Sound.execBlockDisable {ag : Agent} {page : PageIx} {s : State} (h : Sound l W s) : SoundNext l W (execBlockDisable ag page s) :=
  h.ctrlWrite

theorem Sound.execBlockEnable {ag : Agent} {page : PageIx} {s : State} (h : Sound l W s) : SoundNext l W (execBlockEnable ag page s) :=
  h.ctrlWrite

theorem Sound.irqSetWrite {ag : Agent} {p : Nat} {w : Word} {x3 : State} (h : Sound l W x3) : Sound l W (irqSetWrite ag p w x3) :=
  h.hold (fun _ h' => (h'.guarded (fun _ h1 => h1.setReg.setReg)))

theorem Sound.irqEnWrite {ag : Agent} {p : Nat} {w : Word} {x3 : State} (h : Sound l W x3) : Sound l W (irqEnWrite ag p w x3) :=
  h.hold (fun _ h' => (h'.guarded (fun _ h1 => h1.setReg.setReg)))

theorem Sound.irqClearWrite {ag : Agent} {p a : Nat} {w : Word} {x4 : State} (h : Sound l W x4) : Sound l W (irqClearWrite ag p a w x4) :=
  h.hold (fun _ h' => (h'.secureGuard (fun _ h1 => h1.setReg)))

theorem Sound.execIrqSetWrite {ag : Agent} {page : PageIx} {w : Word} {s : State} (h : Sound l W s) : SoundNext l W (execIrqSetWrite ag
    page w s) :=
  h.irqSetWrite

theorem Sound.execIrqEnWrite {ag : Agent} {page : PageIx} {w : Word} {s : State} (h : Sound l W s) : SoundNext l W (execIrqEnWrite ag
    page w s) :=
  h.irqEnWrite

theorem Sound.lockWrite {ag : Agent} {p : Nat} {w : Word} {x3 : State} (h : Sound l W x3) : Sound l W (lockWrite ag p w x3) :=
  h.hold (fun _ h' => (h'.guarded (fun _ h1 => (Sound.ite h1.setRb (Sound.ite h1.setRb (Sound.ite h1.refusalErr h1))))))

theorem Sound.ownerWrite {ag : Agent} {p : Nat} {w : Word} {x3 : State} (h : Sound l W x3) : Sound l W (ownerWrite ag p w x3) :=
  h.hold (fun _ h' => (h'.guardedBy (fun _ h1 => (Sound.ite h1.refusalErr (Sound.ite (h1.sif (fun _ h2 => h2.setRb)).setRf (h1.sif (fun
      _ h2 => h2.setRb)))))))

theorem Sound.errCodeWrite {ag : Agent} {p : Nat} {w : Word} {x3 : State} (h : Sound l W x3) : Sound l W (errCodeWrite ag p w x3) :=
  h.hold (fun _ h' => (h'.secureGuard (fun _ h1 => (Sound.ite h1.setReg.setReg h1))))

theorem Sound.execLockWrite {ag : Agent} {page : PageIx} {w : Word} {s : State} (h : Sound l W s) : SoundNext l W (execLockWrite ag
    page w s) :=
  h.lockWrite

theorem Sound.execOwnerWrite {ag : Agent} {page : PageIx} {w : Word} {s : State} (h : Sound l W s) : SoundNext l W (execOwnerWrite ag
    page w s) :=
  h.ownerWrite

theorem Sound.execErrCodeClr {ag : Agent} {page : PageIx} {s : State} (h : Sound l W s) : SoundNext l W (execErrCodeClr ag page s) :=
  h.errCodeWrite

theorem Sound.blockState {p : Nat} {s : State} (h : Sound l W s) : Sound l W (blockState p s) :=
  Sound.ite h.modFab (Sound.ite h.modFab (Sound.ite h.modTime (Sound.ite (Sound.forEach (h.parts rfl rfl rfl rfl) (fun _ _ h' =>
      h'.releaseRes)) (Sound.ite (h.forEach (fun _ _ h' => h'.modPlayer)) (Sound.ite h.modEng (Sound.ite h.setCoil (Sound.ite
      (Sound.forEach (h.parts rfl rfl rfl rfl) (fun _ _ h' => h'.modEng)) (Sound.ite (h.parts rfl rfl rfl rfl) (Sound.ite (h.parts rfl
      rfl rfl rfl) (Sound.ite h.radioOff.modRadio (Sound.ite h.modRx (Sound.ite (h.modRadio.forEach (fun _ _ h' => h'.modRadio))
      (Sound.ite h.modRadio.modRx h)))))))))))))

theorem Sound.blockResetRun {p : Nat} {s : State} (h : Sound l W s) : Sound l W (blockResetRun p s) :=
  Sound.ite (((((h.sif (fun _ h' => h'.cellsNow)).sif (fun _ h' => (h'.forEach (fun _ _ h1 => h1.feCoilsInUse)))).sif (fun _ h' =>
      h'.abortRx.dropDec)).blockClaims.modBoot.dropStaged.blockState.pageReset.calReload.setRb.setReg.chqAll.sif (fun _ h' =>
      h'.setRb)).forEach (fun _ _ h' => h'.gpFollow)) (Sound.ite ((((h.sif (fun _ h' => h'.cellsNow)).sif (fun _ h' => (h'.forEach (fun
      _ _ h1 => h1.feCoilsInUse)))).sif (fun _ h' =>
      h'.abortRx.dropDec)).blockClaims.modBoot.dropStaged.blockState.pageReset.calReload.setRb.setReg.chqAll.sif (fun _ h' =>
      h'.setRb)).cellsWake (Sound.ite (((((h.sif (fun _ h' => h'.cellsNow)).sif (fun _ h' => (h'.forEach (fun _ _ h1 =>
      h1.feCoilsInUse)))).sif (fun _ h' =>
      h'.abortRx.dropDec)).blockClaims.modBoot.dropStaged.blockState.pageReset.calReload.setRb.setReg.chqAll.sif (fun _ h' =>
      h'.setRb)).forEach (fun _ _ h' => h'.heldRefresh)).govern (Sound.ite ((((h.sif (fun _ h' => h'.cellsNow)).sif (fun _ h' =>
      (h'.forEach (fun _ _ h1 => h1.feCoilsInUse)))).sif (fun _ h' =>
      h'.abortRx.dropDec)).blockClaims.modBoot.dropStaged.blockState.pageReset.calReload.setRb.setReg.chqAll.sif (fun _ h' =>
      h'.setRb)).govern ((((h.sif (fun _ h' => h'.cellsNow)).sif (fun _ h' => (h'.forEach (fun _ _ h1 => h1.feCoilsInUse)))).sif (fun _
      h' => h'.abortRx.dropDec)).blockClaims.modBoot.dropStaged.blockState.pageReset.calReload.setRb.setReg.chqAll.sif (fun _ h' =>
      h'.setRb)))))

theorem Sound.blockResetAsk {ag : Agent} {p : Nat} {w : Word} {s : State} (h : Sound l W s) : Sound l W (blockResetAsk ag p w s) :=
  Sound.ite h.refusalErr (Sound.ite h.refusalErr (Sound.ite h.pushHeld h.blockResetRun))

theorem Sound.blockRstWrite {ag : Agent} {w : Word} {x2 : State} (h : Sound l W x2) : Sound l W (blockRstWrite ag w x2) :=
  h.hold (fun _ h' => (h'.guarded (fun _ h1 => (Sound.ite h1.refusalErr h1.blockResetAsk))))

theorem Sound.execBlockReset {ag : Agent} {w : Word} {s : State} (h : Sound l W s) : SoundNext l W (execBlockReset ag w s) :=
  h.blockRstWrite

theorem Sound.execBlockResetDone {page : PageIx} {s : State} (h : Sound l W s) : SoundNext l W (execBlockResetDone page s) :=
  Sound.ite h (h.modBoot.setRb.setRb.sif (fun _ h' => h'.setRf))

theorem Sound.plainWrite {m : Word} {ag : Agent} {a : Nat} {w : Word} {x4 : State} (h : Sound l W x4) : Sound l W (plainWrite m ag a w
    x4) :=
  h.hold (fun _ h' => (h'.guardedFor (fun _ h1 => h1.storeReg)))

theorem Sound.checkedWrite {m : Word} {ag : Agent} {a : Nat} {bad : Bool} {w : Word} {after : State → State} {x6 : State} (h : Sound l
    W x6) (hafter : ∀ y0, Sound l W y0 → Sound l W (after y0)) : Sound l W (checkedWrite m ag a bad w after x6) :=
  h.hold (fun _ h' => (h'.guardedFor (fun _ h1 => (Sound.ite h1.refusalErr (hafter _ h1.storeReg)))))

theorem Sound.pairStore {a : Nat} {w : Word} {s : State} (h : Sound l W s) : Sound l W (pairStore a w s) :=
  Sound.storeReg (by split; exacts [h, h.dropLo.storeReg])

theorem Sound.headerWrite {ag : Agent} {p o : Nat} {w : Word} {x4 : State} (h : Sound l W x4) : Sound l W (headerWrite ag p o w x4) :=
  Sound.ite_app h.ctrlWrite (Sound.ite_app (h.hold (fun _ h' => (h'.guarded (fun _ h1 => (h1.sif (fun _ h2 => h2.setRb))))))
      (Sound.ite_app h.irqClearWrite (Sound.ite_app h.irqEnWrite (Sound.ite_app h.irqSetWrite (Sound.ite_app h.lockWrite (Sound.ite_app
      h.ownerWrite (Sound.ite_app h.errCodeWrite (Sound.ite_app h.stageCtrlWrite (Sound.ite_app (h.hold (fun _ h' => (h'.guarded (fun _
      h1 => h1)))) h)))))))))

theorem Sound.sysWrite {m : Word} {ag : Agent} {a : Nat} {w : Word} {x4 : State} (h : Sound l W x4) : Sound l W (sysWrite m ag a w x4) :=
  Sound.ite_app h.sysClaim (Sound.ite_app h.clkGateWrite (Sound.ite_app h.modeReqWrite (Sound.ite_app h.swResetWrite (Sound.ite_app
      h.blockRstWrite (Sound.ite_app h.hifCfgWrite h.plainWrite)))))

theorem Sound.queueWrite {m : Word} {ag : Agent} {a : Nat} {w : Word} {x4 : State} (h : Sound l W x4) : Sound l W (queueWrite m ag a w
    x4) :=
  Sound.ite_app h.marksWrite (Sound.ite_app h.marksWrite (Sound.ite_app (h.checkedWrite (fun _ h' => h'.settle)) (Sound.ite_app
      h.queueCntClr (Sound.ite_app h.queueFlush h.plainWrite))))

theorem Sound.evfWrite {m : Word} {ag : Agent} {k : StepOf} {a : Nat} {w : Word} {x5 : State} (h : Sound l W x5) : Sound l W (evfWrite
    m ag k a w x5) :=
  Sound.ite_app h.fireWrite (Sound.ite_app (h.hold (fun _ h' => (h'.secureGuard (fun _ h1 => h1.holdLo)))) (Sound.ite_app
      h.fireMaskWrite (Sound.ite_app h.chReclaim (Sound.ite_app h.evfCntClr (Sound.ite_app (Sound.ite_app h.cellCfgWrite h.plainWrite)
      (Sound.ite_app h.chCfgWrite (Sound.ite_app h.pubWrite (Sound.ite_app h.subWrite (Sound.ite_app h.gpCfgWrite (Sound.ite_app
      h.gpOutWrite h.plainWrite))))))))))

theorem Sound.syncCtrlWrite {m : Word} {ag : Agent} {w : Word} {x3 : State} (h : Sound l W x3) : Sound l W (syncCtrlWrite m ag w x3) :=
  h.hold (fun _ h' => (h'.guardedFor (fun _ h1 => (h1.storeReg.sif (fun _ h2 => (h2.ftbAct (fun _ h3 => h3.syncGo)))))))

theorem Sound.ftbWrite {m : Word} {ag : Agent} {a : Nat} {w : Word} {x4 : State} (h : Sound l W x4) : Sound l W (ftbWrite m ag a w x4) :=
  Sound.ite_app (Sound.ite_app h.snapGoWrite (h.hold (fun _ h' => (h'.guarded (fun _ h1 => h1))))) (Sound.ite_app h.syncCtrlWrite
      (Sound.ite_app (Sound.ite_app h.cmpCtrlWrite (Sound.ite_app (h.hold (fun _ h' => (h'.unitGuard (fun _ h1 => h1.holdLo))))
      (Sound.ite_app h.cmpTargetWrite h.plainWrite))) (Sound.ite_app (Sound.ite_app h.cadCtrlWrite (Sound.ite_app h.cadPeriodWrite
      (Sound.ite_app (h.hold (fun _ h' => (h'.unitGuard (fun _ h1 => h1.holdLo)))) (Sound.ite_app (h.hold (fun _ h' => (h'.unitGuard
      (fun _ h1 => h1.pairStore)))) (h.hold (fun _ h' => (h'.unitGuard (fun _ h1 => h1.storeReg)))))))) (Sound.ite_app (h.hold (fun _
      h' => (h'.unitGuard (fun _ h1 => h1.storeReg)))) h.plainWrite))))

theorem Sound.cvuWrite {m : Word} {ag : Agent} {a : Nat} {w : Word} {x4 : State} (h : Sound l W x4) : Sound l W (cvuWrite m ag a w x4) :=
  Sound.ite_app h.chqWrite (Sound.ite_app h.cvuCntClr (Sound.ite_app h.sessCntClr (Sound.ite_app h.plainWrite (Sound.ite_app
      h.cvuCfgWrite (Sound.ite_app h.cvuParWrite (Sound.ite_app h.cvuCtrlWrite (Sound.ite_app h.cvuDataWrite (Sound.ite_app
      h.cvuRunWrite (h.cvuGuard (fun _ h' => h'.storeReg))))))))))

theorem Sound.lspWrite {m : Word} {ag : Agent} {a : Nat} {w : Word} {x4 : State} (h : Sound l W x4) : Sound l W (lspWrite m ag a w x4) :=
  Sound.ite_app h.commitCtrlWrite (Sound.ite_app (h.guarded (fun _ h' => h'.holdLo)) (Sound.ite_app (h.guarded (fun _ h' =>
      h'.pairStore)) (Sound.ite_app h.lspCntClr (Sound.ite_app h.lspClaim (Sound.ite_app h.plainWrite (Sound.ite_app h.plCtrlWrite
      (Sound.ite_app h.plSlotWrite (Sound.ite_app h.plSlotWrite (Sound.ite_app (h.plGuard (fun _ h' => h'.holdLo)) (Sound.ite_app
      (h.plGuard (fun _ h' => h'.pairStore)) (h.plGuard (fun _ h' => h'.storeReg))))))))))))

theorem Sound.feCvuWrite {m : Word} {ag : Agent} {n : Nat} {w : Word} {x4 : State} (h : Sound l W x4) : Sound l W (feCvuWrite m ag n w
    x4) :=
  h.hold (fun _ h' => (h'.guardedFor (fun _ h1 => (Sound.ite h1.storeReg (Sound.ite h1.refusalErr (h1.pageWork (fun _ h2 => (h2.sif
      (fun _ h3 => h3.releaseRes)).claimRes.storeReg)))))))

theorem Sound.feWrite {m : Word} {ag : Agent} {n a : Nat} {w : Word} {x5 : State} (h : Sound l W x5) : Sound l W (feWrite m ag n a w
    x5) :=
  Sound.ite_app (h.checkedWrite (fun _ h' => h')) (Sound.ite_app (h.checkedWrite (fun _ h' => h')) (Sound.ite_app h.feCvuWrite
      (Sound.ite_app h.feCntClr h.plainWrite)))

theorem Sound.coilWrite {m : Word} {ag : Agent} {n a : Nat} {w : Word} {x5 : State} (h : Sound l W x5) : Sound l W (coilWrite m ag n a
    w x5) :=
  Sound.ite_app (h.checkedWrite (fun _ h' => h'.safeFollow)) (Sound.ite_app h.senseCfgWrite (Sound.ite_app h.chainCtrlWrite
      (Sound.ite_app h.thrCtrlWrite (Sound.ite_app h.thrMarkWrite (Sound.ite_app h.coilCntClr (Sound.ite_app h.profWrite (Sound.ite_app
      (h.checkedWrite (fun _ h' => h'.toCc.govern)) h.plainWrite)))))))

theorem Sound.fwgtWrite {m : Word} {ag : Agent} {a : Nat} {w : Word} {x4 : State} (h : Sound l W x4) : Sound l W (fwgtWrite m ag a w
    x4) :=
  Sound.ite_app (h.checkedWrite (fun _ h' => h'.govern)) (Sound.ite_app h.fwgtCntClr (Sound.ite_app (Sound.ite_app h.feCoilsWrite
      (Sound.ite_app h.feBankWrite (Sound.ite_app h.weightWrite (Sound.ite_app h.weightWrite h.plainWrite)))) (Sound.ite_app
      (h.checkedWrite (fun _ h' => h')) h.plainWrite)))

theorem Sound.tagWrite {m : Word} {ag : Agent} {a : Nat} {w : Word} {x4 : State} (h : Sound l W x4) : Sound l W (tagWrite m ag a w x4) :=
  Sound.ite_app h.crocusCfgWrite (Sound.ite_app h.crocusSetWrite (Sound.ite_app h.crocusBaseReq (Sound.ite_app h.crocusCntClr
      (Sound.ite_app h.tagcConfigWrite (Sound.ite_app h.tagcWlockWrite (Sound.ite_app h.tagcPwWrite (Sound.ite_app h.tagcPwValueWrite
      (Sound.ite_app h.tagcCntWrite (Sound.ite_app h.tagcCntClr h.plainWrite)))))))))

theorem Sound.radioWrite {m : Word} {ag : Agent} {a : Nat} {w : Word} {x4 : State} (h : Sound l W x4) : Sound l W (radioWrite m ag a w
    x4) :=
  Sound.ite_app h.rbSynReqWrite (Sound.ite_app (h.checkedWrite (fun _ h' => h'.radioIdle)) (Sound.ite_app h.rbSynCntClr (Sound.ite_app
      h.rbRxCntClr (Sound.ite_app h.rbDemCntClr (Sound.ite_app h.rbDecCntClr (Sound.ite_app h.rbTxCtrlWrite (Sound.ite_app h.rbTxCntClr
      (Sound.ite_app (h.checkedWrite (fun _ h' => h'.fixInput)) (Sound.ite_app (h.checkedWrite (fun _ h' => h')) (Sound.ite_app
      (h.checkedWrite (fun _ h' => h'.irqLevel)) (Sound.ite_app h.rbAntCntClr h.plainWrite)))))))))))

theorem Sound.mgtWrite {m : Word} {ag : Agent} {a : Nat} {w : Word} {x4 : State} (h : Sound l W x4) : Sound l W (mgtWrite m ag a w x4) :=
  Sound.ite_app h.mboxPlainWrite (Sound.ite_app h.mboxCtrlWrite (Sound.ite_app h.thermCfgWrite (Sound.ite_app h.sensCntClr
      (Sound.ite_app h.logSelWrite (Sound.ite_app h.logCtrlWrite (Sound.ite_app h.updTargetWrite (Sound.ite_app h.updCtrlWrite
      (Sound.ite_app h.updDataWrite (Sound.ite_app h.calReqWrite (Sound.ite_app h.injectWrite (Sound.ite_app h.cntClrAllWrite
      h.plainWrite)))))))))))

theorem Sound.rowWrite {m : Word} {ag : Agent} {k : StepOf} {a : Nat} {w : Word} {x5 : State} (h : Sound l W x5) : Sound l W (rowWrite
    m ag k a w x5) :=
  Sound.ite_app h.sysWrite (Sound.ite_app h.queueWrite (Sound.ite_app h.evfWrite (Sound.ite_app h.ftbWrite (Sound.ite_app h.cvuWrite
      (Sound.ite_app h.lspWrite (Sound.ite_app h.feWrite (Sound.ite_app h.coilWrite (Sound.ite_app h.fwgtWrite (Sound.ite_app
      h.tagWrite (Sound.ite_app h.radioWrite h.mgtWrite))))))))))

theorem Sound.spaceWrite {a : Nat} {w : Word} {x2 : State} (h : Sound l W x2) : Sound l W (spaceWrite a w x2) :=
  Sound.ite_app (h.windowWrite (fun _ h' => h'.sessionRamWrite)) (Sound.ite_app (h.windowWrite (fun _ h' => h'.refusalErr))
      (Sound.ite_app (h.windowWrite (fun _ h' => h'.scoreWrite)) (Sound.ite_app (h.windowWrite (fun _ h' => h'.viewAccess)) h)))

theorem Sound.busWrite {m : Word} {ag : Agent} {k : StepOf} {a : Nat} {w : Word} {x5 : State} (h : Sound l W x5) : Sound l W (busWrite
    m ag k a w x5) :=
  Sound.ite_app (Sound.ite_app h.spaceWrite h) (Sound.ite_app (Sound.ite_app h.cmdPortWrite h) (Sound.ite_app h.headerWrite
      (Sound.ite_app h h.rowWrite)))

theorem Sound.execRegisterWrite {ag : Agent} {addr : Nat} {w : Word} {s : State} (h : Sound l W s) : SoundNext l W (execRegisterWrite
    ag addr w s) :=
  h.busWrite

theorem Sound.maskedWrite {k : StepOf} {a data : Nat} {s : State} (h : Sound l W s) : Sound l W (maskedWrite k a data s) :=
  Sound.ite h.busWrite.setShade h.busWrite

theorem Sound.stepWrite {x : StepWrite} {a : Nat} {s : State} (h : Sound l W s) : Sound l W (stepWrite x a s) := by
  unfold Machine.stepWrite
  dsimp only
  split
  · exact h.maskedWrite
  · exact h.maskedWrite.stepRefused

theorem Sound.execWriteStep {k : PlayerIx} {s : State} (h : Sound l W s) : SoundNext l W (execWriteStep k s) := by
  refine h.takeAny fun i t h' => ?_
  have hu : ∀ c a, Sound l W (Machine.sif c (Machine.stepActed k a i i.act i.act) (Machine.passTo i.act t)) :=
    fun _ _ => h'.passTo.sif fun _ h'' => h''.stepActed
  exact .ite ((hu _ _).parts rfl rfl rfl rfl) (hu _ _).stepWrite

theorem Sound.heldWrite {w : HeldWrite} {s : State} (h : Sound l W s) : Sound l W (heldWrite w s) := by
  unfold Machine.heldWrite
  cases w.step with
  | none => exact h.busWrite
  | some x => exact h.stepWrite

theorem Sound.giveHeld {s : State} (h : Sound l W s) : Sound l W (giveHeld s) :=
  Sound.foldl (s := { s with heldWrites := [] }) (h.parts rfl rfl rfl rfl) fun _ _ h' => h'.heldWrite

theorem Sound.giveAfter {C : Nat} {s : State} (h : Sound l W s) : Sound l W (giveAfter C s) := by
  have ht : Sound l W (Machine.giveHeld { s with heldWrites := s.heldWrites.filter (fun h => !h.late) }) :=
    Sound.giveHeld (h.parts rfl rfl rfl rfl)
  unfold Machine.giveAfter
  dsimp only
  generalize Machine.giveHeld { s with heldWrites := s.heldWrites.filter (fun h => !h.late) } = t at ht ⊢
  have hp : Sound l W (Machine.passTo (C + 1) t) := ht.passTo
  generalize Machine.passTo (C + 1) t = u at hp ⊢
  exact .ite ht (Sound.giveHeld (hp.parts rfl rfl rfl rfl))

theorem Sound.execCommitMargin {s : State} (h : Sound l W s) : SoundNext l W (execCommitMargin s) := by
  unfold Machine.execCommitMargin
  split
  · exact h
  · exact (Sound.ite h (Sound.ite h.commitMark.giveHeld h.commitMark))

theorem Sound.execCommitApply {s : State} (h : Sound l W s) : SoundNext l W (execCommitApply s) := by
  unfold Machine.execCommitApply
  split
  · exact h
  · exact (Sound.ite h.commitAct.giveAfter h)

theorem Sound.pairRead {ag : Agent} {a : Nat} {s : State} (h : Sound l W s) : Sound l W (pairRead ag a s).2 :=
  Sound.ite_snd h.latchPair (Sound.ite_snd h.unlatch h)

theorem Sound.outRead {ag : Agent} {base o : Nat} {s : State} (h : Sound l W s) : Sound l W (outRead ag base o s).2 :=
  Sound.ite_snd (h.foldl (fun _ _ h' => h'.latchPair)) (Sound.ite_snd (h.foldl (fun _ _ h' => h'.unlatch)) (Sound.ite_snd h.latchPair h))

theorem Sound.runRead {ag : Agent} {s : State} (h : Sound l W s) : Sound l W (runRead ag s).2 :=
  h.nextFree

theorem Sound.regRead {ag : Agent} {a : Nat} {r : State} (h : Sound l W r) : Sound l W (regRead ag a r).2 :=
  Sound.ite_snd (h.sif (fun _ h' => h'.cellsNow)) (Sound.ite_snd (h.sif (fun _ h' => h'.cellsNow)).runRead (Sound.ite_snd (h.sif (fun _
      h' => h'.cellsNow)).ftbLoRead (Sound.ite_snd (h.sif (fun _ h' => h'.cellsNow)).ftbHiRead (Sound.ite_snd (h.sif (fun _ h' =>
      h'.cellsNow)).capLoRead (Sound.ite_snd (h.sif (fun _ h' => h'.cellsNow)).capHiRead (Sound.ite_snd (h.sif (fun _ h' =>
      h'.cellsNow)).outRead (h.sif (fun _ h' => h'.cellsNow)).pairRead))))))

theorem Sound.hostRead {a : Nat} {s : State} (h : Sound l W s) : Sound l W (hostRead a s) :=
  Sound.ite (Sound.giveWord (Sound.ite_snd h.regRead (Sound.ite_snd h (Sound.ite_snd h.popRes h.popEvt)))) (Sound.ite h.viewAccess
      (Sound.giveWord h))

theorem Sound.execPairLoRead {ag : Agent} {addr : Nat} {s : State} (h : Sound l W s) : SoundNext l W (execPairLoRead ag addr s) :=
  Sound.ite h.regRead.giveOut h

theorem Sound.busHold {b : BusTx} {s : State} (h : Sound l W s) : Sound l W (busHold b s) :=
  Sound.ite (h.parts rfl rfl rfl rfl) h

theorem Sound.readBurst {quad : Bool} {n a : Nat} {s : State} (h : Sound l W s) : Sound l W (readBurst quad n a s) := by
  induction n generalizing a s with
  | zero => exact .ite h.busHold h
  | succ n ih => exact .ite (ih h.hostRead) h.busHold

theorem Sound.writeBurst {ws : List Word} {a : Nat} {s : State} (h : Sound l W s) : Sound l W (writeBurst ws a s) := by
  induction ws generalizing a s with
  | nil => exact .ite h.busHold h
  | cons w ws ih => exact .ite (ih h.busWrite) h.busHold

theorem Sound.qspiReads {quad : Bool} {addr count : Nat} {s : State} (h : Sound l W s) : Sound l W (qspiReads quad addr count s) :=
  Sound.ite h.busEnd.giveOut.readBurst h

theorem Sound.qspiWrites {addr : Nat} {xs : List Word} {s : State} (h : Sound l W s) : Sound l W (qspiWrites addr xs s) :=
  Sound.ite h.busEnd.writeBurst h

theorem Sound.busGo {s : State} (h : Sound l W s) : Sound l W (busGo s) := by
  unfold Machine.busGo
  split
  · exact h
  · exact (Sound.readBurst (h.parts rfl rfl rfl rfl))
  · exact (Sound.writeBurst (h.parts rfl rfl rfl rfl))
  · exact (Sound.ite (Sound.giveOut (h.parts rfl rfl rfl rfl)) h)

theorem Sound.execQspiRead {addr count : Nat} {s : State} (h : Sound l W s) : SoundNext l W (execQspiRead addr count s) :=
  h.qspiReads

theorem Sound.execQspiWrite {addr : Nat} {xs : List Word} {s : State} (h : Sound l W s) : SoundNext l W (execQspiWrite addr xs s) :=
  h.qspiWrites

theorem Sound.execQspiQread {addr count : Nat} {s : State} (h : Sound l W s) : SoundNext l W (execQspiQread addr count s) :=
  h.qspiReads

theorem Sound.execQspiQwrite {addr : Nat} {xs : List Word} {s : State} (h : Sound l W s) : SoundNext l W (execQspiQwrite addr xs s) :=
  h.qspiWrites

theorem Sound.deliverGated {s : State} (h : Sound l W s) : Sound l W (deliverGated s) :=
  h.modFab.addRf

theorem Sound.queueFree {s : State} (h : Sound l W s) : Sound l W (queueFree s) :=
  Sound.settle (Sound.ite h h.setRb)

theorem Sound.mgtWake {s : State} (h : Sound l W s) : Sound l W (mgtWake s) :=
  Sound.ite h.logFlush.supplyTold (Sound.ite h.modBoot h.setRf.logFlush.supplyTold)

theorem Sound.execWakeRestore {tick : Nat} {s : State} (h : Sound l W s) : SoundNext l W (execWakeRestore tick s) :=
  Sound.ite h (Sound.busGo (Sound.cellsWake (Sound.forEach (Sound.queueFree (Sound.modPwr (Sound.sif (Sound.setRb (Sound.modCrocus
      (by split; exacts [h.passTo.setMode.setReg.setPair.addRf.irq.mgtWake,
      h.passTo.setMode.setReg.setPair.addRf.irq.setReg.mgtWake.deliverGated]))) (fun _ h' => h'.publish)))) (fun _ _ h' =>
      h'.playerIdle))))

theorem Sound.tick {s : State} (h : Sound l W s) : Sound l W (tick s) :=
  Sound.ite (((((h.passTo.cellsNow.sif (fun _ h' => h'.startRun)).forEach (fun _ _ h' => h'.chainEdge)).sif (fun _ h' =>
      h'.govern)).tagSettle.forEach (fun _ _ h' => (h'.sif (fun _ h1 => h1.chqFollow)))).linkServe.forEach (fun _ _ h' =>
      h'.engServe.stdSettle)).busGo h

theorem Sound.exec {i : Instr} {s : State} (h : Sound l W s) : SoundNext l W (exec i s) := by
  unfold Machine.exec
  split
  · exact h.execQspiRead
  · exact h.execQspiWrite
  · exact h.execQspiQread
  · exact h.execQspiQwrite
  · exact h.execQspiStatus
  · exact h.execQspiUnknownCommand
  · exact h.execQcsNRisePartialWord
  · exact h.execRegisterWrite
  · exact h.execPairLoRead
  · exact h.execFtbLoRead
  · exact h.execCmdPortWrite
  · exact h.execResPortRead
  · exact h.execEvtPortRead
  · exact h.execSessionCreate
  · exact h.execSessionDestroy
  · exact h.execSessionClosed
  · exact h.execSessionPlace
  · exact h.execSessionMigrate
  · exact h.execMigrationComplete
  · exact h.execHfExchange
  · exact h.execRbExchange
  · exact h.execXbExchange
  · exact h.execDiscover
  · exact h.execSnap
  · exact h.execSync
  · exact h.execMark
  · exact h.execPendingCommandStart
  · exact h.execResultHeldPost
  · exact h.execStaleTimeout
  · exact h.execQueueFlush
  · exact h.execQueueMarksWrite
  · exact h.execQueueCntClr
  · exact h.execHifCntClr
  · exact h.execSessionRamWrite
  · exact h.execQuiesceRequest
  · exact h.execQuiesceReached
  · exact h.execQuiesceRelease
  · exact h.execBlockDisable
  · exact h.execBlockEnable
  · exact h.execIrqSetWrite
  · exact h.execIrqEnWrite
  · exact h.execLockWrite
  · exact h.execOwnerWrite
  · exact h.execErrCodeClr
  · exact h.execStageApply
  · exact h.execStageDiscard
  · exact h.execSysClaim
  · exact h.execClkGateRbOff
  · exact h.execClkGateRbOn
  · exact h.execPorRelease
  · exact h.execCoreSupplyFail
  · exact h.execVddrfSupervisor
  · exact h.execVddioSupervisor
  · exact h.execVfldFall
  · exact h.execVfldRise
  · exact h.execResetNAssert
  · exact h.execResetNRelease
  · exact h.execSwResetSystem
  · exact h.execSwResetMgt
  · exact h.execBlockReset
  · exact h.execClockLoss
  · exact h.execReferenceQualified
  · exact h.execReady
  · exact h.execHollyhockRestart
  · exact h.execCalHfAdc
  · exact h.execCalChannelGainPhase
  · exact h.execCalTunerSweep
  · exact h.execCalRbAdcInterleave
  · exact h.execCalSynthBandTable
  · exact h.execCalPaAerial
  · exact h.execCalSensors
  · exact h.execCalCrocusBaseline
  · exact h.execCalRecordWrite
  · exact h.execCalDone
  · exact h.execDriftCheck
  · exact h.execSnapGo
  · exact h.execSnapCapture
  · exact h.execCompareArm
  · exact h.execCompareTargetWrite
  · exact h.execCompareFire
  · exact h.execCadenceRun
  · exact h.execCadenceStop
  · exact h.execCadenceWrap
  · exact h.execCadencePeriodChange
  · exact h.execCaptureEvent
  · exact h.execCaptureHiRead
  · exact h.execSyncGo
  · exact h.execSyncEdge
  · exact h.execAonMeasUpdate
  · exact h.execEventChannelEntry
  · exact h.execLimiterRelease
  · exact h.execEvfFire
  · exact h.execEvfFireMask
  · exact h.execEvfChReclaim
  · exact h.execCellOutputChange
  · exact h.execGpInputEdge
  · exact h.execGpEventOutput
  · exact h.execGpPulseEnd
  · exact h.execGpOutWrite
  · exact h.execEvfTaskIrq
  · exact h.execEvfCntClr
  · exact h.execMmMeasurementDone
  · exact h.execDriverCurrentLimit
  · exact h.execTuneCodeApply
  · exact h.execThetaRecompute
  · exact h.execChainOutput
  · exact h.execChainRestart
  · exact h.execProfileChange
  · exact h.execCoilCntClr
  · exact h.execCoilSetAdd
  · exact h.execCoilSetRemove
  · exact h.execCoilRelease
  · exact h.execBankSelWrite
  · exact h.execBankSwapEvent
  · exact h.execXfadeEnd
  · exact h.execWeightWrite
  · exact h.execGovernorMeasure
  · exact h.execFwgtCntClr
  · exact h.execStepIssue
  · exact h.execFieldStep
  · exact h.execBankStep
  · exact h.execTxStep
  · exact h.execRxwinStep
  · exact h.execRadioStep
  · exact h.execRbwinStep
  · exact h.execRbtxStep
  · exact h.execPublishStep
  · exact h.execGpioStep
  · exact h.execWriteStep
  · exact h.execSnapStep
  · exact h.execCommitStep
  · exact h.execNopStep
  · exact h.execBranchStep
  · exact h.execEndStep
  · exact h.execPlayerTrigger
  · exact h.execPlayerStart
  · exact h.execPlayerStop
  · exact h.execPlayerHold
  · exact h.execSwapReq
  · exact h.execSwapCancel
  · exact h.execVerify
  · exact h.execVerifyDone
  · exact h.execLspClaim
  · exact h.execScoreStoreWrite
  · exact h.execPlSlotWrite
  · exact h.execCommitGo
  · exact h.execCommitMargin
  · exact h.execCommitApply
  · exact h.execLspCntClr
  · exact h.execHfTxEnd
  · exact h.execGuardDone
  · exact h.execHfRxSof
  · exact h.execHfRxEnd
  · exact h.execRxWindowClose
  · exact h.execFeAbort
  · exact h.execFenCntClr
  · exact h.execSessCntClr
  · exact h.execRbSynReq
  · exact h.execRadioStateReached
  · exact h.execSynthCalDone
  · exact h.execSynthLock
  · exact h.execSynthSearchTimeout
  · exact h.execSynthFullSearchFail
  · exact h.execLockLoss
  · exact h.execTxRampEnd
  · exact h.execTxEnd
  · exact h.execTxTailEnd
  · exact h.execTestTxGo
  · exact h.execTestTxStop
  · exact h.execTestTxTimeout
  · exact h.execAerialMmDone
  · exact h.execDutyBinAdvance
  · exact h.execAntTuneApply
  · exact h.execRbSynCntClr
  · exact h.execRbTxCntClr
  · exact h.execRbAntCntClr
  · exact h.execPreambleDet
  · exact h.execAgcAttack
  · exact h.execAgcRelease
  · exact h.execAfcFreeze
  · exact h.execLongTrainingSync
  · exact h.execTimingTimeout
  · exact h.execSignalDecoded
  · exact h.execNewerPreamble
  · exact h.execPacketEnd
  · exact h.execDecodeEnd
  · exact h.execRbWindowClose
  · exact h.execNoiseUpdated
  · exact h.execRbRxAbort
  · exact h.execRbRxCntClr
  · exact h.execRbDemCntClr
  · exact h.execRbDecCntClr
  · exact h.execCvuStart
  · exact h.execCvuEnd
  · exact h.execCvuAbort
  · exact h.execCvuData
  · exact h.execCvuRunWrite
  · exact h.execCvuCfgWrite
  · exact h.execCvuChqWrite
  · exact h.execCvuCntClr
  · exact h.execTagFieldOn
  · exact h.execTagFieldLost
  · exact h.execTagReqa
  · exact h.execTagWupa
  · exact h.execTagAnticollision
  · exact h.execTagSelect
  · exact h.execTagHlta
  · exact h.execTagRats
  · exact h.execTagPps
  · exact h.execTagDeselect
  · exact h.execApduSelect
  · exact h.execApduReadBinary
  · exact h.execApduUpdateBinary
  · exact h.execApduVerify
  · exact h.execApduChangeReferenceData
  · exact h.execApduIncrementCounter
  · exact h.execApduReadCounter
  · exact h.execI2cWriteTransaction
  · exact h.execI2cReadTransaction
  · exact h.execTagViewAccess
  · exact h.execWireGranule
  · exact h.execWireTimeout
  · exact h.execTagcPwSet
  · exact h.execTagcCntInc
  · exact h.execTagcConfigWrite
  · exact h.execTagcFieldWlock
  · exact h.execTagcCntClr
  · exact h.execMboxGetVersion
  · exact h.execMboxLogNote
  · exact h.execMboxCalibrate
  · exact h.execMboxApplyRecord
  · exact h.execMboxCheckStore
  · exact h.execMboxFwSwitch
  · exact h.execMboxFwConfirm
  · exact h.execMboxFwRevert
  · exact h.execMboxTagUnlock
  · exact h.execMboxProtClear
  · exact h.execMboxUnknownCode
  · exact h.execMboxReply
  · exact h.execMboxNotify
  · exact h.execSensorRefresh
  · exact h.execThermalLevelCheck
  · exact h.execProtCapStep
  · exact h.execHwTrip
  · exact h.execVfldOvervoltage
  · exact h.execSupplyRangeReport
  · exact h.execLogSelWrite
  · exact h.execLogClear
  · exact h.execUpdTargetWrite
  · exact h.execUpdBegin
  · exact h.execUpdData
  · exact h.execUpdVerify
  · exact h.execUpdVerifyDone
  · exact h.execUpdAbort
  · exact h.execTrialTimeout
  · exact h.execWatchdogTrip
  · exact h.execSensCntClr
  · exact h.execModeReqSleep
  · exact h.execModeReqWatch
  · exact h.execModeEntered
  · exact h.execWakeTimerExpiry
  · exact h.execWakeDetect
  · exact h.execFtbResume
  · exact h.execWakeRestore
  · exact h.execCrocusCoilClaim
  · exact h.execCrocusSweepStart
  · exact h.execCrocusSweepEnd
  · exact h.execCrocusBaseReq
  · exact h.execCrocusCntClr
  · exact h.execDbgCntClrAll
  · exact h.execInjectFieldLoss
  · exact h.execInjectLockLoss
  · exact h.execInjectTemperature
  · exact h.execInjectCvuMismatch
  · exact h.execInjectEnd
  · exact h.execConsoleLineSent
  · exact h.execTapExtest
  · exact h.execTapSamplePreload
  · exact h.execTapIdcode
  · exact h.execTapClamp
  · exact h.execTapHighz
  · exact h.execTapBypass
  · exact h.execVddioSupplyRecovery
  · exact h.execVddrfSupplyRecovery
  · exact h.execVfldOvervoltageClear
  · exact h.execSurveyInputAlternate
  · exact h.execTestLogicReset
  · exact h.execBlockResetDone
  · exact h.execLogClearDone

/-- A step takes the front command away and keeps the rest of the queue and, of a sound state, the canonical form. -/
theorem step_sound {s : State} (hs : W → s.wf = true) : SoundNext s.pending.tail W (step s) := by
  unfold step
  split
  · next hp => exact Sound.tick ⟨by rw [hp]; rfl, hs⟩
  · next c r hp => exact Sound.exec ⟨by rw [hp]; rfl, hs⟩

theorem sound_of_step {s t : State} (hs : W → s.wf = true) (h : step s = .next t) : Sound s.pending.tail W t := by
  have hn := step_sound hs
  rwa [h] at hn

/-- Settles O4: every update of the state keeps the canonical form, and a step is made of updates. -/
theorem stepKeepsSoundness : Obligations.StepKeepsSoundness :=
  fun _ _ hs h => (sound_of_step (fun _ => hs) h).wf trivial

/-- Settles O5: a step runs the front command on the rest of the queue, which no update of the state touches. -/
theorem stepTakesOneCommand : Obligations.StepTakesOneCommand :=
  fun _ _ h => (sound_of_step False.elim h).pending

/-- Settles O1. -/
theorem stepRunsFrontCommand : Obligations.StepRunsFrontCommand := by
  intro s c r h
  rw [step, h]

/-- Settles O3. -/
theorem resetState : Obligations.ResetState :=
  ⟨rfl, fun _ => ⟨rfl, rfl⟩, rfl, rfl, rfl, rfl, rfl, rfl, rfl⟩

end Sys2Proof.Proofs
end

section
/-! PROOFS. The refutation of the idle step's tick: a transaction that QRDY held goes on in the step, and what it writes may move the time. -/

namespace Sys2Proof.Proofs
open Sys2Proof Sys2Proof.Machine

/-- A device that is READY, whose host port holds a write of STAGE_CTRL.APPLY of FWGT. -/
def applyHeld : State := { Tests.upOwned with bus := some (.write (Reg.stageCtrl Page.fwgt) [0x20]) }

/-- The held APPLY takes the FTB from tick 1001 of the idle step to the carrier-cycle boundary at 1008 (log entry 104). -/
theorem tick_applyHeld_now : (tick applyHeld).now = 1008 := by decide +kernel

/-- Refutes O2: a step without a command lets a transaction go on that QRDY held (R103), and the write of STAGE_CTRL.APPLY in it takes the
FTB to the next carrier-cycle boundary. -/
theorem not_idleStepIsATick : ¬ Obligations.IdleStepIsATick := by
  unfold Obligations.IdleStepIsATick
  rintro ⟨hrun, -⟩
  obtain ⟨t, hstep, hnow⟩ := hrun applyHeld rfl (by decide +kernel) (by decide +kernel)
  have ht : tick applyHeld = t := by injection hstep
  have hs : applyHeld.now = 1000 := by decide +kernel
  rw [← ht, tick_applyHeld_now, hs] at hnow
  exact absurd hnow (by decide)

/-- The same device in a wake whose FTB runs again. -/
def wakingApplyHeld : State := setMode 5 applyHeld

/-- What the command WAKE_RESTORE leaves of it at tick 1001. -/
theorem exec_wakeRestore_wakingApplyHeld :
    ∃ u, exec (.wakeRestore 1001) wakingApplyHeld = .next u ∧ u.now = 1008 := ⟨_, rfl, by decide +kernel⟩

/-- Refutes O59: the restore step lets a transaction go on that QRDY held (R452), and the write of STAGE_CTRL.APPLY in it takes the FTB past
the tick of the restore step, to the next carrier-cycle boundary. -/
theorem not_powerAndCrocusComplete : ¬ Obligations.PowerAndCrocusComplete := by
  unfold Obligations.PowerAndCrocusComplete
  rintro ⟨-, -, -, -, -, -, -, hrestore, -⟩
  obtain ⟨t, ht, -, -, -, hnow, -⟩ := hrestore wakingApplyHeld 1001 (by decide +kernel) (by decide +kernel) (by decide +kernel) (by decide)
  obtain ⟨u, hu, hu'⟩ := exec_wakeRestore_wakingApplyHeld
  rw [hu] at ht
  injection ht with ht
  rw [← ht, hu'] at hnow
  exact absurd hnow (by decide)

end Sys2Proof.Proofs
end

section
/-! PROOFS. The refutation of the enable of an interrupt source: IRQ_RAW reads its level sources as their conditions stand. -/

namespace Sys2Proof.Proofs
open Sys2Proof Sys2Proof.Machine

/-- A device that is READY, with LIMITING of FWGT left set in the register file while the governor's factor is 1. -/
def limitingLeft : State := setRb (Reg.irqRaw Page.fwgt) 3 true Tests.upOwned

theorem limitingLeft_takes : limitingLeft.takes .host (Reg.irqEn (0x1c : PageIx)) := by decide +kernel

/-- The write of IRQ_EN that enables LIMITING alone makes nothing occur: at the present tick the source is 0 (R136, R236). -/
theorem irqEnWrite_limitingLeft_irqStat : (irqEnWrite .host Page.fwgt 8 limitingLeft).reg (Reg.irqStat Page.fwgt) = 0 := by decide +kernel

/-- Refutes O14: a source that is enabled occurs when IRQ_RAW reads 1 for it at the present tick, which for LIMITING of FWGT is not what
the register file holds. -/
theorem not_interruptWritesComplete : ¬ Obligations.InterruptWritesComplete := by
  unfold Obligations.InterruptWritesComplete
  rintro ⟨henable, -⟩
  obtain ⟨t, ht, -, hstat, -⟩ := henable limitingLeft .host 0x1c 8 limitingLeft_takes
  have hw : irqEnWrite .host Page.fwgt 8 limitingLeft = t := by injection ht
  have hraw : limitingLeft.reg (Reg.irqStat (0x1c : PageIx)) |||
      (8 &&& ~~~ limitingLeft.reg (Reg.irqEn (0x1c : PageIx)) &&& limitingLeft.reg (Reg.irqRaw (0x1c : PageIx))) = 8 := by decide +kernel
  have hzero := irqEnWrite_limitingLeft_irqStat
  rw [hw] at hzero
  rw [hraw] at hstat
  exact absurd (hzero.symm.trans hstat) (by decide)

end Sys2Proof.Proofs
end

section
/-! PROOFS. Writes of CTRL, LOCK and OWNER that pass the checks of R139 (R135, R137, R138), and what a refusal leaves as it was. -/

namespace Sys2Proof.Proofs
open Sys2Proof Sys2Proof.Machine Sys2Proof.Laws

/-! ## The report of a refusal with its details given -/

theorem detailUsed_of_given {d : Nat} (h : d ≠ openDetail) (s : State) : detailUsed d s = s := if_neg h

theorem noteFirst_onlyRegs {info extra : Nat} (hi : info ≠ openDetail) (he : extra ≠ openDetail) (p code : Nat) (s : State) :
    OnlyRegs [Reg.errCode p, Reg.errInfo p] s (noteFirst p code info extra s) := by
  rw [noteFirst, detailUsed_of_given he, detailUsed_of_given hi]
  exact onlyRegs_trans (setReg_onlyRegs (by simp) _ s) (setReg_onlyRegs (by simp) _ _)

theorem errNoted_onlyRegs {info extra : Nat} (hi : info ≠ openDetail) (he : extra ≠ openDetail) (p code : Nat) (s : State) :
    OnlyRegs [Reg.errCode p, Reg.errInfo p] s (errNoted p code info extra s) := by
  unfold errNoted
  split
  · exact noteFirst_onlyRegs hi he p code s
  · exact addRf_onlyRegs (by simp) _ _ _ s

/-- A refusal whose details are given changes nothing but the registers of the error report. -/
theorem refusalErr_onlyReport {info extra : Nat} (hi : info ≠ openDetail) (he : extra ≠ openDetail) (p code : Nat) (s : State) :
    OnlyRegs (reportRegs p) s (refusalErr p code info extra s) :=
  onlyRegs_trans (onlyRegs_mono (by simp [reportRegs]) (errNoted_onlyRegs hi he p code s))
    (onlyRegs_mono (by simp [reportRegs, faultRegs]) (refusalErr_onlyRegs p code info extra s))

theorem writeInfo_given (ag : Agent) (a : Nat) : writeInfo ag a ≠ openDetail := by
  have hlow := Nat.mod_lt a (show 0x1000 > 0 by decide)
  cases ag <;> simp only [writeInfo, agentCode, openDetail] <;> omega

theorem refusalErr_first_errCode {extra : Nat} (he : extra ≠ openDetail) (code info : Nat) {p : Nat} {s : State}
    (h : s.rf (Reg.errCode p) 15 10 = 0) : (refusalErr p code info extra s).reg (Reg.errCode p) = firstErrWord code extra := by
  rw [(refusalErr_onlyRegs p code info extra s).1 _ (errCode_not_mem_followers p), errNoted, if_pos h, noteFirst_errCode_reg he]

/-- Every refusal sets IRQ_RAW[31] of its page (R140). -/
theorem refusalErr_irqRaw (p code info extra : Nat) (s : State) : (refusalErr p code info extra s).rb (Reg.irqRaw p) 31 = true := by
  have hirq : (recErrAs none p code info extra s).rb (Reg.irqRaw p) 31 = true := irq_irqRaw (by decide) _
  have hout : Reg.irqRaw p ∉ [Reg.dbgFirst, Reg.dbgFirstTickLo, Reg.dbgFirstTickHi] := by
    simp only [Reg.irqRaw, Reg.dbgFirst, Reg.dbgFirstTickLo, Reg.dbgFirstTickHi, List.mem_cons, List.not_mem_nil, or_false]
    omega
  unfold refusalErr
  split
  · exact faultIn_keeps_set (by decide) hout hirq
  · exact hirq

/-! ## Reports leave the common header's other registers alone -/

/-- A register whose place in its page is none of the report's. -/
theorem not_mem_reportRegs {a : Nat} (p : Nat)
    (ha : a % 0x1000 ∉ [Reg.errCode 0, Reg.errInfo 0, Reg.irqRaw 0, Reg.irqStat 0] ++ (reportRegs 0).map (· % 0x1000)) :
    a ∉ reportRegs p := by
  intro hm
  apply ha
  simp only [reportRegs, List.mem_cons, List.not_mem_nil, or_false] at hm
  rcases hm with h | h | h | h | h | h | h | h | h | h <;> subst h <;>
    simp [reportRegs, Reg.errCode, Reg.errInfo, Reg.irqRaw, Reg.irqStat, Nat.add_mod]

/-! ## CTRL -/

/-- SNAP_ARM written back as it stands changes no register's reading. -/
theorem setRb_self_reg (a k x : Nat) (s : State) : (setRb a k (s.rb a k) s).reg x = s.reg x := by
  rw [setRb_rb_self, setReg_self_reg]

theorem bit_ctrl_en_cleared (w : Word) : bit (setBit w 0 false) 0 = false ∧ bit (setBit w 0 false) 1 = bit w 1 ∧
    bit (setBit w 0 false) 2 = bit w 2 :=
  ⟨bit_setBit_eq _ _ (by decide), bit_setBit_ne _ _ (by decide) (by decide), bit_setBit_ne _ _ (by decide) (by decide)⟩

theorem quiesceSet_of_same (p : Nat) (s : State) : quiesceSet p (s.rb (Reg.ctrl p) 1) s = s := by
  simp [quiesceSet]

/-- A clear of EN on a page that is not quiesced is refused, and the rest of CTRL is as it was (R135, log entry 102). -/
theorem exec_blockDisable_refused {s : State} {ag : Agent} {p : PageIx} (h : s.takes ag (Reg.ctrl p)) (hp : pageFixed p = false)
    (hen : s.rb (Reg.ctrl p) 0 = true) (hq : s.rb (Reg.status p) 0 = false) :
    exec (.blockDisable ag p) s =
      .next (refusalErr p Err.notQuiesced (writeInfo ag (Reg.ctrl p)) 0 (setRb (Reg.ctrl p) 2 (s.rb (Reg.ctrl p) 2) s)) := by
  have hctrl : Reg.ctrl (p : Nat) ∉ reportRegs p := not_mem_reportRegs _ (by simp [Reg.ctrl, Nat.add_mod]; decide)
  obtain ⟨h0, h1, h2⟩ := bit_ctrl_en_cleared (s.reg (Reg.ctrl p))
  have hsame := quiesceSet_of_same p
    (refusalErr p Err.notQuiesced (writeInfo ag (Reg.ctrl p)) 0 (setRb (Reg.ctrl p) 2 (s.rb (Reg.ctrl p) 2) s))
  rw [State.rb, refusalErr_sameRegs _ _ _ _ _ _ hctrl, setRb_self_reg] at hsame
  change Host.Outcome.next (ctrlWrite ag p (setBit (s.reg (Reg.ctrl p)) 0 false) s) = _
  simp only [ctrlWrite, hold_of_reaches h.1, guarded_of_takes h, hp, hen, hq, h0, h1, h2, Bool.false_eq_true, Bool.not_true, if_false]
  exact congrArg _ hsame

/-- Settles O13: the clear of EN is refused with NOT_QUIESCED. -/
theorem disableNeedsQuiesce : Obligations.DisableNeedsQuiesce := by
  unfold Obligations.DisableNeedsQuiesce
  intro s ag p h hp hen hq hfirst
  have hctrl : Reg.ctrl (p : Nat) ∉ reportRegs p := not_mem_reportRegs _ (by simp [Reg.ctrl, Nat.add_mod]; decide)
  have hself : ∀ x, (setRb (Reg.ctrl p) 2 (s.rb (Reg.ctrl p) 2) s).reg x = s.reg x := fun x => setRb_self_reg _ _ x s
  have hcode := refusalErr_first_errCode (extra := 0) (by decide) Err.notQuiesced (writeInfo ag (Reg.ctrl p))
    (p := p) (s := setRb (Reg.ctrl p) 2 (s.rb (Reg.ctrl p) 2) s) (by rwa [State.rf, hself])
  refine ⟨_, exec_blockDisable_refused h hp hen hq, ?_, ?_, ?_, refusalErr_irqRaw _ _ _ _ _, ?_, fun a => ?_⟩
  · rw [State.rb, refusalErr_sameRegs _ _ _ _ _ _ hctrl, hself]
    exact hen
  · rw [State.rf, hcode]
    exact firstErrWord_code (by decide) 0
  · rw [State.rf, hcode]
    exact firstErrWord_count (by decide) 0
  · intro x hx
    rw [refusalErr_sameRegs _ _ _ _ _ _ hx, hself]
  · rw [State.byte, refusalErr_mem]
    rfl

/-! ## LOCK and OWNER -/

/-- The checks of R139 with another test in place of the owner's let a write through that reaches its page, unlocked. -/
theorem guardedBy_of_reaches {s : State} {ag : Agent} {a : Nat} (h : s.reaches ag a) (hu : s.unlocked a) (eff : State → State) :
    guardedBy true ag a eff s = eff s := by
  obtain ⟨hlock, hquiet⟩ := hu
  simp only [guardedBy, guardedFor, secureGuard_of_reaches h, hlock, hquiet, Bool.not_true, Bool.false_eq_true, if_false]

theorem exec_lockWrite_of_takes {s : State} {ag : Agent} {p : PageIx} {w : Word} (h : s.takes ag (Reg.lock p))
    (hkey : bit w 0 = true ∨ fld w 31 16 = 0xc35a) : exec (.lockWrite ag p w) s = .next (setRb (Reg.lock p) 0 (bit w 0) s) := by
  change Host.Outcome.next (lockWrite ag p w s) = _
  simp only [lockWrite, hold_of_reaches h.1, guarded_of_takes h]
  rcases hb : bit w 0 with _ | _
  · simp only [hb, Bool.false_eq_true, false_or] at hkey
    simp only [hkey, Bool.false_eq_true, if_false, if_true]
  · simp only [if_true]

/-- OWNER as a write leaves it that hands the page over: Hollyhock's sets SECURE too (R138, log entry 86). -/
def ownerGiven (ag : Agent) (p : Nat) (w : Word) (s : State) : State :=
  setRf (Reg.owner p) 1 0 (fld w 1 0) (sif (ag == .hollyhock) (setRb (Reg.owner p) 8 (bit w 8)) s)

theorem exec_ownerWrite_of_takes {s : State} {ag : Agent} {p : PageIx} {w : Word} (h : s.takes ag (Reg.owner p)) (h3 : fld w 1 0 ≠ 3) :
    exec (.ownerWrite ag p w) s = .next (ownerGiven ag p w s) := by
  obtain ⟨hreach, hown, hu⟩ := h
  have hmine : (s.rf (Reg.owner p) 1 0 == agentCode ag) = true := by
    rw [show (Reg.owner p) / 0x1000 = (p : Nat) by simp only [Reg.owner]; omega] at hown
    rw [hown, beq_self_eq_true]
  change Host.Outcome.next (ownerWrite ag p w s) = _
  simp only [ownerWrite, hold_of_reaches hreach, hmine, Bool.or_true, Bool.true_or, guardedBy_of_reaches hreach hu, h3, if_false, if_true,
    ownerGiven]

theorem exec_ownerWrite_reclaims {s : State} {p : PageIx} {w : Word} (h : s.reaches .host (Reg.owner p)) (hu : s.unlocked (Reg.owner p))
    (h2 : s.rf (Reg.owner p) 1 0 = 2) (h0 : fld w 1 0 = 0) (hkey : fld w 31 16 = 0xc35a) :
    exec (.ownerWrite .host p w) s = .next (ownerGiven .host p w s) := by
  change Host.Outcome.next (ownerWrite .host p w s) = _
  simp only [ownerWrite, hold_of_reaches h, h2, h0, hkey, beq_self_eq_true, Bool.and_true, Bool.true_or, guardedBy_of_reaches h hu,
    ownerGiven, if_true]
  rfl

theorem ownerGiven_agent (ag : Agent) (p : Nat) (w : Word) (s : State) : (ownerGiven ag p w s).rf (Reg.owner p) 1 0 = fld w 1 0 := by
  have hlt : fld w 1 0 < 4 := Nat.mod_lt _ (by decide)
  rw [ownerGiven, setRf_rf_eq (by decide)]
  exact Nat.mod_eq_of_lt hlt

theorem ownerGiven_onlyRegs (ag : Agent) (p : Nat) (w : Word) (s : State) : OnlyRegs [Reg.owner p] s (ownerGiven ag p w s) :=
  onlyRegs_trans (sif_onlyRegs _ (setRb_onlyRegs (by simp) _ _ _)) (setReg_onlyRegs (by simp) _ _)

theorem errCleared_onlyRegs (p : Nat) (s : State) : OnlyRegs [Reg.errCode p, Reg.errInfo p] s (errCleared p s) :=
  onlyRegs_trans (setReg_onlyRegs (by simp) _ s) (setReg_onlyRegs (by simp) _ _)

/-- Settles O15, each write by the state it leaves. -/
theorem ownershipWritesComplete : Obligations.OwnershipWritesComplete := by
  unfold Obligations.OwnershipWritesComplete
  refine ⟨fun s ag p w h hset => ?_, fun s ag p w h hclr hkey => ?_, fun s ag p w h h3 => ?_, fun s p w h hu h2 h0 hkey => ?_,
    fun s ag p h => ?_⟩
  · refine ⟨_, exec_lockWrite_of_takes h (.inl hset), ?_, setRb_onlyRegs (by simp) _ _ s⟩
    rw [setRb_rb_eq (by decide), hset]
  · refine ⟨_, exec_lockWrite_of_takes h (.inr hkey), ?_, setRb_onlyRegs (by simp) _ _ s⟩
    rw [setRb_rb_eq (by decide), hclr]
  · exact ⟨_, exec_ownerWrite_of_takes h h3, ownerGiven_agent _ _ _ _, ownerGiven_onlyRegs _ _ _ _⟩
  · exact ⟨_, exec_ownerWrite_reclaims h hu h2 h0 hkey, (ownerGiven_agent _ _ _ _).trans h0, ownerGiven_onlyRegs _ _ _ _⟩
  · exact ⟨_, exec_errCodeClr h, errCleared_errCode p s, errCleared_errInfo p s, errCleared_onlyRegs p s⟩

end Sys2Proof.Proofs
end

section
/-! PROOFS. The refutation of the command port's claim about memory: the refusal of a malformed item counts for its session. -/

namespace Sys2Proof.Proofs
open Sys2Proof Sys2Proof.Machine

/-- A malformed item of four words, three of which have come, that names the session of slot 18. -/
def badForSession : BadItem := ⟨0x0500448c#32, 0x12, 3, 4, Err.modeAbort⟩

/-- A device that is READY, with a session in slot 18 under handle 0x12, while the malformed item arrives. -/
def badArriving : State :=
  setCtx16 18 0 0x12 (setSessState 18 1 { Tests.upOwned with queue := { Tests.upOwned.queue with bad := some badForSession } })

/-- The item's last word has its refusal posted, and the session's count of failures grows in its context (R489). -/
theorem cmdPortWrite_badArriving_count :
    badArriving.byte (ctxAddr 18 0xbc) = 0 ∧ (cmdPortWrite 0 badArriving).byte (ctxAddr 18 0xbc) = 1 := by decide +kernel

/-- Refutes O8: the refusal of a malformed item that names a live session is counted in the session's context (R489), so not every byte
of memory reads as before. -/
theorem not_commandPortWrites : ¬ Obligations.CommandPortWrites := by
  unfold Obligations.CommandPortWrites
  rintro ⟨-, -, -, -, -, hlast⟩
  obtain ⟨t, ht, -, -, -, hbytes⟩ := hlast badArriving 0 badForSession (by decide +kernel) (by decide +kernel) (by decide +kernel)
    (by decide +kernel) (by decide) (by decide)
  have hw : cmdPortWrite 0 badArriving = t := by injection ht
  obtain ⟨hbefore, hafter⟩ := cmdPortWrite_badArriving_count
  have hsame := hbytes (ctxAddr 18 0xbc)
  rw [← hw, hbefore, hafter] at hsame
  exact absurd hsame (by decide)

end Sys2Proof.Proofs
end

section
/-! PROOFS. Refutations of claims that a refusal leaves memory alone: a refusal whose handle names a session that lives is counted in
that session's context (R489). -/

namespace Sys2Proof.Proofs
open Sys2Proof Sys2Proof.Machine

/-- The count of failures in the context of slot 18 (R489). -/
abbrev failCount : Nat := ctxAddr 18 0xbc

/-- A device that is READY, with a session in slot 18 under handle 0x12 in state `st`. -/
def withSession (st : Nat) (s : State) : State := setCtx16 18 0 0x12 (setSessState 18 st s)

/-! ## A command that names a session that is closing -/

/-- A SESSION_PLACE for handle 0x12. -/
def placeItem : Item := ⟨3, 0, 5, 0x12, 0, 0, 0, [0], 0, 0, none⟩

/-- The session that the command names is CLOSING. -/
def closingNamed : State := Tests.dispatching 0x03 placeItem (withSession SessState.closing Tests.upOwned)

theorem exec_sessionPlace_closingNamed :
    ∃ u, exec .sessionPlace closingNamed = .next u ∧ u.byte failCount = 1 ∧ closingNamed.byte failCount = 0 :=
  ⟨_, rfl, by decide +kernel⟩

/-- Refutes O37: a command that names a CLOSING session by its handle is refused with STALE_HANDLE, and the refusal is counted in the
context of that session, which still lives. -/
theorem not_badHandlesRefused : ¬ Obligations.BadHandlesRefused := by
  unfold Obligations.BadHandlesRefused
  rintro ⟨-, hplace, -⟩
  obtain ⟨t, ht, -, -, hbytes⟩ := hplace closingNamed placeItem Err.staleHandle 0 (by decide +kernel) (by decide +kernel)
  obtain ⟨u, hu, hafter, hbefore⟩ := exec_sessionPlace_closingNamed
  have hut : u = t := Host.Outcome.next.inj (hu.symm.trans ht)
  have hsame := hbytes failCount
  rw [← hut, hafter, hbefore] at hsame
  exact absurd hsame (by decide)

/-! ## A SESSION_CREATE whose handle names a session -/

/-- A SESSION_CREATE with handle 0x12. -/
def createItem : Item := ⟨1, 0, 5, 0x12, 0, 0, 0, [0], 0, 0, none⟩

/-- The session table is full. -/
def tableFullNamed : State :=
  setRb (Reg.status Page.sess) 0 false (setRb (Reg.ctrl Page.sess) 0 true (Tests.dispatching 0x01 createItem
    (modSess (fun x => { x with freed := [], used := (List.range 256).map (fun k => (k, true)) }) (withSession 1 Tests.upOwned))))

-- The two are elaborated in turn: each evaluates the model, and side by side they exceed the check's memory.
mutual

theorem exec_sessionCreate_tableFullNamed :
    ∃ u, exec .sessionCreate tableFullNamed = .next u ∧ u.byte failCount = 1 ∧ tableFullNamed.byte failCount = 0 :=
  ⟨_, rfl, by decide +kernel⟩

/-- Refutes O35: a SESSION_CREATE that finds the table full is refused under the handle it carries, and where that handle names a session
that lives the refusal is counted in its context. -/
theorem not_sessionLifeComplete : ¬ Obligations.SessionLifeComplete := by
  unfold Obligations.SessionLifeComplete
  rintro ⟨-, hfull, -⟩
  obtain ⟨t, ht, -, -, hbytes, -⟩ := hfull tableFullNamed createItem (by decide +kernel) (by decide +kernel) (by decide +kernel)
    (by decide +kernel) (by decide +kernel)
  obtain ⟨u, hu, hafter, hbefore⟩ := exec_sessionCreate_tableFullNamed
  have hut : u = t := Host.Outcome.next.inj (hu.symm.trans ht)
  have hsame := hbytes failCount
  rw [← hut, hafter, hbefore] at hsame
  exact absurd hsame (by decide)

end

end Sys2Proof.Proofs
end

section
/-! PROOFS. The refutation of the block reset's claim about Reset values: CVU's channels follow the quiesce that the reset leaves. -/

namespace Sys2Proof.Proofs
open Sys2Proof Sys2Proof.Machine

/-- A device that is READY, with CVU quiesced. -/
def cvuQuiesced : State := setRb (Reg.status Page.cvu) 0 true Tests.upOwned

-- The two are elaborated in turn: each evaluates the model, and side by side they exceed the check's memory.
mutual

/-- After the reset of CVU all its channels are quiesced, which CHQ shows (R400). -/
theorem exec_blockReset_cvuQuiesced :
    ∃ u, exec (.blockReset .host 0xa5c30009) cvuQuiesced = .next u ∧ u.reg Reg.cvuChq ≠ regReset Reg.cvuChq := ⟨_, rfl, by decide +kernel⟩

/-- Refutes O23: a block reset leaves its page quiesced, and in CVU the channels follow at once, so CHQ does not read its Reset value. -/
theorem not_blockResetComplete : ¬ Obligations.BlockResetComplete := by
  unfold Obligations.BlockResetComplete
  rintro ⟨hreset, -⟩
  obtain ⟨t, ht, -, -, -, -, -, hregs, -⟩ := hreset cvuQuiesced .host 0xa5c30009 Page.cvu (by decide +kernel) (by decide) (by decide)
    (by decide) (by decide +kernel) (by decide +kernel)
  obtain ⟨u, hu, hchq⟩ := exec_blockReset_cvuQuiesced
  have hut : u = t := Host.Outcome.next.inj (hu.symm.trans ht)
  refine hchq (hut ▸ hregs Reg.cvuChq (by decide) (by decide) (by decide) (by decide +kernel) (by decide))

end

end Sys2Proof.Proofs
end

section
/-! PROOFS. Refutations about sync edges and about VDDRF: what is already under way comes first. -/

namespace Sys2Proof.Proofs
open Sys2Proof Sys2Proof.Machine

/-- A device that is READY, with the edge of a sync job to come at tick 65536. -/
def edgeToCome : State := { Tests.upOwned with time := { ftb := 1000, syncJobs := [⟨65536, false, none⟩] } }

/-- A GO whose edge would fall before the one to come puts its job first. -/
theorem exec_syncGo_edgeToCome :
    ∃ u, exec (.syncGo (.write .host)) edgeToCome = .next u ∧ u.time.syncJobs.head?.map SyncJob.edge ≠ some 65536 :=
  ⟨_, rfl, by decide +kernel⟩

/-- Refutes O27: the job of a SYNC_CTRL.GO does not go to the end of the list where a job waits whose edge is later. -/
theorem not_snapshotAndSyncComplete : ¬ Obligations.SnapshotAndSyncComplete := by
  unfold Obligations.SnapshotAndSyncComplete
  rintro ⟨-, -, -, -, hgo, -⟩
  obtain ⟨t, ht, hjobs, -⟩ := hgo edgeToCome .host (by decide +kernel) (by decide +kernel)
  obtain ⟨u, hu, hhead⟩ := exec_syncGo_edgeToCome
  have hut : u = t := Host.Outcome.next.inj (hu.symm.trans ht)
  rw [hut, hjobs] at hhead
  exact hhead rfl

/-- A device that is READY and whose VDDRF has failed, while its radio still has a packet in progress. -/
def packetInProgress : State :=
  { Tests.upOwned with
    boot := { phase := .ready, vddrf := false }
    radio := { tx := some ⟨[], 0, 0, 0, 0, 0, 0, 0, 0, 0, true, 0, false⟩ } }

-- The two are elaborated in turn: each evaluates the model, and side by side they exceed the check's memory.
mutual

theorem exec_vddrfSupplyRecovery_packetInProgress :
    ∃ u, exec .vddrfSupplyRecovery packetInProgress = .next u ∧ u.radio.goal = none := ⟨_, rfl, by decide +kernel⟩

/-- Refutes O21: when VDDRF comes back, the idle state of a radio that nobody holds waits while a packet is in progress. -/
theorem not_supplySupervisorsComplete : ¬ Obligations.SupplySupervisorsComplete := by
  unfold Obligations.SupplySupervisorsComplete
  rintro ⟨-, hback, -⟩
  obtain ⟨t, ht, -, -, hidle, -⟩ := hback packetInProgress
  obtain ⟨u, hu, hgoal⟩ := exec_vddrfSupplyRecovery_packetInProgress
  have hut : u = t := Host.Outcome.next.inj (hu.symm.trans ht)
  obtain ⟨hsome, -⟩ := hidle rfl (by decide +kernel) (by decide +kernel) (by decide +kernel) (by decide +kernel) (by decide +kernel)
    (by decide +kernel) (by decide +kernel)
  rw [← hut, hgoal] at hsome
  exact absurd hsome (by decide)

end

end Sys2Proof.Proofs
end

section
/-! PROOFS. Refutations for the event fabric and for the frames of a field engine: what waits before an event or a step comes between. -/

namespace Sys2Proof.Proofs
open Sys2Proof Sys2Proof.Machine

/-! ## A channel whose event goes to the event queue -/

/-- The event that waits for channel 17. -/
def queuedEvent : Event := ⟨0, 1, some 17⟩

/-- Channel 17 also goes to the event queue, while a flush runs whose HOLD_N has not been asserted yet. -/
def channelToQueue : State :=
  { setRb (Reg.evfChCfg 17) 12 true Tests.upOwned with
    fab := { waiting := [queuedEvent] }
    queue := { flushing := true, holdLow := false } }

theorem exec_eventChannelEntry_channelToQueue :
    ∃ u, exec (.eventChannelEntry 17 2000 1) channelToQueue = .next u ∧ u.fab.waiting ≠ [] := ⟨_, rfl, by decide +kernel⟩

/-- Refutes O30: the item that a channel puts into the event queue settles the queue pins, and the assertion of HOLD_N that was due is
published (R128): the events that wait are not those from before without the channel's own. -/
theorem not_eventFabricComplete : ¬ Obligations.EventFabricComplete := by
  unfold Obligations.EventFabricComplete
  rintro ⟨hentry, -⟩
  obtain ⟨t, ht, -, -, hwaiting, -⟩ := hentry channelToQueue 17 2000 queuedEvent (by decide +kernel) (by decide +kernel) (by decide +kernel)
    (by decide +kernel) (by decide +kernel)
  obtain ⟨u, hu, hne⟩ := exec_eventChannelEntry_channelToQueue
  have hut : u = t := Host.Outcome.next.inj (hu.symm.trans ht)
  rw [hut, hwaiting] at hne
  exact hne (by decide +kernel)

/-! ## An RXWIN step behind a step that waits -/

/-- An RXWIN step that acts at tick 0. -/
def windowStep : Issued := ⟨4, 0, 0, 0, 0, 0, 0, 0, 0⟩

/-- An exchange whose frame is not under layer 4. -/
def plainExch : Exch := { item := ⟨8, 0, 0, 0, 0, 0, 0, [], 0, 0, none⟩, slot := 0, start := 0 }

/-- FE3 serves an exchange, and a step of its player waits for the check-value channel. -/
def stepWaiting : State :=
  modEng 3 (fun e => { e with exch := some plainExch, waits := [windowStep] }) (modPlayer 3 (fun p => { p with flight := [windowStep] })
    Tests.upOwned)

-- The two are elaborated in turn: each evaluates the model, and side by side they exceed the check's memory.
mutual

theorem exec_rxwinStep_stepWaiting :
    ∃ u, exec (.rxwinStep 3) stepWaiting = .next u ∧ (u.eng 3).air.opened = none := ⟨_, rfl, by decide +kernel⟩

/-- Refutes O46: an RXWIN step that reaches its engine behind a step that waits opens no window yet. -/
theorem not_hfFramesComplete : ¬ Obligations.HfFramesComplete := by
  unfold Obligations.HfFramesComplete
  rintro ⟨-, -, -, -, hwindow, -⟩
  obtain ⟨t, ht, hopened, -⟩ := hwindow stepWaiting 3 windowStep plainExch (by decide +kernel) (by decide) (by decide +kernel) (by decide)
    (by decide +kernel) (by decide)
  obtain ⟨u, hu, hnone⟩ := exec_rxwinStep_stepWaiting
  have hut : u = t := Host.Outcome.next.inj (hu.symm.trans ht)
  have hopened' : (u.eng 3).air.opened = some _ := hut ▸ hopened
  rw [hnone] at hopened'
  exact absurd hopened' (by simp)

end

end Sys2Proof.Proofs
end

section
/-! PROOFS. Refutations about the results of an exchange, a task input's sync edge, and the synthesiser's lock. -/

namespace Sys2Proof.Proofs
open Sys2Proof Sys2Proof.Machine

/-! ## A DISCOVER that waits behind the exchange that is ended -/

/-- The event that ends what FE0 has in flight. -/
def abortTask : Task := ⟨0x90, 0, 46, 0⟩

/-- A DISCOVER command of FE0. -/
def discoverItem : Item := ⟨0xc, 0, 7, 0, 0, 0, 0, [0x10000000], 0, 0, none⟩

/-- An exchange in flight on FE0, behind which a DISCOVER waits. -/
def discoverBehind : State :=
  modEng 0 (fun e => { e with exch := some plainExch, discWait := some discoverItem }) (Tests.delivering 0x90 abortTask Tests.upOwned)

/-- The engine, free again, takes up the DISCOVER and refuses it: that answer is the newest result. -/
theorem exec_feAbort_discoverBehind :
    ∃ u, exec (.feAbort 0) discoverBehind = .next u ∧ u.queue.res.getLast?.map Item.typ = some 0xc ∧ u.queue.held = [] :=
  ⟨_, rfl, by decide +kernel⟩

/-- A result that is posted or held last has its TYPE. -/
theorem typ_of_posted {t : State} {typ seq handle err : Nat} {payload : List Word} (h : t.posted typ seq handle err payload = true)
    (hheld : t.queue.held = []) : t.queue.res.getLast?.map Item.typ = some typ := by
  cases hlast : t.queue.res.getLast? with
  | none => simp [State.posted, hheld, hlast] at h
  | some i =>
    simp only [State.posted, hheld, hlast, Option.any_some, List.getLast?_nil, Option.any_none, Bool.or_false, Bool.and_eq_true,
      beq_iff_eq] at h
    obtain ⟨⟨⟨⟨htyp, -⟩, -⟩, -⟩, -⟩ := h
    rw [Option.map_some, htyp]

/-- Refutes O47: the end of an exchange frees its engine for the DISCOVER that waited, and where that is answered at once its answer, not
the exchange's, is the newest result. -/
theorem not_hfResultsComplete : ¬ Obligations.HfResultsComplete := by
  unfold Obligations.HfResultsComplete
  rintro ⟨-, -, -, -, -, habort, -⟩
  obtain ⟨t, ht, -, hposted, -⟩ := habort discoverBehind 0 abortTask plainExch (by decide +kernel) (by decide +kernel) (by decide)
  obtain ⟨u, hu, hlast, hheld⟩ := exec_feAbort_discoverBehind
  have hut : u = t := Host.Outcome.next.inj (hu.symm.trans ht)
  rw [← hut] at hposted
  have htyp := typ_of_posted hposted hheld
  rw [hlast] at htyp
  exact absurd htyp (by decide)

/-! ## A sync edge asked for by an event -/

/-- The event at the SYNC task input. -/
def syncTask : Task := ⟨0x35, 5, 35, 13⟩

/-- The event arrives while the edge of a sync job is to come at tick 65536. -/
def syncTaskEdgeToCome : State := Tests.delivering 0x35 syncTask edgeToCome

theorem exec_syncGo_syncTaskEdgeToCome :
    ∃ u, exec (.syncGo .event) syncTaskEdgeToCome = .next u ∧ u.time.syncJobs.head?.map SyncJob.edge ≠ some 65536 :=
  ⟨_, rfl, by decide +kernel⟩

/-- Refutes O29: the job of an event at the SYNC input does not go to the end of the list where a job waits whose edge is later. -/
theorem not_taskEventsComplete : ¬ Obligations.TaskEventsComplete := by
  unfold Obligations.TaskEventsComplete
  rintro ⟨-, -, -, -, hsync, -⟩
  obtain ⟨t, ht, hjobs, -⟩ := hsync syncTaskEdgeToCome syncTask (by decide +kernel) (by decide +kernel)
  obtain ⟨u, hu, hhead⟩ := exec_syncGo_syncTaskEdgeToCome
  have hut : u = t := Host.Outcome.next.inj (hu.symm.trans ht)
  rw [hut, hjobs] at hhead
  exact hhead (by decide +kernel)

/-! ## A lock while the radio's pages are quiesced -/

/-- The synthesiser waits for its lock, on the way to SYNTH, while the pages of the radio are disabled. -/
def lockWhileHeld : State := { Tests.up with radio := { phase := 3, goal := some 3 } }

-- The two are elaborated in turn: each evaluates the model, and side by side they exceed the check's memory.
mutual

theorem exec_synthLock_lockWhileHeld :
    ∃ u, exec (.synthLock 0) lockWhileHeld = .next u ∧ u.rbLocked = false := ⟨_, rfl, by decide +kernel⟩

/-- Refutes O48: while its pages are to be quiesced the radio goes no further than STANDBY, and the synthesiser whose lock is reported stops. -/
theorem not_radioStatesComplete : ¬ Obligations.RadioStatesComplete := by
  unfold Obligations.RadioStatesComplete
  rintro ⟨-, -, -, -, -, -, hlock, -⟩
  obtain ⟨t, ht, hlocked, -⟩ := hlock lockWhileHeld 0 (by decide +kernel) (by decide +kernel) (by decide +kernel) (by decide +kernel)
  obtain ⟨u, hu, hnot⟩ := exec_synthLock_lockWhileHeld
  have hut : u = t := Host.Outcome.next.inj (hu.symm.trans ht)
  rw [hut, hlocked] at hnot
  exact absurd hnot (by decide)

end

end Sys2Proof.Proofs
end

section
/-! PROOFS. Refutations: a core supply's fall, and a START that waited on a check-value channel. -/

namespace Sys2Proof.Proofs
open Sys2Proof Sys2Proof.Machine

/-! ## The password bytes of a pending command, when a core supply falls -/

/-- An AUTH command of the return band, which names password 0. -/
def authItem : Item := ⟨0x20, 0, 0, 0, 0, 0, 0, [wd (Cmd.auth * 2 ^ 24 + 1), 0, 0], 0, 0, none⟩

/-- An AUTH command of slot 1 waits, and block 1000 is noted as its, past the end of the frame pool; the byte there is 9. -/
def authWaits : State :=
  { setBytes (poolBase + 512 * 1000) [9] (setCtx 1 6 1 (setCtx 1 2 1 Tests.up)) with
    sess := { pend := [(1, [authItem])], blocks := [(1, [1000])] } }


theorem exec_coreSupplyFail_authWaits :
    ∃ u, exec (.coreSupplyFail .vddc) authWaits = .next u ∧
      u.byte (poolBase + 512 * 1000) ≠ authWaits.byte (poolBase + 512 * 1000) := ⟨_, rfl, by decide +kernel⟩

/-- Refutes O20: the password bytes of a command that waits are cleared wherever its blocks are noted, past the frame pool too. -/
theorem not_resetsComplete : ¬ Obligations.ResetsComplete := by
  unfold Obligations.ResetsComplete
  rintro ⟨-, hfail, -⟩
  obtain ⟨t, ht, -, -, -, hmem, -⟩ := hfail authWaits .vddc (by decide +kernel)
  obtain ⟨u, hu, hne⟩ := exec_coreSupplyFail_authWaits
  have hut : u = t := Host.Outcome.next.inj (hu.symm.trans ht)
  rw [hut] at hne
  exact hne (hmem _ (by decide))

/-! ## A START that waited with parameters no START accepts -/

/-- A START of channel 0 waits, and its configuration names no polynomial. -/
def startWaits : State :=
  { Tests.taking .host Reg.cvuChq Tests.upOwned with cvu := { waits := [(0, true)] } }

-- The two are elaborated in turn: each evaluates the model, and side by side they exceed the check's memory.
mutual

theorem exec_cvuChqWrite_startWaits :
    ∃ u, exec (.cvuChqWrite .host 0) startWaits = .next u ∧ u.reg Reg.dbgFirst ≠ startWaits.reg Reg.dbgFirst :=
  ⟨_, rfl, by decide +kernel⟩

/-- Refutes O52: the START that waited is checked as its channel is released, and its refusal is the device's first fault at DBG. -/
theorem not_checkValuesComplete : ¬ Obligations.CheckValuesComplete := by
  unfold Obligations.CheckValuesComplete
  rintro ⟨-, -, -, -, -, -, -, hchq, -⟩
  obtain ⟨t, ht, -, hpages, -⟩ := hchq startWaits .host 0 (by decide +kernel)
  obtain ⟨u, hu, hne⟩ := exec_cvuChqWrite_startWaits
  have hut : u = t := Host.Outcome.next.inj (hu.symm.trans ht)
  rw [hut] at hne
  exact hne (hpages _ (by decide))

end

end Sys2Proof.Proofs
end

section
/-! PROOFS. Refutation: a BRANCH that is a swap point. -/

namespace Sys2Proof.Proofs
open Sys2Proof Sys2Proof.Machine

/-- Player 1 plays a FREE section, whose next word is a BRANCH with SWAP set, while a swap is pending. -/
def swapBranch : State :=
  setRf (Reg.lspPlStatus 1) 19 16 5 (setMem 4 (scoreBase + 72) (2 ^ 31) (setMem 4 (scoreBase + 76) (13 * 2 ^ 28)
    (modPlayer 1 (fun p => { p with pc := 9, kind := Kind.free }) (setMem 4 scoreBase 0x20 (setMem 4 (scoreBase + 4) 0x5c0e0101
      (setReg (slotReg 1 (Tests.up.activeSlot 1)) (wd (64 * 65536)) (setRb (Reg.lspPlStatus 1) 23 true (setRb (Reg.ctrl Page.lsp) 0 true Tests.up))))))))

-- The two are elaborated in turn: each evaluates the model, and side by side they exceed the check's memory.
mutual

theorem exec_branchStep_swapBranch :
    ∃ u, exec (.branchStep 1) swapBranch = .next u ∧
      u.reg (Reg.irqRaw Page.lsp) ≠ (passTo (swapBranch.player 1).avail (passTo 0 swapBranch)).reg (Reg.irqRaw Page.lsp) :=
  ⟨_, rfl, by decide +kernel⟩

/-- Refutes O41: a BRANCH in a FREE section may be a swap point, and the swap that takes place there raises its interrupt and is counted. -/
theorem not_internalStepsComplete : ¬ Obligations.InternalStepsComplete := by
  unfold Obligations.InternalStepsComplete
  rintro ⟨-, hbranch, -⟩
  obtain ⟨t, ht, -, -, -, hregs, -⟩ :=
    hbranch swapBranch 1 0 (by decide +kernel) (by decide +kernel) (by decide +kernel) (by decide +kernel)
  obtain ⟨u, hu, hne⟩ := exec_branchStep_swapBranch
  have hut : u = t := Host.Outcome.next.inj (hu.symm.trans ht)
  rw [hut] at hne
  exact hne (hregs _ (by decide))

end

end Sys2Proof.Proofs
end

section
/-! PROOFS. Refutation: a record of the log that the console cannot take. -/

namespace Sys2Proof.Proofs
open Sys2Proof Sys2Proof.Machine

/-- COIL3 has drifted from the temperature of its calibration, while the console is enabled and sixteen lines wait behind the one
being sent. -/
def driftConsoleFull : State :=
  setRb Reg.dbgConsole 0 true { Tests.up with mgt := { Tests.up.mgt with
    temps := [(0, some 1000), (1, some 1000), (2, some 1000)], calTemp := [(3, some 10)], console := List.replicate 17 [] } }

-- The two are elaborated in turn: each evaluates the model, and side by side they exceed the check's memory.
mutual

theorem exec_driftCheck_driftConsoleFull :
    ∃ u, exec .driftCheck driftConsoleFull = .next u ∧ u.reg Reg.dbgConsole ≠ driftConsoleFull.reg Reg.dbgConsole :=
  ⟨_, rfl, by decide +kernel⟩

/-- Refutes O26: the record of a drift is a console line too, and where the console has no room for it DBG.CONSOLE shows the loss. -/
theorem not_calibrationComplete : ¬ Obligations.CalibrationComplete := by
  unfold Obligations.CalibrationComplete
  rintro ⟨-, -, -, -, hdrift, -⟩
  obtain ⟨t, ht, -, hpages⟩ := hdrift driftConsoleFull 3000 (by decide +kernel) (by decide +kernel) (by decide +kernel) (by decide +kernel)
  obtain ⟨u, hu, hne⟩ := exec_driftCheck_driftConsoleFull
  have hut : u = t := Host.Outcome.next.inj (hu.symm.trans ht)
  rw [hut] at hne
  exact hne (hpages _ (by decide))

end

end Sys2Proof.Proofs
end

section
/-! PROOFS. Refutation: an output of a receive chain while a fade goes on. -/

namespace Sys2Proof.Proofs
open Sys2Proof Sys2Proof.Machine

/-- The chain of COIL6 runs with every stage of one sample and its threshold unit off. FE0 drives COIL2, whose fade began at tick 600, before the present tick 1000, and
GOV_MEAS shows a granted total of 7. -/
def fadeBesideChain : State :=
  setRf Reg.fwgtGovMeas 27 16 7 (setReg (Reg.sysResClaim 2) 0x4000 (setRb (Reg.coilDriveStatus 2) 0 true
    (modEng 0 (fun e => { e with fade := some (600, 50) })
      (setReg (Reg.coilCalGain 6) 0x40000000 (modCoil 6 (fun e => { e with loaded := [0, 0, 0] })
        (setRb (Reg.coilChainStatus 6) 0 true (setReg (Reg.coilThrCtrl 6) 0 Tests.up)))))))

-- The two are elaborated in turn: each evaluates the model, and side by side they exceed the check's memory.
mutual

theorem exec_chainOutput_fadeBesideChain :
    ∃ u, exec (.chainOutput 6 [2]) fadeBesideChain = .next u ∧ u.reg Reg.fwgtGovMeas ≠ fadeBesideChain.reg Reg.fwgtGovMeas :=
  ⟨_, rfl, by decide +kernel⟩

/-- Refutes O31: time passes with the samples of a chain, and the governor computes g at the boundaries of a fade that it passes: FWGT
shows its totals. -/
theorem not_chainCommandsComplete : ¬ Obligations.ChainCommandsComplete := by
  unfold Obligations.ChainCommandsComplete
  rintro ⟨-, -, -, -, houtput, -⟩
  obtain ⟨t, ht, -, -, -, -, -, -, -, -, -, hpages, -⟩ :=
    houtput fadeBesideChain 6 2 ⟨[(2, 0)], 0⟩ ⟨[(2, 0)], 0⟩ ⟨[(2, 0)], 0⟩ (2, 0) (2, 0) (2, 0) (2, 0) 0 (by decide +kernel)
      (by decide +kernel) (by decide +kernel) (by decide +kernel) (by decide +kernel) (by decide +kernel) (by decide +kernel)
      (by decide +kernel)
  obtain ⟨u, hu, hne⟩ := exec_chainOutput_fadeBesideChain
  have hut : u = t := Host.Outcome.next.inj (hu.symm.trans ht)
  rw [hut] at hne
  exact hne (hpages (by decide +kernel) _ (by decide))

end

end Sys2Proof.Proofs
end

section
/-! PROOFS. Refutations: a migration asked for by a command of TYPE 0x30, and a section that needs one of player 4. -/

namespace Sys2Proof.Proofs
open Sys2Proof Sys2Proof.Machine

/-! ## A migration asked for by a command of TYPE 0x30 -/

/-- A command of slot 1's session with the TYPE of SESSION_CLOSED. -/
def closedTyped : Item := ⟨0x30, 0, 7, 1, 0, 0, 0, [0x10000000, 0], 0, 0, none⟩

/-- The session of slot 1 is fenced towards FE1 on behalf of that command, and nothing of it is in flight. -/
def fencedByClosed : State := setFence 1 (some ⟨1, some closedTyped⟩) (setCtx 1 3 4 (setCtx 1 0 1 Tests.upOwned))

theorem exec_migrationComplete_fencedByClosed :
    ∃ u, exec (.migrationComplete 1) fencedByClosed = .next u ∧ u.sessState 1 ≠ SessState.placed := ⟨_, rfl, by decide +kernel⟩

/-- Refutes O36: a fence may be held on behalf of a command of any TYPE, and a result of TYPE 0x30 closes the session whose handle it
carries. -/
theorem not_sessionPlacementComplete : ¬ Obligations.SessionPlacementComplete := by
  unfold Obligations.SessionPlacementComplete
  rintro ⟨-, -, -, hcomplete, -⟩
  obtain ⟨t, ht, hplaced, -⟩ := hcomplete fencedByClosed 1 1 closedTyped (by decide +kernel) (by decide +kernel)
  obtain ⟨u, hu, hnot⟩ := exec_migrationComplete_fencedByClosed
  have hut : u = t := Host.Outcome.next.inj (hu.symm.trans ht)
  rw [hut] at hnot
  exact hnot hplaced

/-! ## A section of FE3 that needs a section of player 4 -/

/-- An XB_EXCHANGE with NO_REPLY, which names no section. -/
def crossItem : Item := ⟨10, 3, 2613, 1, 0, 0, 1000, [0x04400001, 0, 5], 0, 0, none⟩

/-- The default section of player 3, whose LINK names a section of player 4. -/
def linkedDefault : Section := ⟨1, 1, 5, 0, false, 7, 9⟩

/-- The active slot of player 3 holds an image with that section alone. -/
def linkedImage (s : State) : State :=
  setMem 4 scoreBase 0x20 (setMem 4 (scoreBase + 4) 0x5c0e0101 (setMem 4 (scoreBase + 16) 9 (setMem 4 (scoreBase + 20) 0x01150007
    (setReg (slotReg 3 (s.activeSlot 3)) (wd (64 * 65536)) s))))

/-- Every page is enabled, and none is to be quiesced. -/
def allReleased (s : State) : State :=
  forEach (List.range 0x2c) (fun p t => setRb (Reg.ctrl p) 0 true (setRb (Reg.ctrl p) 1 false (setRb (Reg.status p) 0 false t))) s

/-- FE3 holds COIL3, whose chain runs, and the command waits in slot 179, whose session is placed on FE3; player 4 has no section. -/
def crossPends : State :=
  setCtx 179 0x40 5 (setRb (Reg.coilChainStatus 3) 0 true (allReleased (setReg (Reg.sysResClaim 0x62) 0x3004
    (setCtx 179 4 3 (setCtx 179 3 2 (setPend 179 [crossItem] (setRf (Reg.feMode 3) 3 0 5 (linkedImage
      (setRf (Reg.sysResClaim 3) 15 12 7 (modCoil 3 (fun x => { x with loaded := [0, 0, 0] }) Tests.up))))))))))

-- The two are elaborated in turn: each evaluates the model, and side by side they exceed the check's memory.
mutual

theorem exec_pendingCommandStart_crossPends :
    ∃ u, exec (.pendingCommandStart 179) crossPends = .next u ∧ u.link.ex.map LinkEx.item = none := ⟨_, rfl, by decide +kernel⟩

/-- Refutes O39: a command with NO_REPLY may start a section that is linked with one of player 4, and is refused where player 4 has none. -/
theorem not_commandStartComplete : ¬ Obligations.CommandStartComplete := by
  unfold Obligations.CommandStartComplete
  rintro ⟨-, -, hcross, -⟩
  obtain ⟨t, ht, -, hitem, -⟩ := hcross crossPends 179 3 crossItem [] linkedDefault 1024 (by decide +kernel) (by decide +kernel)
    (by decide +kernel) (by decide +kernel) (by decide +kernel) (by decide +kernel) (by decide +kernel) (by decide +kernel)
    (by decide +kernel) (by decide +kernel) (by decide +kernel) (by decide +kernel)
  obtain ⟨u, hu, hnone⟩ := exec_pendingCommandStart_crossPends
  have hut : u = t := Host.Outcome.next.inj (hu.symm.trans ht)
  rw [hut, hitem] at hnone
  exact absurd hnone (by decide)

end

end Sys2Proof.Proofs
end

section
/-! PROOFS. Refutations: a test transmission that waits behind another, and a bad header in a window that has closed. -/

namespace Sys2Proof.Proofs
open Sys2Proof Sys2Proof.Machine

/-! ## A test transmission that waits behind another -/

/-- A transmission of the carrier for no time. -/
def briefTest : RadioTx := ⟨[], 0, 0, 0, 0, 0, 0, 0, 0, 1, true, 0, true⟩

/-- The radio, locked and bound for SYNTH, is in the tail of a transmission, and a test transmission waits. -/
def tailWithTestWaiting : State :=
  setRf Reg.rbSynState 18 15 3 (setRb Reg.rbSynState 12 true (setRf Reg.rbSynState 3 0 8
    { allReleased Tests.up with radio := { tx := some briefTest, testWaits := some briefTest, bins := [(0, [0])] } }))

theorem exec_txTailEnd_tailWithTestWaiting :
    ∃ u, exec .txTailEnd tailWithTestWaiting = .next u ∧ u.radio.tx.isSome = true := ⟨_, rfl, by decide +kernel⟩

/-- Refutes O49: at the end of the tail a test transmission that waits ramps at once. -/
theorem not_transmissionsComplete : ¬ Obligations.TransmissionsComplete := by
  unfold Obligations.TransmissionsComplete
  rintro ⟨-, -, -, -, htail, -⟩
  obtain ⟨t, ht, hnone, -⟩ := htail tailWithTestWaiting briefTest 0 [] (by decide +kernel) (by decide +kernel) (by decide +kernel)
  obtain ⟨u, hu, hsome⟩ := exec_txTailEnd_tailWithTestWaiting
  have hut : u = t := Host.Outcome.next.inj (hu.symm.trans ht)
  rw [hut, hnone] at hsome
  exact absurd hsome (by decide)

/-! ## A bad header in a window that has closed -/

/-- A reception in window 1 whose header is to be decoded. -/
def headerDue : RbRx :=
  { det := 6146, c := (1, 0), start := 6200, timed := true, of := 1, equal := ⟨2, 8, 1, List.replicate 14 (16384, 0)⟩ }

/-- Samples of which one in each symbol is not 0. -/
def pulses : List (Int × Int) := (List.range 80).map (fun k => (if k % 20 = 5 then 1000 else 0, 0))

/-- The soft values of their four symbols. -/
def pulseSofts : List (Int × Int) :=
  [(7, 7), (-8, -8), (7, 7), (-8, -8), (7, 7), (-8, -8), (-8, -8), (7, 7), (-8, -8), (7, 7), (-8, -8), (7, 7),
    (7, 7), (-8, -8), (7, 7), (-8, -8), (7, 7), (-8, -8), (-8, -8), (7, 7), (-8, -8), (7, 7), (-8, -8), (7, 7)]

/-- The header that they give, whose check fails. -/
def pulseHeader : Signal := ⟨2, true, 426, 130, false⟩

theorem allPairs_pulses :
    allPairs 0 4 (softSymbols headerDue.equal false headerDue.offset 4 0 80 pulses) = pulseSofts := by decide +kernel

/-- The exchange of slot 1 in flight on the return band. -/
def linkInFlight : LinkEx := { item := ⟨9, 0, 7, 1, 0, 0, 0, [0x04000000, 0], 0, 0, none⟩, slot := 1, sent := true }

/-- The window of that reception has closed, and the exchange in flight waits for what comes of it; RB_DEM shows an earlier error. -/
def headerInShutWindow : State :=
  setCtx 1 3 3 (setCtx 1 0 1 (setRf (Reg.errCode Page.rbDem) 15 10 1 { Tests.up with
    rx := { rx := some headerDue, win := some { opened := 0, close := 0, live := false, forEx := true } }
    link := { ex := some linkInFlight } }))

theorem signal_pulses : headerDue.signal headerInShutWindow.freeVal (headerInShutWindow.baseband (.base pulses)) = pulseHeader := by
  have hbase : headerInShutWindow.baseband (.base pulses) = pulses := rfl
  rw [RbRx.signal, hbase, allPairs_pulses]
  decide +kernel

/-- With a header whose check fails the reception ends with HCS as its cause (R354). -/
theorem exec_signalDecoded_of_not_ok {s : State} {r : RbRx} {x : RbSamples} {g : Signal} (hr : s.rx.rx = some r)
    (htimed : r.timed = true) (hphase : r.phase = 1) (htaps : r.equal.taps ≠ []) (hg : r.signal s.freeVal (s.baseband x) = g)
    (hok : g.ok = false) :
    exec (.signalDecoded x) s = .next (headerBad r .hcs (sampleTick (r.start + 162)) (setReg Reg.rbDemSignal
      (wd (g.hcs * 2 ^ 16 + g.len * 16 + g.flag.toNat * 8 + g.rate))
      (addRf Reg.rbDecDecCnt 15 0 1 (nextFree (codesTaken x (passTo (sampleTick (r.start + 162)) s)))))) := by
  change execSignalDecoded x s = _
  simp [execSignalDecoded, hr, htimed, hphase, htaps, hg, hok]

theorem exec_signalDecoded_headerInShutWindow :
    ∃ u, exec (.signalDecoded (.base pulses)) headerInShutWindow = .next u ∧
      u.byte (ctxAddr 1 186) ≠ headerInShutWindow.byte (ctxAddr 1 186) :=
  ⟨_, exec_signalDecoded_of_not_ok (r := headerDue) rfl rfl rfl (by decide) signal_pulses rfl, by decide +kernel⟩

/-- Refutes O50: with a header that fails, the reception of a window that has closed is over, and so is the exchange that waited for it: its
session's context counts that. -/
theorem not_receptionComplete : ¬ Obligations.ReceptionComplete := by
  unfold Obligations.ReceptionComplete
  rintro ⟨-, -, -, -, -, -, -, -, hsignal, -⟩
  obtain ⟨t, ht, -, -, hbytes, -⟩ :=
    hsignal headerInShutWindow headerDue (.base pulses) _ (by decide +kernel) (by decide +kernel) (by decide +kernel) (by decide +kernel) rfl
  obtain ⟨u, hu, hne⟩ := exec_signalDecoded_headerInShutWindow
  have hut : u = t := Host.Outcome.next.inj (hu.symm.trans ht)
  rw [hut] at hne
  exact hne (hbytes _)

end Sys2Proof.Proofs
end

section
/-! PROOFS. Refutation: a window that closes while a packet of it waits for its check. -/

namespace Sys2Proof.Proofs
open Sys2Proof Sys2Proof.Machine

/-- A window is open, and a packet received in it waits for the check-value channel of player 4. -/
def windowWithPacketKept : State :=
  { Tests.up with rx := { win := some { opened := 0, close := 0 }, kept := [({ det := 0, c := (0, 0), of := 1 }, default)] } }

-- The two are elaborated in turn: each evaluates the model, and side by side they exceed the check's memory.
mutual

theorem exec_rbWindowClose_windowWithPacketKept :
    ∃ u, exec .rbWindowClose windowWithPacketKept = .next u ∧ u.rx.win.isSome = true := ⟨_, rfl, by decide +kernel⟩

/-- Refutes O51: a window that has closed is kept for a packet that still waits for its check. -/
theorem not_receiverUpkeepComplete : ¬ Obligations.ReceiverUpkeepComplete := by
  unfold Obligations.ReceiverUpkeepComplete
  rintro ⟨-, hclose, -⟩
  obtain ⟨t, ht, hnone, -⟩ := hclose windowWithPacketKept { opened := 0, close := 0 } rfl rfl rfl rfl rfl rfl
  obtain ⟨u, hu, hsome⟩ := exec_rbWindowClose_windowWithPacketKept
  have hut : u = t := Host.Outcome.next.inj (hu.symm.trans ht)
  rw [hut, hnone] at hsome
  exact absurd hsome (by decide)

end

end Sys2Proof.Proofs
end

section
/-! PROOFS. Refutations: wired accesses to the panel tag that wait. -/

namespace Sys2Proof.Proofs
open Sys2Proof Sys2Proof.Machine

/-! ## A wired write between the blocks of an APDU -/

/-- SELECT of Voxtier in two blocks. -/
def selectInTwoBlocks : Apdu :=
  ⟨0, 0xa4, 4, 0, some tagAid, none, false, 34, [⟨.iMore, false, none, true, 3000⟩, ⟨.iLast, true, none, true, 6000⟩]⟩

/-- The tag runs layer 4 in a field, and a write of the memory view at byte 0x200 waits with its granule needed. -/
def layer4WithWriteWaiting : State :=
  { Tests.up with tag := { Tests.up.tag with field := true, air := .active, l4 := true, waiting := [⟨.viewWrite 0x200 9, some 1000, false⟩] } }

theorem exec_apduSelect_layer4WithWriteWaiting :
    ∃ u, exec (.apduSelect selectInTwoBlocks) layer4WithWriteWaiting = .next u ∧
      u.byte (tagBase + 0x200) ≠ layer4WithWriteWaiting.byte (tagBase + 0x200) := ⟨_, rfl, by decide +kernel⟩

/-- Refutes O54: a wired write that waits takes place between two blocks of the APDU. -/
theorem not_tagApdusComplete : ¬ Obligations.TagApdusComplete := by
  unfold Obligations.TagApdusComplete
  rintro ⟨hselect, -⟩
  obtain ⟨t, ht, -, -, -, hbytes⟩ := hselect layer4WithWriteWaiting selectInTwoBlocks (by decide +kernel) (by decide +kernel)
    (by decide +kernel) (by decide +kernel) rfl rfl rfl rfl rfl rfl
  obtain ⟨u, hu, hne⟩ := exec_apduSelect_layer4WithWriteWaiting
  have hut : u = t := Host.Outcome.next.inj (hu.symm.trans ht)
  rw [hut] at hne
  exact hne (hbytes _)

/-! ## A wired read that is not needed yet -/

/-- A read of the memory view that is needed. -/
def neededRead : WireWait := ⟨.viewRead 4, some 0, false⟩

/-- A read that is not needed yet waits before it. -/
def readsWait : State := { Tests.up with tag := { Tests.up.tag with waiting := [⟨.viewRead 0, none, false⟩, neededRead] } }

-- The two are elaborated in turn: each evaluates the model, and side by side they exceed the check's memory.
mutual

theorem exec_wireGranule_readsWait :
    ∃ u, exec .wireGranule readsWait = .next u ∧ u.tag.waiting ≠ [neededRead] := ⟨_, rfl, by decide +kernel⟩

/-- Refutes O55: of the accesses that wait, one that is needed goes before one that is not. -/
theorem not_tagWireComplete : ¬ Obligations.TagWireComplete := by
  unfold Obligations.TagWireComplete
  rintro ⟨-, -, -, -, hgranule, -⟩
  obtain ⟨t, ht, -, hwaiting, -⟩ := hgranule readsWait 0 none false [neededRead] rfl (by decide +kernel)
  obtain ⟨u, hu, hne⟩ := exec_wireGranule_readsWait
  have hut : u = t := Host.Outcome.next.inj (hu.symm.trans ht)
  rw [hut] at hne
  exact hne hwaiting

end

end Sys2Proof.Proofs
end

section
/-! PROOFS. Refutations: an exchange in flight that ends as the field or the lock goes. -/

namespace Sys2Proof.Proofs
open Sys2Proof Sys2Proof.Machine

/-- An HF_EXCHANGE of slot 1's session. -/
def sessionExch : Exch := { item := ⟨8, 0, 7, 1, 0, 0, 0, [0x01000000, 0], 0, 0, none⟩, slot := 1, start := 0 }

/-- FE0 has the field of COIL2 on, and that exchange is in flight on it. -/
def fieldOnInExchange : State :=
  setCtx 1 3 3 (setCtx 1 0 1 (setReg (Reg.sysResClaim 2) 0x4000 (setRb (Reg.coilDriveStatus 2) 0 true
    (modEng 0 (fun e => { e with exch := some sessionExch }) Tests.up))))

theorem exec_vfldOvervoltage_fieldOnInExchange :
    ∃ u, exec .vfldOvervoltage fieldOnInExchange = .next u ∧ u.byte (ctxAddr 1 3) ≠ fieldOnInExchange.byte (ctxAddr 1 3) :=
  ⟨_, rfl, by decide +kernel⟩

/-- Refutes O57: with the field the exchange in flight ends, and its session is BUSY no longer. -/
theorem not_protectionComplete : ¬ Obligations.ProtectionComplete := by
  unfold Obligations.ProtectionComplete
  rintro ⟨-, -, -, -, -, -, -, -, -, hover, -⟩
  obtain ⟨t, ht, -, -, -, hbytes⟩ := hover fieldOnInExchange (by decide +kernel)
  obtain ⟨u, hu, hne⟩ := exec_vfldOvervoltage_fieldOnInExchange
  have hut : u = t := Host.Outcome.next.inj (hu.symm.trans ht)
  rw [hut] at hne
  exact hne (hbytes _)

/-- The host may inject a fault into that state. -/
def injectableInExchange : State := setRb (Reg.ctrl Page.dbg) 0 true (Tests.taking .host Reg.dbgInject fieldOnInExchange)

-- The two are elaborated in turn: each evaluates the model, and side by side they exceed the check's memory.
mutual

theorem exec_injectFieldLoss_injectableInExchange :
    ∃ u, exec (.injectFieldLoss .host 0xa5c30004) injectableInExchange = .next u ∧
      u.byte (ctxAddr 1 3) ≠ injectableInExchange.byte (ctxAddr 1 3) := ⟨_, rfl, by decide +kernel⟩

/-- Refutes O60: a field loss that is injected ends the exchange in flight as well. -/
theorem not_debugAndTestComplete : ¬ Obligations.DebugAndTestComplete := by
  unfold Obligations.DebugAndTestComplete
  rintro ⟨-, -, hfield, -⟩
  obtain ⟨t, ht, -, -, -, -, hbytes⟩ := hfield injectableInExchange .host 0xa5c30004 (by decide +kernel) (by decide +kernel)
    (by decide +kernel) (by decide +kernel) (by decide +kernel) (by decide +kernel)
  obtain ⟨u, hu, hne⟩ := exec_injectFieldLoss_injectableInExchange
  have hut : u = t := Host.Outcome.next.inj (hu.symm.trans ht)
  rw [hut] at hne
  exact hne (hbytes _)

end

end Sys2Proof.Proofs
end

section
/-! PROOFS. The result and event ports (R107, R113–R115): what a read of a port takes off, and what the settling of the pins leaves. -/

namespace Sys2Proof.Proofs
open Sys2Proof Sys2Proof.Machine Sys2Proof.Laws

/-! ## What the settling leaves of the queues -/

@[simp] theorem settle_res (s : State) : (settle s).queue.res = s.queue.res := by
  simp only [settle, irqLevel_queue, attnPin_queue, holdPin_queue, attnLatch_queue, holdLatch_queue, modQueue_queue]

@[simp] theorem settle_resPart (s : State) : (settle s).queue.resPart = s.queue.resPart := by
  simp only [settle, irqLevel_queue, attnPin_queue, holdPin_queue, attnLatch_queue, holdLatch_queue, modQueue_queue]

@[simp] theorem settle_evt (s : State) : (settle s).queue.evt = s.queue.evt := by
  simp only [settle, irqLevel_queue, attnPin_queue, holdPin_queue, attnLatch_queue, holdLatch_queue, modQueue_queue]

@[simp] theorem settle_evtPart (s : State) : (settle s).queue.evtPart = s.queue.evtPart := by
  simp only [settle, irqLevel_queue, attnPin_queue, holdPin_queue, attnLatch_queue, holdLatch_queue, modQueue_queue]

/-- The settling changes registers of page QUEUE alone. -/
theorem settle_samePages (s : State) : SamePages [5] s (settle s) := samePages_of_sameRegs (by decide) (settle_sameRegs s)

theorem settle_sameBytes (s : State) : SameBytes s (settle s) := sameBytes_of_mem (settle_mem s)

/-- The settling sets bits 0 and 1 of NOTICE, and clears none of its bits. -/
theorem settle_keeps_notice {s : State} {j : Nat} (hj : j < 32) (h : s.rb Reg.queueNotice j = true) :
    (settle s).rb Reg.queueNotice j = true := by
  have hcross : ∀ (k i hi lo : Nat) (t : State), t.rb Reg.queueNotice j = true →
      (addRf Reg.queueCrossCnt hi lo 1 (irq Page.queue k (setRb Reg.queueNotice i true t))).rb Reg.queueNotice j = true :=
    fun k i hi lo t ht => by
      rw [State.rb, addRf_reg_ne (by decide)]
      exact irq_keeps_set hj (setRb_true_keeps_set i hj ht)
  have hhold : ∀ t : State, t.rb Reg.queueNotice j = true → (holdLatch t).rb Reg.queueNotice j = true := fun t ht => by
    unfold holdLatch
    split
    · exact hcross _ _ _ _ _ ht
    · split <;> exact ht
  have hattn : ∀ t : State, t.rb Reg.queueNotice j = true → (attnLatch t).rb Reg.queueNotice j = true := fun t ht => by
    unfold attnLatch
    split
    · exact hcross _ _ _ _ _ ht
    · split <;> exact ht
  have hlevel : ∀ (k : Nat) (b : Bool) (t : State), (irqLevel Page.queue k b t).reg Reg.queueNotice = t.reg Reg.queueNotice :=
    fun k b t => (irqLevel_onlyRegs Page.queue k b t).1 _ (by decide)
  have hpin : ∀ t : State, (attnPin t).reg Reg.queueNotice = t.reg Reg.queueNotice := fun t => by
    unfold attnPin
    split <;> exact hlevel _ _ _
  rw [settle, State.rb, hlevel, hpin, holdPin_reg]
  exact hattn _ (hhold _ h)

/-! ## A result read -/

@[simp] theorem giveOut_reg (l : List Word) (a : Nat) (s : State) : (giveOut l s).reg a = s.reg a := rfl
@[simp] theorem giveOut_queue (l : List Word) (s : State) : (giveOut l s).queue = s.queue := rfl
@[simp] theorem giveOut_mem (l : List Word) (s : State) : (giveOut l s).mem = s.mem := rfl
@[simp] theorem giveOut_dataOut (l : List Word) (s : State) : (giveOut l s).dataOut = l := rfl

theorem exec_resPortRead {s : State} (h : s.readsNow .host = true) : exec .resPortRead s = .next (giveOut [(popRes s).1] (popRes s).2) := by
  change execResPortRead s = _
  rw [execResPortRead, if_pos h]

theorem exec_evtPortRead {s : State} (h : s.readsNow .host = true) : exec .evtPortRead s = .next (giveOut [(popEvt s).1] (popEvt s).2) := by
  change execEvtPortRead s = _
  rw [execEvtPortRead, if_pos h]

/-- The rest of a partly read result comes first. -/
theorem popRes_of_part {s : State} {w : Word} {r : List Word} (h : s.queue.resPart = w :: r) :
    popRes s = (w, settle (modQueue (fun q => { q with resPart := r, staleFrom := s.now }) s)) := by
  simp only [popRes, h]

/-- The result as its read gives it: marked PROMOTED where its effective class is above its priority (R113). -/
def readItem (s : State) (i : Item) : Item := { i with flags := if decide (i.prio < s.effClass i) then i.flags ||| 0x40 else i.flags }

/-- The header of the result that is chosen. -/
theorem popRes_of_choose {s : State} {i : Item} (hpart : s.queue.resPart = []) (h : s.choose = some i) :
    popRes s = ((readItem s i).words.headD 0, settle (sif (decide (i.prio < s.effClass i)) notePromoted
      (modQueue (fun q => { q with res := q.res.erase i, resPart := (readItem s i).words.tail, staleFrom := s.now }) s))) := by
  simp only [popRes, hpart, h, readItem]

/-- The mark is in the second word. -/
theorem readItem_head (s : State) (i : Item) : (readItem s i).words.headD 0 = i.words.headD 0 := rfl

theorem readItem_of_not_promoted {s : State} {i : Item} (h : s.effClass i = i.prio) : readItem s i = i := by
  rw [readItem, h]
  simp

/-- An empty result queue gives 0. -/
theorem popRes_of_empty {s : State} (hpart : s.queue.resPart = []) (h : s.queue.res = []) : popRes s = (0, s) := by
  simp only [popRes, hpart, State.choose, h, List.find?_nil]

theorem notePromoted_onlyRegs (s : State) : OnlyRegs [Reg.queueLossCnt, Reg.queueNotice] s (notePromoted s) :=
  onlyRegs_trans (addRf_onlyRegs (by decide) _ _ _ s) (setRb_onlyRegs (by decide) _ _ _)

theorem satAdd_eq_min (m n d : Nat) : satAdd m n d = min m (n + d) := by
  unfold satAdd
  split <;> omega

/-- A count that stands at its largest value stays there. -/
theorem addRf_rf_eq {hi : Nat} (h : hi < 32) (a lo n : Nat) (s : State) :
    (addRf a hi lo n s).rf a hi lo = min (2 ^ (hi + 1 - lo) - 1) (s.rf a hi lo + n) := by
  have hlt : min (2 ^ (hi + 1 - lo) - 1) (s.rf a hi lo + n) < 2 ^ (hi + 1 - lo) :=
    (min_le_left _ _).trans_lt (Nat.sub_lt (by positivity) (by omega))
  rw [addRf, setRf_rf_eq h, satAdd_eq_min, Nat.mod_eq_of_lt hlt]

/-- A promoted read counts. -/
theorem notePromoted_count (s : State) :
    (notePromoted s).rf Reg.queueLossCnt 31 16 = min 0xffff (s.rf Reg.queueLossCnt 31 16 + 1) := by
  rw [notePromoted, State.rf, setRb_reg_ne (by decide), ← State.rf, addRf_rf_eq (by decide)]
  norm_num

/-- A read of the port changes page QUEUE alone: a change of the queues, the count of a promoted read, and the settling. -/
theorem popped_samePages (promoted : Bool) (f : QueueSt → QueueSt) (s : State) :
    SamePages [5] s (settle (sif promoted notePromoted (modQueue f s))) := by
  have hnote : SamePages [5] s (sif promoted notePromoted (modQueue f s)) :=
    samePages_of_sameRegs (l := [Reg.queueLossCnt, Reg.queueNotice]) (by decide) (sif_onlyRegs promoted (notePromoted_onlyRegs (modQueue f s))).1
  exact fun a ha => (settle_samePages _ a ha).trans (hnote a ha)

theorem popped_sameBytes (promoted : Bool) (f : QueueSt → QueueSt) (s : State) :
    SameBytes s (settle (sif promoted notePromoted (modQueue f s))) :=
  sameBytes_of_mem (by rw [settle_mem, mem_of_onlyRegs (sif_onlyRegs promoted (notePromoted_onlyRegs (modQueue f s))), modQueue_mem])

/-- Bit 6 of a result's second word is the mark PROMOTED. -/
theorem promoted_marked (i : Item) : bit (({ i with flags := i.flags ||| 0x40 } : Item).words.getD 1 0) 6 = true := by
  have hflags : (i.handle % 65536 * 2 ^ 16 + i.err % 256 * 2 ^ 8 + (i.flags ||| 0x40) % 256) =
      256 * (i.handle % 65536 * 2 ^ 8 + i.err % 256) + (i.flags ||| 0x40) % 256 := by omega
  have hword : ({ i with flags := i.flags ||| 0x40 } : Item).words.getD 1 0 =
      wd (i.handle % 65536 * 2 ^ 16 + i.err % 256 * 2 ^ 8 + (i.flags ||| 0x40) % 256) := rfl
  rw [hword, hflags, bit_eq_testBit, wd, BitVec.toNat_ofNat, Nat.testBit_mod_two_pow,
    show (256 : Nat) = 2 ^ 8 by rfl, Nat.testBit_two_pow_mul_add _ (Nat.mod_lt _ (by decide)), if_pos (by decide), Nat.testBit_mod_two_pow,
    Nat.testBit_or]
  simp [show Nat.testBit 64 6 = true by decide]

/-! ## An event read -/

theorem popEvt_of_part {s : State} {w : Word} {r : List Word} (h : s.queue.evtPart = w :: r) :
    popEvt s = (w, settle (modQueue (fun q => { q with evtPart := r }) s)) := by
  simp only [popEvt, h]

theorem popEvt_of_whole {s : State} {i : Item} {r : List Item} (hpart : s.queue.evtPart = []) (h : s.queue.evt = i :: r) :
    popEvt s = (i.words.headD 0, settle (modQueue (fun q => { q with evt := r, evtPart := i.words.tail }) s)) := by
  simp only [popEvt, hpart, h]

theorem popEvt_of_empty {s : State} (hpart : s.queue.evtPart = []) (h : s.queue.evt = []) : popEvt s = (0, s) := by
  simp only [popEvt, hpart, h]

/-! ## Settled -/

/-- Settles O7: a case for each thing that a port may hold. -/
theorem queuePortReads : Obligations.QueuePortReads := by
  unfold Obligations.QueuePortReads
  refine ⟨fun s w r hnow hpart => ?_, fun s i hnow hpart hi hcls => ?_, fun s i l hnow hpart hi hcls hl => ?_, fun s hnow hpart hres => ?_,
    fun s w r hnow hpart => ?_, fun s i r hnow hpart hevt => ?_, fun s hnow hpart hevt => ?_⟩
  · rw [exec_resPortRead hnow, popRes_of_part hpart]
    exact ⟨_, rfl, rfl, by simp, by simp, popped_samePages false _ s, popped_sameBytes false _ s⟩
  · rw [exec_resPortRead hnow, popRes_of_choose hpart hi, readItem_of_not_promoted hcls, decide_eq_false (by omega)]
    exact ⟨_, rfl, rfl, by simp [sif], by simp [sif], popped_samePages false _ s, popped_sameBytes false _ s⟩
  · have hitem : readItem s i = { i with flags := i.flags ||| 0x40 } := by rw [readItem, decide_eq_true hcls, if_pos rfl]
    have hqueue : ∀ t : State, (notePromoted t).queue = t.queue := fun t => queue_of_onlyRegs (notePromoted_onlyRegs t)
    rw [exec_resPortRead hnow, popRes_of_choose hpart hi, readItem_head, hitem, ← hl, decide_eq_true hcls]
    refine ⟨_, rfl, rfl, by simp [sif, hqueue], hl ▸ promoted_marked i, ?_, ?_, by simp [sif, hqueue],
      popped_samePages true _ s, popped_sameBytes true _ s⟩
    · exact (rf_of_sameRegs (settle_sameRegs _) (by decide) 31 16).trans (notePromoted_count _)
    · exact settle_keeps_notice (by decide) (setRb_rb_eq (by decide) _ _ _)
  · rw [exec_resPortRead hnow, popRes_of_empty hpart hres]
    rfl
  · rw [exec_evtPortRead hnow, popEvt_of_part hpart]
    exact ⟨_, rfl, rfl, by simp, by simp, popped_samePages false _ s, popped_sameBytes false _ s⟩
  · rw [exec_evtPortRead hnow, popEvt_of_whole hpart hevt]
    exact ⟨_, rfl, rfl, by simp, by simp, popped_samePages false _ s, popped_sameBytes false _ s⟩
  · rw [exec_evtPortRead hnow, popEvt_of_empty hpart hevt]
    rfl

end Sys2Proof.Proofs
end

section
/-! PROOFS. What the passing of time leaves: the governor's boundaries (R234) and the reset edges of the chains (R219) change registers of
the coils' pages, of FWGT and of DBG, the coils, the engines, the governor and the time, and nothing else of the state. -/

namespace Sys2Proof.Proofs
open Sys2Proof Sys2Proof.Machine Sys2Proof.Laws

/-- The pages whose registers may change as time passes: those of the coils, FWGT and DBG. -/
def timePages : List Nat := (List.range 12).map Page.coil ++ [Page.fwgt, Page.dbg]

/-- Nothing has changed but what changes as time passes. -/
def TimeOnly (s t : State) : Prop :=
  SamePages timePages s t ∧
    { t with regs := s.regs, coils := s.coils, engs := s.engs, gov := s.gov, time := s.time, free := s.free } = s

theorem timeOnly_refl (s : State) : TimeOnly s s := ⟨fun _ _ => rfl, rfl⟩

theorem timeOnly_trans {s t u : State} (h : TimeOnly s t) (h' : TimeOnly t u) : TimeOnly s u := by
  obtain ⟨hr, hst⟩ := h
  obtain ⟨hr', htu⟩ := h'
  refine ⟨fun a ha => (hr' a ha).trans (hr a ha), ?_⟩
  calc { u with regs := s.regs, coils := s.coils, engs := s.engs, gov := s.gov, time := s.time, free := s.free }
      = { ({ u with regs := t.regs, coils := t.coils, engs := t.engs, gov := t.gov, time := t.time, free := t.free } : State) with
          regs := s.regs, coils := s.coils, engs := s.engs, gov := s.gov, time := s.time, free := s.free } := rfl
    _ = s := by rw [htu, hst]

theorem timeOnly_ite {c : Prop} [Decidable c] {s t u : State} (ht : TimeOnly s t) (hu : TimeOnly s u) :
    TimeOnly s (if c then t else u) := by
  split
  · exact ht
  · exact hu

theorem timeOnly_sif {f : State → State} (c : Bool) {s : State} (h : TimeOnly s (f s)) : TimeOnly s (sif c f s) :=
  timeOnly_ite h (timeOnly_refl s)

theorem timeOnly_forEach {l : List Nat} {f : Nat → State → State} (h : ∀ k ∈ l, ∀ t, TimeOnly t (f k t)) (s : State) :
    TimeOnly s (forEach l f s) := by
  induction l generalizing s with
  | nil => exact timeOnly_refl s
  | cons k l ih =>
    exact timeOnly_trans (h k List.mem_cons_self s) (ih (fun j hj => h j (List.mem_cons_of_mem k hj)) (f k s))

/-- Registers of those pages change. -/
theorem timeOnly_of_onlyRegs {l : List Nat} {s t : State} (hl : ∀ a ∈ l, a / 0x1000 ∈ timePages) (h : OnlyRegs l s t) : TimeOnly s t := by
  obtain ⟨hr, -, hst⟩ := h
  refine ⟨samePages_of_sameRegs hl hr, ?_⟩
  calc { t with regs := s.regs, coils := s.coils, engs := s.engs, gov := s.gov, time := s.time, free := s.free }
      = { ({ t with regs := s.regs } : State) with
          coils := s.coils, engs := s.engs, gov := s.gov, time := s.time, free := s.free } := rfl
    _ = s := by rw [hst]

theorem timeOnly_setReg {a : Nat} (ha : a / 0x1000 ∈ timePages) (w : Word) (s : State) : TimeOnly s (setReg a w s) :=
  timeOnly_of_onlyRegs (l := [a]) (by simpa using ha) (setReg_onlyRegs (by simp) w s)

theorem irqRaw_page (p : Nat) : Reg.irqRaw p / 0x1000 = p := by simp only [Reg.irqRaw]; omega
theorem irqStat_page (p : Nat) : Reg.irqStat p / 0x1000 = p := by simp only [Reg.irqStat]; omega
theorem errCode_page (p : Nat) : Reg.errCode p / 0x1000 = p := by simp only [Reg.errCode]; omega
theorem errInfo_page (p : Nat) : Reg.errInfo p / 0x1000 = p := by simp only [Reg.errInfo]; omega

theorem timeOnly_irq {p : Nat} (hp : p ∈ timePages) (k : Nat) (s : State) : TimeOnly s (irq p k s) :=
  timeOnly_of_onlyRegs (by simpa only [List.forall_mem_cons, irqRaw_page, irqStat_page] using ⟨hp, hp, by simp⟩) (irq_onlyRegs p k s)

theorem timeOnly_irqLevel {p : Nat} (hp : p ∈ timePages) (k : Nat) (b : Bool) (s : State) : TimeOnly s (irqLevel p k b s) :=
  timeOnly_of_onlyRegs (by simpa only [List.forall_mem_cons, irqRaw_page, irqStat_page] using ⟨hp, hp, by simp⟩) (irqLevel_onlyRegs p k b s)

theorem timeOnly_modCoil (n : Nat) (f : Coil → Coil) (s : State) : TimeOnly s (modCoil n f s) := ⟨fun _ _ => rfl, rfl⟩
theorem timeOnly_modEng (n : Nat) (f : Eng → Eng) (s : State) : TimeOnly s (modEng n f s) := ⟨fun _ _ => rfl, rfl⟩
theorem timeOnly_modTime (f : TimeSt → TimeSt) (s : State) : TimeOnly s (modTime f s) := ⟨fun _ _ => rfl, rfl⟩
theorem timeOnly_advance (t : Nat) (s : State) : TimeOnly s (advance t s) := ⟨fun _ _ => rfl, rfl⟩
theorem timeOnly_gov (g : GovSt) (s : State) : TimeOnly s { s with gov := g } := ⟨fun _ _ => rfl, rfl⟩

theorem timeOnly_detailUsed (d : Nat) (s : State) : TimeOnly s (detailUsed d s) :=
  timeOnly_ite ⟨fun _ _ => rfl, rfl⟩ (timeOnly_refl s)

theorem timeOnly_errNoted {p : Nat} (hp : p ∈ timePages) (code info extra : Nat) (s : State) : TimeOnly s (errNoted p code info extra s) := by
  have hcode : Reg.errCode p / 0x1000 ∈ timePages := (errCode_page p).symm ▸ hp
  have hinfo : Reg.errInfo p / 0x1000 ∈ timePages := (errInfo_page p).symm ▸ hp
  unfold errNoted noteFirst
  refine timeOnly_ite ?_ (timeOnly_setReg hcode _ s)
  refine timeOnly_trans ?_ (timeOnly_detailUsed extra _)
  exact timeOnly_trans (timeOnly_trans (timeOnly_detailUsed info s) (timeOnly_setReg hcode _ _)) (timeOnly_setReg hinfo _ _)

theorem timeOnly_recErr {p : Nat} (hp : p ∈ timePages) (code info extra : Nat) (s : State) : TimeOnly s (recErr p code info extra s) := by
  rw [recErr_eq]
  exact timeOnly_trans (timeOnly_trans (timeOnly_errNoted hp code info extra s) (timeOnly_irq hp 31 _))
    (timeOnly_of_onlyRegs (by decide) (faultOpt_onlyRegs _ _ _ _))

/-! ## The governor -/

theorem timeOnly_limitEnd (s : State) : TimeOnly s (limitEnd s) :=
  timeOnly_sif _ (timeOnly_trans (timeOnly_irqLevel (by decide) 3 false s) (timeOnly_setReg (by decide) _ _))

theorem timeOnly_govSet (g : Nat) (s : State) : TimeOnly s (govSet g s) :=
  timeOnly_ite (timeOnly_gov _ s) (timeOnly_ite (timeOnly_refl s) (timeOnly_gov _ s))

theorem timeOnly_govShow (g : Nat) (s : State) : TimeOnly s (govShow g s) :=
  timeOnly_trans (timeOnly_trans (timeOnly_setReg (by decide) _ s) (timeOnly_setReg (by decide) _ _)) (timeOnly_irqLevel (by decide) 3 _ _)

theorem timeOnly_govReport (old g : Nat) (newly : List Nat) (s : State) : TimeOnly s (govReport old g newly s) := by
  have hcount : ∀ hi lo n t, TimeOnly t (addRf Reg.fwgtGovCnt hi lo n t) := fun hi lo n t => timeOnly_setReg (by decide) _ t
  exact timeOnly_ite (timeOnly_trans (timeOnly_trans (timeOnly_trans (hcount 31 16 newly.length s) (timeOnly_sif _ (hcount 15 0 1 _)))
    (timeOnly_irq (by decide) 2 _)) (timeOnly_recErr (by decide) _ _ _ _)) (timeOnly_refl s)

theorem timeOnly_floorMark (g : Nat) (s : State) : TimeOnly s (floorMark g s) :=
  timeOnly_ite (timeOnly_forEach (fun n _ t => timeOnly_ite (timeOnly_modEng n _ t) (timeOnly_refl t)) s) (timeOnly_refl s)

theorem timeOnly_headFollow {c : Nat} (hc : c < 12) (s : State) : TimeOnly s (headFollow c s) := by
  have hpage : Page.coil c ∈ timePages := List.mem_append_left _ (List.mem_map_of_mem (List.mem_range.mpr hc))
  have hreg : Reg.coilDriveStatus c / 0x1000 = Page.coil c := by simp only [Reg.coilDriveStatus, Page.coil]; omega
  exact timeOnly_trans (timeOnly_setReg (hreg ▸ hpage) _ s) (timeOnly_irqLevel hpage 6 _ _)

theorem timeOnly_govern (s : State) : TimeOnly s (govern s) := by
  unfold govern
  refine timeOnly_ite (timeOnly_refl s) ?_
  refine timeOnly_trans ?_ (timeOnly_forEach (fun c hc t => timeOnly_headFollow (List.mem_range.mp (List.mem_of_mem_filter hc)) t) _)
  refine timeOnly_trans (timeOnly_trans (timeOnly_trans ?_ (timeOnly_govShow _ _)) (timeOnly_govReport _ _ _ _)) (timeOnly_floorMark _ _)
  refine timeOnly_trans ?_ (timeOnly_gov _ (govSet _ _))
  exact timeOnly_trans (timeOnly_trans (timeOnly_limitEnd s) (timeOnly_forEach (fun c _ t => timeOnly_modCoil c _ t) _)) (timeOnly_govSet _ _)

theorem timeOnly_governAt (b : Nat) (s : State) : TimeOnly s (governAt b s) :=
  timeOnly_trans (timeOnly_trans (timeOnly_modTime _ s) (timeOnly_govern _)) (timeOnly_modTime _ _)

theorem timeOnly_passGov (t : Nat) (s : State) : TimeOnly s (passGov t s) := by
  have hfold : ∀ (l : List Nat) (u : State), TimeOnly u (l.foldl (fun u b => governAt b u) u) := fun l => by
    induction l with
    | nil => exact timeOnly_refl
    | cons b l ih => exact fun u => timeOnly_trans (timeOnly_governAt b u) (ih _)
  exact timeOnly_trans (timeOnly_ite (timeOnly_refl s) (hfold _ s)) (timeOnly_advance t _)

/-! ## The reset edges -/

theorem coilReg_page {c off : Nat} (hc : c < 12) (hoff : off < 0x1000) : (0x10000 + off + 0x1000 * c) / 0x1000 ∈ timePages := by
  have hpage : (0x10000 + off + 0x1000 * c) / 0x1000 = Page.coil c := by simp only [Page.coil]; omega
  exact hpage ▸ List.mem_append_left _ (List.mem_map_of_mem (List.mem_range.mpr hc))

theorem timeOnly_chainReset {c : Nat} (hc : c < 12) (e : Nat) (s : State) : TimeOnly s (chainReset c e s) :=
  timeOnly_trans (timeOnly_trans (timeOnly_modCoil c _ s) (timeOnly_setReg (coilReg_page (off := 0x7c) hc (by decide)) _ _))
    (timeOnly_setReg (coilReg_page (off := 0xd8) hc (by decide)) _ _)

theorem timeOnly_chainStart {c : Nat} (hc : c < 12) (e : Nat) (s : State) : TimeOnly s (chainStart c e s) := by
  have hstatus : ∀ w t, TimeOnly t (setReg (Reg.coilChainStatus c) w t) := fun w t => timeOnly_setReg (coilReg_page (off := 0x70) hc (by decide)) w t
  exact timeOnly_trans (timeOnly_trans (timeOnly_trans (timeOnly_modCoil c _ s) (hstatus _ _)) (hstatus _ _)) (timeOnly_chainReset hc e _)

theorem timeOnly_chainEdge {c : Nat} (hc : c < 12) (t : Nat) (s : State) : TimeOnly s (chainEdge c t s) := by
  have hstatus : ∀ w u, TimeOnly u (setReg (Reg.coilChainStatus c) w u) := fun w u => timeOnly_setReg (coilReg_page (off := 0x70) hc (by decide)) w u
  unfold chainEdge
  split
  · exact timeOnly_refl s
  · exact timeOnly_ite (timeOnly_refl s) (timeOnly_ite (timeOnly_chainStart hc _ s)
      (timeOnly_trans (timeOnly_trans (timeOnly_modCoil c _ s) (hstatus _ _)) (timeOnly_chainReset hc _ _)))

theorem timeOnly_chainsNow (s : State) : TimeOnly s (chainsNow s) :=
  timeOnly_forEach (fun _ hc => timeOnly_chainEdge (List.mem_range.mp hc) _) s

theorem timeOnly_passTo (t : Nat) (s : State) : TimeOnly s (passTo t s) :=
  timeOnly_trans (timeOnly_passGov t s) (timeOnly_chainsNow _)

/-! ## Consequences -/

/-- A part of the state that time does not change. -/
theorem field_of_timeOnly {α : Type} {s t : State} (f : State → α) (h : TimeOnly s t)
    (hf : ∀ (u : State) r c e g m n, f { u with regs := r, coils := c, engs := e, gov := g, time := m, free := n } = f u) : f t = f s := by
  obtain ⟨-, hst⟩ := h
  rw [← hf t s.regs s.coils s.engs s.gov s.time s.free, hst]

@[simp] theorem passTo_mem (t : Nat) (s : State) : (passTo t s).mem = s.mem := field_of_timeOnly State.mem (timeOnly_passTo t s) fun _ _ _ _ _ _ _ => rfl
@[simp] theorem passTo_queue (t : Nat) (s : State) : (passTo t s).queue = s.queue :=
  field_of_timeOnly State.queue (timeOnly_passTo t s) fun _ _ _ _ _ _ _ => rfl
@[simp] theorem passTo_boot (t : Nat) (s : State) : (passTo t s).boot = s.boot := field_of_timeOnly State.boot (timeOnly_passTo t s) fun _ _ _ _ _ _ _ => rfl
@[simp] theorem passTo_sess (t : Nat) (s : State) : (passTo t s).sess = s.sess := field_of_timeOnly State.sess (timeOnly_passTo t s) fun _ _ _ _ _ _ _ => rfl
@[simp] theorem passTo_fab (t : Nat) (s : State) : (passTo t s).fab = s.fab := field_of_timeOnly State.fab (timeOnly_passTo t s) fun _ _ _ _ _ _ _ => rfl
@[simp] theorem passTo_players (t : Nat) (s : State) : (passTo t s).players = s.players :=
  field_of_timeOnly State.players (timeOnly_passTo t s) fun _ _ _ _ _ _ _ => rfl

theorem passTo_samePages (t : Nat) (s : State) : SamePages timePages s (passTo t s) := (timeOnly_passTo t s).1

theorem status_page (p : Nat) : Reg.status p / 0x1000 = p := by simp only [Reg.status]; omega
theorem ctrl_page (p : Nat) : Reg.ctrl p / 0x1000 = p := by simp only [Reg.ctrl]; omega

/-- A page that is left is quiesced as before. -/
theorem quiesced_of_samePages {l : List Nat} {p : Nat} {s t : State} (h : SamePages l s t) (hp : p ∉ l) : t.quiesced p = s.quiesced p := by
  rw [State.quiesced, State.rb, State.rb, h (Reg.status p) (by rwa [status_page]), h (Reg.ctrl p) (by rwa [ctrl_page])]
  rfl

end Sys2Proof.Proofs
end

section
/-! PROOFS. The queues' own registers (R115–R126): the counters, a flush with the result that reports it, a held result that goes out,
and the stale condition. -/

namespace Sys2Proof.Proofs
open Sys2Proof Sys2Proof.Machine Sys2Proof.Laws

/-! ## Changes of the pages listed -/

/-- Registers outside the pages listed and every byte of memory read as before. -/
def Within (l : List Nat) (s t : State) : Prop := SamePages l s t ∧ SameBytes s t

theorem within_refl (l : List Nat) (s : State) : Within l s s := ⟨fun _ _ => rfl, fun _ => rfl⟩

theorem within_trans {l : List Nat} {s t u : State} (h : Within l s t) (h' : Within l t u) : Within l s u :=
  ⟨fun a ha => (h'.1 a ha).trans (h.1 a ha), fun a => (h'.2 a).trans (h.2 a)⟩

theorem within_ite {l : List Nat} {c : Prop} [Decidable c] {s t u : State} (ht : c → Within l s t) (hu : ¬ c → Within l s u) :
    Within l s (if c then t else u) := by
  split
  · exact ht ‹_›
  · exact hu ‹_›

theorem within_sif {l : List Nat} {f : State → State} (c : Bool) {s : State} (h : Within l s (f s)) : Within l s (sif c f s) :=
  within_ite (fun _ => h) (fun _ => within_refl l s)

/-- A change that leaves the registers and memory. -/
theorem within_of_eq (l : List Nat) {s t : State} (hr : t.regs = s.regs) (hm : t.mem = s.mem) : Within l s t :=
  ⟨fun a _ => by rw [State.reg, State.reg, hr], sameBytes_of_mem hm⟩

theorem within_of_onlyRegs {l m : List Nat} {s t : State} (hl : ∀ a ∈ l, a / 0x1000 ∈ m) (h : OnlyRegs l s t) : Within m s t :=
  ⟨samePages_of_sameRegs hl h.1, h.2.1⟩

theorem within_setReg {l : List Nat} {a : Nat} (ha : a / 0x1000 ∈ l) (w : Word) (s : State) : Within l s (setReg a w s) :=
  within_of_onlyRegs (l := [a]) (by simpa using ha) (setReg_onlyRegs (by simp) w s)

theorem within_irq {l : List Nat} {p : Nat} (hp : p ∈ l) (k : Nat) (s : State) : Within l s (irq p k s) :=
  within_of_onlyRegs (by simpa only [List.forall_mem_cons, irqRaw_page, irqStat_page] using ⟨hp, hp, by simp⟩) (irq_onlyRegs p k s)

theorem within_irqLevel {l : List Nat} {p : Nat} (hp : p ∈ l) (k : Nat) (b : Bool) (s : State) : Within l s (irqLevel p k b s) :=
  within_of_onlyRegs (by simpa only [List.forall_mem_cons, irqRaw_page, irqStat_page] using ⟨hp, hp, by simp⟩) (irqLevel_onlyRegs p k b s)

theorem within_settle {l : List Nat} (h5 : 5 ∈ l) (s : State) : Within l s (settle s) :=
  ⟨fun a ha => settle_samePages s a (fun h => ha (by simpa [List.mem_singleton.mp h] using h5)), settle_sameBytes s⟩

theorem within_modQueue (l : List Nat) (f : QueueSt → QueueSt) (s : State) : Within l s (modQueue f s) := within_of_eq l rfl rfl

theorem within_publish (l : List Nat) (p t : Nat) (s : State) : Within l s (publish p t s) := within_of_eq l rfl rfl

/-! ## A result without an error -/

/-- A result without an error counts for no session. -/
theorem countResult_of_ok {i : Item} (h : i.err = 0) (src : Nat) (s : State) : countResult i src s = s := by
  unfold countResult
  split
  · rfl
  · rw [if_pos h]

@[simp] theorem freeBlocks_zero (s : State) : freeBlocks 0 s = s := rfl

/-- A result as it stands in the queue from tick `t` on. -/
def stamped (t : Nat) (i : Item) : Item := { i with ts := if i.ts = postTick then t else i.ts, posted := t }

/-- The queues with a result at the end of the result queue. -/
def resultAdded (i : Item) (src t fill : Nat) (q : QueueSt) : QueueSt :=
  { q with res := q.res ++ [stamped t i]
           staleFrom := if fill = 0 then t else q.staleFrom
           lastPost := if spaced src then tabSet 0 q.lastPost src (t + postSpacing) else q.lastPost }

/-- A result without an error or a fault class, for no session, joins the queue. -/
theorem putResult_of_ok {i : Item} (herr : i.err = 0) (hcls : i.cls = none) (src t : Nat) (s : State) :
    putResult i src 0 t s = settle (postedEnds i t (publish 0xe8 t (modQueue (resultAdded i src t s.resFill) s))) := by
  unfold resultAdded stamped
  simp only [putResult, countResult_of_ok herr, freeBlocks_zero, hcls, faultOpt]

theorem postedEnds_of_plain {i : Item} (h30 : i.typ ≠ 0x30) (h31 : i.typ ≠ 0x31) (t : Nat) (s : State) : postedEnds i t s = s := by
  rw [postedEnds, if_neg (fun h => h31 h.1), if_neg (fun h => h30 h.1)]

/-- The FLUSHED item ends the flush. -/
theorem postedEnds_flushed {i : Item} (htyp : i.typ = 0x31) (herr : i.err = 0) (t : Nat) (s : State) :
    postedEnds i t s = publish 0xeb t (irq Page.queue 5 (setRb (Reg.status Page.queue) 1 false (modQueue (fun q => { q with flushing := false }) s))) := by
  rw [postedEnds, if_pos ⟨htyp, herr⟩]

@[simp] theorem irq_queue (p k : Nat) (s : State) : (irq p k s).queue = s.queue := queue_of_onlyRegs (irq_onlyRegs p k s)

@[simp] theorem settle_cmd (s : State) : (settle s).queue.cmd = s.queue.cmd := by
  simp only [settle, irqLevel_queue, attnPin_queue, holdPin_queue, attnLatch_queue, holdLatch_queue, modQueue_queue]

@[simp] theorem settle_cmdPart (s : State) : (settle s).queue.cmdPart = s.queue.cmdPart := by
  simp only [settle, irqLevel_queue, attnPin_queue, holdPin_queue, attnLatch_queue, holdLatch_queue, modQueue_queue]

@[simp] theorem settle_held (s : State) : (settle s).queue.held = s.queue.held := by
  simp only [settle, irqLevel_queue, attnPin_queue, holdPin_queue, attnLatch_queue, holdLatch_queue, modQueue_queue]

@[simp] theorem settle_resSeq (s : State) : (settle s).queue.resSeq = s.queue.resSeq := by
  simp only [settle, irqLevel_queue, attnPin_queue, holdPin_queue, attnLatch_queue, holdLatch_queue, modQueue_queue]

/-- The result at the end of the result queue is the one posted. -/
theorem posted_of_res {u : State} {l : List Item} {i : Item} {t : Nat} (h : u.queue.res = l ++ [stamped t i]) :
    u.posted i.typ i.seq i.handle i.err i.payload = true := by
  simp [State.posted, h, stamped]

/-- The result at the end of those that wait is the one posted. -/
theorem posted_of_held {u : State} {l : List Held} {i : Item} {flags src slot : Nat}
    (h : u.queue.held = l ++ [⟨{ i with flags := flags }, src, slot⟩]) : u.posted i.typ i.seq i.handle i.err i.payload = true := by
  simp [State.posted, h]

theorem publish_reg (p t a : Nat) (s : State) : (publish p t s).reg a = s.reg a := rfl

/-- Every field of the queues that the end of a flush leaves. -/
theorem postedEnds_flushed_queue {i : Item} (htyp : i.typ = 0x31) (herr : i.err = 0) (t : Nat) (s : State) :
    (postedEnds i t s).queue = { s.queue with flushing := false } := by
  rw [postedEnds_flushed htyp herr, publish_queue, irq_queue, setRb, setReg_queue, modQueue_queue]

theorem within_postedEnds_flushed {i : Item} (htyp : i.typ = 0x31) (herr : i.err = 0) (t : Nat) (s : State) :
    Within [5] s (postedEnds i t s) := by
  rw [postedEnds_flushed htyp herr]
  refine within_trans ?_ (within_publish _ _ _ _)
  refine within_trans ?_ (within_irq (by decide) 5 _)
  exact within_setReg (by decide) _ (modQueue _ s)

/-- The queues without what a flush takes out of them. -/
def flushed (w : Word) (q : QueueSt) : QueueSt :=
  { q with
    flushing := bit w 0
    cmd := if bit w 0 then [] else q.cmd, cmdPart := if bit w 0 then [] else q.cmdPart
    swallow := if bit w 0 then q.swallow + (match q.cmdPart with
      | [] => 0
      | h :: t => headLen h - (t.length + 1)) else q.swallow
    res := if bit w 1 then [] else q.res, resPart := if bit w 1 then [] else q.resPart
    evt := if bit w 2 then [] else q.evt, evtPart := if bit w 2 then [] else q.evtPart }

/-- The state in which a flush stands before its FLUSHED item. -/
def flushOpen (w : Word) (s : State) : State := settle (setRb (Reg.status Page.queue) 1 true (modQueue (flushed w) s))

/-- The FLUSHED item of a flush, before it has its count. -/
def flushedItem (w : Word) (s : State) : Item :=
  ⟨0x31, 3, 0, 0, 0, 0, postTick,
    [wd (fld w 2 0), flushWord (bit w 0) s.queue.cmd.length (s.queue.cmdPart ≠ []), flushWord (bit w 1) s.queue.res.length (s.queue.resPart ≠ []),
      flushWord (bit w 2) s.queue.evt.length (s.queue.evtPart ≠ [])], s.now, Page.queue, none⟩

theorem flush_eq (w : Word) (s : State) : flush w s = settle (postUnsolicited (flushedItem w s) 5 0 (flushOpen w s)) := rfl

/-- What the posting of a result leaves of the other queues, and of what is partly read. -/
def KeepsOthers (q r : QueueSt) : Prop :=
  r.cmd = q.cmd ∧ r.cmdPart = q.cmdPart ∧ r.evt = q.evt ∧ r.evtPart = q.evtPart ∧ r.resPart = q.resPart

/-- A FLUSHED item is posted or waits, and the other queues stay. -/
theorem postResult_flushed {i : Item} (htyp : i.typ = 0x31) (herr : i.err = 0) (hcls : i.cls = none) (src : Nat) (s : State) :
    (postResult i src 0 s).posted i.typ i.seq i.handle i.err i.payload = true ∧
      KeepsOthers s.queue (postResult i src 0 s).queue ∧ Within [5] s (postResult i src 0 s) := by
  unfold postResult
  split
  · rw [putResult_of_ok herr hcls]
    have hqueue : (postedEnds i s.now (publish 0xe8 s.now (modQueue (resultAdded i src s.now s.resFill) s))).queue =
        { resultAdded i src s.now s.resFill s.queue with flushing := false } := by
      rw [postedEnds_flushed_queue htyp herr, publish_queue, modQueue_queue]
    refine ⟨posted_of_res (l := s.queue.res) (t := s.now) (by rw [settle_res, hqueue]; rfl),
      ⟨by rw [settle_cmd, hqueue, resultAdded], by rw [settle_cmdPart, hqueue, resultAdded], by rw [settle_evt, hqueue, resultAdded],
        by rw [settle_evtPart, hqueue, resultAdded], by rw [settle_resPart, hqueue, resultAdded]⟩, ?_⟩
    refine within_trans ?_ (within_settle (by decide) _)
    exact within_trans (within_trans (within_modQueue _ _ s) (within_publish _ _ _ _)) (within_postedEnds_flushed htyp herr _ _)
  · exact ⟨posted_of_held (l := s.queue.held) rfl, ⟨rfl, rfl, rfl, rfl, rfl⟩, within_of_eq _ rfl rfl⟩

theorem flushOpen_queue_others (w : Word) (s : State) : KeepsOthers (flushed w s.queue) (flushOpen w s).queue :=
  ⟨settle_cmd _, settle_cmdPart _, settle_evt _, settle_evtPart _, settle_resPart _⟩

theorem flushOpen_resSeq (w : Word) (s : State) : (flushOpen w s).queue.resSeq = s.queue.resSeq := settle_resSeq _

theorem within_flushOpen (w : Word) (s : State) : Within [5] s (flushOpen w s) :=
  within_trans (within_setReg (by decide) _ (modQueue _ s)) (within_settle (by decide) _)

theorem keepsOthers_trans {q r u : QueueSt} (h : KeepsOthers q r) (h' : KeepsOthers r u) : KeepsOthers q u := by
  obtain ⟨h1, h2, h3, h4, h5⟩ := h
  obtain ⟨g1, g2, g3, g4, g5⟩ := h'
  exact ⟨g1.trans h1, g2.trans h2, g3.trans h3, g4.trans h4, g5.trans h5⟩

theorem posted_settle {t : State} {typ seq handle err : Nat} {payload : List Word} (h : t.posted typ seq handle err payload = true) :
    (settle t).posted typ seq handle err payload = true := by
  rwa [State.posted, settle_res, settle_held]

/-- A flush posts its FLUSHED item with the next count of the result queue, or has it wait, and takes out what it names. -/
theorem flush_effect (w : Word) (s : State) :
    (flush w s).posted 0x31 s.queue.resSeq 0 0 (flushedItem w s).payload = true ∧
      KeepsOthers (flushed w s.queue) (flush w s).queue ∧ Within [5] s (flush w s) := by
  obtain ⟨hposted, hkeep, hin⟩ := postResult_flushed (i := { flushedItem w s with seq := (flushOpen w s).queue.resSeq }) rfl rfl rfl 5
    (modQueue (fun q => { q with resSeq := (q.resSeq + 1) % 4096 }) (flushOpen w s))
  rw [flush_eq, postUnsolicited]
  refine ⟨?_, ?_, ?_⟩
  · rw [← flushOpen_resSeq w s]
    exact posted_settle hposted
  · refine keepsOthers_trans (flushOpen_queue_others w s) (keepsOthers_trans hkeep ?_)
    exact ⟨settle_cmd _, settle_cmdPart _, settle_evt _, settle_evtPart _, settle_resPart _⟩
  · refine within_trans (within_flushOpen w s) (within_trans ?_ (within_settle (by decide) _))
    exact within_trans (within_modQueue _ _ _) hin

theorem exec_queueFlush {ag : Agent} {s : State} (h : s.takes ag Reg.queueFlush) (hfree : s.queueBusy = false) (w : Word) :
    exec (.queueFlush ag w) s = .next (flush w s) := by
  change execQueueFlush ag w s = _
  rw [execQueueFlush, queueFlush, guarded_of_takes h, hfree, if_neg Bool.false_ne_true]

/-! ## The counters -/

theorem exec_queueCntClr {ag : Agent} {s : State} (h : s.takes ag Reg.queueCntClr) (w : Word) :
    exec (.queueCntClr ag w) s = .next (sif (bit w 1) (setReg Reg.queueLossCnt 0) (sif (bit w 0) (setReg Reg.queueCrossCnt 0) s)) := by
  change execQueueCntClr ag w s = _
  rw [execQueueCntClr, queueCntClr, guarded_of_takes h]

theorem exec_hifCntClr {ag : Agent} {s : State} {w : Word} (h : s.takes ag Reg.hifCfg) (hclr : bit w 8 = true) :
    exec (.hifCntClr ag w) s = .next (setReg Reg.hifCount 0 (setRf Reg.hifCfg 3 0 (fld w 3 0) s)) := by
  change execHifCntClr ag w s = _
  rw [execHifCntClr, hifCfgWrite, guarded_of_takes h, hclr]
  rfl

/-! ## A held result, and the stale condition -/

/-- The first of the results that wait may go out when there is room for it and its producer is none of those spaced (R23, R123). -/
theorem firstPostable_first {s : State} {t : Nat} {x : Held} (r : List Held) (hquiet : s.quiesced Page.queue = false)
    (hroom : s.resFill + x.item.len ≤ 4096) (hsrc : x.src = 5) : s.firstPostable t [] (x :: r) = some x := by
  have hpost : s.canPost t [] x.src x.item.handle x.item.len = true := by
    simp [State.canPost, hquiet, hroom, hsrc, spaced]
  rw [State.firstPostable, if_pos hpost]

/-- What the posting of a result without an error, which ends nothing, does. -/
theorem putResult_plain {i : Item} (herr : i.err = 0) (hcls : i.cls = none) (h30 : i.typ ≠ 0x30) (h31 : i.typ ≠ 0x31) (src t : Nat)
    (s : State) : (putResult i src 0 t s).queue.held = s.queue.held ∧
      (putResult i src 0 t s).posted i.typ i.seq i.handle i.err i.payload = true ∧ Within [5] s (putResult i src 0 t s) := by
  rw [putResult_of_ok herr hcls, postedEnds_of_plain h30 h31]
  have hqueue : (publish 0xe8 t (modQueue (resultAdded i src t s.resFill) s)).queue = resultAdded i src t s.resFill s.queue := rfl
  refine ⟨by rw [settle_held, hqueue, resultAdded], posted_of_res (l := s.queue.res) (t := t) (by rw [settle_res, hqueue, resultAdded]), ?_⟩
  exact within_trans (within_trans (within_modQueue _ _ s) (within_publish _ _ _ _)) (within_settle (by decide) _)

/-- The first result that waits goes out. -/
theorem exec_resultHeldPost_first {s : State} {x : Held} {r : List Held} (hheld : s.queue.held = x :: r)
    (hquiet : s.quiesced Page.queue = false) (hroom : s.resFill + x.item.len ≤ 4096) (hsrc : x.src = 5) :
    exec (.resultHeldPost s.now) s =
      .next (putResult x.item 5 x.slot (passTo s.now s).now (modQueue (fun q => { q with held := r }) (passTo s.now s))) := by
  have hquiet' : (passTo s.now s).quiesced Page.queue = false := by
    rw [quiesced_of_samePages (passTo_samePages s.now s) (by decide), hquiet]
  have hfill : (passTo s.now s).resFill = s.resFill := by rw [State.resFill, passTo_queue, State.resFill]
  have hfirst := firstPostable_first (t := (passTo s.now s).now) r hquiet' (by rwa [hfill]) hsrc
  change execResultHeldPost s.now s = _
  simp only [execResultHeldPost, passTo_queue, hheld, hfirst, hsrc]
  have herase : ∀ q : QueueSt, q.held = x :: r → q.held.erase x = r := fun q hq => by rw [hq, List.erase_cons_head]
  rw [modQueue, modQueue, herase _ (by rw [passTo_queue, hheld])]

/-- The stale condition begins in `s` (R119). -/
def staleBegun (s : State) : State := settle (setRb Reg.queueNotice 2 true (modQueue (fun q => { q with stale := true }) s))

theorem exec_staleTimeout {s : State} (hfill : 0 < s.resFill) (hstale : s.queue.stale = false) (hgate : s.gated = false) :
    exec .staleTimeout s = .next (staleBegun (passTo s.staleDue s)) := by
  change execStaleTimeout s = _
  rw [execStaleTimeout, if_pos ⟨hfill, hstale, hgate⟩]
  rfl

/-- With results in the queue the condition stands. -/
theorem staleBegun_stale {s : State} (h : 0 < s.resFill) : (staleBegun s).queue.stale = true := by
  rw [staleBegun, settle_stale]
  exact decide_eq_true h

theorem staleBegun_notice (s : State) : (staleBegun s).rb Reg.queueNotice 2 = true :=
  settle_keeps_notice (by decide) (setRb_rb_eq (by decide) _ _ _)

theorem within_staleBegun (s : State) : Within [5] s (staleBegun s) :=
  within_trans (within_modQueue _ _ s) (within_trans (within_setReg (by decide) _ _) (within_settle (by decide) _))

/-! ## Settled -/

/-- Settles O11: each register command and each passage of time of the queues. -/
theorem queueCommandsComplete : Obligations.QueueCommandsComplete := by
  unfold Obligations.QueueCommandsComplete
  refine ⟨fun s ag w h => ?_, fun s ag w h hclr => ?_, fun s ag w h hfree => ?_,
    fun s x r hheld hquiet hroom hsrc hslot herr hcls h30 h31 _ => ?_, fun s hfill hstale hgate => ?_⟩
  · have hcross : Reg.queueCrossCnt ≠ Reg.queueLossCnt := by decide
    refine ⟨_, exec_queueCntClr h w, fun h0 => ?_, fun h1 => ?_, fun h0 => ?_, fun h1 => ?_,
      onlyRegs_trans (sif_onlyRegs _ (setReg_onlyRegs (by decide) _ s)) (sif_onlyRegs _ (setReg_onlyRegs (by decide) _ _))⟩
    · cases bit w 1 <;> simp [sif, h0, setReg_reg_ne hcross]
    · simp [sif, h1]
    · cases bit w 1 <;> simp [sif, h0, setReg_reg_ne hcross]
    · cases bit w 0 <;> simp [sif, h1, setReg_reg_ne hcross.symm]
  · have hcfg : Reg.hifCfg ≠ Reg.hifCount := by decide
    refine ⟨_, exec_hifCntClr h hclr, setReg_reg_eq _ _ _, ?_,
      onlyRegs_trans (setReg_onlyRegs (by decide) _ s) (setReg_onlyRegs (by decide) _ _)⟩
    rw [State.rf, setReg_reg_ne hcfg, ← State.rf, setRf_rf_eq (by decide), Nat.mod_eq_of_lt (fld_lt w 3 0)]
  · obtain ⟨hposted, ⟨hcmd, hcmdPart, hevt, hevtPart, hresPart⟩, hpages, hbytes⟩ := flush_effect w s
    refine ⟨_, exec_queueFlush h hfree w, fun h0 => ?_, fun h2 => ?_, fun h1 => ?_, fun h0 => ?_, fun h2 => ?_, hposted, hpages, hbytes⟩
    · exact ⟨by simp [hcmd, flushed, h0], by simp [hcmdPart, flushed, h0]⟩
    · exact ⟨by simp [hevt, flushed, h2], by simp [hevtPart, flushed, h2]⟩
    · simp [hresPart, flushed, h1]
    · simp [hcmd, flushed, h0]
    · simp [hevt, flushed, h2]
  · obtain ⟨hheld', hposted, hin⟩ :=
      putResult_plain herr hcls h30 h31 5 (passTo s.now s).now (modQueue (fun q => { q with held := r }) (passTo s.now s))
    obtain ⟨hpages, hbytes⟩ := within_trans (within_modQueue [5] _ _) hin
    rw [herr] at hposted
    rw [exec_resultHeldPost_first hheld hquiet hroom hsrc, hslot]
    exact ⟨_, rfl, hheld', hposted, hpages, fun a => (hbytes a).trans (sameBytes_of_mem (passTo_mem s.now s) a)⟩
  · have hfill' : (passTo s.staleDue s).resFill = s.resFill := by rw [State.resFill, passTo_queue, State.resFill]
    obtain ⟨hpages, hbytes⟩ := within_staleBegun (passTo s.staleDue s)
    have hbegun := staleBegun_stale (s := passTo s.staleDue s) (by rwa [hfill'])
    exact ⟨_, exec_staleTimeout hfill hstale hgate, hbegun, staleBegun_notice _, by rw [State.attnNow, hbegun, Bool.or_true], hpages,
      fun a => (hbytes a).trans (sameBytes_of_mem (passTo_mem s.staleDue s) a)⟩

end Sys2Proof.Proofs
end

section
/-! PROOFS. Reads over the host port (R99–R107, R127) and the pairs that a read latches (R150, R158, R171). -/

namespace Sys2Proof.Proofs
open Sys2Proof Sys2Proof.Machine Sys2Proof.Laws

@[simp] theorem tabGet_tabSet_self {V : Type} [DecidableEq V] (d : V) (t : Tab V) (k : Nat) (v : V) : tabGet d (tabSet d t k v) k = v := by
  rw [tabGet, tabSet, sparse_get_put_eq]

/-! ## STATUS (R127) -/

/-- A byte of seven flags has each flag at its bit. -/
theorem flags_bits (b6 b5 b4 b3 b2 b1 b0 : Bool) :
    let w := wd (b6.toNat * 64 + b5.toNat * 32 + b4.toNat * 16 + b3.toNat * 8 + b2.toNat * 4 + b1.toNat * 2 + b0.toNat)
    bit w 0 = b0 ∧ bit w 1 = b1 ∧ bit w 2 = b2 ∧ bit w 3 = b3 ∧ bit w 4 = b4 ∧ bit w 5 = b5 ∧ bit w 6 = b6 ∧ w.toNat < 128 := by
  revert b6 b5 b4 b3 b2 b1 b0
  decide

theorem portTakes_of_hostUp {s : State} (h : s.hostUp = true) : s.portTakes = true := (Bool.and_eq_true_iff.mp h).1

theorem exec_qspiStatus {s : State} (h : s.hostUp = true) : exec .qspiStatus s = .next (giveOut [wd s.statusByte] (busEnd s)) := by
  change execQspiStatus s = _
  rw [execQspiStatus, portTakes_of_hostUp h, h]
  rfl

/-! ## Bursts (R99–R105) -/

theorem portTakes_of_readsNow {s : State} (h : s.readsNow .host = true) : s.portTakes = true :=
  portTakes_of_hostUp (Bool.and_eq_true_iff.mp h).1

/-- An end of the transaction ends an access to the memory view. -/
@[simp] theorem busEnd_viewHeld (s : State) : (busEnd s).viewHeld = false := by
  simp [busEnd, State.viewHeld]

theorem qspiReads_held {s : State} {a n : Nat} (quad : Bool) (hport : s.portTakes = true) (hgo : (busEnd s).wordGoes false (a / 4 * 4) = false)
    (hn : 0 < n) : qspiReads quad a n s = { busEnd s with dataOut := [], bus := some (.read quad (a / 4 * 4) n) } := by
  obtain ⟨m, rfl⟩ : ∃ m, n = m + 1 := ⟨n - 1, by omega⟩
  have hgo' : (giveOut [] (busEnd s)).wordGoes false (a / 4 * 4) = false := hgo
  have hport' : (giveOut [] (busEnd s)).portTakes = true := hport
  rw [qspiReads, if_pos hport, readBurst, hgo', if_neg Bool.false_ne_true, busHold, if_pos hport']
  rfl

/-- The words from `a` on lie in one of the windows that the host reads as plain memory (R131, R132). -/
def InWindow (a n : Nat) : Prop :=
  (sessBase + 192 ≤ a ∧ a + 4 * n ≤ sessBase + 0xc000) ∨ (poolBase ≤ a ∧ a + 4 * n ≤ poolBase + 0x20000) ∨
    (scoreBase ≤ a ∧ a + 4 * n ≤ scoreBase + 0x10000) ∨ (imageBase ≤ a ∧ a + 4 * n ≤ imageBase + 0x40000)

theorem inWindow_next {a n : Nat} (h : InWindow a (n + 1)) : InWindow (a + 4) n := by
  simp only [InWindow] at *
  omega

/-- A word of a window is memory. -/
theorem hostRead_of_inWindow {a n : Nat} (h : InWindow a (n + 1)) (s : State) : hostRead a s = giveWord (wd (s.mem32 a), s) := by
  have hpage : pageExists (a / 0x1000) = false := by
    simp only [pageExists, InWindow, sessBase, poolBase, scoreBase, imageBase, decide_eq_false_iff_not] at *
    omega
  have htag : ¬ (tagBase ≤ a ∧ a < tagBase + 0x4000) := by
    simp only [InWindow, sessBase, poolBase, scoreBase, imageBase, tagBase] at *
    omega
  have hword : s.windowRead a = wd (s.mem32 a) := by
    rw [State.windowRead, if_pos (by simp only [InWindow] at h; omega)]
  rw [hostRead, hpage, if_neg Bool.false_ne_true, if_neg htag, hword]

theorem burstNext_of_inWindow {a n : Nat} (h : InWindow a (n + 1)) : burstNext a = a + 4 := by
  have hport : isPort a = false := by
    simp only [isPort, InWindow, sessBase, poolBase, scoreBase, imageBase, decide_eq_false_iff_not] at *
    omega
  rw [burstNext, hport, if_neg Bool.false_ne_true, Nat.mod_eq_of_lt]
  simp only [InWindow, sessBase, poolBase, scoreBase, imageBase] at h
  omega

/-- A burst in a window gives its words one after the other. -/
theorem readBurst_of_inWindow (quad : Bool) (n : Nat) {a : Nat} {s : State} (h : InWindow a n) (hreads : s.readsNow .host = true)
    (hview : s.viewHeld = false) :
    readBurst quad n a s = { s with dataOut := s.dataOut ++ (List.range n).map (fun k => wd (s.mem32 (a + 4 * k))) } := by
  induction n generalizing a s with
  | zero => simp [readBurst, hview]
  | succ n ih =>
    have hgo : s.wordGoes false a = true := by
      have hup : s.hostUp = true := (Bool.and_eq_true_iff.mp hreads).1
      simp [State.wordGoes, hup, hview, hreads]
    rw [readBurst, hgo, if_pos rfl, hostRead_of_inWindow h, burstNext_of_inWindow h,
      ih (s := giveWord (wd (s.mem32 a), s)) (inWindow_next h) hreads hview]
    simp only [List.range_succ_eq_map, List.map_cons, List.map_map, giveWord, List.append_assoc, List.singleton_append, Function.comp_def,
      Nat.mul_zero, Nat.add_zero, Nat.mul_succ, Nat.add_assoc, Nat.add_comm 4]
    rfl

theorem qspiReads_of_inWindow (quad : Bool) {a n : Nat} {s : State} (hreads : s.readsNow .host = true) (ha : a % 4 = 0) (h : InWindow a n) :
    qspiReads quad a n s = { busEnd s with dataOut := (List.range n).map (fun k => wd (s.mem32 (a + 4 * k))) } := by
  have hword : a / 4 * 4 = a := by omega
  rw [qspiReads, if_pos (portTakes_of_readsNow hreads), hword,
    readBurst_of_inWindow quad n h (s := giveOut [] (busEnd s)) hreads (busEnd_viewHeld s)]
  rfl

/-! ## Pairs (R150, R158, R171) -/

@[simp] theorem latchPair_latched (ag : Agent) (a : Nat) (w : Word) (s : State) : (latchPair ag a w s).latched ag a = some w := by
  simp [State.latched, latchPair, modTime]

/-- The LO words of the pairs lie in the header pages, FTB, LSP and the engines, and are none of the registers whose reads act otherwise. -/
theorem isPairLo_place {a : Nat} (h : isPairLo a = true) :
    (a < 0x6000 ∨ 0x8000 ≤ a ∧ a < 0x10000 ∨ 0x1c000 ≤ a) ∧ a ≠ Reg.clkRun ∧ a ≠ Reg.ftbFtbLo ∧ a ≠ Reg.ftbFtbHi ∧
      ¬ (0x8400 ≤ a ∧ a < 0x8440) := by
  simp only [isPairLo, Bool.or_eq_true, Bool.and_eq_true, decide_eq_true_eq, List.contains_iff_mem, List.mem_cons, List.not_mem_nil, or_false] at h
  rcases h with (((h | h) | h) | h) | h
  · rcases h with (h | h | h | h | h | h | h | h | h | h | h) <;> subst h <;> decide
  all_goals
    simp only [Reg.clkRun, Reg.ftbFtbLo, Reg.ftbFtbHi, Reg.ftbCmpTargetLo] at *
    omega

/-- A read of a LO word gives it and latches the HI word for the agent. -/
theorem regRead_of_isPairLo {a : Nat} {s : State} (ag : Agent) (h : isPairLo a = true) (hup : s.answers a = true) :
    regRead ag a s = (s.shows a, latchPair ag a (s.shows (a + 4)) s) := by
  obtain ⟨hplace, hclk, hlo, hhi, hcap⟩ := isPairLo_place h
  have hevf : (a / 0x1000 == Page.evf || a / 0x1000 == Page.evfLut) = false := by
    simp only [Bool.or_eq_false_iff, beq_eq_false_iff_ne, Page.evf, Page.evfLut]
    omega
  have hcoil : ¬ (0x10 ≤ a / 0x1000 ∧ a / 0x1000 < 0x1c ∧ 0xc0 ≤ a % 0x1000 ∧ a % 0x1000 < 0xd8) := by omega
  have hcapture : ∀ r, ¬ (a / 0x1000 = Page.ftb ∧ 0x400 ≤ a % 0x1000 ∧ a % 0x1000 < 0x440 ∧ a % 0x1000 % 0x10 = r) := fun r => by
    simp only [Page.ftb]
    omega
  simp only [regRead, hevf, sif, Bool.false_eq_true, if_false, hup, Bool.not_true, hclk, hlo, hhi, hcapture, hcoil, pairRead, h, if_true]

theorem exec_pairLoRead {ag : Agent} {a : Nat} {s : State} (hreads : s.readsNow ag = true) (ha : a % 4 = 0) (h : isPairLo a = true)
    (hup : s.answers a = true) : exec (.pairLoRead ag a) s = .next (giveOut [s.shows a] (latchPair ag a (s.shows (a + 4)) s)) := by
  have hword : a / 4 * 4 = a := by omega
  change execPairLoRead ag a s = _
  rw [execPairLoRead, if_pos hreads, hword, regRead_of_isPairLo ag h hup]

theorem exec_ftbLoRead {ag : Agent} {s : State} (hreads : s.readsNow ag = true) :
    exec (.ftbLoRead ag) s = .next (giveOut [loWord s.now] (latchPair ag Reg.ftbFtbLo (hiWord s.now) s)) := by
  change execFtbLoRead ag s = _
  rw [execFtbLoRead, if_pos hreads, ftbLoRead]

/-- A read of CAPc_HI with no capture waiting releases the latch and clears VALID (R171). -/
theorem exec_captureHiRead {ag : Agent} {c : CapIx} {s : State} (hreads : s.readsNow ag = true) (hwait : tabGet 0 s.time.capWait c = 0) :
    exec (.captureHiRead ag c) s = .next (giveOut [(s.latched ag (Reg.ftbCapLo c)).getD (s.reg (Reg.ftbCapHi c))]
      (setRb (Reg.ftbCapStatus c) 0 false (modTime (fun t =>
        { t with capLatched := tabSet false t.capLatched c false, capWait := tabSet 0 t.capWait c 0 }) (unlatch ag (Reg.ftbCapLo c) s)))) := by
  change execCaptureHiRead ag c s = _
  rw [execCaptureHiRead, if_pos hreads]
  simp only [capHiRead, hwait, if_true]

/-! ## Settled -/

/-- Settles O6: the host's transactions by their words, and the reads that latch. -/
theorem hostReadsComplete : Obligations.HostReadsComplete := by
  unfold Obligations.HostReadsComplete
  refine ⟨fun s hup => ?_, fun a n l c => ?_, fun s a n hport hgo hn => ?_, fun s a n hreads ha hwin => ?_,
    fun s ag a hreads ha hlo hup => ?_, fun s ag hreads => ?_, fun s ag c hreads hwait => ?_⟩
  · obtain ⟨h0, h1, h2, h3, h4, h5, h6, hlt⟩ := flags_bits (decide (2048 ≤ s.cmdFill)) (decide (0 < s.evtFill)) (decide (0 < s.resFill))
      s.irqLow s.queue.attnLow s.queue.holdLow s.isReady
    exact ⟨_, exec_qspiStatus hup, rfl, h0, h1, h2, h3, h4, h5, h6, hlt, rfl⟩
  · refine ⟨rfl, rfl, rfl, rfl, rfl, fun hc => ?_⟩
    simp only [List.mem_cons, List.not_mem_nil, or_false, not_or] at hc
    obtain ⟨hread, hwrite, hqread, hqwrite, hstatus⟩ := hc
    rw [qspiCommand, if_neg hread, if_neg hwrite, if_neg hqread, if_neg hqwrite, if_neg hstatus]
  · exact ⟨congrArg _ (qspiReads_held false hport hgo hn), congrArg _ (qspiReads_held true hport hgo hn)⟩
  · exact ⟨congrArg _ (qspiReads_of_inWindow false hreads ha hwin), congrArg _ (qspiReads_of_inWindow true hreads ha hwin)⟩
  · exact ⟨_, exec_pairLoRead hreads ha hlo hup, rfl, latchPair_latched _ _ _ s, fun _ _ => rfl, fun _ => rfl, rfl⟩
  · exact ⟨_, exec_ftbLoRead hreads, rfl, latchPair_latched _ _ _ s, rfl, fun _ _ => rfl, fun _ => rfl⟩
  · refine ⟨_, exec_captureHiRead hreads hwait, rfl, setRb_rb_eq (by decide) _ _ _, ?_, ?_, fun _ => rfl⟩
    · exact tabGet_tabSet_self false s.time.capLatched c false
    · exact fun x hx => setRb_reg_ne (by simpa using hx) 0 false (modTime _ (unlatch _ _ s))

end Sys2Proof.Proofs
end

section
/-! PROOFS. Writes over the host port (R99–R107): transactions of one word, the session RAM, and what is counted. -/

namespace Sys2Proof.Proofs
open Sys2Proof Sys2Proof.Machine Sys2Proof.Laws

/-! ## Transactions -/

/-- A transaction of one word that may go is that register write; it waits where the access to the memory view does. -/
theorem qspiWrites_one {s : State} {a : Nat} {w : Word} {t : State} (hport : s.portTakes = true)
    (hgo : (busEnd s).wordGoes true (a / 4 * 4) = true) (ht : busWrite (BitVec.allOnes 32) .host (0, none) (a / 4 * 4) w (busEnd s) = t) :
    qspiWrites a [w] s = if t.viewHeld then busHold (.write (burstNext (a / 4 * 4)) []) t else t := by
  rw [qspiWrites, if_pos hport, writeBurst, hgo, if_pos rfl, ht, writeBurst]

theorem qspiWrites_held {s : State} {a : Nat} (w : Word) (r : List Word) (hport : s.portTakes = true)
    (hgo : (busEnd s).wordGoes true (a / 4 * 4) = false) :
    qspiWrites a (w :: r) s = { busEnd s with bus := some (.write (a / 4 * 4) (w :: r)) } := by
  have hport' : (busEnd s).portTakes = true := hport
  rw [qspiWrites, if_pos hport, writeBurst, hgo, if_neg Bool.false_ne_true, busHold, if_pos hport']

/-! ## The session RAM (R132) -/

/-- A run of bytes reads back. -/
theorem setBytes_byte_eq (l : List Byte) (a : Nat) (s : State) :
    (List.range l.length).map (fun j => (setBytes a l s).byte (a + j)) = l := by
  induction l generalizing a s with
  | nil => rfl
  | cons b l ih =>
    have hrest := ih (a + 1) (setByte a b s)
    rw [List.length_cons, List.range_succ_eq_map, List.map_cons, List.map_map, setBytes,
      setBytes_byte_ne l (x := a + 0) (Or.inl (Nat.lt_succ_self a)), Nat.add_zero, setByte_byte_eq]
    refine congrArg _ (Eq.trans (List.map_congr_left fun j _ => ?_) hrest)
    rw [Function.comp_apply, Nat.succ_eq_add_one, Nat.add_right_comm, Nat.add_assoc]

theorem setBytes_eq (l : List Byte) (a : Nat) (s : State) : setBytes a l s = { s with mem := (setBytes a l s).mem } := by
  induction l generalizing a s with
  | nil => rfl
  | cons b l ih => rw [setBytes, ih]; rfl

/-- The bytes that a write leaves do not depend on the rest of the state. -/
theorem setBytes_mem_congr (l : List Byte) (a : Nat) {s t : State} (h : t.mem = s.mem) : (setBytes a l t).mem = (setBytes a l s).mem := by
  induction l generalizing a s t with
  | nil => exact h
  | cons b l ih =>
    have hbyte : (setByte a b t).mem = (setByte a b s).mem := by rw [setByte, setByte, h]
    rw [setBytes, setBytes, ih (a + 1) hbyte]

/-- A word of a session's context past the first two goes to memory, its bits that R29 lists (R132). -/
theorem sessionRamWrite_body {s : State} {k : SlotIx} {o : Nat} (w : Word) (hk : k.val ≠ 0) (h8 : 8 ≤ o) (hlt : o < 192)
    (hopen : s.sessState k = 1 ∨ s.sessState k = 2) : sessionRamWrite (ctxAddr k o) w s = setBytes (ctxAddr k o) (ctxWord o w) s := by
  have hoff : ctxAddr k o - sessBase = 192 * k.val + o := by simp only [ctxAddr]; omega
  have hslot : (192 * k.val + o) / 192 = k.val := by omega
  have hrest : (192 * k.val + o) % 192 = o := by omega
  have hstate : ¬ (s.sessState k ≠ SessState.opened ∧ s.sessState k ≠ SessState.placed) := by
    simp only [SessState.opened, SessState.placed]
    omega
  simp only [sessionRamWrite, hoff, hslot, hrest, if_neg hk, if_neg hstate, if_neg (show o ≠ 0 by omega), if_neg (show o ≠ 4 by omega)]

theorem ctxWord_length (o : Nat) (w : Word) : (ctxWord o w).length = 4 := rfl

theorem ctxAddr_inside {k : SlotIx} {o : Nat} (hlt : o < 192) : sessBase ≤ ctxAddr k o ∧ ctxAddr k o < sessBase + 0xc000 := by
  have hk := k.isLt
  simp only [ctxAddr]
  omega

theorem ctxAddr_word {k : SlotIx} {o : Nat} (h4 : o % 4 = 0) : ctxAddr k o / 4 * 4 = ctxAddr k o := by
  simp only [ctxAddr, sessBase]
  omega

theorem windowWrite_up {s : State} (a : Nat) (eff : State → State) (hup : s.hostUp = true) (hready : s.isReady = true) :
    windowWrite a eff s = eff s := by
  simp only [windowWrite, hup, hready, Bool.not_true, Bool.false_eq_true, if_false]

/-- A host write to the session RAM is the same whether it comes as a command of its own or over the bus. -/
theorem busWrite_ctx {s : State} {k : SlotIx} {o : Nat} (w : Word) (hlt : o < 192) (hup : s.hostUp = true) (hready : s.isReady = true) :
    busWrite (BitVec.allOnes 32) .host (0, none) (ctxAddr k o) w s = sessionRamWrite (ctxAddr k o) w s := by
  have hin := ctxAddr_inside (k := k) hlt
  have hpage : pageExists (ctxAddr k o / 0x1000) = false := by
    simp only [pageExists, decide_eq_false_iff_not, sessBase] at *
    omega
  simp only [busWrite, hpage, Bool.not_false, if_true, spaceWrite, if_pos hin, windowWrite_up _ _ hup hready]

theorem exec_sessionRamWrite {s : State} {k : SlotIx} {o : Nat} (w : Word) (h4 : o % 4 = 0) (hlt : o < 192) (hup : s.hostUp = true)
    (hready : s.isReady = true) : exec (.sessionRamWrite (ctxAddr k o) w) s = .next (sessionRamWrite (ctxAddr k o) w s) := by
  change execSessionRamWrite (ctxAddr k o) w s = _
  simp only [execSessionRamWrite, ctxAddr_word h4, if_pos (ctxAddr_inside hlt), windowWrite_up _ _ hup hready]

theorem wordGoes_ctx {s : State} {k : SlotIx} {o : Nat} (hlt : o < 192) (hup : s.hostUp = true) :
    (busEnd s).wordGoes true (ctxAddr k o) = true := by
  have hin := ctxAddr_inside (k := k) hlt
  have hup' : (busEnd s).hostUp = true := hup
  have hport : isPort (ctxAddr k o) = false := by
    simp only [isPort, decide_eq_false_iff_not, sessBase] at *
    omega
  have hupd : (ctxAddr k o == Reg.updData) = false := by
    simp only [beq_eq_false_iff_ne, sessBase, Reg.updData] at *
    omega
  simp only [State.wordGoes, hup', busEnd_viewHeld, hport, hupd, Bool.not_true, Bool.not_false, Bool.false_and, Bool.and_true, Bool.false_eq_true,
    if_false]

/-- The end of a transaction and a write of memory do not meet. -/
theorem setBytes_busEnd (l : List Byte) (a : Nat) (s : State) : setBytes a l (busEnd s) = busEnd (setBytes a l s) := by
  rw [setBytes_eq l a (busEnd s), setBytes_eq l a s, setBytes_mem_congr l a (s := s) (t := busEnd s) rfl]
  rfl

/-! ## A register that stores every bit -/

/-- Every bit of RX_CFG of an engine is written as it is stored (R254). -/
theorem newInUse_feRxCfg (n : EngIx) (w old : Word) : newInUse (Reg.feRxCfg n) false w old = w := by
  have hrow : ∀ n : EngIx, (rowAt (Reg.feRxCfg n)).map (fun r => (r.maskOf (fun f => f.acc.stores && !(false && f.staged)),
      r.maskOf (fun f => f.acc == .w1c), r.maskOf (fun f => f.acc == .w1s))) = some (BitVec.allOnes 32, 0, 0) := by decide +kernel
  obtain ⟨r, hr, hmasks⟩ := Option.map_eq_some_iff.mp (hrow n)
  obtain ⟨hm, hc, ht⟩ : _ ∧ _ ∧ _ := by simpa only [Prod.mk.injEq] using hmasks
  simp only [newInUse, hr, hm, hc, ht]
  have hones : ∀ v : Word, v &&& BitVec.allOnes 32 = v := fun v => BitVec.and_allOnes
  simp only [hones, BitVec.not_allOnes, BitVec.and_zero, BitVec.zero_or, BitVec.or_zero, BitVec.ofNat_eq_ofNat]
  exact hones w

theorem storeReg_regs (a : Nat) (w : Word) (s : State) :
    SameRegs [a] s (storeReg a w s) ∧ (storeReg a w s).mem = s.mem ∧
      (storeReg a w s).reg a = newInUse a (s.rb (Reg.stageCtrl (a / 0x1000)) 0) w (s.reg a) := by
  refine ⟨fun x hx => ?_, ?_, setReg_reg_eq _ _ _⟩
  · rw [storeReg, storeWith, setReg_reg_ne (by simpa using hx)]
    split
    · unfold sif; split <;> rfl
    · rfl
  · rw [storeReg, storeWith, setReg_mem]
    split
    · unfold sif; split <;> rfl
    · rfl

/-- A write of RX_CFG that its page takes is stored. -/
theorem exec_registerWrite_feRxCfg {s : State} {ag : Agent} {n : EngIx} (w : Word) (h : s.takes ag (Reg.feRxCfg n)) :
    exec (.registerWrite ag (Reg.feRxCfg n) w) s = .next (storeReg (Reg.feRxCfg n) w s) := by
  obtain ⟨hreach, hown, hopen⟩ := h
  have hword : Reg.feRxCfg n / 4 * 4 = Reg.feRxCfg n := by simp only [Reg.feRxCfg]; omega
  have hroute : ∀ n : EngIx, busWrite (BitVec.allOnes 32) ag (0, none) (Reg.feRxCfg n) w =
      plainWrite (BitVec.allOnes 32) ag (Reg.feRxCfg n) w := fun n => by
    fin_cases n <;> rfl
  have hpage : s.ownsPage ag (Reg.feRxCfg n) = true := beq_iff_eq.mpr hown
  have htaken := guardedBy_of_reaches hreach hopen (storeReg (Reg.feRxCfg n) w)
  change Host.Outcome.next (busWrite _ ag (0, none) (Reg.feRxCfg n / 4 * 4) w s) = _
  rw [hword, hroute, plainWrite, hold_of_reaches hreach, hpage]
  exact congrArg _ htaken

/-! ## What is counted (R101, R102) -/

theorem exec_qspiUnknownCommand {s : State} {c : Byte} (hup : s.hostUp = true) (hc : c ∉ [0x0b, 0x02, 0xeb, 0x38, 0x05]) :
    exec (.qspiUnknownCommand c) s = .next (addRf Reg.hifCount 15 0 1 (busEnd s)) := by
  have hlisted : qspiListed c = false := by
    simp only [List.mem_cons, List.not_mem_nil, or_false, not_or] at hc
    obtain ⟨hread, hwrite, hqread, hqwrite, hstatus⟩ := hc
    rw [qspiListed, qspiCommand, if_neg hread, if_neg hwrite, if_neg hqread, if_neg hqwrite, if_neg hstatus]
  change execQspiUnknownCommand c s = _
  rw [execQspiUnknownCommand, hup, hlisted]
  rfl

theorem exec_qcsNRisePartialWord {s : State} (hup : s.hostUp = true) :
    exec .qcsNRisePartialWord s = .next (addRf Reg.hifCount 31 16 1 (busEnd s)) := by
  change execQcsNRisePartialWord s = _
  rw [execQcsNRisePartialWord, if_pos hup]

/-- A field that is counted leaves the fields beside it. -/
theorem addRf_rf_ne {hi lo hi' lo' : Nat} (h32 : hi' < 32) (h : hi' < lo ∨ hi < lo') (a n : Nat) (s : State) :
    (addRf a hi lo n s).rf a hi' lo' = s.rf a hi' lo' := by
  rw [addRf, setRf, State.rf, setReg_reg_eq, fld_setFld_ne _ _ h32 h, ← State.rf]

/-! ## Settled -/

/-- Settles O9: one word over the bus is the register write, and the port's counters. -/
theorem hostWritesComplete : Obligations.HostWritesComplete := by
  unfold Obligations.HostWritesComplete
  refine ⟨fun s a w hport hgo => ?_, fun s a w r hport hgo => ?_, fun s k o w hup hready hk h4 h8 hlt hopen => ?_, fun s ag n w h hstage => ?_,
    fun s c hup hc => ?_, fun s hup => ?_⟩
  · have hone := qspiWrites_one (w := w) hport hgo rfl
    exact ⟨_, rfl, congrArg _ hone, congrArg _ hone⟩
  · exact ⟨congrArg _ (qspiWrites_held w r hport hgo), congrArg _ (qspiWrites_held w r hport hgo)⟩
  · have hbody := sessionRamWrite_body w hk h8 hlt hopen
    have hbus : qspiWrites (ctxAddr k o) [w] s = busEnd (setBytes (ctxAddr k o) (ctxWord o w) s) := by
      have hheld : (busEnd (setBytes (ctxAddr k o) (ctxWord o w) s)).viewHeld = false := busEnd_viewHeld _
      rw [qspiWrites_one (t := busEnd (setBytes (ctxAddr k o) (ctxWord o w) s)) (portTakes_of_hostUp hup), hheld, if_neg Bool.false_ne_true]
      · rw [ctxAddr_word h4, wordGoes_ctx hlt hup]
      · rw [ctxAddr_word h4, busWrite_ctx (s := busEnd s) w hlt hup hready, sessionRamWrite_body (s := busEnd s) w hk h8 hlt hopen, setBytes_busEnd]
    refine ⟨setBytes (ctxAddr k o) (ctxWord o w) s, ?_, setBytes_byte_eq (ctxWord o w) _ s, congrArg _ hbus, congrArg _ hbus, ?_, ?_, ?_, ?_⟩
    · rw [exec_sessionRamWrite w h4 hlt hup hready, hbody]
    · change Host.Outcome.next (busWrite _ .host (0, none) (ctxAddr k o / 4 * 4) w s) = _
      rw [ctxAddr_word h4, busWrite_ctx w hlt hup hready, hbody]
    · exact fun x _ => by rw [State.reg, State.reg, setBytes_regs]
    · exact fun x hx => setBytes_byte_ne _ hx s
    · rw [setBytes_eq]
  · obtain ⟨hregs, hmem, hword⟩ := storeReg_regs (Reg.feRxCfg n) w s
    have hpage : Reg.feRxCfg n / 0x1000 = Page.fe n := by simp only [Reg.feRxCfg, Page.fe]; omega
    refine ⟨_, exec_registerWrite_feRxCfg w h, ?_, hregs, sameBytes_of_mem hmem⟩
    rw [State.rf, hword, hpage, hstage, newInUse_feRxCfg]
  · refine ⟨_, exec_qspiUnknownCommand hup hc, ?_, addRf_rf_ne (by decide) (Or.inr (by decide)) _ _ _, addRf_onlyRegs (by simp) _ _ _ _⟩
    rw [addRf_rf_eq (by decide)]
    rfl
  · refine ⟨_, exec_qcsNRisePartialWord hup, ?_, addRf_rf_ne (by decide) (Or.inl (by decide)) _ _ _, addRf_onlyRegs (by simp) _ _ _ _⟩
    rw [addRf_rf_eq (by decide)]
    rfl

end Sys2Proof.Proofs
end

section
/-! PROOFS. Claims and releases of resources (R37–R39, R155, R289): what the cells, the pins and the radio change on the way, and the claim
entry and the result that a request leaves. -/

namespace Sys2Proof.Proofs
open Sys2Proof Sys2Proof.Machine Sys2Proof.Laws

/-! ## One change after another -/

section
variable {l : List Nat} {r s : State}

theorem Within.mono {m : List Nat} (h : Within l r s) (hl : l ⊆ m) : Within m r s := ⟨fun a ha => h.1 a fun h' => ha (hl h'), h.2⟩

theorem Within.eq {t : State} (h : Within l r s) (hr : t.regs = s.regs) (hm : t.mem = s.mem) : Within l r t :=
  within_trans h (within_of_eq l hr hm)

theorem Within.setReg (h : Within l r s) {a : Nat} (ha : a / 0x1000 ∈ l) (w : Word) : Within l r (setReg a w s) :=
  within_trans h (within_setReg ha w s)

theorem Within.setRf (h : Within l r s) {a : Nat} (ha : a / 0x1000 ∈ l) (hi lo v : Nat) : Within l r (setRf a hi lo v s) := h.setReg ha _
theorem Within.setRb (h : Within l r s) {a : Nat} (ha : a / 0x1000 ∈ l) (k : Nat) (b : Bool) : Within l r (setRb a k b s) := h.setReg ha _
theorem Within.addRf (h : Within l r s) {a : Nat} (ha : a / 0x1000 ∈ l) (hi lo n : Nat) : Within l r (addRf a hi lo n s) := h.setReg ha _

theorem Within.irq (h : Within l r s) {p : Nat} (hp : p ∈ l) (k : Nat) : Within l r (irq p k s) := within_trans h (within_irq hp k s)

theorem Within.publish (h : Within l r s) (p t : Nat) : Within l r (publish p t s) := within_trans h (within_publish l p t s)

theorem Within.modFab (h : Within l r s) (f : FabricSt → FabricSt) : Within l r (modFab f s) := h.eq rfl rfl
theorem Within.modRadio (h : Within l r s) (f : RadioSt → RadioSt) : Within l r (modRadio f s) := h.eq rfl rfl
theorem Within.modRx (h : Within l r s) (f : RxSt → RxSt) : Within l r (modRx f s) := h.eq rfl rfl

theorem Within.sif (h : Within l r s) {f : State → State} (c : Bool) (hf : ∀ t, Within l r t → Within l r (f t)) : Within l r (sif c f s) := by
  cases c
  · exact h
  · exact hf s h

theorem Within.forEach (h : Within l r s) {xs : List Nat} {f : Nat → State → State} (hf : ∀ k ∈ xs, ∀ t, Within l r t → Within l r (f k t)) :
    Within l r (forEach xs f s) := by
  induction xs generalizing s with
  | nil => exact h
  | cons k xs ih => exact ih (hf k List.mem_cons_self s h) fun j hj => hf j (List.mem_cons_of_mem k hj)

theorem Within.ite {c : Prop} [Decidable c] {t u : State} (ht : Within l r t) (hu : Within l r u) : Within l r (if c then t else u) := by
  split
  · exact ht
  · exact hu

end

/-- An error that page `p` records, of the pages with DBG. -/
theorem Within.recErr {l : List Nat} {r s : State} (h : Within l r s) {p : Nat} (hp : p ∈ l) (hdbg : Page.dbg ∈ l) (code info extra : Nat) :
    Within l r (recErr p code info extra s) := by
  have hcode : Reg.errCode p / 0x1000 ∈ l := (errCode_page p).symm ▸ hp
  have hinfo : Reg.errInfo p / 0x1000 ∈ l := (errInfo_page p).symm ▸ hp
  have hnoted : Within l s (errNoted p code info extra s) :=
    ⟨samePages_of_sameRegs (by simpa only [List.forall_mem_cons] using ⟨hcode, hinfo, by simp⟩) (errNoted_sameRegs p code info extra s),
      sameBytes_of_mem (errNoted_mem p code info extra s)⟩
  have hfault : ∀ a ∈ faultRegs, a / 0x1000 = Page.dbg := by decide
  rw [recErr_eq]
  exact within_trans (within_trans (within_trans h hnoted) (within_irq hp 31 _))
    (within_of_onlyRegs (fun a ha => hfault a ha ▸ hdbg) (faultOpt_onlyRegs _ _ _ _))

/-! ## Pins and cells (R193–R197) -/

/-- The pages of the event fabric: EVF and EVF_LUT. -/
def fabricPages : List Nat := [Page.evf, Page.evfLut]

section
variable {r s : State}

theorem Within.markReaders (h : Within fabricPages r s) (n edge : Nat) : Within fabricPages r (markReaders n edge s) :=
  h.forEach fun _ _ _ ht => Within.ite (ht.modFab _) ht

theorem Within.pinSeen (h : Within fabricPages r s) (n : Nat) (b : Bool) (t : Nat) : Within fabricPages r (pinSeen n b t s) :=
  Within.ite h ((((h.modFab _).setRb (by decide) n b).markReaders _ _).sif _ fun _ hu => hu.publish _ _)

theorem Within.pinTurn (h : Within fabricPages r s) (edge n : Nat) : Within fabricPages r (pinTurn edge n s) := by
  unfold Machine.pinTurn
  split
  · exact Within.ite (h.pinSeen _ _ _) h
  · exact h

theorem Within.drivePin (h : Within fabricPages r s) (n : Nat) (b : Bool) (edge : Nat) : Within fabricPages r (drivePin n b edge s) :=
  (h.pinTurn edge n).modFab _

theorem Within.gpFollow (h : Within fabricPages r s) (n edge : Nat) : Within fabricPages r (gpFollow n edge s) :=
  Within.ite (h.drivePin _ _ _) (Within.ite (h.drivePin _ _ _) (Within.ite (h.drivePin _ _ _) (h.modFab _)))

theorem cellReg_page {c off : Nat} (hc : c < 16) (hoff : off < 0x100) : (0x7000 + off + 0x10 * c) / 0x1000 ∈ fabricPages := by
  have hpage : (0x7000 + off + 0x10 * c) / 0x1000 = Page.evfLut := by simp only [Page.evfLut]; omega
  rw [hpage]
  decide

theorem cellStatus_page {c : Nat} (hc : c < 16) : Reg.evfLutCellStatus c / 0x1000 ∈ fabricPages := cellReg_page (off := 0x44) hc (by decide)

theorem Within.cellChange (h : Within fabricPages r s) {c : Nat} (hc : c < 16) (b : Bool) (edge : Nat) :
    Within fabricPages r (cellChange c b edge s) := by
  have hshown := ((((h.markReaders (0x50 + c) (edge + 1)).modFab fun f =>
    { f with cellLast := tabSet none f.cellLast c (some (edge, s.rb (Reg.evfLutCellStatus c) 1)) }).setRb
      (cellStatus_page hc) 1 b).setRb (a := Reg.evfLutCellLevel) (by decide) c b)
  exact (hshown.sif _ fun _ hu => hu.publish _ _).forEach fun n _ _ ht => Within.ite (ht.gpFollow n _) ht

theorem Within.cellFilter (h : Within fabricPages r s) {c : Nat} (hc : c < 16) (edge : Nat) : Within fabricPages r (cellFilter c edge s) := by
  unfold Machine.cellFilter
  split
  · exact Within.ite (Within.cellChange (h.modFab _) hc _ _) h
  · exact h

theorem Within.cellTake (h : Within fabricPages r s) {c : Nat} (hc : c < 16) (edge : Nat) (o : Bool) :
    Within fabricPages r (cellTake c edge o s) :=
  Within.ite (h.modFab _) (Within.ite (Within.cellChange (h.modFab _) hc _ _) (Within.ite h (h.modFab _)))

theorem Within.cellStep (h : Within fabricPages r s) {c : Nat} (hc : c < 16) (edge : Nat) (o : Bool) :
    Within fabricPages r (cellStep c edge o s) :=
  Within.cellTake (Within.cellFilter ((h.sif _ fun _ ht => ht.modFab _).setRb (cellStatus_page hc) 0 _) hc edge) hc edge o

theorem Within.cellTurn (h : Within fabricPages r s) {c : Nat} (hc : c < 16) (edge : Nat) : Within fabricPages r (cellTurn edge c s) :=
  Within.ite (Within.cellStep ((h.cellFilter hc edge).modFab _) hc edge _) (h.cellFilter hc edge)

theorem Within.cellsRun (h : Within fabricPages r s) (edge fuel : Nat) : Within fabricPages r (cellsRun edge fuel s) := by
  induction fuel generalizing s with
  | zero => exact h
  | succ fuel ih =>
    unfold Machine.cellsRun
    split
    · exact Within.ite (ih ((h.forEach fun n _ _ ht => ht.pinTurn _ n).forEach fun c hc _ ht => ht.cellTurn (List.mem_range.mp hc) _)) h
    · exact h

theorem Within.cellsNow (h : Within fabricPages r s) : Within fabricPages r (cellsNow s) := by
  unfold Machine.cellsNow Machine.cellsTo
  refine Within.ite h (Within.ite (h.forEach fun n _ _ ht => ht.pinTurn _ n) ?_)
  split
  · exact h.cellsRun _ _
  · exact h

end

/-! ## The radio that nobody holds (R325) -/

/-- The pages that a radio on its way to a state changes: its own, and DBG for a window that opens late. -/
def radioPages : List Nat := [Page.rbSyn, Page.rbRx, Page.rbDem, Page.rbDec, Page.rbTx, Page.rbAnt, Page.dbg]

section
variable {r s : State}

theorem Within.lateSearch (h : Within radioPages r s) (t : Nat) : Within radioPages r (lateSearch t s) := by
  unfold Machine.lateSearch
  split
  · exact h
  · exact Within.ite ((h.modRx _).recErr (by decide) (by decide) _ _ _) h

theorem Within.setRbState (h : Within radioPages r s) (v t : Nat) : Within radioPages r (setRbState v t s) := by
  have hstate := (((h.setRf (a := Reg.rbSynState) (by decide) 3 0 v).setRb (a := Reg.rbTxStatus) (by decide) 0 (decide (6 ≤ v))).irq
    (p := Page.rbSyn) (by decide) 4).publish 0xcd t
  exact Within.ite h (Within.ite (Within.lateSearch ((hstate.setRb (a := Reg.rbRxAgcStatus) (by decide) 31 false).modRx _) t) hstate)

theorem Within.setLocked (h : Within radioPages r s) (b : Bool) : Within radioPages r (setLocked b s) :=
  h.setRb (a := Reg.rbSynState) (by decide) 12 b

theorem Within.startSynth (h : Within radioPages r s) (t : Nat) : Within radioPages r (startSynth t s) :=
  (((h.setLocked false).modRadio _).sif _ fun _ hu => hu.addRf (a := Reg.rbSynCnt) (by decide) _ _ _).setRb (a := Reg.rbSynState) (by decide) 13 _

theorem Within.stopSynth (h : Within radioPages r s) : Within radioPages r (stopSynth s) :=
  (Within.setLocked (h.modRadio _) false).setRb (a := Reg.rbSynState) (by decide) 13 _

theorem Within.radioEnter (h : Within radioPages r s) (g t : Nat) : Within radioPages r (radioEnter g t s) := by
  have hentered := Within.ite (c := 3 ≤ g ∧ s.rbState = 2) (h.setRbState 3 t) (Within.ite (c := g = 4 ∧ s.rbState = 5 ∧ s.rbLocked) (h.setRbState 4 t)
    (Within.ite (c := 3 ≤ g ∧ (s.rbState = 4 ∨ s.rbState = 5) ∧ !s.rbLocked) (h.setRbState 3 t) h))
  exact Within.ite (hentered.startSynth t) hentered

theorem Within.radioMove (h : Within radioPages r s) (t : Nat) : Within radioPages r (radioMove t s) := by
  unfold Machine.radioMove
  split
  · exact h
  · refine Within.ite ((h.radioEnter _ t).modRadio _) ?_
    split
    · exact (h.radioEnter _ t).modRadio _
    · exact Within.ite (h.radioEnter _ t) (((h.radioEnter _ t).sif _ fun _ hu => hu.stopSynth).modRadio _)

theorem Within.radioTo (h : Within radioPages r s) (g t : Nat) : Within radioPages r (radioTo g t s) := Within.radioMove (h.modRadio _) t

theorem Within.radioAct (h : Within radioPages r s) (q : RadioReq) (t : Nat) : Within radioPages r (radioAct q t s) := by
  have hasked := ((((h.modRadio fun r => { r with waiting := none }).setRb (a := Reg.rbSynState) (by decide) 14 false).setRf
    (a := Reg.rbSynState) (by decide) 9 4 q.chan).setRf (a := Reg.rbSynState) (by decide) 23 19 q.pa)
  exact Within.radioTo (((hasked.setRf (a := Reg.rbSynState) (by decide) 18 15 _).sif _ fun _ hu => hu.stopSynth).modRadio _) _ t

theorem Within.radioAsk (h : Within radioPages r s) (q : RadioReq) (t : Nat) : Within radioPages r (radioAsk q t s) :=
  Within.ite h (Within.ite ((h.modRadio _).setRb (a := Reg.rbSynState) (by decide) 14 true) (h.radioAct q t))

theorem Within.radioIdle (h : Within radioPages r s) (t : Nat) : Within radioPages r (radioIdle t s) := Within.ite (h.radioAsk _ t) h

theorem Within.radioFreed (h : Within radioPages r s) (was : Nat) : Within radioPages r (radioFreed was s) := Within.ite (h.radioIdle _) h

end

/-! ## The result of a request (R155, R289) -/

/-- The word that a result register shows: ERR, the resource, and the lower half of its entry. -/
def claimWord (err i entry : Nat) : Word := wd (err * 2 ^ 24 + i * 2 ^ 16 + entry % 2 ^ 16)

theorem claimWord_err {err i : Nat} (he : err < 256) (hi : i < 128) (entry : Nat) : fld (claimWord err i entry) 31 24 = err := by
  simp only [fld, claimWord, wd, BitVec.toNat_ofNat, Nat.shiftRight_eq_div_pow]
  omega

theorem claimWord_holder (err i entry : Nat) : fld (claimWord err i entry) 15 12 = entry / 4096 % 16 := by
  simp only [fld, claimWord, wd, BitVec.toNat_ofNat, Nat.shiftRight_eq_div_pow]
  omega

theorem resEntry_holder (s : State) (i : Nat) : s.resEntry i / 4096 % 16 = s.holder i := by
  simp only [State.resEntry, State.holder, State.rf, fld, Nat.shiftRight_eq_div_pow]
  omega

theorem index_lt (w : Word) : fld w 6 0 < 128 := fld_lt w 6 0

theorem claimTo_eq {a c detail : Nat} {w : Word} {s t : State} {err : Nat} (hlist : resListed (fld w 6 0) = true)
    (hask : claimAsk c detail (bit w 31) (fld w 6 0) s = (t, err)) :
    claimTo a c detail w s = setReg a (claimWord err (fld w 6 0) (t.resEntry (fld w 6 0))) t := by
  simp only [claimTo, hask, hlist, if_true, claimWord]

/-- The result register stands apart from the entries. -/
theorem holder_of_setReg {a i : Nat} (ha : Reg.sysResClaim i ≠ a) (w : Word) (s : State) : (setReg a w s).holder i = s.holder i := by
  rw [State.holder, State.rf, setReg_reg_ne ha, ← State.rf, ← State.holder]

theorem sysResClaim_page {i : Nat} (hi : i < 128) : Reg.sysResClaim i / 0x1000 = Page.sys := by
  simp only [Reg.sysResClaim, Page.sys]
  omega

theorem holder_of_within {l : List Nat} {s t : State} (h : Within l s t) (hl : Page.sys ∉ l) {i : Nat} (hi : i < 128) :
    t.holder i = s.holder i := by
  rw [State.holder, State.rf, h.1 _ (by rwa [sysResClaim_page hi]), ← State.rf, ← State.holder]

/-! ## What a claim and a release do -/

/-- The state in which a granted claim of a free resource leaves its entry. -/
def granted (i c detail : Nat) (s : State) : State := claimRes i c 0 detail (sif (decide (0x50 ≤ i ∧ i < 0x60)) cellsNow s)

theorem within_cellClaimed {c : Nat} (hc : c < 16) (s : State) : Within fabricPages s (cellClaimed c s) :=
  ((within_refl _ s).setRb (cellStatus_page hc) 0 _).modFab _

theorem granted_holder {i c : Nat} (hi : i < 128) (hc : c < 16) (detail : Nat) (s : State) : (granted i c detail s).holder i = c := by
  have hentry : ∀ u : State, (setReg (Reg.sysResClaim i) (wd (0 % 65536 * 65536 + c * 4096 + detail % 4096)) u).holder i = c := fun u => by
    rw [State.holder, setReg_rf_eq]
    simp only [fld, wd, BitVec.toNat_ofNat, Nat.shiftRight_eq_div_pow]
    omega
  unfold granted claimRes
  by_cases hcell : 0x50 ≤ i ∧ i < 0x60
  · rw [sif, if_pos (decide_eq_true hcell), holder_of_within (within_cellClaimed (by omega) _) (by decide) hi, hentry]
  · rw [sif, if_neg (by simpa using hcell), hentry]

theorem within_granted {i : Nat} (hi : i < 128) (c detail : Nat) (s : State) : Within (Page.sys :: fabricPages) s (granted i c detail s) := by
  have hset := Within.setReg (((within_refl fabricPages s).sif (decide (0x50 ≤ i ∧ i < 0x60)) fun _ ht => ht.cellsNow).mono
    (List.subset_cons_self Page.sys _)) (a := Reg.sysResClaim i) (by rw [sysResClaim_page hi]; decide)
    (wd (0 % 65536 * 65536 + c * 4096 + detail % 4096))
  unfold granted claimRes
  by_cases hcell : 0x50 ≤ i ∧ i < 0x60
  · rw [sif, if_pos (decide_eq_true hcell)]
    exact within_trans hset ((within_cellClaimed (by omega) _).mono (List.subset_cons_self _ _))
  · rw [sif, if_neg (by simpa using hcell)]
    exact hset

/-- A free resource is granted. -/
theorem claimAsk_of_free {i c detail : Nat} {s : State} (hlist : resListed i = true) (hquiet : i < 12 → s.quiesced (Page.coil i) = false)
    (hfree : s.holder i = 0) : claimAsk c detail false i s = (granted i c detail s, Err.none) := by
  have hopen : ¬ (i < 12 ∧ s.quiesced (Page.coil i) = true ∧ s.holder i ≠ c) := fun h => by simp [hquiet h.1] at h
  have hgrant : s.holder i = 0 ∨ s.holder i = c := Or.inl hfree
  simp only [claimAsk, hlist, Bool.not_true, Bool.false_eq_true, if_false, if_neg hopen, if_pos hgrant, granted]

theorem claimAsk_of_held {i c detail : Nat} {s : State} (hlist : resListed i = true) (hquiet : i < 12 → s.quiesced (Page.coil i) = false)
    (hheld : s.holder i ≠ 0) (hother : s.holder i ≠ c) : claimAsk c detail false i s = (s, Err.resourceBusy) := by
  have hopen : ¬ (i < 12 ∧ s.quiesced (Page.coil i) = true ∧ s.holder i ≠ c) := fun h => by simp [hquiet h.1] at h
  simp only [claimAsk, hlist, Bool.not_true, Bool.false_eq_true, if_false, if_neg hopen, hheld, hother, or_self]

/-- A coil whose page is quiesced goes to nobody anew (R143). -/
theorem claimAsk_of_quiesced {i c detail : Nat} {s : State} (hi : i < 12) (hquiet : s.quiesced (Page.coil i) = true)
    (hother : s.holder i ≠ c) : claimAsk c detail false i s = (s, Err.modeAbort) := by
  have hlist : resListed i = true := by simp [resListed, hi]
  simp only [claimAsk, hlist, Bool.not_true, Bool.false_eq_true, if_false, hi, hquiet, hother, ne_eq, not_false_eq_true, and_self, if_true]

theorem releaseAsk_of_holder {i c detail : Nat} {s : State} (hlist : resListed i = true) (hheld : s.holder i ≠ 0) (hown : s.holder i = c) :
    claimAsk c detail true i s = (radioFreed (if i = 0x78 then 1 else 0) (releaseRes i s), Err.none) := by
  simp only [claimAsk, hlist, Bool.not_true, Bool.false_eq_true, if_false, if_true, if_neg hheld, if_pos hown]

theorem releaseAsk_of_other {i c detail : Nat} {s : State} (hlist : resListed i = true) (hheld : s.holder i ≠ 0) (hother : s.holder i ≠ c) :
    claimAsk c detail true i s = (s, Err.ownerDenied) := by
  simp only [claimAsk, hlist, Bool.not_true, Bool.false_eq_true, if_false, if_true, hheld, hother]

theorem releaseRes_holder {i : Nat} (hi : i < 128) (s : State) : (releaseRes i s).holder i = 0 := by
  have hentry : (setReg (Reg.sysResClaim i) 0 s).holder i = 0 := by
    rw [State.holder, setReg_rf_eq]
    rfl
  unfold releaseRes
  by_cases hpin : 0x68 ≤ i ∧ i < 0x78
  · have hpage : Reg.evfGpCfg (i - 0x68) / 0x1000 ∈ fabricPages := by
      have hevf : Reg.evfGpCfg (i - 0x68) / 0x1000 = Page.evf := by simp only [Reg.evfGpCfg, Page.evf]; omega
      rw [hevf]
      decide
    have hin : Within fabricPages (setReg (Reg.sysResClaim i) 0 s) (gpRelease (i - 0x68) (setReg (Reg.sysResClaim i) 0 s)) :=
      ((within_refl _ _).setRf hpage 2 0 0).eq rfl rfl
    rw [sif, if_pos (decide_eq_true hpin), holder_of_within hin (by decide) hi, hentry]
  · rw [sif, if_neg (by simpa using hpin), hentry]

/-- What a release leaves free stays free while the radio goes where it goes. -/
theorem released_holder {i : Nat} (hi : i < 128) (was : Nat) (s : State) : (radioFreed was (releaseRes i s)).holder i = 0 := by
  rw [holder_of_within ((within_refl radioPages _).radioFreed was) (by decide) hi, releaseRes_holder hi]

/-! ## Settled -/

theorem exec_sysClaim {ag : Agent} {s : State} (h : s.takes ag Reg.sysClaim) (w : Word) :
    exec (.sysClaim ag w) s = .next (claimTo Reg.sysClaimResult 1 0 w s) := by
  change execSysClaim ag w s = _
  rw [execSysClaim, sysClaim, guarded_of_takes h]

theorem exec_lspClaim {ag : Agent} {s : State} (h : s.takes ag Reg.lspClaim) (hon : s.rb (Reg.ctrl Page.lsp) 0 = true) (w : Word) :
    exec (.lspClaim ag w) s = .next (claimTo Reg.lspClaimResult 3 (fld w 10 8) w s) := by
  change execLspClaim ag w s = _
  rw [execLspClaim, lspClaim, guarded_of_takes h, pageWork_on hon]

/-- A request that is refused leaves its result alone. -/
theorem claimTo_refused {a c detail err : Nat} {w : Word} {s : State} (hlist : resListed (fld w 6 0) = true) (he : err < 256)
    (hask : claimAsk c detail (bit w 31) (fld w 6 0) s = (s, err)) :
    (claimTo a c detail w s).rf a 31 24 = err ∧ (claimTo a c detail w s).rf a 15 12 = s.holder (fld w 6 0) ∧
      OnlyRegs [a] s (claimTo a c detail w s) := by
  rw [claimTo_eq hlist hask]
  refine ⟨?_, ?_, setReg_onlyRegs (by simp) _ s⟩
  · rw [setReg_rf_eq, claimWord_err he (index_lt w)]
  · rw [setReg_rf_eq, claimWord_holder, resEntry_holder]

/-- A request that is granted shows no error, and the entry holds what it made of it. -/
theorem claimTo_granted {a c detail : Nat} {w : Word} {s t : State} (ha : ∀ i, Reg.sysResClaim i ≠ a) (hlist : resListed (fld w 6 0) = true)
    (hask : claimAsk c detail (bit w 31) (fld w 6 0) s = (t, Err.none)) :
    (claimTo a c detail w s).holder (fld w 6 0) = t.holder (fld w 6 0) ∧ (claimTo a c detail w s).rf a 31 24 = 0 ∧
      SameBytes t (claimTo a c detail w s) := by
  rw [claimTo_eq hlist hask]
  refine ⟨holder_of_setReg (ha _) _ t, ?_, fun _ => rfl⟩
  rw [setReg_rf_eq, claimWord_err (by decide) (index_lt w)]

theorem sysClaimResult_apart (i : Nat) : Reg.sysResClaim i ≠ Reg.sysClaimResult := by
  simp only [Reg.sysResClaim, Reg.sysClaimResult]
  omega

/-- The register of LSP's result is no entry of a resource that a request can name. -/
theorem lspClaimResult_apart {i : Nat} (hi : i < 128) : Reg.sysResClaim i ≠ Reg.lspClaimResult := by
  simp only [Reg.sysResClaim, Reg.lspClaimResult]
  omega

/-- Settles O25: each answer of a request, by what its resource is to the claimant. -/
theorem claimsComplete : Obligations.ClaimsComplete := by
  unfold Obligations.ClaimsComplete
  refine ⟨fun s ag w h hlist hclaim hquiet hfree => ?_, fun s ag w h hlist hclaim hquiet hheld => ?_, fun s ag w h hlist hrel hown => ?_,
    fun s ag w h hlist hclaim hquiet hfree hon => ?_, fun s ag w h hlist hrel hheld hother hon => ?_, fun s ag w h hcoil hclaim hquiet hother => ?_⟩
  · obtain ⟨hholder, herr, hbytes⟩ := claimTo_granted (a := Reg.sysClaimResult) (c := 1) (detail := 0) sysClaimResult_apart hlist
      (by rw [hclaim]; exact claimAsk_of_free hlist hquiet hfree)
    refine ⟨_, exec_sysClaim h w, hholder.trans (granted_holder (index_lt w) (by decide) _ s), herr, fun a => ?_⟩
    exact (hbytes a).trans ((within_granted (index_lt w) 1 0 s).2 a)
  · obtain ⟨herr, hentry, honly⟩ := claimTo_refused (a := Reg.sysClaimResult) (c := 1) (detail := 0) (err := Err.resourceBusy) hlist (by decide)
      (by rw [hclaim]; exact claimAsk_of_held hlist hquiet (by omega) (by omega))
    exact ⟨_, exec_sysClaim h w, herr, hentry, honly⟩
  · obtain ⟨hholder, herr, -⟩ := claimTo_granted (a := Reg.sysClaimResult) (c := 1) (detail := 0) sysClaimResult_apart hlist
      (by rw [hrel]; exact releaseAsk_of_holder hlist (by omega) hown)
    exact ⟨_, exec_sysClaim h w, hholder.trans (released_holder (index_lt w) _ s), herr⟩
  · have hask : claimAsk 3 (fld w 10 8) (bit w 31) (fld w 6 0) s = (granted (fld w 6 0) 3 (fld w 10 8) s, Err.none) := by
      rw [hclaim]
      exact claimAsk_of_free hlist hquiet hfree
    refine ⟨_, exec_lspClaim h hon w, ?_, ?_, fun a => ?_⟩
    · rw [claimTo_eq hlist hask, holder_of_setReg (lspClaimResult_apart (index_lt w)), granted_holder (index_lt w) (by decide)]
    · rw [claimTo_eq hlist hask, setReg_rf_eq, claimWord_err (by decide) (index_lt w)]
    · rw [claimTo_eq hlist hask]
      exact (within_granted (index_lt w) 3 (fld w 10 8) s).2 a
  · obtain ⟨herr, -, honly⟩ := claimTo_refused (a := Reg.lspClaimResult) (c := 3) (detail := fld w 10 8) (err := Err.ownerDenied) hlist (by decide)
      (by rw [hrel]; exact releaseAsk_of_other hlist hheld hother)
    exact ⟨_, exec_lspClaim h hon w, herr, honly⟩
  · have hlist : resListed (fld w 6 0) = true := by simp [resListed, hcoil]
    obtain ⟨herr, -, honly⟩ := claimTo_refused (a := Reg.sysClaimResult) (c := 1) (detail := 0) (err := Err.modeAbort) hlist (by decide)
      (by rw [hclaim]; exact claimAsk_of_quiesced hcoil hquiet hother)
    exact ⟨_, exec_sysClaim h w, herr, honly⟩

end Sys2Proof.Proofs
end

section
/-! PROOFS. The panel tag on air (R403–R408, R413): a frame that the tag sends leaves its state on air, and each command's answer. -/

namespace Sys2Proof.Proofs
open Sys2Proof Sys2Proof.Machine Sys2Proof.Laws

/-! ## What the end of a field command leaves of the tag -/

/-- The pages that the end of a field command changes. -/
def tagPages : List Nat := [Page.tagc, Page.dbg]

/-- Of the tag, only the command in progress, the accesses that wait and the flags of the wired side have changed. -/
def OnAirKept (s t : State) : Prop :=
  { t.tag with cmd := s.tag.cmd, waiting := s.tag.waiting, i2cBusy := s.tag.i2cBusy, i2cHeld := s.tag.i2cHeld } = s.tag

theorem onAirKept_refl (s : State) : OnAirKept s s := rfl

theorem onAirKept_trans {s t u : State} (h : OnAirKept s t) (h' : OnAirKept t u) : OnAirKept s u := by
  unfold OnAirKept at *
  calc { u.tag with cmd := s.tag.cmd, waiting := s.tag.waiting, i2cBusy := s.tag.i2cBusy, i2cHeld := s.tag.i2cHeld }
      = { ({ u.tag with cmd := t.tag.cmd, waiting := t.tag.waiting, i2cBusy := t.tag.i2cBusy, i2cHeld := t.tag.i2cHeld } : TagSt) with
          cmd := s.tag.cmd, waiting := s.tag.waiting, i2cBusy := s.tag.i2cBusy, i2cHeld := s.tag.i2cHeld } := rfl
    _ = s.tag := by rw [h', h]

theorem onAirKept_of_eq {s t : State} (h : t.tag = s.tag) : OnAirKept s t := by rw [OnAirKept, h]

/-- A part of the tag that is kept. -/
theorem field_of_onAirKept {α : Type} {s t : State} (h : OnAirKept s t) (f : TagSt → α)
    (hf : ∀ (x : TagSt) c w b i, f { x with cmd := c, waiting := w, i2cBusy := b, i2cHeld := i } = f x) : f t.tag = f s.tag := by
  rw [← hf t.tag s.tag.cmd s.tag.waiting s.tag.i2cBusy s.tag.i2cHeld, h]

/-- A change that keeps the tag's state on air, and registers of other pages. -/
def TagKept (s t : State) : Prop := OnAirKept s t ∧ Within tagPages s t

theorem tagKept_trans {s t u : State} (h : TagKept s t) (h' : TagKept t u) : TagKept s u :=
  ⟨onAirKept_trans h.1 h'.1, within_trans h.2 h'.2⟩

theorem tag_of_onlyRegs {l : List Nat} {s t : State} (h : OnlyRegs l s t) : t.tag = s.tag := field_of_onlyRegs State.tag (fun _ _ => rfl) h

@[simp] theorem detailUsed_tag (d : Nat) (s : State) : (detailUsed d s).tag = s.tag := by unfold detailUsed; split <;> rfl

@[simp] theorem recErr_tag (p code info extra : Nat) (s : State) : (recErr p code info extra s).tag = s.tag := by
  rw [tag_of_onlyRegs (recErr_onlyRegs p code info extra s), errNoted]
  split
  · rw [noteFirst, detailUsed_tag, setReg_tag, setReg_tag, detailUsed_tag]
  · rfl

@[simp] theorem irq_tag (p k : Nat) (s : State) : (irq p k s).tag = s.tag := tag_of_onlyRegs (irq_onlyRegs p k s)

theorem onTagc_tag {f : State → State} (hf : ∀ t, (f t).tag = t.tag) (s : State) : (onTagc f s).tag = s.tag := by
  unfold onTagc sif
  split
  · exact hf s
  · rfl

@[simp] theorem publishNow_tag (p : Nat) (s : State) : (publishNow p s).tag = s.tag := by unfold publishNow; split <;> rfl

theorem within_publishNow (l : List Nat) (p : Nat) (s : State) : Within l s (publishNow p s) := by
  unfold publishNow
  split <;> exact within_of_eq l rfl rfl

theorem within_onTagc {l : List Nat} {f : State → State} (hf : ∀ t, Within l t (f t)) (s : State) : Within l s (onTagc f s) :=
  within_sif _ (hf s)

/-- The report that an access has expired (R422). -/
theorem tagKept_wireBusy (a path : Nat) (s : State) : TagKept s (wireBusy a path s) := by
  have hreport : ∀ u, Within tagPages u (recErr Page.tagc Err.overrun a path (irq Page.tagc 3 (addRf Reg.tagcArbCnt 15 0 1 (setRb Reg.tagcWireStatus 0 true u)))) :=
    fun u => ((((within_refl _ u).setRb (by decide) 0 true).addRf (by decide) 15 0 1).irq (by decide) 3).recErr (by decide) (by decide) _ _ _
  have htag : ∀ u, (recErr Page.tagc Err.overrun a path (irq Page.tagc 3 (addRf Reg.tagcArbCnt 15 0 1 (setRb Reg.tagcWireStatus 0 true u)))).tag = u.tag :=
    fun u => by rw [recErr_tag, irq_tag]; rfl
  refine ⟨?_, (within_onTagc hreport s).eq rfl rfl⟩
  have hkept := onTagc_tag htag s
  unfold OnAirKept wireBusy modTag
  rw [hkept]

theorem tagKept_i2cStop (out : List Word) (s : State) : TagKept s (i2cStop out s) := by
  refine ⟨?_, (within_trans (within_of_eq _ rfl rfl) (within_onTagc (within_publishNow _ _) (busStop s))).eq rfl rfl⟩
  have htag : (i2cStop out s).tag = (busStop s).tag := onTagc_tag (publishNow_tag 0xef) (busStop s)
  unfold OnAirKept
  rw [htag]
  rfl

theorem tagKept_wireExpire (op : WireOp) (s : State) : TagKept s (wireExpire op s) := by
  have hbusy := tagKept_wireBusy op.addr op.path s
  have hidle : ∀ u, TagKept u (tagcIdle u) := fun u => ⟨rfl, (within_refl _ u).setRb (by decide) 1 _⟩
  unfold wireExpire
  cases op with
  | i2cWrite a l n => exact tagKept_trans hbusy (tagKept_i2cStop _ _)
  | i2cRead a n got => exact tagKept_trans hbusy (tagKept_i2cStop _ _)
  | viewRead a => exact ⟨onAirKept_trans hbusy.1 rfl, hbusy.2.eq rfl rfl⟩
  | viewWrite a w => exact hbusy
  | poke a l => exact tagKept_trans hbusy (hidle _)
  | pwSet k l v => exact tagKept_trans hbusy (hidle _)
  | counterInc k n => exact tagKept_trans hbusy (hidle _)

theorem tagKept_foldl {α : Type} {f : State → α → State} (hf : ∀ s x, TagKept s (f s x)) (l : List α) (s : State) : TagKept s (l.foldl f s) := by
  induction l generalizing s with
  | nil => exact ⟨rfl, within_refl _ s⟩
  | cons x l ih => exact tagKept_trans (hf s x) (ih _)

theorem tagKept_cmdOver (e : Nat) (s : State) : TagKept s (cmdOver e s) :=
  tagKept_trans (t := modTag (fun t => { t with cmd := none, waiting := (t.waiting.filter (fun w => !w.expired e)).map (fun w =>
    { w with held := w.held || w.need.any (fun n => decide (n < e)) }) }) s) ⟨rfl, within_of_eq _ rfl rfl⟩
    (tagKept_foldl (fun u (w : WireWait) => tagKept_wireExpire w.op u) _ _)

/-! ## A frame that the tag sends -/

/-- What a reply in one frame leaves: the reply, and the rest of the tag's state on air as it was. -/
theorem tagReply_effect (l : List Byte) (n : Nat) (s : State) :
    (tagReply l n s).tag.reply = l ∧ OnAirKept (modTag (fun x => { x with reply := l, sent := [l] }) s) (tagReply l n s) ∧
      Within tagPages s (tagReply l n s) := by
  have hkept : TagKept (modTag (fun x => { x with reply := l, sent := [l] }) s) (tagReply l n s) := by
    unfold tagReply tagSend
    split
    · exact ⟨rfl, within_of_eq _ rfl rfl⟩
    · exact tagKept_cmdOver s.now (modTag (fun x => { x with reply := l, sent := [l] }) s)
  refine ⟨?_, hkept.1, within_trans (within_of_eq _ rfl rfl) hkept.2⟩
  exact field_of_onAirKept hkept.1 TagSt.reply fun _ _ _ _ _ => rfl

/-- The parts of the tag's state that a reply leaves. -/
theorem tagReply_keeps (l : List Byte) (n : Nat) (s : State) :
    (tagReply l n s).tag.air = s.tag.air ∧ (tagReply l n s).tag.level = s.tag.level ∧ (tagReply l n s).tag.l4 = s.tag.l4 ∧
      (tagReply l n s).tag.cid = s.tag.cid ∧ (tagReply l n s).tag.fsd = s.tag.fsd ∧ (tagReply l n s).tag.selected = s.tag.selected ∧
      (tagReply l n s).tag.auth = s.tag.auth := by
  obtain ⟨-, hkept, -⟩ := tagReply_effect l n s
  have hfield := fun {α : Type} (f : TagSt → α) hf => field_of_onAirKept hkept f hf
  exact ⟨hfield TagSt.air fun _ _ _ _ _ => rfl, hfield TagSt.level fun _ _ _ _ _ => rfl, hfield TagSt.l4 fun _ _ _ _ _ => rfl,
    hfield TagSt.cid fun _ _ _ _ _ => rfl, hfield TagSt.fsd fun _ _ _ _ _ => rfl, hfield TagSt.selected fun _ _ _ _ _ => rfl,
    hfield TagSt.auth fun _ _ _ _ _ => rfl⟩

/-- A frame reaches a tag that is in a field, with no command in progress. -/
theorem onAir_of_field {s : State} (hcmd : s.tag.cmd = none) (hfield : s.tag.field = true) (hon : s.tagFlag 1 = true) (f : State → State) :
    onAir f s = f s := by
  simp only [onAir, tagEndCmd, hcmd, hfield, hon, Bool.and_self, if_true]

theorem otherFrame_of_not_ready {s : State} (h : s.tag.air ≠ .ready) : otherFrame s = s := by rw [otherFrame, if_neg h]

/-! ## The field (R403, R404) -/

theorem irqLevel_irqRaw {p k : Nat} (hk : k < 32) (b : Bool) (s : State) : (irqLevel p k b s).rb (Reg.irqRaw p) k = b := by
  have hstat : ∀ (a : Nat) (j : Nat) (c : Bool) (t : State), a ≠ Reg.irqRaw p → (setRb a j c t).rb (Reg.irqRaw p) k = t.rb (Reg.irqRaw p) k :=
    fun a j c t ha => by rw [State.rb, setRb_reg_ne ha.symm, ← State.rb]
  unfold irqLevel
  split
  · rw [hstat _ _ _ _ (by simp [Reg.irqStat, Reg.irqRaw]), setRb_rb_eq hk]
  · exact setRb_rb_eq hk _ _ s

theorem irqLevel_true_keeps_set {p k x j : Nat} {s : State} (hj : j < 32) (h : s.rb x j = true) : (irqLevel p k true s).rb x j = true := by
  unfold irqLevel
  split
  · exact setRb_true_keeps_set k hj (setRb_true_keeps_set k hj h)
  · exact setRb_true_keeps_set k hj h

/-- An effect on the TAGC page keeps what the tag itself is. -/
def fieldShown (b : Bool) (s : State) : State :=
  modTag (fun t => { t with field := true, air := .idle, level := 1, reserve := b }) (clearSecurity s)

theorem exec_tagFieldOn {s : State} (h : s.tag.field = false) (b : Bool) :
    exec (.tagFieldOn b) s = .next (onTagc (fun u => publishNow 0xed (irqLevel Page.tagc 7 true (irq Page.tagc 0 u))) (fieldShown b s)) := by
  change execTagFieldOn b s = _
  rw [execTagFieldOn, h, if_neg Bool.false_ne_true]
  rfl

/-- What the page shows of a field that has come. -/
theorem fieldOn_page (u : State) :
    (publishNow 0xed (irqLevel Page.tagc 7 true (irq Page.tagc 0 u))).rb (Reg.irqRaw Page.tagc) 0 = true ∧
      (publishNow 0xed (irqLevel Page.tagc 7 true (irq Page.tagc 0 u))).rb (Reg.irqRaw Page.tagc) 7 = true := by
  have hreg : ∀ v x, (publishNow 0xed v).reg x = v.reg x := fun v x => by unfold publishNow; split <;> rfl
  simp only [State.rb, hreg]
  exact ⟨irqLevel_true_keeps_set (by decide) (irq_irqRaw (by decide) u), irqLevel_irqRaw (by decide) true _⟩

theorem irqLevel_tag (p k : Nat) (b : Bool) (s : State) : (irqLevel p k b s).tag = s.tag := tag_of_onlyRegs (irqLevel_onlyRegs p k b s)

/-- The state of the tag when its field has gone (R404). -/
def fieldGone (s : State) : State :=
  modTag (fun t => { t with field := false, air := .noField, level := 1, l4 := false, rest := [], reserve := false }) (clearSecurity s)

theorem exec_tagFieldLost {s : State} (h : s.tag.cmd = none) :
    exec .tagFieldLost s = .next (onTagc (irqLevel Page.tagc 7 false) (fieldGone s)) := by
  change execTagFieldLost s = _
  simp only [execTagFieldLost, tagSettle, h, Option.isSome_none, sif, Bool.false_eq_true, if_false, fieldGone]

/-! ## Settled -/

section
variable {s : State} (hcmd : s.tag.cmd = none) (hfield : s.tag.field = true) (hon : s.tagFlag 1 = true)
include hcmd hfield hon

theorem exec_tagReqa (n : Nat) : exec (.tagReqa n) s = .next (if s.tag.air = .idle then atqa n s else otherFrame s) :=
  congrArg Host.Outcome.next (onAir_of_field hcmd hfield hon _)

theorem exec_tagWupa (n : Nat) :
    exec (.tagWupa n) s = .next (if s.tag.air = .idle ∨ s.tag.air = .halted then atqa n s else otherFrame s) :=
  congrArg Host.Outcome.next (onAir_of_field hcmd hfield hon _)

/-- The rest of a cascade level answers the bits of it that the reader knows. -/
theorem exec_tagAnticollision_agreeing {k : List Bool} (n : Nat) (hready : s.tag.air = .ready)
    (hk : (levelBits (s.cascade s.tag.level)).take k.length = k) :
    exec (.tagAnticollision s.tag.level k n) s = .next (tagReply (packBits ((levelBits (s.cascade s.tag.level)).drop k.length)) n s) := by
  change execTagAnticollision s.tag.level k n s = _
  simp only [execTagAnticollision, onAir_of_field hcmd hfield hon, hready, hk, ne_eq, not_true, or_self, if_false, if_true]

/-- SELECT of the cascade level that the tag is at. -/
theorem exec_tagSelect_own (n : Nat) (hready : s.tag.air = .ready) :
    exec (.tagSelect s.tag.level (s.cascade s.tag.level) n) s =
      .next (if s.tag.level = 1 then tagReply [0x04] n (modTag (fun x => { x with level := 2 }) s)
        else tagReply [0x20] n (modTag (fun x => { x with air := .active, l4 := false }) s)) := by
  change execTagSelect s.tag.level (s.cascade s.tag.level) n s = _
  simp only [execTagSelect, onAir_of_field hcmd hfield hon, hready, ne_eq, not_true, or_self, if_false]

theorem exec_tagHlta : exec .tagHlta s = .next (if s.tag.air = .active ∧ !s.tag.l4 then setAir .halted s else otherFrame s) :=
  congrArg Host.Outcome.next (onAir_of_field hcmd hfield hon _)

/-- The tag enters layer 4 (R408). -/
theorem exec_tagRats_active {param : Nat} (n : Nat) (hactive : s.tag.air = .active) (hl4 : s.tag.l4 = false) (hcid : param % 16 ≤ 14) :
    exec (.tagRats param n) s = .next (tagReply [0x05, 0x78, 0x00, 0x50, 0x02] n (modTag (fun x => { x with
      l4 := true, cid := param % 16, fsd := frameSize (param / 16 % 16), blockNo := true, rest := [] }) s)) := by
  change execTagRats param n s = _
  simp only [execTagRats, onAir_of_field hcmd hfield hon, hactive, hl4, hcid, Bool.not_false, and_self, if_true]

theorem exec_tagPps_own {cid : Nat} (n : Nat) (hown : s.forTag (some cid) = true) :
    exec (.tagPps cid 0 0 n) s = .next (tagReply [BitVec.ofNat 8 (0xd0 + cid)] n s) := by
  change execTagPps cid 0 0 n s = _
  simp only [execTagPps, onAir_of_field hcmd hfield hon, hown, and_self, if_true]

/-- The answer to S(DESELECT): its PCB, and the CID where the block carried one. -/
def deselectAnswer : Option Nat → List Byte
  | none => [0xc2]
  | some c => [0xca, BitVec.ofNat 8 c]

theorem exec_tagDeselect_own {cid : Option Nat} (n : Nat) (hown : s.forTag cid = true) :
    exec (.tagDeselect cid n) s = .next (tagReply (deselectAnswer cid) n
      (modTag (fun x => { x with air := .halted, l4 := false, rest := [] }) (clearSecurity s))) := by
  change execTagDeselect cid n s = _
  simp only [execTagDeselect, onAir_of_field hcmd hfield hon, hown, if_true]
  cases cid <;> rfl

end

theorem deselectAnswer_length (cid : Option Nat) : (deselectAnswer cid).length = 1 + cid.isSome.toNat := by cases cid <;> rfl

/-- ATQA: the tag is READY at the first level. -/
theorem atqa_effect (n : Nat) (s : State) :
    (atqa n s).tag.air = .ready ∧ (atqa n s).tag.level = 1 ∧ (atqa n s).tag.reply = [0x44, 0x00] ∧ SamePages tagPages s (atqa n s) := by
  obtain ⟨hreply, -, hpages, -⟩ := tagReply_effect [0x44, 0x00] n (modTag (fun x => { x with air := .ready, level := 1 }) s)
  obtain ⟨hair, hlevel, -⟩ := tagReply_keeps [0x44, 0x00] n (modTag (fun x => { x with air := .ready, level := 1 }) s)
  exact ⟨hair, hlevel, hreply, hpages⟩

/-- Settles O53: each frame by the tag's state, its reply sent without touching that state. -/
theorem tagAirComplete : Obligations.TagAirComplete := by
  unfold Obligations.TagAirComplete
  refine ⟨fun s b h => ?_, fun s hcmd => ?_, fun s n hcmd hfield hon hidle => ?_, fun s n hcmd hfield hon hhalted => ?_,
    fun s n hcmd hfield hon hair => ?_, fun s lv k n hcmd hfield hon hready hlv hk => ?_, fun s n hcmd hfield hon hready hlevel => ?_,
    fun s n hcmd hfield hon hready hlevel => ?_, fun s hcmd hfield hon hactive hl4 => ?_, fun s param n hcmd hfield hon hactive hl4 hcid => ?_,
    fun s cid n hcmd hfield hon hown => ?_, fun s cid n hcmd hfield hon hown => ?_⟩
  · have htag : (onTagc (fun u => publishNow 0xed (irqLevel Page.tagc 7 true (irq Page.tagc 0 u))) (fieldShown b s)).tag = (fieldShown b s).tag :=
      onTagc_tag (fun t => by rw [publishNow_tag, irqLevel_tag, irq_tag]) _
    obtain ⟨hpages, hbytes⟩ := within_onTagc (l := [Page.tagc])
      (f := fun u => publishNow 0xed (irqLevel Page.tagc 7 true (irq Page.tagc 0 u)))
      (fun t => within_trans (within_trans (within_irq (by decide) 0 t) (within_irqLevel (by decide) 7 true _)) (within_publishNow _ _ _)) (fieldShown b s)
    refine ⟨_, exec_tagFieldOn h b, by rw [htag]; rfl, by rw [htag]; rfl, by rw [htag]; rfl, by rw [htag]; rfl, by rw [htag]; rfl, fun hup => ?_,
      hpages, hbytes⟩
    have hup' : (fieldShown b s).sysUp = true := hup
    rw [onTagc, sif, if_pos hup']
    exact fieldOn_page _
  · have htag : (onTagc (irqLevel Page.tagc 7 false) (fieldGone s)).tag = (fieldGone s).tag := onTagc_tag (irqLevel_tag _ _ _) _
    obtain ⟨hpages, hbytes⟩ := within_onTagc (l := [Page.tagc]) (f := irqLevel Page.tagc 7 false) (within_irqLevel (by decide) 7 false) (fieldGone s)
    exact ⟨_, exec_tagFieldLost hcmd, by rw [htag]; rfl, by rw [htag]; rfl, by rw [htag]; rfl, by rw [htag]; rfl, by rw [htag]; rfl, hpages, hbytes⟩
  · obtain ⟨hair, -, hreply, hpages⟩ := atqa_effect n s
    exact ⟨_, by rw [exec_tagReqa hcmd hfield hon, if_pos hidle], hair, hreply, hpages⟩
  · refine ⟨s, ?_, rfl, fun _ _ => rfl, fun _ => rfl⟩
    rw [exec_tagReqa hcmd hfield hon, if_neg (by rw [hhalted]; decide), otherFrame_of_not_ready (by rw [hhalted]; decide)]
  · obtain ⟨hair', hlevel, hreply, -⟩ := atqa_effect n s
    exact ⟨_, by rw [exec_tagWupa hcmd hfield hon, if_pos hair.symm], hair', hlevel, hreply⟩
  · subst hlv
    obtain ⟨hreply, -⟩ := tagReply_effect (packBits ((levelBits (s.cascade s.tag.level)).drop k.length)) n s
    obtain ⟨hair, -⟩ := tagReply_keeps (packBits ((levelBits (s.cascade s.tag.level)).drop k.length)) n s
    exact ⟨_, exec_tagAnticollision_agreeing hcmd hfield hon n hready hk, hair.trans hready, hreply⟩
  · have hsel := exec_tagSelect_own hcmd hfield hon n hready
    obtain ⟨hreply, -⟩ := tagReply_effect [0x04] n (modTag (fun x => { x with level := 2 }) s)
    obtain ⟨hair, hlevel', -⟩ := tagReply_keeps [0x04] n (modTag (fun x => { x with level := 2 }) s)
    rw [hlevel, if_pos rfl] at hsel
    exact ⟨_, hsel, hair.trans hready, hlevel', hreply⟩
  · have hsel := exec_tagSelect_own hcmd hfield hon n hready
    obtain ⟨hreply, -⟩ := tagReply_effect [0x20] n (modTag (fun x => { x with air := .active, l4 := false }) s)
    obtain ⟨hair, -, hl4, -⟩ := tagReply_keeps [0x20] n (modTag (fun x => { x with air := .active, l4 := false }) s)
    rw [hlevel, if_neg (by decide)] at hsel
    exact ⟨_, hsel, hair, hl4, hreply⟩
  · refine ⟨setAir .halted s, ?_, rfl, rfl, fun _ _ => rfl, fun _ => rfl⟩
    rw [exec_tagHlta hcmd hfield hon, if_pos ⟨hactive, by rw [hl4]; rfl⟩]
  · obtain ⟨hreply, -⟩ := tagReply_effect [0x05, 0x78, 0x00, 0x50, 0x02] n (modTag (fun x => { x with
      l4 := true, cid := param % 16, fsd := frameSize (param / 16 % 16), blockNo := true, rest := [] }) s)
    obtain ⟨-, -, hl4', hcid', hfsd, -⟩ := tagReply_keeps [0x05, 0x78, 0x00, 0x50, 0x02] n (modTag (fun x => { x with
      l4 := true, cid := param % 16, fsd := frameSize (param / 16 % 16), blockNo := true, rest := [] }) s)
    exact ⟨_, exec_tagRats_active hcmd hfield hon n hactive hl4 hcid, hl4', hcid', hfsd, hreply⟩
  · obtain ⟨hreply, -⟩ := tagReply_effect [BitVec.ofNat 8 (0xd0 + cid)] n s
    obtain ⟨-, -, hl4, -⟩ := tagReply_keeps [BitVec.ofNat 8 (0xd0 + cid)] n s
    have hlayer : s.tag.l4 = true := by
      simp only [State.forTag, Bool.and_eq_true] at hown
      exact hown.1.2
    exact ⟨_, exec_tagPps_own hcmd hfield hon n hown, hreply, hl4.trans hlayer⟩
  · obtain ⟨hreply, -⟩ := tagReply_effect (deselectAnswer cid) n
      (modTag (fun x => { x with air := .halted, l4 := false, rest := [] }) (clearSecurity s))
    obtain ⟨hair, -, hl4, -, -, hsel, hauth⟩ := tagReply_keeps (deselectAnswer cid) n
      (modTag (fun x => { x with air := .halted, l4 := false, rest := [] }) (clearSecurity s))
    exact ⟨_, exec_tagDeselect_own hcmd hfield hon n hown, hair, hl4, hsel, hauth, by rw [hreply, deselectAnswer_length]⟩

end Sys2Proof.Proofs
end

section
/-! PROOFS. The compare units and the cadence generators of the field time base (O28; R161–R173). -/

namespace Sys2Proof.Proofs
open Sys2Proof Sys2Proof.Machine Sys2Proof.Laws

/-! ## Writes to a unit's registers, and events at its task input -/

/-- A write that the unit takes has its effect. -/
theorem unitGuardFor_of_unitTakes {s : State} {ag : Agent} {r a : Nat} (h : s.unitTakes ag r a) (eff : State → State) :
    unitGuard ag r a eff s = eff s := by
  obtain ⟨hreach, hholds, hlock, hquiet⟩ := h
  simp only [unitGuard, unitGuardFor, guardedFor, secureGuard_of_reaches hreach, hholds, hlock, hquiet, Bool.not_true, Bool.false_eq_true,
    if_false]

/-- A write that the unit takes goes through at once. -/
theorem hold_unitGuard {s : State} {ag : Agent} {r a : Nat} (h : s.unitTakes ag r a) (w : Word) (eff : State → State) :
    hold ag a w (unitGuard ag r a eff) s = eff s := by
  rw [hold_of_reaches h.1, unitGuardFor_of_unitTakes h]

/-- The state in which an event finds its unit: the event has left the fabric. -/
def taken (e : Task) (s : State) : State := modFab (fun f => { f with tasks := f.tasks.erase e }) s

/-- An event that reaches a unit which can take it acts with its tick (R181). -/
theorem onTask_of_delivers {s : State} {i : Nat} {e : Task} (h : s.delivers i e) {busy : State → Bool} {act : Nat → State → State}
    (hbusy : busy (taken e s) = false) : onTask i busy act s = act e.tick (taken e s) := by
  obtain ⟨hgated, harrives, hquiet⟩ := h
  have htakes : sif (decide (([] : List Task) ≠ [])) (coincide i) (takeTasks [e] s) = taken e s := rfl
  have hq : (taken e s).quiesced (taskPage i) = false := hquiet
  simp only [onTask, hgated, harrives, htakes, hq, hbusy, Bool.false_eq_true, if_false]
  rfl

/-! ## What an error report keeps -/

theorem time_of_onlyRegs {l : List Nat} {s t : State} (h : OnlyRegs l s t) : t.time = s.time := field_of_onlyRegs State.time (fun _ _ => rfl) h

@[simp] theorem irq_time (p k : Nat) (s : State) : (irq p k s).time = s.time := time_of_onlyRegs (irq_onlyRegs p k s)

@[simp] theorem detailUsed_time (d : Nat) (s : State) : (detailUsed d s).time = s.time := by unfold detailUsed; split <;> rfl

@[simp] theorem recErr_time (p code info extra : Nat) (s : State) : (recErr p code info extra s).time = s.time := by
  rw [time_of_onlyRegs (recErr_onlyRegs p code info extra s), errNoted]
  split
  · rw [noteFirst, detailUsed_time, setReg_time, setReg_time, detailUsed_time]
  · rfl

/-- A record of an error clears no bit outside the report of the error itself. -/
theorem recErr_keeps_set {p x j : Nat} {s : State} (code info extra : Nat) (hj : j < 32)
    (hx : x ∉ [Reg.errCode p, Reg.errInfo p, Reg.dbgFirst, Reg.dbgFirstTickLo, Reg.dbgFirstTickHi]) (h : s.rb x j = true) :
    (recErr p code info extra s).rb x j = true := by
  have hnoted : (errNoted p code info extra s).rb x j = true := by
    rw [State.rb, (errNoted_sameRegs p code info extra s) x (fun hm => hx (List.mem_append_left [Reg.dbgFirst, Reg.dbgFirstTickLo, Reg.dbgFirstTickHi] hm))]
    exact h
  have hirq : (irq p 31 (errNoted p code info extra s)).rb x j = true := irq_keeps_set hj hnoted
  rw [recErr_eq]
  cases errClass code with
  | some c => exact faultIn_keeps_set hj (fun hm => hx (List.mem_append_right [Reg.errCode p, Reg.errInfo p] hm)) hirq
  | none => exact hirq

/-! ## The tick to which the time passes -/

theorem forEach_keeps {α : Type} (g : State → α) {l : List Nat} {f : Nat → State → State} (h : ∀ k t, g (f k t) = g t) (s : State) :
    g (forEach l f s) = g s := by
  induction l generalizing s with
  | nil => rfl
  | cons k l ih => exact (ih (f k s)).trans (h k s)

theorem sif_time {c : Bool} {f : State → State} (h : ∀ t, (f t).time = t.time) (s : State) : (sif c f s).time = s.time := by
  unfold sif
  split
  · exact h s
  · rfl

@[simp] theorem irqLevel_time (p k : Nat) (b : Bool) (s : State) : (irqLevel p k b s).time = s.time := time_of_onlyRegs (irqLevel_onlyRegs p k b s)

theorem limitEnd_time (s : State) : (limitEnd s).time = s.time := by
  refine sif_time (fun t => ?_) s
  rw [setReg_time, irqLevel_time]

theorem govShow_time (g : Nat) (s : State) : (govShow g s).time = s.time := by
  rw [govShow, irqLevel_time, setRf, setReg_time, setReg_time]

theorem govReport_time (old g : Nat) (newly : List Nat) (s : State) : (govReport old g newly s).time = s.time := by
  simp only [govReport]
  split
  · rw [recErr_time, irq_time, sif_time (fun t => by rw [addRf, setRf, setReg_time]), addRf, setRf, setReg_time]
  · rfl

theorem govSet_time (g : Nat) (s : State) : (govSet g s).time = s.time := by
  simp only [govSet]
  split
  · rfl
  · split <;> rfl

theorem floorMark_time (g : Nat) (s : State) : (floorMark g s).time = s.time := by
  unfold floorMark
  split
  · exact forEach_keeps State.time (fun n t => by split <;> rfl) s
  · rfl

theorem headFollow_time (c : Nat) (s : State) : (headFollow c s).time = s.time := by
  unfold headFollow
  rw [irqLevel_time, setRb, setReg_time]

/-- A governor's boundary does not move the time. -/
theorem govern_time (s : State) : (govern s).time = s.time := by
  unfold govern
  split
  · rfl
  · rw [forEach_keeps State.time headFollow_time, floorMark_time, govReport_time, govShow_time]
    show (govSet _ _).time = s.time
    rw [govSet_time, forEach_keeps State.time (fun c t => by rw [modCoil, setCoil_time]), limitEnd_time]

theorem governAt_time (b : Nat) (s : State) : (governAt b s).time = s.time := by
  rw [governAt, modTime_time, govern_time]
  rfl

theorem chainEdge_time (n t : Nat) (s : State) : (chainEdge n t s).time = s.time := by
  unfold chainEdge
  split
  · rfl
  · split
    · rfl
    · split <;> rfl

/-- Time passes to a tick: the FTB alone moves, and never back (R157). -/
theorem passTo_time (t : Nat) (s : State) : (passTo t s).time = { s.time with ftb := max s.now t % 2 ^ 64 } := by
  have hfold : ∀ (l : List Nat) (u : State), (l.foldl (fun u b => governAt b u) u).time = u.time := fun l => by
    induction l with
    | nil => exact fun u => rfl
    | cons b l ih => exact fun u => (ih _).trans (governAt_time b u)
  have hgov : ∀ u : State, u.time = s.time → (advance t u).time = { s.time with ftb := max s.now t % 2 ^ 64 } := fun u h => by
    simp only [advance, h, State.now]
  rw [passTo, chainsNow, forEach_keeps State.time (fun n u => chainEdge_time n _ u), passGov]
  refine hgov _ ?_
  split
  · rfl
  · exact hfold _ s

theorem passTo_now (t : Nat) (s : State) : (passTo t s).now = max s.now t % 2 ^ 64 := by rw [State.now, passTo_time]

/-! ## Compare units -/

theorem wakeSource_same (k : Nat) (s : State) :
    (wakeSource k s).regs = s.regs ∧ (wakeSource k s).mem = s.mem ∧ (wakeSource k s).time = s.time := by
  unfold wakeSource
  split <;> exact ⟨rfl, rfl, rfl⟩

/-- What has fired on compare unit `k` when its lateness is not yet reported. -/
def cmpFiredOnTime (k f : Nat) (s : State) : State :=
  sif (s.rb (Reg.ftbCmpCtrl k) 1) (fun u => wakeSource 5 (irq Page.ftb 0 u))
    (setRb Reg.ftbCmpFired k true (setRb (Reg.ftbCmpCtrl k) 0 false (publish k f s)))

theorem cmpFired_eq (k f : Nat) (late : Bool) (s : State) :
    cmpFired k f late s =
      sif late (fun u => recLate Page.ftb (s.cmpTarget k) f (irq Page.ftb 1 (setRb Reg.ftbCmpLate k true u))) (cmpFiredOnTime k f s) := rfl

theorem cmpFiredOnTime_within (k : CmpIx) (f : Nat) (s : State) : Within [Page.ftb] s (cmpFiredOnTime k f s) := by
  have hk : (k : Nat) < 32 := k.isLt
  have hctrl : Reg.ftbCmpCtrl k / 0x1000 ∈ [Page.ftb] := by
    rw [List.mem_singleton]; simp only [Reg.ftbCmpCtrl, Page.ftb]; omega
  refine Within.sif (((Within.publish (within_refl _ s) _ _).setRb hctrl 0 false).setRb (by decide) k true) _ fun t ht => ?_
  obtain ⟨hregs, hmem, -⟩ := wakeSource_same 5 (irq Page.ftb 0 t)
  exact (ht.irq (by decide) 0).eq hregs hmem

/-- A unit that has fired is disarmed, shown as fired, and reported where its IRQ bit asks for it (R163). -/
theorem cmpFiredOnTime_effect (k : CmpIx) (f : Nat) (s : State) :
    (cmpFiredOnTime k f s).rb (Reg.ftbCmpCtrl k) 0 = false ∧ (cmpFiredOnTime k f s).rb Reg.ftbCmpFired k = true ∧
      (s.rb (Reg.ftbCmpCtrl k) 1 = true → (cmpFiredOnTime k f s).rb (Reg.irqRaw Page.ftb) 0 = true) ∧
      (cmpFiredOnTime k f s).now = s.now ∧ (cmpFiredOnTime k f s).reg (Reg.errCode Page.ftb) = s.reg (Reg.errCode Page.ftb) := by
  have hk : (k : Nat) < 32 := k.isLt
  have hne : Reg.ftbCmpCtrl k ≠ Reg.ftbCmpFired := by simp only [Reg.ftbCmpCtrl, Reg.ftbCmpFired]; omega
  have herr : Reg.errCode Page.ftb ≠ Reg.ftbCmpCtrl k := by simp only [Reg.ftbCmpCtrl, Reg.errCode, Page.ftb]; omega
  have hout : Reg.ftbCmpCtrl k ∉ [Reg.irqRaw Page.ftb, Reg.irqStat Page.ftb] := by
    simp only [Reg.ftbCmpCtrl, Reg.irqRaw, Reg.irqStat, Page.ftb, List.mem_cons, List.not_mem_nil, or_false]; omega
  generalize hu : setRb Reg.ftbCmpFired k true (setRb (Reg.ftbCmpCtrl k) 0 false (publish k f s)) = u
  have hctrl : u.rb (Reg.ftbCmpCtrl k) 0 = false := by rw [← hu, State.rb, setRb_reg_ne hne, ← State.rb, setRb_rb_eq (by decide)]
  have hfired : u.rb Reg.ftbCmpFired k = true := by rw [← hu, setRb_rb_eq hk]
  have hcode : u.reg (Reg.errCode Page.ftb) = s.reg (Reg.errCode Page.ftb) := by
    rw [← hu, setRb_reg_ne (by decide), setRb_reg_ne herr]; rfl
  have hnow : u.now = s.now := by rw [← hu]; rfl
  have hirq : SameRegs [Reg.irqRaw Page.ftb, Reg.irqStat Page.ftb] u (irq Page.ftb 0 u) := (irq_onlyRegs Page.ftb 0 u).1
  obtain ⟨hregs, -, htime⟩ := wakeSource_same 5 (irq Page.ftb 0 u)
  have hreg : ∀ x, (wakeSource 5 (irq Page.ftb 0 u)).reg x = (irq Page.ftb 0 u).reg x := fun x => by rw [State.reg, State.reg, hregs]
  have hsame : cmpFiredOnTime k f s = sif (s.rb (Reg.ftbCmpCtrl k) 1) (fun u => wakeSource 5 (irq Page.ftb 0 u)) u := by rw [← hu]; rfl
  rw [hsame]
  cases s.rb (Reg.ftbCmpCtrl k) 1 with
  | false => exact ⟨hctrl, hfired, fun h => absurd h (by decide), hnow, hcode⟩
  | true =>
    refine ⟨?_, ?_, fun _ => ?_, ?_, ?_⟩
    · rw [sif, if_pos rfl, State.rb, hreg, hirq _ hout]; exact hctrl
    · rw [sif, if_pos rfl, State.rb, hreg]; exact irq_keeps_set hk hfired
    · rw [sif, if_pos rfl, State.rb, hreg]; exact irq_irqRaw (by decide) u
    · rw [sif, if_pos rfl, State.now, htime, irq_time]; exact hnow
    · rw [sif, if_pos rfl, hreg, hirq _ (by decide)]; exact hcode

/-- A unit that fires late says so (R164). -/
theorem cmpFired_effect (k : CmpIx) (f : Nat) (late : Bool) (s : State) :
    (cmpFired k f late s).rb (Reg.ftbCmpCtrl k) 0 = false ∧ (cmpFired k f late s).rb Reg.ftbCmpFired k = true ∧
      (late = true → (cmpFired k f late s).rb Reg.ftbCmpLate k = true ∧
        (s.rf (Reg.errCode Page.ftb) 15 10 = 0 → (cmpFired k f late s).rf (Reg.errCode Page.ftb) 7 0 = Err.late)) ∧
      (s.rb (Reg.ftbCmpCtrl k) 1 = true → (cmpFired k f late s).rb (Reg.irqRaw Page.ftb) 0 = true) ∧
      (cmpFired k f late s).now = s.now ∧ SameBytes s (cmpFired k f late s) := by
  have hk : (k : Nat) < 32 := k.isLt
  obtain ⟨hctrl, hfired, hraw, hnow, hcode⟩ := cmpFiredOnTime_effect k f s
  have hbytes := (cmpFiredOnTime_within k f s).2
  rw [cmpFired_eq]
  cases late with
  | false => exact ⟨hctrl, hfired, fun h => absurd h (by decide), hraw, hnow, hbytes⟩
  | true =>
    rw [sif, if_pos rfl]
    generalize cmpFiredOnTime k f s = u at *
    have hlate : (irq Page.ftb 1 (setRb Reg.ftbCmpLate k true u)).rb Reg.ftbCmpLate k = true :=
      irq_keeps_set hk (setRb_rb_eq hk _ _ u)
    have hsameCode : (irq Page.ftb 1 (setRb Reg.ftbCmpLate k true u)).reg (Reg.errCode Page.ftb) = s.reg (Reg.errCode Page.ftb) := by
      rw [(irq_onlyRegs Page.ftb 1 _).1 _ (by decide), setRb_reg_ne (by decide), hcode]
    have hout : Reg.ftbCmpCtrl k ∉ reportRegs Page.ftb := by
      simp only [Reg.ftbCmpCtrl, reportRegs, Reg.errCode, Reg.errInfo, Reg.irqRaw, Reg.irqStat, Reg.dbgFaultSum, Reg.dbgFirst,
        Reg.dbgFirstTickLo, Reg.dbgFirstTickHi, Page.ftb, Page.dbg, List.mem_cons, List.not_mem_nil, or_false]; omega
    have hout' : Reg.ftbCmpCtrl k ∉ [Reg.irqRaw Page.ftb, Reg.irqStat Page.ftb] := by
      simp only [Reg.ftbCmpCtrl, Reg.irqRaw, Reg.irqStat, Page.ftb, List.mem_cons, List.not_mem_nil, or_false]; omega
    have hne : Reg.ftbCmpCtrl k ≠ Reg.ftbCmpLate := by simp only [Reg.ftbCmpCtrl, Reg.ftbCmpLate]; omega
    have hsmall : min 0xffff (f - s.cmpTarget k) ≠ openDetail := by
      have := Nat.min_le_left 0xffff (f - s.cmpTarget k)
      simp only [openDetail]; omega
    refine ⟨?_, recErr_keeps_set _ _ _ hk (by decide) (irq_keeps_set hk (setRb_true_keeps_set _ hk hfired)),
      fun _ => ⟨recErr_keeps_set _ _ _ hk (by decide) hlate, fun hnone => ?_⟩,
      fun h => recErr_keeps_set _ _ _ (by decide) (by decide) (irq_keeps_set (by decide) (setRb_true_keeps_set _ (by decide) (hraw h))), ?_, ?_⟩
    · rw [State.rb, recLate, recErr_sameRegs _ _ _ _ _ _ hout, (irq_onlyRegs Page.ftb 1 _).1 _ hout', setRb_reg_ne hne]
      exact hctrl
    · have hcount : (irq Page.ftb 1 (setRb Reg.ftbCmpLate k true u)).rf (Reg.errCode Page.ftb) 15 10 = 0 := by
        rw [State.rf, hsameCode]; exact hnone
      rw [State.rf, recLate, recErr_first_errCode hsmall _ _ hcount]
      exact firstErrWord_code (by decide) _
    · have htime : (recLate Page.ftb (s.cmpTarget k) f (irq Page.ftb 1 (setRb Reg.ftbCmpLate k true u))).now = u.now := by
        rw [State.now, recLate, recErr_time, irq_time]; rfl
      rw [htime, hnow]
    · have hset : Within [Page.ftb, Page.dbg] u (irq Page.ftb 1 (setRb Reg.ftbCmpLate k true u)) :=
        ((within_refl _ u).setRb (by decide) k true).irq (by decide) 1
      exact fun a => ((hset.recErr (by decide) (by decide) _ _ _).2 a).trans (hbytes a)

/-- The unit that is armed on an edge fires first what is due there (R163, R165). -/
theorem cmpRearm_effect {k : CmpIx} {s : State} (h : s.rb (Reg.ftbCmpCtrl k) 0 = true → s.cmpDue k = true) :
    (cmpRearm k s).rb (Reg.ftbCmpCtrl k) 0 = true ∧ tabGet 0 (cmpRearm k s).time.cmpArmed k = s.now ∧
      SameRegs [Reg.ftbCmpCtrl k] (cmpSettle k s) (cmpRearm k s) ∧ SameBytes s (cmpRearm k s) := by
  have hsettled : (cmpSettle k s).rb (Reg.ftbCmpCtrl k) 0 = false ∧ (cmpSettle k s).now = s.now ∧ SameBytes s (cmpSettle k s) := by
    unfold cmpSettle
    cases hdue : s.cmpDue k with
    | false => exact ⟨by simpa [sif, hdue] using h, rfl, fun _ => rfl⟩
    | true =>
      obtain ⟨hctrl, -, -, -, hnow, hbytes⟩ := cmpFired_effect k (s.cmpFires k) (s.cmpLate k) s
      simp only [sif, if_true]
      exact ⟨hctrl, hnow, hbytes⟩
  obtain ⟨hidle, hnow, hbytes⟩ := hsettled
  have harm : cmpRearm k s = cmpArm k (cmpSettle k s) := by
    simp only [cmpRearm, sif, hidle, Bool.not_false, if_true]
  rw [harm]
  generalize cmpSettle k s = u at *
  refine ⟨setRb_rb_eq (by decide) _ true u, ?_, fun a ha => setRb_reg_ne (by simpa using ha) 0 true u, hbytes⟩
  have htime : (cmpArm k u).time.cmpArmed = tabSet 0 u.time.cmpArmed k u.now := by
    simp only [cmpArm, cmpFrom, modTime_time, setRb, setReg_time, setReg_now]
  rw [htime, tabGet_tabSet_self, hnow]

/-- A unit whose firing tick has not come stays as it is. -/
theorem cmpRearm_of_armed {k : Nat} {s : State} (harmed : s.rb (Reg.ftbCmpCtrl k) 0 = true) (hdue : s.cmpDue k = false) : cmpRearm k s = s := by
  simp only [cmpRearm, cmpSettle, sif, hdue, harmed, Bool.not_true, Bool.false_eq_true, if_false]

/-- The state in which a new target of compare unit `k` stands whole (R165). -/
def cmpTargetSet (k : Nat) (hi : Word) (s : State) : State :=
  setReg (Reg.ftbCmpTargetHi k) hi (setReg (Reg.ftbCmpTargetLo k) (s.loFor (Reg.ftbCmpTargetLo k)) (dropLo (Reg.ftbCmpTargetLo k) s))

theorem cmpTargetSet_target (k : Nat) (hi : Word) (s : State) :
    (cmpTargetSet k hi s).cmpTarget k = pair (s.loFor (Reg.ftbCmpTargetLo k)) hi := by
  have hhi : Reg.ftbCmpTargetLo k + 4 = Reg.ftbCmpTargetHi k := by simp only [Reg.ftbCmpTargetLo, Reg.ftbCmpTargetHi]; omega
  have hne : Reg.ftbCmpTargetLo k ≠ Reg.ftbCmpTargetHi k := by simp only [Reg.ftbCmpTargetLo, Reg.ftbCmpTargetHi]; omega
  rw [State.cmpTarget, State.regPair, hhi, cmpTargetSet, setReg_reg_eq, setReg_reg_ne hne, setReg_reg_eq]

theorem cmpTargetSet_same (k : Nat) (hi : Word) (s : State) :
    SameRegs [Reg.ftbCmpTargetLo k, Reg.ftbCmpTargetHi k] s (cmpTargetSet k hi s) := by
  intro a ha
  obtain ⟨hlo, hhi⟩ : a ≠ Reg.ftbCmpTargetLo k ∧ a ≠ Reg.ftbCmpTargetHi k := by simpa using ha
  rw [cmpTargetSet, setReg_reg_ne hhi, setReg_reg_ne hlo]
  rfl

/-! ## Cadence generators -/

/-- A field that is the whole word counts modulo 2^32. -/
theorem setFld_whole_add_one (w : Word) : setFld w 31 0 (fld w 31 0 + 1) = w + 1 := by
  have hmask : w &&& ~~~ maskWord 31 0 = 0#32 := by
    rw [show ~~~ maskWord 31 0 = 0#32 by decide, BitVec.and_zero]
  apply BitVec.eq_of_toNat_eq
  rw [setFld, hmask, BitVec.zero_or, BitVec.toNat_ofNat, BitVec.toNat_add, fld]
  have hone : (1 : Word).toNat = 1 := rfl
  simp only [hone, Nat.shiftLeft_zero, Nat.shiftRight_zero, Nat.sub_zero, Nat.reduceAdd, Nat.reducePow]
  omega

theorem ftb_not_mem_timePages : Page.ftb ∉ timePages := by decide

/-- A wrap counts, shows and reports itself (R166). -/
theorem cadWrapped_effect (g : CadIx) (s : State) :
    (cadWrapped g s).reg (Reg.ftbCadWraps g) = s.reg (Reg.ftbCadWraps g) + 1 ∧ (cadWrapped g s).time = s.time ∧
      (cadWrapped g s).rb (Reg.ftbCadStatus g) 0 = true ∧
      (s.rb (Reg.ftbCadCtrl g) 2 = true → (cadWrapped g s).rb (Reg.irqRaw Page.ftb) 2 = true) ∧ Within [Page.ftb] s (cadWrapped g s) := by
  have hg : (g : Nat) < 8 := g.isLt
  have hwraps : Reg.ftbCadWraps g / 0x1000 ∈ [Page.ftb] := by rw [List.mem_singleton]; simp only [Reg.ftbCadWraps, Page.ftb]; omega
  have hstatus : Reg.ftbCadStatus g / 0x1000 ∈ [Page.ftb] := by rw [List.mem_singleton]; simp only [Reg.ftbCadStatus, Page.ftb]; omega
  have hne : Reg.ftbCadWraps g ≠ Reg.ftbCadStatus g := by simp only [Reg.ftbCadWraps, Reg.ftbCadStatus]; omega
  have hout : Reg.ftbCadWraps g ∉ [Reg.irqRaw Page.ftb, Reg.irqStat Page.ftb] := by
    simp only [Reg.ftbCadWraps, Reg.irqRaw, Reg.irqStat, Page.ftb, List.mem_cons, List.not_mem_nil, or_false]; omega
  generalize hu : setRb (Reg.ftbCadStatus g) 0 true (wrapRf (Reg.ftbCadWraps g) 31 0 1 (publish (0x20 + g) s.now s)) = u
  have hcount : u.reg (Reg.ftbCadWraps g) = s.reg (Reg.ftbCadWraps g) + 1 := by
    rw [← hu, setRb_reg_ne hne, wrapRf, setRf, setReg_reg_eq]
    exact setFld_whole_add_one _
  have hshown : u.rb (Reg.ftbCadStatus g) 0 = true := by rw [← hu]; exact setRb_rb_eq (by decide) _ _ _
  have htime : u.time = s.time := by rw [← hu]; rfl
  have hwithin : Within [Page.ftb] s u := by
    rw [← hu]
    exact ((Within.publish (within_refl _ s) _ _).setRf hwraps _ _ _).setRb hstatus _ _
  have hsame : cadWrapped g s = sif (s.rb (Reg.ftbCadCtrl g) 2) (irq Page.ftb 2) u := by rw [← hu]; rfl
  rw [hsame]
  cases s.rb (Reg.ftbCadCtrl g) 2 with
  | false => exact ⟨hcount, htime, hshown, fun h => absurd h (by decide), hwithin⟩
  | true =>
    rw [sif, if_pos rfl]
    exact ⟨by rw [(irq_onlyRegs Page.ftb 2 u).1 _ hout, hcount], by rw [irq_time, htime], irq_keeps_set (by decide) hshown,
      fun _ => irq_irqRaw (by decide) u, hwithin.irq (by decide) 2⟩

/-- A register every bit of which is stored as written (R139). -/
theorem newInUse_of_plain {a : Nat}
    (hrow : (rowAt a).map (fun r => (r.maskOf (fun f => f.acc.stores && !(false && f.staged)),
      r.maskOf (fun f => f.acc == .w1c), r.maskOf (fun f => f.acc == .w1s))) = some (BitVec.allOnes 32, 0, 0)) (w old : Word) :
    newInUse a false w old = w := by
  obtain ⟨r, hr, hmasks⟩ := Option.map_eq_some_iff.mp hrow
  obtain ⟨hm, hc, ht⟩ : _ ∧ _ ∧ _ := by simpa only [Prod.mk.injEq] using hmasks
  simp only [newInUse, hr, hm, hc, ht]
  have hones : ∀ v : Word, v &&& BitVec.allOnes 32 = v := fun v => BitVec.and_allOnes
  simp only [hones, BitVec.not_allOnes, BitVec.and_zero, BitVec.zero_or, BitVec.or_zero, BitVec.ofNat_eq_ofNat]
  exact hones w

theorem newInUse_ftbCadPeriod (g : CadIx) (w old : Word) : newInUse (Reg.ftbCadPeriod g) false w old = w := by
  have hrow : ∀ g : CadIx, (rowAt (Reg.ftbCadPeriod g)).map (fun r => (r.maskOf (fun f => f.acc.stores && !(false && f.staged)),
      r.maskOf (fun f => f.acc == .w1c), r.maskOf (fun f => f.acc == .w1s))) = some (BitVec.allOnes 32, 0, 0) := by decide +kernel
  exact newInUse_of_plain (hrow g) w old

/-- What a register shows before its value in use changes: the staged shadow, and nothing that a page's registers, its memory or its
units' times hold. -/
theorem storeWith_eq (a : Nat) (w : Word) (inUse : Word → State → State) (s : State) :
    ∃ u : State, storeWith a w inUse s = inUse (newInUse a (s.rb (Reg.stageCtrl (a / 0x1000)) 0) w (s.reg a)) u ∧
      u.regs = s.regs ∧ u.mem = s.mem ∧ u.time = s.time := by
  refine ⟨_, rfl, ?_⟩
  split
  · unfold sif
    split <;> exact ⟨rfl, rfl, rfl⟩
  · exact ⟨rfl, rfl, rfl⟩

theorem cadCount_congr {s t : State} (hreg : ∀ a, t.reg a = s.reg a) (htime : t.time = s.time) (g : Nat) : t.cadCount g = s.cadCount g := by
  have hrb : t.rb (Reg.ftbCadCtrl g) 0 = s.rb (Reg.ftbCadCtrl g) 0 := by rw [State.rb, State.rb, hreg]
  rw [State.cadCount, State.cadCount, hrb, hreg, State.now, State.now, htime]

/-- A period in use: COUNT goes on below it, or the generator wraps on the next tick (R168). -/
theorem cadPeriodInUse_effect {g : CadIx} {s : State} (w : Word) (hrun : s.rb (Reg.ftbCadCtrl g) 0 = true)
    (hzero : tabGet 0 s.time.cadZero g ≤ s.now) :
    (cadPeriodInUse g w s).reg (Reg.ftbCadPeriod g) = w ∧ (cadPeriodInUse g w s).cadPeriod g = max 16 w.toNat ∧
      (s.cadCount g + 2 ≤ max 16 w.toNat → tabGet 0 (cadPeriodInUse g w s).time.cadNext g = tabGet 0 s.time.cadZero g + max 16 w.toNat) ∧
      (max 16 w.toNat ≤ s.cadCount g + 1 → tabGet 0 (cadPeriodInUse g w s).time.cadNext g = s.now + 1) ∧
      SameRegs [Reg.ftbCadPeriod g] s (cadPeriodInUse g w s) ∧ SameBytes s (cadPeriodInUse g w s) := by
  have hperiod : (setReg (Reg.ftbCadPeriod g) w s).cadPeriod g = max 16 w.toNat := by rw [State.cadPeriod, setReg_reg_eq]
  have hnext : ∀ z n, tabGet 0 (cadSet g z n (setReg (Reg.ftbCadPeriod g) w s)).time.cadNext g = n := fun z n => by
    simp only [cadSet, modTime_time, tabGet_tabSet_self]
  have hset : ∀ z n, (cadSet g z n (setReg (Reg.ftbCadPeriod g) w s)).regs = (setReg (Reg.ftbCadPeriod g) w s).regs := fun _ _ => rfl
  have hregs : (cadPeriodInUse g w s).regs = (setReg (Reg.ftbCadPeriod g) w s).regs := by
    simp only [cadPeriodInUse, hrun, hzero, and_self, if_true]
    split <;> rfl
  have hreg : ∀ a, (cadPeriodInUse g w s).reg a = (setReg (Reg.ftbCadPeriod g) w s).reg a := fun a => by rw [State.reg, State.reg, hregs]
  have hnew : (cadPeriodInUse g w s).reg (Reg.ftbCadPeriod g) = w := by rw [hreg, setReg_reg_eq]
  refine ⟨hnew, by rw [State.cadPeriod, hnew], fun h => ?_, fun h => ?_, fun a ha => ?_, ?_⟩
  · simp only [cadPeriodInUse, hrun, hzero, and_self, if_true, hperiod, if_pos h, hnext]
  · simp only [cadPeriodInUse, hrun, hzero, and_self, if_true, hperiod, if_neg (show ¬ s.cadCount g + 2 ≤ max 16 w.toNat by omega), hnext]
  · rw [hreg, setReg_reg_ne (by simpa using ha)]
  · simp only [cadPeriodInUse, hrun, hzero, and_self, if_true]
    split <;> exact fun _ => rfl

/-- A write of CADg_CTRL that changes RUN alone acts as if IRQ and AT were not written (R166). -/
theorem cadRunWrite_eq {s : State} {ag : Agent} {g : CadIx} (h : s.unitTakes ag (0x40 + g) (Reg.ftbCadCtrl g)) {b : Bool}
    (hb : s.rb (Reg.ftbCadCtrl g) 0 = !b) :
    ∃ u : State, cadRunWrite ag g b s = (if b then ftbAct (cadRun g) u else cadStop g u) ∧ (∀ a, u.reg a = s.reg a) ∧ u.mem = s.mem ∧
      u.time = s.time ∧ OnlyRegs [Reg.ftbCadCtrl g] s u := by
  have hguard : ∀ eff, hold ag (Reg.ftbCadCtrl g) (setBit (s.reg (Reg.ftbCadCtrl g)) 0 b)
      (unitGuardFor (BitVec.allOnes 32) ag (0x40 + g) (Reg.ftbCadCtrl g) eff) s = eff s := fun eff => hold_unitGuard h _ eff
  have hbit0 : bit (setBit (s.reg (Reg.ftbCadCtrl g)) 0 b) 0 = b := bit_setBit_eq _ b (by decide)
  have hbit1 : bit (setBit (s.reg (Reg.ftbCadCtrl g)) 0 b) 1 = s.rb (Reg.ftbCadCtrl g) 1 := bit_setBit_ne _ b (by decide) (by decide)
  have hbit2 : bit (setBit (s.reg (Reg.ftbCadCtrl g)) 0 b) 2 = s.rb (Reg.ftbCadCtrl g) 2 := bit_setBit_ne _ b (by decide) (by decide)
  have hone : ∀ a, (setRb (Reg.ftbCadCtrl g) 1 (s.rb (Reg.ftbCadCtrl g) 1) s).reg a = s.reg a := fun a => setRb_self_reg _ 1 a s
  have htwo : s.rb (Reg.ftbCadCtrl g) 2 = (setRb (Reg.ftbCadCtrl g) 1 (s.rb (Reg.ftbCadCtrl g) 1) s).rb (Reg.ftbCadCtrl g) 2 := by
    rw [State.rb, State.rb, hone]
  refine ⟨setRb (Reg.ftbCadCtrl g) 2 (s.rb (Reg.ftbCadCtrl g) 2) (setRb (Reg.ftbCadCtrl g) 1 (s.rb (Reg.ftbCadCtrl g) 1) s), ?_, fun a => ?_,
    rfl, rfl, ?_⟩
  · rw [cadRunWrite, cadCtrlWrite, hguard]
    simp only [hbit0, hbit1, hbit2, hb]
    cases b <;> simp
  · rw [htwo, setRb_self_reg, hone]
  · exact onlyRegs_trans (setRb_onlyRegs (List.mem_singleton_self _) _ _ _) (setRb_onlyRegs (List.mem_singleton_self _) _ _ _)

/-- A generator that starts at once has its first wrap on the next tick (R166). -/
theorem cadRun_at_once {g : CadIx} {s : State} (hat : s.rb (Reg.ftbCadCtrl g) 1 = false) :
    cadRun g s = cadSet g (s.now + 1) (s.now + 1) (setRb (Reg.ftbCadCtrl g) 0 true s) := by
  simp only [cadRun, hat, if_true]

/-! ## Capture units -/

theorem pair_lo_hi (t : Nat) : pair (loWord t) (hiWord t) = t % 2 ^ 64 := by
  simp only [pair, loWord, hiWord, BitVec.toNat_ofNat]
  omega

/-- A captured tick is stored, shown as valid and reported (R170). -/
theorem capStore_effect (c : CapIx) (t : Nat) (s : State) :
    (capStore c t s).regPair (Reg.ftbCapLo c) = t % 2 ^ 64 ∧ (capStore c t s).rb (Reg.ftbCapStatus c) 0 = true ∧
      (s.rb (Reg.ftbCapCtrl c) 2 = true → (capStore c t s).rb (Reg.irqRaw Page.ftb) 3 = true) ∧ Within [Page.ftb] s (capStore c t s) := by
  have hc : (c : Nat) < 4 := c.isLt
  have hlo : Reg.ftbCapLo c / 0x1000 ∈ [Page.ftb] := by rw [List.mem_singleton]; simp only [Reg.ftbCapLo, Page.ftb]; omega
  have hhi : (Reg.ftbCapLo c + 4) / 0x1000 ∈ [Page.ftb] := by rw [List.mem_singleton]; simp only [Reg.ftbCapLo, Page.ftb]; omega
  have hstatus : Reg.ftbCapStatus c / 0x1000 ∈ [Page.ftb] := by rw [List.mem_singleton]; simp only [Reg.ftbCapStatus, Page.ftb]; omega
  have hne : Reg.ftbCapLo c ≠ Reg.ftbCapStatus c := by simp only [Reg.ftbCapLo, Reg.ftbCapStatus]; omega
  have hne' : Reg.ftbCapLo c + 4 ≠ Reg.ftbCapStatus c := by simp only [Reg.ftbCapLo, Reg.ftbCapStatus]; omega
  have hout : Reg.ftbCapLo c ∉ [Reg.irqRaw Page.ftb, Reg.irqStat Page.ftb] := by
    simp only [Reg.ftbCapLo, Reg.irqRaw, Reg.irqStat, Page.ftb, List.mem_cons, List.not_mem_nil, or_false]; omega
  have hout' : Reg.ftbCapLo c + 4 ∉ [Reg.irqRaw Page.ftb, Reg.irqStat Page.ftb] := by
    simp only [Reg.ftbCapLo, Reg.irqRaw, Reg.irqStat, Page.ftb, List.mem_cons, List.not_mem_nil, or_false]; omega
  generalize hu : setRb (Reg.ftbCapStatus c) 0 true (setPair (Reg.ftbCapLo c) t s) = u
  have hpair : u.reg (Reg.ftbCapLo c) = loWord t ∧ u.reg (Reg.ftbCapLo c + 4) = hiWord t := by
    rw [← hu, setRb_reg_ne hne, setRb_reg_ne hne', setPair, setReg_reg_eq, setReg_reg_ne (by omega), setReg_reg_eq]
    exact ⟨rfl, rfl⟩
  obtain ⟨hloWord, hhiWord⟩ := hpair
  have hshown : u.rb (Reg.ftbCapStatus c) 0 = true := by rw [← hu]; exact setRb_rb_eq (by decide) _ _ _
  have hwithin : Within [Page.ftb] s u := by
    rw [← hu]
    exact (((within_refl _ s).setReg hlo _).setReg hhi _).setRb hstatus _ _
  have hsame : capStore c t s = sif (s.rb (Reg.ftbCapCtrl c) 2) (irq Page.ftb 3) u := by rw [← hu]; rfl
  rw [hsame]
  cases s.rb (Reg.ftbCapCtrl c) 2 with
  | false => exact ⟨by rw [sif, if_neg (by decide), State.regPair, hloWord, hhiWord, pair_lo_hi], hshown, fun h => absurd h (by decide), hwithin⟩
  | true =>
    rw [sif, if_pos rfl]
    have hirq := (irq_onlyRegs Page.ftb 3 u).1
    exact ⟨by rw [State.regPair, hirq _ hout, hirq _ hout', hloWord, hhiWord, pair_lo_hi],
      irq_keeps_set (by decide) hshown, fun _ => irq_irqRaw (by decide) u, hwithin.irq (by decide) 3⟩

/-- Settles O28: each write and event by the effect of the function that it stands for. -/
theorem compareAndCadenceComplete : Obligations.CompareAndCadenceComplete := by
  unfold Obligations.CompareAndCadenceComplete
  refine ⟨fun s ag k htake hon hdue => ?_, fun s ag k htake hon harmed hdue => ?_, fun s ag k w htake => ?_,
    fun s k harmed hruns hquiet hnone => ?_, fun s ag g htake hidle hat hon => ?_, fun s ag g htake hrun => ?_,
    fun s g hrun hruns hquiet => ?_, fun s ag g w htake hstage hrun hzero => ?_, fun s e c hdeliver hon hlatch hvalid => ?_⟩
  · obtain ⟨harm, hfrom, hregs, hbytes⟩ := cmpRearm_effect hdue
    refine ⟨cmpRearm k s, ?_, harm, hfrom, hregs, hbytes⟩
    change Host.Outcome.next (hold _ _ _ (unitGuard _ _ _ _) s) = _
    rw [hold_unitGuard htake, ftbAct, pageWork_on hon]
  · change Host.Outcome.next (hold _ _ _ (unitGuard _ _ _ _) s) = _
    rw [hold_unitGuard htake, ftbAct, pageWork_on hon, cmpRearm_of_armed harmed hdue]
  · refine ⟨sif (s.rb (Reg.ftbCmpCtrl k) 0) (cmpFrom k) (cmpTargetSet k w s), ?_, ?_, fun harmed => ?_, ?_, ?_⟩
    · change Host.Outcome.next (hold _ _ _ (unitGuard _ _ _ _) s) = _
      rw [hold_unitGuard htake]
      rfl
    · rw [← cmpTargetSet_target k w s]
      unfold sif
      split <;> rfl
    · rw [harmed, sif, if_pos rfl, cmpFrom, modTime_time, tabGet_tabSet_self]
      rfl
    · refine sameRegs_trans (cmpTargetSet_same k w s) fun a _ => ?_
      unfold sif
      split <;> rfl
    · unfold sif
      split <;> exact fun _ => rfl
  · have hsame : ∀ a, a / 0x1000 = Page.ftb → (passTo (s.cmpFires k) s).reg a = s.reg a := fun a ha =>
      passTo_samePages _ s a (ha ▸ ftb_not_mem_timePages)
    have hk : (k : Nat) < 32 := k.isLt
    have hctrl : (passTo (s.cmpFires k) s).reg (Reg.ftbCmpCtrl k) = s.reg (Reg.ftbCmpCtrl k) :=
      hsame _ (by simp only [Reg.ftbCmpCtrl, Page.ftb]; omega)
    have hcode : (passTo (s.cmpFires k) s).reg (Reg.errCode Page.ftb) = s.reg (Reg.errCode Page.ftb) := hsame _ (by decide)
    obtain ⟨hdisarmed, hfired, hlate, hraw, hnow, hbytes⟩ := cmpFired_effect k (s.cmpFires k) (s.cmpLate k) (passTo (s.cmpFires k) s)
    refine ⟨cmpFired k (s.cmpFires k) (s.cmpLate k) (passTo (s.cmpFires k) s), ?_, hdisarmed, hfired, fun h => ?_, fun h => ?_, ?_, ?_⟩
    · change Host.Outcome.next (if _ then _ else _) = _
      rw [if_pos ⟨harmed, hruns, hquiet⟩]
    · obtain ⟨hshown, herr⟩ := hlate h
      exact ⟨hshown, herr (by rw [State.rf, hcode]; exact hnone)⟩
    · exact hraw (by rw [State.rb, hctrl]; exact h)
    · rw [hnow, passTo_now]; rfl
    · exact fun a => (hbytes a).trans (sameBytes_of_mem (passTo_mem _ s) a)
  · obtain ⟨u, hwrite, hreg, hmem, htime, honly⟩ := cadRunWrite_eq (b := true) htake hidle
    have hat' : u.rb (Reg.ftbCadCtrl g) 1 = false := by rw [State.rb, hreg]; exact hat
    have hon' : u.rb (Reg.ctrl Page.ftb) 0 = true := by rw [State.rb, hreg]; exact hon
    have hnow : u.now = s.now := by rw [State.now, htime]; rfl
    refine ⟨cadSet g (u.now + 1) (u.now + 1) (setRb (Reg.ftbCadCtrl g) 0 true u), ?_, setRb_rb_eq (by decide) _ true u, ?_, fun a ha => ?_, ?_⟩
    · change Host.Outcome.next (cadRunWrite _ _ _ s) = _
      rw [hwrite, if_pos rfl, ftbAct, pageWork_on hon', cadRun_at_once hat']
    · rw [cadSet, modTime_time, tabGet_tabSet_self, hnow]
    · exact (setRb_reg_ne (by simpa using ha) 0 true u).trans (hreg a)
    · exact sameBytes_of_mem hmem
  · obtain ⟨u, hwrite, hreg, hmem, htime, honly⟩ := cadRunWrite_eq (b := false) htake hrun
    have hne : Reg.ftbCadCount g ≠ Reg.ftbCadCtrl g := by simp only [Reg.ftbCadCount, Reg.ftbCadCtrl]; omega
    have hcount : u.cadCount g = s.cadCount g := cadCount_congr hreg htime g
    refine ⟨cadStop g u, ?_, setRb_rb_eq (by decide) _ false _, ?_, ?_⟩
    · change Host.Outcome.next (cadRunWrite _ _ _ s) = _
      rw [hwrite, if_neg (by decide)]
    · rw [cadStop, setRb_reg_ne hne, setReg_reg_eq, hcount]
    · exact onlyRegs_trans (onlyRegs_mono (by simp) honly) (onlyRegs_trans (setReg_onlyRegs (by simp) _ u) (setRb_onlyRegs (by simp) _ _ _))
  · have hsame : ∀ a, a / 0x1000 = Page.ftb → (passTo (tabGet 0 s.time.cadNext g) s).reg a = s.reg a := fun a ha =>
      passTo_samePages _ s a (ha ▸ ftb_not_mem_timePages)
    have hg : (g : Nat) < 8 := g.isLt
    have hwraps := hsame (Reg.ftbCadWraps g) (by simp only [Reg.ftbCadWraps, Page.ftb]; omega)
    have hctrl := hsame (Reg.ftbCadCtrl g) (by simp only [Reg.ftbCadCtrl, Page.ftb]; omega)
    have hmem := passTo_mem (tabGet 0 s.time.cadNext g) s
    have hexec : exec (.cadenceWrap g) s = .next (cadWrapped g (cadSet g (tabGet 0 s.time.cadNext g)
        (tabGet 0 s.time.cadNext g + s.cadPeriod g) (passTo (tabGet 0 s.time.cadNext g) s))) := by
      change Host.Outcome.next (if _ then _ else _) = _
      rw [if_pos ⟨hrun, hruns⟩]
      simp only [hquiet, Bool.false_eq_true, if_false]
    refine ⟨_, hexec, ?_⟩
    generalize passTo (tabGet 0 s.time.cadNext g) s = v at *
    obtain ⟨hcount, htime, hshown, hraw, hpages, hbytes⟩ :=
      cadWrapped_effect g (cadSet g (tabGet 0 s.time.cadNext g) (tabGet 0 s.time.cadNext g + s.cadPeriod g) v)
    refine ⟨hcount.trans (congrArg (· + 1) hwraps), ?_, hshown, fun h => hraw ?_, hpages, fun a => (hbytes a).trans (sameBytes_of_mem hmem a)⟩
    · rw [htime, cadSet, modTime_time, tabGet_tabSet_self]
    · show bit (v.reg _) 2 = true
      rw [hctrl]; exact h
  · obtain ⟨u, hstore, hregs, hmem, htime⟩ := storeWith_eq (Reg.ftbCadPeriod g) w (cadPeriodInUse g) s
    have hpage : Reg.ftbCadPeriod g / 0x1000 = Page.ftb := by
      have hg : (g : Nat) < 8 := g.isLt
      simp only [Reg.ftbCadPeriod, Page.ftb]; omega
    rw [hpage, hstage, newInUse_ftbCadPeriod] at hstore
    have hreg : ∀ a, u.reg a = s.reg a := fun a => by rw [State.reg, State.reg, hregs]
    have hnow : u.now = s.now := by rw [State.now, htime]; rfl
    have hrun' : u.rb (Reg.ftbCadCtrl g) 0 = true := by rw [State.rb, hreg]; exact hrun
    obtain ⟨hnew, hperiod, hgo, hwrap, hsame, hbytes⟩ := cadPeriodInUse_effect (s := u) w hrun' (by rw [htime, hnow]; exact hzero)
    rw [cadCount_congr hreg htime, htime] at hgo
    rw [cadCount_congr hreg htime, hnow] at hwrap
    refine ⟨cadPeriodInUse g w u, ?_, hnew, hperiod, hgo, hwrap, fun a ha => (hsame a ha).trans (hreg a),
      fun a => (hbytes a).trans (sameBytes_of_mem hmem a)⟩
    change Host.Outcome.next (hold _ _ _ (unitGuard _ _ _ _) s) = _
    rw [hold_unitGuard htake, hstore]
  · have hexec : exec (.captureEvent c) s = .next (capStore c e.tick (taken e s)) := by
      change Host.Outcome.next (onTask _ _ _ s) = _
      have htask : onTask (0x30 + c) (fun _ => false) (capEvent c) s = capEvent c e.tick (taken e s) := onTask_of_delivers hdeliver rfl
      rw [htask, capEvent, if_neg (by show ¬ s.rb (Reg.ftbCapCtrl c) 0 = false; rw [hon]; decide),
        if_neg (by show ¬ tabGet false s.time.capLatched c = true; rw [hlatch]; decide),
        if_neg (by show ¬ s.rb (Reg.ftbCapStatus c) 0 = true; rw [hvalid]; decide)]
    obtain ⟨hpair, hshown, hraw, hpages, hbytes⟩ := capStore_effect c e.tick (taken e s)
    exact ⟨_, hexec, hpair, hshown, hraw, hpages, hbytes⟩

end Sys2Proof.Proofs
end

section
/-! PROOFS. Triggers, verification and loading of scores (O45; R287–R291, R303, R314). -/

namespace Sys2Proof.Proofs
open Sys2Proof Sys2Proof.Machine Sys2Proof.Laws

/-! ## Fields of one register beside each other -/

theorem setRf_rf_ne {hi lo hi' lo' : Nat} (h32 : hi' < 32) (h : hi' < lo ∨ hi < lo') (a v : Nat) (s : State) :
    (setRf a hi lo v s).rf a hi' lo' = s.rf a hi' lo' := by
  rw [State.rf, setRf, setReg_reg_eq, fld_setFld_ne _ _ h32 h, State.rf]

theorem setRb_rf_ne {k hi lo : Nat} (h32 : hi < 32) (h : hi < k ∨ k < lo) (a : Nat) (b : Bool) (s : State) :
    (setRb a k b s).rf a hi lo = s.rf a hi lo := setRf_rf_ne h32 h a b.toNat s

theorem setRf_rb_ne {hi lo j : Nat} (h32 : j < 32) (h : j < lo ∨ hi < j) (a v : Nat) (s : State) :
    (setRf a hi lo v s).rb a j = s.rb a j := by
  have hout : ¬ (lo ≤ j ∧ j ≤ hi) := by omega
  rw [State.rb, setRf, setReg_reg_eq, bit_setFld _ _ _ _ _ h32, if_neg hout, State.rb]

/-! ## Words of memory -/

/-- A word of memory reads as it was written. -/
theorem setMem_mem32 (a : Nat) (w : Word) (s : State) : (setMem 4 a w.toNat s).mem32 a = w.toNat := by
  have hbytes : setMem 4 a w.toNat s = setByte (a + 3) (BitVec.ofNat 8 (w.toNat / 16777216)) (setByte (a + 2) (BitVec.ofNat 8 (w.toNat / 65536))
      (setByte (a + 1) (BitVec.ofNat 8 (w.toNat / 256)) (setByte a (BitVec.ofNat 8 (w.toNat / 1)) s))) := rfl
  have hne : ∀ {x y : Nat} (b : Byte) (t : State), x ≠ y → (setByte y b t).byte x = t.byte x := fun b t h => setByte_byte_ne h b t
  have h3 : a + 2 + 1 = a + 3 := rfl
  rw [hbytes, State.mem32, State.mem16, State.mem16, h3, setByte_byte_eq, hne _ _ (by omega), hne _ _ (by omega), hne _ _ (by omega),
    setByte_byte_eq, hne _ _ (by omega), hne _ _ (by omega), setByte_byte_eq, hne _ _ (by omega), setByte_byte_eq]
  simp only [BitVec.toNat_ofNat]
  have := w.isLt
  omega

theorem setMem_sameBytesBut (n a v : Nat) (s : State) : SameBytesBut a n s (setMem n a v s) := fun x hx =>
  setBytes_byte_ne _ (by simpa using hx) s

@[simp] theorem setMem_regs (n a v : Nat) (s : State) : (setMem n a v s).regs = s.regs := setBytes_regs _ _ _

/-! ## The state of a player -/

@[simp] theorem setRf_player (a hi lo v : Nat) (s : State) (k : Nat) : (setRf a hi lo v s).player k = s.player k := rfl
@[simp] theorem setRb_player (a j : Nat) (b : Bool) (s : State) (k : Nat) : (setRb a j b s).player k = s.player k := rfl

@[simp] theorem modPlayer_player_self (k : Nat) (f : Player → Player) (s : State) : (modPlayer k f s).player k = f (s.player k) :=
  tabGet_tabSet_self _ _ _ _

/-! ## The start of a section -/

/-- A section that starts is played from its ENTRY, with its start tick (R291). -/
theorem startSection_effect (k : PlayerIx) (c : Section) (S slot : Nat) (s : State) :
    (startSection k c S slot s).playing k = true ∧ ((startSection k c S slot s).player k).pc = c.entry ∧
      ((startSection k c S slot s).player k).sS = S ∧ SameBytes s (startSection k c S slot s) := by
  have hplayer : (startSection k c S slot s).player k = { s.player k with
      kind := c.kind, sS := S, p := S, anchor := s.regPair (Reg.lspPlAnchorLo k), pc := c.entry
      avail := s.now, slot := slot, sec := (s.player k).sec + 1 } := by
    rw [startSection, setRf_player, setRb_player, setPair, setReg_player, setReg_player, addRf, setRf_player, modPlayer_player_self]
  refine ⟨?_, by rw [hplayer], by rw [hplayer], sameBytes_of_mem ?_⟩
  · rw [State.playing, startSection, setRf_rb_ne (by decide) (by decide), setRb_rb_eq (by decide)]
  · simp only [startSection, setRf, setRb, setPair, addRf, setReg_mem, modPlayer, setPlayer_mem]

/-- A FREE or TRIGGER section of a player that has the radio, or needs none, starts (R289). -/
theorem startOwn_effect (k : PlayerIx) (c : Section) (S : Nat) {s : State} (hradio : k = 4 → s.radioFree = true) :
    (startOwn k c S s).playing k = true ∧ ((startOwn k c S s).player k).pc = c.entry ∧ ((startOwn k c S s).player k).sS = S ∧
      SameBytes s (startOwn k c S s) := by
  by_cases hk : k = 4
  · subst hk
    have heq : startOwn (4 : PlayerIx) c S s = startSection (4 : PlayerIx) c S 0 (takeRadio 0 s) := by
      rw [startOwn, if_neg (by decide), hradio rfl]
      rfl
    rw [heq]
    obtain ⟨hplay, hpc, hS, hbytes⟩ := startSection_effect 4 c S 0 (takeRadio 0 s)
    have hmem : (takeRadio 0 s).mem = s.mem := by rw [takeRadio, claimRes, sif, if_neg (by decide), setReg_mem]
    exact ⟨hplay, hpc, hS, fun a => (hbytes a).trans (sameBytes_of_mem hmem a)⟩
  · have hk' : (k : Nat) ≠ 4 := fun h => hk (Fin.ext h)
    rw [startOwn, if_pos hk']
    exact startSection_effect k c S 0 s

/-- Marks of a waiting trigger do not touch what a player plays from: its slots and their words. -/
theorem activeSections_of_marks {k : PlayerIx} {s t : State} (hslots : ∀ b, t.reg (slotReg k b) = s.reg (slotReg k b))
    (hactive : t.activeSlot k = s.activeSlot k) (hmem : t.mem = s.mem) (hempty : (t.player k).emptied = (s.player k).emptied) :
    t.activeSections k = s.activeSections k := by
  have hword : ∀ b i, t.slotWord k b i = s.slotWord k b i := fun b i => by
    have hbyte : ∀ a, t.byte a = s.byte a := sameBytes_of_mem hmem
    simp only [State.slotWord, State.slotBase, State.rf, hslots, State.storeWord, State.mem32, State.mem16, hbyte]
  have hsize : ∀ b, t.slotSize k b = s.slotSize k b := fun b => by rw [State.slotSize, State.slotSize, State.rf, State.rf, hslots]
  have himage : ∀ b, t.holdsImage k b = s.holdsImage k b := fun b => by simp only [State.holdsImage, hword, hsize]
  have hsections : ∀ b, t.sections k b = s.sections k b := fun b => by
    rw [State.sections, State.sections, himage]
    simp only [hword]
  rw [State.activeSections, State.activeSections, hempty, hactive, hsections]

/-- A trigger of an idle player starts its TRIGGER section (R290). -/
theorem startTrigger_effect {k : PlayerIx} {c : Section} (S : Nat) {s : State}
    (hfind : (s.activeSections k).find? (fun c => c.kind == Kind.trigger) = some c) (hradio : k = 4 → s.radioFree = true) :
    (startTrigger k S s).playing k = true ∧ ((startTrigger k S s).player k).pc = c.entry ∧ ((startTrigger k S s).player k).sS = S ∧
      SameBytes s (startTrigger k S s) := by
  have hk : (k : Nat) < 8 := k.isLt
  generalize ht : setRb (Reg.lspPlStatus k) 21 false (modPlayer k (fun p => { p with trig := none }) s) = t
  have hreg : ∀ a, a ≠ Reg.lspPlStatus k → t.reg a = s.reg a := fun a ha => by rw [← ht, setRb_reg_ne ha]; rfl
  have hplayer : (t.player k).emptied = (s.player k).emptied := by
    rw [← ht, setRb_player, modPlayer_player_self]
  have hactive : t.activeSlot k = s.activeSlot k := by
    rw [← ht, State.activeSlot, setRb_rf_ne (by decide) (by decide)]
    rfl
  have hslot : ∀ b, slotReg k b ≠ Reg.lspPlStatus k := fun b => by
    unfold slotReg
    split
    · simp only [Reg.lspPlSlota, Reg.lspPlStatus]; omega
    · simp only [Reg.lspPlSlotb, Reg.lspPlStatus]; omega
  have hsections : t.activeSections k = s.activeSections k :=
    activeSections_of_marks (fun b => hreg _ (hslot b)) hactive (by rw [← ht]; rfl) hplayer
  have hholder : t.radioFree = s.radioFree := by
    have hne : Reg.sysResClaim 0x78 ≠ Reg.lspPlStatus k := by simp only [Reg.sysResClaim, Reg.lspPlStatus]; omega
    rw [State.radioFree, State.radioFree, State.holder, State.holder, State.rf, State.rf, hreg _ hne]
  have hstart : startTrigger k S s = startOwn k c S t := by
    rw [startTrigger, ht]
    simp only [hsections, hfind]
  rw [hstart]
  obtain ⟨hplay, hpc, hS, hbytes⟩ := startOwn_effect k c S (s := t) (fun h => hholder.trans (hradio h))
  exact ⟨hplay, hpc, hS, fun a => (hbytes a).trans (by rw [← ht]; rfl)⟩

/-! ## The verification of a slot -/

/-- The report of a slot that fails a check (R303). -/
theorem imageInvalid_effect {k : PlayerIx} {s : State} {i c : Nat} (hnone : s.rf (Reg.errCode Page.lsp) 15 10 = 0) (hi : i < 2 ^ 32)
    (hc : c < 8) :
    let t := recErr Page.lsp Err.imageInvalid i c (irq Page.lsp 3 (setRf (Reg.lspPlStatus k) 19 16 4 s))
    t.rf (Reg.lspPlStatus k) 19 16 = 4 ∧ t.rb (Reg.irqRaw Page.lsp) 3 = true ∧ t.rf (Reg.errCode Page.lsp) 7 0 = Err.imageInvalid ∧
      t.rf (Reg.errCode Page.lsp) 31 16 = c ∧ t.reg (Reg.errInfo Page.lsp) = wd i ∧ SameBytes s t := by
  intro t
  have hk : (k : Nat) < 8 := k.isLt
  have hout : Reg.lspPlStatus k ∉ reportRegs Page.lsp := by
    simp only [Reg.lspPlStatus, reportRegs, Reg.errCode, Reg.errInfo, Reg.irqRaw, Reg.irqStat, Reg.dbgFaultSum, Reg.dbgFirst,
      Reg.dbgFirstTickLo, Reg.dbgFirstTickHi, Page.lsp, Page.dbg, List.mem_cons, List.not_mem_nil, or_false]; omega
  have hout' : Reg.lspPlStatus k ∉ [Reg.irqRaw Page.lsp, Reg.irqStat Page.lsp] := by
    simp only [Reg.lspPlStatus, Reg.irqRaw, Reg.irqStat, Page.lsp, List.mem_cons, List.not_mem_nil, or_false]; omega
  have hne : Reg.errCode Page.lsp ≠ Reg.lspPlStatus k := by simp only [Reg.errCode, Reg.lspPlStatus, Page.lsp]; omega
  have hstatus : Reg.lspPlStatus k / 0x1000 ∈ [Page.lsp, Page.dbg] := by
    have : Reg.lspPlStatus k / 0x1000 = Page.lsp := by simp only [Reg.lspPlStatus, Page.lsp]; omega
    rw [this]; decide
  have hset : Within [Page.lsp, Page.dbg] s t := (((within_refl _ s).setRf hstatus 19 16 4).irq (by decide) 3).recErr (by decide) (by decide) _ _ _
  have hcount : (irq Page.lsp 3 (setRf (Reg.lspPlStatus k) 19 16 4 s)).rf (Reg.errCode Page.lsp) 15 10 = 0 := by
    rw [State.rf, (irq_onlyRegs Page.lsp 3 _).1 _ (by decide), setRf_reg_ne hne]
    exact hnone
  have hcode : t.reg (Reg.errCode Page.lsp) = firstErrWord Err.imageInvalid c :=
    recErr_first_errCode (by simp only [openDetail]; omega) _ _ hcount
  refine ⟨?_, recErr_keeps_set _ _ _ (by decide) (by decide) (irq_irqRaw (by decide) _), ?_, ?_,
    recErr_first_errInfo (by simp only [openDetail]; omega) _ _ hcount, hset.2⟩
  · rw [State.rf, recErr_sameRegs _ _ _ _ _ _ hout, (irq_onlyRegs Page.lsp 3 _).1 _ hout', ← State.rf, setRf_rf_eq (by decide)]
    rfl
  · rw [State.rf, hcode]
    exact firstErrWord_code (by decide) _
  · rw [State.rf, hcode, firstErrWord_detail (by decide)]
    omega

/-! ## Slots -/

theorem slotReg_page (k : PlayerIx) (b : Nat) : slotReg k b / 0x1000 = Page.lsp := by
  have hk : (k : Nat) < 8 := k.isLt
  unfold slotReg
  split
  · simp only [Reg.lspPlSlota, Page.lsp]; omega
  · simp only [Reg.lspPlSlotb, Page.lsp]; omega

theorem slotReg_ne_status (k : PlayerIx) (b : Nat) : slotReg k b ≠ Reg.lspPlStatus k := by
  unfold slotReg
  split
  · simp only [Reg.lspPlSlota, Reg.lspPlStatus]; omega
  · simp only [Reg.lspPlSlotb, Reg.lspPlStatus]; omega

theorem fld_lt (w : Word) (hi lo : Nat) : fld w hi lo < 2 ^ (hi + 1 - lo) := Nat.mod_lt _ (Nat.two_pow_pos _)

/-- A slot's register holds the base and the size written to it (R287). -/
theorem slotWord_fields (w : Word) : fld (wd (fld w 29 16 * 65536 + fld w 12 0)) 12 0 = fld w 12 0 ∧
    fld (wd (fld w 29 16 * 65536 + fld w 12 0)) 29 16 = fld w 29 16 := by
  have hbase : fld w 12 0 < 8192 := fld_lt w 12 0
  have hsize : fld w 29 16 < 16384 := fld_lt w 29 16
  generalize fld w 12 0 = base at *
  generalize fld w 29 16 = size at *
  constructor
  · simp only [fld, wd, BitVec.toNat_ofNat, Nat.shiftRight_eq_div_pow, Nat.reduceAdd, Nat.reduceSub, Nat.reducePow]
    omega
  · simp only [fld, wd, BitVec.toNat_ofNat, Nat.shiftRight_eq_div_pow, Nat.reduceAdd, Nat.reduceSub, Nat.reducePow]
    omega

/-- What some step of a sweep over units writes to a register, and the others leave there, stands there after the sweep. -/
theorem forEach_reg_value {l : List Nat} {f : Nat → State → State} {a j : Nat} {v : Word} (hkeep : ∀ k t, t.reg a = v → (f k t).reg a = v)
    (hset : ∀ t, (f j t).reg a = v) (hj : j ∈ l) (s : State) : (forEach l f s).reg a = v := by
  have hstay : ∀ (l : List Nat) (t : State), t.reg a = v → (forEach l f t).reg a = v := fun l => by
    induction l with
    | nil => exact fun _ h => h
    | cons k l ih => exact fun t h => ih _ (hkeep k t h)
  induction l generalizing s with
  | nil => exact absurd hj (List.not_mem_nil)
  | cons k l ih =>
    rcases List.mem_cons.mp hj with rfl | h
    · exact hstay l _ (hset s)
    · exact ih h (f k s)

/-- The counters of a player as CNT_CLR clears them (R314). -/
def plCleared (k : Nat) (s : State) : State := setReg (Reg.lspPlSectCnt k) 0 (setReg (Reg.lspPlCnt k) 0 s)

theorem plCleared_keeps_zero {a : Nat} (k : Nat) {s : State} (h : s.reg a = 0) : (plCleared k s).reg a = 0 := by
  have hset : ∀ (b : Nat) (t : State), t.reg a = 0 → (setReg b 0 t).reg a = 0 := fun b t ht => by
    by_cases hab : a = b
    · rw [hab, setReg_reg_eq]
    · rw [setReg_reg_ne hab, ht]
  exact hset _ _ (hset _ _ h)

theorem plCleared_clears (k : Nat) (s : State) : (plCleared k s).reg (Reg.lspPlCnt k) = 0 ∧ (plCleared k s).reg (Reg.lspPlSectCnt k) = 0 := by
  have hne : Reg.lspPlCnt k ≠ Reg.lspPlSectCnt k := by simp only [Reg.lspPlCnt, Reg.lspPlSectCnt]; omega
  exact ⟨by rw [plCleared, setReg_reg_ne hne, setReg_reg_eq], by rw [plCleared, setReg_reg_eq]⟩

theorem plCleared_within {k : Nat} (hk : k < 8) {r s : State} (h : Within [Page.lsp] r s) : Within [Page.lsp] r (plCleared k s) := by
  have hcnt : Reg.lspPlCnt k / 0x1000 ∈ [Page.lsp] := by rw [List.mem_singleton]; simp only [Reg.lspPlCnt, Page.lsp]; omega
  have hsect : Reg.lspPlSectCnt k / 0x1000 ∈ [Page.lsp] := by rw [List.mem_singleton]; simp only [Reg.lspPlSectCnt, Page.lsp]; omega
  exact (h.setReg hcnt 0).setReg hsect 0

/-- Settles O45: triggers by what waits for them, the verification by its outcome, and the loads through their checks. -/
theorem scoresComplete : Obligations.ScoresComplete := by
  unfold Obligations.ScoresComplete
  refine ⟨fun s k e c hdeliver htrig hidle hgo hfind hradio => ?_, fun s k e hdeliver htrig hplay hkind => ?_, fun s k hbusy hgood => ?_,
    fun s k i c hbusy hbad hnone hi hc => ?_, fun s j w k b hup hready hslot hstandby hholds hst hst' => ?_,
    fun s ag k onB w htake hholds hstandby hst hst' hclash => ?_, fun s ag w htake => ?_⟩
  · have hbusy : (fun t : State => (t.player k).trig.isSome || (t.playing k && (t.player k).kind == Kind.trigger)) (taken e s) = false := by
      show ((s.player k).trig.isSome || (s.playing k && (s.player k).kind == Kind.trigger)) = false
      rw [htrig, hidle]
      rfl
    have hexec : exec (.playerTrigger k) s =
        .next (startTrigger k (roundUp (e.tick + max 320 (s.rf (Reg.lspPlCfg k) 15 0)) 8) (taken e s)) := by
      change Host.Outcome.next (onTask _ _ _ s) = _
      rw [onTask_of_delivers hdeliver hbusy, triggered, if_neg (by show ¬ (s.playing k || s.toHold k) = true; rw [hidle, hgo]; decide)]
      rfl
    obtain ⟨hplay, hpc, hS, hbytes⟩ := startTrigger_effect (k := k) (roundUp (e.tick + max 320 (s.rf (Reg.lspPlCfg k) 15 0)) 8)
      (s := taken e s) hfind hradio
    exact ⟨_, hexec, hplay, hpc, hS, hbytes⟩
  · have hbusy : (fun t : State => (t.player k).trig.isSome || (t.playing k && (t.player k).kind == Kind.trigger)) (taken e s) = false := by
      show ((s.player k).trig.isSome || (s.playing k && (s.player k).kind == Kind.trigger)) = false
      rw [htrig, beq_false_of_ne hkind, Bool.and_false]
      rfl
    refine ⟨setRb (Reg.lspPlStatus k) 21 true (modPlayer k (fun p => { p with trig := some e.tick }) (taken e s)), ?_, ?_,
      setRb_rb_eq (by decide) _ _ _, fun a ha => setRb_reg_ne (by simpa using ha) _ _ _, fun _ => rfl⟩
    · change Host.Outcome.next (onTask _ _ _ s) = _
      rw [onTask_of_delivers hdeliver hbusy, triggered, if_pos (by show (s.playing k || s.toHold k) = true; rw [hplay]; rfl)]
    · rw [setRb_player, modPlayer_player_self]
  · have hk : (k : Nat) < 8 := k.isLt
    have hout : Reg.lspPlStatus k ∉ [Reg.irqRaw Page.lsp, Reg.irqStat Page.lsp] := by
      simp only [Reg.lspPlStatus, Reg.irqRaw, Reg.irqStat, Page.lsp, List.mem_cons, List.not_mem_nil, or_false]; omega
    obtain ⟨hregs, hbytes, -⟩ := irq_onlyRegs Page.lsp 2 (setRf (Reg.lspPlStatus k) 19 16 3 s)
    refine ⟨irq Page.lsp 2 (setRf (Reg.lspPlStatus k) 19 16 3 s), ?_, ?_, irq_irqRaw (by decide) _, ?_, hbytes⟩
    · change Host.Outcome.next (if _ then _ else _) = _
      rw [if_neg (by rw [hbusy]; decide), hgood]
    · rw [State.rf, hregs _ hout, ← State.rf, setRf_rf_eq (by decide)]
      rfl
    · refine sameRegs_trans (t := setRf (Reg.lspPlStatus k) 19 16 3 s) (fun a ha => setRf_reg_ne ?_ _ _ _ _) (sameRegs_mono (by simp) hregs)
      exact fun h => ha (h ▸ List.mem_cons_self)
  · have hexec : exec (.verifyDone k) s =
        .next (recErr Page.lsp Err.imageInvalid i c (irq Page.lsp 3 (setRf (Reg.lspPlStatus k) 19 16 4 s))) := by
      change Host.Outcome.next (if _ then _ else _) = _
      rw [if_neg (by rw [hbusy]; decide), hbad]
    exact ⟨_, hexec, imageInvalid_effect hnone hi hc⟩
  · have hword : 4 * (j : Nat) / 4 * 4 = 4 * j := by omega
    have hhalf : 4 * (j : Nat) / 8 = j / 2 := by omega
    have hregs : ∀ a, (setMem 4 (scoreBase + 4 * j) w.toNat (setRf (Reg.lspPlStatus k) 19 16 1 s)).reg a =
        (setRf (Reg.lspPlStatus k) 19 16 1 s).reg a := fun a => by rw [State.reg, State.reg, setMem_regs]
    refine ⟨setMem 4 (scoreBase + 4 * j) w.toNat (setRf (Reg.lspPlStatus k) 19 16 1 s), ?_, setMem_mem32 _ w _, ?_, fun a ha => ?_,
      fun a ha => setMem_sameBytesBut 4 _ _ _ a ha⟩
    · change Host.Outcome.next (windowWrite _ _ s) = _
      rw [windowWrite_up _ _ hup hready, scoreWrite]
      simp only [hhalf, hslot, hword, hstandby, hholds, bne_iff_ne.mpr hst, bne_iff_ne.mpr hst', beq_self_eq_true, Bool.and_self, Bool.not_true,
        Bool.false_eq_true, if_false]
    · rw [State.rf, hregs, ← State.rf, setRf_rf_eq (by decide)]
      rfl
    · rw [hregs, setRf_reg_ne (by simpa using ha)]
  · have hguard : exec (.plSlotWrite ag k onB w) s = .next (if fld w 12 0 = s.slotBase k onB.toNat ∧ fld w 29 16 = s.slotSize k onB.toNat then s
        else setRf (Reg.lspPlStatus k) 19 16 0 (setReg (slotReg k onB.toNat) (wd (fld w 29 16 * 65536 + fld w 12 0)) s)) := by
      change Host.Outcome.next (plSlotWrite _ _ _ _ s) = _
      rw [plSlotWrite, plGuard, guarded_of_takes htake, if_pos hholds]
      simp only [hclash, hst, hst', ← hstandby, ne_eq, not_true_eq_false, or_self, Bool.false_eq_true, if_false]
    refine ⟨_, hguard, ?_⟩
    by_cases hsame : fld w 12 0 = s.slotBase k onB.toNat ∧ fld w 29 16 = s.slotSize k onB.toNat
    · obtain ⟨hbase, hsize⟩ := hsame
      rw [if_pos ⟨hbase, hsize⟩, if_pos ⟨hbase, hsize⟩]
      exact ⟨hbase.symm, hsize.symm, rfl, fun _ _ => rfl, fun _ => rfl⟩
    · rw [if_neg hsame, if_neg hsame]
      have hslot : (setRf (Reg.lspPlStatus k) 19 16 0 (setReg (slotReg k onB.toNat) (wd (fld w 29 16 * 65536 + fld w 12 0)) s)).reg
          (slotReg k onB.toNat) = wd (fld w 29 16 * 65536 + fld w 12 0) := by
        rw [setRf_reg_ne (slotReg_ne_status k _), setReg_reg_eq]
      obtain ⟨hbase, hsize⟩ := slotWord_fields w
      refine ⟨by rw [State.slotBase, State.rf, hslot, hbase], by rw [State.slotSize, State.rf, hslot, hsize], ?_, fun a ha => ?_, fun _ => rfl⟩
      · rw [setRf_rf_eq (by decide)]
        rfl
      · obtain ⟨hne, hne'⟩ : a ≠ slotReg k onB.toNat ∧ a ≠ Reg.lspPlStatus k := by simpa using ha
        rw [setRf_reg_ne hne', setReg_reg_ne hne]
  · have hexec : exec (.lspCntClr ag w) s = .next (sif (bit w 0) (forEach (List.range 8) plCleared) s) := by
      change Host.Outcome.next (lspCntClr _ _ s) = _
      rw [lspCntClr, guarded_of_takes htake]
      rfl
    refine ⟨_, hexec, fun hset => ?_, fun hclear => by rw [hclear]; rfl, ?_⟩
    · rw [hset, sif, if_pos rfl, List.all_eq_true]
      intro k hk
      have hcnt := forEach_reg_value (f := plCleared) (fun j t => plCleared_keeps_zero j) (fun t => (plCleared_clears k t).1) hk s
      have hsect := forEach_reg_value (f := plCleared) (fun j t => plCleared_keeps_zero j) (fun t => (plCleared_clears k t).2) hk s
      rw [hcnt, hsect]
      rfl
    · exact (within_refl _ s).sif _ fun t ht => ht.forEach fun k hk u hu => plCleared_within (List.mem_range.mp hk) hu

end Sys2Proof.Proofs
end

section
/-! PROOFS. The event log, the console and firmware updates (O58; R435–R440, R477). -/

namespace Sys2Proof.Proofs
open Sys2Proof Sys2Proof.Machine Sys2Proof.Laws

/-! ## Stores to registers of the UPD and LOG pages -/

/-- A register without staged fields is stored where it stands. -/
theorem storeReg_of_plain {a : Nat} (h : hasStaged a = false) (w : Word) (s : State) :
    storeReg a w s = setReg a (newInUse a (s.rb (Reg.stageCtrl (a / 0x1000)) 0) w (s.reg a)) s := by
  simp only [storeReg, storeWith, h, Bool.false_eq_true, if_false]

/-- What is stored in a register whose stored bits are those of a mask: they alone change. -/
theorem newInUse_of_mask {a : Nat} {stage : Bool} {m : Word}
    (hrow : (rowAt a).map (fun r => (r.maskOf (fun f => f.acc.stores && !(stage && f.staged)),
      r.maskOf (fun f => f.acc == .w1c), r.maskOf (fun f => f.acc == .w1s))) = some (m, 0, 0)) (w old : Word) :
    newInUse a stage w old = (old &&& ~~~ m) ||| (w &&& m) := by
  obtain ⟨r, hr, hmasks⟩ := Option.map_eq_some_iff.mp hrow
  obtain ⟨hm, hc, ht⟩ : _ ∧ _ ∧ _ := by simpa only [Prod.mk.injEq] using hmasks
  simp only [newInUse, hr, hm, hc, ht, BitVec.ofNat_eq_ofNat, BitVec.and_zero, BitVec.or_zero, BitVec.not_zero, BitVec.and_allOnes]

/-- A field that is stored whole reads as it was written. -/
theorem fld_stored {hi lo : Nat} (h : hi < 32) (w old : Word) :
    fld ((old &&& ~~~ maskWord hi lo) ||| (w &&& maskWord hi lo)) hi lo = fld w hi lo := by
  apply Nat.eq_of_testBit_eq
  intro j
  rw [fld_testBit, fld_testBit]
  by_cases hj : j < hi + 1 - lo
  · have hlt : lo + j < 32 := by omega
    have hin : decide (lo ≤ lo + j ∧ lo + j ≤ hi) = true := by rw [decide_eq_true_eq]; omega
    simp only [hj, bit, BitVec.getLsbD_or, BitVec.getLsbD_and, BitVec.getLsbD_not, maskWord_bit hi lo (lo + j) hlt, hin, hlt, decide_true, Bool.not_true,
      Bool.and_false, Bool.and_true, Bool.false_or, Bool.true_and]
  · simp only [hj, decide_false, Bool.false_and]

theorem newInUse_logSel (stage : Bool) (w old : Word) :
    newInUse Reg.logSel stage w old = (old &&& ~~~ maskWord 11 0) ||| (w &&& maskWord 11 0) := by
  have hrow : ∀ stage : Bool, (rowAt Reg.logSel).map (fun r => (r.maskOf (fun f => f.acc.stores && !(stage && f.staged)),
      r.maskOf (fun f => f.acc == .w1c), r.maskOf (fun f => f.acc == .w1s))) = some (maskWord 11 0, 0, 0) := by decide +kernel
  exact newInUse_of_mask (hrow stage) w old

theorem newInUse_updTarget (stage : Bool) (w old : Word) :
    newInUse Reg.updTarget stage w old = (old &&& ~~~ maskWord 1 0) ||| (w &&& maskWord 1 0) := by
  have hrow : ∀ stage : Bool, (rowAt Reg.updTarget).map (fun r => (r.maskOf (fun f => f.acc.stores && !(stage && f.staged)),
      r.maskOf (fun f => f.acc == .w1c), r.maskOf (fun f => f.acc == .w1s))) = some (maskWord 1 0, 0, 0) := by decide +kernel
  exact newInUse_of_mask (hrow stage) w old

theorem hasStaged_logSel : hasStaged Reg.logSel = false := by decide +kernel
theorem hasStaged_updTarget : hasStaged Reg.updTarget = false := by decide +kernel

/-! ## The log -/

theorem within_consoleAdd {l : List Nat} (hl : Page.dbg ∈ l) (x : List Word) (s : State) : Within l s (consoleAdd x s) := by
  have hpage : Reg.dbgConsole / 0x1000 ∈ l := (show Reg.dbgConsole / 0x1000 = Page.dbg by decide) ▸ hl
  unfold consoleAdd
  split
  · exact within_refl l s
  · split
    · exact within_of_eq l rfl rfl
    · exact (within_refl l s).addRf hpage 8 1 1

/-- The pages in which a record written to the log may show. -/
def logPages : List Nat := [Page.log, Page.dbg]

theorem within_logWrite (r : LogRec) (s : State) : Within logPages s (logWrite r s) := by
  have hadd : ∀ x t, Within logPages t (consoleAdd x t) := within_consoleAdd (by decide)
  have hnoted : ∀ f, Within logPages s (irq Page.log 0 (modNvm f s)) := fun f =>
    Within.irq (s := modNvm f s) (within_of_eq _ rfl rfl) (by decide) 0
  unfold logWrite
  split
  · exact within_refl _ s
  · refine within_trans ?_ (hadd _ _)
    split
    · exact ((hnoted _).irq (by decide) 1).publish _ _
    · exact hnoted _

theorem within_foldl {α : Type} {l : List Nat} {f : State → α → State} (h : ∀ s x, Within l s (f s x)) (xs : List α) (s : State) :
    Within l s (xs.foldl f s) := by
  induction xs generalizing s with
  | nil => exact within_refl l s
  | cons x xs ih => exact within_trans (h s x) (ih _)

theorem within_logFlush (s : State) : Within logPages s (logFlush s) := by
  unfold logFlush
  split
  · exact within_trans (t := modMgt (fun m => { m with logWaits := [] }) s) (within_of_eq _ rfl rfl) (within_foldl (fun t r => within_logWrite r t) _ _)
  · exact within_refl _ s

theorem within_logRec (r : LogRec) (s : State) : Within logPages s (logRec r s) := by
  unfold logRec
  split
  · exact within_trans (within_logFlush s) (within_logWrite r _)
  · exact within_of_eq _ rfl rfl

theorem nvm_of_onlyRegs {l : List Nat} {s t : State} (h : OnlyRegs l s t) : t.nvm = s.nvm := field_of_onlyRegs State.nvm (fun _ _ => rfl) h

@[simp] theorem irq_nvm (p k : Nat) (s : State) : (irq p k s).nvm = s.nvm := nvm_of_onlyRegs (irq_onlyRegs p k s)

@[simp] theorem detailUsed_nvm (d : Nat) (s : State) : (detailUsed d s).nvm = s.nvm := by unfold detailUsed; split <;> rfl

@[simp] theorem recErr_nvm (p code info extra : Nat) (s : State) : (recErr p code info extra s).nvm = s.nvm := by
  rw [nvm_of_onlyRegs (recErr_onlyRegs p code info extra s), errNoted]
  split
  · rw [noteFirst, detailUsed_nvm, setReg_nvm, setReg_nvm, detailUsed_nvm]
  · rfl

theorem consoleAdd_nvm (x : List Word) (s : State) : (consoleAdd x s).nvm = s.nvm := by
  unfold consoleAdd
  split
  · rfl
  · split <;> rfl

/-- A record leaves the directory of the firmware slots. -/
theorem logWrite_slots (r : LogRec) (s : State) : (logWrite r s).nvm.slots = s.nvm.slots := by
  unfold logWrite
  split
  · rfl
  · simp only [consoleAdd_nvm]
    split
    · show (irq Page.log 1 _).nvm.slots = _
      rw [irq_nvm, irq_nvm]
      rfl
    · rw [irq_nvm]
      rfl

theorem logFlush_slots (s : State) : (logFlush s).nvm.slots = s.nvm.slots := by
  have hfold : ∀ (l : List LogRec) (t : State), (l.foldl (fun t r => logWrite r t) t).nvm.slots = t.nvm.slots := fun l => by
    induction l with
    | nil => exact fun t => rfl
    | cons r l ih => exact fun t => (ih _).trans (logWrite_slots r t)
  unfold logFlush
  split
  · exact hfold _ _
  · rfl

theorem logRec_slots (r : LogRec) (s : State) : (logRec r s).nvm.slots = s.nvm.slots := by
  unfold logRec
  split
  · rw [logWrite_slots, logFlush_slots]
  · rfl

/-- A clear that ends with no record waiting. -/
theorem logFlush_of_none {s : State} (h : s.mgt.logWaits = []) : logFlush s = s ∨ logFlush s = modMgt (fun m => { m with logWaits := [] }) s := by
  unfold logFlush
  split
  · exact Or.inr (by rw [h]; rfl)
  · exact Or.inl rfl

/-! ## The record that is shown -/

/-- The words of a record as LOG.REC shows them. -/
def recShown (l : List Word) (s : State) : State := forEach (List.range 8) (fun w => setReg (Reg.logRec w) (l.getD w 0)) s

theorem recShown_reg {l : List Word} {j : Nat} (hj : j < 8) (s : State) : (recShown l s).reg (Reg.logRec j) = l.getD j 0 := by
  refine forEach_reg_value (j := j) (fun k t ht => ?_) (fun t => setReg_reg_eq _ _ t) (List.mem_range.mpr hj) s
  by_cases hk : k = j
  · rw [hk, setReg_reg_eq]
  · rw [setReg_reg_ne (by simp only [Reg.logRec]; omega), ht]

theorem recShown_words {l : List Word} (hlen : l.length = 8) (s : State) : (List.range 8).map (fun i => (recShown l s).reg (Reg.logRec i)) = l := by
  refine List.ext_getElem (by simp [hlen]) fun i hi hi' => ?_
  have h8 : i < 8 := by simpa using hi
  rw [List.getElem_map, List.getElem_range, recShown_reg h8, List.getD_eq_getElem?_getD, List.getElem?_eq_getElem hi', Option.getD_some]

theorem recShown_sameRegs (l : List Word) (s : State) : SameRegs ((List.range 8).map Reg.logRec) s (recShown l s) := by
  intro a ha
  have hne : ∀ k ∈ List.range 8, a ≠ Reg.logRec k := fun k hk h => ha (h ▸ List.mem_map_of_mem hk)
  have hfold : ∀ (xs : List Nat) (t : State), (∀ k ∈ xs, a ≠ Reg.logRec k) →
      (forEach xs (fun w => setReg (Reg.logRec w) (l.getD w 0)) t).reg a = t.reg a := fun xs => by
    induction xs with
    | nil => exact fun t _ => rfl
    | cons k xs ih =>
      exact fun t h => (ih _ fun j hj => h j (List.mem_cons_of_mem k hj)).trans (setReg_reg_ne (h k List.mem_cons_self) _ t)
  exact hfold _ s hne

theorem recShown_within (l : List Word) {r s : State} (h : Within [Page.log] r s) : Within [Page.log] r (recShown l s) := by
  refine h.forEach fun k hk t ht => ht.setReg ?_ _
  have := List.mem_range.mp hk
  rw [List.mem_singleton]; simp only [Reg.logRec, Page.log]; omega

/-! ## Firmware updates -/

/-- The target of an update is emptied without touching a register (R439). -/
theorem updEmpty_regs (g : Nat) (s : State) : (updEmpty g s).regs = s.regs := by
  unfold updEmpty
  split
  · rfl
  · split
    · exact setMem_regs 4 imageBase 0 s
    · rfl

theorem updEmpty_sameBytesBut (g : Nat) (s : State) : SameBytesBut imageBase 4 s (updEmpty g s) := by
  unfold updEmpty
  split
  · exact fun _ _ => rfl
  · split
    · exact setMem_sameBytesBut 4 imageBase 0 s
    · exact fun _ _ => rfl

theorem updEmpty_sameBytes {g : Nat} (h : g ≠ 3) (s : State) : SameBytes s (updEmpty g s) := by
  unfold updEmpty
  split
  · exact fun _ => rfl
  · exact fun _ => rfl

theorem updEmpty_image (s : State) : (updEmpty 3 s).mem32 imageBase = 0 := setMem_mem32 imageBase 0 s

theorem updEmpty_slot {g : Nat} (h0 : g ≠ 0) (h3 : g ≠ 3) (s : State) : ((updEmpty g s).fwSlot (g - 1)).empty = true := by
  rw [updEmpty, if_neg h0, if_neg h3, State.fwSlot, setFwSlot, modNvm]
  simp only [tabGet_tabSet_self]

theorem fwCheck_lt {s : State} {a len c : Nat} (h : s.fwCheck a len = some c) : c < 8 := by
  unfold State.fwCheck at h
  split at h
  · cases h; decide
  · split at h
    · cases h; decide
    · split at h
      · cases h; decide
      · split at h
        · cases h; decide
        · cases h

/-- What either outcome of a verification leaves: the report, in the pages of the log and its own interrupt registers (R439). -/
theorem verifyReport_effect {k : Nat} (hk : k < 32) (sev : Nat) (s : State) :
    (verifyReport k sev s).rb (Reg.irqRaw Page.upd) k = true ∧
      (∀ a, a / 0x1000 = Page.upd → a ∉ [Reg.irqRaw Page.upd, Reg.irqStat Page.upd] → (verifyReport k sev s).reg a = s.reg a) ∧
      SameBytes s (verifyReport k sev s) ∧ (verifyReport k sev s).nvm.slots = s.nvm.slots := by
  generalize hu : publish 0xf4 s.now (irq Page.upd k s) = u
  have hmem : SameBytes s u := by rw [← hu]; exact (irq_onlyRegs Page.upd k s).2.1
  have hreg : ∀ a, u.reg a = (irq Page.upd k s).reg a := fun a => by rw [← hu]; rfl
  have hslots : u.nvm.slots = s.nvm.slots := by
    rw [← hu]
    show (irq Page.upd k s).nvm.slots = _
    rw [irq_nvm]
  obtain ⟨r, hr⟩ : ∃ r : LogRec, verifyReport k sev s = if s.boot.phase = .noImage then logWrite r u else logRec r u := by
    rw [← hu]
    rw [verifyReport]
    refine ⟨⟨s.now, 0x30, Page.upd, sev, (s.reg Reg.updTarget).toNat, (s.reg Reg.updStatus).toNat⟩, ?_⟩
    split <;> rfl
  have hwithin : Within logPages u (verifyReport k sev s) := by
    rw [hr]
    split
    · exact within_logWrite r u
    · exact within_logRec r u
  have hpage : ∀ a, a / 0x1000 = Page.upd → (verifyReport k sev s).reg a = (irq Page.upd k s).reg a := fun a ha =>
    (hwithin.1 a (ha ▸ by decide)).trans (hreg a)
  refine ⟨?_, fun a ha hout => (hpage a ha).trans ((irq_onlyRegs Page.upd k s).1 a hout), fun a => (hwithin.2 a).trans (hmem a), ?_⟩
  · rw [State.rb, hpage _ (by decide)]
    exact irq_irqRaw hk s
  · rw [hr, ← hslots]
    split
    · exact logWrite_slots r u
    · exact logRec_slots r u

/-- A write of one bit of UPD.CTRL. -/
theorem updCtrlWrite_of_takes {s : State} {ag : Agent} (h : s.takes ag Reg.updCtrl) (hon : s.rb (Reg.ctrl Page.upd) 0 = true) {w : Word}
    (hw : (w &&& 7 != 0) = true) :
    updCtrlWrite ag w s = sif (bit w 2) updAbort (sif (bit w 1) updVerify (sif (bit w 0) updBegin s)) := by
  rw [updCtrlWrite, guarded_of_takes h, hw, sif, if_pos rfl, pageWork_on hon]

theorem quiesced_false {s : State} {p : Nat} (h : s.quiesced p = false) : s.rb (Reg.status p) 0 = false ∧ s.rb (Reg.ctrl p) 0 = true := by
  unfold State.quiesced at h
  obtain ⟨hst, hen⟩ := Bool.or_eq_false_iff.mp h
  exact ⟨hst, by simpa using hen⟩

/-- A verification that is due ends (R439, R446). -/
theorem verify_due {s : State} (hst : s.updState = 2) (hruns : s.mgtRuns = true) (hquiet : s.quiesced Page.upd = false) :
    ¬ (s.updState ≠ 2 ∨ (!s.mgtRuns) = true ∧ s.boot.phase ≠ .noImage ∨ s.quiesced Page.upd = true) := by
  rw [hst, hruns, hquiet]
  simp

/-- BEGIN starts a reception (R439). -/
theorem updBegin_of_free {s : State} (h0 : s.updTarget ≠ 0) (hst : s.updState ≠ 2) (huse : s.slotInUse s.updTarget = false)
    (hstore : s.updTarget = 3 → s.storeUsed = false) :
    updBegin s = setReg Reg.updOffset 0 (setReg Reg.updStatus (wd (2 ^ 24))
      (modMgt (fun m => { m with begun := s.updTarget }) (updEmpty s.updTarget s))) := by
  have hbusy : ¬ (s.slotInUse s.updTarget = true ∨ s.updTarget = 3 ∧ s.storeUsed = true) := by
    rintro (h | ⟨h3, h⟩)
    · rw [huse] at h; cases h
    · rw [hstore h3] at h; cases h
  simp only [updBegin, h0, hst, hbusy, or_self, if_false]

/-- The registers after BEGIN. -/
theorem updBegin_regs (g : Nat) (f : MgtSt → MgtSt) (s : State) :
    let t := setReg Reg.updOffset 0 (setReg Reg.updStatus (wd (2 ^ 24)) (modMgt f (updEmpty g s)))
    t.updState = 1 ∧ t.reg Reg.updOffset = 0 ∧ SameRegs [Reg.updOffset, Reg.updStatus] s t := by
  intro t
  refine ⟨?_, setReg_reg_eq _ _ _, fun a ha => ?_⟩
  · rw [State.updState, State.rf, setReg_reg_ne (by decide), setReg_reg_eq]
    decide
  · obtain ⟨hoff, hst⟩ : a ≠ Reg.updOffset ∧ a ≠ Reg.updStatus := by simpa using ha
    rw [setReg_reg_ne hoff, setReg_reg_ne hst]
    show (updEmpty g s).reg a = s.reg a
    rw [State.reg, State.reg, updEmpty_regs]

/-- Settles O58: the log, its clear and its console, and each command of the update page on the state in which it is taken. -/
theorem logAndUpdateComplete : Obligations.LogAndUpdateComplete := by
  unfold Obligations.LogAndUpdateComplete
  refine ⟨fun s ag w l htake hquiet hruns hl hlen hcheck => ?_, fun s ag w htake hclr hkey hon => ?_, fun s hbusy hruns hnone => ?_,
    fun s l r hlines hon => ?_, fun s ag w htake h1 h2 huse hstore => ?_, fun s ag htake htarget hst huse hon => ?_,
    fun s ag htake htarget hst hstore hon => ?_, fun s ag w a o htake hquiet hst ho hfit ha => ?_, fun s ag htake hst hon => ?_,
    fun s ag htake hon => ?_, fun s hst hruns hquiet htarget hgood => ?_, fun s x c hst hruns hquiet htarget hx hbad hnone => ?_⟩
  · obtain ⟨-, hon⟩ := quiesced_false hquiet
    generalize hu : setReg Reg.logSel (newInUse Reg.logSel (s.rb (Reg.stageCtrl (Reg.logSel / 0x1000)) 0) w (s.reg Reg.logSel)) s = u
    have hsel : u.rf Reg.logSel 11 0 = fld w 11 0 := by
      rw [← hu, State.rf, setReg_reg_eq, newInUse_logSel, fld_stored (by decide)]
    have hquiet' : u.quiesced Page.log = false := by
      rw [← hu, quiesced_of_sameRegs (setReg_onlyRegs (List.mem_singleton_self _) _ s).1 (by decide) (by decide)]
      exact hquiet
    have hruns' : u.mgtRuns = true := by
      have hmode : u.reg Reg.pwrMode = s.reg Reg.pwrMode := by rw [← hu, setReg_reg_ne (by decide)]
      have hwdog : u.reg Reg.dbgWdog = s.reg Reg.dbgWdog := by rw [← hu, setReg_reg_ne (by decide)]
      have hboot : u.boot = s.boot := by rw [← hu]; rfl
      rw [← hruns, State.mgtRuns, State.mgtRuns, State.isReady, State.isReady, State.gated, State.gated, State.mode, State.mode, State.rf, State.rf,
        State.rb, State.rb, hmode, hwdog, hboot]
    have hlog : tabGet [] u.nvm.log (u.rf Reg.logSel 11 0) = l := by rw [hsel, ← hu]; exact hl.symm
    have hwithin : Within [Page.log] s u := by rw [← hu]; exact (within_refl _ s).setReg (by decide) _
    have hexec : exec (.logSelWrite ag w) s =
        .next (recShown l (setRb Reg.logStatus2 0 true (modMgt (fun m => { m with selHeld := false }) u))) := by
      change Host.Outcome.next (logSelWrite _ _ s) = _
      have hlog' : tabGet [] (modMgt (fun m => { m with selHeld := false }) u).nvm.log
          ((modMgt (fun m => { m with selHeld := false }) u).rf Reg.logSel 11 0) = l := hlog
      rw [logSelWrite, guarded_of_takes htake, pageWork_on hon, storeReg_of_plain hasStaged_logSel, hu, selServe, hquiet', hruns', selShow]
      simp only [hlog', hcheck, hlen, decide_true, Bool.and_self, Bool.not_true, Bool.or_self, Bool.false_eq_true, if_true, if_false]
      rfl
    have hsame := recShown_sameRegs l (setRb Reg.logStatus2 0 true (modMgt (fun m => { m with selHeld := false }) u))
    obtain ⟨hpages, hbytes⟩ := recShown_within l ((hwithin.eq (t := modMgt (fun m => { m with selHeld := false }) u) rfl rfl).setRb
      (a := Reg.logStatus2) (by decide) 0 true)
    refine ⟨_, hexec, ?_, recShown_words hlen _, ?_, hpages, hbytes⟩
    · rw [State.rf, hsame _ (by decide), setRb_reg_ne (by decide)]
      exact hsel
    · rw [State.rb, hsame _ (by decide)]
      exact setRb_rb_eq (by decide) _ _ _
  · refine ⟨setRb (Reg.status Page.log) 1 true s, ?_, setRb_rb_eq (by decide) _ _ _, setRb_onlyRegs (List.mem_singleton_self _) _ _ _⟩
    change Host.Outcome.next (logCtrlWrite _ _ s) = _
    rw [logCtrlWrite, guarded_of_takes htake, hclr, if_neg (by decide), if_neg (by rw [hkey]; decide), pageWork_on hon]
  · generalize hu : setRb (Reg.status Page.log) 1 false (modNvm (fun n => { n with log := [], logCount := 0 }) s) = u
    have hexec : exec .logClearDone s = .next (logFlush u) := by
      change Host.Outcome.next (if _ then _ else _) = _
      rw [hbusy, hruns, if_pos (by decide), hu]
    have hclear : u.rb (Reg.status Page.log) 1 = false := by rw [← hu]; exact setRb_rb_eq (by decide) _ _ _
    have hnvm : u.nvm = { s.nvm with log := [], logCount := 0 } := by rw [← hu]; rfl
    have hregs : SameRegs [Reg.status Page.log] s u := fun a ha => by rw [← hu, setRb_reg_ne (by simpa using ha)]; rfl
    have hbytes : SameBytes s u := by rw [← hu]; exact fun _ => rfl
    refine ⟨_, hexec, ?_⟩
    rcases logFlush_of_none (s := u) (by rw [← hu]; exact hnone) with h | h
    · rw [h, hnvm]
      exact ⟨hclear, rfl, rfl, rfl, hregs, hbytes⟩
    · rw [h]
      show u.rb (Reg.status Page.log) 1 = false ∧ u.nvm.log = [] ∧ u.nvm.logCount = 0 ∧ u.nvm.logSeq = _ ∧ _
      rw [hnvm]
      exact ⟨hclear, rfl, rfl, rfl, hregs, hbytes⟩
  · refine ⟨modMgt (fun m => { m with console := r }) { s with dataOut := bytesWords (consoleLine l) }, ?_, rfl, rfl, fun _ _ => rfl, fun _ => rfl⟩
    change Host.Outcome.next (match s.mgt.console with | [] => s | l :: r => _) = _
    rw [hlines]
    simp only [hon, if_true]
  · refine ⟨setReg Reg.updTarget (newInUse Reg.updTarget (s.rb (Reg.stageCtrl (Reg.updTarget / 0x1000)) 0) w (s.reg Reg.updTarget)) s, ?_, ?_,
      setReg_onlyRegs (List.mem_singleton_self _) _ s⟩
    · have hfree : ¬ (s.updState = 1 ∨ s.updState = 2 ∨ s.slotInUse (fld w 1 0) = true ∨ fld w 1 0 = 3 ∧ s.storeUsed = true) := by
        rintro (h | h | h | ⟨h3, h⟩)
        · exact h1 h
        · exact h2 h
        · rw [huse] at h; cases h
        · rcases hstore with h' | h'
          · exact h' h3
          · rw [h'] at h; cases h
      change Host.Outcome.next (updTargetWrite _ _ s) = _
      rw [updTargetWrite, guarded_of_takes htake, if_neg hfree, storeReg_of_plain hasStaged_updTarget]
    · rw [State.updTarget, State.rf, setReg_reg_eq, newInUse_updTarget, fld_stored (by decide)]
  · have h0 : s.updTarget ≠ 0 := by rcases htarget with h | h <;> rw [h] <;> decide
    have h3 : s.updTarget ≠ 3 := by rcases htarget with h | h <;> rw [h] <;> decide
    have hexec : exec (.updBegin ag) s = .next (setReg Reg.updOffset 0 (setReg Reg.updStatus (wd (2 ^ 24))
        (modMgt (fun m => { m with begun := s.updTarget }) (updEmpty s.updTarget s)))) := by
      change Host.Outcome.next (updCtrlWrite ag 1 s) = _
      rw [updCtrlWrite_of_takes htake hon (by decide), ← updBegin_of_free h0 hst huse fun h => absurd h h3]
      rfl
    obtain ⟨hstate, hoff, hregs⟩ := updBegin_regs s.updTarget (fun m => { m with begun := s.updTarget }) s
    exact ⟨_, hexec, hstate, hoff, updEmpty_slot h0 h3 s, rfl, hregs, updEmpty_sameBytes h3 s⟩
  · have hexec : exec (.updBegin ag) s = .next (setReg Reg.updOffset 0 (setReg Reg.updStatus (wd (2 ^ 24))
        (modMgt (fun m => { m with begun := s.updTarget }) (updEmpty s.updTarget s)))) := by
      change Host.Outcome.next (updCtrlWrite ag 1 s) = _
      rw [updCtrlWrite_of_takes htake hon (by decide), ← updBegin_of_free (by rw [htarget]; decide) hst (by rw [htarget]; rfl) fun _ => hstore]
      rfl
    obtain ⟨hstate, hoff, hregs⟩ := updBegin_regs s.updTarget (fun m => { m with begun := s.updTarget }) s
    refine ⟨_, hexec, hstate, hoff, ?_, htarget, hregs, updEmpty_sameBytesBut s.updTarget s⟩
    rw [htarget]
    exact updEmpty_image s
  · obtain ⟨hopen, hon⟩ := quiesced_false hquiet
    have hguard : ¬ (s.updState ≠ 1 ∨ 0x40000 < o + 4) := by
      rintro (h | h)
      · exact h hst
      · omega
    have hregs : ∀ b, (setMem 4 a w.toNat s).reg b = s.reg b := fun b => by rw [State.reg, State.reg, setMem_regs]
    refine ⟨setReg Reg.updOffset (wd (o + 4)) (setMem 4 a w.toNat s), ?_, setMem_mem32 a w s, ?_, fun b hb => ?_, setMem_sameBytesBut 4 a _ s⟩
    · change Host.Outcome.next (updDataWrite _ _ s) = _
      rw [updDataWrite, State.updShut, hopen, Bool.false_and, if_neg (by decide), guarded_of_takes htake, pageWork_on hon]
      simp only [← ho, ← ha]
      rw [if_neg hguard]
    · rw [setReg_reg_eq, wd, BitVec.toNat_ofNat]
      omega
    · rw [setReg_reg_ne (by simpa using hb), hregs]
  · refine ⟨setReg Reg.updStatus (wd (2 * 2 ^ 24)) s, ?_, ?_, setReg_onlyRegs (List.mem_singleton_self _) _ s⟩
    · change Host.Outcome.next (updCtrlWrite ag 2 s) = _
      rw [updCtrlWrite_of_takes htake hon (by decide), ← show updVerify s = setReg Reg.updStatus (wd (2 * 2 ^ 24)) s from if_pos hst]
      rfl
    · rw [State.updState, State.rf, setReg_reg_eq]
      decide
  · have hexec : exec (.updAbort ag) s = .next (updAbort s) := by
      change Host.Outcome.next (updCtrlWrite ag 4 s) = _
      rw [updCtrlWrite_of_takes htake hon (by decide)]
      rfl
    refine ⟨_, hexec, ?_⟩
    by_cases hidle : s.updState = 0
    · have hsame : updAbort s = s := by rw [updAbort, hidle]; rfl
      rw [hsame]
      exact ⟨hidle, fun _ _ => rfl, fun _ _ => rfl, fun _ _ => rfl, fun h => absurd hidle h⟩
    · have habort : updAbort s = setReg Reg.updStatus 0 (updEmpty s.mgt.begun s) := by
        rw [updAbort, bne_iff_ne.mpr hidle]
        rfl
      rw [habort]
      refine ⟨?_, fun a ha => ?_, fun h => ?_, updEmpty_sameBytesBut _ s, fun _ => ⟨fun h => ?_, fun h => ?_⟩⟩
      · rw [State.updState, State.rf, setReg_reg_eq]
        decide
      · rw [setReg_reg_ne (by simpa using ha), State.reg, State.reg, updEmpty_regs]
      · exact updEmpty_sameBytes (h.resolve_left hidle) s
      · rw [h]
        exact updEmpty_image s
      · refine updEmpty_slot ?_ ?_ s <;> rcases h with h | h <;> rw [h] <;> decide
  · have hexec : exec .updVerifyDone s = .next (verifyReport 0 1 (setReg Reg.updStatus (wd (3 * 2 ^ 24)) s)) := by
      change Host.Outcome.next (if _ then _ else _) = _
      rw [if_neg (verify_due hst hruns hquiet), if_pos htarget, if_pos htarget, hgood]
    obtain ⟨hraw, hregs, hbytes, -⟩ := verifyReport_effect (k := 0) (by decide) 1 (setReg Reg.updStatus (wd (3 * 2 ^ 24)) s)
    refine ⟨_, hexec, ?_, hraw, ?_, hbytes⟩
    · rw [State.updState, State.rf, hregs _ (by decide) (by decide), setReg_reg_eq]
      decide
    · rw [hregs _ (by decide) (by decide), setReg_reg_ne (by decide)]
  · have h3 : s.updTarget ≠ 3 := by rcases htarget with h | h <;> rw [h] <;> decide
    have hc : c < 8 := fwCheck_lt hbad
    have hexec : exec .updVerifyDone s =
        .next (recErr Page.upd Err.imageInvalid x c (verifyReport 1 3 (setReg Reg.updStatus (wd (4 * 2 ^ 24 + c * 2 ^ 16)) s))) := by
      change Host.Outcome.next (if _ then _ else _) = _
      rw [if_neg (verify_due hst hruns hquiet), if_neg h3, ← hx, hbad]
    obtain ⟨hraw, hregs, hbytes, hslots⟩ := verifyReport_effect (k := 1) (by decide) 3 (setReg Reg.updStatus (wd (4 * 2 ^ 24 + c * 2 ^ 16)) s)
    have hcount : (verifyReport 1 3 (setReg Reg.updStatus (wd (4 * 2 ^ 24 + c * 2 ^ 16)) s)).rf (Reg.errCode Page.upd) 15 10 = 0 := by
      rw [State.rf, hregs _ (by decide) (by decide), setReg_reg_ne (by decide)]
      exact hnone
    have hstatus : ∀ u : State, (recErr Page.upd Err.imageInvalid x c u).reg Reg.updStatus = u.reg Reg.updStatus := fun u =>
      recErr_sameRegs _ _ _ _ u _ (by decide)
    have hx32 : x < 2 ^ 32 := hx ▸ (s.reg Reg.updOffset).isLt
    have hword : ∀ c < 8, fld (wd (4 * 2 ^ 24 + c * 2 ^ 16)) 31 24 = 4 ∧ fld (wd (4 * 2 ^ 24 + c * 2 ^ 16)) 23 16 = c := by decide
    obtain ⟨hfour, hcheck⟩ := hword c hc
    have hset : ∀ u : State, SameBytes u (recErr Page.upd Err.imageInvalid x c u) := fun u =>
      ((within_refl [Page.upd, Page.dbg] u).recErr (by decide) (by decide) _ _ _).2
    have hcode := recErr_first_errCode (extra := c) (by simp only [openDetail]; omega) Err.imageInvalid x hcount
    refine ⟨_, hexec, ?_, ?_, recErr_keeps_set _ _ _ (by decide) (by decide) hraw, ?_, recErr_first_errInfo (by simp only [openDetail]; omega) _ _ hcount,
      ?_, ?_, fun a => (hset _ a).trans (hbytes a)⟩
    · rw [State.updState, State.rf, hstatus, hregs _ (by decide) (by decide), setReg_reg_eq, hfour]
    · rw [State.rf, hstatus, hregs _ (by decide) (by decide), setReg_reg_eq, hcheck]
    · rw [State.rf, hcode]
      exact firstErrWord_code (by decide) _
    · rw [State.rf, hcode, firstErrWord_detail (by decide)]
      omega
    · rw [State.fwSlot, recErr_nvm, hslots]
      rfl

end Sys2Proof.Proofs
end

section
/-! PROOFS. Hollyhock's reset and its restart (O24; R86, R91, R441–R443, R473). What goes on around a reset of Hollyhock leaves the causes of
resets, the watchdog's register, the trial and the state of the start, and clears no fault. -/

namespace Sys2Proof.Proofs
open Sys2Proof Sys2Proof.Machine Sys2Proof.Laws

/-- The registers in which a Hollyhock reset shows itself (R93, R473, R474). -/
def holly (a : Nat) : Bool := a == Reg.rstCause || a == Reg.dbgWdog || a == Reg.dbgFaultSum

/-- What the acts around a reset of Hollyhock leave. -/
structure HollyKept (s t : State) : Prop where
  boot : t.boot = s.boot
  trial : t.nvm.trial = s.nvm.trial
  trialRun : t.nvm.trialRun = s.nvm.trialRun
  trialCount : t.nvm.trialCount = s.nvm.trialCount
  active : t.nvm.active = s.nvm.active
  header : t.nvm.header = s.nvm.header
  reverted : t.mgt.reverted = s.mgt.reverted
  cause : t.reg Reg.rstCause = s.reg Reg.rstCause
  wdog : t.reg Reg.dbgWdog = s.reg Reg.dbgWdog
  faults : ∀ k < 32, s.rb Reg.dbgFaultSum k = true → t.rb Reg.dbgFaultSum k = true

theorem HollyKept.refl (s : State) : HollyKept s s := ⟨rfl, rfl, rfl, rfl, rfl, rfl, rfl, rfl, rfl, fun _ _ h => h⟩

theorem HollyKept.trans {s t u : State} (h : HollyKept s t) (h' : HollyKept t u) : HollyKept s u :=
  ⟨h'.boot.trans h.boot, h'.trial.trans h.trial, h'.trialRun.trans h.trialRun, h'.trialCount.trans h.trialCount, h'.active.trans h.active,
    h'.header.trans h.header, h'.reverted.trans h.reverted, h'.cause.trans h.cause, h'.wdog.trans h.wdog,
    fun k hk hb => h'.faults k hk (h.faults k hk hb)⟩

section
variable {r s : State}

/-- A change beside the registers, the state of the start, the MRAM's trial and the reverted trial. -/
theorem HollyKept.eq (h : HollyKept r s) {t : State} (hr : t.regs = s.regs) (hb : t.boot = s.boot) (hn : t.nvm = s.nvm) (hm : t.mgt = s.mgt) :
    HollyKept r t := by
  have hreg : ∀ a, t.reg a = s.reg a := fun a => by rw [State.reg, State.reg, hr]
  exact h.trans ⟨hb, by rw [hn], by rw [hn], by rw [hn], by rw [hn], by rw [hn], by rw [hm], hreg _, hreg _,
    fun k _ hk => by rw [State.rb, hreg]; exact hk⟩

theorem HollyKept.setReg (h : HollyKept r s) {a : Nat} (ha : holly a = false) (w : Word) : HollyKept r (setReg a w s) := by
  obtain ⟨⟨hcause, hwdog⟩, hsum⟩ : (a ≠ Reg.rstCause ∧ a ≠ Reg.dbgWdog) ∧ a ≠ Reg.dbgFaultSum := by
    simpa only [holly, Bool.or_eq_false_iff, beq_eq_false_iff_ne] using ha
  exact h.trans ⟨rfl, rfl, rfl, rfl, rfl, rfl, rfl, setReg_reg_ne hcause.symm w s, setReg_reg_ne hwdog.symm w s,
    fun k _ hk => by rw [State.rb, setReg_reg_ne hsum.symm]; exact hk⟩

theorem HollyKept.setRf (h : HollyKept r s) {a : Nat} (ha : holly a = false) (hi lo v : Nat) : HollyKept r (setRf a hi lo v s) := h.setReg ha _
theorem HollyKept.setRb (h : HollyKept r s) {a : Nat} (ha : holly a = false) (k : Nat) (b : Bool) : HollyKept r (setRb a k b s) := h.setReg ha _
theorem HollyKept.addRf (h : HollyKept r s) {a : Nat} (ha : holly a = false) (hi lo n : Nat) : HollyKept r (addRf a hi lo n s) := h.setReg ha _

theorem HollyKept.modFab (h : HollyKept r s) (f : FabricSt → FabricSt) : HollyKept r (modFab f s) := h.eq rfl rfl rfl rfl
theorem HollyKept.modRadio (h : HollyKept r s) (f : RadioSt → RadioSt) : HollyKept r (modRadio f s) := h.eq rfl rfl rfl rfl
theorem HollyKept.modRx (h : HollyKept r s) (f : RxSt → RxSt) : HollyKept r (modRx f s) := h.eq rfl rfl rfl rfl
theorem HollyKept.modCoil (h : HollyKept r s) (n : Nat) (f : Coil → Coil) : HollyKept r (modCoil n f s) := h.eq rfl rfl rfl rfl
theorem HollyKept.modEng (h : HollyKept r s) (n : Nat) (f : Eng → Eng) : HollyKept r (modEng n f s) := h.eq rfl rfl rfl rfl
theorem HollyKept.modPlayer (h : HollyKept r s) (n : Nat) (f : Player → Player) : HollyKept r (modPlayer n f s) := h.eq rfl rfl rfl rfl
theorem HollyKept.publish (h : HollyKept r s) (p t : Nat) : HollyKept r (publish p t s) := h.eq rfl rfl rfl rfl
theorem HollyKept.publishOn (h : HollyKept r s) (p c t : Nat) : HollyKept r (publishOn p c t s) := h.eq rfl rfl rfl rfl

/-- Hollyhock's working state changes, but for the trial that it has to report as reverted. -/
theorem HollyKept.modMgt (h : HollyKept r s) (f : MgtSt → MgtSt) (hf : (f s.mgt).reverted = s.mgt.reverted) : HollyKept r (modMgt f s) :=
  h.trans ⟨rfl, rfl, rfl, rfl, rfl, rfl, hf, rfl, rfl, fun _ _ hk => hk⟩

theorem HollyKept.ite {c : Prop} [Decidable c] {t u : State} (ht : HollyKept r t) (hu : HollyKept r u) : HollyKept r (if c then t else u) := by
  split
  · exact ht
  · exact hu

theorem HollyKept.sif (h : HollyKept r s) {f : State → State} (c : Bool) (hf : ∀ t, HollyKept r t → HollyKept r (f t)) : HollyKept r (sif c f s) :=
  HollyKept.ite (hf s h) h

theorem HollyKept.foldl {α : Type} {f : State → α → State} (h : HollyKept r s) {xs : List α}
    (hf : ∀ x ∈ xs, ∀ t, HollyKept r t → HollyKept r (f t x)) : HollyKept r (xs.foldl f s) := by
  induction xs generalizing s with
  | nil => exact h
  | cons x xs ih => exact ih (hf x List.mem_cons_self s h) fun y hy => hf y (List.mem_cons_of_mem x hy)

theorem HollyKept.forEach (h : HollyKept r s) {xs : List Nat} {f : Nat → State → State} (hf : ∀ k ∈ xs, ∀ t, HollyKept r t → HollyKept r (f k t)) :
    HollyKept r (forEach xs f s) := h.foldl hf

/-! ## Interrupts and errors -/

theorem holly_of_offset {a : Nat} (h : a % 0x1000 < 0x40) : holly a = false := by
  have hne : ∀ b, 0x40 ≤ b % 0x1000 → (a == b) = false := fun b hb => beq_false_of_ne fun hab => by subst hab; omega
  rw [holly, hne _ (by decide), hne _ (by decide), hne _ (by decide)]
  rfl

theorem holly_header (p : Nat) : holly (Reg.ctrl p) = false ∧ holly (Reg.status p) = false ∧ holly (Reg.irqRaw p) = false ∧
    holly (Reg.irqStat p) = false ∧ holly (Reg.owner p) = false ∧ holly (Reg.errCode p) = false ∧ holly (Reg.errInfo p) = false := by
  refine ⟨?_, ?_, ?_, ?_, ?_, ?_, ?_⟩ <;> refine holly_of_offset ?_ <;> simp only [Reg.ctrl, Reg.status, Reg.irqRaw, Reg.irqStat, Reg.owner, Reg.errCode, Reg.errInfo] <;> omega

theorem HollyKept.irq (h : HollyKept r s) (p k : Nat) : HollyKept r (irq p k s) := by
  obtain ⟨-, -, hraw, hstat, -⟩ := holly_header p
  have hset := h.setRb hraw k true
  exact HollyKept.ite (hset.setRb hstat k true) hset

theorem HollyKept.irqLevel (h : HollyKept r s) (p k : Nat) (b : Bool) : HollyKept r (irqLevel p k b s) := by
  obtain ⟨-, -, hraw, hstat, -⟩ := holly_header p
  have hset := h.setRb hraw k b
  exact HollyKept.ite (hset.setRb hstat k true) hset

/-- A fault's class is added to the summary. -/
theorem HollyKept.faultSet (h : HollyKept r s) (k : Nat) : HollyKept r (Machine.setRb Reg.dbgFaultSum k true s) :=
  h.trans ⟨rfl, rfl, rfl, rfl, rfl, rfl, rfl, setRb_reg_ne (by decide) _ _ _, setRb_reg_ne (by decide) _ _ _,
    fun _ hj hb => setRb_true_keeps_set k hj hb⟩

theorem HollyKept.faultIn (h : HollyKept r s) (same : Bool) (cls p code : Nat) : HollyKept r (faultIn same cls p code s) :=
  HollyKept.sif (h.sif _ fun _ ht => (ht.faultSet cls).irq Page.dbg 0) _ fun _ ht =>
    ((ht.setReg (a := Reg.dbgFirst) (by decide) _).setReg (a := Reg.dbgFirstTickLo) (by decide) _).setReg (a := Reg.dbgFirstTickLo + 4) (by decide) _

theorem HollyKept.fault (h : HollyKept r s) (cls p code : Nat) : HollyKept r (fault cls p code s) := h.faultIn true cls p code

theorem HollyKept.faultOpt (h : HollyKept r s) (cls : Option Nat) (p code : Nat) : HollyKept r (faultOpt cls p code s) := by
  cases cls with
  | some c => exact h.faultIn true c p code
  | none => exact h

theorem HollyKept.nextFree (h : HollyKept r s) : HollyKept r (nextFree s) := h.eq rfl rfl rfl rfl

theorem HollyKept.detailUsed (h : HollyKept r s) (d : Nat) : HollyKept r (detailUsed d s) := HollyKept.ite h.nextFree h

theorem HollyKept.recErrAs (h : HollyKept r s) (cls : Option Nat) (p code info extra : Nat) : HollyKept r (recErrAs cls p code info extra s) := by
  obtain ⟨-, -, -, -, -, hcode, hinfo⟩ := holly_header p
  have hfirst : HollyKept r (noteFirst p code info extra s) := HollyKept.detailUsed (((h.detailUsed info).setReg hcode _).setReg hinfo _) extra
  exact HollyKept.faultOpt (HollyKept.irq (HollyKept.ite hfirst (h.addRf hcode _ _ _)) p 31) cls p code

theorem HollyKept.recErr (h : HollyKept r s) (p code info extra : Nat) : HollyKept r (recErr p code info extra s) := h.recErrAs _ _ _ _ _

/-! ## The governor -/

theorem HollyKept.limitEnd (h : HollyKept r s) : HollyKept r (limitEnd s) :=
  h.sif _ fun _ ht => (ht.irqLevel Page.fwgt 3 false).setReg (a := Reg.fwgtGovStatus) (by decide) _

theorem HollyKept.govSet (h : HollyKept r s) (g : Nat) : HollyKept r (govSet g s) :=
  HollyKept.ite (h.eq rfl rfl rfl rfl) (HollyKept.ite h (h.eq rfl rfl rfl rfl))

theorem HollyKept.govShow (h : HollyKept r s) (g : Nat) : HollyKept r (govShow g s) :=
  ((h.setReg (a := Reg.fwgtGovStatus) (by decide) _).setRf (a := Reg.fwgtGovMeas) (by decide) _ _ _).irqLevel Page.fwgt 3 _

theorem HollyKept.govReport (h : HollyKept r s) (old g : Nat) (newly : List Nat) : HollyKept r (govReport old g newly s) :=
  HollyKept.ite (HollyKept.recErr (HollyKept.irq ((h.addRf (a := Reg.fwgtGovCnt) (by decide) 31 16 _).sif _ fun _ ht =>
    ht.addRf (a := Reg.fwgtGovCnt) (by decide) 15 0 1) Page.fwgt 2) _ _ _ _) h

theorem HollyKept.floorMark (h : HollyKept r s) (g : Nat) : HollyKept r (floorMark g s) :=
  HollyKept.ite (h.forEach fun n _ _ ht => HollyKept.ite (ht.modEng n _) ht) h

theorem HollyKept.headFollow (h : HollyKept r s) (c : Nat) : HollyKept r (headFollow c s) := by
  have hreg : holly (Reg.coilDriveStatus c) = false := by
    have hoff : Reg.coilDriveStatus c % 0x1000 = 0x48 := by simp only [Reg.coilDriveStatus]; omega
    have hne : ∀ b, b % 0x1000 ≠ 0x48 → (Reg.coilDriveStatus c == b) = false := fun b hb => beq_false_of_ne fun h => hb (h ▸ hoff)
    rw [holly, hne _ (by decide), hne _ (by decide), hne _ (by decide)]
    rfl
  exact (h.setRb hreg 2 _).irqLevel (Page.coil c) 6 _

theorem HollyKept.govern (h : HollyKept r s) : HollyKept r (govern s) := by
  have hset : ∀ g (l : List Nat), HollyKept r (Machine.govSet g (Machine.forEach (List.range 12) (fun c =>
      Machine.modCoil c (fun x => { x with capped := l.contains c })) (Machine.limitEnd s))) := fun g l =>
    HollyKept.govSet (h.limitEnd.forEach fun c _ _ ht => ht.modCoil c _) g
  have hgov : ∀ (u : State) (v : GovSt), HollyKept r u → HollyKept r { u with gov := v } := fun _ _ hu => hu.eq rfl rfl rfl rfl
  exact HollyKept.ite h (HollyKept.forEach (HollyKept.floorMark ((hgov _ _ (hset _ _)).govShow _ |>.govReport _ _ _) _) fun c _ _ ht => ht.headFollow c)

theorem HollyKept.governAt (h : HollyKept r s) (b : Nat) : HollyKept r (governAt b s) := by
  have htime : ∀ (u : State) f, HollyKept r u → HollyKept r (modTime f u) := fun _ _ hu => hu.eq rfl rfl rfl rfl
  exact htime _ _ (HollyKept.govern (htime _ _ h))

/-! ## The log -/

theorem HollyKept.consoleAdd (h : HollyKept r s) (x : List Word) : HollyKept r (consoleAdd x s) :=
  HollyKept.ite h (HollyKept.ite (h.modMgt _ rfl) (h.addRf (a := Reg.dbgConsole) (by decide) 8 1 1))

theorem HollyKept.logNoted (h : HollyKept r s) (l : List (Nat × List Word)) (q n c : Nat) :
    HollyKept r (modNvm (fun v => { v with log := l, logSeq := q, logNext := n, logCount := c }) s) :=
  h.trans ⟨rfl, rfl, rfl, rfl, rfl, rfl, rfl, rfl, rfl, fun _ _ hk => hk⟩

theorem HollyKept.logWrite (h : HollyKept r s) (x : LogRec) : HollyKept r (logWrite x s) := by
  have hnoted := fun l q n c => (h.logNoted l q n c).irq Page.log 0
  exact HollyKept.ite h (HollyKept.consoleAdd (HollyKept.ite (((hnoted _ _ _ _).irq Page.log 1).publish _ _) (hnoted _ _ _ _)) _)

theorem HollyKept.logFlush (h : HollyKept r s) : HollyKept r (logFlush s) :=
  HollyKept.ite ((h.modMgt _ rfl).foldl fun x _ _ ht => ht.logWrite x) h

theorem HollyKept.logRec (h : HollyKept r s) (x : LogRec) : HollyKept r (logRec x s) :=
  HollyKept.ite (h.logFlush.logWrite x) (h.modMgt _ rfl)

theorem HollyKept.logAdd (h : HollyKept r s) (code source sev info detail : Nat) : HollyKept r (logAdd code source sev info detail s) := h.logRec _

/-! ## Pages and resources that are given back -/

theorem HollyKept.givePages (h : HollyKept r s) (l : List (Nat × Nat)) : HollyKept r (givePages l s) :=
  h.foldl fun p _ _ ht => HollyKept.ite ht (ht.setRf (holly_header p.1).2.2.2.2.1 1 0 p.2)

theorem holly_sysResClaim {i : Nat} (hi : i < 0x79) : holly (Reg.sysResClaim i) = false := by
  have hne : ∀ b, 0x1000 ≤ b → (Reg.sysResClaim i == b) = false := fun b hb =>
    beq_false_of_ne fun h => by simp only [Reg.sysResClaim] at h; omega
  rw [holly, hne _ (by decide), hne _ (by decide), hne _ (by decide)]
  rfl

theorem holly_evfGpCfg {g : Nat} (hg : g < 16) : holly (Reg.evfGpCfg g) = false := by
  have hlt : Reg.evfGpCfg g < 0x7000 ∧ 0x6d00 ≤ Reg.evfGpCfg g := by simp only [Reg.evfGpCfg]; omega
  have hne : ∀ b, (b < 0x6d00 ∨ 0x7000 ≤ b) → (Reg.evfGpCfg g == b) = false := fun b hb => beq_false_of_ne fun h => by omega
  rw [holly, hne _ (by decide), hne _ (by decide), hne _ (by decide)]
  rfl

theorem HollyKept.gpRelease (h : HollyKept r s) {g : Nat} (hg : g < 16) : HollyKept r (gpRelease g s) := by
  have hshade : ∀ (u : State) a w, HollyKept r u → HollyKept r (setShade a w u) := fun _ _ _ hu => hu.eq rfl rfl rfl rfl
  exact (hshade _ _ _ (h.setRf (holly_evfGpCfg hg) 2 0 0)).modFab _

theorem HollyKept.releaseRes (h : HollyKept r s) {i : Nat} (hi : i < 0x79) : HollyKept r (releaseRes i s) := by
  have hset := h.setReg (holly_sysResClaim hi) 0
  unfold Machine.releaseRes Machine.sif
  split
  · next hgp => exact hset.gpRelease (by have := of_decide_eq_true hgp; omega)
  · exact hset

theorem HollyKept.releaseAll (h : HollyKept r s) (p : Nat → Nat → Bool) : HollyKept r (releaseAll p s) :=
  h.forEach fun _ hi _ ht => HollyKept.ite (ht.releaseRes (List.mem_range.mp hi)) ht

/-! ## A calibration that a reset ends -/

theorem calUnits_lt {k m i : Nat} (h : i ∈ calUnits k m) : i < 0x79 := by
  unfold calUnits at h
  split at h
  · have := List.mem_range.mp (List.mem_of_mem_filter h)
    omega
  · split at h
    · rw [List.mem_singleton.mp h]; decide
    · exact absurd h List.not_mem_nil

theorem HollyKept.calTold (h : HollyKept r s) (err : Nat) : HollyKept r (calTold err s) := HollyKept.ite (h.modMgt _ rfl) h

theorem HollyKept.calEnd (h : HollyKept r s) (err : Nat) : HollyKept r (calEnd err s) := by
  unfold Machine.calEnd Machine.calEndAs
  cases s.mgt.cal with
  | none => exact h
  | some j =>
    have hunits : HollyKept r (Machine.forEach (calUnits j.kind j.coils) (fun i u => if u.holder i = 2 then Machine.releaseRes i u else u)
        (Machine.modMgt (fun m => { m with cal := none }) s)) :=
      (h.modMgt _ rfl).forEach fun _ hi _ ht => HollyKept.ite (ht.releaseRes (calUnits_lt hi)) ht
    have hpages := HollyKept.givePages (hunits.forEach (xs := j.owned.map Prod.fst)
      (f := fun p => Machine.setRb (Reg.status p) 1 (s.boot.blocks.contains p)) fun p _ _ ht => ht.setRb (holly_header p).2.1 1 _) j.owned
    have hshown := (hpages.setRf (a := Reg.calStatus) (by decide) 7 0 err).setRb (a := Reg.calStatus) (by decide) 31 false
    exact HollyKept.govern (HollyKept.irq (HollyKept.faultOpt (HollyKept.calTold (hshown.logAdd _ _ _ _ _) err) _ Page.cal err) Page.cal 0)

/-! ## The radio that a table has held -/

theorem HollyKept.lateSearch (h : HollyKept r s) (t : Nat) : HollyKept r (lateSearch t s) := by
  unfold Machine.lateSearch
  split
  · exact h
  · exact HollyKept.ite ((h.modRx _).recErr _ _ _ _) h

theorem HollyKept.setRbState (h : HollyKept r s) (v t : Nat) : HollyKept r (setRbState v t s) := by
  have hstate := (((h.setRf (a := Reg.rbSynState) (by decide) 3 0 v).setRb (a := Reg.rbTxStatus) (by decide) 0 (decide (6 ≤ v))).irq
    Page.rbSyn 4).publish 0xcd t
  exact HollyKept.ite h (HollyKept.ite (HollyKept.lateSearch ((hstate.setRb (a := Reg.rbRxAgcStatus) (by decide) 31 false).modRx _) t) hstate)

theorem HollyKept.startSynth (h : HollyKept r s) (t : Nat) : HollyKept r (startSynth t s) :=
  (((h.setRb (a := Reg.rbSynState) (by decide) 12 false).modRadio _).sif _ fun _ hu =>
    hu.addRf (a := Reg.rbSynCnt) (by decide) _ _ _).setRb (a := Reg.rbSynState) (by decide) 13 _

theorem HollyKept.stopSynth (h : HollyKept r s) : HollyKept r (stopSynth s) :=
  ((h.modRadio _).setRb (a := Reg.rbSynState) (by decide) 12 false).setRb (a := Reg.rbSynState) (by decide) 13 _

theorem HollyKept.radioEnter (h : HollyKept r s) (g t : Nat) : HollyKept r (radioEnter g t s) := by
  have hentered := HollyKept.ite (c := 3 ≤ g ∧ s.rbState = 2) (h.setRbState 3 t) (HollyKept.ite (c := g = 4 ∧ s.rbState = 5 ∧ s.rbLocked)
    (h.setRbState 4 t) (HollyKept.ite (c := 3 ≤ g ∧ (s.rbState = 4 ∨ s.rbState = 5) ∧ !s.rbLocked) (h.setRbState 3 t) h))
  exact HollyKept.ite (hentered.startSynth t) hentered

theorem HollyKept.radioMove (h : HollyKept r s) (t : Nat) : HollyKept r (radioMove t s) := by
  unfold Machine.radioMove
  split
  · exact h
  · refine HollyKept.ite ((h.radioEnter _ t).modRadio _) ?_
    split
    · exact (h.radioEnter _ t).modRadio _
    · exact HollyKept.ite (h.radioEnter _ t) (((h.radioEnter _ t).sif _ fun _ hu => hu.stopSynth).modRadio _)

theorem HollyKept.radioTo (h : HollyKept r s) (g t : Nat) : HollyKept r (radioTo g t s) := HollyKept.radioMove (h.modRadio _) t

theorem HollyKept.radioAct (h : HollyKept r s) (q : RadioReq) (t : Nat) : HollyKept r (radioAct q t s) := by
  have hasked := ((((h.modRadio fun r => { r with waiting := none }).setRb (a := Reg.rbSynState) (by decide) 14 false).setRf
    (a := Reg.rbSynState) (by decide) 9 4 q.chan).setRf (a := Reg.rbSynState) (by decide) 23 19 q.pa)
  exact HollyKept.radioTo (((hasked.setRf (a := Reg.rbSynState) (by decide) 18 15 _).sif _ fun _ hu => hu.stopSynth).modRadio _) _ t

theorem HollyKept.radioAsk (h : HollyKept r s) (q : RadioReq) (t : Nat) : HollyKept r (radioAsk q t s) :=
  HollyKept.ite h (HollyKept.ite ((h.modRadio _).setRb (a := Reg.rbSynState) (by decide) 14 true) (h.radioAct q t))

theorem HollyKept.radioIdle (h : HollyKept r s) (t : Nat) : HollyKept r (radioIdle t s) := HollyKept.ite (h.radioAsk _ t) h

theorem HollyKept.sectionErr (h : HollyKept r s) (k slot e : Nat) : HollyKept r (sectionErr k slot e s) :=
  HollyKept.ite h (HollyKept.ite (HollyKept.ite (h.modEng k _) h) (HollyKept.ite (h.eq rfl rfl rfl rfl) h))

theorem HollyKept.radioTake (h : HollyKept r s) (q : RadioReq) (t : Nat) : HollyKept r (radioTake q t s) := by
  unfold Machine.radioTake
  cases q.target with
  | none => exact h.radioAct q t
  | some T => exact HollyKept.ite (HollyKept.sectionErr ((h.radioAct q t).recErr _ _ _ _) _ _ _) (h.radioAct q t)

theorem HollyKept.dutyShow (h : HollyKept r s) {g : Nat} (hg : g < 4) : HollyKept r (dutyShow g s) := by
  have hreg : ∀ g < 4, holly (Reg.rbTxDutyUse g) = false := by decide
  exact (h.setRf (hreg g hg) 15 0 _).setRb (a := Reg.rbTxStatus) (by decide) _ _

theorem HollyKept.dutySettle (h : HollyKept r s) {g : Nat} (hg : g < 4) : HollyKept r (dutySettle g s) :=
  HollyKept.ite h (HollyKept.dutyShow ((h.modRadio _).modRadio _) hg)

theorem HollyKept.txRefused (h : HollyKept r s) (cls code cause chan : Nat) : HollyKept r (txRefused cls code cause chan s) :=
  (h.recErrAs _ _ _ _ _).irq Page.rbTx 2

theorem HollyKept.txCheck (h : HollyKept r s) (chan ask air : Nat) : HollyKept r (txCheck chan ask air s).2 := by
  have hg : s.rf (Reg.rbTxCh chan) 25 24 < 4 := fld_lt _ 25 24
  have hset := h.dutySettle hg
  dsimp only [Machine.txCheck]
  split
  · exact hset.nextFree.txRefused _ _ _ _
  · split
    · exact (hset.txRefused _ _ _ _).addRf (a := Reg.rbTxCnt2) (by decide) _ _ _
    · split
      · exact (hset.txRefused _ _ _ _).addRf (a := Reg.rbTxCnt2) (by decide) _ _ _
      · have hclamp := fun (c : Bool) => hset.sif (f := fun v => Machine.setRb Reg.rbTxStatus 8 true (Machine.irq Page.rbTx 1 (Machine.addRf Reg.rbTxCnt 15 0 1 v))) c
          fun _ ht => ((ht.addRf (a := Reg.rbTxCnt) (by decide) 15 0 1).irq Page.rbTx 1).setRb (a := Reg.rbTxStatus) (by decide) 8 true
        split
        · exact (((hclamp _).txRefused _ _ _ _).addRf (a := Reg.rbTxCnt2) (by decide) _ _ _).irq Page.rbTx 3
        · exact hclamp _

theorem HollyKept.testCheck (h : HollyKept r s) (x : RadioTx) : HollyKept r (testCheck x s).2 := by
  dsimp only [Machine.testCheck]
  split
  · exact h
  · exact h.txCheck _ _ _

theorem HollyKept.rampStart (h : HollyKept r s) (x : RadioTx) : HollyKept r (rampStart x s) :=
  HollyKept.setRbState ((h.modRadio _).setRf (a := Reg.rbTxStatus) (by decide) 20 16 x.step) 6 x.ramp

theorem HollyKept.testRamp (h : HollyKept r s) (t : Nat) : HollyKept r (testRamp t s) := by
  unfold Machine.testRamp
  split
  · exact h
  · next x _ =>
    have hcheck := h.testCheck x
    split
    · split
      · next hgo =>
        rw [hgo] at hcheck
        exact HollyKept.rampStart (hcheck.sif _ fun _ hu => hu.setRbState 3 t) _
      · next hno =>
        rw [hno] at hcheck
        exact (hcheck.modRadio _).radioTo _ t
    · exact h

theorem HollyKept.radioResume (h : HollyKept r s) (t : Nat) : HollyKept r (radioResume t s) := by
  unfold Machine.radioResume
  split
  · exact h
  · refine HollyKept.testRamp ?_ t
    split
    · exact h.radioTake _ t
    · exact h.radioIdle t

theorem HollyKept.freeSteps (h : HollyKept r s) (p : Nat) : HollyKept r (freeSteps p s) := h.forEach fun k _ _ ht => ht.modPlayer k _

theorem HollyKept.tableOpen (h : HollyKept r s) : HollyKept r (tableOpen s) := by
  unfold Machine.tableOpen
  split
  · exact h
  · exact HollyKept.modMgt (h.forEach fun p _ _ ht => HollyKept.freeSteps ((ht.setRb (holly_header p).1 1 false).setRb (holly_header p).2.1 0 false) p) _ rfl

theorem HollyKept.tableDrop (h : HollyKept r s) : HollyKept r (tableDrop s) := h.tableOpen.sif _ fun _ ht => ht.radioResume _

end

/-! ## The reset itself -/

theorem sparse_get_filter {V : Type} {d : Nat → V} {f : Nat × V → Bool} {a : Nat} (ha : ∀ v, f (a, v) = true) (l : List (Nat × V)) :
    Sparse.get d (l.filter f) a = Sparse.get d l a := by
  induction l with
  | nil => rfl
  | cons p l ih =>
    obtain ⟨b, v⟩ := p
    by_cases hb : b = a
    · subst hb
      simp only [List.filter_cons, ha, if_true, Sparse.get]
    · cases hf : f (b, v) with
      | true => simp only [List.filter_cons, hf, if_true, Sparse.get, hb, if_false, ih]
      | false => simp only [List.filter_cons, hf, Bool.false_eq_true, if_false, Sparse.get, hb, ih]

/-- The registers of the MGT island are not among those in which the reset shows. -/
theorem HollyKept.mgtClear {r s : State} (h : HollyKept r s) : HollyKept r (mgtClear s) := by
  have hreg : ∀ a, (∀ v : Word, (decide ((a, v).1 < 0x25000) || decide (0x2a000 ≤ (a, v).1) || (a, v).1 == Reg.sensProt ||
      (a, v).1 == Reg.calCoilStatus || (a, v).1 == Reg.calRecInfo) = true) → (Machine.mgtClear s).reg a = s.reg a :=
    fun a ha => sparse_get_filter (V := Word) ha s.regs
  have hsum := hreg Reg.dbgFaultSum fun _ => rfl
  exact h.trans ⟨rfl, rfl, rfl, rfl, rfl, rfl, rfl, hreg _ fun _ => rfl, hreg _ fun _ => rfl,
    fun k _ hk => by rw [State.rb, hsum]; exact hk⟩

theorem HollyKept.mgtPages {r s : State} (h : HollyKept r s) : HollyKept r (mgtPages s) :=
  h.mgtClear.forEach fun p _ _ ht => (ht.setRb (holly_header p).1 0 true).setRf (holly_header p).2.2.2.2.1 1 0 0

theorem HollyKept.recCut {r s : State} (h : HollyKept r s) : HollyKept r (recCut s) :=
  h.sif _ fun _ ht => ht.trans ⟨rfl, rfl, rfl, rfl, rfl, rfl, rfl, rfl, rfl, fun _ _ hk => hk⟩

theorem HollyKept.modBoot {s t : State} (h : HollyKept s t) (f : BootSt → BootSt) : HollyKept (modBoot f s) (modBoot f t) :=
  ⟨congrArg f h.boot, h.trial, h.trialRun, h.trialCount, h.active, h.header, h.reverted, h.cause, h.wdog, h.faults⟩

/-- The header of the mailbox command that a reset interrupts is kept for the firmware that runs next (R428). -/
def headerKept (s : State) : State :=
  if s.rf Reg.mboxState 1 0 = 1 ∧ s.nvm.header = none then
    modNvm (fun n => { n with header := s.mgt.job.map (fun x => (s.rf Reg.mboxState 31 24, x.tag, x.err == Err.none)) }) s
  else s

/-- Hollyhock is down. -/
def mgtFalls (s : State) : State := modBoot (fun b => { b with mgtDown := true }) s

/-- A Hollyhock reset (R86, R91): beside the mailbox's header, and that Hollyhock is down, what shows resets stays as it was. -/
theorem hhReset_kept (s : State) : HollyKept (mgtFalls (headerKept (tableDrop s))) (hhReset s) := by
  have hpages := fun l f hf => HollyKept.givePages ((HollyKept.refl (headerKept (tableDrop s))).recCut.mgtPages.modMgt f hf) l
  exact HollyKept.irqLevel (HollyKept.releaseAll (HollyKept.modMgt (HollyKept.calEnd ((hpages _ _ rfl).modBoot _) _) _ rfl) _) Page.sens 2 _

/-- What the reset leaves of the state before it. -/
theorem hhReset_effect (s : State) :
    (hhReset s).boot = { s.boot with mgtDown := true } ∧ (hhReset s).nvm.trial = s.nvm.trial ∧ (hhReset s).nvm.trialRun = s.nvm.trialRun ∧
      (hhReset s).nvm.trialCount = s.nvm.trialCount ∧ (hhReset s).nvm.active = s.nvm.active ∧
      (hhReset s).reg Reg.rstCause = s.reg Reg.rstCause ∧ (hhReset s).reg Reg.dbgWdog = s.reg Reg.dbgWdog ∧
      (hhReset s).mgt.reverted = s.mgt.reverted ∧
      (∀ k < 32, s.rb Reg.dbgFaultSum k = true → (hhReset s).rb Reg.dbgFaultSum k = true) := by
  have hreset := hhReset_kept s
  have hdrop := (HollyKept.refl s).tableDrop
  generalize tableDrop s = u at *
  have hheader : (headerKept u).boot = u.boot ∧ (headerKept u).nvm.trial = u.nvm.trial ∧ (headerKept u).nvm.trialRun = u.nvm.trialRun ∧
      (headerKept u).nvm.trialCount = u.nvm.trialCount ∧ (headerKept u).nvm.active = u.nvm.active ∧ (headerKept u).regs = u.regs ∧
      (headerKept u).mgt = u.mgt := by
    unfold headerKept
    split <;> exact ⟨rfl, rfl, rfl, rfl, rfl, rfl, rfl⟩
  obtain ⟨hboot, htrial, hrun, hcount, hactive, hregs, hmgt⟩ := hheader
  have hreg : ∀ a, (mgtFalls (headerKept u)).reg a = u.reg a := fun a => by
    show Sparse.get regReset (headerKept u).regs a = _
    rw [hregs]; rfl
  refine ⟨?_, hreset.trial.trans (htrial.trans hdrop.trial), hreset.trialRun.trans (hrun.trans hdrop.trialRun),
    hreset.trialCount.trans (hcount.trans hdrop.trialCount), hreset.active.trans (hactive.trans hdrop.active),
    hreset.cause.trans ((hreg _).trans hdrop.cause), hreset.wdog.trans ((hreg _).trans hdrop.wdog), ?_, fun k hk hb => hreset.faults k hk ?_⟩
  · rw [hreset.boot, ← hdrop.boot, ← hboot]
    rfl
  · rw [hreset.reverted, ← hdrop.reverted, ← hmgt]
    rfl
  · rw [State.rb, hreg]
    exact hdrop.faults k hk hb

/-! ## The firmware that runs again -/

theorem irq_boot (p k : Nat) (s : State) : (irq p k s).boot = s.boot := boot_of_onlyRegs (irq_onlyRegs p k s)

theorem mboxAnswer_boot (code tag err : Nat) (ws : List Word) (s : State) : (mboxAnswer code tag err ws s).boot = s.boot := by
  have hfold : ∀ (l : List Nat) (t : State), (l.foldl (fun t i => setReg (Reg.mboxRdata i) (ws.getD i 0) t) t).boot = t.boot := fun l => by
    induction l with
    | nil => exact fun _ => rfl
    | cons i l ih => exact fun t => ih _
  unfold mboxAnswer
  generalize hw : (List.range ws.length).foldl (fun t i => setReg (Reg.mboxRdata i) (ws.getD i 0) t) s = u
  have hu : u.boot = s.boot := by rw [← hw]; exact hfold _ s
  rw [((HollyKept.refl _).publish 0xf3 u.now).boot, irq_boot, setReg_boot, setReg_boot, setReg_boot, hu]

theorem headerReply_boot (b : Bool) (s : State) : (headerReply b s).boot = s.boot := by
  have hfault : ∀ cls p c (t : State), (faultOpt cls p c t).boot = t.boot := fun cls p c t => ((HollyKept.refl t).faultOpt cls p c).boot
  have hanswer : ∀ code tag err ws f, (mboxAnswer code tag err ws (modNvm f s)).boot = s.boot := fun code tag err ws f =>
    (mboxAnswer_boot code tag err ws _).trans (modNvm_boot f s)
  cases h : s.nvm.header with
  | none => rw [headerReply, h]
  | some x =>
    obtain ⟨code, tag, ok⟩ := x
    rw [headerReply, h]
    dsimp only
    split
    · rw [((HollyKept.refl _).fault 13 Page.mbox Err.imageInvalid).boot, hanswer]
    · split
      · rw [hanswer]
      · rw [hfault, hanswer]

theorem HollyKept.supplyTold {r s : State} (h : HollyKept r s) : HollyKept r (supplyTold s) :=
  (h.modMgt _ rfl).forEach fun _ _ _ ht => (((ht.publish _ _).publishOn _ _ _).irq Page.sens 1).fault 12 Page.sens 0

theorem HollyKept.selShow {r s : State} (h : HollyKept r s) : HollyKept r (selShow s) := by
  have hreg : ∀ k < 8, holly (Reg.logRec k) = false := by decide
  have hshown := (h.setRb (a := Reg.logStatus2) (by decide) 0
    (decide ((tabGet [] s.nvm.log (s.rf Reg.logSel 11 0)).getD 7 0 = wd (crc32 (wordsBytes ((tabGet [] s.nvm.log (s.rf Reg.logSel 11 0)).take 7)))) &&
      decide ((tabGet [] s.nvm.log (s.rf Reg.logSel 11 0)).length = 8))).forEach (xs := List.range 8)
    (f := fun w => Machine.setReg (Reg.logRec w) ((tabGet [] s.nvm.log (s.rf Reg.logSel 11 0)).getD w 0)) fun k hk _ ht =>
      ht.setReg (hreg k (List.mem_range.mp hk)) _
  exact HollyKept.ite hshown ((hshown.addRf (a := Reg.logStatus2) (by decide) 31 16 1).fault 14 Page.log 0)

theorem HollyKept.selServe {r s : State} (h : HollyKept r s) : HollyKept r (selServe s) :=
  HollyKept.ite (h.modMgt _ rfl) (HollyKept.selShow (h.modMgt _ rfl))

theorem mgtBack_boot (s : State) : (mgtBack s).boot = s.boot := by
  have hrest : ∀ u : State, (sif (supplyTold (logFlush (sif u.nvm.trialRun (irq Page.upd 2) u))).mgt.selHeld selServe
      (supplyTold (logFlush (sif u.nvm.trialRun (irq Page.upd 2) u)))).boot = u.boot := fun u =>
    ((((HollyKept.refl u).sif _ fun _ ht => ht.irq Page.upd 2).logFlush.supplyTold).sif _ fun _ ht => ht.selServe).boot
  unfold mgtBack
  split
  · exact hrest s
  · exact (hrest _).trans (irq_boot Page.upd 3 _)

theorem checkRecord_kept (s : State) : HollyKept s (checkRecord s).2 := by
  have hflag : ∀ k (t : State), HollyKept s t → HollyKept s (fault 14 Page.rst 0 (setRb Reg.rstBootFlags k true t)) := fun k _ ht =>
    (ht.setRb (a := Reg.rstBootFlags) (by decide) k true).fault 14 Page.rst 0
  exact ((HollyKept.refl s).sif _ fun t ht => hflag 3 t ht).sif _ fun t ht => hflag 2 t ht

/-- A trial that is given up (R441). -/
theorem revertTrial_kept (cause : Nat) (s : State) : HollyKept (modMgt (fun m => { m with reverted := some cause })
    (modNvm (fun n => { n with trialRun := false, trial := none }) s)) (revertTrial cause s) :=
  (HollyKept.refl _).logAdd _ _ _ _ _

/-- A reset for the firmware's own sake says so (R93). -/
theorem fwReset_effect (s : State) : (fwReset s).boot.mgtDown = true ∧ (fwReset s).nvm.trialRun = s.nvm.trialRun ∧
    (fwReset s).nvm.trial = s.nvm.trial ∧ (fwReset s).nvm.trialCount = s.nvm.trialCount ∧ (fwReset s).nvm.active = s.nvm.active ∧
    (fwReset s).mgt.reverted = s.mgt.reverted ∧ (fwReset s).rb Reg.rstCause 9 = true := by
  obtain ⟨hboot, htrial, hrun, hcount, hactive, hcause, -, hreverted, -⟩ := hhReset_effect (setRb Reg.rstCause 9 true s)
  refine ⟨?_, hrun, htrial, hcount, hactive, hreverted, ?_⟩
  · rw [fwReset, hboot]
  · rw [fwReset, State.rb, hcause]
    exact setRb_rb_eq (by decide) _ true s

/-- A fault's class stands in the summary (R474). -/
theorem faultIn_dbgFaultSum {same : Bool} {cls p code : Nat} (hc : cls < 32) (s : State) : (faultIn same cls p code s).rb Reg.dbgFaultSum cls = true := by
  have hset : (sif (!s.rb Reg.dbgFaultSum cls) (fun t => irq Page.dbg 0 (setRb Reg.dbgFaultSum cls true t)) s).rb Reg.dbgFaultSum cls = true := by
    cases h : s.rb Reg.dbgFaultSum cls with
    | true => exact h
    | false => exact irq_keeps_set hc (setRb_rb_eq hc _ _ s)
  refine HollyKept.faults ((HollyKept.refl _).sif _ fun _ ht => ?_) cls hc hset
  exact ((ht.setReg (a := Reg.dbgFirst) (by decide) _).setReg (a := Reg.dbgFirstTickLo) (by decide) _).setReg (a := Reg.dbgFirstTickLo + 4) (by decide) _

/-- A trip of the watchdog (R473). -/
theorem watchdog_effect (pc : Nat) (s : State) :
    (watchdog pc hhReset s).boot.mgtDown = true ∧ (watchdog pc hhReset s).rb Reg.rstCause 4 = true ∧
      (watchdog pc hhReset s).rb Reg.dbgFaultSum 15 = true ∧
      (watchdog pc hhReset s).rf Reg.dbgWdog 31 16 = min 0xffff (s.rf Reg.dbgWdog 31 16 + 1) := by
  have hfault := (HollyKept.refl s).fault 15 0xff 0
  have hsum : (fault 15 0xff 0 s).rb Reg.dbgFaultSum 15 = true := faultIn_dbgFaultSum (by decide) s
  generalize hu : addRf Reg.dbgWdog 31 16 1 (setRb Reg.rstCause 4 true (fault 15 0xff 0 s)) = u
  obtain ⟨hboot, -, -, -, -, hcause, hwdog, -, hfaults⟩ := hhReset_effect u
  have hcount : u.rf Reg.dbgWdog 31 16 = min 0xffff (s.rf Reg.dbgWdog 31 16 + 1) := by
    have hbefore : (setRb Reg.rstCause 4 true (fault 15 0xff 0 s)).rf Reg.dbgWdog 31 16 = s.rf Reg.dbgWdog 31 16 := by
      rw [State.rf, setRb_reg_ne (by decide), hfault.wdog]
      rfl
    rw [← hu, addRf_rf_eq (by decide), hbefore]
    rfl
  have hshown : u.rb Reg.rstCause 4 = true := by
    rw [← hu, State.rb, addRf_reg_ne (by decide)]
    exact setRb_rb_eq (by decide) _ true _
  have hclass : u.rb Reg.dbgFaultSum 15 = true := by
    rw [← hu, State.rb, addRf_reg_ne (by decide), setRb_reg_ne (by decide)]
    exact hsum
  have hreset : ∀ f : MgtSt → MgtSt, (modMgt f (hhReset u)).boot.mgtDown = true ∧ (modMgt f (hhReset u)).rb Reg.rstCause 4 = true ∧
      (modMgt f (hhReset u)).rb Reg.dbgFaultSum 15 = true ∧ (modMgt f (hhReset u)).rf Reg.dbgWdog 31 16 = min 0xffff (s.rf Reg.dbgWdog 31 16 + 1) := fun f => by
    refine ⟨congrArg BootSt.mgtDown hboot, ?_, hfaults 15 (by decide) hclass, ?_⟩
    · show bit ((hhReset u).reg _) 4 = true
      rw [hcause]; exact hshown
    · show fld ((hhReset u).reg _) 31 16 = _
      rw [hwdog]; exact hcount
  dsimp only [watchdog]
  rw [hu]
  split
  · obtain ⟨hdown, hc4, h15, hrf⟩ := hreset _
    refine ⟨(congrArg BootSt.mgtDown (irq_boot Page.dbg 1 _)).trans hdown, irq_keeps_set (by decide) ?_, irq_keeps_set (by decide) ?_, ?_⟩
    · rw [State.rb, setRb_reg_ne (by decide)]; exact hc4
    · rw [State.rb, setRb_reg_ne (by decide)]; exact h15
    · rw [State.rf, (irq_onlyRegs Page.dbg 1 _).1 _ (by decide), ← State.rf, setRb_rf_ne (by decide) (by decide)]
      exact hrf
  · exact hreset _

/-- A reset that the host asks for shows itself and leaves the device READY (R91). -/
theorem mgtReset_effect (s : State) :
    (mgtReset s).boot.mgtDown = true ∧ (mgtReset s).rb Reg.rstCause 5 = true ∧ (mgtReset s).isReady = s.isReady := by
  generalize hu : modMgt (fun m => { m with trips := [] }) (setRb Reg.dbgWdog 0 false (setRb Reg.rstCause 5 true s)) = u
  have hreset : mgtReset s = hhReset u := by rw [← hu]; rfl
  have hbefore : u.boot = s.boot := by rw [← hu, modMgt_boot, setRb, setReg_boot, setRb, setReg_boot]
  have hcause : u.rb Reg.rstCause 5 = true := by
    have hreg : u.reg Reg.rstCause = (setRb Reg.rstCause 5 true s).reg Reg.rstCause := by
      rw [← hu, modMgt_reg, setRb_reg_ne (by decide)]
    rw [State.rb, hreg]
    exact setRb_rb_eq (by decide) _ true s
  obtain ⟨hboot, -, -, -, -, hkept, -⟩ := hhReset_effect u
  rw [hreset]
  exact ⟨by rw [hboot], by rw [State.rb, hkept]; exact hcause, by rw [State.isReady, hboot, State.isReady, hbefore]⟩

/-- A trial that is given up by a reset (R443). -/
theorem fwReset_revertTrial (cause : Nat) (s : State) :
    (fwReset (revertTrial cause s)).boot.mgtDown = true ∧ (fwReset (revertTrial cause s)).nvm.trialRun = false ∧
      (fwReset (revertTrial cause s)).nvm.trial = none ∧ (fwReset (revertTrial cause s)).rb Reg.rstCause 9 = true := by
  obtain ⟨hdown, hrun, htrial, -, -, -, hcause⟩ := fwReset_effect (revertTrial cause s)
  have hrevert := revertTrial_kept cause s
  exact ⟨hdown, hrun.trans hrevert.trialRun, htrial.trans hrevert.trial, hcause⟩

/-- Settles O24: each way to a Hollyhock reset by the state in which it begins, and the restart by what it leaves of the start's state. -/
theorem hollyhockResetComplete : Obligations.HollyhockResetComplete := by
  unfold Obligations.HollyhockResetComplete
  refine ⟨fun s ag w htake hkey hready => ?_, fun s pc hruns => ?_, fun s hdown hready hgated hhalt hslot => ?_, fun s hruns htrial => ?_⟩
  · have hfld : fld (setFld w 1 0 2) 31 16 = 0xa5c3 := (fld_setFld_ne w 2 (by decide) (by decide)).trans hkey
    have hbit0 : bit (setFld w 1 0 2) 0 = false := by rw [bit_setFld _ _ _ _ _ (by decide), if_pos (by decide)]; rfl
    have hbit1 : bit (setFld w 1 0 2) 1 = true := by rw [bit_setFld _ _ _ _ _ (by decide), if_pos (by decide)]; rfl
    have hexec : exec (.swResetMgt ag w) s = .next (mgtReset s) := by
      change Host.Outcome.next (swResetWrite _ _ s) = _
      rw [swResetWrite, hold_of_reaches htake.1, guarded_of_takes htake]
      simp only [hfld, hbit0, hbit1, hready, ne_eq, not_true_eq_false, Bool.not_true, Bool.false_eq_true, if_true, if_false]
    obtain ⟨hdown, hcause, hstill⟩ := mgtReset_effect s
    exact ⟨_, hexec, hdown, hcause, hstill.trans hready⟩
  · have hexec : exec (.watchdogTrip pc) s = .next (watchdog pc hhReset s) := by
      change Host.Outcome.next (if _ then _ else _) = _
      rw [if_pos hruns]
    exact ⟨_, hexec, watchdog_effect pc s⟩
  · have hdue : ¬ ((!s.boot.mgtDown) = true ∨ (!s.isReady) = true ∨ s.gated = true ∨ s.rb Reg.dbgWdog 0 = true) := by
      rw [hdown, hready, hgated, hhalt]; decide
    generalize hu : modBoot (fun b => { b with mgtDown := false, fullCal := false, wakeHeld := false }) (bootSlot 2 s) = u
    have hexec : exec .hollyhockRestart s = .next (mgtBack (headerReply (s.nvm.trialCount == 1 && !(bootSlot 2 s).nvm.trialRun)
        (setRf Reg.mboxState 1 0 0 (((checkRecord u).1.map recShow).getD id (checkRecord u).2)))) := by
      change Host.Outcome.next (if _ then _ else _) = _
      rw [if_neg hdue]
      simp only [if_neg hslot, hu]
    have hshown : (((checkRecord u).1.map recShow).getD id (checkRecord u).2).boot = u.boot := by
      rw [← (checkRecord_kept u).boot]
      cases (checkRecord u).1 with
      | none => rfl
      | some x => rw [Option.map_some, Option.getD_some, recShow, setReg_boot]
    refine ⟨_, hexec, ?_⟩
    rw [mgtBack_boot, headerReply_boot, setRf, setReg_boot, hshown, ← hu, modBoot_boot]
  · have hexec : exec .trialTimeout s = .next (fwReset (revertTrial 1 (passTo (s.mgt.trialFrom + 108480000 *
        max 1 (min 3600 (s.rf Reg.updConfirmCfg 15 0))) s))) := by
      change Host.Outcome.next (if _ then _ else _) = _
      rw [hruns, htrial, if_pos (by decide)]
    exact ⟨_, hexec, fwReset_revertTrial 1 _⟩

end Sys2Proof.Proofs
end

section
/-! PROOFS. The mailbox (O56; R426–R429, R434, R442–R445): a command that the mailbox takes is loaded into its registers and begun, and then
has the effect of its code. -/

namespace Sys2Proof.Proofs
open Sys2Proof Sys2Proof.Machine Sys2Proof.Laws

/-! ## A command is loaded and begun -/

/-- The first `n` of a list of words, in the registers that `f` numbers. -/
def wordsLoaded (f : Nat → Nat) (ws : List Word) (n : Nat) (s : State) : State :=
  (List.range n).foldl (fun t i => setReg (f i) (ws.getD i 0) t) s

theorem wordsLoaded_succ (f : Nat → Nat) (ws : List Word) (n : Nat) (s : State) :
    wordsLoaded f ws (n + 1) s = setReg (f n) (ws.getD n 0) (wordsLoaded f ws n s) := by
  rw [wordsLoaded, List.range_succ, List.foldl_append]
  rfl

/-- A loaded word can be read. -/
theorem wordsLoaded_reg {f : Nat → Nat} (hf : ∀ i j, f i = f j → i = j) (ws : List Word) {n i : Nat} (hi : i < n) (s : State) :
    (wordsLoaded f ws n s).reg (f i) = ws.getD i 0 := by
  induction n with
  | zero => exact absurd hi (Nat.not_lt_zero i)
  | succ n ih =>
    rw [wordsLoaded_succ]
    rcases Nat.lt_succ_iff_lt_or_eq.mp hi with hlt | rfl
    · rw [setReg_reg_ne fun h => (Nat.ne_of_lt hlt) (hf _ _ h), ih hlt]
    · rw [setReg_reg_eq]

/-- Loading words changes no other register, and nothing else. -/
theorem wordsLoaded_onlyRegs (f : Nat → Nat) (ws : List Word) (n : Nat) (s : State) :
    OnlyRegs ((List.range n).map f) s (wordsLoaded f ws n s) := by
  induction n with
  | zero => exact onlyRegs_refl _ _
  | succ n ih =>
    rw [wordsLoaded_succ]
    have hmem : ∀ x ∈ (List.range n).map f, x ∈ (List.range (n + 1)).map f := fun x hx => by
      rw [List.range_succ, List.map_append]
      exact List.mem_append_left _ hx
    exact onlyRegs_trans (onlyRegs_mono hmem ih) (setReg_onlyRegs (List.mem_map.mpr ⟨n, List.mem_range.mpr (Nat.lt_succ_self n), rfl⟩) _ _)

theorem mboxArg_inj (i j : Nat) (h : Reg.mboxArg i = Reg.mboxArg j) : i = j := by simp only [Reg.mboxArg] at h; omega

/-- The mailbox once a command has begun: its registers, with `req` in MBOX.REQ and `st` in MBOX.STATE, and the command that runs. -/
def commandBegun (req st : Word) (tag : Nat) (args : List Word) (s : State) : State :=
  setReg Reg.mboxState st (modMgt (fun m => { m with goHeld := false, job := some { tag := tag } })
    (setReg Reg.mboxReq req (wordsLoaded Reg.mboxArg args args.length s)))

/-- What a command that has begun has changed: registers of the mailbox, and the command that runs. -/
theorem commandBegun_effect (req st : Word) (tag : Nat) (args : List Word) (s : State) :
    (∀ i < args.length, (commandBegun req st tag args s).reg (Reg.mboxArg i) = args.getD i 0) ∧
    (commandBegun req st tag args s).reg Reg.mboxState = st ∧
    SameRegs (Reg.mboxReq :: Reg.mboxState :: (List.range args.length).map Reg.mboxArg) s (commandBegun req st tag args s) ∧
    ∃ r, commandBegun req st tag args s = { s with regs := r, mgt := { s.mgt with goHeld := false, job := some { tag := tag } } } := by
  have hrest := wordsLoaded_onlyRegs Reg.mboxArg args args.length s
  have hargs : ∀ i < args.length, (wordsLoaded Reg.mboxArg args args.length s).reg (Reg.mboxArg i) = args.getD i 0 :=
    fun i hi => wordsLoaded_reg mboxArg_inj args hi s
  unfold commandBegun
  generalize wordsLoaded Reg.mboxArg args args.length s = l at hrest hargs
  obtain ⟨hregs, -, hfields⟩ := hrest
  refine ⟨?_, ?_, ?_, ?_⟩
  · intro i hi
    have hstate : Reg.mboxArg i ≠ Reg.mboxState := by simp only [Reg.mboxArg, Reg.mboxState]; omega
    have hreq : Reg.mboxArg i ≠ Reg.mboxReq := by simp only [Reg.mboxArg, Reg.mboxReq]; omega
    rw [setReg_reg_ne hstate]
    exact (setReg_reg_ne hreq _ _).trans (hargs i hi)
  · rw [setReg_reg_eq]
  · intro a ha
    obtain ⟨hreq, hstate, ha'⟩ : a ≠ Reg.mboxReq ∧ a ≠ Reg.mboxState ∧ a ∉ (List.range args.length).map Reg.mboxArg := by simpa using ha
    rw [setReg_reg_ne hstate]
    exact (setReg_reg_ne hreq _ _).trans (hregs a ha')
  · have hl : l = { s with regs := l.regs } := by rw [← hfields]
    rw [hl]
    exact ⟨_, rfl⟩

/-- The mailbox once the command with a CODE, a TAG and arguments has begun (R426). -/
def mboxBegun (code tag : Nat) (args : List Word) (s : State) : State :=
  commandBegun (wd (code % 256 * 2 ^ 24 + args.length % 256 * 2 ^ 16 + tag % 65536)) (wd (code % 256 * 2 ^ 24 + 1)) (tag % 65536) args s

/-- Writes to registers of the mailbox above its header leave the checks on a write there as they were. -/
theorem takes_of_onlyRegs {l : List Nat} {s t : State} {ag : Agent} {a : Nat} (h : OnlyRegs l s t)
    (hl : ∀ x ∈ l, 0x40 ≤ x % 0x1000 ∧ x / 0x1000 = Page.mbox) (ha : a / 0x1000 = Page.mbox) (htake : s.takes ag a) : t.takes ag a := by
  have hkeep : ∀ x, (x % 0x1000 < 0x40 ∨ x / 0x1000 ≠ Page.mbox) → t.reg x = s.reg x := fun x hx =>
    h.1 x fun hmem => by obtain ⟨hoff, hpage⟩ := hl x hmem; omega
  have hclk : t.reg Reg.clkGate = s.reg Reg.clkGate := hkeep _ (by decide)
  have hmode : t.reg Reg.pwrMode = s.reg Reg.pwrMode := hkeep _ (by decide)
  have hown : t.reg (Reg.owner Page.mbox) = s.reg (Reg.owner Page.mbox) := hkeep _ (by decide)
  have hlock : t.reg (Reg.lock Page.mbox) = s.reg (Reg.lock Page.mbox) := hkeep _ (by decide)
  have hstatus : t.reg (Reg.status Page.mbox) = s.reg (Reg.status Page.mbox) := hkeep _ (by decide)
  have hctrl : t.reg (Reg.ctrl Page.mbox) = s.reg (Reg.ctrl Page.mbox) := hkeep _ (by decide)
  have hboot : t.boot = s.boot := boot_of_onlyRegs h
  have hstart : t.started = s.started := field_of_onlyRegs State.started (fun _ _ => rfl) h
  have hheld : t.heldWrites = s.heldWrites := field_of_onlyRegs State.heldWrites (fun _ _ => rfl) h
  have hcommit : t.commit = s.commit := field_of_onlyRegs State.commit (fun _ _ => rfl) h
  simp only [State.takes, State.reaches, State.unlocked, State.holdsWrite, State.hostUp, State.portTakes, State.mode, State.isReady, State.pageUp,
    State.secureOut, State.quiesced, State.rb, State.rf, ha, hclk, hmode, hown, hlock, hstatus, hctrl, hboot, hstart, hheld, hcommit] at htake ⊢
  exact htake

theorem mboxRegs_plain : ∀ i < 64, hasStaged (Reg.mboxArg i) = false ∧ hasAcc (BitVec.allOnes 32) (Reg.mboxArg i) .rwl = false ∧
    hasAcc (BitVec.allOnes 32) (Reg.mboxArg i) .rws = false ∧
    (∀ stage : Bool, (rowAt (Reg.mboxArg i)).map (fun r => (r.maskOf (fun f => f.acc.stores && !(stage && f.staged)),
      r.maskOf (fun f => f.acc == .w1c), r.maskOf (fun f => f.acc == .w1s))) = some (BitVec.allOnes 32, 0, 0)) := by decide +kernel

theorem mboxReq_plain : hasStaged Reg.mboxReq = false ∧ (∀ stage : Bool, (rowAt Reg.mboxReq).map (fun r =>
    (r.maskOf (fun f => f.acc.stores && !(stage && f.staged)), r.maskOf (fun f => f.acc == .w1c), r.maskOf (fun f => f.acc == .w1s))) =
      some (BitVec.allOnes 32, 0, 0)) := by decide +kernel

theorem newInUse_of_full {a : Nat} {stage : Bool}
    (hrow : (rowAt a).map (fun r => (r.maskOf (fun f => f.acc.stores && !(stage && f.staged)),
      r.maskOf (fun f => f.acc == .w1c), r.maskOf (fun f => f.acc == .w1s))) = some (BitVec.allOnes 32, 0, 0)) (w old : Word) :
    newInUse a stage w old = w := by
  rw [newInUse_of_mask hrow, BitVec.not_allOnes, BitVec.and_zero, BitVec.zero_or, BitVec.and_allOnes]

theorem mboxWrite_arg {s : State} {ag : Agent} {i : Nat} (hi : i < 64) (w : Word) (htake : s.takes ag Reg.mboxReq) (hidle : s.mboxSt ≠ 1) :
    mboxPlainWrite ag (Reg.mboxArg i) w s = setReg (Reg.mboxArg i) w s := by
  obtain ⟨hstage, hrwl, hrws, hrow⟩ := mboxRegs_plain i hi
  have harg : s.takes ag (Reg.mboxArg i) := by
    obtain ⟨⟨hheld, hhost, hup, hsec⟩, hown, -⟩ := htake
    have hpage : Reg.mboxArg i / 0x1000 = Reg.mboxReq / 0x1000 := by simp only [Reg.mboxArg, Reg.mboxReq]; omega
    have hoff : (Reg.mboxArg i % 0x1000 == 0x30) = (Reg.mboxReq % 0x1000 == 0x30) := by
      simp only [Reg.mboxArg, Reg.mboxReq]
      exact (beq_eq_false_iff_ne.mpr (by omega)).trans (by decide)
    rw [State.holdsWrite, mboxReq_plain.1] at hheld
    refine ⟨⟨?_, hhost, ?_, ?_⟩, ?_, ?_, ?_⟩
    · rw [State.holdsWrite, hstage, hpage, hoff, hheld]
    · rwa [hpage]
    · rwa [hpage]
    · rwa [hpage]
    · rw [hrwl, Bool.false_and]
    · rw [hrws, Bool.false_and]
  rw [mboxPlainWrite, guarded_of_takes harg]
  simp only [hidle, if_false]
  rw [storeReg_of_plain hstage, newInUse_of_full (hrow _)]

theorem mboxWrite_req {s : State} {ag : Agent} (w : Word) (htake : s.takes ag Reg.mboxReq) (hidle : s.mboxSt ≠ 1) :
    mboxPlainWrite ag Reg.mboxReq w s = setReg Reg.mboxReq w s := by
  obtain ⟨hstage, hrow⟩ := mboxReq_plain
  rw [mboxPlainWrite, guarded_of_takes htake]
  simp only [hidle, if_false]
  rw [storeReg_of_plain hstage, newInUse_of_full (hrow _)]

/-- The registers of the arguments lie in the mailbox above its header. -/
theorem mboxArg_place {n : Nat} (hn : n ≤ 64) : ∀ x ∈ (List.range n).map Reg.mboxArg, 0x40 ≤ x % 0x1000 ∧ x / 0x1000 = Page.mbox := by
  intro x hx
  obtain ⟨i, hi, rfl⟩ := List.mem_map.mp hx
  have hlt := List.mem_range.mp hi
  simp only [Reg.mboxArg, Page.mbox]
  omega

/-- The writes of a command's arguments load them. -/
theorem mboxWrite_args {s : State} {ag : Agent} (args : List Word) {n : Nat} (hn : n ≤ 64) (htake : s.takes ag Reg.mboxReq) (hidle : s.mboxSt ≠ 1) :
    (List.range n).foldl (fun t i => mboxPlainWrite ag (Reg.mboxArg i) (args.getD i 0) t) s = wordsLoaded Reg.mboxArg args n s := by
  induction n with
  | zero => rfl
  | succ n ih =>
    have honly := wordsLoaded_onlyRegs Reg.mboxArg args n s
    have hstate : (wordsLoaded Reg.mboxArg args n s).mboxSt = s.mboxSt := by
      rw [State.mboxSt, State.rf, honly.1 _ fun hmem => ?_]
      · rfl
      · obtain ⟨i, -, hi⟩ := List.mem_map.mp hmem
        simp only [Reg.mboxArg, Reg.mboxState] at hi
        omega
    rw [List.range_succ, List.foldl_append, ih (Nat.le_of_succ_le hn)]
    exact (mboxWrite_arg hn _ (takes_of_onlyRegs honly (mboxArg_place (Nat.le_of_succ_le hn)) (by decide) htake) (hstate ▸ hidle)).trans
      (wordsLoaded_succ _ _ _ _).symm

theorem reqWord_fields (code n tag : Nat) :
    fld (wd (code % 256 * 2 ^ 24 + n % 256 * 2 ^ 16 + tag % 65536)) 31 24 = code % 256 ∧
    fld (wd (code % 256 * 2 ^ 24 + n % 256 * 2 ^ 16 + tag % 65536)) 23 16 = n % 256 ∧
    fld (wd (code % 256 * 2 ^ 24 + n % 256 * 2 ^ 16 + tag % 65536)) 15 0 = tag % 65536 := by
  simp only [fld, wd, BitVec.toNat_ofNat, Nat.shiftRight_eq_div_pow]
  omega

/-- A command that the mailbox takes begins, and runs by its code when it has the arguments that the code asks for (R426, R428). -/
theorem mboxSend_eq {s : State} {ag : Agent} (hfree : s.mboxFree ag) {args : List Word} (hlen : args.length ≤ 64) (code tag : Nat) :
    mboxSend ag code tag args s =
      if mboxArgs (code % 256) = some args.length then mboxRun (code % 256) (mboxBegun code tag args s)
      else faultOpt (some 10) Page.mbox Err.modeAbort (jobErr Err.modeAbort (mboxBegun code tag args s)) := by
  obtain ⟨hreq, hctrl, hidle, hhere, hquiet⟩ := hfree
  generalize hw : wd (code % 256 * 2 ^ 24 + args.length % 256 * 2 ^ 16 + tag % 65536) = w
  generalize hl : wordsLoaded Reg.mboxArg args args.length s = l
  have honly : OnlyRegs (Reg.mboxReq :: (List.range args.length).map Reg.mboxArg) s (setReg Reg.mboxReq w l) := by
    rw [← hl]
    exact onlyRegs_trans (onlyRegs_mono (fun x hx => List.mem_cons_of_mem _ hx) (wordsLoaded_onlyRegs _ _ _ _))
      (setReg_onlyRegs List.mem_cons_self _ _)
  have hplace : ∀ x ∈ Reg.mboxReq :: (List.range args.length).map Reg.mboxArg, 0x40 ≤ x % 0x1000 ∧ x / 0x1000 = Page.mbox := fun x hx => by
    rcases List.mem_cons.mp hx with rfl | hx
    · decide
    · exact mboxArg_place hlen x hx
  have hctrl' := takes_of_onlyRegs honly hplace (by decide) hctrl
  have hhead : ∀ x, x % 0x1000 < 0x40 ∨ x = Reg.mboxState → (setReg Reg.mboxReq w l).reg x = s.reg x := fun x hx => honly.1 x fun hmem => by
    rcases List.mem_cons.mp hmem with rfl | hmem
    · exact absurd hx (by decide)
    · obtain ⟨i, hi, rfl⟩ := List.mem_map.mp hmem
      have hlt := List.mem_range.mp hi
      simp only [Reg.mboxArg, Reg.mboxState] at hx
      omega
  have hstate : (setReg Reg.mboxReq w l).mboxSt = s.mboxSt := by rw [State.mboxSt, State.rf, hhead _ (by decide)]; rfl
  have hquiet' : (setReg Reg.mboxReq w l).quiesced Page.mbox = false := by
    rw [State.quiesced, State.rb, State.rb, hhead _ (by decide), hhead _ (by decide)]
    exact hquiet
  obtain ⟨-, hon⟩ := quiesced_false hquiet'
  have hlow : l.mboxSt = s.mboxSt := by
    rw [← hstate, State.mboxSt, State.mboxSt, State.rf, State.rf, setReg_reg_ne (by decide)]
  obtain ⟨hcode, hcount, htag⟩ := reqWord_fields code args.length tag
  rw [hw] at hcode hcount htag
  rw [Nat.mod_eq_of_lt (by omega)] at hcount
  have hload : (List.range (min 64 args.length)).foldl (fun t i => mboxPlainWrite ag (Reg.mboxArg i) (args.getD i 0) t) s = l := by
    rw [Nat.min_eq_right hlen, mboxWrite_args args hlen hreq hidle, hl]
  have hreq' : mboxPlainWrite ag Reg.mboxReq w l = setReg Reg.mboxReq w l := mboxWrite_req w (takes_of_onlyRegs (by
    rw [← hl]; exact wordsLoaded_onlyRegs _ _ _ _) (mboxArg_place hlen) (by decide) hreq) (hlow ▸ hidle)
  have hrf : ∀ hi lo, (setReg Reg.mboxReq w l).rf Reg.mboxReq hi lo = fld w hi lo := fun hi lo => setReg_rf_eq _ _ _ _ _
  rw [mboxSend, hw]
  simp only [hload, hreq']
  rw [mboxCtrlWrite, guarded_of_takes hctrl', sif, if_pos (by decide), pageWork_on hon, mboxGo, hstate, if_neg hidle, if_neg hhere, hrf, hcount,
    if_neg (by omega), hquiet', if_neg (by decide), mboxStart, hrf, hrf, hrf, hcode, hcount, htag, mboxBegun, commandBegun, hw, hl]


/-- What stands once the mailbox has begun a command that it takes (R426, R428). -/
structure Begun (st : Word) (tag : Nat) (args : List Word) (s b : State) : Prop where
  arg : ∀ i < args.length, b.reg (Reg.mboxArg i) = args.getD i 0
  state : b.reg Reg.mboxState = st
  regs : SameRegs (Reg.mboxReq :: Reg.mboxState :: (List.range args.length).map Reg.mboxArg) s b
  rest : ∃ r, b = { s with regs := r, mgt := { s.mgt with goHeld := false, job := some { tag := tag } } }

theorem mboxBegun_begun (code tag : Nat) (args : List Word) (s : State) :
    Begun (wd (code % 256 * 2 ^ 24 + 1)) (tag % 65536) args s (mboxBegun code tag args s) := by
  unfold mboxBegun
  obtain ⟨harg, hst, hregs, hrest⟩ := commandBegun_effect (wd (code % 256 * 2 ^ 24 + args.length % 256 * 2 ^ 16 + tag % 65536))
    (wd (code % 256 * 2 ^ 24 + 1)) (tag % 65536) args s
  exact ⟨harg, hst, hregs, hrest⟩

theorem begun_of_known {s : State} {ag : Agent} (hfree : s.mboxFree ag) {args : List Word} {code : Nat} (hcode : code < 256)
    (hargs : mboxArgs code = some args.length) (hlen : args.length ≤ 64) (tag : Nat) :
    ∃ b, mboxSend ag code tag args s = mboxRun code b ∧ Begun (wd (code * 2 ^ 24 + 1)) (tag % 65536) args s b := by
  have heq := mboxSend_eq hfree hlen code tag
  have hbegun := mboxBegun_begun code tag args s
  rw [Nat.mod_eq_of_lt hcode, if_pos hargs] at heq
  rw [Nat.mod_eq_of_lt hcode] at hbegun
  exact ⟨_, heq, hbegun⟩

theorem begun_of_unknown {s : State} {ag : Agent} (hfree : s.mboxFree ag) {args : List Word} {code : Nat}
    (hargs : mboxArgs (code % 256) = none) (hlen : args.length ≤ 64) (tag : Nat) :
    ∃ b, mboxSend ag code tag args s = faultOpt (some 10) Page.mbox Err.modeAbort (jobErr Err.modeAbort b) ∧
      Begun (wd (code % 256 * 2 ^ 24 + 1)) (tag % 65536) args s b := by
  have heq := mboxSend_eq hfree hlen code tag
  rw [hargs, if_neg nofun] at heq
  exact ⟨_, heq, mboxBegun_begun code tag args s⟩

section
variable {st : Word} {tag : Nat} {args : List Word} {s b : State}

theorem Begun.jobIs (h : Begun st tag args s b) : b.mgt.job = some { tag := tag } := by obtain ⟨r, hb⟩ := h.rest; rw [hb]
theorem Begun.mem (h : Begun st tag args s b) : b.mem = s.mem := by obtain ⟨r, hb⟩ := h.rest; rw [hb]
theorem Begun.nvm (h : Begun st tag args s b) : b.nvm = s.nvm := by obtain ⟨r, hb⟩ := h.rest; rw [hb]
theorem Begun.boot (h : Begun st tag args s b) : b.boot = s.boot := by obtain ⟨r, hb⟩ := h.rest; rw [hb]
theorem Begun.commit (h : Begun st tag args s b) : b.commit = s.commit := by obtain ⟨r, hb⟩ := h.rest; rw [hb]
theorem Begun.tagKept (h : Begun st tag args s b) : b.tag = s.tag := by obtain ⟨r, hb⟩ := h.rest; rw [hb]
theorem Begun.mgt (h : Begun st tag args s b) : b.mgt = { s.mgt with goHeld := false, job := some { tag := tag } } := by
  obtain ⟨r, hb⟩ := h.rest; rw [hb]

/-- Registers of other pages, and the mailbox's header, are as they were. -/
theorem Begun.reg_eq (h : Begun st tag args s b) (hlen : args.length ≤ 64) {a : Nat} (ha : a / 0x1000 ≠ Page.mbox ∨ a % 0x1000 < 0x40) :
    b.reg a = s.reg a := by
  refine h.regs a fun hmem => ?_
  rcases List.mem_cons.mp hmem with rfl | hmem
  · exact absurd ha (by decide)
  · rcases List.mem_cons.mp hmem with rfl | hmem
    · exact absurd ha (by decide)
    · obtain ⟨hoff, hpage⟩ := mboxArg_place hlen a hmem
      omega

theorem Begun.bytes (h : Begun st tag args s b) : SameBytes s b := fun a => by rw [State.byte, h.mem, State.byte]

theorem Begun.sameRegs_nil (h : Begun st tag [] s b) : SameRegs [Reg.mboxReq, Reg.mboxState] s b := h.regs

end

/-- The running command ends with words. -/
theorem jobWords_job {s : State} {j : Job} (h : s.mgt.job = some j) (ws : List Word) : (jobWords ws s).job = some (j.tag, 0, ws) := by
  rw [State.job, jobWords, modJob]
  change ((s.mgt.job.map _).map _) = _
  rw [h]
  rfl

theorem getVersion_effect {st : Word} {tag : Nat} {s b : State} (h : Begun st tag [] s b) :
    (getVersion b).job = some (tag, 0, [wd s.version, wd ((s.fwSlot s.mgt.run).svn * 65536 + s.rollback), s.dirWord,
      (List.range 8).foldl (fun x k => x ^^^ s.reg (Reg.lspPlScoreId k)) 0]) := by
  have hrun : b.mgt.run = s.mgt.run := by rw [h.mgt]
  have hroll : b.rollback = s.rollback := by simp only [State.rollback, State.roll, h.nvm]
  have hids : ∀ x : Word, ∀ k ∈ List.range 8, (x ^^^ b.reg (Reg.lspPlScoreId k)) = (x ^^^ s.reg (Reg.lspPlScoreId k)) := fun x k hk => by
    have hlt := List.mem_range.mp hk
    rw [h.reg_eq (by decide) (Or.inl (by simp only [Reg.lspPlScoreId, Page.mbox]; omega))]
  rw [getVersion, jobWords_job h.jobIs, List.foldl_ext _ _ _ hids]
  simp only [State.version, State.fwSlot, State.dirWord, h.nvm, hrun, hroll]

/-! ## What a record written to the log leaves as it was -/

/-- Nothing has changed but registers, events, the log, and the records and lines that wait. -/
def LogOnly (s t : State) : Prop :=
  { t with regs := s.regs, fab := s.fab,
           nvm := { t.nvm with log := s.nvm.log, logSeq := s.nvm.logSeq, logNext := s.nvm.logNext, logCount := s.nvm.logCount },
           mgt := { t.mgt with logWaits := s.mgt.logWaits, console := s.mgt.console } } = s

theorem logOnly_trans {s t u : State} (h : LogOnly s t) (h' : LogOnly t u) : LogOnly s u := by
  unfold LogOnly at h h' ⊢
  rw [← h'] at h
  exact h

theorem logOnly_of_onlyRegs {l : List Nat} {s t : State} (h : OnlyRegs l s t) : LogOnly s t := by
  obtain ⟨-, -, hst⟩ := h
  unfold LogOnly
  have ht : t = { s with regs := t.regs } := by rw [← hst]
  rw [ht]

theorem logOnly_irq (p k : Nat) (s : State) : LogOnly s (irq p k s) := logOnly_of_onlyRegs (irq_onlyRegs p k s)

theorem logOnly_publish (p t : Nat) (s : State) : LogOnly s (publish p t s) := rfl

theorem logOnly_consoleAdd (x : List Word) (s : State) : LogOnly s (consoleAdd x s) := by
  unfold consoleAdd
  split
  · rfl
  · split <;> rfl

theorem logOnly_logWrite (r : LogRec) (s : State) : LogOnly s (logWrite r s) := by
  unfold logWrite
  split
  · rfl
  · refine logOnly_trans ?_ (logOnly_consoleAdd _ _)
    have hnoted : ∀ f, LogOnly s (modNvm f s) → LogOnly s (irq Page.log 0 (modNvm f s)) := fun f hf => logOnly_trans hf (logOnly_irq _ _ _)
    split
    · refine logOnly_trans (logOnly_trans ?_ (logOnly_irq Page.log 1 _)) (logOnly_publish _ _ _)
      refine hnoted _ ?_
      rfl
    · refine hnoted _ ?_
      rfl

theorem logOnly_logFlush (s : State) : LogOnly s (logFlush s) := by
  have hfold : ∀ (l : List LogRec) (t : State), LogOnly t (l.foldl (fun t r => logWrite r t) t) := fun l => by
    induction l with
    | nil => exact fun t => rfl
    | cons r l ih => exact fun t => logOnly_trans (logOnly_logWrite r t) (ih _)
  unfold logFlush
  split
  · exact logOnly_trans (t := modMgt (fun m => { m with logWaits := [] }) s) rfl (hfold _ _)
  · rfl

theorem logOnly_logRec (r : LogRec) (s : State) : LogOnly s (logRec r s) := by
  unfold logRec
  split
  · exact logOnly_trans (logOnly_logFlush s) (logOnly_logWrite r _)
  · rfl

theorem logOnly_logAdd (code source sev info detail : Nat) (s : State) : LogOnly s (logAdd code source sev info detail s) := logOnly_logRec _ s

theorem LogOnly.mgtJob {s t : State} (h : LogOnly s t) : t.mgt.job = s.mgt.job := (congrArg (fun u : State => u.mgt.job) h :)
theorem LogOnly.job {s t : State} (h : LogOnly s t) : t.job = s.job := by rw [State.job, h.mgtJob, State.job]
theorem LogOnly.rolls {s t : State} (h : LogOnly s t) : t.nvm.rolls = s.nvm.rolls := (congrArg (fun u : State => u.nvm.rolls) h :)
theorem LogOnly.slots {s t : State} (h : LogOnly s t) : t.nvm.slots = s.nvm.slots := (congrArg (fun u : State => u.nvm.slots) h :)
theorem LogOnly.mem {s t : State} (h : LogOnly s t) : t.mem = s.mem := (congrArg State.mem h :)
theorem LogOnly.tag {s t : State} (h : LogOnly s t) : t.tag = s.tag := (congrArg State.tag h :)
theorem LogOnly.trial {s t : State} (h : LogOnly s t) : t.nvm.active = s.nvm.active ∧ t.nvm.trial = s.nvm.trial ∧ t.nvm.trialRun = s.nvm.trialRun :=
  ⟨(congrArg (fun u : State => u.nvm.active) h :), (congrArg (fun u : State => u.nvm.trial) h :), (congrArg (fun u : State => u.nvm.trialRun) h :)⟩
theorem LogOnly.shadow {s t : State} (h : LogOnly s t) : t.shadow = s.shadow := (congrArg State.shadow h :)
theorem LogOnly.bytes {s t : State} (h : LogOnly s t) : SameBytes s t := fun a => by rw [State.byte, h.mem, State.byte]

/-! ## Each command -/

/-- What the image store holds is what memory holds. -/
theorem store_of_mem {s t : State} (h : t.mem = s.mem) : t.setOk = s.setOk ∧ t.records = s.records ∧ (∀ i, t.recordAt i = s.recordAt i) ∧
    (∀ r, t.recordOk r = s.recordOk r) ∧ ∀ r, t.payload r = s.payload r := by
  have hbyte : ∀ a, t.byte a = s.byte a := fun a => by rw [State.byte, h, State.byte]
  have hbytes : ∀ n a, t.bytes a n = s.bytes a n := fun n => by
    induction n with
    | zero => exact fun a => rfl
    | succ n ih => exact fun a => by rw [State.bytes, State.bytes, hbyte, ih]
  have h16 : ∀ a, t.mem16 a = s.mem16 a := fun a => by rw [State.mem16, hbyte, hbyte, State.mem16]
  have h32 : ∀ a, t.mem32 a = s.mem32 a := fun a => by rw [State.mem32, h16, h16, State.mem32]
  have hrec : t.records = s.records := h16 _
  refine ⟨?_, hrec, fun i => ?_, fun r => ?_, fun r => ?_⟩
  · simp only [State.setOk, hbyte, hbytes, h16, h32, hrec]
  · simp only [State.recordAt, hbyte, h32]
  · simp only [State.recordOk, State.setLength, hbytes, h32, hrec]
    rfl
  · simp only [State.payload, h32]

theorem jobWords_regs (ws : List Word) (s : State) : (jobWords ws s).regs = s.regs := rfl

theorem checkStore_effect {st : Word} {tag : Nat} {s b : State} (h : Begun st tag [] s b) (hset : s.setOk = true) {l : List Nat}
    (hl : l = (List.range s.records).filter (fun i => !s.recordOk (s.recordAt i))) :
    ∃ ws, ws = [wd (s.records - l.length), wd (l.headD 0xff)] ∧ checkStore b = jobWords ws b := by
  obtain ⟨hok, hrecords, hat, hrecOk, -⟩ := store_of_mem h.mem
  refine ⟨_, rfl, ?_⟩
  rw [checkStore, hok, hset, if_neg (by decide)]
  simp only [hrecords, hat, hrecOk, hl]

theorem unknown_effect {st : Word} {tag : Nat} {args : List Word} {s b t : State} (h : Begun st tag args s b)
    (ht : t = faultOpt (some 10) Page.mbox Err.modeAbort (jobErr Err.modeAbort b)) :
    t.job = some (tag, Err.modeAbort, []) ∧ t.reg Reg.mboxState = st ∧ t.rb Reg.dbgFaultSum 10 = true ∧ SameBytes s t := by
  have honly := faultOpt_onlyRegs (some 10) Page.mbox Err.modeAbort (jobErr Err.modeAbort b)
  rw [← ht] at honly
  have hmgt : t.mgt = (jobErr Err.modeAbort b).mgt := field_of_onlyRegs State.mgt (fun _ _ => rfl) honly
  refine ⟨?_, ?_, ?_, fun a => (honly.2.1 a).trans (h.bytes a)⟩
  · rw [State.job, hmgt, jobErr, modJob]
    change ((b.mgt.job.map _).map _) = _
    rw [h.jobIs]
    rfl
  · rw [honly.1 _ (by decide)]
    exact h.state
  · rw [ht]
    exact faultIn_dbgFaultSum (by decide) _

/-- A record that the filter lets through is in the log's next place (R436). -/
theorem logWrite_effect {r : LogRec} {s : State} (h : ¬ r.sev < max 1 (s.rf Reg.logFilter 1 0)) :
    (logWrite r s).nvm.logSeq = (s.nvm.logSeq + 1) % 2 ^ 32 ∧
    tabGet [] (logWrite r s).nvm.log s.nvm.logNext = r.words s.nvm.boots ((s.nvm.logSeq + 1) % 2 ^ 32) ∧
    (logWrite r s).rb (Reg.irqRaw Page.log) 0 = true := by
  rw [logWrite, if_neg h]
  dsimp only
  generalize hu : modNvm _ s = u
  have hirq : (irq Page.log 0 u).rb (Reg.irqRaw Page.log) 0 = true := irq_irqRaw (by decide) u
  have hseq : u.nvm.logSeq = (s.nvm.logSeq + 1) % 2 ^ 32 := by rw [← hu]; rfl
  have hlog : tabGet [] u.nvm.log s.nvm.logNext = r.words s.nvm.boots ((s.nvm.logSeq + 1) % 2 ^ 32) := by
    rw [← hu, modNvm, tabGet, tabSet, sparse_get_put_eq]
  have hdone : ∀ v : State, v.nvm = u.nvm → v.rb (Reg.irqRaw Page.log) 0 = true → ∀ l,
      (consoleAdd l v).nvm = u.nvm ∧ (consoleAdd l v).rb (Reg.irqRaw Page.log) 0 = true := fun v hv hb l => by
    refine ⟨(consoleAdd_nvm l v).trans hv, ?_⟩
    rw [State.rb, (within_consoleAdd (l := [Page.dbg]) (by decide) l v).1 _ (by decide)]
    exact hb
  have hnow : ∀ t, (publish 0xf5 t (irq Page.log 1 (irq Page.log 0 u))).nvm = u.nvm := fun t => by
    change (irq Page.log 1 (irq Page.log 0 u)).nvm = _
    rw [irq_nvm, irq_nvm]
  have hend : ∀ l, (consoleAdd l (if s.nvm.logNext = 4095 then publish 0xf5 (irq Page.log 0 u).now (irq Page.log 1 (irq Page.log 0 u))
      else irq Page.log 0 u)).nvm = u.nvm ∧ (consoleAdd l (if s.nvm.logNext = 4095 then publish 0xf5 (irq Page.log 0 u).now
      (irq Page.log 1 (irq Page.log 0 u)) else irq Page.log 0 u)).rb (Reg.irqRaw Page.log) 0 = true := fun l => by
    split
    · exact hdone _ (hnow _) (irq_keeps_set (p := Page.log) (k := 1) (by decide) hirq) l
    · exact hdone _ (irq_nvm _ _ _) hirq l
  obtain ⟨hnvm, hraw⟩ := hend (r.words s.nvm.boots ((s.nvm.logSeq + 1) % 2 ^ 32))
  rw [hnvm]
  exact ⟨hseq, hlog, hraw⟩

theorem Begun.mgtRuns_eq {st : Word} {tag : Nat} {args : List Word} {s b : State} (h : Begun st tag args s b) (hlen : args.length ≤ 64) :
    b.mgtRuns = s.mgtRuns := by
  have hdbg : b.reg Reg.dbgWdog = s.reg Reg.dbgWdog := h.reg_eq hlen (by decide)
  have hgate : b.gated = s.gated := by
    rw [State.gated, State.mode, State.rf, h.reg_eq hlen (by decide)]
    rfl
  simp only [State.mgtRuns, State.isReady, State.rb, h.boot, hdbg, hgate]

theorem logNote_effect {st : Word} {tag : Nat} {a x y : Word} {s b : State} (h : Begun st tag [a, x, y] s b) (hopen : s.logOpen = true)
    (hnone : s.mgt.logWaits = []) (hfilter : s.rf Reg.logFilter 1 0 ≤ 1) (hcode : 0x8000 ≤ fld a 15 0) :
    (logNote (fld a 15 0) x y b).nvm.logSeq = (s.nvm.logSeq + 1) % 2 ^ 32 ∧
    (logNote (fld a 15 0) x y b).job = some (tag, 0, [wd (s.nvm.logSeq + 1)]) ∧
    tabGet [] (logNote (fld a 15 0) x y b).nvm.log s.nvm.logNext =
      LogRec.words ⟨s.now, fld a 15 0, 0xff, 1, x.toNat, y.toNat⟩ s.nvm.boots ((s.nvm.logSeq + 1) % 2 ^ 32) ∧
    (logNote (fld a 15 0) x y b).rb (Reg.irqRaw Page.log) 0 = true ∧ SameBytes s (logNote (fld a 15 0) x y b) := by
  have hlen : [a, x, y].length ≤ 64 := (by decide : 3 ≤ 64)
  have hfilt : b.rf Reg.logFilter 1 0 = s.rf Reg.logFilter 1 0 := by rw [State.rf, h.reg_eq hlen (by decide), State.rf]
  have hwaits : b.mgt.logWaits = [] := by rw [h.mgt]; exact hnone
  have hopen' : b.logOpen = true := by
    rw [State.logOpen, h.mgtRuns_eq hlen, State.rb, h.reg_eq hlen (by decide)]
    exact hopen
  have hnow : b.now = s.now := by obtain ⟨r, hb⟩ := h.rest; rw [hb]; rfl
  obtain ⟨hf, hfnvm, hfreg⟩ : LogOnly b (logFlush b) ∧ (logFlush b).nvm = b.nvm ∧ (logFlush b).regs = b.regs := by
    refine ⟨logOnly_logFlush b, ?_⟩
    rcases logFlush_of_none hwaits with hflush | hflush <;> rw [hflush] <;> exact ⟨rfl, rfl⟩
  have hsev : ¬ (⟨s.now, fld a 15 0, 0xff, 1, x.toNat, y.toNat⟩ : LogRec).sev < max 1 ((logFlush b).rf Reg.logFilter 1 0) := by
    have hlow : (logFlush b).rf Reg.logFilter 1 0 ≤ 1 := by
      rw [State.rf, State.reg, hfreg]
      exact hfilt.trans_le hfilter
    show ¬ 1 < max 1 ((logFlush b).rf Reg.logFilter 1 0)
    omega
  obtain ⟨hseq, hlog, hraw⟩ := logWrite_effect hsev
  have honly := logOnly_logAdd (fld a 15 0) 0xff 1 x.toNat y.toNat b
  have hadd : logAdd (fld a 15 0) 0xff 1 x.toNat y.toNat b = logWrite ⟨s.now, fld a 15 0, 0xff, 1, x.toNat, y.toNat⟩ (logFlush b) := by
    rw [logAdd, logRec, if_pos hopen', hnow]
  have hnote : logNote (fld a 15 0) x y b = jobWords [wd (s.nvm.logSeq + 1)] (logAdd (fld a 15 0) 0xff 1 x.toNat y.toNat b) := by
    rw [logNote, if_neg (by omega)]
    simp only
    rw [if_neg (by rw [hfilt]; omega), hwaits, h.nvm]
    rfl
  rw [hfnvm, h.nvm] at hseq hlog
  rw [hnote, jobWords_job (honly.mgtJob.trans h.jobIs)]
  refine ⟨?_, rfl, ?_, ?_, fun c => (honly.bytes c).trans (h.bytes c)⟩
  · rw [← hseq, ← hadd]
    rfl
  · rw [← hlog, ← hadd]
    rfl
  · rw [← hraw, ← hadd]
    rfl

/-! ### Firmware -/

/-- A copy of the rollback counter as a rise writes it. -/
def rollCopy (seq svn : Nat) : RollCopy := ⟨seq, svn, crc32 (wordsBytes [wd seq, wd svn])⟩

/-- What the rollback counter reads after a copy has been written (R444). -/
theorem rollback_of_rolls {s t : State} {x : Nat} {c : RollCopy} (h : t.nvm.rolls = tabSet none s.nvm.rolls x (some c)) (hok : c.ok = true) :
    t.roll x = some c ∧ ∀ y, y ≠ x → t.roll y = s.roll y := by
  refine ⟨?_, fun y hy => ?_⟩
  · rw [State.roll, h, tabGet_tabSet_self, Option.filter_some, if_pos hok]
  · rw [State.roll, h, tabGet, tabSet, sparse_get_put_ne _ _ _ hy]
    rfl

/-- The rise of the rollback counter (R444): it reads the higher of what it read and what it is raised to. -/
theorem raiseRollback_rollback (svn : Nat) (s : State) : (raiseRollback svn s).rollback = max s.rollback svn := by
  by_cases hle : svn ≤ s.rollback
  · rw [raiseRollback, if_pos hle, Nat.max_eq_left hle]
  · rw [Nat.max_eq_right (by omega)]
    generalize hseq : max ((s.roll 0).elim 0 RollCopy.seq) ((s.roll 1).elim 0 RollCopy.seq) + 1 = seq
    generalize ht : raiseRollback svn s = t
    have hrolls : t.nvm.rolls = tabSet none s.nvm.rolls s.rollTarget (some (rollCopy seq svn)) := by
      rw [← ht, raiseRollback, if_neg hle]
      simp only [hseq]
      rfl
    obtain ⟨hnew, hother⟩ := rollback_of_rolls hrolls (beq_self_eq_true _)
    have hval : (rollCopy seq svn).value = svn ∧ (rollCopy seq svn).seq = seq := ⟨rfl, rfl⟩
    obtain ⟨hvalue, hseqs⟩ := hval
    unfold State.rollTarget at hnew hother
    unfold State.rollback
    cases h0 : s.roll 0 with
    | none =>
      simp only [h0] at hnew hother hseq
      rw [hnew, hother 1 (by decide)]
      cases h1 : s.roll 1 with
      | none => exact hvalue
      | some b =>
        simp only [h1, Option.elim] at hseq
        simp only [hseqs, if_neg (by omega : ¬ seq < b.seq), hvalue]
    | some a =>
      cases h1 : s.roll 1 with
      | none =>
        simp only [h0, h1, Option.elim] at hnew hother hseq
        rw [hnew, hother 0 (by decide), h0]
        simp only [hseqs, if_pos (by omega : a.seq < seq), hvalue]
      | some b =>
        simp only [h0, h1, Option.elim] at hnew hother hseq
        by_cases hlt : a.seq < b.seq
        · rw [if_pos hlt] at hnew hother
          rw [hnew, hother 1 (by decide), h1]
          simp only [hseqs, if_neg (by omega : ¬ seq < b.seq), hvalue]
        · rw [if_neg hlt] at hnew hother
          rw [hnew, hother 0 (by decide), h0]
          simp only [hseqs, if_pos (by omega : a.seq < seq), hvalue]

/-- A rise of the rollback counter writes it alone. -/
theorem raiseRollback_rest (svn : Nat) (s : State) : (raiseRollback svn s).mem = s.mem ∧ (raiseRollback svn s).mgt = s.mgt ∧
    (raiseRollback svn s).nvm.active = s.nvm.active ∧ (raiseRollback svn s).nvm.trial = s.nvm.trial ∧
    (raiseRollback svn s).nvm.trialRun = s.nvm.trialRun := by
  unfold raiseRollback
  split <;> exact ⟨rfl, rfl, rfl, rfl, rfl⟩

theorem rollback_of_nvm {s t : State} (h : t.nvm.rolls = s.nvm.rolls) : t.rollback = s.rollback := by
  simp only [State.rollback, State.roll, h]

theorem fwConfirm_effect {st : Word} {tag x : Nat} {args : List Word} {s b : State} (h : Begun st tag args s b) (hrun : s.nvm.trialRun = true)
    (htrial : s.nvm.trial = some x) (adv : Bool) :
    (fwConfirm adv b).nvm.active = x ∧ (fwConfirm adv b).nvm.trial = none ∧ (fwConfirm adv b).nvm.trialRun = false ∧
    (fwConfirm adv b).rollback = (if adv then max s.rollback (s.fwSlot s.mgt.run).svn else s.rollback) ∧
    (fwConfirm adv b).job = some (tag, 0, [wd (fwConfirm adv b).rollback]) ∧ SameBytes s (fwConfirm adv b) := by
  have hrun' : b.nvm.trialRun = true := by rw [h.nvm]; exact hrun
  have htrial' : b.nvm.trial = some x := by rw [h.nvm]; exact htrial
  have hroll : b.rollback = s.rollback := rollback_of_nvm (by rw [h.nvm])
  have hslot : b.fwSlot b.mgt.run = s.fwSlot s.mgt.run := by rw [State.fwSlot, h.nvm, h.mgt]; rfl
  generalize ht : modNvm (fun n => { n with active := x, trial := none, trialRun := false }) b = t
  have htroll : t.rollback = s.rollback := by rw [← hroll, ← ht]; exact rollback_of_nvm rfl
  have htmgt : t.mgt = b.mgt := by rw [← ht]; rfl
  have htmem : t.mem = b.mem := by rw [← ht]; rfl
  obtain ⟨htactive, httrial, htrun⟩ : t.nvm.active = x ∧ t.nvm.trial = none ∧ t.nvm.trialRun = false := by rw [← ht]; exact ⟨rfl, rfl, rfl⟩
  generalize hu : sif adv (raiseRollback (s.fwSlot s.mgt.run).svn) t = u
  obtain ⟨hmem, hmgt, hactive, htrialu, hrunu⟩ : u.mem = t.mem ∧ u.mgt = t.mgt ∧ u.nvm.active = t.nvm.active ∧ u.nvm.trial = t.nvm.trial ∧
      u.nvm.trialRun = t.nvm.trialRun := by
    rw [← hu]
    cases adv with
    | false => exact ⟨rfl, rfl, rfl, rfl, rfl⟩
    | true => exact raiseRollback_rest _ t
  have huroll : u.rollback = if adv then max s.rollback (s.fwSlot s.mgt.run).svn else s.rollback := by
    rw [← hu, ← htroll]
    cases adv with
    | false => rfl
    | true => exact raiseRollback_rollback _ t
  have hconfirm : fwConfirm adv b = logAdd 0x32 Page.upd 1 b.version u.rollback (jobWords [wd u.rollback] u) := by
    rw [fwConfirm]
    simp only [hrun', htrial', ht, hslot, hu]
  have honly := logOnly_logAdd 0x32 Page.upd 1 b.version u.rollback (jobWords [wd u.rollback] u)
  rw [← hconfirm] at honly
  obtain ⟨ha, hb, hc⟩ := honly.trial
  have hlast : (fwConfirm adv b).rollback = u.rollback := (rollback_of_nvm honly.rolls).trans (rollback_of_nvm rfl)
  refine ⟨ha.trans (hactive.trans htactive), hb.trans (htrialu.trans httrial), hc.trans (hrunu.trans htrun), hlast.trans huroll, ?_, fun a => ?_⟩
  · rw [honly.job, hlast]
    exact jobWords_job (by rw [hmgt, htmgt, h.jobIs]) _
  · exact (honly.bytes a).trans ((congrArg (fun m => Sparse.get memDefault m a) (hmem.trans htmem)).trans (h.bytes a))

/-- A reset of Hollyhock while a mailbox command runs keeps the command's header (R428). -/
theorem fwReset_header {s : State} {code tag : Nat} {j : Job} (hst : s.rf Reg.mboxState 1 0 = 1) (hcode : s.rf Reg.mboxState 31 24 = code)
    (hnone : s.nvm.header = none) (hjob : s.mgt.job = some j) (htag : j.tag = tag) (herr : j.err = 0) (hshut : j.shut = none) :
    (fwReset s).nvm.header = some (code, tag, true) := by
  generalize hu : setRb Reg.rstCause 9 true s = u
  have hmgt : u.mgt = s.mgt := by rw [← hu]; rfl
  have hreg : u.reg Reg.mboxState = s.reg Reg.mboxState := by rw [← hu]; exact setRb_reg_ne (by decide) _ _ _
  have hdrop : tableDrop u = u := by
    have hbind : u.mgt.job.bind Job.shut = none := by rw [hmgt, hjob]; exact hshut
    rw [tableDrop, tableOpen, hbind]
    rfl
  have hkeep : (headerKept u).nvm.header = some (code, tag, true) := by
    have hcond : u.rf Reg.mboxState 1 0 = 1 ∧ u.nvm.header = none := by
      refine ⟨?_, ?_⟩
      · rw [State.rf, hreg]; exact hst
      · rw [← hu]; exact hnone
    rw [headerKept, if_pos hcond]
    change u.mgt.job.map _ = _
    rw [hmgt, hjob, State.rf, hreg, ← hcode, ← htag]
    simp only [Option.map_some, herr]
    rfl
  rw [fwReset, hu, (hhReset_kept u).header, hdrop]
  exact hkeep

/-- The code and the BUSY state that MBOX.STATE shows of a command that runs. -/
theorem stateWord_fields {code : Nat} (h : code < 256) : fld (wd (code * 2 ^ 24 + 1)) 1 0 = 1 ∧ fld (wd (code * 2 ^ 24 + 1)) 31 24 = code := by
  simp only [fld, wd, BitVec.toNat_ofNat, Nat.shiftRight_eq_div_pow]
  omega

theorem Begun.state_fields {code tag : Nat} {args : List Word} {s b : State} (h : Begun (wd (code * 2 ^ 24 + 1)) tag args s b) (hcode : code < 256) :
    b.rf Reg.mboxState 1 0 = 1 ∧ b.rf Reg.mboxState 31 24 = code := by
  obtain ⟨hbusy, hcd⟩ := stateWord_fields hcode
  exact ⟨by rw [State.rf, h.state, hbusy], by rw [State.rf, h.state, hcd]⟩

/-- A record written to the log leaves the mailbox's state. -/
theorem logAdd_mboxState (code source sev info detail : Nat) (s : State) :
    (logAdd code source sev info detail s).reg Reg.mboxState = s.reg Reg.mboxState := (within_logRec _ s).1 _ (by decide)

theorem fwSwitch_effect {tag : Nat} {s b : State} (h : Begun (wd (0x30 * 2 ^ 24 + 1)) tag [] s b)
    (hslot : (s.fwSlot (1 - s.nvm.active)).verified = true) (hrun : s.nvm.trialRun = false) (htrial : s.nvm.trial = none)
    (hnone : s.nvm.header = none) :
    (fwSwitch b).nvm.trial = some (1 - s.nvm.active) ∧ (fwSwitch b).nvm.trialCount = 1 ∧ (fwSwitch b).nvm.header = some (0x30, tag, true) ∧
    (fwSwitch b).boot.mgtDown = true ∧ (fwSwitch b).rb Reg.rstCause 9 = true ∧ (fwSwitch b).nvm.active = s.nvm.active := by
  obtain ⟨hbusy, hcode⟩ := h.state_fields (by decide)
  generalize ht : modNvm (fun n => { n with trial := some (1 - s.nvm.active), trialCount := 1 }) b = t
  generalize hu : logAdd 0x31 Page.upd 1 b.version (b.fwSlot (1 - s.nvm.active)).version (publishOn 0xf9 62 t.now t) = u
  have hswitch : fwSwitch b = fwReset u := by
    have hslot' : (b.fwSlot (1 - b.nvm.active)).verified = true := by rw [State.fwSlot, h.nvm]; exact hslot
    have hnot : ¬ ((!(b.fwSlot (1 - b.nvm.active)).verified) = true ∨ b.nvm.trialRun = true ∨ b.nvm.trial.isSome = true) := by
      rw [hslot', h.nvm, hrun, htrial]
      decide
    rw [fwSwitch]
    simp only [if_neg hnot]
    rw [h.nvm, ht, hu]
  have hkept : HollyKept t u := by rw [← hu]; exact ((HollyKept.refl t).publishOn 0xf9 62 t.now).logAdd _ _ _ _ _
  have honly : LogOnly t u := by
    rw [← hu]
    refine logOnly_trans ?_ (logOnly_logAdd _ _ _ _ _ _)
    rfl
  have hstate : u.reg Reg.mboxState = b.reg Reg.mboxState := by
    rw [← hu, logAdd_mboxState, ← ht]
    rfl
  obtain ⟨hdown, -, hresetTrial, hcount, hactive, -, hcause⟩ := fwReset_effect u
  have hjob : u.mgt.job = some { tag := tag } := by
    rw [honly.mgtJob, ← ht]
    exact h.jobIs
  have hheader : u.nvm.header = none := by
    rw [hkept.header, ← ht]
    exact (congrArg NvmSt.header h.nvm).trans hnone
  rw [hswitch]
  refine ⟨?_, ?_, ?_, hdown, hcause, ?_⟩
  · rw [hresetTrial, hkept.trial, ← ht]
    rfl
  · rw [hcount, hkept.trialCount, ← ht]
    rfl
  · exact fwReset_header (by rw [State.rf, hstate]; exact hbusy) (by rw [State.rf, hstate]; exact hcode) hheader hjob rfl rfl rfl
  · rw [hactive, hkept.active, ← ht]
    exact (congrArg NvmSt.active h.nvm :)

theorem fwRevert_effect {tag : Nat} {s b : State} (h : Begun (wd (0x32 * 2 ^ 24 + 1)) tag [] s b) (hrun : s.nvm.trialRun = true)
    (hnone : s.nvm.header = none) :
    (fwRevert b).nvm.trial = none ∧ (fwRevert b).nvm.trialRun = false ∧ (fwRevert b).boot.mgtDown = true ∧
    (fwRevert b).nvm.header = some (0x32, tag, true) ∧ (fwRevert b).nvm.active = s.nvm.active ∧ (fwRevert b).mgt.reverted = some 3 := by
  obtain ⟨hbusy, hcode⟩ := h.state_fields (by decide)
  have hkept := revertTrial_kept 3 b
  have hrevert : fwRevert b = fwReset (revertTrial 3 b) := by
    have hrun' : b.nvm.trialRun = true := by rw [h.nvm]; exact hrun
    rw [fwRevert, if_pos hrun']
  have hjob : (revertTrial 3 b).mgt.job = some { tag := tag } := by
    rw [revertTrial, (logOnly_logAdd _ _ _ _ _ _).mgtJob]
    exact h.jobIs
  have hstate : (revertTrial 3 b).reg Reg.mboxState = b.reg Reg.mboxState := logAdd_mboxState _ _ _ _ _ _
  have hheader : (revertTrial 3 b).nvm.header = none := hkept.header.trans ((congrArg NvmSt.header h.nvm).trans hnone)
  obtain ⟨hdown, hresetRun, htrial, -, hactive, hreverted, -⟩ := fwReset_effect (revertTrial 3 b)
  rw [hrevert]
  exact ⟨htrial.trans hkept.trial, hresetRun.trans hkept.trialRun, hdown,
    fwReset_header (by rw [State.rf, hstate]; exact hbusy) (by rw [State.rf, hstate]; exact hcode) hheader hjob rfl rfl rfl,
    hactive.trans (hkept.active.trans (congrArg NvmSt.active h.nvm :)), hreverted.trans hkept.reverted⟩

/-! ### Protection, calibration and the tag -/

/-- The word of SENS.PROT that the clear leaves: the level, neither latch, and the cap's full value. -/
theorem protWord_fields : ∀ l < 4, bit (wd (l * 2 ^ 30 + 2000)) 28 = false ∧ bit (wd (l * 2 ^ 30 + 2000)) 29 = false ∧
    fld (wd (l * 2 ^ 30 + 2000)) 11 0 = 2000 := by decide

theorem levelOf_lt (l : Nat) (v : Int) (s : State) : s.levelOf l v < 4 := by
  unfold State.levelOf
  dsimp only
  split
  · decide
  · split
    · decide
    · split <;> decide

/-- SENS.PROT takes a word, the log its change, and the latch's level falls. -/
def protCleared (w : Word) (s : State) : State :=
  govern (irqLevel Page.sens 2 false (logAdd 0x51 Page.sens 2 (s.reg Reg.sensProt).toNat ((setReg Reg.sensProt w s).reg Reg.sensProt).toNat
    (setReg Reg.sensProt w s)))

theorem protCleared_effect (w : Word) (s : State) : (protCleared w s).reg Reg.sensProt = w ∧
    (protCleared w s).rb (Reg.irqRaw Page.sens) 2 = false ∧ (protCleared w s).mgt.job = s.mgt.job := by
  unfold protCleared
  generalize hu : logAdd 0x51 Page.sens 2 (s.reg Reg.sensProt).toNat ((setReg Reg.sensProt w s).reg Reg.sensProt).toNat (setReg Reg.sensProt w s) = u
  have hprot : u.reg Reg.sensProt = w := by
    rw [← hu]
    exact ((within_logRec _ _).1 _ (by decide)).trans (setReg_reg_eq _ _ _)
  have hjob : u.mgt.job = s.mgt.job := by
    rw [← hu, (logOnly_logAdd _ _ _ _ _ _).mgtJob]
    rfl
  obtain ⟨hpages, hrest⟩ := timeOnly_govern (irqLevel Page.sens 2 false u)
  have hgov : (govern (irqLevel Page.sens 2 false u)).mgt = (irqLevel Page.sens 2 false u).mgt := (congrArg State.mgt hrest :)
  have hlevel : (irqLevel Page.sens 2 false u).mgt = u.mgt := field_of_onlyRegs State.mgt (fun _ _ => rfl) (irqLevel_onlyRegs _ _ _ _)
  refine ⟨?_, ?_, ?_⟩
  · rw [hpages _ (by decide), (irqLevel_onlyRegs _ _ _ _).1 _ (by decide), hprot]
  · rw [State.rb, hpages _ (by decide)]
    exact irqLevel_irqRaw (by decide) false u
  · rw [hgov, hlevel, hjob]

/-- The latch is cleared once the hottest site has cooled (R434). -/
theorem protClear_eq {s : State} {x : Nat} {v : Int} (hlatch : s.rb Reg.sensProt 28 = true) (hhot : s.hottest = some (x, v))
    (hcool : v < 16 * s.rf Reg.sensThermCfg 23 16 - 80) :
    protClear s = (Err.none, protCleared (wd (s.levelOf 1 v * 2 ^ 30 + 2000)) s) := by
  rw [protClear, hlatch, if_neg (by decide)]
  simp only [hhot, if_pos hcool]
  generalize wd (s.levelOf 1 v * 2 ^ 30 + 2000) = w
  rfl

theorem Begun.hottest {st : Word} {tag : Nat} {args : List Word} {s b : State} (h : Begun st tag args s b) : b.hottest = s.hottest := by
  obtain ⟨r, hb⟩ := h.rest
  rw [hb]
  rfl

/-- PROT_CLEAR of a site that has cooled (R434). -/
theorem protClear_run {st : Word} {tag x : Nat} {v : Int} {s b : State} (h : Begun st tag [] s b) (hlatch : s.rb Reg.sensProt 28 = true)
    (hhot : s.hottest = some (x, v)) (hcool : v < 16 * s.rf Reg.sensThermCfg 23 16 - 80) :
    (mboxRun 0x50 b).rb Reg.sensProt 28 = false ∧ (mboxRun 0x50 b).rb Reg.sensProt 29 = false ∧ (mboxRun 0x50 b).rf Reg.sensProt 11 0 = 2000 ∧
    (mboxRun 0x50 b).rb (Reg.irqRaw Page.sens) 2 = false ∧ (mboxRun 0x50 b).job = some (tag, 0, [(mboxRun 0x50 b).reg Reg.sensProt]) := by
  have hreg : ∀ a, a / 0x1000 = Page.sens → b.reg a = s.reg a := fun a ha => h.reg_eq (by decide) (Or.inl (by rw [ha]; decide))
  obtain ⟨h28, h29, hcap⟩ := protWord_fields (b.levelOf 1 v) (levelOf_lt 1 v b)
  have hclear := protClear_eq (s := b) (by rw [State.rb, hreg _ (by decide)]; exact hlatch) (h.hottest.trans hhot)
    (by rw [State.rf, hreg _ (by decide)]; exact hcool)
  generalize wd (b.levelOf 1 v * 2 ^ 30 + 2000) = w at h28 h29 hcap hclear
  obtain ⟨hprot, hirq, hjob⟩ := protCleared_effect w b
  have hrun : mboxRun 0x50 b = modJob (fun j => { j with err := 0, words := [w] }) (protCleared w b) := by
    change modJob _ (faultOpt (errClass (protClear b).1) _ _ (protClear b).2) = _
    rw [hclear]
    simp only [hprot]
    rfl
  rw [hrun]
  refine ⟨?_, ?_, ?_, hirq, ?_⟩
  · exact (congrArg (bit · 28) hprot).trans h28
  · exact (congrArg (bit · 29) hprot).trans h29
  · exact (congrArg (fld · 11 0) hprot).trans hcap
  · have hlast : (modJob (fun j => { j with err := 0, words := [w] }) (protCleared w b)).reg Reg.sensProt = w := hprot
    rw [hlast, State.job, modJob]
    change ((protCleared w b).mgt.job.map _).map _ = _
    rw [hjob, h.jobIs]
    rfl

/-- A calibration of the sensors begins: it takes neither pages nor units (R95). -/
def sensCalBegun (w : Word) (s : State) : State :=
  govern (setReg Reg.calStatus w (modMgt (fun m => { m with cal := some ⟨7, 0, s.now, !s.vfldOk, !s.vfldOk, []⟩ }) s))

theorem sensCalBegun_effect (w : Word) (s : State) : (sensCalBegun w s).mgt.cal.isSome = true ∧ (sensCalBegun w s).reg Reg.calStatus = w ∧
    (sensCalBegun w s).mgt.job = s.mgt.job ∧ (sensCalBegun w s).mem = s.mem := by
  unfold sensCalBegun
  generalize hu : setReg Reg.calStatus w (modMgt (fun m => { m with cal := some ⟨7, 0, s.now, !s.vfldOk, !s.vfldOk, []⟩ }) s) = u
  have hreg : u.reg Reg.calStatus = w := by rw [← hu]; exact setReg_reg_eq _ _ _
  obtain ⟨hcal, hjob, hmem⟩ : u.mgt.cal.isSome = true ∧ u.mgt.job = s.mgt.job ∧ u.mem = s.mem := by rw [← hu]; exact ⟨rfl, rfl, rfl⟩
  obtain ⟨hpages, hrest⟩ := timeOnly_govern u
  have hmgt : (govern u).mgt = u.mgt := (congrArg State.mgt hrest :)
  exact ⟨by rw [hmgt, hcal], (hpages _ (by decide)).trans hreg, by rw [hmgt, hjob], ((congrArg State.mem hrest :) : (govern u).mem = u.mem).trans hmem⟩

theorem calMake_sens {s : State} {w : Word} (hkind : fld w 31 28 = 7) (hcoils : fld w 27 16 = 0) (hruns : s.mgtRuns = true)
    (hnone : s.mgt.cal = none) : calMake w s = sensCalBegun (wd (2 ^ 31 + 7 * 2 ^ 24)) s := by
  have hpages : calPages 7 0 = [] := by decide
  have hunits : calUnits 7 0 = [] := by decide
  rw [calMake]
  simp only [hkind, hcoils, hruns, hnone, hpages, hunits, Bool.not_true, Bool.false_eq_true, Option.isSome_none, List.any_nil, List.find?_nil,
    if_false, calStart, sensCalBegun]
  rfl

theorem calibrate_effect {st w : Word} {tag : Nat} {s b : State} (h : Begun st tag [w] s b) (hkind : fld w 31 28 = 7) (hcoils : fld w 27 16 = 0)
    (hruns : s.mgtRuns = true) (hnone : s.mgt.cal = none) (hcal : s.quiesced Page.cal = false) :
    (calibrate w b).mgt.cal.isSome = true ∧ (calibrate w b).reg Reg.calStatus = wd (2 ^ 31 + 7 * 2 ^ 24) ∧
    (calibrate w b).mgt.job.map Job.wait = some .cal ∧ SameBytes s (calibrate w b) := by
  have hruns' : b.mgtRuns = true := (h.mgtRuns_eq (by decide : 1 ≤ 64)).trans hruns
  have hnone' : b.mgt.cal = none := by rw [h.mgt]; exact hnone
  have hquiet : b.quiesced Page.cal = false := by
    rw [State.quiesced, State.rb, State.rb, h.reg_eq (by decide : 1 ≤ 64) (by decide), h.reg_eq (by decide : 1 ≤ 64) (by decide)]
    exact hcal
  have hmake := calMake_sens hkind hcoils hruns' hnone'
  generalize wd (2 ^ 31 + 7 * 2 ^ 24) = v at hmake ⊢
  obtain ⟨hcalIs, hreg, hjob, hmem⟩ := sensCalBegun_effect v b
  have hcalibrate : calibrate w b = modJob (fun j => { j with wait := .cal }) (sensCalBegun v b) := by
    rw [calibrate, State.calWaits, hquiet, Bool.and_false, if_neg (by decide), calOwn]
    simp only [hmake, hnone', hcalIs, Option.isNone_none, Bool.and_self, if_true]
  rw [hcalibrate]
  refine ⟨hcalIs, hreg, ?_, fun a => ?_⟩
  · change ((sensCalBegun v b).mgt.job.map _).map _ = _
    rw [hjob, h.jobIs]
    rfl
  · exact (congrArg (fun m => Sparse.get memDefault m a) hmem).trans (h.bytes a)

/-- The tag with no field command and no access waiting, and of memory only the attempt counts changed, each to its limit. -/
structure Unlocking (s t : State) : Prop where
  cmd : t.tag.cmd = none
  waiting : t.tag.waiting = []
  job : t.mgt.job = s.mgt.job
  bytes : SameBytesBut (tagBase + 0x70) 4 s t

/-- The attempts of password `k` are restored. -/
def unlockOne (k : Nat) (s : State) : State := tagcIdle (setTag (0x70 + k) [BitVec.ofNat 8 (s.pwLimit k)] s)

theorem unlockOne_byte (k : Nat) (s : State) (a : Nat) :
    (unlockOne k s).byte a = if a = tagBase + (0x70 + k) then BitVec.ofNat 8 (s.pwLimit k) else s.byte a := by
  change (setByte (tagBase + (0x70 + k)) (BitVec.ofNat 8 (s.pwLimit k)) s).byte a = _
  split
  next h => rw [h, setByte_byte_eq]
  next h => exact setByte_byte_ne h _ _

theorem pwLimit_of_bytes {s t : State} (h : SameBytesBut (tagBase + 0x70) 4 s t) (k : Nat) : t.pwLimit k = s.pwLimit k := by
  have hbyte : ∀ a, a < 0x70 → t.byte (tagBase + a) = s.byte (tagBase + a) := fun a ha => h _ (Or.inl (by omega))
  simp only [State.pwLimit, State.tag16, State.tagByte, hbyte 0x34 (by decide), hbyte (0x34 + 1) (by decide)]

theorem Unlocking.one {s t : State} (h : Unlocking s t) {k : Nat} (hk : k < 4) : Unlocking s (unlockOne k t) := by
  refine ⟨h.cmd, h.waiting, h.job, fun a ha => ?_⟩
  rw [unlockOne_byte, if_neg (by omega)]
  exact h.bytes a ha

/-- A wired write of a count that nothing delays takes effect at once (R416). -/
theorem wireStart_poke {s t : State} (h : Unlocking s t) (k : Nat) :
    wireStart 1 (.poke (0x70 + k) [BitVec.ofNat 8 (t.pwLimit k)]) t = unlockOne k t := by
  rw [wireStart, State.fieldBusy, State.wireAhead, h.cmd, h.waiting, if_neg (by simp)]
  change tagcIdle (setTag _ _ (if 0x70 + k = 0x20 ∧ _ then _ else t)) = _
  rw [if_neg fun hc => absurd hc.1 (by omega)]
  rfl

theorem unlock_fold {s : State} {l : List Nat} (hl : ∀ k ∈ l, k < 4) {t : State} (h : Unlocking s t) :
    Unlocking s (forEach l (fun k v => wireStart 1 (.poke (0x70 + k) [BitVec.ofNat 8 (v.pwLimit k)]) v) t) ∧
    ∀ k, (k ∈ l ∨ t.byte (tagBase + (0x70 + k)) = BitVec.ofNat 8 (s.pwLimit k)) →
      (forEach l (fun k v => wireStart 1 (.poke (0x70 + k) [BitVec.ofNat 8 (v.pwLimit k)]) v) t).byte (tagBase + (0x70 + k)) =
        BitVec.ofNat 8 (s.pwLimit k) := by
  induction l generalizing t with
  | nil => exact ⟨h, fun k hk => hk.resolve_left (List.not_mem_nil)⟩
  | cons j l ih =>
    change Unlocking s (forEach l _ (wireStart 1 _ t)) ∧ ∀ k, _ → (forEach l _ (wireStart 1 _ t)).byte _ = _
    rw [wireStart_poke h]
    obtain ⟨hall, hbytes⟩ := ih (fun k hk => hl k (List.mem_cons_of_mem _ hk)) (h.one (hl j List.mem_cons_self))
    refine ⟨hall, fun k hk => hbytes k ?_⟩
    rw [unlockOne_byte, pwLimit_of_bytes h.bytes j]
    by_cases hkj : k = j
    · subst hkj
      exact Or.inr (if_pos rfl)
    · rw [if_neg (by omega)]
      exact hk.imp_left fun hmem => (List.mem_cons.mp hmem).resolve_left hkj

theorem tagUnlock_effect {st : Word} {tag : Nat} {args : List Word} {s b : State} (h : Begun st tag args s b) (hcmd : s.tag.cmd = none)
    (hwaiting : s.tag.waiting = []) (mask : Nat) :
    (bitsOf 4 mask).all (fun k => (tagUnlock mask b).pwLeft k == s.pwLimit k) = true ∧
    (tagUnlock mask b).mgt.job.map Job.wait = some .tag ∧ SameBytesBut (tagBase + 0x70) 4 s (tagUnlock mask b) := by
  have hsettle : tagSettle b = b := by rw [tagSettle, h.tagKept, hcmd]
  have hbegin : Unlocking b b := ⟨by rw [h.tagKept, hcmd], by rw [h.tagKept, hwaiting], rfl, fun _ _ => rfl⟩
  have hmem4 : ∀ k ∈ bitsOf 4 mask, k < 4 := fun k hk => List.mem_range.mp (List.mem_of_mem_filter hk)
  obtain ⟨hdone, hbytes⟩ := unlock_fold hmem4 hbegin
  generalize hu : forEach (bitsOf 4 mask) (fun k v => wireStart 1 (.poke (0x70 + k) [BitVec.ofNat 8 (v.pwLimit k)]) v) b = u at hdone hbytes
  have hlimit : ∀ k, b.pwLimit k = s.pwLimit k := pwLimit_of_bytes fun a _ => h.bytes a
  have hunlock : tagUnlock mask b = logAdd 0x50 Page.tagc 2 (mask % 16) 0 (modJob (fun j => { j with wait := .tag }) u) := by
    rw [tagUnlock, hsettle]
    simp only [hu]
  have honly := logOnly_logAdd 0x50 Page.tagc 2 (mask % 16) 0 (modJob (fun j => { j with wait := .tag }) u)
  rw [← hunlock] at honly
  have hbyte : ∀ a, (tagUnlock mask b).byte a = u.byte a := fun a => honly.bytes a
  refine ⟨List.all_eq_true.mpr fun k hk => ?_, ?_, fun a ha => ?_⟩
  · have hlt : s.pwLimit k < 16 := Nat.mod_lt _ (by decide)
    rw [State.pwLeft, State.tagByte, if_neg (by omega), hbyte, hbytes k (Or.inl hk), hlimit k, beq_iff_eq, BitVec.toNat_ofNat]
    omega
  · rw [honly.mgtJob]
    change (u.mgt.job.map _).map _ = _
    rw [hdone.job, h.jobIs]
    rfl
  · rw [hbyte, hdone.bytes a ha, h.bytes a]

/-! ### Records of the image store -/

/-- Shadows take words in turn, each register once. -/
theorem foldl_setShade {l : List (Nat × Word)} (hl : (l.map Prod.fst).Nodup) (s : State) :
    (∀ p ∈ l, (l.foldl (fun v x => setShade x.1 x.2 v) s).shade p.1 = p.2) ∧
    ∀ a, a ∉ l.map Prod.fst → (l.foldl (fun v x => setShade x.1 x.2 v) s).shade a = s.shade a := by
  induction l generalizing s with
  | nil => exact ⟨fun p hp => absurd hp List.not_mem_nil, fun _ _ => rfl⟩
  | cons q l ih =>
    obtain ⟨hq, hl'⟩ := List.nodup_cons.mp hl
    obtain ⟨hin, hout⟩ := ih hl' (setShade q.1 q.2 s)
    refine ⟨fun p hp => ?_, fun a ha => ?_⟩
    · rcases List.mem_cons.mp hp with rfl | hmem
      · exact (hout _ hq).trans (setShade_shade_eq _ _ _)
      · exact hin p hmem
    · obtain ⟨hne, hnot⟩ := not_or.mp fun hc => ha (List.mem_cons.mpr hc)
      exact (hout a hnot).trans (setShade_shade_ne hne _ _)

theorem foldl_setShade_rest (l : List (Nat × Word)) (s : State) : (l.foldl (fun v x => setShade x.1 x.2 v) s).regs = s.regs ∧
    (l.foldl (fun v x => setShade x.1 x.2 v) s).mem = s.mem ∧ (l.foldl (fun v x => setShade x.1 x.2 v) s).mgt = s.mgt := by
  induction l generalizing s with
  | nil => exact ⟨rfl, rfl, rfl⟩
  | cons q l ih => exact ih _

/-- Hollyhock takes a page for a command: its OWNER, and the list of the pages taken. -/
theorem jobTake_effect {s : State} {j : Job} (h : s.mgt.job = some j) (p : Nat) :
    (∃ l, (jobTake [p] s).mgt.job = some { j with owned := l }) ∧ (∀ a, a ≠ Reg.owner p → (jobTake [p] s).reg a = s.reg a) ∧
    (jobTake [p] s).mem = s.mem := by
  unfold jobTake takePages modJob
  generalize hl : [p].filter _ = l
  have hp : ∀ q ∈ l, q = p := fun q hq => List.mem_singleton.mp (List.mem_of_mem_filter (hl ▸ hq))
  have hkeep : ∀ (l : List Nat), (∀ q ∈ l, q = p) → ∀ t : State,
      OnlyRegs [Reg.owner p] t (forEach l (fun q => setRf (Reg.owner q) 1 0 1) t) := fun l => by
    induction l with
    | nil => exact fun _ t => onlyRegs_refl _ t
    | cons q l ih =>
      intro hq t
      obtain rfl := hq q List.mem_cons_self
      exact onlyRegs_trans (setReg_onlyRegs List.mem_cons_self _ t) (ih (fun x hx => hq x (List.mem_cons_of_mem _ hx)) _)
  have honly := hkeep l hp s
  have hmgt := field_of_onlyRegs State.mgt (fun _ _ => rfl) honly
  have hmem := mem_of_onlyRegs honly
  refine ⟨⟨j.owned ++ l.map fun q => (q, s.formerAgent q), ?_⟩, fun a ha => ?_, ?_⟩
  · change (forEach l _ s).mgt.job.map _ = _
    rw [hmgt, h]
    rfl
  · exact honly.1 a (fun hc => ha (List.mem_singleton.mp hc))
  · exact hmem

/-- A record of a coil's power table goes into the shadows of that coil's page (R445). -/
theorem applyPower_effect {st : Word} {tag i : Nat} {l : List Nat} {s b : State} (h : Begun st tag [wd i] s b) (hcommit : s.commit = none)
    (hset : s.setOk = true) (hi : i < s.records) (hbyte : i < 256) (hok : s.recordOk (s.recordAt i) = true) (htyp : (s.recordAt i).typ = 0x12)
    (hregs : imageRegs 0x12 (s.recordAt i).target = some l)
    (hpayload : imageOk 0x12 l (s.payload (s.recordAt i)) (s.recordAt i).len = true) :
    (applyRecord i b).rb (Reg.stageCtrl (s.recordAt i).page) 0 = true ∧
    (l.zip (s.payload (s.recordAt i))).all (fun p => (applyRecord i b).shade p.1 == p.2) = true ∧
    (applyRecord i b).job = some (tag, 0, [wd (pageMask [(s.recordAt i).page] 0), wd (pageMask [(s.recordAt i).page] 32), 0]) ∧
    SameBytes s (applyRecord i b) := by
  obtain ⟨hset', hrecords, hat, hrecOk, hpay⟩ := store_of_mem h.mem
  generalize hr : s.recordAt i = r at *
  obtain ⟨htarget, hl⟩ : r.target < 12 ∧ l = (List.range 64).map (Reg.coilPwrTable r.target) := by
    rw [imageRegs, if_neg (by omega), if_neg (by omega)] at hregs
    split at hregs
    next hc => exact ⟨hc.2, (Option.some.inj hregs).symm⟩
    next hc => exact absurd hregs (by rw [if_neg (by omega)]; exact nofun)
  have hpage : r.page = Page.coil r.target := by
    rw [SetRec.page, htyp, if_neg (by decide), if_pos ⟨Or.inl rfl, htarget⟩]
  have hlen : l.length ≤ (s.payload r).length := by
    obtain ⟨hfits, -⟩ := Bool.and_eq_true_iff.mp hpayload
    have hfits' : r.len = 4 * l.length := of_decide_eq_true hfits
    rw [State.payload, List.length_map, List.length_range]
    omega
  have hnodup : ((l.zip (s.payload r)).map Prod.fst).Nodup := by
    rw [List.map_fst_zip hlen, hl]
    refine List.nodup_range.map fun x y hxy => ?_
    simp only [Reg.coilPwrTable] at hxy
    omega
  have hjob : (setRb (Reg.stageCtrl r.page) 0 true b).mgt.job = some { tag := tag } := h.jobIs
  obtain ⟨⟨taken, htaken⟩, hreg, hmem⟩ := jobTake_effect hjob r.page
  generalize ht : jobTake [r.page] (setRb (Reg.stageCtrl r.page) 0 true b) = t at htaken hreg hmem
  obtain ⟨hin, -⟩ := foldl_setShade hnodup t
  obtain ⟨hregs', hmem', hmgt'⟩ := foldl_setShade_rest (l.zip (s.payload r)) t
  generalize hu : (l.zip (s.payload r)).foldl (fun v x => setShade x.1 x.2 v) t = u at hin hregs' hmem' hmgt'
  generalize hws : [wd (pageMask [r.page] 0), wd (pageMask [r.page] 32), 0] = ws
  have happly : applyRecord i b = logAdd 0x40 r.page 1 r.index (pageMask [r.page] 0 + pageMask [r.page] 32) (jobWords ws u) := by
    have harm : i.testBit 9 = false := Nat.testBit_lt_two_pow (by omega)
    rw [applyRecord]
    simp only [Nat.mod_eq_of_lt hbyte, hat, hr, hset', hset, hrecords, hrecOk, hok, hpay, h.commit, hcommit, htyp, hregs, hpayload, Bool.not_true,
      Bool.false_eq_true, not_le_of_gt hi, or_self, Option.isSome_none, false_and, if_false]
    rw [if_neg (by decide), applyStaged, htyp, if_neg (by decide), ht, hu, harm, applyDone, hws]
    rfl
  have honly := logOnly_logAdd 0x40 r.page 1 r.index (pageMask [r.page] 0 + pageMask [r.page] 32) (jobWords ws u)
  have hwithin := within_logRec ⟨(jobWords ws u).now, 0x40, r.page, 1, r.index, pageMask [r.page] 0 + pageMask [r.page] 32⟩ (jobWords ws u)
  have hstage : Reg.stageCtrl r.page / 0x1000 ∉ logPages := by
    rw [hpage]
    simp only [logPages, Reg.stageCtrl, Page.coil, Page.log, Page.dbg, List.mem_cons, List.not_mem_nil, or_false, not_or]
    omega
  have howner : Reg.stageCtrl r.page ≠ Reg.owner r.page := by simp only [Reg.stageCtrl, Reg.owner]; omega
  rw [← happly] at honly
  refine ⟨?_, List.all_eq_true.mpr fun p hp => ?_, ?_, fun a => ?_⟩
  · have hkept : (applyRecord i b).reg (Reg.stageCtrl r.page) = t.reg (Reg.stageCtrl r.page) := by
      rw [happly]
      exact (hwithin.1 _ hstage).trans (congrArg (fun x => Sparse.get regReset x (Reg.stageCtrl r.page)) hregs')
    rw [State.rb, hkept, hreg _ howner]
    exact setRb_rb_eq (by decide) _ _ _
  · rw [beq_iff_eq, State.shade, honly.shadow]
    exact hin p hp
  · rw [honly.job]
    exact jobWords_job (hmgt' ▸ htaken) ws
  · exact (honly.bytes a).trans ((congrArg (fun m => Sparse.get memDefault m a) (hmem'.trans hmem)).trans (h.bytes a))

/-! ### Replies -/

theorem mboxRdata_inj (i j : Nat) (h : Reg.mboxRdata i = Reg.mboxRdata j) : i = j := by simp only [Reg.mboxRdata] at h; omega

/-- The registers of a reply (R426). -/
def replyShown (req st tag : Word) (ws : List Word) (s : State) : State :=
  setReg Reg.mboxState st (setReg Reg.mboxReplyTag tag (setReg Reg.mboxReply req (wordsLoaded Reg.mboxRdata ws ws.length s)))

theorem replyShown_effect (req st tag : Word) (ws : List Word) (s : State) :
    (replyShown req st tag ws s).reg Reg.mboxState = st ∧ (replyShown req st tag ws s).reg Reg.mboxReplyTag = tag ∧
    (replyShown req st tag ws s).reg Reg.mboxReply = req ∧
    (List.range ws.length).map (fun i => (replyShown req st tag ws s).reg (Reg.mboxRdata i)) = ws ∧
    (replyShown req st tag ws s).mem = s.mem ∧ (replyShown req st tag ws s).mgt = s.mgt := by
  have honly := wordsLoaded_onlyRegs Reg.mboxRdata ws ws.length s
  have hreg : ∀ i < ws.length, (wordsLoaded Reg.mboxRdata ws ws.length s).reg (Reg.mboxRdata i) = ws.getD i 0 :=
    fun i hi => wordsLoaded_reg mboxRdata_inj ws hi s
  unfold replyShown
  generalize wordsLoaded Reg.mboxRdata ws ws.length s = t at honly hreg
  have hmgt : t.mgt = s.mgt := field_of_onlyRegs State.mgt (fun _ _ => rfl) honly
  refine ⟨setReg_reg_eq _ _ _, ?_, ?_, ?_, (mem_of_onlyRegs honly :), hmgt⟩
  · rw [setReg_reg_ne (by decide), setReg_reg_eq]
  · rw [setReg_reg_ne (by decide), setReg_reg_ne (by decide), setReg_reg_eq]
  · refine List.ext_getElem (by rw [List.length_map, List.length_range]) fun i hi hi' => ?_
    have hne : Reg.mboxRdata i ≠ Reg.mboxState ∧ Reg.mboxRdata i ≠ Reg.mboxReplyTag ∧ Reg.mboxRdata i ≠ Reg.mboxReply := by
      simp only [Reg.mboxRdata, Reg.mboxState, Reg.mboxReplyTag, Reg.mboxReply]
      omega
    obtain ⟨hst, htag, hreq⟩ := hne
    rw [List.getElem_map, List.getElem_range, setReg_reg_ne hst, setReg_reg_ne htag, setReg_reg_ne hreq, hreg i hi', List.getD_eq_getElem _ _ hi']

/-- A reply is given: its registers, its interrupt and its event (R426). -/
def replyGiven (req st tag : Word) (ws : List Word) (n : Nat) (s : State) : State :=
  publish 0xf3 n (irq Page.mbox 0 (replyShown req st tag ws s))

theorem mboxAnswer_eq (code tag err : Nat) (ws : List Word) (s : State) :
    ∃ n, mboxAnswer code tag err ws s = replyGiven (wd (code * 2 ^ 24 + ws.length * 2 ^ 16 + err * 2 ^ 8))
      (wd (code * 2 ^ 24 + 2)) (wd (tag % 65536)) ws n s := by
  unfold mboxAnswer replyGiven replyShown
  exact ⟨_, rfl⟩

theorem replyGiven_effect (req st tag : Word) {ws : List Word} (hlen : ws.length ≤ 64) (n : Nat) (s : State) :
    (replyGiven req st tag ws n s).mgt = s.mgt ∧ (replyGiven req st tag ws n s).reg Reg.mboxState = st ∧
    (replyGiven req st tag ws n s).reg Reg.mboxReply = req ∧ (replyGiven req st tag ws n s).reg Reg.mboxReplyTag = tag ∧
    (List.range ws.length).map (fun i => (replyGiven req st tag ws n s).reg (Reg.mboxRdata i)) = ws ∧
    (replyGiven req st tag ws n s).rb (Reg.irqRaw Page.mbox) 0 = true ∧ (replyGiven req st tag ws n s).mem = s.mem := by
  obtain ⟨hst, htg, hreq, hwords, hmem, hmgt⟩ := replyShown_effect req st tag ws s
  unfold replyGiven
  generalize replyShown req st tag ws s = u at *
  have honly := irq_onlyRegs Page.mbox 0 u
  have hirq := irq_irqRaw (p := Page.mbox) (k := 0) (by decide) u
  have hkeep : ∀ a, 0x40 ≤ a % 0x1000 → (publish 0xf3 n (irq Page.mbox 0 u)).reg a = u.reg a := fun a ha => honly.1 a fun hmem => by
    rcases List.mem_cons.mp hmem with rfl | hmem
    · exact absurd ha (by decide)
    · rcases List.mem_singleton.mp hmem with rfl
      exact absurd ha (by decide)
  have hu : (irq Page.mbox 0 u).mgt = u.mgt := field_of_onlyRegs State.mgt (fun _ _ => rfl) honly
  refine ⟨hu.trans hmgt, (hkeep _ (by decide)).trans hst, (hkeep _ (by decide)).trans hreq, (hkeep _ (by decide)).trans htg, ?_, hirq,
    (mem_of_onlyRegs honly).trans hmem⟩
  refine Eq.trans (List.map_congr_left fun i hi => hkeep _ ?_) hwords
  have hlt := List.mem_range.mp hi
  simp only [Reg.mboxRdata]
  omega

/-- Pages go back to agents: nothing but OWNER registers change. -/
theorem givePages_effect (l : List (Nat × Nat)) (s : State) : (∀ a, a % 0x1000 ≠ 0x24 → (givePages l s).reg a = s.reg a) ∧
    (givePages l s).mem = s.mem ∧ (givePages l s).mgt = s.mgt := by
  unfold givePages
  generalize s.taken = k
  induction l generalizing s with
  | nil => exact ⟨fun _ _ => rfl, rfl, rfl⟩
  | cons p l ih =>
    rw [List.foldl_cons]
    split
    · exact ih s
    · obtain ⟨hreg, hmem, hmgt⟩ := ih (setRf (Reg.owner p.1) 1 0 p.2 s)
      refine ⟨fun a ha => (hreg a ha).trans (setReg_reg_ne ?_ _ _), hmem, hmgt⟩
      rintro rfl
      simp only [Reg.owner] at ha
      omega

theorem replyWord_fields {code tag : Nat} (hcode : code < 256) (htag : tag < 65536) :
    fld (wd (code * 2 ^ 24 + 2)) 1 0 = 2 ∧ fld (wd tag) 15 0 = tag := by
  simp only [fld, wd, BitVec.toNat_ofNat, Nat.shiftRight_eq_div_pow]
  omega

theorem mboxReply_effect {s : State} {j : Job} (hjob : s.mgt.job = some j) (hwait : j.wait = .none) (hruns : s.mgtRuns = true)
    (hlen : j.words.length ≤ 64) :
    ∃ t, exec .mboxReply s = .next t ∧ t.mgt.job = none ∧ t.rf Reg.mboxState 1 0 = 2 ∧
      t.reg Reg.mboxReply = wd (s.rf Reg.mboxState 31 24 * 2 ^ 24 + j.words.length * 2 ^ 16 + j.err * 2 ^ 8) ∧
      t.rf Reg.mboxReplyTag 15 0 = j.tag % 65536 ∧ (List.range j.words.length).map (fun i => t.reg (Reg.mboxRdata i)) = j.words ∧
      t.rb (Reg.irqRaw Page.mbox) 0 = true ∧ SameBytes s t := by
  have hgo : jobGoOn s = s := by rw [jobGoOn, hjob, Option.map_some, hwait]
  have hexec : exec .mboxReply s = .next (mboxAnswer (s.rf Reg.mboxState 31 24) j.tag j.err j.words
      (givePages j.owned (modMgt (fun m => { m with job := none }) s))) := by
    change Host.Outcome.next _ = _
    simp only [hgo, hjob, hwait, hruns, ne_eq, not_true_eq_false, Bool.not_true, Bool.false_eq_true, or_self, if_false]
  obtain ⟨-, hmem, hmgt⟩ := givePages_effect j.owned (modMgt (fun m => { m with job := none }) s)
  obtain ⟨hdone, htag⟩ := replyWord_fields (code := s.rf Reg.mboxState 31 24) (fld_lt _ _ _) (Nat.mod_lt j.tag (by decide : 0 < 65536))
  obtain ⟨n, heq⟩ := mboxAnswer_eq (s.rf Reg.mboxState 31 24) j.tag j.err j.words (givePages j.owned (modMgt (fun m => { m with job := none }) s))
  obtain ⟨hm, hstate, hreply, htg, hwords, hirq, hbytes⟩ := replyGiven_effect
    (wd (s.rf Reg.mboxState 31 24 * 2 ^ 24 + j.words.length * 2 ^ 16 + j.err * 2 ^ 8)) (wd (s.rf Reg.mboxState 31 24 * 2 ^ 24 + 2))
    (wd (j.tag % 65536)) hlen n (givePages j.owned (modMgt (fun m => { m with job := none }) s))
  rw [← heq] at hm hstate hreply htg hwords hirq hbytes
  refine ⟨_, hexec, ?_, ?_, hreply, ?_, hwords, hirq, fun a => congrArg (fun m => Sparse.get memDefault m a) (hbytes.trans hmem)⟩
  · rw [hm, hmgt]
    rfl
  · rw [State.rf, hstate, hdone]
  · rw [State.rf, htg, htag]

/-! ## The mailbox -/

/-- Settles O56: a command that the mailbox takes is loaded and begun, and each code has its own effect lemma on the state in which it begins. -/
theorem mailboxComplete : Obligations.MailboxComplete := by
  unfold Obligations.MailboxComplete
  refine ⟨?_, ?_, ?_, ?_, ?_, ?_, ?_, ?_, ?_, ?_, ?_, ?_⟩
  case refine_12 => exact fun s j hjob hwait hruns hlen _ => mboxReply_effect hjob hwait hruns hlen
  case refine_1 =>
    intro s ag tag hfree
    obtain ⟨b, hsend, h⟩ := begun_of_known hfree (args := []) (code := 1) (by decide) rfl (by decide) tag
    exact ⟨_, congrArg Host.Outcome.next hsend, getVersion_effect h, h.state, h.sameRegs_nil, h.bytes⟩
  case refine_2 =>
    intro s ag tag a x y hfree hopen hnone hfilter hcode
    obtain ⟨b, hsend, h⟩ := begun_of_known hfree (args := [a, x, y]) (code := 2) (by decide) rfl (by decide : 3 ≤ 64) tag
    obtain ⟨hseq, hjob, hlog, hirq, hbytes⟩ := logNote_effect h hopen hnone hfilter hcode
    have hrun : mboxRun 2 b = logNote (fld a 15 0) x y b := by
      change logNote (fld (b.reg (Reg.mboxArg 0)) 15 0) (b.reg (Reg.mboxArg 1)) (b.reg (Reg.mboxArg 2)) b = _
      rw [h.arg 0 (by decide : 0 < 3), h.arg 1 (by decide : 1 < 3), h.arg 2 (by decide : 2 < 3)]
      rfl
    exact ⟨_, congrArg Host.Outcome.next (hsend.trans hrun), hseq, hjob, hlog, hirq, hbytes⟩
  case refine_3 =>
    intro s ag tag hfree hruns hnone hcal _ _
    obtain ⟨b, hsend, h⟩ := begun_of_known hfree (args := [wd 0x70000000]) (code := 0x10) (by decide) rfl (by decide) tag
    obtain ⟨hcalIs, hreg, hwait, hbytes⟩ := calibrate_effect h (by decide) (by decide) hruns hnone hcal
    have hrun : mboxRun 0x10 b = calibrate (wd 0x70000000) b := by
      change calibrate (b.reg (Reg.mboxArg 0)) b = _
      rw [h.arg 0 (by decide : 0 < 1)]
      rfl
    refine ⟨_, congrArg Host.Outcome.next (hsend.trans hrun), hcalIs, ?_, ?_, hwait, hbytes⟩
    · rw [State.rf, hreg]
      decide
    · rw [State.rb, hreg]
      decide
  case refine_4 =>
    intro s ag tag i l hfree hcommit hset hi hbyte hok htyp hregs hpayload
    obtain ⟨b, hsend, h⟩ := begun_of_known hfree (args := [wd i]) (code := 0x20) (by decide) rfl (by decide : 1 ≤ 64) tag
    obtain ⟨hstage, hshade, hjob, hbytes⟩ := applyPower_effect h hcommit hset hi hbyte hok htyp hregs hpayload
    have hrun : mboxRun 0x20 b = applyRecord i b := by
      change applyRecord (b.reg (Reg.mboxArg 0)).toNat b = _
      rw [h.arg 0 (by decide : 0 < 1), List.getD_cons_zero, wd, BitVec.toNat_ofNat, Nat.mod_eq_of_lt (by omega)]
    exact ⟨_, congrArg Host.Outcome.next (hsend.trans hrun), hstage, hshade, hjob, hbytes⟩
  case refine_5 =>
    intro s ag tag l hfree hset hl
    obtain ⟨b, hsend, h⟩ := begun_of_known hfree (args := []) (code := 0x21) (by decide) rfl (by decide) tag
    obtain ⟨ws, hws, hcheck⟩ := checkStore_effect h hset hl
    refine ⟨_, congrArg Host.Outcome.next (hsend.trans hcheck), ?_, h.sameRegs_nil, h.bytes⟩
    rw [jobWords_job h.jobIs, hws]
  case refine_6 =>
    intro s ag tag hfree hslot hrun htrial hnone
    obtain ⟨b, hsend, h⟩ := begun_of_known hfree (args := []) (code := 0x30) (by decide) rfl (by decide) tag
    obtain ⟨htrial', hcount, hheader, hdown, hcause, hactive⟩ := fwSwitch_effect h hslot hrun htrial hnone
    exact ⟨_, congrArg Host.Outcome.next hsend, htrial', hcount, hheader, hdown, hcause, hactive⟩
  case refine_7 =>
    intro s ag tag x w hfree hrun htrial
    obtain ⟨b, hsend, h⟩ := begun_of_known hfree (args := [w]) (code := 0x31) (by decide) rfl (by decide : 1 ≤ 64) tag
    obtain ⟨hactive, hnone, hoff, hroll, hjob, hbytes⟩ := fwConfirm_effect h hrun htrial (bit w 0)
    have hrun : mboxRun 0x31 b = fwConfirm (bit w 0) b := by
      change fwConfirm (bit (b.reg (Reg.mboxArg 0)) 0) b = _
      rw [h.arg 0 (by decide : 0 < 1)]
      rfl
    exact ⟨_, congrArg Host.Outcome.next (hsend.trans hrun), hactive, hnone, hoff, hroll, hjob, hbytes⟩
  case refine_8 =>
    intro s ag tag hfree hrun hnone
    obtain ⟨b, hsend, h⟩ := begun_of_known hfree (args := []) (code := 0x32) (by decide) rfl (by decide) tag
    obtain ⟨htrial, hoff, hdown, hheader, hactive, hreverted⟩ := fwRevert_effect h hrun hnone
    exact ⟨_, congrArg Host.Outcome.next hsend, htrial, hoff, hdown, hheader, hactive, hreverted⟩
  case refine_9 =>
    intro s ag tag w hfree hcmd hwaiting
    obtain ⟨b, hsend, h⟩ := begun_of_known hfree (args := [w]) (code := 0x40) (by decide) rfl (by decide : 1 ≤ 64) tag
    obtain ⟨hleft, hwait, hbytes⟩ := tagUnlock_effect h hcmd hwaiting (fld w 3 0)
    have hrun : mboxRun 0x40 b = tagUnlock (fld w 3 0) b := by
      change tagUnlock (fld (b.reg (Reg.mboxArg 0)) 3 0) b = _
      rw [h.arg 0 (by decide : 0 < 1)]
      rfl
    exact ⟨_, congrArg Host.Outcome.next (hsend.trans hrun), hleft, hwait, hbytes⟩
  case refine_10 =>
    intro s ag tag x v hfree hlatch hhot hcool
    obtain ⟨b, hsend, h⟩ := begun_of_known hfree (args := []) (code := 0x50) (by decide) rfl (by decide) tag
    obtain ⟨h28, h29, hcap, hirq, hjob⟩ := protClear_run h hlatch hhot hcool
    exact ⟨_, congrArg Host.Outcome.next hsend, h28, h29, hcap, hirq, hjob⟩
  case refine_11 =>
    intro s ag code tag l hfree hargs hlen
    obtain ⟨b, hsend, h⟩ := begun_of_unknown hfree hargs hlen tag
    obtain ⟨hjob, hstate, hfault, hbytes⟩ := unknown_effect h hsend
    exact ⟨_, rfl, hjob, hstate, hfault, hbytes⟩

end Sys2Proof.Proofs
end

section
/-! PROOFS. Refutation: a word of a firmware image that the quiesced UPD page holds back is not checked (O16). -/

namespace Sys2Proof.Proofs
open Sys2Proof Sys2Proof.Machine

/-- UPD is enabled and quiesced, and the host owns it. -/
def updHeldBack : State := setRb (Reg.status Page.upd) 0 true (setRb (Reg.ctrl Page.upd) 0 true Tests.up)

-- The two are elaborated in turn: each evaluates the model, and side by side they exceed the check's memory.
mutual

theorem exec_registerWrite_updHeldBack :
    ∃ u, exec (.registerWrite .larkspur Reg.updData 0) updHeldBack = .next u ∧ u.rf (Reg.errCode Page.upd) 7 0 ≠ Err.ownerDenied :=
  ⟨_, rfl, by decide +kernel⟩

/-- Refutes O16: while UPD is quiesced, QRDY holds a write of UPD.DATA back, which then has no effect at all: an agent that does not own
the page gets no OWNER_DENIED. -/
theorem not_refusedWritesChangeNothingElse : ¬ Obligations.RefusedWritesChangeNothingElse := by
  unfold Obligations.RefusedWritesChangeNothingElse
  rintro ⟨-, -, -, -, -, -, howner, -⟩
  obtain ⟨t, ht, hcode, -⟩ := howner updHeldBack .larkspur Reg.updData 0 (by decide +kernel) (by decide +kernel) (by decide +kernel)
    (by decide +kernel) (by decide +kernel)
  obtain ⟨u, hu, hne⟩ := exec_registerWrite_updHeldBack
  have hut : u = t := Host.Outcome.next.inj (hu.symm.trans ht)
  rw [hut] at hne
  exact hne hcode

end

end Sys2Proof.Proofs
end

section
/-! PROOFS. Refutations: a staged coil set that takes an engine's last coil away ends its exchange (O18, O19). -/

namespace Sys2Proof.Proofs
open Sys2Proof Sys2Proof.Machine

/-- FE0 holds COIL2 with its field off and has the exchange in flight; the shadow of its coil set names no coil. -/
def lastCoilStaged : State :=
  setCtx 1 3 3 (setCtx 1 0 1 (setReg (Reg.sysResClaim 2) 0x4000 (setReg (Reg.fwgtFeCoils 0) 4
    (modEng 0 (fun e => { e with exch := some sessionExch }) Tests.up))))

/-- The host may write STAGE_CTRL of FWGT in that state. -/
def applyTakesLastCoil : State :=
  setRb (Reg.ctrl Page.fwgt) 0 true (Tests.taking .host (Reg.stageCtrl Page.fwgt) lastCoilStaged)

/-- A commit of FWGT is issued in that state. -/
def commitTakesLastCoil : State := { applyTakesLastCoil with commit := some ⟨applyTakesLastCoil.now, 0, [Page.fwgt], true⟩ }

-- Each pair is elaborated in turn: both evaluate the model, and side by side they exceed the check's memory.
mutual

theorem exec_stageApply_applyTakesLastCoil :
    ∃ u, exec (.stageApply .host 0x1c) applyTakesLastCoil = .next u ∧
      u.byte (ctxAddr 1 3) ≠ applyTakesLastCoil.byte (ctxAddr 1 3) := ⟨_, rfl, by decide +kernel⟩

/-- Refutes O18: APPLY on FWGT takes the last coil of an engine, whose exchange ends: its session is BUSY no longer. -/
theorem not_stagingComplete : ¬ Obligations.StagingComplete := by
  unfold Obligations.StagingComplete
  rintro ⟨-, hfwgt, -⟩
  obtain ⟨t, ht, -, -, -, -, -, -, hbytes⟩ := hfwgt applyTakesLastCoil .host 0x1c (by decide +kernel) (by decide +kernel)
    (by decide) (by decide) (by decide +kernel)
  obtain ⟨u, hu, hne⟩ := exec_stageApply_applyTakesLastCoil
  have hut : u = t := Host.Outcome.next.inj (hu.symm.trans ht)
  rw [hut] at hne
  exact hne (hbytes _)

end

mutual

theorem exec_commitApply_commitTakesLastCoil :
    ∃ u, exec .commitApply commitTakesLastCoil = .next u ∧
      u.byte (ctxAddr 1 3) ≠ commitTakesLastCoil.byte (ctxAddr 1 3) := ⟨_, rfl, by decide +kernel⟩

/-- Refutes O19: a commit of FWGT that takes the last coil of an engine ends its exchange in the same way. -/
theorem not_commitComplete : ¬ Obligations.CommitComplete := by
  unfold Obligations.CommitComplete
  rintro ⟨-, -, -, -, -, happly⟩
  obtain ⟨t, ht, -, -, -, -, -, -, -, -, -, -, hbytes⟩ := happly commitTakesLastCoil ⟨applyTakesLastCoil.now, 0, [Page.fwgt], true⟩ _
    rfl rfl (by decide +kernel) (by decide) (by decide +kernel) rfl
  obtain ⟨u, hu, hne⟩ := exec_commitApply_commitTakesLastCoil
  have hut : u = t := Host.Outcome.next.inj (hu.symm.trans ht)
  rw [hut] at hne
  exact hne (hbytes _)

end

end Sys2Proof.Proofs
end

section
/-! PROOFS. Refutation: the player's status that STEP_ISSUE writes first can stand for a claim that the governor reads (O40). -/

namespace Sys2Proof.Proofs
open Sys2Proof Sys2Proof.Machine

/-- A "coil" past the last one whose claim register is PL7's status. -/
abbrev pastCoil : Nat := 0x2c31

/-- PL7 plays and stands at step 4096, an action with target 2000. -/
def playingAtStep4096 : State :=
  modPlayer 7 (fun p => { p with pc := 4096, p := 2000 })
    (setMem 4 (scoreBase + 32768) (2 ^ 30) (setMem 4 (scoreBase + 32772) (5 * 2 ^ 28) (setMem 4 scoreBase 0x3000
      (setReg (Reg.lspPlSlota 7) (wd (8191 * 65536)) (setReg (Reg.lspPlStatus 7) 0x808000 Tests.up)))))

/-- FE0 drives COIL2 within the budget, and a sweep names `pastCoil` alone, whose claim reads as Crocus's (8). -/
def sweptPastCoil : State :=
  { setReg (Reg.coilPwrTable pastCoil 63) 0x03e80000 (setReg (Reg.coilPwrTable 2 0) 0x03e803ff (setReg (Reg.fwgtFeWa 0 2) 0x7fff
      (setReg (Reg.fwgtGovBudget) 290 (setReg (Reg.sysResClaim 2) 0x4000 (setRb (Reg.coilDriveStatus 2) 0 true playingAtStep4096))))) with
    boot := { phase := .ready, vfld := true }
    crocus := { Tests.up.crocus with sweep := some (1600, [pastCoil]) } }

-- The two are elaborated in turn: each evaluates the model, and side by side they exceed the check's memory.
mutual

theorem exec_stepIssue_sweptPastCoil :
    ∃ u, exec (.stepIssue 7) sweptPastCoil = .next u ∧
      u.reg Reg.fwgtGovStatus ≠ (passTo 1744 sweptPastCoil).reg Reg.fwgtGovStatus := ⟨_, rfl, by decide +kernel⟩

/-- Refutes O40: as PL7's status takes step 4096, the claim of `pastCoil` that it stands for is Crocus's no longer, and the governor does not
see its pulse. -/
theorem not_stepIssueComplete : ¬ Obligations.StepIssueComplete := by
  unfold Obligations.StepIssueComplete
  rintro ⟨honTime, -⟩
  obtain ⟨t, ht, -, -, -, -, hregs, -⟩ := honTime sweptPastCoil 7 (sweptPastCoil.stepAt 7) 2000 (by decide +kernel) (by decide +kernel) rfl
    (by decide +kernel) (by decide +kernel) (by decide +kernel) (by decide +kernel) (by decide +kernel) (by decide +kernel)
  obtain ⟨u, hu, hne⟩ := exec_stepIssue_sweptPastCoil
  have hut : u = t := Host.Outcome.next.inj (hu.symm.trans ht)
  have htick : sweptPastCoil.issueTick (7 : PlayerIx) 2000 = 1744 := by decide +kernel
  rw [hut] at hne
  rw [htick] at hregs
  exact hne (hregs Reg.fwgtGovStatus (by decide))

end

end Sys2Proof.Proofs
end

section
/-! PROOFS. What the passing of time keeps of the coils' drive, of the coils and of the engines (R234, R219). -/

namespace Sys2Proof.Proofs
open Sys2Proof Sys2Proof.Machine Sys2Proof.Laws

/-! ## The relation -/

/-- The registers of FWGT that the governor writes. -/
def govOffsets : List Nat := [0x10, 0x18, 0x28, 0x2c, 0x48, 0x4c, 0x50]

/-- The registers of DBG that a fault writes. -/
def dbgOffsets : List Nat := [0x10, 0x18, 0x40, 0x44, 0x48, 0x4c]

/-- The registers of a coil's page that a reset edge of its chain writes, and the one that shows the interrupts. -/
def edgeOffsets : List Nat := [0x18, 0x70, 0x7c, 0xd8]

/-- The registers that time writes whole; of DRIVE_STATUS and IRQ_RAW of a coil it writes one bit. -/
def edgeReg (a : Nat) : Bool :=
  (a / 0x1000 == Page.dbg && dbgOffsets.contains (a % 0x1000)) || (a / 0x1000 == Page.fwgt && govOffsets.contains (a % 0x1000)) ||
    (decide (0x10 ≤ a / 0x1000 ∧ a / 0x1000 < 0x1c) && edgeOffsets.contains (a % 0x1000))

/-- DRIVE_STATUS or IRQ_RAW of a coil. -/
def driveReg (a : Nat) : Bool :=
  decide (0x10 ≤ a / 0x1000 ∧ a / 0x1000 < 0x1c) && (a % 0x1000 == 0x48 || a % 0x1000 == 0x10)

/-- What time leaves of a coil: all but its share of the governor and its chain. -/
def coilRest (c : Coil) : Coil :=
  { c with capped := false, resetEdge := 0, nextTick := 0, pendReset := none, loaded := [], st1 := {}, st2 := {}, st3 := {}, past := 0
           magRun := {}, phRun := {} }

/-- What time leaves of an engine: all but the errors noted for its exchange. -/
def engRest (e : Eng) : Eng := { e with exch := e.exch.map (fun x => { x with errs := [] }) }

/-- What time keeps. -/
structure TimeKept (s t : State) : Prop where
  reg : ∀ a, edgeReg a = false → driveReg a = false → t.reg a = s.reg a
  drive : ∀ c, c < 12 → ∀ k, k < 32 → k ≠ 2 → t.rb (Reg.coilDriveStatus c) k = s.rb (Reg.coilDriveStatus c) k
  raw : ∀ c, c < 12 → ∀ k, k < 32 → k ≠ 6 → t.rb (Reg.irqRaw (Page.coil c)) k = s.rb (Reg.irqRaw (Page.coil c)) k
  coil : ∀ c, coilRest (t.coil c) = coilRest (s.coil c)
  eng : ∀ n, engRest (t.eng n) = engRest (s.eng n)

theorem timeKept_refl (s : State) : TimeKept s s :=
  ⟨fun _ _ _ => rfl, fun _ _ _ _ _ => rfl, fun _ _ _ _ _ => rfl, fun _ => rfl, fun _ => rfl⟩

theorem TimeKept.trans {s t u : State} (h : TimeKept s t) (h' : TimeKept t u) : TimeKept s u :=
  ⟨fun a ha hd => (h'.reg a ha hd).trans (h.reg a ha hd), fun c hc k hk h2 => (h'.drive c hc k hk h2).trans (h.drive c hc k hk h2),
    fun c hc k hk h6 => (h'.raw c hc k hk h6).trans (h.raw c hc k hk h6), fun c => (h'.coil c).trans (h.coil c),
    fun n => (h'.eng n).trans (h.eng n)⟩

theorem timeKept_ite {c : Prop} [Decidable c] {s t u : State} (ht : TimeKept s t) (hu : TimeKept s u) :
    TimeKept s (if c then t else u) := by
  split
  · exact ht
  · exact hu

theorem timeKept_sif {f : State → State} (c : Bool) {s : State} (h : TimeKept s (f s)) : TimeKept s (sif c f s) :=
  timeKept_ite h (timeKept_refl s)

theorem timeKept_forEach {l : List Nat} {f : Nat → State → State} (h : ∀ k ∈ l, ∀ t, TimeKept t (f k t)) (s : State) :
    TimeKept s (forEach l f s) := by
  induction l generalizing s with
  | nil => exact timeKept_refl s
  | cons k l ih => exact (h k List.mem_cons_self s).trans (ih (fun j hj => h j (List.mem_cons_of_mem k hj)) (f k s))

/-! ## Single changes -/

theorem coilDriveStatus_parts (c : Nat) : Reg.coilDriveStatus c / 0x1000 = Page.coil c ∧ Reg.coilDriveStatus c % 0x1000 = 0x48 := by
  simp only [Reg.coilDriveStatus, Page.coil]
  omega

theorem coilIrqRaw_parts (c : Nat) : Reg.irqRaw (Page.coil c) / 0x1000 = Page.coil c ∧ Reg.irqRaw (Page.coil c) % 0x1000 = 0x10 := by
  simp only [Reg.irqRaw, Page.coil]
  omega

theorem not_edgeReg_of_driveReg {a : Nat} (h : driveReg a = true) : edgeReg a = false := by
  simp only [driveReg, Bool.and_eq_true, Bool.or_eq_true, beq_iff_eq, decide_eq_true_eq] at h
  obtain ⟨⟨hlo, hhi⟩, hoff⟩ := h
  have hdbg : (a / 0x1000 == Page.dbg) = false := by simp only [beq_eq_false_iff_ne, Page.dbg]; omega
  have hfwgt : (a / 0x1000 == Page.fwgt) = false := by simp only [beq_eq_false_iff_ne, Page.fwgt]; omega
  have hedge : edgeOffsets.contains (a % 0x1000) = false := by rcases hoff with h | h <;> rw [h] <;> decide
  simp only [edgeReg, hdbg, hfwgt, hedge, Bool.false_and, Bool.and_false, Bool.or_false]

theorem driveReg_driveStatus {c : Nat} (hc : c < 12) : driveReg (Reg.coilDriveStatus c) = true := by
  obtain ⟨hp, ho⟩ := coilDriveStatus_parts c
  rw [driveReg, hp, ho]
  simp only [Page.coil, beq_self_eq_true, Bool.true_or, Bool.and_true, decide_eq_true_eq]
  omega

theorem driveReg_irqRaw {c : Nat} (hc : c < 12) : driveReg (Reg.irqRaw (Page.coil c)) = true := by
  obtain ⟨hp, ho⟩ := coilIrqRaw_parts c
  rw [driveReg, hp, ho]
  simp only [Page.coil, beq_self_eq_true, Bool.or_true, Bool.and_true, decide_eq_true_eq]
  omega

/-- Registers that time writes whole. -/
theorem timeKept_of_onlyRegs {l : List Nat} {s t : State} (hl : ∀ a ∈ l, edgeReg a = true) (h : OnlyRegs l s t) : TimeKept s t := by
  have hr := h.1
  have hout : ∀ a, edgeReg a = false → a ∉ l := fun a ha hm => by simp [hl a hm] at ha
  refine ⟨fun a ha _ => hr a (hout a ha), fun c hc k _ _ => ?_, fun c hc k _ _ => ?_, fun c => ?_, fun n => ?_⟩
  · rw [State.rb, hr _ (hout _ (not_edgeReg_of_driveReg (driveReg_driveStatus hc))), State.rb]
  · rw [State.rb, hr _ (hout _ (not_edgeReg_of_driveReg (driveReg_irqRaw hc))), State.rb]
  · rw [field_of_onlyRegs (fun u => u.coil c) (fun _ _ => rfl) h]
  · rw [field_of_onlyRegs (fun u => u.eng n) (fun _ _ => rfl) h]

theorem timeKept_setReg {a : Nat} (ha : edgeReg a = true) (w : Word) (s : State) : TimeKept s (setReg a w s) :=
  timeKept_of_onlyRegs (l := [a]) (by simpa using ha) (setReg_onlyRegs (by simp) w s)

/-- A change beside the registers that keeps the coils and the engines. -/
theorem timeKept_of_eq {s t : State} (hr : t.regs = s.regs) (hc : t.coils = s.coils) (he : t.engs = s.engs) : TimeKept s t :=
  ⟨fun a _ _ => by rw [State.reg, hr, State.reg], fun c _ k _ _ => by simp only [State.rb, State.reg, hr],
    fun c _ k _ _ => by simp only [State.rb, State.reg, hr], fun c => by rw [State.coil, hc, State.coil],
    fun n => by rw [State.eng, he, State.eng]⟩

theorem timeKept_modCoil {n : Nat} {f : Coil → Coil} (hf : ∀ c, coilRest (f c) = coilRest c) (s : State) : TimeKept s (modCoil n f s) := by
  refine ⟨fun _ _ _ => rfl, fun _ _ _ _ _ => rfl, fun _ _ _ _ _ => rfl, fun c => ?_, fun _ => rfl⟩
  by_cases h : c = n
  · rw [h, modCoil, setCoil_coil_eq, hf]
  · rw [modCoil, setCoil_coil_ne h]

theorem timeKept_modEng {n : Nat} {f : Eng → Eng} (hf : ∀ e, engRest (f e) = engRest e) (s : State) : TimeKept s (modEng n f s) := by
  refine ⟨fun _ _ _ => rfl, fun _ _ _ _ _ => rfl, fun _ _ _ _ _ => rfl, fun _ => rfl, fun m => ?_⟩
  by_cases h : m = n
  · rw [h, modEng, setEng_eng_eq, hf]
  · rw [modEng, setEng_eng_ne h]

theorem timeKept_irq_fwgt (k : Nat) (s : State) : TimeKept s (irq Page.fwgt k s) := timeKept_of_onlyRegs (by decide) (irq_onlyRegs _ k s)

theorem timeKept_irqLevel_fwgt (k : Nat) (b : Bool) (s : State) : TimeKept s (irqLevel Page.fwgt k b s) :=
  timeKept_of_onlyRegs (by decide) (irqLevel_onlyRegs _ k b s)

theorem timeKept_detailUsed (d : Nat) (s : State) : TimeKept s (detailUsed d s) := timeKept_ite (timeKept_of_eq rfl rfl rfl) (timeKept_refl s)

theorem timeKept_errNoted_fwgt (code info extra : Nat) (s : State) : TimeKept s (errNoted Page.fwgt code info extra s) := by
  unfold errNoted noteFirst
  refine timeKept_ite ?_ (timeKept_setReg (by decide) _ s)
  exact (((timeKept_detailUsed info s).trans (timeKept_setReg (by decide) _ _)).trans (timeKept_setReg (by decide) _ _)).trans
    (timeKept_detailUsed extra _)

theorem timeKept_recErr_fwgt (code info extra : Nat) (s : State) : TimeKept s (recErr Page.fwgt code info extra s) := by
  rw [recErr_eq]
  exact ((timeKept_errNoted_fwgt code info extra s).trans (timeKept_irq_fwgt 31 _)).trans
    (timeKept_of_onlyRegs (by decide) (faultOpt_onlyRegs _ _ _ _))

/-! ## The governor -/

theorem timeKept_limitEnd (s : State) : TimeKept s (limitEnd s) :=
  timeKept_sif _ ((timeKept_irqLevel_fwgt 3 false s).trans (timeKept_setReg (by decide) _ _))

theorem timeKept_govSet (g : Nat) (s : State) : TimeKept s (govSet g s) :=
  timeKept_ite (timeKept_of_eq rfl rfl rfl) (timeKept_ite (timeKept_refl s) (timeKept_of_eq rfl rfl rfl))

theorem timeKept_govShow (g : Nat) (s : State) : TimeKept s (govShow g s) :=
  ((timeKept_setReg (by decide) _ s).trans (timeKept_setReg (by decide) _ _)).trans (timeKept_irqLevel_fwgt 3 _ _)

theorem timeKept_govReport (old g : Nat) (newly : List Nat) (s : State) : TimeKept s (govReport old g newly s) := by
  have hcount : ∀ hi lo n t, TimeKept t (addRf Reg.fwgtGovCnt hi lo n t) := fun hi lo n t => timeKept_setReg (by decide) _ t
  exact timeKept_ite ((((hcount 31 16 newly.length s).trans (timeKept_sif _ (hcount 15 0 1 _))).trans (timeKept_irq_fwgt 2 _)).trans
    (timeKept_recErr_fwgt _ _ _ _)) (timeKept_refl s)

theorem engRest_noted (f : Exch → Exch) (hf : ∀ x, ({ f x with errs := [] } : Exch) = { x with errs := [] }) (e : Eng) :
    engRest { e with exch := e.exch.map f } = engRest e := by
  cases hx : e.exch with
  | none => simp only [engRest, hx, Option.map_none]
  | some x => simp only [engRest, hx, Option.map_some, hf]

theorem timeKept_floorMark (g : Nat) (s : State) : TimeKept s (floorMark g s) := by
  refine timeKept_ite (timeKept_forEach (fun n _ t => timeKept_ite (timeKept_modEng (fun e => engRest_noted _ (fun x => ?_) e) t)
    (timeKept_refl t)) s) (timeKept_refl s)
  split <;> rfl

/-- DRIVE_STATUS of a coil is beside the interrupt registers of every coil. -/
theorem driveStatus_ne_irq (c d : Nat) :
    Reg.coilDriveStatus d ≠ Reg.irqRaw (Page.coil c) ∧ Reg.coilDriveStatus d ≠ Reg.irqStat (Page.coil c) := by
  simp only [Reg.coilDriveStatus, Reg.irqRaw, Reg.irqStat, Page.coil]
  omega

theorem irqRaw_ne_irqStat (p q : Nat) : Reg.irqRaw p ≠ Reg.irqStat q := by
  simp only [Reg.irqRaw, Reg.irqStat]
  omega

theorem rb_of_reg_eq {s t : State} {a : Nat} (h : t.reg a = s.reg a) (k : Nat) : t.rb a k = s.rb a k := by rw [State.rb, h, State.rb]

/-- A level source changes one bit of IRQ_RAW. -/
theorem irqLevel_irqRaw_ne {p k j : Nat} (hj : j < 32) (h : j ≠ k) (b : Bool) (s : State) :
    (irqLevel p k b s).rb (Reg.irqRaw p) j = s.rb (Reg.irqRaw p) j := by
  have hraw : (setRb (Reg.irqRaw p) k b s).rb (Reg.irqRaw p) j = s.rb (Reg.irqRaw p) j := setRb_rb_ne hj h _ _ _
  rw [irqLevel]
  split
  · exact (rb_of_reg_eq (setRb_reg_ne (irqRaw_ne_irqStat p p) _ _ _) j).trans hraw
  · exact hraw

theorem not_mem_pair {a x y : Nat} (hx : a ≠ x) (hy : a ≠ y) : a ∉ [x, y] := by simp [hx, hy]

theorem headFollow_reg_ne {a c : Nat} (hd : a ≠ Reg.coilDriveStatus c) (hr : a ≠ Reg.irqRaw (Page.coil c)) (hs : a ≠ Reg.irqStat (Page.coil c))
    (s : State) : (headFollow c s).reg a = s.reg a :=
  ((irqLevel_onlyRegs (Page.coil c) 6 _ _).1 a (not_mem_pair hr hs)).trans (setRb_reg_ne hd _ _ s)

theorem edgeReg_coilIrqStat {c : Nat} (hc : c < 12) : edgeReg (Reg.irqStat (Page.coil c)) = true := by
  have hp : Reg.irqStat (Page.coil c) / 0x1000 = Page.coil c ∧ Reg.irqStat (Page.coil c) % 0x1000 = 0x18 := by
    simp only [Reg.irqStat, Page.coil]
    omega
  have hrange : 0x10 ≤ Page.coil c ∧ Page.coil c < 0x1c := by simp only [Page.coil]; omega
  have hin : edgeOffsets.contains 0x18 = true := by decide
  rw [edgeReg, hp.1, hp.2, decide_eq_true hrange, hin, Bool.true_and, Bool.or_true]

theorem timeKept_headFollow {c : Nat} (hc : c < 12) (s : State) : TimeKept s (headFollow c s) := by
  have hstate : ({ headFollow c s with regs := s.regs } : State) = s :=
    (onlyRegs_trans (l := [Reg.coilDriveStatus c, Reg.irqRaw (Page.coil c), Reg.irqStat (Page.coil c)])
      (setRb_onlyRegs (by simp) 2 (s.noHead c) s) (onlyRegs_mono (by simp) (irqLevel_onlyRegs (Page.coil c) 6 (s.noHead c) _))).2.2
  refine ⟨fun a ha hd => ?_, fun d _ k hk h2 => ?_, fun d _ k hk h6 => ?_, fun d => ?_, fun n => ?_⟩
  · exact headFollow_reg_ne (fun h => by simp [h, driveReg_driveStatus hc] at hd) (fun h => by simp [h, driveReg_irqRaw hc] at hd)
      (fun h => by simp [h, edgeReg_coilIrqStat hc] at ha) s
  · by_cases h : d = c
    · subst h
      obtain ⟨hraw, hstat⟩ := driveStatus_ne_irq d d
      exact (rb_of_reg_eq ((irqLevel_onlyRegs (Page.coil d) 6 _ _).1 _ (not_mem_pair hraw hstat)) k).trans (setRb_rb_ne hk h2 _ _ s)
    · have hne : Reg.coilDriveStatus d ≠ Reg.coilDriveStatus c := by simp only [Reg.coilDriveStatus]; omega
      exact rb_of_reg_eq (headFollow_reg_ne hne (driveStatus_ne_irq c d).1 (driveStatus_ne_irq c d).2 s) k
  · by_cases h : d = c
    · subst h
      exact (irqLevel_irqRaw_ne hk h6 _ _).trans (rb_of_reg_eq (setRb_reg_ne (driveStatus_ne_irq d d).1.symm _ _ s) k)
    · have hraw : Reg.irqRaw (Page.coil d) ≠ Reg.irqRaw (Page.coil c) := by simp only [Reg.irqRaw, Page.coil]; omega
      exact rb_of_reg_eq (headFollow_reg_ne (driveStatus_ne_irq d c).1.symm hraw (irqRaw_ne_irqStat _ _) s) k
  · rw [← congrArg (fun u : State => u.coil d) hstate]; rfl
  · rw [← congrArg (fun u : State => u.eng n) hstate]; rfl

theorem timeKept_govern (s : State) : TimeKept s (govern s) := by
  unfold govern
  refine timeKept_ite (timeKept_refl s) ?_
  refine TimeKept.trans ?_ (timeKept_forEach (fun c hc t => timeKept_headFollow (List.mem_range.mp (List.mem_of_mem_filter hc)) t) _)
  refine TimeKept.trans (TimeKept.trans (TimeKept.trans ?_ (timeKept_govShow _ _)) (timeKept_govReport _ _ _ _)) (timeKept_floorMark _ _)
  refine TimeKept.trans ?_ (t := govSet _ _) (timeKept_of_eq rfl rfl rfl)
  exact ((timeKept_limitEnd s).trans (timeKept_forEach (fun c _ t => timeKept_modCoil (by intro; rfl) t) _)).trans (timeKept_govSet _ _)

theorem timeKept_governAt (b : Nat) (s : State) : TimeKept s (governAt b s) :=
  ((timeKept_of_eq rfl rfl rfl : TimeKept s (modTime _ s)).trans (timeKept_govern _)).trans (timeKept_of_eq rfl rfl rfl)

theorem timeKept_passGov (t : Nat) (s : State) : TimeKept s (passGov t s) := by
  have hfold : ∀ (l : List Nat) (u : State), TimeKept u (l.foldl (fun u b => governAt b u) u) := fun l => by
    induction l with
    | nil => exact timeKept_refl
    | cons b l ih => exact fun u => (timeKept_governAt b u).trans (ih _)
  exact (timeKept_ite (timeKept_refl s) (hfold _ s)).trans (timeKept_of_eq rfl rfl rfl)

/-! ## The reset edges -/

theorem edgeReg_coil {c off : Nat} (hc : c < 12) (hoff : off < 0x1000) (hin : edgeOffsets.contains off = true) :
    edgeReg (0x10000 + off + 0x1000 * c) = true := by
  have hp : (0x10000 + off + 0x1000 * c) / 0x1000 = 0x10 + c ∧ (0x10000 + off + 0x1000 * c) % 0x1000 = off := by omega
  have hrange : 0x10 ≤ 0x10 + c ∧ 0x10 + c < 0x1c := by omega
  rw [edgeReg, hp.1, hp.2, hin, decide_eq_true hrange, Bool.true_and, Bool.or_true]

theorem timeKept_chainReset {c : Nat} (hc : c < 12) (e : Nat) (s : State) : TimeKept s (chainReset c e s) :=
  ((timeKept_modCoil (by intro; rfl) s).trans (timeKept_setReg (edgeReg_coil (off := 0x7c) hc (by decide) (by decide)) _ _)).trans
    (timeKept_setReg (edgeReg_coil (off := 0xd8) hc (by decide) (by decide)) _ _)

theorem timeKept_chainStart {c : Nat} (hc : c < 12) (e : Nat) (s : State) : TimeKept s (chainStart c e s) := by
  have hstatus : ∀ w t, TimeKept t (setReg (Reg.coilChainStatus c) w t) :=
    fun w t => timeKept_setReg (edgeReg_coil (off := 0x70) hc (by decide) (by decide)) w t
  exact (((timeKept_modCoil (by intro; rfl) s).trans (hstatus _ _)).trans (hstatus _ _)).trans (timeKept_chainReset hc e _)

theorem timeKept_chainEdge {c : Nat} (hc : c < 12) (t : Nat) (s : State) : TimeKept s (chainEdge c t s) := by
  have hstatus : ∀ w u, TimeKept u (setReg (Reg.coilChainStatus c) w u) :=
    fun w u => timeKept_setReg (edgeReg_coil (off := 0x70) hc (by decide) (by decide)) w u
  unfold chainEdge
  split
  · exact timeKept_refl s
  · exact timeKept_ite (timeKept_refl s) (timeKept_ite (timeKept_chainStart hc _ s)
      (((timeKept_modCoil (by intro; rfl) s).trans (hstatus _ _)).trans (timeKept_chainReset hc _ _)))

theorem timeKept_chainsNow (s : State) : TimeKept s (chainsNow s) :=
  timeKept_forEach (fun _ hc => timeKept_chainEdge (List.mem_range.mp hc) _) s

theorem timeKept_passTo (t : Nat) (s : State) : TimeKept s (passTo t s) := (timeKept_passGov t s).trans (timeKept_chainsNow _)

end Sys2Proof.Proofs
end

section
/-! PROOFS. FIELD and BANK steps of a field engine (O34; R225, R231, R295). -/

namespace Sys2Proof.Proofs
open Sys2Proof Sys2Proof.Machine Sys2Proof.Laws

/-! ## A step that came late is reported -/

/-- An error of page `p` and of an engine's exchange has been recorded. -/
structure Reported (p : Nat) (s t : State) : Prop where
  pages : SamePages [p, Page.dbg] s t
  rest : { t with regs := s.regs, engs := s.engs, free := s.free } = s
  eng : ∀ n, engRest (t.eng n) = engRest (s.eng n)

theorem reported_refl (p : Nat) (s : State) : Reported p s s := ⟨fun _ _ => rfl, rfl, fun _ => rfl⟩

theorem Reported.trans {p : Nat} {s t u : State} (h : Reported p s t) (h' : Reported p t u) : Reported p s u := by
  refine ⟨fun a ha => (h'.pages a ha).trans (h.pages a ha), ?_, fun n => (h'.eng n).trans (h.eng n)⟩
  calc { u with regs := s.regs, engs := s.engs, free := s.free }
      = { ({ u with regs := t.regs, engs := t.engs, free := t.free } : State) with regs := s.regs, engs := s.engs, free := s.free } := rfl
    _ = s := by rw [h'.rest, h.rest]

theorem reported_of_onlyRegs {p : Nat} {l : List Nat} {s t : State} (hl : ∀ a ∈ l, a / 0x1000 ∈ [p, Page.dbg]) (h : OnlyRegs l s t) :
    Reported p s t := by
  refine ⟨samePages_of_sameRegs hl h.1, ?_, fun n => by rw [field_of_onlyRegs (fun u => u.eng n) (fun _ _ => rfl) h]⟩
  calc { t with regs := s.regs, engs := s.engs, free := s.free }
      = { ({ t with regs := s.regs } : State) with engs := s.engs, free := s.free } := rfl
    _ = s := by rw [h.2.2]

theorem reported_detailUsed (p d : Nat) (s : State) : Reported p s (detailUsed d s) := by
  unfold detailUsed
  split
  · exact ⟨fun _ _ => rfl, rfl, fun _ => rfl⟩
  · exact reported_refl p s

theorem reported_errNoted (p code info extra : Nat) (s : State) : Reported p s (errNoted p code info extra s) := by
  have hcode : ∀ w t, Reported p t (setReg (Reg.errCode p) w t) := fun w t =>
    reported_of_onlyRegs (l := [Reg.errCode p]) (fun a ha => by rw [List.mem_singleton.mp ha, errCode_page]; exact List.mem_cons_self)
      (setReg_onlyRegs (by simp) w t)
  have hinfo : ∀ w t, Reported p t (setReg (Reg.errInfo p) w t) := fun w t =>
    reported_of_onlyRegs (l := [Reg.errInfo p]) (fun a ha => by rw [List.mem_singleton.mp ha, errInfo_page]; exact List.mem_cons_self)
      (setReg_onlyRegs (by simp) w t)
  unfold errNoted noteFirst
  split
  · exact (((reported_detailUsed p info s).trans (hcode _ _)).trans (hinfo _ _)).trans (reported_detailUsed p extra _)
  · exact hcode _ s

theorem reported_recErr (p code info extra : Nat) (s : State) : Reported p s (recErr p code info extra s) := by
  have hfault : ∀ a ∈ faultRegs, a / 0x1000 ∈ [p, Page.dbg] := by
    have h : ∀ a ∈ faultRegs, a / 0x1000 = Page.dbg := by decide
    exact fun a ha => by rw [h a ha]; exact List.mem_cons_of_mem _ List.mem_cons_self
  rw [recErr_eq]
  have hirq : ∀ a ∈ [Reg.irqRaw p, Reg.irqStat p], a / 0x1000 ∈ [p, Page.dbg] := fun a ha => by
    rcases List.mem_pair.mp ha with rfl | rfl
    · rw [irqRaw_page]; exact List.mem_cons_self
    · rw [irqStat_page]; exact List.mem_cons_self
  exact ((reported_errNoted p code info extra s).trans (reported_of_onlyRegs hirq (irq_onlyRegs p 31 _))).trans
    (reported_of_onlyRegs hfault (faultOpt_onlyRegs _ _ _ _))

theorem reported_sectionErr {k : Nat} (hk : k < 4) (p slot e : Nat) (s : State) : Reported p s (sectionErr k slot e s) := by
  have hnoted : TimeKept s (engErr k (carried e) s) :=
    timeKept_modEng (engRest_noted (fun y => { y with errs := addErr (carried e) y.errs }) fun _ => rfl) s
  unfold sectionErr
  split
  · exact reported_refl p s
  · split
    · exact ⟨fun _ _ => rfl, rfl, hnoted.eng⟩
    · exact reported_refl p s

theorem reported_stepActed {n : Nat} (hn : n < 4) (p have_ t : Nat) (i : Issued) (s : State) : Reported p s (stepActed n p i have_ t s) := by
  unfold stepActed
  split
  · exact (reported_recErr p _ _ _ s).trans (reported_sectionErr hn p _ _ _)
  · exact reported_refl p s

/-! ## A step reaches its engine -/

/-- A step has been taken from those on their way. -/
def stepTaken (n : Nat) (i : Issued) (s : State) : State := modPlayer n (fun p => { p with flight := p.flight.erase i }) s

theorem takeStep_of_next {k op page : Nat} {i : Issued} {s : State} (hi : s.nextStep k = some i) (hop : i.op = op)
    (hq : s.quiesced page = false) (f : Issued → State → State) :
    takeStep k op page f s = f i (stepTaken k i s) := by
  obtain ⟨hst, -⟩ := quiesced_false hq
  rw [takeStep, hi]
  exact if_neg (by simp [hop, hst])

theorem modPlayer_player_eq (k : Nat) (f : Player → Player) (s : State) : (modPlayer k f s).player k = f (s.player k) :=
  setPlayer_player_eq k _ s

/-- The state in which FE`n` acts on step `i`: the step has been taken, and time has passed to its tick. -/
def stepReady (n t : Nat) (i : Issued) (s : State) : State := stepActed n (Page.fe n) i i.act t (passTo t (stepTaken n i s))

theorem exec_fieldStep {n : EngIx} {i : Issued} {s : State} (hi : s.nextStep n = some i) (hop : i.op = 1)
    (hq : s.quiesced (Page.fe n) = false) :
    exec (.fieldStep n) s = .next (fieldAct n (ccAt i.act) i (stepReady n (ccAt i.act) i s)) := by
  obtain ⟨-, hen⟩ := quiesced_false hq
  change Host.Outcome.next _ = _
  rw [takeStep_of_next hi hop hq]
  exact congrArg _ (if_neg (by rw [show (stepTaken n i s).rb (Reg.ctrl (Page.fe n)) 0 = s.rb (Reg.ctrl (Page.fe n)) 0 from rfl, hen]; decide))

/-- What the state in which FE`n` acts on a step has kept. -/
structure Ready (n : Nat) (i : Issued) (s u : State) : Prop where
  pages : ∀ a, a / 0x1000 ∉ Page.fe n :: timePages → u.reg a = s.reg a
  fwgt : ∀ a, a / 0x1000 = Page.fwgt → edgeReg a = false → u.reg a = s.reg a
  boot : u.boot = s.boot
  commit : u.commit = s.commit
  crocus : u.crocus = s.crocus
  flight : (u.player n).flight = (s.player n).flight.erase i
  coil : ∀ c, coilRest (u.coil c) = coilRest (s.coil c)
  eng : ∀ m, engRest (u.eng m) = engRest (s.eng m)

theorem ready_stepReady {n : Nat} (hn : n < 4) (t : Nat) (i : Issued) (s : State) : Ready n i s (stepReady n t i s) := by
  have htaken := timeOnly_passTo t (stepTaken n i s)
  have hkept := timeKept_passTo t (stepTaken n i s)
  have hrep := reported_stepActed hn (Page.fe n) i.act t i (passTo t (stepTaken n i s))
  have hfe : Page.fe n ≠ Page.fwgt := by simp only [Page.fe, Page.fwgt]; omega
  refine ⟨fun a ha => ?_, fun a ha he => ?_, ?_, ?_, ?_, ?_, fun c => ?_, fun m => (hrep.eng m).trans (hkept.eng m)⟩
  · have hout : a / 0x1000 ∉ [Page.fe n, Page.dbg] := fun h => ha (by
      rcases List.mem_pair.mp h with h | h
      · rw [h]; exact List.mem_cons_self
      · rw [h]; exact List.mem_cons_of_mem _ (by decide))
    exact (hrep.pages a hout).trans (htaken.1 a fun h => ha (List.mem_cons_of_mem _ h))
  · have hout : a / 0x1000 ∉ [Page.fe n, Page.dbg] := by
      rw [ha]
      exact not_mem_pair hfe.symm (by decide)
    exact (hrep.pages a hout).trans (hkept.reg a he (by rw [driveReg, ha]; rfl))
  · have htime : (passTo t (stepTaken n i s)).boot = (stepTaken n i s).boot := field_of_timeOnly State.boot htaken fun _ _ _ _ _ _ _ => rfl
    exact (congrArg State.boot hrep.rest).trans htime
  · have htime : (passTo t (stepTaken n i s)).commit = (stepTaken n i s).commit := field_of_timeOnly State.commit htaken fun _ _ _ _ _ _ _ => rfl
    exact (congrArg State.commit hrep.rest).trans htime
  · have htime : (passTo t (stepTaken n i s)).crocus = (stepTaken n i s).crocus := field_of_timeOnly State.crocus htaken fun _ _ _ _ _ _ _ => rfl
    exact (congrArg State.crocus hrep.rest).trans htime
  · have hplayers : (stepReady n t i s).players = (stepTaken n i s).players := (congrArg State.players hrep.rest).trans (passTo_players _ _)
    rw [State.player, hplayers, ← State.player, stepTaken, modPlayer_player_eq]
  · have hcoils : (stepReady n t i s).coils = (passTo t (stepTaken n i s)).coils := (congrArg State.coils hrep.rest).trans rfl
    rw [State.coil, hcoils, ← State.coil, hkept.coil]
    rfl

/-! ## A coil that an engine holds -/

theorem holder_of_feHolds {s : State} {n c : Nat} (h : s.feHolds n c = true) : s.holder c = 4 + n := by simpa [State.feHolds] using h

/-- The coil whose pulse it is is Crocus's. -/
theorem holder_of_crocusPulse {s : State} {c : Nat} (h : s.crocusPulse = some c) : s.holder c = 8 := by
  rw [State.crocusPulse, Option.filter_eq_some_iff] at h
  have hturn := h.1
  unfold State.crocusTurn at hturn
  split at hturn
  · cases hturn
  · split at hturn
    · cases hturn
    · split at hturn
      · rename_i hcond
        obtain rfl := Option.some.inj hturn
        exact hcond.2.2.1
      · cases hturn

/-- A coil that an engine holds is on as its DRIVE_STATUS says. -/
theorem coilOn_of_held {s : State} {n c : Nat} (hn : n < 4) (h : s.feHolds n c = true) : s.coilOn c = s.rb (Reg.coilDriveStatus c) 0 := by
  have hholder := holder_of_feHolds h
  have hpulse : (s.crocusPulse == some c) = false := beq_eq_false_iff_ne.mpr fun hp => by have := holder_of_crocusPulse hp; omega
  have hswept : s.sweptNow.contains c = false := by
    have h2 : (s.holder c == 2) = false := by rw [beq_eq_false_iff_ne]; omega
    simp [State.sweptNow, h2]
  rw [State.coilOn, hpulse, hswept, Bool.or_false, Bool.or_false]

theorem engOn_true {s : State} {n c : Nat} (hn : n < 4) (hc : c < 12) (h : s.feHolds n c = true) (hon : s.rb (Reg.coilDriveStatus c) 0 = true) :
    s.engOn n = true := by
  rw [State.engOn, List.any_eq_true]
  exact ⟨c, List.mem_range.mpr hc, by rw [coilOn_of_held hn h, hon, h]; rfl⟩

theorem engOn_false {s : State} {n : Nat} (hn : n < 4) (h : ∀ c, c < 12 → s.feHolds n c = true → s.rb (Reg.coilDriveStatus c) 0 = false) :
    s.engOn n = false := by
  rw [State.engOn, List.any_eq_false]
  intro c hc
  cases hh : s.feHolds n c with
  | false => simp
  | true => rw [coilOn_of_held hn hh, h c (List.mem_range.mp hc) hh]; decide

/-- Claims of coils are registers of SYS. -/
theorem feHolds_of_reg {s t : State} {n c : Nat} (h : t.reg (Reg.sysResClaim c) = s.reg (Reg.sysResClaim c)) : t.feHolds n c = s.feHolds n c := by
  rw [State.feHolds, State.feHolds, State.holder, State.holder, State.rf, State.rf, h]

/-! ## The registers of a coil's field -/

/-- What a coil that goes on or off changes: registers of the coils' pages, of which DRIVE_STATUS of another coil is none. -/
structure Driven (c : Nat) (s t : State) : Prop where
  pages : ∀ a, a / 0x1000 ≠ Page.coil c → t.reg a = s.reg a
  players : t.players = s.players

theorem Driven.trans {c : Nat} {s t u : State} (h : Driven c s t) (h' : Driven c t u) : Driven c s u :=
  ⟨fun a ha => (h'.pages a ha).trans (h.pages a ha), h'.players.trans h.players⟩

theorem driven_setReg {a c : Nat} (ha : a / 0x1000 = Page.coil c) (w : Word) (s : State) : Driven c s (setReg a w s) :=
  ⟨fun _ hx => setReg_reg_ne (by rintro rfl; exact hx ha) w s, rfl⟩

theorem driven_modCoil (c : Nat) (f : Coil → Coil) (s : State) : Driven c s (modCoil c f s) := ⟨fun _ _ => rfl, rfl⟩

theorem coilMmMeas_page (c : Nat) : Reg.coilMmMeas c / 0x1000 = Page.coil c := by simp only [Reg.coilMmMeas, Page.coil]; omega

theorem driven_mmAbandon (c : Nat) (s : State) : Driven c s (mmAbandon c s) := by
  unfold mmAbandon
  split
  · exact (driven_modCoil c _ s).trans (driven_setReg (coilMmMeas_page c) _ _)
  · exact ⟨fun _ _ => rfl, rfl⟩

theorem mmAbandon_driveStatus (c : Nat) (s : State) : (mmAbandon c s).reg (Reg.coilDriveStatus c) = s.reg (Reg.coilDriveStatus c) := by
  unfold mmAbandon
  split
  · exact setRb_reg_ne (by simp only [Reg.coilDriveStatus, Reg.coilMmMeas]; omega) _ _ _
  · rfl

theorem driven_coilFieldOff (c : Nat) (s : State) : Driven c s (coilFieldOff c s) :=
  ((driven_mmAbandon c s).trans (driven_modCoil c _ _)).trans (driven_setReg (coilDriveStatus_parts c).1 _ _)

theorem driven_coilEntry (c e : Nat) (s : State) : Driven c s (coilEntry c e s) := by
  unfold coilEntry
  dsimp only
  split
  · exact driven_modCoil c _ s
  · exact ((driven_modCoil c _ s).trans (driven_mmAbandon c _)).trans (driven_setReg (coilDriveStatus_parts c).1 _ _)

theorem driven_coilFieldOn (c e : Nat) (s : State) : Driven c s (coilFieldOn c e s) :=
  ((driven_modCoil c _ s).trans (driven_setReg (coilDriveStatus_parts c).1 _ _)).trans (driven_setReg (coilDriveStatus_parts c).1 _ _)

theorem coilFieldOff_on (c : Nat) (s : State) : (coilFieldOff c s).rb (Reg.coilDriveStatus c) 0 = false := setRb_rb_eq (by decide) _ _ _

theorem coilFieldOn_on (c e : Nat) (s : State) : (coilFieldOn c e s).rb (Reg.coilDriveStatus c) 0 = true := setRb_rb_eq (by decide) _ _ _

theorem coilEntry_on (c e : Nat) (s : State) : (coilEntry c e s).rb (Reg.coilDriveStatus c) 0 = s.rb (Reg.coilDriveStatus c) 0 := by
  unfold coilEntry
  dsimp only
  split
  · rfl
  · rw [setRf_rb_ne (by decide) (by decide), State.rb, mmAbandon_driveStatus]
    rfl

/-- A coil's registers are beside every other coil's. -/
theorem driveStatus_of_driven {c d : Nat} {s t : State} (h : Driven c s t) (hd : d ≠ c) :
    t.rb (Reg.coilDriveStatus d) 0 = s.rb (Reg.coilDriveStatus d) 0 :=
  rb_of_reg_eq (h.pages _ (by rw [(coilDriveStatus_parts d).1]; simp only [Page.coil]; omega)) 0

/-! ## The field of an engine goes off -/

/-- The coils of a list go off one after another. -/
def coilsOff (l : List Nat) (s : State) : State := forEach l (fun c v => if v.coilOn c then coilFieldOff c v else v) s

theorem engineOff_eq (n : Nat) (l : List Nat) (s : State) :
    engineOff n l s = govern (fieldFollow n (sif (!(coilsOff l s).engOn n) (guardClear n) (coilsOff l s))) := rfl

/-- What remains when the coils of `l` are off: registers of other pages, and every coil of `l` that an engine holds is off. -/
structure Off (l : List Nat) (s t : State) : Prop where
  pages : ∀ a, (∀ c, c < 12 → a / 0x1000 ≠ Page.coil c) → t.reg a = s.reg a
  off : ∀ c ∈ l, t.rb (Reg.coilDriveStatus c) 0 = false
  stay : ∀ c, s.rb (Reg.coilDriveStatus c) 0 = false → t.rb (Reg.coilDriveStatus c) 0 = false

theorem coilsOff_off {l : List Nat} (hl : ∀ c ∈ l, c < 12) (s : State) : Off l s (coilsOff l s) := by
  induction l generalizing s with
  | nil => exact ⟨fun _ _ => rfl, by simp, fun _ h => h⟩
  | cons c l ih =>
    have hdriven : Driven c s (if s.coilOn c then coilFieldOff c s else s) := by
      split
      · exact driven_coilFieldOff c s
      · exact ⟨fun _ _ => rfl, rfl⟩
    have hc : (if s.coilOn c then coilFieldOff c s else s).rb (Reg.coilDriveStatus c) 0 = false := by
      split
      · exact coilFieldOff_on c s
      · rename_i hoff
        simp only [State.coilOn, Bool.or_eq_true, not_or, Bool.not_eq_true] at hoff
        exact hoff.1.1
    obtain ⟨hpages, hoff, hstay⟩ := ih (fun d hd => hl d (List.mem_cons_of_mem c hd)) (if s.coilOn c then coilFieldOff c s else s)
    refine ⟨fun a ha => (hpages a ha).trans (hdriven.pages a (ha c (hl c List.mem_cons_self))), fun d hd => ?_, fun d hd => hstay d ?_⟩
    · rcases List.mem_cons.mp hd with rfl | hd
      · exact hstay d hc
      · exact hoff d hd
    · by_cases h : d = c
      · exact h ▸ hc
      · exact (driveStatus_of_driven hdriven h).trans hd

theorem feFieldStatus_parts (n : Nat) : Reg.feFieldStatus n / 0x1000 = Page.fe n ∧ Reg.feFieldStatus n % 0x1000 = 0x50 := by
  simp only [Reg.feFieldStatus, Page.fe]
  omega

theorem plainReg_of_fe {a n : Nat} (hn : n < 4) (h : a / 0x1000 = Page.fe n) : edgeReg a = false ∧ driveReg a = false := by
  have hlt : ¬ 0x10 ≤ Page.fe n ∧ Page.fe n ≠ Page.dbg ∧ Page.fe n ≠ Page.fwgt := by simp only [Page.fe, Page.dbg, Page.fwgt]; omega
  obtain ⟨h10, hdbg, hfwgt⟩ := hlt
  simp [edgeReg, driveReg, h, h10, hdbg, hfwgt]

theorem plainReg_of_sys {a : Nat} (h : a / 0x1000 = Page.sys) : edgeReg a = false ∧ driveReg a = false := by
  simp [edgeReg, driveReg, h, Page.sys, Page.dbg, Page.fwgt]

theorem feFieldStatus_ne_coil {n c : Nat} (hn : n < 4) : Reg.feFieldStatus n / 0x1000 ≠ Page.coil c := by
  rw [(feFieldStatus_parts n).1]
  simp only [Page.fe, Page.coil]
  omega

/-- The field of FE`n` goes off with every coil that it holds. -/
theorem engineOff_off {n : Nat} (hn : n < 4) {l : List Nat} {s : State} (hl : ∀ c ∈ l, c < 12)
    (hall : ∀ c, c < 12 → s.feHolds n c = true → c ∈ l) :
    (∀ c, c < 12 → s.feHolds n c = true → (engineOff n l s).coilOn c = false) ∧ (engineOff n l s).rb (Reg.feFieldStatus n) 30 = false := by
  obtain ⟨hpages, hoff, -⟩ := coilsOff_off hl s
  have hcleared : ∀ b a, a / 0x1000 ≠ Page.fe n → (sif b (guardClear n) (coilsOff l s)).reg a = (coilsOff l s).reg a := fun b a ha => by
    cases b
    · rfl
    · exact setRb_reg_ne (by rintro rfl; exact ha (feFieldStatus_parts n).1) _ _ _
  have hsys : ∀ a, a / 0x1000 = Page.sys → ∀ c, c < 12 → a / 0x1000 ≠ Page.coil c := fun a ha c _ => by rw [ha]; simp only [Page.sys, Page.coil]; omega
  have hholds : ∀ b c, c < 12 → (sif b (guardClear n) (coilsOff l s)).feHolds n c = s.feHolds n c := fun b c hc => by
    have hp := sysResClaim_page (i := c) (by omega)
    exact feHolds_of_reg ((hcleared b _ (by rw [hp]; simp only [Page.sys, Page.fe]; omega)).trans (hpages _ (hsys _ hp)))
  have hdark : ∀ b c, c < 12 → s.feHolds n c = true → (sif b (guardClear n) (coilsOff l s)).rb (Reg.coilDriveStatus c) 0 = false :=
    fun b c hc hh => by
      refine (rb_of_reg_eq (hcleared b _ ?_) 0).trans (hoff c (hall c hc hh))
      rw [(coilDriveStatus_parts c).1]
      simp only [Page.coil, Page.fe]
      omega
  have hengOn : ∀ b, (sif b (guardClear n) (coilsOff l s)).engOn n = false := fun b =>
    engOn_false hn fun c hc hh => hdark b c hc (by rwa [hholds b c hc] at hh)
  have hkept := timeKept_govern (fieldFollow n (sif (!(coilsOff l s).engOn n) (guardClear n) (coilsOff l s)))
  rw [engineOff_eq]
  refine ⟨fun c hc hh => ?_, ?_⟩
  · have hp := sysResClaim_page (i := c) (by omega)
    have hstill : (govern (fieldFollow n (sif (!(coilsOff l s).engOn n) (guardClear n) (coilsOff l s)))).feHolds n c = true := by
      rw [feHolds_of_reg (hkept.reg _ (plainReg_of_sys hp).1 (plainReg_of_sys hp).2), fieldFollow,
        feHolds_of_reg (setRb_reg_ne (fun h => by rw [h, (feFieldStatus_parts n).1] at hp; simp [Page.fe, Page.sys] at hp) _ _ _), hholds _ c hc, hh]
    rw [coilOn_of_held hn hstill, hkept.drive c hc 0 (by decide) (by decide)]
    refine (rb_of_reg_eq (setRb_reg_ne ?_ _ _ _) 0).trans (hdark _ c hc hh)
    intro h
    have := feFieldStatus_ne_coil (n := n) (c := c) hn
    rw [← h, (coilDriveStatus_parts c).1] at this
    exact this rfl
  · obtain ⟨he, hd⟩ := plainReg_of_fe hn (feFieldStatus_parts n).1
    rw [rb_of_reg_eq (hkept.reg _ he hd), fieldFollow, setRb_rb_eq (by decide), hengOn]

/-! ## The field of an engine comes on -/

/-- A coil that FE`n` holds comes on, or stays on with another entry. -/
def coilDriven (n t e c : Nat) (s : State) : State :=
  if s.coilOn c then coilEntry c e s else publish (0x93 + 4 * c) t (coilFieldOn c e s)

theorem engineOn_single (n t e c : Nat) (s : State) :
    engineOn n t e [c] s = govern (fieldFollow n (sif (decide ([c].filter (fun c => !s.coilOn c) ≠ [])) (guardCount n t) (coilDriven n t e c s))) := rfl

theorem coilDriven_driven (n t e c : Nat) (s : State) : Driven c s (coilDriven n t e c s) := by
  unfold coilDriven
  split
  · exact driven_coilEntry c e s
  · exact (driven_coilFieldOn c e s).trans ⟨fun _ _ => rfl, rfl⟩

theorem coilDriven_on {n c : Nat} (hn : n < 4) (t e : Nat) {s : State} (h : s.feHolds n c = true) :
    (coilDriven n t e c s).rb (Reg.coilDriveStatus c) 0 = true := by
  unfold coilDriven
  split
  · rename_i hon
    rw [coilEntry_on, ← coilOn_of_held hn h, hon]
  · exact coilFieldOn_on c e s

theorem engineOn_on {n c : Nat} (hn : n < 4) (hc : c < 12) (t e : Nat) {s : State} (h : s.feHolds n c = true) :
    (engineOn n t e [c] s).coilOn c = true ∧ (engineOn n t e [c] s).rb (Reg.feFieldStatus n) 30 = true ∧
      (engineOn n t e [c] s).players = s.players := by
  obtain ⟨hpages, hplayers⟩ := coilDriven_driven n t e c s
  rw [engineOn_single]
  generalize decide ([c].filter (fun c => !s.coilOn c) ≠ []) = b
  have hcounted : ∀ a, a / 0x1000 ≠ Page.fe n → (sif b (guardCount n t) (coilDriven n t e c s)).reg a = (coilDriven n t e c s).reg a :=
    fun a ha => by
      cases b
      · rfl
      · exact setRb_reg_ne (by rintro rfl; exact ha (feFieldStatus_parts n).1) _ _ _
  have hplayers' : (sif b (guardCount n t) (coilDriven n t e c s)).players = s.players := by cases b <;> exact hplayers
  generalize hu : sif b (guardCount n t) (coilDriven n t e c s) = u at hcounted hplayers'
  have hp := sysResClaim_page (i := c) (by omega)
  have hfe : Page.sys ≠ Page.fe n ∧ Page.sys ≠ Page.coil c ∧ Page.coil c ≠ Page.fe n := by simp only [Page.sys, Page.fe, Page.coil]; omega
  have hholds : u.feHolds n c = true := by
    rw [feHolds_of_reg ((hcounted _ (hp ▸ hfe.1)).trans (hpages _ (hp ▸ hfe.2.1))), h]
  have hon : u.rb (Reg.coilDriveStatus c) 0 = true :=
    (rb_of_reg_eq (hcounted _ ((coilDriveStatus_parts c).1 ▸ hfe.2.2)) 0).trans (coilDriven_on hn t e h)
  have hkept := timeKept_govern (fieldFollow n u)
  have hshown : ∀ a, a / 0x1000 ≠ Page.fe n → (fieldFollow n u).reg a = u.reg a := fun a ha =>
    setRb_reg_ne (by rintro rfl; exact ha (feFieldStatus_parts n).1) _ _ _
  have hstill : (govern (fieldFollow n u)).feHolds n c = true := by
    rw [feHolds_of_reg ((hkept.reg _ (plainReg_of_sys hp).1 (plainReg_of_sys hp).2).trans (hshown _ (hp ▸ hfe.1))), hholds]
  obtain ⟨he, hd⟩ := plainReg_of_fe hn (feFieldStatus_parts n).1
  refine ⟨?_, ?_, ?_⟩
  · rw [coilOn_of_held hn hstill, hkept.drive c hc 0 (by decide) (by decide), rb_of_reg_eq (hshown _ ((coilDriveStatus_parts c).1 ▸ hfe.2.2)), hon]
  · rw [rb_of_reg_eq (hkept.reg _ he hd), fieldFollow, setRb_rb_eq (by decide), engOn_true hn hc hholds hon]
  · rw [field_of_timeOnly State.players (timeOnly_govern _) fun _ _ _ _ _ _ _ => rfl]
    exact hplayers'

/-! ## The FIELD steps -/

theorem sif_false (f : State → State) (s : State) : sif false f s = s := rfl

theorem feHolds_of_ready {n m c : Nat} {i : Issued} {s u : State} (h : Ready n i s u) (hn : n < 4) (hc : c < 12) : u.feHolds m c = s.feHolds m c := by
  have hp := sysResClaim_page (i := c) (by omega)
  refine feHolds_of_reg (h.pages _ ?_)
  rw [hp, List.mem_cons, not_or]
  exact ⟨by simp only [Page.sys, Page.fe]; omega, by decide⟩

/-- FIELD with the field on, of one coil that the engine holds and may drive. -/
theorem fieldAct_on {n c : Nat} (t : Nat) {i : Issued} {s : State} (hc : c < 12) (hop : i.operand = 2 ^ 24 + 2 ^ c) (hheld : s.feHolds n c = true)
    (hbar : s.driveBar = none) (hdamped : (s.coil c).damped = false) (hinj : (s.coil c).injected = false) (hcommit : s.commit = none) :
    fieldAct n t i s = engineOn n t 0 [c] s := by
  have hbits : ∀ d : Fin 12, (2 ^ 24 + 2 ^ d.val).testBit 24 = true ∧ (2 ^ 24 + 2 ^ d.val) / 2 ^ 16 % 64 = 0 ∧
      (2 ^ 24 + 2 ^ d.val) % 4096 ≠ 0 ∧ bitsOf 12 (2 ^ 24 + 2 ^ d.val) = [d.val] := by decide
  obtain ⟨h24, hentry, hne, hone⟩ := hbits ⟨c, hc⟩
  simp only at h24 hentry hne hone
  have hleaving : s.leaving n c = false := by rw [State.leaving, hcommit]
  simp only [fieldAct, hop, h24, hentry, if_neg hne, hone, List.filter_cons, List.filter_nil, List.any_cons, List.any_nil, hheld, hdamped, hinj, hbar,
    hleaving, Bool.and_false, Bool.not_false, Bool.not_true, Bool.and_self, Bool.or_false, Bool.or_true, if_true, sif_false, ne_eq,
    not_true_eq_false, decide_false, Bool.false_eq_true, if_false]

/-- FIELD with the field off, of every coil that the engine holds. -/
theorem fieldAct_off {n : Nat} (t : Nat) {i : Issued} {s : State} (hop : i.operand = 0) :
    fieldAct n t i s = engineOff n (s.heldCoils n) s := by
  have hall : (s.heldCoils n).any (fun c => !s.feHolds n c) = false := by
    rw [List.any_eq_false]
    exact fun c hc => by rw [(List.mem_filter.mp hc).2]; decide
  have hkeep : (s.heldCoils n).filter (fun c => s.feHolds n c) = s.heldCoils n := List.filter_eq_self.mpr fun c hc => (List.mem_filter.mp hc).2
  simp only [fieldAct, hop, Nat.zero_testBit, Nat.zero_mod, if_true, Bool.false_eq_true, if_false, Bool.false_and, Bool.not_false, Bool.and_true,
    hall, hkeep, sif_false]

/-! ## The BANK steps -/

theorem exec_bankStep {n : EngIx} {i : Issued} {s : State} (hi : s.nextStep n = some i) (hop : i.op = 2)
    (hq : s.quiesced (Page.fe n) = false) (hw : s.quiesced Page.fwgt = false) :
    exec (.bankStep n) s = .next (bankRequest n (i.operand % 2) (ccAt i.act) (stepRefused n i.slot Err.swapRejected i.index)
      (stepReady n (ccAt i.act) i s)) := by
  obtain ⟨-, hen⟩ := quiesced_false hq
  obtain ⟨-, hwen⟩ := quiesced_false hw
  have hkept : ∀ a, (stepTaken n i s).rb a 0 = s.rb a 0 := fun _ => rfl
  change Host.Outcome.next _ = _
  rw [takeStep_of_next hi hop hq]
  exact congrArg _ (if_neg (by rw [hkept, hkept, hen, hwen]; decide))

theorem fwgtFeBank_plain (n : Nat) (hn : n < 4) : edgeReg (Reg.fwgtFeBank n) = false ∧ driveReg (Reg.fwgtFeBank n) = false := by
  have hp : Reg.fwgtFeBank n / 0x1000 = Page.fwgt ∧ 0x100 ≤ Reg.fwgtFeBank n % 0x1000 := by simp only [Reg.fwgtFeBank, Page.fwgt]; omega
  have hout : govOffsets.contains (Reg.fwgtFeBank n % 0x1000) = false := by
    have hlt : ∀ o ∈ govOffsets, o < 0x100 := by decide
    simp only [List.contains_eq_mem, decide_eq_false_iff_not]
    exact fun h => by have := hlt _ h; omega
  refine ⟨?_, by rw [driveReg, hp.1]; rfl⟩
  rw [edgeReg, hout, hp.1, Bool.and_false]
  rfl

/-- The state in which the other bank has been asked for, before its fade starts. -/
theorem setSel_bank (n b : Nat) (s : State) :
    (setSel n b s).rf (Reg.fwgtFeBank n) 0 0 = b % 2 ∧ (setSel n b s).rf (Reg.fwgtFeBank n) 26 16 = s.rf (Reg.fwgtFeBank n) 26 16 ∧
      (setSel n b s).rf (Reg.fwgtFeBank n) 2 2 = s.rf (Reg.fwgtFeBank n) 2 2 ∧ (∀ a, a ≠ Reg.fwgtFeBank n → (setSel n b s).reg a = s.reg a) :=
  ⟨setRf_rf_eq (by decide) _ _ _ s, setRf_rf_ne (by decide) (by decide) _ _ s, setRf_rf_ne (by decide) (by decide) _ _ s,
    fun _ ha => setRf_reg_ne ha _ _ _ s⟩

/-- A fade of an engine's banks has started. -/
def fadeStarted (n t len : Nat) (s : State) : State := bankBits n (modEng n (fun e => { e with fade := some (t, len) }) s)

theorem bankBits_rf {n hi lo : Nat} (h32 : hi < 32) (h : hi < 3 ∨ 4 < lo) (s : State) :
    (bankBits n s).rf (Reg.fwgtFeBank n) hi lo = s.rf (Reg.fwgtFeBank n) hi lo := by
  rw [bankBits, setRb_rf_ne h32 (by omega), setRb_rf_ne h32 (by omega)]

/-- A request for the other bank while nothing fades and nothing waits starts a fade. -/
theorem bankRequest_starts {n b : Nat} {s : State} (t : Nat) (no : State → State) (hfade : (s.eng n).fade = none) (hswap : (s.eng n).swapTo = none)
    (hq : s.quiesced Page.fwgt = false) (hb : b ≠ s.bankInUse n) (hlen : 0 < s.rf (Reg.fwgtFeBank n) 26 16) :
    bankRequest n b t no s = govern (fadeStarted n t (min 1024 (s.rf (Reg.fwgtFeBank n) 26 16)) (setSel n b s)) := by
  obtain ⟨-, hlen', -, -⟩ := setSel_bank n b s
  rw [bankRequest, hswap, if_neg (by decide), bankAccept, if_neg (by simp [hb]), if_neg (by simp [hfade, hq]), swapStart, hlen']
  exact if_neg (by omega)

theorem govern_fade {n : Nat} {s : State} {f : Option (Nat × Nat)} (h : (s.eng n).fade = f) : ((govern s).eng n).fade = f :=
  (congrArg Eng.fade ((timeKept_govern s).eng n)).trans h

theorem fadeStarted_fade (n t len : Nat) (s : State) : ((fadeStarted n t len s).eng n).fade = some (t, len) :=
  congrArg Eng.fade (setEng_eng_eq n _ s)

theorem fadeStarted_sel {n b : Nat} (hn : n < 4) (t len : Nat) (s : State) :
    (govern (fadeStarted n t len (setSel n b s))).rf (Reg.fwgtFeBank n) 0 0 = b % 2 := by
  obtain ⟨he, hd⟩ := fwgtFeBank_plain n hn
  rw [State.rf, (timeKept_govern _).reg _ he hd, ← State.rf, fadeStarted, bankBits_rf (by decide) (by decide)]
  exact (setSel_bank n b s).1

/-! ## The obligation -/

theorem quiesced_of_ready {n : Nat} {i : Issued} {s u : State} (h : Ready n i s u) : u.quiesced Page.fwgt = s.quiesced Page.fwgt := by
  rw [State.quiesced, State.quiesced, rb_of_reg_eq (h.fwgt _ (status_page _) (by decide)), rb_of_reg_eq (h.fwgt _ (ctrl_page _) (by decide))]

/-- Settles O34: FIELD drives or stops the coils that the engine holds, and BANK starts a fade, on the state to whose tick time has passed. -/
theorem fieldStepsComplete : Obligations.FieldStepsComplete := by
  unfold Obligations.FieldStepsComplete
  refine ⟨fun s n c i hi hop hq hoperand hheld hbar hdamped hinj hcommit => ?_, fun s n i hi hop hq hoperand => ?_,
    fun s n i hi hop hq hw hfade hswap hb hlen => ?_⟩
  · have hready := ready_stepReady n.isLt (ccAt i.act) i s
    have hcoil := hready.coil c
    have hbar' : (stepReady n (ccAt i.act) i s).driveBar = none := by
      have hprot : Reg.sensProt / 0x1000 ∉ Page.fe n :: timePages := by
        rw [List.mem_cons, not_or]
        exact ⟨by simp only [Page.fe, Reg.sensProt]; have := n.isLt; omega, by decide⟩
      rw [State.driveBar, rb_of_reg_eq (hready.pages _ hprot), State.vfldOk, hready.boot]
      exact hbar
    have hact := fieldAct_on (ccAt i.act) c.isLt hoperand ((feHolds_of_ready hready n.isLt c.isLt).trans hheld) hbar'
      ((congrArg Coil.damped hcoil).trans hdamped) ((congrArg Coil.injected hcoil).trans hinj) (hready.commit.trans hcommit)
    obtain ⟨hon, hshown, hplayers⟩ := engineOn_on n.isLt c.isLt (ccAt i.act) 0 ((feHolds_of_ready hready n.isLt c.isLt).trans hheld)
    refine ⟨_, exec_fieldStep hi hop hq, ?_⟩
    rw [hact]
    exact ⟨hon, hshown, by rw [State.player, hplayers]; exact hready.flight⟩
  · have hready := ready_stepReady n.isLt (ccAt i.act) i s
    obtain ⟨hoff, hshown⟩ := engineOff_off (s := stepReady n (ccAt i.act) i s) n.isLt (l := (stepReady n (ccAt i.act) i s).heldCoils n)
      (fun c hc => List.mem_range.mp (List.mem_filter.mp hc).1) (fun c hc hh => List.mem_filter.mpr ⟨List.mem_range.mpr hc, hh⟩)
    refine ⟨_, exec_fieldStep hi hop hq, ?_⟩
    rw [fieldAct_off (ccAt i.act) hoperand]
    refine ⟨List.all_eq_true.mpr fun c hc => ?_, hshown⟩
    obtain ⟨hlt, hheld⟩ := List.mem_filter.mp hc
    have hlt := List.mem_range.mp hlt
    rw [hoff c hlt ((feHolds_of_ready hready n.isLt hlt).trans hheld)]
    rfl
  · have hready := ready_stepReady n.isLt (ccAt i.act) i s
    have heng := hready.eng n
    obtain ⟨he, hd⟩ := fwgtFeBank_plain n n.isLt
    have hbank : ∀ hi lo, (stepReady n (ccAt i.act) i s).rf (Reg.fwgtFeBank n) hi lo = s.rf (Reg.fwgtFeBank n) hi lo := fun hi lo => by
      rw [State.rf, hready.fwgt _ (by have := n.isLt; simp only [Reg.fwgtFeBank, Page.fwgt]; omega) he, State.rf]
    refine ⟨_, exec_bankStep hi hop hq hw, ?_⟩
    rw [bankRequest_starts _ _ ((congrArg Eng.fade heng).trans hfade) ((congrArg Eng.swapTo heng).trans hswap)
      ((quiesced_of_ready hready).trans hw) (by rw [State.bankInUse, hbank]; exact hb) (by rw [hbank]; exact hlen), hbank]
    exact ⟨govern_fade (fadeStarted_fade _ _ _ _), (fadeStarted_sel n.isLt _ _ _).trans (by omega)⟩

end Sys2Proof.Proofs
end

section
/-! PROOFS. What passes time, moves the pins and runs the cells does not look at the players. -/

namespace Sys2Proof.Proofs
open Sys2Proof Sys2Proof.Machine Sys2Proof.Laws

/-- The state with other players. -/
def withPlayers (P : Tab Player) (s : State) : State := { s with players := P }

section
variable (P : Tab Player) (s : State)

/-! ## Reads -/

@[simp] theorem withPlayers_time : (withPlayers P s).time = s.time := by cases s; rfl
@[simp] theorem withPlayers_gov : (withPlayers P s).gov = s.gov := by cases s; rfl
@[simp] theorem withPlayers_fab : (withPlayers P s).fab = s.fab := by cases s; rfl
@[simp] theorem withPlayers_crocus : (withPlayers P s).crocus = s.crocus := by cases s; rfl
@[simp] theorem withPlayers_now : (withPlayers P s).now = s.now := by cases s; rfl
@[simp] theorem withPlayers_driven : (withPlayers P s).driven = s.driven := by cases s; rfl
@[simp] theorem withPlayers_govG : (withPlayers P s).govG = s.govG := by cases s; rfl
@[simp] theorem withPlayers_overCap : (withPlayers P s).overCap = s.overCap := by cases s; rfl
@[simp] theorem withPlayers_govWanted : (withPlayers P s).govWanted = s.govWanted := by cases s; rfl
@[simp] theorem withPlayers_totalP : (withPlayers P s).totalP = s.totalP := by cases s; rfl
@[simp] theorem withPlayers_changing : (withPlayers P s).changing = s.changing := by cases s; rfl
@[simp] theorem withPlayers_gated : (withPlayers P s).gated = s.gated := by cases s; rfl
@[simp] theorem withPlayers_firstDue : (withPlayers P s).firstDue = s.firstDue := by cases s; rfl
@[simp] theorem withPlayers_reg (a : Nat) : (withPlayers P s).reg a = s.reg a := by cases s; rfl
@[simp] theorem withPlayers_rf (a hi lo : Nat) : (withPlayers P s).rf a hi lo = s.rf a hi lo := by cases s; rfl
@[simp] theorem withPlayers_rb (a k : Nat) : (withPlayers P s).rb a k = s.rb a k := by cases s; rfl
@[simp] theorem withPlayers_coil (c : Nat) : (withPlayers P s).coil c = s.coil c := by cases s; rfl
@[simp] theorem withPlayers_eng (n : Nat) : (withPlayers P s).eng n = s.eng n := by cases s; rfl
@[simp] theorem withPlayers_detail (d : Nat) : (withPlayers P s).detail d = s.detail d := by cases s; rfl
@[simp] theorem withPlayers_firstIs (c p : Nat) : (withPlayers P s).firstIs c p = s.firstIs c p := by cases s; rfl
@[simp] theorem withPlayers_granted (g : Nat) : (withPlayers P s).granted g = s.granted g := by cases s; rfl
@[simp] theorem withPlayers_coilOn (c : Nat) : (withPlayers P s).coilOn c = s.coilOn c := by cases s; rfl
@[simp] theorem withPlayers_noHead (c : Nat) : (withPlayers P s).noHead c = s.noHead c := by cases s; rfl
@[simp] theorem withPlayers_onAir (n : Nat) : (withPlayers P s).onAir n = s.onAir n := by cases s; rfl
@[simp] theorem withPlayers_boundaries (t : Nat) : (withPlayers P s).boundaries t = s.boundaries t := by cases s; rfl
@[simp] theorem withPlayers_profile (n p : Nat) : (withPlayers P s).profile n p = s.profile n p := by cases s; rfl
@[simp] theorem withPlayers_profileInUse (n : Nat) : (withPlayers P s).profileInUse n = s.profileInUse n := by cases s; rfl
@[simp] theorem withPlayers_quiesced (p : Nat) : (withPlayers P s).quiesced p = s.quiesced p := by cases s; rfl
@[simp] theorem withPlayers_filterDue (c : Nat) : (withPlayers P s).filterDue c = s.filterDue c := by cases s; rfl
@[simp] theorem withPlayers_pinDue (n : Nat) : (withPlayers P s).pinDue n = s.pinDue n := by cases s; rfl
@[simp] theorem withPlayers_cellOut (b : Bool) (e c : Nat) : (withPlayers P s).cellOut b e c = s.cellOut b e c := by cases s; rfl

/-! ## Single changes -/

@[simp] theorem setReg_withPlayers (a : Nat) (w : Word) : setReg a w (withPlayers P s) = withPlayers P (setReg a w s) := by cases s; rfl
@[simp] theorem setRf_withPlayers (a hi lo v : Nat) : setRf a hi lo v (withPlayers P s) = withPlayers P (setRf a hi lo v s) := by cases s; rfl
@[simp] theorem setRb_withPlayers (a k : Nat) (b : Bool) : setRb a k b (withPlayers P s) = withPlayers P (setRb a k b s) := by cases s; rfl
@[simp] theorem addRf_withPlayers (a hi lo n : Nat) : addRf a hi lo n (withPlayers P s) = withPlayers P (addRf a hi lo n s) := by cases s; rfl
@[simp] theorem setPair_withPlayers (a v : Nat) : setPair a v (withPlayers P s) = withPlayers P (setPair a v s) := by cases s; rfl
@[simp] theorem modCoil_withPlayers (n : Nat) (f : Coil → Coil) : modCoil n f (withPlayers P s) = withPlayers P (modCoil n f s) := by cases s; rfl
@[simp] theorem modEng_withPlayers (n : Nat) (f : Eng → Eng) : modEng n f (withPlayers P s) = withPlayers P (modEng n f s) := by cases s; rfl
@[simp] theorem modFab_withPlayers (f : FabricSt → FabricSt) : modFab f (withPlayers P s) = withPlayers P (modFab f s) := by cases s; rfl
@[simp] theorem modTime_withPlayers (f : TimeSt → TimeSt) : modTime f (withPlayers P s) = withPlayers P (modTime f s) := by cases s; rfl
@[simp] theorem nextFree_withPlayers : nextFree (withPlayers P s) = withPlayers P (nextFree s) := by cases s; rfl
@[simp] theorem advance_withPlayers (t : Nat) : advance t (withPlayers P s) = withPlayers P (advance t s) := by cases s; rfl
@[simp] theorem publish_withPlayers (p t : Nat) : publish p t (withPlayers P s) = withPlayers P (publish p t s) := by cases s; rfl
@[simp] theorem cellMark_withPlayers (c e : Nat) : cellMark c e (withPlayers P s) = withPlayers P (cellMark c e s) := by cases s; rfl
@[simp] theorem setSince_withPlayers (c : Nat) (e : Option Nat) : setSince c e (withPlayers P s) = withPlayers P (setSince c e s) := by cases s; rfl
@[simp] theorem cellUnmark_withPlayers (c e : Nat) : cellUnmark c e (withPlayers P s) = withPlayers P (cellUnmark c e s) := by cases s; rfl

/-! ## Choices and runs -/

/-- A choice that does not look at the players. -/
theorem withPlayers_if {c d : Prop} [Decidable c] [Decidable d] {t u t' u' : State} (hcd : c ↔ d) (ht : t' = withPlayers P t)
    (hu : u' = withPlayers P u) : (if c then t' else u') = withPlayers P (if d then t else u) := by
  rw [ht, hu, if_congr hcd rfl rfl]
  exact (apply_ite (withPlayers P) d t u).symm

theorem withPlayers_sif {f : State → State} (hf : ∀ s, f (withPlayers P s) = withPlayers P (f s)) (c : Bool) :
    sif c f (withPlayers P s) = withPlayers P (sif c f s) := by
  cases c
  · rfl
  · exact hf s

theorem withPlayers_forEach {f : Nat → State → State} (hf : ∀ k s, f k (withPlayers P s) = withPlayers P (f k s)) (l : List Nat) :
    forEach l f (withPlayers P s) = withPlayers P (forEach l f s) := by
  induction l generalizing s with
  | nil => rfl
  | cons k l ih => exact (congrArg (forEach l f) (hf k s)).trans (ih _)

/-! ## Records and the governor -/

@[simp] theorem irq_withPlayers (p k : Nat) : irq p k (withPlayers P s) = withPlayers P (irq p k s) :=
  withPlayers_if P Iff.rfl (by simp only [setRb_withPlayers]) (by simp only [setRb_withPlayers])

@[simp] theorem irqLevel_withPlayers (p k : Nat) (b : Bool) : irqLevel p k b (withPlayers P s) = withPlayers P (irqLevel p k b s) :=
  withPlayers_if P Iff.rfl (by simp only [setRb_withPlayers]) (by simp only [setRb_withPlayers])

@[simp] theorem detailUsed_withPlayers (d : Nat) : detailUsed d (withPlayers P s) = withPlayers P (detailUsed d s) :=
  withPlayers_if P Iff.rfl (nextFree_withPlayers P s) rfl

@[simp] theorem faultOpt_withPlayers (cls : Option Nat) (p code : Nat) :
    faultOpt cls p code (withPlayers P s) = withPlayers P (faultOpt cls p code s) := by
  cases cls with
  | none => rfl
  | some c =>
    have hsummed : ∀ b u, sif b (fun t => irq Page.dbg 0 (setRb Reg.dbgFaultSum c true t)) (withPlayers P u) =
        withPlayers P (sif b (fun t => irq Page.dbg 0 (setRb Reg.dbgFaultSum c true t)) u) :=
      fun b u => withPlayers_sif P u (fun t => by simp only [setRb_withPlayers, irq_withPlayers]) b
    simp only [faultOpt, fault, faultIn, withPlayers_rb, withPlayers_firstIs, if_true, hsummed]
    exact withPlayers_sif P _ (fun t => by simp only [withPlayers_now, setReg_withPlayers, setPair_withPlayers]) _

@[simp] theorem noteFirst_withPlayers (p code info extra : Nat) :
    noteFirst p code info extra (withPlayers P s) = withPlayers P (noteFirst p code info extra s) := by
  simp only [noteFirst, detailUsed_withPlayers, withPlayers_detail, setReg_withPlayers]

@[simp] theorem recErr_withPlayers (p code info extra : Nat) :
    recErr p code info extra (withPlayers P s) = withPlayers P (recErr p code info extra s) := by
  have hnoted : errNoted p code info extra (withPlayers P s) = withPlayers P (errNoted p code info extra s) :=
    withPlayers_if P Iff.rfl (noteFirst_withPlayers P s p code info extra) (addRf_withPlayers P s _ _ _ _)
  rw [recErr_eq, recErr_eq, hnoted, irq_withPlayers, faultOpt_withPlayers]

@[simp] theorem limitEnd_withPlayers : limitEnd (withPlayers P s) = withPlayers P (limitEnd s) :=
  withPlayers_sif P s (fun t => by simp only [irqLevel_withPlayers, withPlayers_reg, setReg_withPlayers]) _

@[simp] theorem govSet_withPlayers (g : Nat) : govSet g (withPlayers P s) = withPlayers P (govSet g s) :=
  withPlayers_if P Iff.rfl rfl (withPlayers_if P Iff.rfl rfl rfl)

@[simp] theorem govShow_withPlayers (g : Nat) : govShow g (withPlayers P s) = withPlayers P (govShow g s) := by
  simp only [govShow, withPlayers_totalP, setReg_withPlayers, withPlayers_granted, setRf_withPlayers, irqLevel_withPlayers]

@[simp] theorem govReport_withPlayers (old g : Nat) (l : List Nat) : govReport old g l (withPlayers P s) = withPlayers P (govReport old g l s) := by
  refine withPlayers_if P Iff.rfl ?_ rfl
  simp only [addRf_withPlayers, withPlayers_sif P _ (fun t => addRf_withPlayers P t _ _ _ _), irq_withPlayers, withPlayers_driven,
    withPlayers_granted, recErr_withPlayers]

@[simp] theorem floorMark_withPlayers (g : Nat) : floorMark g (withPlayers P s) = withPlayers P (floorMark g s) :=
  withPlayers_if P Iff.rfl (withPlayers_forEach P s (f := fun n t => if t.onAir n then modEng n _ t else t)
    (fun n t => withPlayers_if P Iff.rfl (modEng_withPlayers P t n _) rfl) _) rfl

@[simp] theorem headFollow_withPlayers (c : Nat) : headFollow c (withPlayers P s) = withPlayers P (headFollow c s) := by
  simp only [headFollow, withPlayers_noHead, setRb_withPlayers, irqLevel_withPlayers]

theorem govNoted_withPlayers (x : GovSt) (r : State) :
    { withPlayers P r with gov := x } = withPlayers P { r with gov := x } := by cases r; rfl

@[simp] theorem govern_withPlayers : govern (withPlayers P s) = withPlayers P (govern s) := by
  refine withPlayers_if P Iff.rfl rfl ?_
  have hcapped : ∀ (l : List Nat) u, forEach (List.range 12) (fun c => modCoil c (fun x => { x with capped := l.contains c })) (withPlayers P u) =
      withPlayers P (forEach (List.range 12) (fun c => modCoil c (fun x => { x with capped := l.contains c })) u) :=
    fun l u => withPlayers_forEach P u (fun c v => modCoil_withPlayers P v c _) _
  simp only [limitEnd_withPlayers, withPlayers_overCap, withPlayers_coil, withPlayers_govWanted, hcapped, govSet_withPlayers, withPlayers_changing,
    withPlayers_totalP, withPlayers_now, withPlayers_gov, govNoted_withPlayers, withPlayers_govG, govShow_withPlayers, govReport_withPlayers,
    floorMark_withPlayers, withPlayers_coilOn, withPlayers_rb]
  exact withPlayers_forEach P _ (fun c t => headFollow_withPlayers P t c) _

@[simp] theorem governAt_withPlayers (b : Nat) : governAt b (withPlayers P s) = withPlayers P (governAt b s) := by
  simp only [governAt, withPlayers_now, modTime_withPlayers, govern_withPlayers]

@[simp] theorem passGov_withPlayers (t : Nat) : passGov t (withPlayers P s) = withPlayers P (passGov t s) := by
  have hfold : ∀ (l : List Nat) u, l.foldl (fun v b => governAt b v) (withPlayers P u) = withPlayers P (l.foldl (fun v b => governAt b v) u) := by
    intro l
    induction l with
    | nil => exact fun _ => rfl
    | cons b l ih => exact fun u => (congrArg (l.foldl (fun v b => governAt b v)) (governAt_withPlayers P u b)).trans (ih _)
  have hgov : (if (withPlayers P s).driven = [] ∧ (withPlayers P s).crocus.sweep.isNone then withPlayers P s
      else ((withPlayers P s).boundaries (max (withPlayers P s).now t)).foldl (fun u b => governAt b u) (withPlayers P s)) =
      withPlayers P (if s.driven = [] ∧ s.crocus.sweep.isNone then s else (s.boundaries (max s.now t)).foldl (fun u b => governAt b u) s) :=
    withPlayers_if P Iff.rfl rfl (hfold _ s)
  rw [passGov, hgov, advance_withPlayers]
  rfl

/-! ## The chains -/

@[simp] theorem chainReset_withPlayers (n e : Nat) : chainReset n e (withPlayers P s) = withPlayers P (chainReset n e s) := by
  simp only [chainReset, modCoil_withPlayers, setRf_withPlayers, setReg_withPlayers]

@[simp] theorem chainStart_withPlayers (n e : Nat) : chainStart n e (withPlayers P s) = withPlayers P (chainStart n e s) := by
  simp only [chainStart, withPlayers_profileInUse, withPlayers_profile, modCoil_withPlayers, setRb_withPlayers, setRf_withPlayers,
    chainReset_withPlayers]

@[simp] theorem chainEdge_withPlayers (n t : Nat) : chainEdge n t (withPlayers P s) = withPlayers P (chainEdge n t s) := by
  simp only [chainEdge, withPlayers_coil]
  cases (s.coil n).pendReset with
  | none => rfl
  | some x =>
    refine withPlayers_if P Iff.rfl rfl (withPlayers_if P Iff.rfl (chainStart_withPlayers P s n x.1) ?_)
    simp only [modCoil_withPlayers, withPlayers_rf, setRf_withPlayers, chainReset_withPlayers]

@[simp] theorem passTo_withPlayers (t : Nat) : passTo t (withPlayers P s) = withPlayers P (passTo t s) := by
  rw [passTo, passGov_withPlayers]
  exact withPlayers_forEach P _ (fun n u => chainEdge_withPlayers P u n _) _

/-! ## Pins and cells -/

@[simp] theorem markReaders_withPlayers (n e : Nat) : markReaders n e (withPlayers P s) = withPlayers P (markReaders n e s) :=
  withPlayers_forEach P s (f := fun c t => if (List.range 4).any (fun j => t.rf (Reg.evfSub (0x48 + 4 * c + j)) 6 0 == n) then cellMark c e t else t)
    (fun c t => withPlayers_if P Iff.rfl (cellMark_withPlayers P t c e) rfl) _

@[simp] theorem pinSeen_withPlayers (n : Nat) (b : Bool) (t : Nat) : pinSeen n b t (withPlayers P s) = withPlayers P (pinSeen n b t s) := by
  refine withPlayers_if P Iff.rfl rfl ?_
  simp only [withPlayers_reg, modFab_withPlayers, setRb_withPlayers, markReaders_withPlayers]
  exact withPlayers_sif P _ (fun u => publish_withPlayers P u _ _) _

@[simp] theorem pinTurn_withPlayers (e n : Nat) : pinTurn e n (withPlayers P s) = withPlayers P (pinTurn e n s) := by
  simp only [pinTurn, withPlayers_pinDue, withPlayers_fab]
  cases s.pinDue n with
  | none => rfl
  | some d => exact withPlayers_if P Iff.rfl (pinSeen_withPlayers P s _ _ _) rfl

@[simp] theorem drivePin_withPlayers (n : Nat) (b : Bool) (e : Nat) : drivePin n b e (withPlayers P s) = withPlayers P (drivePin n b e s) := by
  simp only [drivePin, pinTurn_withPlayers, withPlayers_rb, modFab_withPlayers]

@[simp] theorem gpFollow_withPlayers (n e : Nat) : gpFollow n e (withPlayers P s) = withPlayers P (gpFollow n e s) :=
  withPlayers_if P Iff.rfl (drivePin_withPlayers P s n _ e) (withPlayers_if P Iff.rfl (drivePin_withPlayers P s n _ e)
    (withPlayers_if P Iff.rfl (drivePin_withPlayers P s n _ e) (modFab_withPlayers P s _)))

@[simp] theorem cellChange_withPlayers (c : Nat) (b : Bool) (e : Nat) : cellChange c b e (withPlayers P s) = withPlayers P (cellChange c b e s) := by
  have hsif : ∀ d p t u, sif d (publish p t) (withPlayers P u) = withPlayers P (sif d (publish p t) u) :=
    fun d p t u => withPlayers_sif P u (fun v => publish_withPlayers P v p t) d
  simp only [cellChange, withPlayers_reg, withPlayers_rb, markReaders_withPlayers, modFab_withPlayers, setRb_withPlayers, hsif]
  exact withPlayers_forEach P _ (f := fun n v => if v.rf (Reg.evfGpCfg n) 2 0 = 3 ∧ v.rf (Reg.evfGpCfg n) 11 8 = c then gpFollow n (e + 2) v else v)
    (fun n v => withPlayers_if P Iff.rfl (gpFollow_withPlayers P v n _) rfl) _

@[simp] theorem cellFilter_withPlayers (c e : Nat) : cellFilter c e (withPlayers P s) = withPlayers P (cellFilter c e s) := by
  simp only [cellFilter, withPlayers_filterDue, withPlayers_rb, setSince_withPlayers, cellChange_withPlayers]
  cases s.filterDue c with
  | none => rfl
  | some d => exact withPlayers_if P Iff.rfl rfl rfl

@[simp] theorem cellTake_withPlayers (c e : Nat) (o : Bool) : cellTake c e o (withPlayers P s) = withPlayers P (cellTake c e o s) := by
  refine withPlayers_if P Iff.rfl (setSince_withPlayers P s c none) (withPlayers_if P Iff.rfl ?_
    (withPlayers_if P Iff.rfl rfl (setSince_withPlayers P s c _)))
  rw [setSince_withPlayers, cellChange_withPlayers]

@[simp] theorem cellStep_withPlayers (c e : Nat) (o : Bool) : cellStep c e o (withPlayers P s) = withPlayers P (cellStep c e o s) := by
  have hsif : ∀ d u, sif d (cellMark c (e + 1)) (withPlayers P u) = withPlayers P (sif d (cellMark c (e + 1)) u) :=
    fun d u => withPlayers_sif P u (fun v => cellMark_withPlayers P v c _) d
  simp only [cellStep, withPlayers_rb, hsif, setRb_withPlayers, cellFilter_withPlayers, cellTake_withPlayers]

@[simp] theorem cellTurn_withPlayers (e c : Nat) : cellTurn e c (withPlayers P s) = withPlayers P (cellTurn e c s) := by
  rw [cellTurn, cellFilter_withPlayers]
  refine withPlayers_if P Iff.rfl ?_ rfl
  rw [withPlayers_cellOut, cellUnmark_withPlayers, cellStep_withPlayers]

theorem cellsRun_withPlayers (e fuel : Nat) : cellsRun e fuel (withPlayers P s) = withPlayers P (cellsRun e fuel s) := by
  induction fuel generalizing s with
  | zero => rfl
  | succ fuel ih =>
    simp only [cellsRun, withPlayers_firstDue]
    cases s.firstDue with
    | none => rfl
    | some d =>
      refine withPlayers_if P Iff.rfl ?_ rfl
      rw [withPlayers_forEach P s (fun n t => pinTurn_withPlayers P t d n), withPlayers_forEach P _ (fun c t => cellTurn_withPlayers P t d c), ih]

theorem cellsNow_withPlayers : cellsNow (withPlayers P s) = withPlayers P (cellsNow s) := by
  have hpins : ∀ d, forEach (List.range 16) (pinTurn d) (withPlayers P s) = withPlayers P (forEach (List.range 16) (pinTurn d) s) :=
    fun d => withPlayers_forEach P s (fun n t => pinTurn_withPlayers P t d n) _
  rw [cellsNow, withPlayers_now]
  refine withPlayers_if P Iff.rfl rfl (withPlayers_if P Iff.rfl (hpins _) ?_)
  rw [withPlayers_firstDue]
  cases s.firstDue with
  | none => rfl
  | some d => exact cellsRun_withPlayers P s _ _

end

end Sys2Proof.Proofs
end

section
/-! PROOFS. The general steps of a player (O42; R147, R160, R179, R296, R307). -/

namespace Sys2Proof.Proofs
open Sys2Proof Sys2Proof.Machine Sys2Proof.Laws

/-! ## A step on its tick -/

/-- The state that a step of player `k` finds on its tick: that of the time alone, but for the step that has been taken. -/
theorem passTo_stepTaken (k t : Nat) (i : Issued) (s : State) :
    passTo t (stepTaken k i s) = withPlayers (stepTaken k i s).players (passTo t s) := passTo_withPlayers _ s t

theorem stepTaken_flight {k : Nat} {i : Issued} {s u : State} (h : u.players = (stepTaken k i s).players) :
    (u.player k).flight = (s.player k).flight.erase i := by
  rw [State.player, h, ← State.player, stepTaken, modPlayer_player_eq]

theorem takeAny_of_next {k op : Nat} {i : Issued} {s : State} (hi : s.nextStep k = some i) (hop : i.op = op) (f : Issued → State → State) :
    takeAny k op f s = f i (stepTaken k i s) := by
  rw [takeAny, hi]
  exact if_neg (fun h => h hop)

theorem stepActed_of_onTime {k page : Nat} {i : Issued} {have_ : Nat} (h : have_ ≤ i.target) (t : Nat) (s : State) :
    stepActed k page i have_ t s = s := if_neg (by omega)

theorem rb_passTo {a : Nat} (ha : a / 0x1000 ∉ timePages) (t k : Nat) (s : State) : (passTo t s).rb a k = s.rb a k :=
  rb_of_reg_eq (passTo_samePages t s a ha) k

theorem rf_passTo {a : Nat} (ha : a / 0x1000 ∉ timePages) (t hi lo : Nat) (s : State) : (passTo t s).rf a hi lo = s.rf a hi lo := by
  rw [State.rf, passTo_samePages t s a ha, State.rf]

/-- A step whose page is enabled acts on its tick. -/
theorem atPage_onTime {k page : Nat} {i : Issued} {s : State} (hp : page ∉ timePages) (hen : s.rb (Reg.ctrl page) 0 = true) (hact : i.act = i.target)
    (f : State → State) : atPage k page i f (stepTaken k i s) = f (withPlayers (stepTaken k i s).players (passTo i.act s)) := by
  rw [atPage, passTo_stepTaken, withPlayers_rb, rb_passTo (by rw [ctrl_page]; exact hp), if_pos hen, stepActed_of_onTime hact.le]

/-! ## PUBLISH -/

theorem exec_publishStep {k : PlayerIx} {i : Issued} {s : State} (hi : s.nextStep k = some i) (hop : i.op = 8) (hq : s.quiesced Page.evf = false)
    (hact : i.act = i.target) (hsec : s.chanSecure .larkspur (i.operand % 64) = false) :
    exec (.publishStep k) s = .next (publishOn (0x50 + k) (i.operand % 64) i.target (withPlayers (stepTaken k i s).players (passTo i.act s))) := by
  obtain ⟨-, hen⟩ := quiesced_false hq
  have hsec' : (withPlayers (stepTaken k i s).players (passTo i.act s)).chanSecure .larkspur (i.operand % 64) = false := by
    rw [State.chanSecure, withPlayers_rb, rb_passTo (by
      have hlt := Nat.mod_lt i.operand (show 0 < 64 by decide)
      have hpage : Reg.evfChCfg (i.operand % 64) / 0x1000 = Page.evf := by simp only [Reg.evfChCfg, Page.evf]; omega
      rw [hpage]
      decide)]
    exact hsec
  change Host.Outcome.next _ = _
  rw [takeStep_of_next hi hop hq, atPage_onTime (by decide) hen hact]
  exact congrArg _ (if_neg (by rw [hsec']; decide))

/-! ## GPIO -/

theorem exec_gpioStep {k : PlayerIx} {i : Issued} {s : State} (hi : s.nextStep k = some i) (hop : i.op = 9) (hq : s.quiesced Page.evf = false)
    (hact : i.act = i.target) (hheld : s.holds .larkspur (0x68 + i.operand % 16) = true)
    (hfunc : s.rf (Reg.evfGpCfg (i.operand % 16)) 2 0 = 4) :
    exec (.gpioStep k) s = .next (gpSet (i.operand % 16) (bits64 i.operand 5 4)
      (withPlayers (stepTaken k i s).players (cellsNow (passTo i.act s)))) := by
  obtain ⟨-, hen⟩ := quiesced_false hq
  have hlt := Nat.mod_lt i.operand (show 0 < 16 by decide)
  have hheld' : (withPlayers (stepTaken k i s).players (passTo i.act s)).holds .larkspur (0x68 + i.operand % 16) = true := by
    rw [State.holds, State.holder, withPlayers_rf, rf_passTo (by rw [sysResClaim_page (by omega)]; decide)]
    exact hheld
  have hfunc' : (withPlayers (stepTaken k i s).players (passTo i.act s)).rf (Reg.evfGpCfg (i.operand % 16)) 2 0 = 4 := by
    rw [withPlayers_rf, rf_passTo (by
      have hpage : Reg.evfGpCfg (i.operand % 16) / 0x1000 = Page.evf := by simp only [Reg.evfGpCfg, Page.evf]; omega
      rw [hpage]
      decide)]
    exact hfunc
  change Host.Outcome.next _ = _
  rw [takeStep_of_next hi hop hq, atPage_onTime (by decide) hen hact]
  dsimp only
  rw [hheld', hfunc', cellsNow_withPlayers]
  rfl

/-- What the pins and cells keep of pin `n`: its function, and the level that it drives unless it follows a cell. -/
structure PinKept (n : Nat) (s t : State) : Prop where
  cfg : ∀ m, m < 16 → t.reg (Reg.evfGpCfg m) = s.reg (Reg.evfGpCfg m)
  drive : s.rf (Reg.evfGpCfg n) 2 0 = 4 → tabGet false t.fab.gpDrive n = tabGet false s.fab.gpDrive n

variable {n : Nat}

theorem pinKept_refl (n : Nat) (s : State) : PinKept n s s := ⟨fun _ _ => rfl, fun _ => rfl⟩

theorem PinKept.trans (hn : n < 16) {s t u : State} (h : PinKept n s t) (h' : PinKept n t u) : PinKept n s u :=
  ⟨fun m hm => (h'.cfg m hm).trans (h.cfg m hm), fun hf => (h'.drive (by rw [State.rf, h.cfg n hn]; exact hf)).trans (h.drive hf)⟩

theorem tabGet_tabSet_ne {V : Type} [DecidableEq V] {j k : Nat} (h : j ≠ k) (d v : V) (t : Tab V) : tabGet d (tabSet d t k v) j = tabGet d t j := by
  simp [tabGet, tabSet, sparse_get_put_ne _ _ _ h]

theorem pinKept_ite {c : Prop} [Decidable c] {s t u : State} (ht : c → PinKept n s t) (hu : PinKept n s u) : PinKept n s (if c then t else u) := by
  split
  · exact ht ‹_›
  · exact hu

theorem pinKept_setReg {a : Nat} (ha : ∀ m, m < 16 → Reg.evfGpCfg m ≠ a) (w : Word) (s : State) : PinKept n s (setReg a w s) :=
  ⟨fun m hm => setReg_reg_ne (ha m hm) w s, fun _ => rfl⟩

/-- A change beside the registers and the levels that the pins drive. -/
theorem pinKept_of_eq {s t : State} (hr : t.regs = s.regs) (hd : t.fab.gpDrive = s.fab.gpDrive) : PinKept n s t :=
  ⟨fun m _ => by rw [State.reg, hr, State.reg], fun _ => by rw [hd]⟩

theorem pinKept_sif {f : State → State} (c : Bool) {s : State} (h : PinKept n s (f s)) : PinKept n s (sif c f s) :=
  pinKept_ite (fun _ => h) (pinKept_refl n s)

theorem pinKept_forEach (hn : n < 16) {l : List Nat} {f : Nat → State → State} (hf : ∀ k ∈ l, ∀ s, PinKept n s (f k s)) (s : State) :
    PinKept n s (forEach l f s) := by
  induction l generalizing s with
  | nil => exact pinKept_refl n s
  | cons k l ih => exact (hf k List.mem_cons_self s).trans hn (ih (fun j hj => hf j (List.mem_cons_of_mem k hj)) (f k s))

theorem evfGpCfg_ne {a : Nat} (ha : a < 0x6d00 ∨ 0x6d40 ≤ a) (m : Nat) (hm : m < 16) : Reg.evfGpCfg m ≠ a := by
  simp only [Reg.evfGpCfg]
  omega

theorem pinKept_cellMark (c e : Nat) (s : State) : PinKept n s (cellMark c e s) := pinKept_of_eq rfl rfl

theorem pinKept_cellUnmark (c e : Nat) (s : State) : PinKept n s (cellUnmark c e s) := pinKept_of_eq rfl rfl

theorem pinKept_setSince (c : Nat) (e : Option Nat) (s : State) : PinKept n s (setSince c e s) := pinKept_of_eq rfl rfl

theorem pinKept_publish (p t : Nat) (s : State) : PinKept n s (publish p t s) := pinKept_of_eq rfl rfl

theorem pinKept_markReaders (hn : n < 16) (m e : Nat) (s : State) : PinKept n s (markReaders m e s) := by
  unfold markReaders
  refine pinKept_forEach hn (fun c _ t => ?_) s
  split
  · exact pinKept_cellMark c e t
  · exact pinKept_refl n t

theorem pinKept_gpIn (m : Nat) (b : Bool) (s : State) : PinKept n s (setRb Reg.evfGpIn m b s) :=
  pinKept_setReg (evfGpCfg_ne (by decide)) _ s

theorem pinKept_since (m : Nat) (e : Option Nat) (s : State) : PinKept n s (modFab (fun f => { f with gpSince := tabSet none f.gpSince m e }) s) :=
  pinKept_of_eq rfl rfl

theorem pinKept_last (c : Nat) (x : Option (Nat × Bool)) (s : State) :
    PinKept n s (modFab (fun f => { f with cellLast := tabSet none f.cellLast c x }) s) := pinKept_of_eq rfl rfl

theorem pinKept_pinSeen (hn : n < 16) (m : Nat) (b : Bool) (t : Nat) (s : State) : PinKept n s (pinSeen m b t s) := by
  unfold pinSeen
  split
  · exact pinKept_refl n s
  · exact ((((pinKept_since m none s).trans hn (pinKept_gpIn m b _)).trans hn (pinKept_markReaders hn _ _ _))).trans hn
      (pinKept_sif _ (pinKept_publish _ _ _))

theorem pinKept_pinTurn (hn : n < 16) (e m : Nat) (s : State) : PinKept n s (pinTurn e m s) := by
  unfold pinTurn
  split
  · split
    · exact pinKept_pinSeen hn _ _ _ s
    · exact pinKept_refl n s
  · exact pinKept_refl n s

/-- A pin that is driven: its own level, and nothing of another pin. -/
theorem pinKept_drivePin (hn : n < 16) {m : Nat} (b : Bool) (e : Nat) {s : State} (hm : m = n → s.rf (Reg.evfGpCfg n) 2 0 ≠ 4) :
    PinKept n s (drivePin m b e s) := by
  have hturn := pinKept_pinTurn hn e m s
  refine ⟨hturn.cfg, fun hf => ?_⟩
  have hne : n ≠ m := fun h => hm h.symm hf
  exact (tabGet_tabSet_ne hne _ _ _).trans (hturn.drive hf)

/-- A pin that follows a cell is not one that the scores drive. -/
theorem pinKept_gpFollow (hn : n < 16) {m : Nat} (e : Nat) {s : State} (hm : s.rf (Reg.evfGpCfg m) 2 0 = 3) : PinKept n s (gpFollow m e s) := by
  have hdrive : ∀ b, PinKept n s (drivePin m b e s) := fun b => pinKept_drivePin hn b e (fun h => by rw [← h, hm]; decide)
  rw [gpFollow, hm]
  exact hdrive _

theorem pinKept_cellChange (hn : n < 16) (c : Nat) (hc : c < 16) (b : Bool) (e : Nat) (s : State) : PinKept n s (cellChange c b e s) := by
  unfold cellChange
  have hlast : ∀ x, PinKept n s (modFab (fun f => { f with cellLast := tabSet none f.cellLast c x }) (markReaders (0x50 + c) (e + 1) s)) :=
    fun x => (pinKept_markReaders hn _ _ s).trans hn (pinKept_last c x _)
  have hlevel : ∀ t, PinKept n t (setRb Reg.evfLutCellLevel c b (setRb (Reg.evfLutCellStatus c) 1 b t)) := fun t =>
    (pinKept_setReg (evfGpCfg_ne (by simp only [Reg.evfLutCellStatus]; omega)) _ t).trans hn (pinKept_setReg (evfGpCfg_ne (by decide)) _ _)
  refine (((hlast _).trans hn (hlevel _)).trans hn (pinKept_sif _ (pinKept_publish _ _ _))).trans hn (pinKept_forEach hn (fun m _ v => ?_) _)
  split
  · rename_i h
    exact pinKept_gpFollow hn _ h.1
  · exact pinKept_refl n v

theorem pinKept_cellFilter (hn : n < 16) {c : Nat} (hc : c < 16) (e : Nat) (s : State) : PinKept n s (cellFilter c e s) := by
  unfold cellFilter
  split
  · split
    · exact (pinKept_setSince c none s).trans hn (pinKept_cellChange hn c hc _ _ _)
    · exact pinKept_refl n s
  · exact pinKept_refl n s

theorem pinKept_cellTake (hn : n < 16) {c : Nat} (hc : c < 16) (e : Nat) (o : Bool) (s : State) : PinKept n s (cellTake c e o s) :=
  pinKept_ite (fun _ => pinKept_setSince c none s) (pinKept_ite
    (fun _ => (pinKept_setSince c none s).trans hn (pinKept_cellChange hn c hc o e _))
    (pinKept_ite (fun _ => pinKept_refl n s) (pinKept_setSince c (some e) s)))

theorem pinKept_cellStep (hn : n < 16) {c : Nat} (hc : c < 16) (e : Nat) (o : Bool) (s : State) : PinKept n s (cellStep c e o s) := by
  have hstatus : ∀ q t, PinKept n t (setRb (Reg.evfLutCellStatus c) 0 q t) := fun q t =>
    pinKept_setReg (evfGpCfg_ne (by simp only [Reg.evfLutCellStatus]; omega)) _ t
  exact (((pinKept_sif _ (pinKept_cellMark c _ s)).trans hn (hstatus _ _)).trans hn (pinKept_cellFilter hn hc e _)).trans hn
    (pinKept_cellTake hn hc e o _)

theorem pinKept_cellTurn (hn : n < 16) {c : Nat} (hc : c < 16) (e : Nat) (s : State) : PinKept n s (cellTurn e c s) := by
  unfold cellTurn
  have hfilter := pinKept_cellFilter hn hc e s
  exact pinKept_ite (fun _ => (hfilter.trans hn (pinKept_cellUnmark c e _)).trans hn (pinKept_cellStep hn hc e _ _)) hfilter

theorem pinKept_cellsRun (hn : n < 16) (e fuel : Nat) (s : State) : PinKept n s (cellsRun e fuel s) := by
  induction fuel generalizing s with
  | zero => exact pinKept_refl n s
  | succ fuel ih =>
    rw [cellsRun]
    split
    · exact pinKept_ite (fun _ => ((pinKept_forEach hn (fun m _ t => pinKept_pinTurn hn _ m t) s).trans hn
        (pinKept_forEach hn (fun c hc t => pinKept_cellTurn hn (List.mem_range.mp hc) _ t) _)).trans hn (ih _)) (pinKept_refl n s)
    · exact pinKept_refl n s

theorem pinKept_cellsNow (hn : n < 16) (s : State) : PinKept n s (cellsNow s) := by
  unfold cellsNow cellsTo
  refine pinKept_ite (fun _ => pinKept_refl n s) (pinKept_ite (fun _ => pinKept_forEach hn (fun m _ t => pinKept_pinTurn hn _ m t) s) ?_)
  split
  · exact pinKept_cellsRun hn _ _ s
  · exact pinKept_refl n s

end Sys2Proof.Proofs
end

section
/-! PROOFS. The general steps of a player: what an EVENT, a GP, a SNAP, a WRITE and a COMMIT step do on their tick (O42). -/

namespace Sys2Proof.Proofs
open Sys2Proof Sys2Proof.Machine Sys2Proof.Laws

/-! ## GPIO -/

@[simp] theorem withPlayers_players (P : Tab Player) (s : State) : (withPlayers P s).players = P := by cases s; rfl
@[simp] theorem withPlayers_commit (P : Tab Player) (s : State) : (withPlayers P s).commit = s.commit := by cases s; rfl
@[simp] theorem withPlayers_regs (P : Tab Player) (s : State) : (withPlayers P s).regs = s.regs := by cases s; rfl
@[simp] theorem withPlayers_mem (P : Tab Player) (s : State) : (withPlayers P s).mem = s.mem := by cases s; rfl

/-- The level that the ACTION of a GP step drives a pin to. -/
def gpLevel (act : Nat) (b : Bool) : Bool :=
  match act with
  | 1 => false
  | 2 => !b
  | _ => true

/-- A driven pin with its new level: the registers are those of a turn of the pin, and a level not yet seen waits. -/
structure PinDriven (n : Nat) (b : Bool) (r t : State) : Prop where
  level : tabGet false t.fab.gpDrive n = b
  due : t.rb Reg.evfGpIn n ≠ b → (tabGet none t.fab.gpSince n).isSome = true
  regs : t.regs = (pinTurn (2 * r.now) n r).regs
  mem : t.mem = (pinTurn (2 * r.now) n r).mem

theorem pinDriven_drivePin (n : Nat) (b : Bool) (r : State) : PinDriven n b r (drivePin n b (2 * r.now) r) := by
  refine ⟨tabGet_tabSet_self _ _ _ _, fun h => ?_, rfl, rfl⟩
  have hne : b ≠ (pinTurn (2 * r.now) n r).rb Reg.evfGpIn n := fun hb => h hb.symm
  have hsince : tabGet none (drivePin n b (2 * r.now) r).fab.gpSince n = if b = (pinTurn (2 * r.now) n r).rb Reg.evfGpIn n then none else
      some ((tabGet none (pinTurn (2 * r.now) n r).fab.gpSince n).getD (2 * r.now)) := tabGet_tabSet_self _ _ _ _
  rw [hsince, if_neg hne]
  rfl

/-- The actions of a GP step each drive the pin; a pulse ends later besides. -/
theorem pinDriven_gpSet (n : Nat) (r : State) {act : Nat} : PinDriven n (gpLevel act (tabGet false r.fab.gpDrive n)) r (gpSet n act r) := by
  unfold gpSet
  match act with
  | 0 => exact pinDriven_drivePin n true r
  | 1 => exact pinDriven_drivePin n false r
  | 2 => exact pinDriven_drivePin n _ r
  | act + 3 =>
    obtain ⟨hlevel, hdue, hregs, hmem⟩ := pinDriven_drivePin n true r
    exact ⟨hlevel, hdue, hregs, hmem⟩

/-- A turn of a pin does not look at the players. -/
theorem pinTurn_withPlayers_regs (P : Tab Player) (e n : Nat) (u : State) :
    (pinTurn e n (withPlayers P u)).regs = (pinTurn e n u).regs ∧ (pinTurn e n (withPlayers P u)).mem = (pinTurn e n u).mem := by
  rw [pinTurn_withPlayers]
  exact ⟨by generalize pinTurn e n u = v; cases v; rfl, withPlayers_mem _ _⟩

/-! ## SNAP -/

/-- The registers of the field time base that a capture shows (R160). -/
def shotRegs : List Nat := [Reg.ftbSnapLo, Reg.ftbSnapLo + 4, Reg.ftbSnapCtrl, Reg.irqRaw Page.ftb]

/-- The capture's registers and memory read as before. -/
def ShotKept (s t : State) : Prop := (∀ a ∈ shotRegs, t.reg a = s.reg a) ∧ t.mem = s.mem

theorem shotKept_refl (s : State) : ShotKept s s := ⟨fun _ _ => rfl, rfl⟩

theorem ShotKept.trans {s t u : State} (h : ShotKept s t) (h' : ShotKept t u) : ShotKept s u :=
  ⟨fun a ha => (h'.1 a ha).trans (h.1 a ha), h'.2.trans h.2⟩

theorem shotKept_setReg {x : Nat} (hx : x < 0x8010 ∨ 0x8100 ≤ x) (w : Word) (s : State) : ShotKept s (setReg x w s) := by
  have hout : ∀ a ∈ shotRegs, 0x8010 ≤ a ∧ a < 0x8100 := by decide
  exact ⟨fun a ha => setReg_reg_ne (by obtain ⟨hlo, hhi⟩ := hout a ha; omega) w s, rfl⟩

theorem shotKept_snapCopy {x : Nat} (hx : x < 0x8010 ∨ 0x8100 ≤ x) (a : Nat) (s : State) : ShotKept s (snapCopy a x s) := shotKept_setReg hx _ s

theorem shotKept_forEach {l : List Nat} {f : Nat → State → State} (hf : ∀ k ∈ l, ∀ s, ShotKept s (f k s)) (s : State) :
    ShotKept s (forEach l f s) := by
  induction l generalizing s with
  | nil => exact shotKept_refl s
  | cons k l ih => exact (hf k List.mem_cons_self s).trans (ih (fun j hj => hf j (List.mem_cons_of_mem k hj)) (f k s))

theorem shotKept_ite {c : Prop} [Decidable c] {s t u : State} (ht : c → ShotKept s t) (hu : ShotKept s u) : ShotKept s (if c then t else u) := by
  split
  · exact ht ‹_›
  · exact hu

/-- The snapshot set of no page holds a register of the capture itself. -/
theorem shotKept_snapPage (p : Nat) (s : State) : ShotKept s (snapPage p s) := by
  unfold snapPage
  refine shotKept_ite (fun _ => shotKept_forEach (fun g _ t => shotKept_setReg ?_ _ t) s) (shotKept_ite (fun _ =>
    shotKept_forEach (fun k hk t => shotKept_snapCopy ?_ _ t) s) (shotKept_ite (fun hp => ?_) (shotKept_ite (fun _ => shotKept_setReg ?_ _ s)
    (shotKept_ite (fun _ => shotKept_forEach (fun c _ t => shotKept_snapCopy ?_ _ t) s) (shotKept_ite (fun _ =>
      shotKept_forEach (fun k _ t => shotKept_snapCopy ?_ _ t) s) (shotKept_ite (fun _ => shotKept_snapCopy ?_ _ s) (shotKept_ite
      (fun _ => shotKept_snapCopy ?_ _ s) (shotKept_ite (fun _ => shotKept_snapCopy ?_ _ s) (shotKept_ite (fun _ => shotKept_snapCopy ?_ _ s)
        (shotKept_refl s))))))))))
  case _ => simp only [Reg.ftbCadSnap]; omega
  case _ => have := List.mem_range.mp hk; simp only [Reg.evfChSnap]; omega
  case _ =>
    exact (((shotKept_snapCopy (by simp only [Reg.coilSnapCount]; omega) _ s).trans
      (shotKept_snapCopy (by simp only [Reg.coilSnapMag]; omega) _ _)).trans
      (shotKept_snapCopy (by simp only [Reg.coilSnapPhase]; omega) _ _)).trans (shotKept_snapCopy (by simp only [Reg.coilSnapMm]; omega) _ _)
  case _ => decide
  case _ => simp only [Reg.cvuCSnap]; omega
  case _ => simp only [Reg.lspPlSnap]; omega
  case _ => simp only [Reg.feSnapFrame]; omega
  case _ => decide
  case _ => decide
  case _ => decide

/-- The FTB has been captured, before the pages' snapshot sets follow. -/
def shot (s : State) : State :=
  irq Page.ftb 6 (publish 0x29 s.now (wrapRf Reg.ftbSnapCtrl 31 16 1 (setPair Reg.ftbSnapLo s.now
    (modTime (fun t => { t with snapWait := [], snapReq := false, localSnap := localCycles.map s.localTick }) s))))

theorem shot_shown (s : State) : (shot s).regPair Reg.ftbSnapLo = s.now % 2 ^ 64 ∧
    (shot s).rf Reg.ftbSnapCtrl 31 16 = (s.rf Reg.ftbSnapCtrl 31 16 + 1) % 2 ^ 16 ∧ (shot s).rb (Reg.irqRaw Page.ftb) 6 = true ∧
    (shot s).mem = s.mem := by
  unfold shot
  generalize hv : modTime _ s = v
  have hreg : v.reg = s.reg := by rw [← hv]; rfl
  have hmem : v.mem = s.mem := by rw [← hv]; rfl
  have hirq := (irq_onlyRegs Page.ftb 6 (publish 0x29 s.now (wrapRf Reg.ftbSnapCtrl 31 16 1 (setPair Reg.ftbSnapLo s.now v)))).1
  have hcount : ∀ a, a ≠ Reg.ftbSnapCtrl → a ∉ [Reg.irqRaw Page.ftb, Reg.irqStat Page.ftb] →
      (irq Page.ftb 6 (publish 0x29 s.now (wrapRf Reg.ftbSnapCtrl 31 16 1 (setPair Reg.ftbSnapLo s.now v)))).reg a =
        (setPair Reg.ftbSnapLo s.now v).reg a := fun a ha hout => (hirq a hout).trans (setRf_reg_ne ha _ _ _ _)
  refine ⟨?_, ?_, irq_irqRaw (by decide) _, ?_⟩
  · rw [State.regPair, hcount _ (by decide) (by decide), hcount _ (by decide) (by decide), setPair, setReg_reg_eq, setReg_reg_ne (by decide),
      setReg_reg_eq, pair_lo_hi]
  · have hctrl : (setPair Reg.ftbSnapLo s.now v).rf Reg.ftbSnapCtrl 31 16 = s.rf Reg.ftbSnapCtrl 31 16 := by
      rw [State.rf, setPair_reg_ne (by decide) (by decide), hreg, State.rf]
    rw [State.rf, hirq _ (by decide), ← State.rf]
    exact (setRf_rf_eq (by decide) _ _ _ _).trans (by rw [hctrl])
  · rw [mem_of_onlyRegs (irq_onlyRegs _ _ _), ← hmem]
    rfl

/-- A capture that no command waits for. -/
theorem capture_shown {s : State} (h : s.time.snapWait = []) : (capture s).regPair Reg.ftbSnapLo = s.now % 2 ^ 64 ∧
    (capture s).rf Reg.ftbSnapCtrl 31 16 = (s.rf Reg.ftbSnapCtrl 31 16 + 1) % 2 ^ 16 ∧ (capture s).rb (Reg.irqRaw Page.ftb) 6 = true ∧
    (capture s).mem = s.mem := by
  have heq : capture s = forEach (List.range 0x2c) (fun p v => if s.snapArmed p then snapPage p v else v) (shot s) := by
    rw [capture, h]
    rfl
  have hkept : ShotKept (shot s) (capture s) := by
    rw [heq]
    exact shotKept_forEach (fun p _ t => shotKept_ite (fun _ => shotKept_snapPage p t) (shotKept_refl t)) _
  obtain ⟨hregs, hmem⟩ := hkept
  obtain ⟨hpair, hcount, hraw, hmem'⟩ := shot_shown s
  refine ⟨?_, ?_, ?_, hmem.trans hmem'⟩
  · rw [State.regPair, hregs _ (by decide), hregs _ (by decide), ← State.regPair, hpair]
  · rw [State.rf, hregs _ (by decide), ← State.rf, hcount]
  · rw [rb_of_reg_eq (hregs _ (by decide)), hraw]

/-! ## COMMIT -/

/-- A commit is requested. -/
def commitTaken (C M : Nat) (s : State) : State := setRf Reg.sysEpochStatus 2 0 1 { s with commit := some ⟨C, M, [], false⟩ }

theorem commitAsk_taken {T : Nat} {s : State} (hq : s.quiesced Page.lsp = false) (hc : s.commit = none) (hm : s.now ≤ roundUp T 8 - s.marginFt) :
    commitAsk T s = (Err.none, commitTaken (roundUp T 8) (roundUp T 8 - s.marginFt) s) := by
  simp only [commitAsk, hq, hc, Option.isSome_none, Bool.false_eq_true, if_false, if_neg (Nat.not_lt.mpr hm)]
  rfl

theorem passTo_lsp (t : Nat) (s : State) {a : Nat} (ha : a / 0x1000 = Page.lsp) : (passTo t s).reg a = s.reg a :=
  passTo_samePages t s a (by rw [ha]; decide)

theorem commitAsk_passTo {T t : Nat} {P : Tab Player} {s : State} (hq : s.quiesced Page.lsp = false) (hc : s.commit = none)
    (hm : max s.now t ≤ roundUp T 8 - s.marginFt) :
    commitAsk T (withPlayers P (passTo t s)) = (Err.none, commitTaken (roundUp T 8) (roundUp T 8 - s.marginFt) (withPlayers P (passTo t s))) := by
  have hmargin : (withPlayers P (passTo t s)).marginFt = s.marginFt := by
    rw [State.marginFt, withPlayers_rf, State.rf, passTo_lsp t s (by decide), State.marginFt, State.rf]
  have hquiet : (withPlayers P (passTo t s)).quiesced Page.lsp = false := by
    rw [withPlayers_quiesced, State.quiesced, rb_of_reg_eq (passTo_lsp t s (status_page _)), rb_of_reg_eq (passTo_lsp t s (ctrl_page _)),
      ← State.quiesced, hq]
  have hcommit : (withPlayers P (passTo t s)).commit = none :=
    (withPlayers_commit _ _).trans ((field_of_timeOnly State.commit (timeOnly_passTo t s) fun _ _ _ _ _ _ _ => rfl).trans hc)
  have hnow : (withPlayers P (passTo t s)).now ≤ roundUp T 8 - s.marginFt := by
    rw [withPlayers_now, passTo_now]
    exact (Nat.mod_le _ _).trans hm
  rw [commitAsk_taken hquiet hcommit (by rw [hmargin]; exact hnow), hmargin]

theorem exec_commitStep {k : PlayerIx} {i : Issued} {s : State} (hi : s.nextStep k = some i) (hop : i.op = 0xc)
    (hq : s.quiesced Page.lsp = false) (hc : s.commit = none) (hm : max s.now i.act ≤ roundUp i.target 8 - s.marginFt) :
    exec (.commitStep k) s = .next (commitTaken (roundUp i.target 8) (roundUp i.target 8 - s.marginFt)
      (withPlayers (stepTaken k i s).players (passTo i.act s))) := by
  change Host.Outcome.next _ = _
  rw [takeAny_of_next hi hop, passTo_stepTaken]
  dsimp only
  rw [commitAsk_passTo hq hc hm, if_pos rfl]

end Sys2Proof.Proofs
end

section
/-! PROOFS. WRITE steps (R139, R307), and the general steps together (O42). -/

namespace Sys2Proof.Proofs
open Sys2Proof Sys2Proof.Machine Sys2Proof.Laws

/-! ## What the checks of a write look at -/

/-- The registers that the checks of a write to page `p` read. -/
def accessRegs (p : Nat) : List Nat := [Reg.clkGate, Reg.pwrMode, Reg.owner p, Reg.lock p, Reg.status p, Reg.ctrl p]

/-- The checks of a write to page `p` find what they found. -/
structure Access (p : Nat) (s t : State) : Prop where
  reg : ∀ a ∈ accessRegs p, t.reg a = s.reg a
  boot : t.boot = s.boot
  held : t.heldWrites = s.heldWrites
  commit : t.commit = s.commit

theorem access_refl (p : Nat) (s : State) : Access p s s := ⟨fun _ _ => rfl, rfl, rfl, rfl⟩

theorem Access.trans {p : Nat} {s t u : State} (h : Access p s t) (h' : Access p t u) : Access p s u :=
  ⟨fun a ha => (h'.reg a ha).trans (h.reg a ha), h'.boot.trans h.boot, h'.held.trans h.held, h'.commit.trans h.commit⟩

theorem Access.reaches {s t : State} {ag : Agent} {a : Nat} (h : Access (a / 0x1000) s t) (hr : s.reaches ag a) : t.reaches ag a := by
  have hclk := h.reg Reg.clkGate (by simp [accessRegs])
  have hmode := h.reg Reg.pwrMode (by simp [accessRegs])
  have hown := h.reg (Reg.owner (a / 0x1000)) (by simp [accessRegs])
  simp only [State.reaches, State.holdsWrite, State.hostUp, State.portTakes, State.started, State.mode, State.isReady, State.pageUp,
    State.secureOut, State.rb, State.rf, hclk, hmode, hown, h.boot, h.held, h.commit] at hr ⊢
  exact hr

theorem Access.unlocked {s t : State} {a : Nat} (h : Access (a / 0x1000) s t) (hu : s.unlocked a) : t.unlocked a := by
  have hlock := h.reg (Reg.lock (a / 0x1000)) (by simp [accessRegs])
  have hstatus := h.reg (Reg.status (a / 0x1000)) (by simp [accessRegs])
  have hctrl := h.reg (Reg.ctrl (a / 0x1000)) (by simp [accessRegs])
  simp only [State.unlocked, State.quiesced, State.rb, hlock, hstatus, hctrl] at hu ⊢
  exact hu

theorem Access.takes {s t : State} {ag : Agent} {a : Nat} (h : Access (a / 0x1000) s t) (htake : s.takes ag a) : t.takes ag a := by
  obtain ⟨hr, hown, hu⟩ := htake
  exact ⟨h.reaches hr, by rw [State.rf, h.reg _ (by simp [accessRegs]), ← State.rf, hown], h.unlocked hu⟩

/-- The offsets that the checks of a write read in the page's header. -/
theorem accessRegs_place {p a : Nat} (h : a ∈ accessRegs p) :
    a = Reg.clkGate ∨ a = Reg.pwrMode ∨ (a / 0x1000 = p ∧ a % 0x1000 ∈ [0x24, 0x20, 0x0c, 0x08]) := by
  simp only [accessRegs, List.mem_cons, List.not_mem_nil, or_false] at h
  have hpage : ∀ off, off < 0x1000 → (p * 0x1000 + off) / 0x1000 = p ∧ (p * 0x1000 + off) % 0x1000 = off := fun off hoff => by omega
  have hin : ∀ off, a = p * 0x1000 + off → off < 0x1000 → off ∈ [0x24, 0x20, 0x0c, 0x08] →
      a / 0x1000 = p ∧ a % 0x1000 ∈ [0x24, 0x20, 0x0c, 0x08] := fun off ha hlt hoff => by
    obtain ⟨hp, ho⟩ := hpage off hlt
    rw [ha, hp, ho]
    exact ⟨rfl, hoff⟩
  rcases h with h | h | h | h | h | h
  · exact .inl h
  · exact .inr (.inl h)
  · exact .inr (.inr (hin 0x24 h (by decide) (by decide)))
  · exact .inr (.inr (hin 0x20 h (by decide) (by decide)))
  · exact .inr (.inr (hin 0x0c h (by decide) (by decide)))
  · exact .inr (.inr (hin 0x08 h (by decide) (by decide)))

/-- Time changes nothing that the checks of a write look at. -/
theorem accessRegs_plain {p a : Nat} (h : a ∈ accessRegs p) : edgeReg a = false ∧ driveReg a = false := by
  rcases accessRegs_place h with rfl | rfl | ⟨-, hoff⟩
  · decide
  · decide
  · have hout : ∀ o ∈ [0x24, 0x20, 0x0c, 0x08], dbgOffsets.contains o = false ∧ govOffsets.contains o = false ∧ edgeOffsets.contains o = false ∧
        (o == 0x48 || o == 0x10) = false := by decide
    obtain ⟨hdbg, hgov, hedge, hdrive⟩ := hout _ hoff
    simp only [edgeReg, driveReg, hdbg, hgov, hedge, hdrive, Bool.and_false, Bool.or_false, and_self]

theorem access_passTo (p t : Nat) (s : State) : Access p s (passTo t s) := by
  have htime := timeOnly_passTo t s
  have hkept := timeKept_passTo t s
  exact ⟨fun a ha => hkept.reg a (accessRegs_plain ha).1 (accessRegs_plain ha).2, passTo_boot t s,
    field_of_timeOnly State.heldWrites htime fun _ _ _ _ _ _ _ => rfl, field_of_timeOnly State.commit htime fun _ _ _ _ _ _ _ => rfl⟩

/-! ## Reports -/

/-- The registers of a report of page `p` that is counted with Larkspur's too. -/
def noteRegs (p : Nat) : List Nat := reportRegs p ++ reportRegs Page.lsp

/-- An error has been recorded for page `p`, and with a player's section. -/
structure Noted (p : Nat) (s t : State) : Prop where
  regs : SameRegs (noteRegs p) s t
  rest : { t with regs := s.regs, engs := s.engs, link := s.link, free := s.free } = s

theorem noted_refl (p : Nat) (s : State) : Noted p s s := ⟨fun _ _ => rfl, rfl⟩

theorem Noted.trans {p : Nat} {s t u : State} (h : Noted p s t) (h' : Noted p t u) : Noted p s u := by
  refine ⟨fun a ha => (h'.regs a ha).trans (h.regs a ha), ?_⟩
  calc { u with regs := s.regs, engs := s.engs, link := s.link, free := s.free }
      = { ({ u with regs := t.regs, engs := t.engs, link := t.link, free := t.free } : State) with
          regs := s.regs, engs := s.engs, link := s.link, free := s.free } := rfl
    _ = s := by rw [h'.rest, h.rest]

theorem noted_of_onlyRegs {p : Nat} {l : List Nat} {s t : State} (hl : ∀ a ∈ l, a ∈ noteRegs p) (h : OnlyRegs l s t) : Noted p s t := by
  refine ⟨fun a ha => h.1 a fun hm => ha (hl a hm), ?_⟩
  calc { t with regs := s.regs, engs := s.engs, link := s.link, free := s.free }
      = { ({ t with regs := s.regs } : State) with engs := s.engs, link := s.link, free := s.free } := rfl
    _ = s := by rw [h.2.2]

theorem noted_recErr {p q : Nat} (hq : ∀ a ∈ reportRegs q, a ∈ noteRegs p) (code info extra : Nat) (s : State) :
    Noted p s (recErr q code info extra s) :=
  ⟨fun a ha => recErr_sameRegs q code info extra s a fun hm => ha (hq a hm), by
    have h := (reported_recErr q code info extra s).rest
    calc { recErr q code info extra s with regs := s.regs, engs := s.engs, link := s.link, free := s.free }
        = { ({ recErr q code info extra s with regs := s.regs, engs := s.engs, free := s.free } : State) with link := s.link } := rfl
      _ = s := by rw [h]⟩

theorem noted_sectionErr (p k slot e : Nat) (s : State) : Noted p s (sectionErr k slot e s) := by
  unfold sectionErr
  split
  · exact noted_refl p s
  · split
    · split
      · exact ⟨fun _ _ => rfl, rfl⟩
      · exact noted_refl p s
    · split
      · exact ⟨fun _ _ => rfl, rfl⟩
      · exact noted_refl p s

theorem noted_stepActed (p k have_ t : Nat) (i : Issued) (s : State) : Noted p s (stepActed k p i have_ t s) := by
  unfold stepActed
  split
  · exact (noted_recErr (fun a ha => List.mem_append_left _ ha) _ _ _ s).trans (noted_sectionErr p k _ _ _)
  · exact noted_refl p s

theorem offset_not_access {p off : Nat} (h : off < 0x1000) (hoff : off ∉ [0x24, 0x20, 0x0c, 0x08, Reg.clkGate % 0x1000, Reg.pwrMode % 0x1000]) :
    p * 0x1000 + off ≠ Reg.clkGate ∧ p * 0x1000 + off ≠ Reg.pwrMode ∧ (p * 0x1000 + off) % 0x1000 ∉ [0x24, 0x20, 0x0c, 0x08] := by
  have hmod : (p * 0x1000 + off) % 0x1000 = off := by omega
  simp only [List.mem_cons, List.not_mem_nil, or_false, not_or] at hoff
  refine ⟨fun hx => hoff.2.2.2.2.1 (by rw [← hx, hmod]), fun hx => hoff.2.2.2.2.2 (by rw [← hx, hmod]), ?_⟩
  rw [hmod]
  simp only [List.mem_cons, List.not_mem_nil, or_false, not_or]
  exact ⟨hoff.1, hoff.2.1, hoff.2.2.1, hoff.2.2.2.1⟩

theorem irqEn_plain (p : Nat) : edgeReg (Reg.irqEn p) = false ∧ driveReg (Reg.irqEn p) = false := by
  have hoff : Reg.irqEn p % 0x1000 = 0x14 := by simp only [Reg.irqEn]; omega
  simp only [edgeReg, driveReg, hoff]
  exact ⟨by simp [dbgOffsets, govOffsets, edgeOffsets], by simp⟩

/-- A report changes nothing that the checks of a write look at. -/
theorem accessRegs_not_noted {p q a : Nat} (h : a ∈ accessRegs q) : a ∉ noteRegs p := by
  have hoff : ∀ x ∈ noteRegs p, x ≠ Reg.clkGate ∧ x ≠ Reg.pwrMode ∧ x % 0x1000 ∉ [0x24, 0x20, 0x0c, 0x08] := fun x hx => by
    simp only [noteRegs, reportRegs, List.cons_append, List.nil_append, List.mem_cons, List.not_mem_nil, or_false] at hx
    rcases hx with rfl | rfl | rfl | rfl | hx
    · exact offset_not_access (off := 0x28) (by decide) (by decide)
    · exact offset_not_access (off := 0x2c) (by decide) (by decide)
    · exact offset_not_access (off := 0x10) (by decide) (by decide)
    · exact offset_not_access (off := 0x18) (by decide) (by decide)
    · have hclosed : ∀ y ∈ [Reg.dbgFaultSum, Reg.dbgFirst, Reg.dbgFirstTickLo, Reg.dbgFirstTickHi, Reg.irqRaw Page.dbg, Reg.irqStat Page.dbg,
          Reg.errCode Page.lsp, Reg.errInfo Page.lsp, Reg.irqRaw Page.lsp, Reg.irqStat Page.lsp],
          y ≠ Reg.clkGate ∧ y ≠ Reg.pwrMode ∧ y % 0x1000 ∉ [0x24, 0x20, 0x0c, 0x08] := by decide
      exact hclosed x (by simp only [List.mem_cons, List.not_mem_nil, or_false]; omega)
  intro hm
  obtain ⟨hclk, hmode, hplace⟩ := hoff a hm
  rcases accessRegs_place h with h | h | h
  · exact hclk h
  · exact hmode h
  · exact hplace h.2

theorem Noted.access {p q : Nat} {s t : State} (h : Noted p s t) : Access q s t :=
  ⟨fun a ha => h.regs a (accessRegs_not_noted ha), (congrArg State.boot h.rest).trans rfl, (congrArg State.heldWrites h.rest).trans rfl,
    (congrArg State.commit h.rest).trans rfl⟩

theorem Noted.mem {p : Nat} {s t : State} (h : Noted p s t) : t.mem = s.mem := (congrArg State.mem h.rest).trans rfl

/-! ## A write of IRQ_EN by a step -/

theorem irqEn_place (p : Nat) : Reg.irqEn p / 0x1000 = p ∧ Reg.irqEn p % 0x1000 = 0x14 := by
  simp only [Reg.irqEn]
  omega

theorem irqEn_not_staged : ∀ p : PageIx, hasStaged (Reg.irqEn p) = false := by decide +kernel

/-- A masked write of IRQ_EN is a write of it. -/
theorem maskedWrite_irqEn (x : StepOf) (p : PageIx) (data : Nat) (s : State) :
    maskedWrite x (Reg.irqEn p) data s =
      irqEnWrite .larkspur p ((s.reg (Reg.irqEn p) &&& ~~~ wd (data / 2 ^ 32)) ||| (wd data &&& wd (data / 2 ^ 32))) s := by
  obtain ⟨hpage, hoff⟩ := irqEn_place p
  have hexists : pageExists (p : Nat) = true := decide_eq_true (Nat.le_of_lt_succ p.isLt)
  have hport : isPort (Reg.irqEn p) = false := decide_eq_false fun h => by simp only [Reg.irqEn] at h; omega
  have hkept : s.kept (Reg.irqEn p) = s.reg (Reg.irqEn p) := by
    rw [State.kept, hoff, if_pos (by decide), if_neg (by decide), if_pos rfl, BitVec.and_allOnes]
  simp only [maskedWrite, irqEn_not_staged p, hkept, busWrite, hpage, hoff, hexists, hport, Bool.not_true, Bool.false_eq_true, if_false]
  rw [if_pos (by decide)]
  rfl

/-- IRQ_EN has been written: a source enabled while its IRQ_RAW bit is 1 occurs (R136). -/
def enabled (p : Nat) (w : Word) (s : State) : State :=
  setReg (Reg.irqStat p) (s.reg (Reg.irqStat p) ||| (w &&& ~~~ s.reg (Reg.irqEn p) &&& s.rawNow p)) (setReg (Reg.irqEn p) w s)

theorem irqEnWrite_of_takes {s : State} {ag : Agent} {p : Nat} (h : s.takes ag (Reg.irqEn p)) (w : Word) :
    irqEnWrite ag p w s = enabled p w s := by
  rw [irqEnWrite, hold_of_reaches h.1, guarded_of_takes h]
  rfl

/-- The error codes of page `p` and of SYS, cleared to find what an effect refuses. -/
def codesCleared (p : Nat) (s : State) : State := setReg (Reg.errCode p) 0 (setReg (Reg.errCode Page.sys) 0 s)

theorem codesCleared_noted (p : Nat) (s : State) : SameRegs [Reg.errCode p, Reg.errCode Page.sys] s (codesCleared p s) := fun a ha =>
  (setReg_reg_ne (fun h => ha (by simp [h])) _ _).trans (setReg_reg_ne (fun h => ha (by simp [h])) _ _)

theorem access_codesCleared (p q : Nat) (s : State) : Access q s (codesCleared p s) := by
  refine ⟨fun a ha => codesCleared_noted p s a fun hm => ?_, rfl, rfl, rfl⟩
  rcases List.mem_pair.mp hm with rfl | rfl
  · exact accessRegs_not_noted (p := p) ha (by simp [noteRegs, reportRegs])
  · exact accessRegs_not_noted (p := Page.sys) ha (by simp [noteRegs, reportRegs])

theorem codesCleared_rf (p q : Nat) (h : q = p ∨ q = Page.sys) (s : State) : (codesCleared p s).rf (Reg.errCode q) 7 0 = 0 := by
  have hzero : (codesCleared p s).reg (Reg.errCode q) = 0 := by
    by_cases hp : q = p
    · rw [hp]; exact setReg_reg_eq _ _ _
    · have hne : Reg.errCode q ≠ Reg.errCode p := by simp only [Reg.errCode]; omega
      rw [codesCleared, setReg_reg_ne hne, h.resolve_left hp]
      exact setReg_reg_eq _ _ _
  rw [State.rf, hzero]
  decide

theorem enabled_rf_errCode (p q : Nat) (w : Word) (s : State) : (enabled p w s).rf (Reg.errCode q) 7 0 = s.rf (Reg.errCode q) 7 0 := by
  have hstat : Reg.errCode q ≠ Reg.irqStat p := by simp only [Reg.errCode, Reg.irqStat]; omega
  have hen : Reg.errCode q ≠ Reg.irqEn p := fun h => by
    have heq : q * 0x1000 + 0x28 = p * 0x1000 + 0x14 := h
    omega
  rw [State.rf, enabled, setReg_reg_ne hstat, setReg_reg_ne hen, State.rf]

/-- What refuses an effect is read from the codes that it leaves on a state without any. -/
theorem refusedBy_eq {a p c d : Nat} {f : State → State} {s : State} (ha : a / 0x1000 = p) (hc : (f (codesCleared p s)).rf (Reg.errCode p) 7 0 = c)
    (hd : (f (codesCleared p s)).rf (Reg.errCode Page.sys) 7 0 = d) :
    refusedBy a f s = [c, d].find? (fun e =>
      e == Err.modeAbort || e == Err.swapRejected || e == Err.secureDenied || e == Err.ownerDenied || e == Err.notQuiesced) := by
  rw [← hc, ← hd, ← ha]
  rfl

/-- The step's write, from the words of its data. -/
def maskedWord (data : Nat) (old : Word) : Word := (old &&& ~~~ wd (data / 2 ^ 32)) ||| (wd data &&& wd (data / 2 ^ 32))

theorem stepWrite_of_takes {x : StepWrite} {p : PageIx} {s : State} (h : s.takes .larkspur (Reg.irqEn p)) :
    stepWrite x (Reg.irqEn p) s = enabled p (maskedWord x.data (s.reg (Reg.irqEn p))) s := by
  have heff : ∀ u : State, u.takes .larkspur (Reg.irqEn p) →
      maskedWrite (x.player, some x.target) (Reg.irqEn p) x.data u = enabled p (maskedWord x.data (u.reg (Reg.irqEn p))) u := fun u hu =>
    (maskedWrite_irqEn _ p x.data u).trans (irqEnWrite_of_takes hu _)
  have hclear : ∀ q, q = (p : Nat) ∨ q = Page.sys →
      (maskedWrite (x.player, some x.target) (Reg.irqEn p) x.data (codesCleared p s)).rf (Reg.errCode q) 7 0 = 0 := fun q hq => by
    rw [heff _ ((access_codesCleared p _ s).takes h), enabled_rf_errCode, codesCleared_rf p q hq]
  have hnone : refusedBy (Reg.irqEn p) (maskedWrite (x.player, some x.target) (Reg.irqEn p) x.data) s = none :=
    (refusedBy_eq (irqEn_place p).1 (hclear _ (.inl rfl)) (hclear _ (.inr rfl))).trans rfl
  simp only [stepWrite, hnone]
  exact heff s h

theorem exec_writeStep {k : PlayerIx} {i : Issued} {p : PageIx} {s : State} (hi : s.nextStep k = some i) (hop : i.op = 0xa)
    (ha : stepAddr i.operand = Reg.irqEn p) (hr : s.reaches .larkspur (Reg.irqEn p)) :
    exec (.writeStep k) s = .next (stepWrite ⟨k, i.index, i.target, i.data, i.slot⟩ (Reg.irqEn p)
      (stepActed k p i i.act i.act (passTo i.act (stepTaken k i s)))) := by
  have haccess : Access (Reg.irqEn p / 0x1000) s (passTo i.act (stepTaken k i s)) :=
    Access.trans (t := stepTaken k i s) ⟨fun _ _ => rfl, rfl, rfl, rfl⟩ (access_passTo _ _ _)
  obtain ⟨hheld, -, hup, -⟩ := haccess.reaches hr
  have hpage := (irqEn_place p).1
  change Host.Outcome.next _ = _
  rw [takeAny_of_next hi hop]
  dsimp only
  rw [ha, hheld, hup, hpage]
  rfl

/-- A write that the page's owner alone may make. -/
theorem irqEnWrite_of_other {s : State} {p : Nat} (hr : s.reaches .larkspur (Reg.irqEn p)) (hown : s.rf (Reg.owner p) 1 0 ≠ 2) (w : Word) :
    irqEnWrite .larkspur p w s = refusalErr p Err.ownerDenied (writeInfo .larkspur (Reg.irqEn p)) 0 s := by
  have hmine : (s.rf (Reg.owner p) 1 0 == agentCode .larkspur) = false := beq_eq_false_iff_ne.mpr hown
  simp only [irqEnWrite, hold_of_reaches hr, guarded, guardedBy, guardedFor, secureGuard_of_reaches hr, (irqEn_place p).1, hmine, Bool.not_false,
    if_true]

/-- A WRITE step on a page that Larkspur does not own is refused (R307). -/
theorem stepWrite_of_other {x : StepWrite} {p : PageIx} {s : State} (hr : s.reaches .larkspur (Reg.irqEn p)) (hown : s.rf (Reg.owner p) 1 0 ≠ 2) :
    stepWrite x (Reg.irqEn p) s = stepRefused x.player x.slot Err.ownerDenied x.index
      (refusalErr p Err.ownerDenied (writeInfo .larkspur (Reg.irqEn p)) 0 s) := by
  have heff : ∀ u : State, u.reaches .larkspur (Reg.irqEn p) → u.rf (Reg.owner p) 1 0 ≠ 2 →
      maskedWrite (x.player, some x.target) (Reg.irqEn p) x.data u = refusalErr p Err.ownerDenied (writeInfo .larkspur (Reg.irqEn p)) 0 u :=
    fun u hu ho => (maskedWrite_irqEn _ p x.data u).trans (irqEnWrite_of_other hu ho _)
  have hcleared := access_codesCleared p p s
  have hcode : (maskedWrite (x.player, some x.target) (Reg.irqEn p) x.data (codesCleared p s)).rf (Reg.errCode p) 7 0 = Err.ownerDenied := by
    have hzero : (codesCleared p s).rf (Reg.errCode p) 15 10 = 0 := by
      rw [State.rf, codesCleared, setReg_reg_eq]
      rfl
    rw [heff _ (Access.reaches (by rw [(irqEn_place p).1]; exact hcleared) hr)
      (by rw [State.rf, hcleared.reg _ (by simp [accessRegs]), ← State.rf]; exact hown), State.rf, refusalErr_first_errCode (by decide) _ _ hzero]
    exact firstErrWord_code (by decide) 0
  have hsome : refusedBy (Reg.irqEn p) (maskedWrite (x.player, some x.target) (Reg.irqEn p) x.data) s = some Err.ownerDenied :=
    (refusedBy_eq (irqEn_place p).1 hcode rfl).trans (List.find?_cons_of_pos (by decide))
  simp only [stepWrite, hsome, heff s hr hown]

/-- A refusal is shown at LSP. -/
theorem stepRefused_irqRaw (k slot e index : Nat) (s : State) : (stepRefused k slot e index s).rb (Reg.irqRaw Page.lsp) 6 = true := by
  have hregs : ∀ t : State, (sectionErr k slot e t).regs = t.regs := fun t => by
    unfold sectionErr
    split
    · rfl
    · split
      · split <;> rfl
      · split <;> rfl
  rw [State.rb, State.reg, stepRefused, hregs]
  exact recErr_keeps_set (p := Page.lsp) (j := 6) e k index (by decide) (by decide) (irq_irqRaw (by decide) s)

theorem noted_stepRefused (p k slot e index : Nat) (s : State) : Noted p s (stepRefused k slot e index s) := by
  have hlsp : ∀ a ∈ reportRegs Page.lsp, a ∈ noteRegs p := fun a ha => List.mem_append_right _ ha
  exact ((noted_of_onlyRegs (fun a ha => hlsp a (by
    rcases List.mem_pair.mp ha with rfl | rfl <;> simp [reportRegs])) (irq_onlyRegs Page.lsp 6 s)).trans (noted_recErr hlsp _ _ _ _)).trans
    (noted_sectionErr p k slot e _)

theorem irqEn_not_noted (p : Nat) : Reg.irqEn p ∉ noteRegs p := by
  simp only [noteRegs, reportRegs, List.cons_append, List.nil_append, List.mem_cons, List.not_mem_nil, or_false, Reg.irqEn, Reg.errCode, Reg.errInfo,
    Reg.irqRaw, Reg.irqStat, Reg.dbgFaultSum, Reg.dbgFirst, Reg.dbgFirstTickLo, Reg.dbgFirstTickHi, Page.dbg, Page.lsp]
  omega

/-! ## The obligation -/

theorem publishOn_players (p chan t : Nat) (s : State) : (publishOn p chan t s).players = s.players := rfl

theorem publishOn_reg (p chan t : Nat) (s : State) (a : Nat) : (publishOn p chan t s).reg a = s.reg a := rfl

theorem publishOn_mem (p chan t : Nat) (s : State) : (publishOn p chan t s).mem = s.mem := rfl

theorem enabled_mem (p : Nat) (w : Word) (s : State) : (enabled p w s).mem = s.mem := rfl

theorem enabled_players (p : Nat) (w : Word) (s : State) : (enabled p w s).players = s.players := rfl

/-- An event that a step publishes waits behind the others. -/
theorem exec_publishStep_waiting {k : PlayerIx} {i : Issued} {s : State} (P : Tab Player) :
    (publishOn (0x50 + k) (i.operand % 64) i.target (withPlayers P (passTo i.act s))).fab.waiting =
      s.fab.waiting ++ [⟨0x50 + k, i.target, some (i.operand % 64)⟩] := by
  have hfab : (withPlayers P (passTo i.act s)).fab = s.fab := (withPlayers_fab _ _).trans (passTo_fab _ _)
  generalize withPlayers P (passTo i.act s) = v at hfab
  rw [← hfab]
  rfl

/-- A GP step drives its pin: the level by its ACTION, which is due to be seen, and else as at a turn of the pin. -/
theorem gpStep_driven {n t : Nat} {s r : State} (P : Tab Player) (hn : n < 16) (act : Nat) (hfunc : s.rf (Reg.evfGpCfg n) 2 0 = 4)
    (hr : r = gpSet n act (withPlayers P (cellsNow (passTo t s)))) :
    tabGet false r.fab.gpDrive n = gpLevel act (tabGet false s.fab.gpDrive n) ∧
      (r.rb Reg.evfGpIn n ≠ tabGet false r.fab.gpDrive n → (tabGet none r.fab.gpSince n).isSome = true) ∧
      SameRegs [] (pinTurn (2 * (cellsNow (passTo t s)).now) n (cellsNow (passTo t s))) r ∧ SameBytes s r := by
  have hfunc' : (passTo t s).rf (Reg.evfGpCfg n) 2 0 = 4 := by
    have hpage : Reg.evfGpCfg n / 0x1000 = Page.evf := by simp only [Reg.evfGpCfg, Page.evf]; omega
    rw [rf_passTo (by rw [hpage]; decide)]
    exact hfunc
  have hbefore : tabGet false (cellsNow (passTo t s)).fab.gpDrive n = tabGet false s.fab.gpDrive n := by
    rw [(pinKept_cellsNow hn (passTo t s)).drive hfunc', passTo_fab]
  have hwithin : SameBytes (passTo t s) (pinTurn (2 * (cellsNow (passTo t s)).now) n (cellsNow (passTo t s))) :=
    ((Within.cellsNow (within_refl fabricPages (passTo t s))).pinTurn (2 * (cellsNow (passTo t s)).now) n).2
  rw [← hbefore]
  subst hr
  generalize cellsNow (passTo t s) = u at hwithin ⊢
  obtain ⟨hlevel, hdue, hregs, hmem⟩ := pinDriven_gpSet n (withPlayers P u) (act := act)
  obtain ⟨hregs', hmem'⟩ := pinTurn_withPlayers_regs P (2 * (withPlayers P u).now) n u
  refine ⟨?_, fun h => hdue (by rwa [hlevel] at h), fun a _ => ?_, fun a => ?_⟩
  · rw [hlevel, withPlayers_fab]
  · rw [State.reg, hregs, hregs', withPlayers_now, State.reg]
  · rw [State.byte, hmem, hmem', withPlayers_now, ← State.byte, hwithin a, State.byte, passTo_mem, State.byte]

theorem commitTaken_shown (C M : Nat) (s : State) :
    (commitTaken C M s).commit = some ⟨C, M, [], false⟩ ∧ (commitTaken C M s).rf Reg.sysEpochStatus 2 0 = 1 ∧
      SameRegs [Reg.sysEpochStatus] s (commitTaken C M s) ∧ (commitTaken C M s).mem = s.mem :=
  ⟨rfl, setRf_rf_eq (by decide) _ _ _ _, fun _ hout => setRf_reg_ne (fun h => hout (by simp [h])) _ _ _ _, rfl⟩

/-- Settles O42: each general step acts on the state to whose tick time has passed, without the step. -/
theorem generalStepsComplete : Obligations.GeneralStepsComplete := by
  unfold Obligations.GeneralStepsComplete
  refine ⟨fun s k i hi hop hq hact hsec => ⟨_, exec_publishStep hi hop hq hact hsec, exec_publishStep_waiting _,
      stepTaken_flight ((publishOn_players _ _ _ _).trans (withPlayers_players _ _)), fun a _ => (publishOn_reg _ _ _ _ a).trans (withPlayers_reg _ _ a),
      sameBytes_of_mem ((publishOn_mem _ _ _ _).trans ((withPlayers_mem _ _).trans (passTo_mem _ _)))⟩,
    fun s u k i n hi hop hq hact hn hheld hfunc hu => ?_, fun s k i hi hop hq hact hwait hmax => ?_,
    fun s k i p hi hop hact ha htake => ?_, fun s k i p hi hop ha hr hown => ?_, fun s k i hi hop hq hc hm => ?_⟩
  · rw [hn] at hheld hfunc ⊢
    rw [hu]
    refine ⟨_, exec_gpioStep hi hop hq hact hheld hfunc, ?_⟩
    generalize bits64 i.operand 5 4 = act
    exact gpStep_driven (stepTaken k i s).players (Nat.mod_lt i.operand (by decide)) act hfunc rfl
  · obtain ⟨-, hen⟩ := quiesced_false hq
    have hexec : exec (.snapStep k) s = .next (capture (withPlayers (stepTaken k i s).players (passTo i.act s))) := by
      change Host.Outcome.next _ = _
      rw [takeStep_of_next hi hop hq, atPage_onTime (by decide) hen hact]
    obtain ⟨hpair, hcount, hraw, hmem⟩ := capture_shown (s := withPlayers (stepTaken k i s).players (passTo i.act s))
      (by rw [withPlayers_time, passTo_time]; exact hwait)
    refine ⟨_, hexec, ?_, ?_, hraw, sameBytes_of_mem (hmem.trans ((withPlayers_mem _ _).trans (passTo_mem _ _)))⟩
    · rw [hpair, withPlayers_now, passTo_now, Nat.mod_mod, Nat.mod_eq_of_lt hmax]
    · rw [hcount, withPlayers_rf, rf_passTo (by decide)]
  · have haccess : Access (Reg.irqEn p / 0x1000) s (passTo i.act (stepTaken k i s)) :=
      Access.trans (t := stepTaken k i s) ⟨fun _ _ => rfl, rfl, rfl, rfl⟩ (access_passTo _ _ _)
    have htake' := haccess.takes htake
    refine ⟨_, exec_writeStep hi hop ha htake.1, ?_⟩
    rw [stepActed_of_onTime hact.le, stepWrite_of_takes htake', passTo_stepTaken]
    have hen : (passTo i.act s).reg (Reg.irqEn p) = s.reg (Reg.irqEn p) :=
      (timeKept_passTo i.act s).reg _ (irqEn_plain p).1 (irqEn_plain p).2
    have hne : Reg.irqEn (p : Nat) ≠ Reg.irqStat p := by simp only [Reg.irqEn, Reg.irqStat]; omega
    refine ⟨?_, stepTaken_flight ((enabled_players _ _ _).trans (withPlayers_players _ _)), fun a hout => ?_, sameBytes_of_mem ((enabled_mem _ _ _).trans ((withPlayers_mem _ _).trans (passTo_mem _ _)))⟩
    · rw [enabled, setReg_reg_ne hne, setReg_reg_eq, withPlayers_reg, hen]
      rfl
    · rw [enabled, setReg_reg_ne (fun h => hout (by simp [h])), setReg_reg_ne (fun h => hout (by simp [h])), withPlayers_reg]
  · have htaken : Access (Reg.irqEn p / 0x1000) s (passTo i.act (stepTaken k i s)) :=
      Access.trans (t := stepTaken k i s) ⟨fun _ _ => rfl, rfl, rfl, rfl⟩ (access_passTo _ _ _)
    have hacted := noted_stepActed p k i.act i.act i (passTo i.act (stepTaken k i s))
    have haccess := htaken.trans (hacted.access (q := Reg.irqEn p / 0x1000))
    have hown' : (stepActed k p i i.act i.act (passTo i.act (stepTaken k i s))).rf (Reg.owner p) 1 0 ≠ 2 := by
      rw [State.rf, haccess.reg _ (by simp [accessRegs, (irqEn_place p).1]), ← State.rf]
      exact hown
    refine ⟨_, exec_writeStep hi hop ha hr, ?_⟩
    rw [stepWrite_of_other (haccess.reaches hr) hown']
    have hrefused : Noted p (stepActed k p i i.act i.act (passTo i.act (stepTaken k i s))) (refusalErr p Err.ownerDenied
        (writeInfo .larkspur (Reg.irqEn p)) 0 (stepActed k p i i.act i.act (passTo i.act (stepTaken k i s)))) :=
      noted_of_onlyRegs (fun a ha => List.mem_append_left _ ha) (refusalErr_onlyReport (writeInfo_given _ _) (by decide) _ _ _)
    have hall := (hacted.trans hrefused).trans (noted_stepRefused p k i.slot Err.ownerDenied i.index _)
    have hen : (passTo i.act (stepTaken k i s)).reg (Reg.irqEn p) = s.reg (Reg.irqEn p) :=
      ((timeKept_passTo i.act (stepTaken k i s)).reg _ (irqEn_plain p).1 (irqEn_plain p).2).trans rfl
    exact ⟨(hall.regs _ (irqEn_not_noted p)).trans hen, stepRefused_irqRaw _ _ _ _ _,
      sameBytes_of_mem (hall.mem.trans ((passTo_mem _ _).trans rfl))⟩
  · obtain ⟨hcommit, hshown, hregs, hmem⟩ := commitTaken_shown (roundUp i.target 8) (roundUp i.target 8 - s.marginFt)
      (withPlayers (stepTaken k i s).players (passTo i.act s))
    exact ⟨_, exec_commitStep hi hop hq hc hm, hcommit, hshown, fun a hout => (hregs a hout).trans (withPlayers_reg _ _ a),
      sameBytes_of_mem (hmem.trans ((withPlayers_mem _ _).trans (passTo_mem _ _)))⟩

end Sys2Proof.Proofs
end

section
/-! PROOFS. The dispatch of exchanges, MARK and a waiting DISCOVER (O38; R22, R110–R112, R266). -/

namespace Sys2Proof.Proofs
open Sys2Proof Sys2Proof.Machine Sys2Proof.Laws

/-! ## A command leaves its queue -/

/-- The queues, their pins and what these publish have changed. -/
structure QueueOnly (s t : State) : Prop where
  regs : SameRegs settleRegs s t
  rest : { t with regs := s.regs, queue := s.queue, fab := s.fab } = s

theorem QueueOnly.trans {s t u : State} (h : QueueOnly s t) (h' : QueueOnly t u) : QueueOnly s u := by
  refine ⟨fun a ha => (h'.regs a ha).trans (h.regs a ha), ?_⟩
  calc { u with regs := s.regs, queue := s.queue, fab := s.fab }
      = { ({ u with regs := t.regs, queue := t.queue, fab := t.fab } : State) with regs := s.regs, queue := s.queue, fab := s.fab } := rfl
    _ = s := by rw [h'.rest, h.rest]

theorem queueOnly_modQueue (f : QueueSt → QueueSt) (s : State) : QueueOnly s (modQueue f s) := ⟨fun _ _ => rfl, rfl⟩

theorem queueOnly_publish (p t : Nat) (s : State) : QueueOnly s (publish p t s) := ⟨fun _ _ => rfl, rfl⟩

theorem queueOnly_of_onlyRegs {l : List Nat} {s t : State} (hl : ∀ a ∈ l, a ∈ settleRegs) (h : OnlyRegs l s t) : QueueOnly s t := by
  refine ⟨fun a ha => h.1 a fun hm => ha (hl a hm), ?_⟩
  calc { t with regs := s.regs, queue := s.queue, fab := s.fab }
      = { ({ t with regs := s.regs } : State) with queue := s.queue, fab := s.fab } := rfl
    _ = s := by rw [h.2.2]

theorem queueOnly_ite {c : Prop} [Decidable c] {s t u : State} (ht : QueueOnly s t) (hu : QueueOnly s u) : QueueOnly s (if c then t else u) := by
  split
  · exact ht
  · exact hu

theorem queueOnly_settle (s : State) : QueueOnly s (settle s) := by
  have hlatch : ∀ {f : QueueSt → QueueSt} {t u : State}, OnlyRegs settleRegs (modQueue f t) u → QueueOnly t u := fun h =>
    (queueOnly_modQueue _ _).trans (queueOnly_of_onlyRegs (fun _ ha => ha) h)
  have hhold : ∀ t : State, QueueOnly t (holdPin t) := fun t =>
    queueOnly_ite ((queueOnly_modQueue _ t).trans (queueOnly_publish _ _ _)) (queueOnly_modQueue _ t)
  have hlevel : ∀ (k : Nat) (b : Bool) (t : State), QueueOnly t (irqLevel Page.queue k b t) := fun k b t =>
    queueOnly_of_onlyRegs (by decide) (irqLevel_onlyRegs Page.queue k b t)
  have hattn : ∀ t : State, QueueOnly t (attnPin t) := fun t =>
    queueOnly_ite (((queueOnly_modQueue _ t).trans (hlevel _ _ _)).trans (queueOnly_publish _ _ _)) ((queueOnly_modQueue _ t).trans (hlevel _ _ _))
  exact ((((queueOnly_modQueue _ s).trans (hlatch (holdLatch_onlyRegs _))).trans (hlatch (attnLatch_onlyRegs _))).trans
    ((hhold _).trans (hattn _))).trans (hlevel _ _ _)

theorem queueOnly_popCmd (s : State) : QueueOnly s (popCmd s) :=
  ((queueOnly_modQueue _ s).trans (queueOnly_publish _ _ _)).trans (queueOnly_settle _)

theorem popCmd_cmd (s : State) : (popCmd s).queue.cmd = s.queue.cmd.tail := settle_cmd _

theorem QueueOnly.mem {s t : State} (h : QueueOnly s t) : t.mem = s.mem := (congrArg State.mem h.rest).trans rfl
theorem QueueOnly.sess {s t : State} (h : QueueOnly s t) : t.sess = s.sess := (congrArg State.sess h.rest).trans rfl
theorem QueueOnly.engs {s t : State} (h : QueueOnly s t) : t.engs = s.engs := (congrArg State.engs h.rest).trans rfl
theorem QueueOnly.boot {s t : State} (h : QueueOnly s t) : t.boot = s.boot := (congrArg State.boot h.rest).trans rfl

/-- Registers of the other pages read as before. -/
theorem QueueOnly.samePages {s t : State} (h : QueueOnly s t) : SamePages [Page.queue] s t := samePages_of_sameRegs (by decide) h.regs

theorem QueueOnly.reg {s t : State} (h : QueueOnly s t) {a : Nat} (ha : a / 0x1000 ≠ Page.queue) : t.reg a = s.reg a :=
  h.samePages a (by simpa using ha)

theorem QueueOnly.ctx {s t : State} (h : QueueOnly s t) : t.ctx = s.ctx := by
  funext k o
  rw [State.ctx, State.byte, h.mem, State.ctx, State.byte]

theorem QueueOnly.ctx16 {s t : State} (h : QueueOnly s t) : t.ctx16 = s.ctx16 := by
  funext k o
  simp only [State.ctx16, State.mem16, State.byte, h.mem]

theorem QueueOnly.ctx32 {s t : State} (h : QueueOnly s t) : t.ctx32 = s.ctx32 := by
  funext k o
  simp only [State.ctx32, State.mem32, State.mem16, State.byte, h.mem]

/-! ## What the checks of a command find -/

section
variable {s t : State} (h : QueueOnly s t)
include h

theorem QueueOnly.badHandle (i : Item) : t.badHandle i = s.badHandle i := by
  unfold State.badHandle State.sessState State.sessHandle
  rw [h.ctx, h.ctx16, h.sess]

theorem QueueOnly.ctrl {p : Nat} (hp : p ≠ Page.queue) (k : Nat) : t.rb (Reg.ctrl p) k = s.rb (Reg.ctrl p) k :=
  rb_of_reg_eq (h.reg (by rw [ctrl_page]; exact hp)) k

theorem QueueOnly.feStd (n : Nat) : t.feStd n = s.feStd n := by
  rw [State.feStd, State.rf, h.reg (by simp only [Reg.feMode, Page.queue]; omega), ← State.rf, State.feStd]

theorem QueueOnly.frameMax (k : Nat) : t.frameMax k = s.frameMax k := by rw [State.frameMax, h.ctx, State.frameMax]

theorem QueueOnly.framePar (x : Option Nat) (p : Nat) : t.framePar x p = s.framePar x p := by simp only [State.framePar, h.ctx, h.ctx32]

theorem QueueOnly.hfCheck (kind : Nat) (i : Item) (k : Nat) : hfCheck kind i k t = hfCheck kind i k s := by
  have hctrl : ∀ n, t.rb (Reg.ctrl (Page.fe n)) 0 = s.rb (Reg.ctrl (Page.fe n)) 0 := fun n => h.ctrl (by simp only [Page.fe, Page.queue]; omega) 0
  unfold Machine.hfCheck State.sessEngine State.sessKind State.protocolOk State.ratesOk State.presetOk State.lengthBad
  rw [h.ctx]
  dsimp only
  rw [hctrl, h.feStd, h.frameMax, h.framePar]

theorem QueueOnly.radioShut : t.radioShut = s.radioShut := by
  have hup : ∀ p, t.pageUp p = s.pageUp p := fun p => by rw [State.pageUp, rb_of_reg_eq (h.reg (by decide)), h.boot, State.pageUp]
  have hctrl : ∀ j, t.rb (Reg.ctrl (0x1f + j)) 0 = s.rb (Reg.ctrl (0x1f + j)) 0 := fun j => h.ctrl (by simp only [Page.queue]; omega) 0
  simp only [State.radioShut, hup, hctrl]

theorem QueueOnly.resClaim {c : Nat} (hc : c < 0x80) : t.reg (Reg.sysResClaim c) = s.reg (Reg.sysResClaim c) :=
  h.reg (by rw [sysResClaim_page hc]; decide)

theorem QueueOnly.linkChan : t.linkChan = s.linkChan := by
  have hentry : ∀ c ∈ List.range 8, (t.holder (0x60 + c) == 3 && t.resEntry (0x60 + c) % 4096 == 4) =
      (s.holder (0x60 + c) == 3 && s.resEntry (0x60 + c) % 4096 == 4) := fun c hc => by
    have hclaim := h.resClaim (c := 0x60 + c) (by have := List.mem_range.mp hc; omega)
    rw [State.holder, State.rf, State.resEntry, hclaim, State.holder, State.rf, State.resEntry]
  exact List.find?_congr hentry

theorem QueueOnly.linkCheck (xb : Bool) (i : Item) (k : Nat) : linkCheck xb i k t = linkCheck xb i k s := by
  have hctrl : ∀ n, t.rb (Reg.ctrl (Page.fe n)) 0 = s.rb (Reg.ctrl (Page.fe n)) 0 := fun n => h.ctrl (by simp only [Page.fe, Page.queue]; omega) 0
  unfold Machine.linkCheck State.sessEngine State.sessKind State.isBroadcast State.tagId State.xbPresetOk State.lkTxRate State.lkReplyRate State.txFcnt
  rw [h.ctx, h.ctx16, h.ctx32, h.radioShut, h.linkChan]
  dsimp only
  rw [hctrl, h.feStd, h.frameMax, h.framePar]

end

/-! ## The reservation of frame-pool blocks (R22) -/

/-- Blocks `b` are laid out with the payload, one after the other. -/
def laidOut (b : List Nat) (tx : List Byte) (l : List Nat) (s : State) : State :=
  l.foldl (fun u j => setBytes (poolBase + 512 * b.getD j 0) ((tx.drop (512 * j)).take 512) u) s

theorem setBytes_rest (l : List Byte) (a : Nat) (s : State) : { setBytes a l s with mem := s.mem } = s :=
  (congrArg (fun u : State => { u with mem := s.mem }) (setBytes_eq l a s)).trans rfl

theorem laidOut_rest (b : List Nat) (tx : List Byte) (l : List Nat) (s : State) : { laidOut b tx l s with mem := s.mem } = s := by
  induction l generalizing s with
  | nil => rfl
  | cons j l ih =>
    have hone := setBytes_rest ((tx.drop (512 * j)).take 512) (poolBase + 512 * b.getD j 0) s
    have hrest := ih (setBytes (poolBase + 512 * b.getD j 0) ((tx.drop (512 * j)).take 512) s)
    exact (congrArg (fun u : State => { u with mem := s.mem }) hrest).trans hone

theorem laidOut_byte (b : List Nat) (tx : List Byte) {l : List Nat} (hl : ∀ j ∈ l, j < b.length) {a : Nat}
    (ha : ∀ x ∈ b, a < poolBase + 512 * x ∨ poolBase + 512 * x + 512 ≤ a) (s : State) : (laidOut b tx l s).byte a = s.byte a := by
  induction l generalizing s with
  | nil => rfl
  | cons j l ih =>
    have hj := hl j List.mem_cons_self
    have hlen : ((tx.drop (512 * j)).take 512).length ≤ 512 := by rw [List.length_take]; exact Nat.min_le_left _ _
    have hout := ha (b.getD j 0) (by rw [List.getD_eq_getElem _ _ hj]; exact List.getElem_mem hj)
    exact (ih (fun x hx => hl x (List.mem_cons_of_mem j hx)) _).trans (setBytes_byte_ne _ (by omega) s)

/-- The blocks that an exchange of slot `k` takes. -/
def taking (s : State) (k : Nat) : List Nat := s.freePool.take (s.frameMax k)

/-- The session tables with the blocks of slot `k`. -/
def blocksAdded (k : Nat) (b : List Nat) (x : SessSt) : SessSt := { x with blocks := tabSet [] x.blocks k (tabGet [] x.blocks k ++ b) }

theorem reserve_eq (k : Nat) (tx : List Byte) (s : State) :
    reserve k tx s = laidOut (taking s k) tx (List.range (taking s k).length) (framesArea k (modSess (blocksAdded k (taking s k)) s)) := rfl

theorem framesArea_rest (k : Nat) (s : State) : { framesArea k s with mem := s.mem, free := s.free } = s := by
  unfold framesArea
  generalize (List.range 32).map _ = l
  exact congrArg (fun u : State => { u with free := s.free }) (setBytes_rest l _ s)

theorem framesArea_byte (k : Nat) {a : Nat} (ha : a < ctxAddr k 0x60 ∨ ctxAddr k 0x60 + 0x20 ≤ a) (s : State) :
    (framesArea k s).byte a = s.byte a := by
  have hlen : ((List.range 32).map (fun j => (BitVec.ofNat 8 (Config.freeValue (s.free + j)) : Byte))).length = 0x20 := by
    rw [List.length_map, List.length_range]
  unfold framesArea
  generalize (List.range 32).map _ = l at hlen ⊢
  exact setBytes_byte_ne l (by omega) s

/-- A reservation takes the blocks and writes their frames, and changes nothing else. -/
theorem reserve_rest (k : Nat) (tx : List Byte) (s : State) :
    { reserve k tx s with mem := s.mem, free := s.free } = modSess (blocksAdded k (taking s k)) s := by
  rw [reserve_eq]
  generalize hu : framesArea k (modSess (blocksAdded k (taking s k)) s) = u
  have harea : ({ u with mem := s.mem, free := s.free } : State) = modSess (blocksAdded k (taking s k)) s := by
    rw [← hu]
    exact framesArea_rest k (modSess (blocksAdded k (taking s k)) s)
  exact (congrArg (fun v : State => { v with mem := s.mem, free := s.free }) (laidOut_rest _ _ _ u)).trans harea

theorem reserve_bytes (k : Nat) (tx : List Byte) (s : State) : SameBytesOutside (s.reserved k) s (reserve k tx s) := by
  intro a ha
  have harea := ha (ctxAddr k 0x60, 0x20) List.mem_cons_self
  have hpool : ∀ x ∈ taking s k, a < poolBase + 512 * x ∨ poolBase + 512 * x + 512 ≤ a := fun x hx =>
    ha (poolBase + 512 * x, 512) (List.mem_cons_of_mem _ (List.mem_map_of_mem hx))
  rw [reserve_eq, laidOut_byte _ _ (fun j hj => List.mem_range.mp hj) hpool, framesArea_byte k harea]
  rfl

/-! ## The dispatch of an exchange -/

/-- What an exchange finds that is dispatched with a good handle while its pending list has room (R112). -/
theorem dispatchExchange_eq {typ : Nat} {check : Item → Nat → State → Option (Nat × Nat × Nat)} {note : Item → Nat → State → State}
    {tx : Item → List Byte} {i : Item} {s : State} (hd : s.dispatches typ i) (hb : s.badHandle i = none)
    (ho : s.sessState i.slot ≠ SessState.opened) (hp : (s.pendOf i.slot).length < s.pendMax) :
    dispatchExchange typ check note tx s =
      (match check i i.slot (popCmd s) with
      | some (e, d, x) => refuse i e d x (note i i.slot (popCmd s))
      | none =>
        if (popCmd s).freePool.length < (popCmd s).frameMax i.slot then
          refuse i Err.resourceBusy (holderPool (popCmd s).freePool.length) noIndex (popCmd s)
        else setPend i.slot ((popCmd s).pendOf i.slot ++ [i]) (reserve i.slot (tx i) (popCmd s))) := by
  have hpop := queueOnly_popCmd s
  have hstate : (popCmd s).sessState i.slot ≠ SessState.opened := by rwa [State.sessState, hpop.ctx]
  have hroom : ¬ (s.badHandle i = none ∧ s.sessState i.slot ≠ SessState.opened ∧ s.pendMax ≤ (s.pendOf i.slot).length) := fun h =>
    absurd h.2.2 (Nat.not_le.mpr hp)
  rw [dispatchExchange, hd]
  dsimp only
  rw [if_neg hroom, dispatchSession, dispatch, hd]
  dsimp only
  rw [hpop.badHandle, hb]
  dsimp only
  rw [if_neg hstate] <;> rfl

/-- The exchange joins its session's pending list with its blocks reserved. -/
def exchangeTaken (tx : List Byte) (i : Item) (s : State) : State := setPend i.slot (s.pendOf i.slot ++ [i]) (reserve i.slot tx s)

theorem exchangeTaken_shown (tx : List Byte) (i : Item) (s : State) :
    (exchangeTaken tx i s).pendOf i.slot = s.pendOf i.slot ++ [i] ∧
      tabGet [] (exchangeTaken tx i s).sess.blocks i.slot = tabGet [] s.sess.blocks i.slot ++ taking s i.slot ∧
      (exchangeTaken tx i s).queue = s.queue ∧ (exchangeTaken tx i s).regs = s.regs ∧ SameBytesOutside (s.reserved i.slot) s (exchangeTaken tx i s) := by
  have hrest := reserve_rest i.slot tx s
  have hsess : (reserve i.slot tx s).sess = blocksAdded i.slot (taking s i.slot) s.sess := (congrArg State.sess hrest).trans rfl
  refine ⟨tabGet_tabSet_self _ _ _ _, ?_, (congrArg State.queue hrest).trans rfl, (congrArg State.regs hrest).trans rfl, reserve_bytes i.slot tx s⟩
  have hblocks : (exchangeTaken tx i s).sess.blocks = (reserve i.slot tx s).sess.blocks := rfl
  rw [hblocks, hsess]
  exact tabGet_tabSet_self _ _ _ _

/-- A good exchange for which there are blocks. -/
theorem dispatchExchange_taken {typ : Nat} {check : Item → Nat → State → Option (Nat × Nat × Nat)} {note : Item → Nat → State → State}
    {tx : Item → List Byte} {i : Item} {s : State} (hd : s.dispatches typ i) (hb : s.badHandle i = none)
    (ho : s.sessState i.slot ≠ SessState.opened) (hp : (s.pendOf i.slot).length < s.pendMax) (hc : check i i.slot (popCmd s) = none)
    (hf : s.frameMax i.slot ≤ s.freePool.length) :
    let t := dispatchExchange typ check note tx s
    t.pendOf i.slot = s.pendOf i.slot ++ [i] ∧
      tabGet [] t.sess.blocks i.slot = tabGet [] s.sess.blocks i.slot ++ s.freePool.take (s.frameMax i.slot) ∧
      t.queue.cmd = s.queue.cmd.tail ∧ SamePages [Page.queue] s t ∧ SameBytesOutside (s.reserved i.slot) s t := by
  have hpop := queueOnly_popCmd s
  have hpool : (popCmd s).freePool = s.freePool := by rw [State.freePool, hpop.sess, State.freePool]
  have htaken : dispatchExchange typ check note tx s = exchangeTaken (tx i) i (popCmd s) := by
    rw [dispatchExchange_eq hd hb ho hp, hc, hpool, hpop.frameMax]
    exact if_neg (Nat.not_lt.mpr hf)
  obtain ⟨hpend, hblocks, hqueue, hregs, hbytes⟩ := exchangeTaken_shown (tx i) i (popCmd s)
  have hreserved : (popCmd s).reserved i.slot = s.reserved i.slot := by rw [State.reserved, hpool, hpop.frameMax, State.reserved]
  have hold : (popCmd s).pendOf i.slot = s.pendOf i.slot := by rw [State.pendOf, hpop.sess, State.pendOf]
  rw [htaken]
  refine ⟨by rw [hpend, hold], by rw [hblocks, hpop.sess, taking, hpool, hpop.frameMax], by rw [hqueue, popCmd_cmd],
    fun a ha => ?_, fun a ha => ?_⟩
  · rw [State.reg, hregs, ← State.reg]
    exact hpop.samePages a ha
  · rw [hreserved] at hbytes
    rw [hbytes a ha, State.byte, hpop.mem, State.byte]

/-! ## MARK (R111) -/

/-- An answer without an error, which ends nothing, is posted or waits, and the other queues stay. -/
theorem postResult_plain {i : Item} (herr : i.err = 0) (hcls : i.cls = none) (h30 : i.typ ≠ 0x30) (h31 : i.typ ≠ 0x31) (src : Nat) (s : State) :
    (postResult i src 0 s).posted i.typ i.seq i.handle i.err i.payload = true ∧ (postResult i src 0 s).queue.cmd = s.queue.cmd ∧
      Within [5] s (postResult i src 0 s) := by
  unfold postResult
  split
  · obtain ⟨-, hposted, hwithin⟩ := putResult_plain herr hcls h30 h31 src s.now s
    refine ⟨hposted, ?_, hwithin⟩
    rw [putResult_of_ok herr hcls, postedEnds_of_plain h30 h31, settle_cmd]
    rfl
  · exact ⟨posted_of_held (l := s.queue.held) rfl, rfl, within_of_eq _ rfl rfl⟩

theorem dispatch_eq {typ : Nat} {i : Item} {s : State} (hd : s.dispatches typ i) (f : Item → State → State) : dispatch typ f s = f i (popCmd s) := by
  rw [dispatch, hd]

theorem typ_of_dispatches {typ : Nat} {i : Item} {s : State} (hd : s.dispatches typ i) : i.typ = typ := by
  unfold State.dispatches State.headCmd at hd
  split at hd
  · cases hd
  · split at hd
    · rename_i h
      cases hd
      exact h.1
    · cases hd

theorem exec_mark {i : Item} {s : State} (hd : s.dispatches 0x20 i) :
    exec .mark s = .next (postResult (answer i i.handle 0 0 postTick i.payload) 6 0 (popCmd s)) := by
  change Host.Outcome.next _ = _
  rw [dispatch_eq hd]

/-! ## Too few blocks (R22) -/

/-- A refusal of slot `k`'s counts in its context (R31). -/
theorem incCtx16_counts (k o : Nat) (s : State) : { incCtx16 k o s with mem := s.mem } = s ∧ SameBytesBut (ctxAddr k o) 2 s (incCtx16 k o s) :=
  ⟨setBytes_rest _ _ s, setMem_sameBytesBut 2 (ctxAddr k o) _ s⟩

/-- Result `i` counts in the context of slot `k` alone, if anywhere (R31). -/
theorem countResult_refusal {i : Item} {k : Nat} {s : State} (hk : s.slotOf i.handle = some k) (herr : i.err = Err.resourceBusy) (src : Nat) :
    countResult i src s = incCtx16 k 0xbc s := by
  have hother : ¬ (i.err = Err.crcFail ∨ i.err = Err.falseSync ∨ i.err = Err.captured ∨ (i.err = Err.truncated ∧ spaced src)) := by
    rw [herr]
    rintro (h | h | h | ⟨h, -⟩) <;> exact absurd h (by decide)
  unfold countResult
  rw [hk]
  dsimp only
  rw [if_neg (by rw [herr]; decide), if_neg hother]

/-- Nothing but the counts of slot `k`'s context, registers and the queues has changed. -/
structure Counted (k : Nat) (s t : State) : Prop where
  sess : t.sess = s.sess
  bytes : SameBytesBut (ctxAddr k 0xbc) 2 s t

theorem Counted.trans {k : Nat} {s t u : State} (h : Counted k s t) (h' : Counted k t u) : Counted k s u :=
  ⟨h'.sess.trans h.sess, fun a ha => (h'.bytes a ha).trans (h.bytes a ha)⟩

theorem counted_of_eq (k : Nat) {s t : State} (hs : t.sess = s.sess) (hm : t.mem = s.mem) : Counted k s t :=
  ⟨hs, fun a _ => sameBytes_of_mem hm a⟩

theorem counted_of_queueOnly (k : Nat) {s t : State} (h : QueueOnly s t) : Counted k s t := counted_of_eq k h.sess h.mem

/-- A refusal with RESOURCE_BUSY is posted, or waits. -/
theorem postResult_refusal {i : Item} {k : Nat} {s : State} (hk : s.slotOf i.handle = some k) (herr : i.err = Err.resourceBusy) (h30 : i.typ ≠ 0x30)
    (h31 : i.typ ≠ 0x31) (src : Nat) :
    (postResult i src 0 s).posted i.typ i.seq i.handle i.err i.payload = true ∧ Counted k s (postResult i src 0 s) := by
  unfold postResult
  split
  · obtain ⟨hrest, hbytes⟩ := incCtx16_counts k 0xbc (modQueue (resultAdded i src s.now s.resFill) s)
    have hslot : (modQueue (resultAdded i src s.now s.resFill) s).slotOf i.handle = some k := hk
    have hput : putResult i src 0 s.now s = settle (faultOpt i.cls i.page i.err (publish 0xe8 s.now
        (incCtx16 k 0xbc (modQueue (resultAdded i src s.now s.resFill) s)))) := by
      rw [← countResult_refusal hslot herr src, ← postedEnds_of_plain h30 h31 s.now (faultOpt i.cls i.page i.err _)]
      rfl
    rw [hput]
    have hfault := faultOpt_onlyRegs i.cls i.page i.err (publish 0xe8 s.now (incCtx16 k 0xbc (modQueue (resultAdded i src s.now s.resFill) s)))
    have hqueue : (incCtx16 k 0xbc (modQueue (resultAdded i src s.now s.resFill) s)).queue = resultAdded i src s.now s.resFill s.queue :=
      (congrArg State.queue hrest).trans rfl
    refine ⟨posted_of_res (l := s.queue.res) (t := s.now) ?_, ?_⟩
    · rw [settle_res, queue_of_onlyRegs hfault, publish_queue, hqueue, resultAdded]
    · refine Counted.trans (t := incCtx16 k 0xbc (modQueue (resultAdded i src s.now s.resFill) s))
        ⟨(congrArg State.sess hrest).trans rfl, fun a ha => (hbytes a ha).trans rfl⟩ ?_
      refine Counted.trans (counted_of_eq k ?_ ?_) (counted_of_queueOnly k (queueOnly_settle _))
      · exact (field_of_onlyRegs State.sess (fun _ _ => rfl) hfault).trans rfl
      · exact (mem_of_onlyRegs hfault).trans rfl
  · exact ⟨posted_of_held (l := s.queue.held) rfl, counted_of_eq k rfl rfl⟩

theorem slotOf_of_goodHandle {i : Item} {s : State} (h : s.badHandle i = none) : s.slotOf i.handle = some i.slot := by
  unfold State.badHandle at h
  split at h
  · cases h
  · rename_i hfree
    split at h
    · cases h
    · rename_i hstale
      rw [not_or] at hfree hstale
      exact if_pos ⟨hfree.1, not_not.mp hstale.1, hfree.2⟩

theorem freePool_length (s : State) : s.freePool.length ≤ 256 :=
  (List.length_filter_le _ _).trans (List.length_range (n := 256)).le

/-- What names the frame pool as holder stands in the refusal as it is (R154). -/
theorem refusalWord_pool {n : Nat} (h : n ≤ 256) : refusalWord (holderPool n) = holderPool n :=
  if_neg (by simp only [holderPool, openDetail]; omega)

/-- An HF_EXCHANGE refused with the frame pool as holder (R22, R154). -/
theorem refuse_busy {i : Item} {k n : Nat} {s : State} (htyp : i.typ = 0x08) (hk : s.slotOf i.handle = some k) (hn : n ≤ 256) :
    (refuse i Err.resourceBusy (holderPool n) noIndex s).posted 0x08 i.seq i.handle Err.resourceBusy [wd (holderPool n), wd noIndex] = true ∧
      Counted k s (refuse i Err.resourceBusy (holderPool n) noIndex s) := by
  have hindex : refusalWord noIndex % 65536 = noIndex := by decide
  have hrefuse : refuse i Err.resourceBusy (holderPool n) noIndex s =
      postResult (answer i i.handle Err.resourceBusy (s.placeOf i.handle) postTick [wd (holderPool n), wd noIndex]) 5 0 s := by
    rw [refuse, refuseFor, refusalWord_pool hn, hindex]
  have htyp' : (answer i i.handle Err.resourceBusy (s.placeOf i.handle) postTick [wd (holderPool n), wd noIndex]).typ = 0x08 := htyp
  obtain ⟨hposted, hcounted⟩ := postResult_refusal (k := k) (s := s)
    (i := answer i i.handle Err.resourceBusy (s.placeOf i.handle) postTick [wd (holderPool n), wd noIndex]) hk rfl
    (by rw [htyp']; decide) (by rw [htyp']; decide) 5
  rw [htyp'] at hposted
  rw [hrefuse]
  exact ⟨hposted, hcounted⟩

/-! ## A DISCOVER that waits (R266) -/

section
variable {s t : State} (h : QueueOnly s t)
include h

theorem QueueOnly.eng (n : Nat) : t.eng n = s.eng n := by rw [State.eng, h.engs, State.eng]

theorem QueueOnly.feHolds (n : Nat) {c : Nat} (hc : c < 12) : t.feHolds n c = s.feHolds n c := feHolds_of_reg (h.resClaim (by omega))

theorem QueueOnly.discBad (i : Item) (n : Nat) : t.discBad i n = s.discBad i n := by
  have hcoils : t.heldCoils n = s.heldCoils n := List.filter_congr fun c hc => h.feHolds n (List.mem_range.mp hc)
  rw [State.discBad, h.feStd, h.ctrl (p := Page.fe n) (by simp only [Page.fe, Page.queue]; omega), hcoils, State.discBad]

theorem QueueOnly.engFree {n : Nat} : t.engFree n = s.engFree n := by
  have hlsp : ∀ a, a / 0x1000 = Page.lsp → t.reg a = s.reg a := fun a ha => h.reg (by rw [ha]; decide)
  have hfe : ∀ a, a / 0x1000 = Page.fe n → t.reg a = s.reg a := fun a ha => h.reg (by rw [ha]; simp only [Page.fe, Page.queue]; omega)
  have hplayer : t.playerFree n = s.playerFree n := by
    have hst : t.reg (Reg.lspPlStatus n) = s.reg (Reg.lspPlStatus n) := h.reg (by simp only [Reg.lspPlStatus, Page.queue]; omega)
    have hctrl : t.reg (Reg.lspPlCtrl n) = s.reg (Reg.lspPlCtrl n) := h.reg (by simp only [Reg.lspPlCtrl, Page.queue]; omega)
    simp only [State.playerFree, State.playing, State.holdAsked, State.heldPlayer, State.quiesced, rb_of_reg_eq hst, rb_of_reg_eq hctrl,
      rb_of_reg_eq (hlsp _ (ctrl_page _)), rb_of_reg_eq (hlsp _ (status_page _))]
  simp only [State.engFree, h.eng, hplayer, rb_of_reg_eq (hfe _ (ctrl_page _)), rb_of_reg_eq (hfe _ (status_page _))]

end

/-- A DISCOVER that FEn does not yet take (R266). -/
def discWaits (n : Nat) (i : Item) (s : State) : State := modEng n (fun e => { e with discWait := some i }) s

theorem discWaits_shown (n : Nat) (i : Item) (s : State) : ((discWaits n i s).eng n).discWait = some i ∧ (discWaits n i s).queue = s.queue ∧
    (∀ a, (discWaits n i s).reg a = s.reg a) ∧ (discWaits n i s).mem = s.mem :=
  ⟨congrArg Eng.discWait (setEng_eng_eq n _ s), rfl, fun _ => rfl, rfl⟩

theorem startDisc_waits {n : Nat} {i : Item} {s : State} (h : s.engFree n = false) : startDisc n (discWaits n i s) = discWaits n i s := by
  have heng : (discWaits n i s).eng n = { s.eng n with discWait := some i } := setEng_eng_eq n _ s
  have hfree : (discWaits n i s).engFree n = false := by
    rw [← h, State.engFree, heng, State.engFree]
    rfl
  rw [startDisc, heng]
  dsimp only
  rw [hfree]
  rfl

theorem exec_discover_waits {n : EngIx} {i : Item} {s : State} (hd : s.dispatches 0x0c i) (hn : fld (i.word 4) 27 26 = n)
    (hbad : s.discBad i n = false) (hdisc : (s.eng n).disc = none) (hwait : (s.eng n).discWait = none) (hfree : s.engFree n = false) :
    exec .discover s = .next (discWaits n i (popCmd s)) := by
  have hpop := queueOnly_popCmd s
  have hnone : ¬ (((popCmd s).eng n).disc.isSome = true ∨ ((popCmd s).eng n).discWait.isSome = true) := by
    rw [hpop.eng, hdisc, hwait]
    decide
  change Host.Outcome.next _ = _
  rw [dispatch_eq hd]
  dsimp only
  rw [hn, hpop.discBad, hbad, if_neg Bool.false_ne_true, if_neg hnone]
  exact congrArg _ (startDisc_waits (by rw [hpop.engFree, hfree]))

/-! ## The obligation -/

/-- Settles O38: each command by the state it leaves once it has left its queue. -/
theorem exchangeDispatchComplete : Obligations.ExchangeDispatchComplete := by
  unfold Obligations.ExchangeDispatchComplete
  refine ⟨fun s i hd => ?_, fun s i hd hb ho hp hc hf => ?_, fun s i hd hb ho hp hc hf => ?_, fun s i hd hb ho hp hc hf => ?_,
    fun s i hd hb ho hp hc hf => ?_, fun s i n hd hn hbad hdisc hwait hfree => ?_⟩
  · have hpop := queueOnly_popCmd s
    have htyp := typ_of_dispatches hd
    obtain ⟨hposted, hcmd, hpages, hbytes⟩ := postResult_plain (i := answer i i.handle 0 0 postTick i.payload) rfl rfl
      (by rw [answer, htyp]; decide) (by rw [answer, htyp]; decide) 6 (popCmd s)
    exact ⟨_, exec_mark hd, htyp ▸ hposted, hcmd.trans (popCmd_cmd s), fun a ha => (hpages a ha).trans (hpop.samePages a ha),
      fun a => (hbytes a).trans (sameBytes_of_mem hpop.mem a)⟩
  · exact ⟨_, rfl, dispatchExchange_taken hd hb ho hp (((queueOnly_popCmd s).hfCheck 0 i i.slot).trans hc) hf⟩
  · obtain ⟨hpend, hblocks, -, hpages, hbytes⟩ := dispatchExchange_taken (note := fun _ _ => id) (tx := linkPayload) hd hb ho hp
      (((queueOnly_popCmd s).linkCheck false i i.slot).trans hc) hf
    exact ⟨_, rfl, hpend, hblocks, hpages, hbytes⟩
  · obtain ⟨hpend, hblocks, -, hpages, hbytes⟩ := dispatchExchange_taken (note := fun _ _ => id) (tx := linkPayload) hd hb ho hp
      (((queueOnly_popCmd s).linkCheck true i i.slot).trans hc) hf
    exact ⟨_, rfl, hpend, hblocks, hpages, hbytes⟩
  · have hpop := queueOnly_popCmd s
    have htyp := typ_of_dispatches hd
    have hpool : (popCmd s).freePool = s.freePool := by rw [State.freePool, hpop.sess, State.freePool]
    have hexec : exec .hfExchange s = .next (refuse i Err.resourceBusy (holderPool s.freePool.length) noIndex (popCmd s)) := by
      change Host.Outcome.next _ = _
      rw [dispatchExchange_eq hd hb ho hp, hpop.hfCheck, hc, hpool, hpop.frameMax]
      exact congrArg _ (if_pos hf)
    have hslot : (popCmd s).slotOf i.handle = some i.slot := slotOf_of_goodHandle ((hpop.badHandle i).trans hb)
    obtain ⟨hposted, hcounted⟩ := refuse_busy htyp hslot (freePool_length s)
    exact ⟨_, hexec, hposted, hcounted.sess.trans hpop.sess, fun a ha => (hcounted.bytes a ha).trans (sameBytes_of_mem hpop.mem a)⟩
  · have hpop := queueOnly_popCmd s
    obtain ⟨hwaits, hqueue, hregs, hmem⟩ := discWaits_shown n i (popCmd s)
    exact ⟨_, exec_discover_waits hd hn hbad hdisc hwait hfree, hwaits, hqueue ▸ popCmd_cmd s, fun a ha => (hregs a).trans (hpop.samePages a ha),
      sameBytes_of_mem (hmem.trans hpop.mem)⟩

end Sys2Proof.Proofs
end

section
/-! PROOFS. The start of the device (O22; R75–R82): what follows the opening of the pages leaves their headers, the claims and RST. -/

namespace Sys2Proof.Proofs
open Sys2Proof Sys2Proof.Machine Sys2Proof.Laws

/-! ## What the start leaves once the pages are open -/

/-- CTRL and OWNER of every page, and the registers of SYS and RST. -/
def startReg (a : Nat) : Bool := a % 0x1000 == 0x08 || a % 0x1000 == 0x24 || a / 0x1000 == Page.sys || a / 0x1000 == Page.rst

/-- Those registers read as before. -/
def StartKept (s t : State) : Prop := ∀ a, startReg a = true → t.reg a = s.reg a

theorem StartKept.refl (s : State) : StartKept s s := fun _ _ => rfl

section
variable {r s : State}

theorem StartKept.eq (h : StartKept r s) {t : State} (hr : t.regs = s.regs) : StartKept r t := fun a ha => by
  rw [State.reg, hr, ← State.reg, h a ha]

theorem StartKept.setReg (h : StartKept r s) {a : Nat} (ha : startReg a = false) (w : Word) : StartKept r (setReg a w s) := fun x hx =>
  (setReg_reg_ne (by rintro rfl; rw [hx] at ha; cases ha) w s).trans (h x hx)

theorem StartKept.setRf (h : StartKept r s) {a : Nat} (ha : startReg a = false) (hi lo v : Nat) : StartKept r (setRf a hi lo v s) := h.setReg ha _
theorem StartKept.setRb (h : StartKept r s) {a : Nat} (ha : startReg a = false) (k : Nat) (b : Bool) : StartKept r (setRb a k b s) := h.setReg ha _
theorem StartKept.addRf (h : StartKept r s) {a : Nat} (ha : startReg a = false) (hi lo n : Nat) : StartKept r (addRf a hi lo n s) := h.setReg ha _

theorem StartKept.modRadio (h : StartKept r s) (f : RadioSt → RadioSt) : StartKept r (modRadio f s) := h.eq rfl
theorem StartKept.modRx (h : StartKept r s) (f : RxSt → RxSt) : StartKept r (modRx f s) := h.eq rfl
theorem StartKept.modMgt (h : StartKept r s) (f : MgtSt → MgtSt) : StartKept r (modMgt f s) := h.eq rfl
theorem StartKept.modNvm (h : StartKept r s) (f : NvmSt → NvmSt) : StartKept r (modNvm f s) := h.eq rfl
theorem StartKept.publish (h : StartKept r s) (p t : Nat) : StartKept r (publish p t s) := h.eq rfl
theorem StartKept.publishOn (h : StartKept r s) (p c t : Nat) : StartKept r (publishOn p c t s) := h.eq rfl

theorem StartKept.ite {c : Prop} [Decidable c] {t u : State} (ht : StartKept r t) (hu : StartKept r u) : StartKept r (if c then t else u) := by
  split
  · exact ht
  · exact hu

theorem StartKept.sif (h : StartKept r s) {f : State → State} (c : Bool) (hf : ∀ t, StartKept r t → StartKept r (f t)) : StartKept r (sif c f s) :=
  StartKept.ite (hf s h) h

theorem StartKept.foldl {α : Type} {f : State → α → State} (h : StartKept r s) {xs : List α}
    (hf : ∀ x ∈ xs, ∀ t, StartKept r t → StartKept r (f t x)) : StartKept r (xs.foldl f s) := by
  induction xs generalizing s with
  | nil => exact h
  | cons x xs ih => exact ih (hf x List.mem_cons_self s h) fun y hy => hf y (List.mem_cons_of_mem x hy)

/-- The header registers of a report are none of those, but for SYS and RST. -/
theorem startReg_report {p : Nat} (hp : p ≠ Page.sys ∧ p ≠ Page.rst) :
    startReg (Reg.irqRaw p) = false ∧ startReg (Reg.irqStat p) = false ∧ startReg (Reg.errCode p) = false ∧ startReg (Reg.errInfo p) = false := by
  have hout : ∀ off < 0x1000, off ≠ 0x08 → off ≠ 0x24 → startReg (p * 0x1000 + off) = false := fun off hlt h8 h24 => by
    have hdiv : (p * 0x1000 + off) / 0x1000 = p := by omega
    have hmod : (p * 0x1000 + off) % 0x1000 = off := by omega
    simp only [startReg, hdiv, hmod, Bool.or_eq_false_iff, beq_eq_false_iff_ne]
    exact ⟨⟨⟨h8, h24⟩, hp.1⟩, hp.2⟩
  exact ⟨hout 0x10 (by decide) (by decide) (by decide), hout 0x18 (by decide) (by decide) (by decide), hout 0x28 (by decide) (by decide) (by decide),
    hout 0x2c (by decide) (by decide) (by decide)⟩

theorem StartKept.irq (h : StartKept r s) {p : Nat} (hp : p ≠ Page.sys ∧ p ≠ Page.rst) (k : Nat) : StartKept r (irq p k s) := by
  obtain ⟨hraw, hstat, -⟩ := startReg_report hp
  exact StartKept.ite ((h.setRb hraw k true).setRb hstat k true) (h.setRb hraw k true)

theorem StartKept.fault (h : StartKept r s) (cls p code : Nat) : StartKept r (fault cls p code s) :=
  StartKept.sif (h.sif _ fun _ ht => (ht.setRb (a := Reg.dbgFaultSum) (by decide) cls true).irq (p := Page.dbg) (by decide) 0) _ fun _ ht =>
    ((ht.setReg (a := Reg.dbgFirst) (by decide) _).setReg (a := Reg.dbgFirstTickLo) (by decide) _).setReg (a := Reg.dbgFirstTickLo + 4) (by decide) _

theorem StartKept.recErr (h : StartKept r s) {p : Nat} (hp : p ≠ Page.sys ∧ p ≠ Page.rst) (code info extra : Nat) :
    StartKept r (recErr p code info extra s) := fun a ha => by
  obtain ⟨hraw, hstat, hcode, hinfo⟩ := startReg_report hp
  have hclosed : ∀ x ∈ [Reg.dbgFaultSum, Reg.dbgFirst, Reg.dbgFirstTickLo, Reg.dbgFirstTickHi, Reg.irqRaw Page.dbg, Reg.irqStat Page.dbg],
      startReg x = false := by decide
  have hout : a ∉ reportRegs p := fun hm => by
    simp only [reportRegs, List.mem_cons, List.not_mem_nil, or_false] at hm
    rcases hm with rfl | rfl | rfl | rfl | hm
    · rw [hcode] at ha; cases ha
    · rw [hinfo] at ha; cases ha
    · rw [hraw] at ha; cases ha
    · rw [hstat] at ha; cases ha
    · rw [hclosed a (by simpa only [List.mem_cons, List.not_mem_nil, or_false] using hm)] at ha
      cases ha
  exact (recErr_sameRegs p code info extra s a hout).trans (h a ha)

/-! ## The log -/

theorem StartKept.consoleAdd (h : StartKept r s) (x : List Word) : StartKept r (consoleAdd x s) :=
  StartKept.ite h (StartKept.ite (h.modMgt _) (h.addRf (a := Reg.dbgConsole) (by decide) 8 1 1))

theorem StartKept.logWrite (h : StartKept r s) (x : LogRec) : StartKept r (logWrite x s) := by
  have hnoted := fun f => (h.modNvm f).irq (p := Page.log) (by decide) 0
  exact StartKept.ite h (StartKept.consoleAdd (StartKept.ite (((hnoted _).irq (p := Page.log) (by decide) 1).publish _ _) (hnoted _)) _)

theorem StartKept.logFlush (h : StartKept r s) : StartKept r (logFlush s) :=
  StartKept.ite ((h.modMgt _).foldl fun x _ _ ht => ht.logWrite x) h

theorem StartKept.logRec (h : StartKept r s) (x : LogRec) : StartKept r (logRec x s) := StartKept.ite (h.logFlush.logWrite x) (h.modMgt _)

theorem StartKept.selShow (h : StartKept r s) : StartKept r (selShow s) := by
  have hreg : ∀ k < 8, startReg (Reg.logRec k) = false := by decide
  have hshown := (h.setRb (a := Reg.logStatus2) (by decide) 0
    (decide ((tabGet [] s.nvm.log (s.rf Reg.logSel 11 0)).getD 7 0 = wd (crc32 (wordsBytes ((tabGet [] s.nvm.log (s.rf Reg.logSel 11 0)).take 7)))) &&
      decide ((tabGet [] s.nvm.log (s.rf Reg.logSel 11 0)).length = 8))).foldl (xs := List.range 8)
    (f := fun u w => Machine.setReg (Reg.logRec w) ((tabGet [] s.nvm.log (s.rf Reg.logSel 11 0)).getD w 0) u) fun k hk _ ht =>
      ht.setReg (hreg k (List.mem_range.mp hk)) _
  exact StartKept.ite hshown ((hshown.addRf (a := Reg.logStatus2) (by decide) 31 16 1).fault 14 Page.log 0)

theorem StartKept.selServe (h : StartKept r s) : StartKept r (selServe s) :=
  StartKept.ite (h.modMgt _) (StartKept.selShow (h.modMgt _))

theorem StartKept.supplyTold (h : StartKept r s) : StartKept r (supplyTold s) :=
  (h.modMgt _).foldl fun _ _ _ ht => (((ht.publish _ _).publishOn _ _ _).irq (p := Page.sens) (by decide) 1).fault 12 Page.sens 0

theorem StartKept.mgtBack (h : StartKept r s) : StartKept r (mgtBack s) := by
  have hrest : ∀ u, StartKept r u → StartKept r (Machine.sif (Machine.supplyTold (Machine.logFlush (Machine.sif u.nvm.trialRun
      (Machine.irq Page.upd 2) u))).mgt.selHeld Machine.selServe (Machine.supplyTold (Machine.logFlush (Machine.sif u.nvm.trialRun
      (Machine.irq Page.upd 2) u)))) := fun u hu =>
    ((hu.sif _ fun _ ht => ht.irq (p := Page.upd) (by decide) 2).logFlush.supplyTold).sif _ fun _ ht => ht.selServe
  unfold Machine.mgtBack
  split
  · exact hrest s h
  · exact hrest _ ((h.modMgt _).irq (p := Page.upd) (by decide) 3)

/-! ## The radio that nobody holds -/

theorem StartKept.lateSearch (h : StartKept r s) (t : Nat) : StartKept r (lateSearch t s) := by
  unfold Machine.lateSearch
  split
  · exact h
  · exact StartKept.ite ((h.modRx _).recErr (p := Page.rbRx) (by decide) _ _ _) h

theorem StartKept.setRbState (h : StartKept r s) (v t : Nat) : StartKept r (setRbState v t s) := by
  have hstate := (((h.setRf (a := Reg.rbSynState) (by decide) 3 0 v).setRb (a := Reg.rbTxStatus) (by decide) 0 (decide (6 ≤ v))).irq
    (p := Page.rbSyn) (by decide) 4).publish 0xcd t
  exact StartKept.ite h (StartKept.ite (StartKept.lateSearch ((hstate.setRb (a := Reg.rbRxAgcStatus) (by decide) 31 false).modRx _) t) hstate)

theorem StartKept.stopSynth (h : StartKept r s) : StartKept r (stopSynth s) :=
  ((h.modRadio _).setRb (a := Reg.rbSynState) (by decide) 12 false).setRb (a := Reg.rbSynState) (by decide) 13 _

theorem StartKept.startSynth (h : StartKept r s) (t : Nat) : StartKept r (startSynth t s) :=
  (((h.setRb (a := Reg.rbSynState) (by decide) 12 false).modRadio _).sif _ fun _ hu =>
    hu.addRf (a := Reg.rbSynCnt) (by decide) _ _ _).setRb (a := Reg.rbSynState) (by decide) 13 _

theorem StartKept.radioEnter (h : StartKept r s) (g t : Nat) : StartKept r (radioEnter g t s) := by
  have hentered := StartKept.ite (c := 3 ≤ g ∧ s.rbState = 2) (h.setRbState 3 t) (StartKept.ite (c := g = 4 ∧ s.rbState = 5 ∧ s.rbLocked)
    (h.setRbState 4 t) (StartKept.ite (c := 3 ≤ g ∧ (s.rbState = 4 ∨ s.rbState = 5) ∧ !s.rbLocked) (h.setRbState 3 t) h))
  exact StartKept.ite (hentered.startSynth t) hentered

theorem StartKept.radioMove (h : StartKept r s) (t : Nat) : StartKept r (radioMove t s) := by
  unfold Machine.radioMove
  split
  · exact h
  · refine StartKept.ite ((h.radioEnter _ t).modRadio _) ?_
    split
    · exact (h.radioEnter _ t).modRadio _
    · exact StartKept.ite (h.radioEnter _ t) (((h.radioEnter _ t).sif _ fun _ hu => hu.stopSynth).modRadio _)

theorem StartKept.radioTo (h : StartKept r s) (g t : Nat) : StartKept r (radioTo g t s) := StartKept.radioMove (h.modRadio _) t

theorem StartKept.radioAct (h : StartKept r s) (q : RadioReq) (t : Nat) : StartKept r (radioAct q t s) := by
  have hasked := ((((h.modRadio fun r => { r with waiting := none }).setRb (a := Reg.rbSynState) (by decide) 14 false).setRf
    (a := Reg.rbSynState) (by decide) 9 4 q.chan).setRf (a := Reg.rbSynState) (by decide) 23 19 q.pa)
  exact StartKept.radioTo (((hasked.setRf (a := Reg.rbSynState) (by decide) 18 15 _).sif _ fun _ hu => hu.stopSynth).modRadio _) _ t

theorem StartKept.radioAsk (h : StartKept r s) (q : RadioReq) (t : Nat) : StartKept r (radioAsk q t s) :=
  StartKept.ite h (StartKept.ite ((h.modRadio _).setRb (a := Reg.rbSynState) (by decide) 14 true) (h.radioAct q t))

theorem StartKept.radioIdle (h : StartKept r s) (t : Nat) : StartKept r (radioIdle t s) := StartKept.ite (h.radioAsk _ t) h

theorem StartKept.settle (h : StartKept r s) : StartKept r (settle s) := fun a ha => by
  have hout : ∀ x ∈ settleRegs, startReg x = false := by decide
  exact (settle_sameRegs s a fun hm => by rw [hout a hm] at ha; cases ha).trans (h a ha)

end

end Sys2Proof.Proofs
end

section
/-! PROOFS. The start of the device up to READY or NO_IMAGE (O22; R75–R82). -/

namespace Sys2Proof.Proofs
open Sys2Proof Sys2Proof.Machine Sys2Proof.Laws

/-! ## The steps of the start -/

/-- The steps shown change RST.BOOT alone. -/
theorem stepsShown_onlyRegs (s : State) : OnlyRegs [Reg.rstBoot] s (stepsShown s) := by
  unfold stepsShown
  split
  · exact onlyRegs_refl _ s
  · exact onlyRegs_trans (sif_onlyRegs _ (setReg_onlyRegs (by simp) _ s)) (setReg_onlyRegs (by simp) _ _)

/-- The step that the main track shows (R83). -/
theorem stepsShown_main {s : State} {p : StartPlan} (hp : s.boot.plan = some p) (hmain : p.main = [(3, 0)]) :
    (stepsShown s).rf Reg.rstBoot 31 24 = 3 := by
  rw [stepsShown, hp]
  dsimp only
  rw [hmain, setRf_rf_ne (by decide) (by decide)]
  exact setRf_rf_eq (by decide) _ _ _ s

/-- What the steps shown leave of RST.BOOT. -/
theorem stepsShown_state (s : State) {hi lo : Nat} (h : hi < 16) : (stepsShown s).rf Reg.rstBoot hi lo = s.rf Reg.rstBoot hi lo := by
  have hsif : ∀ (b : Bool) v, (sif b (setRf Reg.rstBoot 31 24 v) s).rf Reg.rstBoot hi lo = s.rf Reg.rstBoot hi lo := fun b v => by
    cases b
    · rfl
    · exact setRf_rf_ne (by omega) (.inl (by omega)) _ _ s
  unfold stepsShown
  split
  · rfl
  · dsimp only
    rw [setRf_rf_ne (by omega) (.inl (by omega)), hsif]

/-- A plan whose first step drives no coil goes on with its step shown. -/
theorem mainBegins_shown {s : State} {p : StartPlan} (hp : s.boot.plan = some p) (hd : p.drives = []) :
    ∃ e l, mainBegins s = stepsShown (modPlan (fun q => { q with ends := e, low := l }) s) := by
  refine ⟨s.now + p.ft ((p.main.head?.map Prod.fst).getD 0), !s.vfldOk || (p.skipped != 0), ?_⟩
  have hplan : ∀ f : StartPlan → StartPlan, modPlan f s = modBoot (fun b => { b with plan := some (f p) }) s := fun f => by
    rw [modPlan, modBoot, hp]
    rfl
  rw [mainBegins, hplan, hplan]
  exact congrArg stepsShown (congrArg (fun l => forEach l _ _) hd)

/-! ## The reference is there (R75) -/

theorem exec_referenceQualified {s : State} (q : Nat) (m : StartMeas) (h : s.boot.phase = .waitRef) :
    exec (.referenceQualified q m) s = .next (mainBegins (modBoot (fun b => { b with plan := some { meas := m, main := [(3, 0)] } }) (clocksLock q s))) := by
  change Host.Outcome.next _ = _
  rw [if_neg (not_not.mpr h)]

theorem clocksLock_shown (q : Nat) (s : State) : (clocksLock q s).boot.phase = .starting ∧ (clocksLock q s).now = 0 ∧
    SameRegs [Reg.clkRun, Reg.clkRef] s (clocksLock q s) ∧ (clocksLock q s).mem = s.mem := by
  refine ⟨rfl, rfl, fun a ha => ?_, rfl⟩
  have hrun : a ≠ Reg.clkRun := fun h => ha (by simp [h])
  have href : a ≠ Reg.clkRef := fun h => ha (by simp [h])
  exact (setReg_reg_ne hrun 0x23ff _).trans (setReg_reg_ne href _ (modBoot _ s))

/-! ## The slot that boots (R81, R441) -/

/-- What the choice of the slot looks at. -/
structure SlotsKept (s t : State) : Prop where
  mem : t.mem = s.mem
  active : t.nvm.active = s.nvm.active
  trial : t.nvm.trial = s.nvm.trial
  trialCount : t.nvm.trialCount = s.nvm.trialCount
  slots : t.nvm.slots = s.nvm.slots
  rolls : t.nvm.rolls = s.nvm.rolls

theorem SlotsKept.bootPick {s t : State} (h : SlotsKept s t) : t.bootPick = s.bootPick := by
  have hslot : ∀ x, t.fwSlot x = s.fwSlot x := fun x => by rw [State.fwSlot, h.slots, State.fwSlot]
  have hroll : t.rollback = s.rollback := by simp only [State.rollback, State.roll, h.rolls]
  have hbyte : t.byte = s.byte := by funext a; rw [State.byte, h.mem, State.byte]
  have hmem16 : t.mem16 = s.mem16 := by funext a; rw [State.mem16, hbyte, State.mem16]
  have hmem32 : t.mem32 = s.mem32 := by funext a; rw [State.mem32, hmem16, State.mem32]
  have hbytes : ∀ n a, t.bytes a n = s.bytes a n := fun n => by
    induction n with
    | zero => exact fun _ => rfl
    | succ n ih => exact fun a => by rw [State.bytes, hbyte, ih, State.bytes]
  have hboots : ∀ x, t.slotBoots x = s.slotBoots x := fun x => by
    unfold State.slotBoots State.slotCheck State.fwCheck
    rw [hslot, hroll, hbyte, hmem16, hmem32, hbytes, hbytes]
  simp only [State.bootPick, h.trial, h.trialCount, h.active, hboots]

/-- The state from which the boot ROM picks: a running trial is over. -/
def trialOver (cause : Nat) (s : State) : State := if s.nvm.trialRun then revertTrial cause s else s

theorem trialOver_slots (cause cause' : Nat) {s t : State} (h : SlotsKept s t) (hrun : t.nvm.trialRun = s.nvm.trialRun) :
    SlotsKept (trialOver cause s) (trialOver cause' t) := by
  have hover : ∀ (c : Nat) (u : State), SlotsKept (modMgt (fun m => { m with reverted := some c })
      (modNvm (fun n => { n with trialRun := false, trial := none }) u)) (revertTrial c u) := fun c u => by
    have hlog := logOnly_logAdd 0x33 Page.upd 2 ((u.nvm.trial.map (fun x => (u.fwSlot x).version)).getD 0) c
      (modMgt (fun m => { m with reverted := some c }) (modNvm (fun n => { n with trialRun := false, trial := none }) u))
    exact ⟨hlog.mem, hlog.trial.1, hlog.trial.2.1, (revertTrial_kept c u).trialCount, hlog.slots, hlog.rolls⟩
  unfold trialOver
  rw [hrun]
  split
  · obtain ⟨hmem, hactive, -, hcount, hslots, hrolls⟩ := h
    obtain ⟨smem, sactive, strial, scount, sslots, srolls⟩ := hover cause s
    obtain ⟨tmem, tactive, ttrial, tcount, tslots, trolls⟩ := hover cause' t
    exact ⟨tmem.trans (hmem.trans smem.symm), tactive.trans (hactive.trans sactive.symm), ttrial.trans strial.symm,
      tcount.trans (hcount.trans scount.symm), tslots.trans (hslots.trans sslots.symm), trolls.trans (hrolls.trans srolls.symm)⟩
  · exact h

/-- RST.BOOT.SLOT as the boot ROM leaves it, from the slot that it picks. -/
def slotShown (x : Option (Nat × Bool)) : Nat := x.elim 0 (fun y => (y.1 + 1) % 4)

theorem bootSlot_slot (cause : Nat) (s : State) : (bootSlot cause s).rf Reg.rstBoot 5 4 = slotShown (trialOver cause s).bootPick := by
  have hset : ∀ v (t : State), (setRf Reg.rstBoot 5 4 v t).rf Reg.rstBoot 5 4 = v % 4 := fun v t => setRf_rf_eq (by decide) _ _ v t
  have hfail : ∀ x (t : State), (fault 13 Page.rst 0 (setRb Reg.rstBootFlags 1 true (slotFail x t))).rf Reg.rstBoot 5 4 = t.rf Reg.rstBoot 5 4 :=
    fun x t => by
      rw [State.rf, ((StartKept.refl _).fault 13 Page.rst 0) Reg.rstBoot (by decide), setRb_reg_ne (by decide), slotFail, logAdd,
        (StartKept.refl t).logRec _ Reg.rstBoot (by decide), State.rf]
  unfold bootSlot trialOver
  dsimp only
  generalize (if s.nvm.trialRun = true then revertTrial cause s else s) = a
  cases a.bootPick with
  | none => exact hset 0 _
  | some y =>
    obtain ⟨x, trial⟩ := y
    dsimp only
    split
    · exact hset (x + 1) (modMgt _ _)
    · split
      · rw [hfail]
        exact hset (x + 1) _
      · exact hset (x + 1) _

theorem slotsKept_passTo (e : Nat) (s : State) : SlotsKept (advance e s) (passTo e s) ∧ (passTo e s).nvm.trialRun = (advance e s).nvm.trialRun := by
  have hnvm : (passTo e s).nvm = s.nvm := field_of_timeOnly State.nvm (timeOnly_passTo e s) fun _ _ _ _ _ _ _ => rfl
  exact ⟨⟨(passTo_mem e s).trans rfl, by rw [hnvm]; rfl, by rw [hnvm]; rfl, by rw [hnvm]; rfl, by rw [hnvm]; rfl, by rw [hnvm]; rfl⟩, by rw [hnvm]; rfl⟩

/-- The slot that boots depends on neither the cause nor what passes meanwhile. -/
theorem bootSlot_passTo (c c' e : Nat) (s : State) :
    (bootSlot c (passTo e s)).rf Reg.rstBoot 5 4 = (bootSlot c' (advance e s)).rf Reg.rstBoot 5 4 := by
  obtain ⟨hslots, hrun⟩ := slotsKept_passTo e s
  rw [bootSlot_slot, bootSlot_slot, (trialOver_slots c' c hslots hrun).bootPick]

/-! ## Without a firmware slot (R82) -/

theorem fault_boot (cls p code : Nat) (s : State) : (fault cls p code s).boot = s.boot := ((HollyKept.refl s).fault cls p code).boot

theorem bootSlot_boot (cause : Nat) (s : State) : (bootSlot cause s).boot = s.boot := by
  have hlog : ∀ c src sev i d (t : State), (logAdd c src sev i d t).boot = t.boot := fun c src sev i d t => ((HollyKept.refl t).logAdd c src sev i d).boot
  have hnoted : ∀ x (t : State), (slotNoted x t).boot = t.boot := fun x t => by
    unfold slotNoted
    split <;> rfl
  have hover : (trialOver cause s).boot = s.boot := by
    unfold trialOver
    split
    · exact (hlog _ _ _ _ _ _).trans rfl
    · rfl
  unfold trialOver at hover
  unfold bootSlot
  dsimp only
  generalize (if s.nvm.trialRun = true then revertTrial cause s else s) = a at hover ⊢
  have htried : (if (a.nvm.trialCount == 1) = true ∧ a.bootPick.map Prod.snd ≠ some true then
      modNvm (fun n => { n with trial := none }) ((a.nvm.trial.map slotFail).getD id (modNvm (fun n => { n with trialCount := 0 }) a))
      else modNvm (fun n => { n with trialCount := 0 }) a).boot = s.boot := by
    split
    · cases a.nvm.trial with
      | none => exact hover
      | some x => exact (hlog _ _ _ _ _ _).trans hover
    · exact hover
  generalize (if (a.nvm.trialCount == 1) = true ∧ a.bootPick.map Prod.snd ≠ some true then
      modNvm (fun n => { n with trial := none }) ((a.nvm.trial.map slotFail).getD id (modNvm (fun n => { n with trialCount := 0 }) a))
      else modNvm (fun n => { n with trialCount := 0 }) a) = c at htried ⊢
  cases a.bootPick with
  | none => exact htried
  | some y =>
    obtain ⟨x, trial⟩ := y
    dsimp only
    have hslot := (hnoted x c).trans htried
    split
    · exact hslot
    · split
      · exact (fault_boot _ _ _ _).trans ((hlog _ _ _ _ _ _).trans hslot)
      · exact hslot

/-- What NO_IMAGE shows (R82). -/
structure NoImage (t : State) : Prop where
  phase : t.boot.phase = .noImage
  state : t.rf Reg.rstBoot 2 0 = 4
  owner : t.rf (Reg.owner Page.upd) 1 0 = 0
  ctrl : t.rb (Reg.ctrl Page.upd) 0 = true
  raw : t.rb (Reg.irqRaw Page.rst) 1 = true

/-- The state in which the boot ROM leaves the device without a slot, before the fault is recorded. -/
def imageMissing (s : State) : State :=
  irq Page.rst 1 (setReg (Reg.ctrl Page.tagc) 1 (updOpen (setRf Reg.rstBoot 31 24 3 (setRf Reg.rstBoot 2 0 4 (modBoot (fun b => { b with
    phase := .noImage, plan := b.plan.map (fun p => { p with main := [], rb := [] }) }) s)))))

theorem noImage_imageMissing (s : State) : NoImage (imageMissing s) := by
  have hirq : ∀ a ∉ [Reg.irqRaw Page.rst, Reg.irqStat Page.rst], (imageMissing s).reg a = (setReg (Reg.ctrl Page.tagc) 1 (updOpen
      (setRf Reg.rstBoot 31 24 3 (setRf Reg.rstBoot 2 0 4 (modBoot (fun b => { b with
        phase := .noImage, plan := b.plan.map (fun p => { p with main := [], rb := [] }) }) s))))).reg a := (irq_onlyRegs Page.rst 1 _).1
  refine ⟨congrArg BootSt.phase (boot_of_onlyRegs (irq_onlyRegs Page.rst 1 _)), ?_, ?_, ?_, irq_irqRaw (by decide) _⟩
  · rw [State.rf, hirq _ (by decide), setReg_reg_ne (by decide), updOpen, setReg_reg_ne (by decide), setReg_reg_ne (by decide), ← State.rf,
      setRf_rf_ne (by decide) (by decide)]
    exact setRf_rf_eq (by decide) _ _ _ _
  · rw [State.rf, hirq _ (by decide), setReg_reg_ne (by decide), updOpen, setReg_reg_eq]
    decide
  · rw [State.rb, hirq _ (by decide), setReg_reg_ne (by decide), updOpen, setReg_reg_ne (by decide), setReg_reg_eq]
    decide

/-- NO_IMAGE stays as it is shown while the headers, SYS and RST but for the steps shown, and the phase stay. -/
theorem NoImage.kept {s t : State} (h : NoImage s) (hphase : t.boot.phase = s.boot.phase)
    (hstate : t.rf Reg.rstBoot 2 0 = s.rf Reg.rstBoot 2 0)
    (hreg : ∀ a ∈ [Reg.owner Page.upd, Reg.ctrl Page.upd, Reg.irqRaw Page.rst], t.reg a = s.reg a) : NoImage t :=
  ⟨hphase.trans h.phase, hstate.trans h.state, by rw [State.rf, hreg _ (by simp), ← State.rf, h.owner],
    by rw [rb_of_reg_eq (hreg _ (by simp)), h.ctrl], by rw [rb_of_reg_eq (hreg _ (by simp)), h.raw]⟩

theorem noImage_shown (s : State) : NoImage (noImage s) := by
  have hkept := (StartKept.refl (imageMissing s)).fault 13 Page.rst 0
  have hall : ∀ a ∈ [Reg.rstBoot, Reg.owner Page.upd, Reg.ctrl Page.upd, Reg.irqRaw Page.rst], startReg a = true := by decide
  exact (noImage_imageMissing s).kept (t := fault 13 Page.rst 0 (imageMissing s)) (congrArg BootSt.phase (fault_boot 13 Page.rst 0 _))
    (by rw [State.rf, hkept _ (hall _ (by simp)), State.rf]) fun a ha => hkept a (hall a (List.mem_cons_of_mem _ ha))

theorem noImage_plan {s : State} {p : StartPlan} (h : s.boot.plan = some p) : (noImage s).boot.plan = some { p with main := [], rb := [] } := by
  have hboot : (noImage s).boot = (imageMissing s).boot := fault_boot 13 Page.rst 0 _
  have hirq : (imageMissing s).boot.plan = s.boot.plan.map (fun p => { p with main := [], rb := [] }) :=
    congrArg BootSt.plan (boot_of_onlyRegs (irq_onlyRegs Page.rst 1 _))
  rw [hboot, hirq, h]
  rfl

/-- The step that looks for a slot ends without one. -/
theorem stepEnd_noImage {p : StartPlan} {s : State} (hslot : (bootSlot (if p.again then 2 else 4) s).rf Reg.rstBoot 5 4 = 0) :
    stepEnd p 3 0 s = noImage (bootSlot (if p.again then 2 else 4) s) := if_pos hslot

theorem startStep_main {s : State} {p : StartPlan} (hp : s.boot.plan = some p) (hmain : p.main = [(3, 0)]) (hrb : p.rb = [])
    {u : Nat} (hends : p.ends ≤ u) :
    startStep u s = mainBegins (modPlan (fun q => { q with main := q.main.tail }) (stepDone p 3 0 (passTo p.ends s))) := by
  have hnext : p.next = some (false, p.ends) := by
    rw [StartPlan.next, hrb, hmain, if_neg (fun h => h.1 rfl), if_neg (by decide)]
  rw [startStep, hp]
  dsimp only
  rw [hnext]
  dsimp only
  rw [if_neg (Nat.not_lt.mpr hends), hmain]
  rfl

theorem startStep_idle {u : Nat} {s : State} {p : StartPlan} (hp : s.boot.plan = some p) (hmain : p.main = []) (hrb : p.rb = []) :
    startStep u s = s := by
  have hnext : p.next = none := by rw [StartPlan.next, hrb, hmain, if_neg (fun h => h.1 rfl), if_pos rfl]
  rw [startStep, hp]
  dsimp only
  rw [hnext]

theorem startRun_of_step {u : Nat} {s t : State} (h : startStep u s = t) (ht : startStep u t = t) : startRun u s = t := by
  have hfold : ∀ l : List Nat, l.foldl (fun v _ => startStep u v) t = t := fun l => by
    induction l with
    | nil => rfl
    | cons x l ih => rw [List.foldl_cons, ht, ih]
  rw [startRun, List.range_succ_eq_map, List.foldl_cons, h, hfold]

/-- A step that ends without a slot leaves NO_IMAGE, in which nothing more is to do. -/
theorem mainBegins_noImage {s : State} {p : StartPlan} (h : NoImage s) (hp : s.boot.plan = some p) (hmain : p.main = []) (hrb : p.rb = []) (l : List Nat) :
    NoImage (mainBegins (modPlan (fun q => { q with main := q.main.tail }) (calKeep l s))) ∧
      ∀ u, startStep u (mainBegins (modPlan (fun q => { q with main := q.main.tail }) (calKeep l s))) =
        mainBegins (modPlan (fun q => { q with main := q.main.tail }) (calKeep l s)) := by
  have hplan : (modPlan (fun q => { q with main := q.main.tail }) (calKeep l s)).boot.plan = some { p with main := p.main.tail } :=
    congrArg (Option.map _) hp
  have hdrives : ({ p with main := p.main.tail } : StartPlan).drives = [] := by
    rw [StartPlan.drives, hmain]
    rfl
  obtain ⟨e, low, heq⟩ := mainBegins_shown hplan hdrives
  rw [heq]
  generalize hv : modPlan (fun q => { q with ends := e, low := low }) (modPlan (fun q => { q with main := q.main.tail }) (calKeep l s)) = v
  have hvplan : v.boot.plan = some { p with main := p.main.tail, ends := e, low := low } := by
    rw [← hv]
    exact congrArg (Option.map _) hplan
  have hvphase : v.boot.phase = s.boot.phase := by rw [← hv]; rfl
  have hvreg : v.reg = s.reg := by rw [← hv]; rfl
  have honly := stepsShown_onlyRegs v
  refine ⟨h.kept ((congrArg BootSt.phase (boot_of_onlyRegs honly)).trans hvphase) ?_ (fun a ha => ?_), fun u => ?_⟩
  · rw [stepsShown_state v (by decide), State.rf, hvreg, State.rf]
  · have hne : a ∉ [Reg.rstBoot] := by
      have hout : ∀ x ∈ [Reg.owner Page.upd, Reg.ctrl Page.upd, Reg.irqRaw Page.rst], x ∉ [Reg.rstBoot] := by decide
      exact hout a ha
    rw [honly.1 a hne, hvreg]
  · exact startStep_idle ((congrArg BootSt.plan (boot_of_onlyRegs honly)).trans hvplan) (by rw [hmain]; rfl) hrb

/-- The start ends in NO_IMAGE. -/
theorem startRun_noImage {u : Nat} {s : State} {p : StartPlan} (hp : s.boot.plan = some p) (hmain : p.main = [(3, 0)]) (hrb : p.rb = [])
    (hends : p.ends ≤ u) (hslot : (bootSlot 4 (advance p.ends s)).rf Reg.rstBoot 5 4 = 0) : NoImage (startRun u s) := by
  have hnone := stepEnd_noImage (p := p) (s := passTo p.ends s) ((bootSlot_passTo _ 4 p.ends s).trans hslot)
  have hplan : (noImage (bootSlot (if p.again then 2 else 4) (passTo p.ends s))).boot.plan = some { p with main := [], rb := [] } :=
    noImage_plan (by rw [bootSlot_boot, passTo_boot, hp])
  obtain ⟨hshown, hidle⟩ := mainBegins_noImage (noImage_shown (bootSlot (if p.again then 2 else 4) (passTo p.ends s))) hplan rfl rfl (stepCal 3)
  have hstep := startStep_main hp hmain hrb hends
  rw [stepDone, hnone] at hstep
  rw [startRun_of_step hstep (hidle u)]
  exact hshown

end Sys2Proof.Proofs
end

section
/-! PROOFS. READY (R78, R79), and the start as a whole (O22). -/

namespace Sys2Proof.Proofs
open Sys2Proof Sys2Proof.Machine Sys2Proof.Laws

/-! ## Runs that establish a property of each of their indices -/

theorem forEach_establishes {P : Nat → State → Prop} {l : List Nat} {f : Nat → State → State} (hset : ∀ k ∈ l, ∀ s, P k (f k s))
    (hkeep : ∀ j ∈ l, ∀ k ∈ l, ∀ s, P j s → P j (f k s)) (s : State) : ∀ j ∈ l, P j (forEach l f s) := by
  have hstay : ∀ (m : List Nat), (∀ k ∈ m, k ∈ l) → ∀ j ∈ l, ∀ t, P j t → P j (forEach m f t) := fun m => by
    induction m with
    | nil => exact fun _ _ _ _ h => h
    | cons k m ih => exact fun hm j hj t h => ih (fun x hx => hm x (List.mem_cons_of_mem k hx)) j hj (f k t) (hkeep j hj k (hm k List.mem_cons_self) t h)
  have hrun : ∀ (m : List Nat), (∀ k ∈ m, k ∈ l) → ∀ j ∈ m, ∀ t, P j (forEach m f t) := fun m => by
    induction m with
    | nil => exact fun _ j hj => absurd hj List.not_mem_nil
    | cons k m ih =>
      intro hm j hj t
      rcases List.mem_cons.mp hj with rfl | hj
      · exact hstay m (fun x hx => hm x (List.mem_cons_of_mem _ hx)) j (hm j List.mem_cons_self) _ (hset j (hm j List.mem_cons_self) t)
      · exact ih (fun x hx => hm x (List.mem_cons_of_mem _ hx)) j hj (f k t)
  exact fun j hj => hrun l (fun _ h => h) j hj s

/-! ## The pages are open (R79) -/

/-- Every page is enabled and the host's. -/
def PagesOpen (s : State) : Prop := ∀ p ∈ List.range 0x2c, s.reg (Reg.owner p) = 0 ∧ s.rb (Reg.ctrl p) 0 = true

/-- A change that leaves CTRL and OWNER of every page. -/
theorem PagesOpen.kept {s t : State} (h : PagesOpen s) (hreg : ∀ a, a % 0x1000 = 0x08 ∨ a % 0x1000 = 0x24 → t.reg a = s.reg a) : PagesOpen t :=
  fun p hp => ⟨(hreg _ (.inr (by simp only [Reg.owner]; omega))).trans (h p hp).1,
    (rb_of_reg_eq (hreg _ (.inl (by simp only [Reg.ctrl]; omega))) 0).trans (h p hp).2⟩

theorem pageOn_reg (p : Nat) {a : Nat} (ha : a ≠ Reg.ctrl p) (hb : a ≠ Reg.status p) (s : State) : (pageOn p s).reg a = s.reg a := by
  have hsif : ∀ b : Bool, (sif b (setRb (Reg.status p) 0 true) s).reg a = s.reg a := fun b => by
    cases b
    · rfl
    · exact setRb_reg_ne hb _ _ s
  exact (setRb_reg_ne ha _ _ _).trans (hsif _)

/-- Every page gets the host as owner, and EN. -/
theorem pagesOpen_enablePages (s : State) : PagesOpen (enablePages (forEach (List.range 0x2c) (fun p => setReg (Reg.owner p) 0) s)) := by
  have howner := forEach_establishes (P := fun p t => t.reg (Reg.owner p) = 0) (l := List.range 0x2c) (f := fun p => setReg (Reg.owner p) 0)
    (fun k _ t => setReg_reg_eq _ _ t) (fun j _ k _ t h => by
      by_cases hjk : Reg.owner j = Reg.owner k
      · rw [hjk]; exact setReg_reg_eq _ _ t
      · exact (setReg_reg_ne hjk _ t).trans h) s
  have howner_ne : ∀ p q : Nat, Reg.owner p ≠ Reg.ctrl q ∧ Reg.owner p ≠ Reg.status q := fun p q => by
    simp only [Reg.owner, Reg.ctrl, Reg.status]
    omega
  have hctrl_ne : ∀ p q : Nat, Reg.ctrl p ≠ Reg.status q := fun p q => by
    simp only [Reg.ctrl, Reg.status]
    omega
  have hon : ∀ k t, (pageOn k t).rb (Reg.ctrl k) 0 = true := fun k t => setRb_rb_eq (by decide) _ _ _
  have hctrl := forEach_establishes (P := fun p t => t.rb (Reg.ctrl p) 0 = true) (l := List.range 0x2c) (f := pageOn)
    (fun k _ t => hon k t) (fun j _ k _ t h => by
      by_cases hjk : Reg.ctrl j = Reg.ctrl k
      · rw [hjk]; exact hon k t
      · rw [rb_of_reg_eq (pageOn_reg k hjk (hctrl_ne j k) t), h]) (forEach (List.range 0x2c) (fun p => setReg (Reg.owner p) 0) s)
  have hkept : ∀ p, (forEach (List.range 0x2c) pageOn (forEach (List.range 0x2c) (fun p => setReg (Reg.owner p) 0) s)).reg (Reg.owner p) =
      (forEach (List.range 0x2c) (fun p => setReg (Reg.owner p) 0) s).reg (Reg.owner p) := fun p =>
    forEach_keeps (fun u => u.reg (Reg.owner p)) (fun k t => pageOn_reg k (howner_ne p k).1 (howner_ne p k).2 t) _
  exact fun p hp => ⟨(hkept p).trans (howner p hp), hctrl p hp⟩

/-! ## The units that are claimed (R78) -/

theorem claimRes_reg {i : Nat} (hi : 0x60 ≤ i) (claimant handle detail : Nat) (s : State) :
    claimRes i claimant handle detail s = setReg (Reg.sysResClaim i) (wd (handle % 65536 * 65536 + claimant * 4096 + detail % 4096)) s :=
  if_neg (by simp only [decide_eq_true_eq]; omega)

/-- The check-value channels of the engines and of the radio are claimed. -/
def UnitsHeld (s : State) : Prop := (∀ n ∈ List.range 4, s.holder (0x60 + n) = 4 + n) ∧ s.holder 0x64 = 3

theorem UnitsHeld.kept {s t : State} (h : UnitsHeld s) (hreg : ∀ i, i < 0x80 → t.reg (Reg.sysResClaim i) = s.reg (Reg.sysResClaim i)) : UnitsHeld t :=
  ⟨fun n hn => by rw [State.holder, State.rf, hreg _ (by have := List.mem_range.mp hn; omega), ← State.rf, ← State.holder, h.1 n hn],
    by rw [State.holder, State.rf, hreg _ (by decide), ← State.rf, ← State.holder, h.2]⟩

/-- FEn has its own check-value channel. -/
def engineUnit (n : Nat) (s : State) : State := claimRes (0x60 + n) (4 + n) 0 0 (setRf (Reg.feCvu n) 2 0 n s)

theorem engineUnit_holder : ∀ n ∈ List.range 4, ∀ s, (engineUnit n s).holder (0x60 + n) = 4 + n := by
  intro n hn s
  have hword : ∀ m < 4, fld (wd (0 % 65536 * 65536 + (4 + m) * 4096 + 0 % 4096)) 15 12 = 4 + m := by decide
  rw [engineUnit, claimRes_reg (by omega), State.holder, State.rf, setReg_reg_eq]
  exact hword n (List.mem_range.mp hn)

theorem engineUnit_reg {n : Nat} {a : Nat} (hc : a ≠ Reg.sysResClaim (0x60 + n)) (hf : a ≠ Reg.feCvu n) (s : State) :
    (engineUnit n s).reg a = s.reg a := by
  rw [engineUnit, claimRes_reg (by omega), setReg_reg_ne hc, setRf_reg_ne hf]

/-- The units that READY claims, on a state whose pages are open. -/
def unitsClaimed (s : State) : State :=
  forEach (List.range 4) (fun j => setRb (Reg.evfChCfg (60 + j)) 13 true ∘ setRf (Reg.evfChCfg (60 + j)) 15 14 1)
    (claimRes 0x64 3 0 4 (forEach (List.range 4) engineUnit s))

theorem unitsClaimed_reg {a : Nat} (hc : ∀ i < 0x80, a ≠ Reg.sysResClaim i) (hf : ∀ n < 4, a ≠ Reg.feCvu n)
    (he : ∀ n < 64, a ≠ Reg.evfChCfg n) (s : State) : (unitsClaimed s).reg a = s.reg a := by
  have hchan : ∀ (l : List Nat), (∀ j ∈ l, j < 4) → ∀ t : State,
      (forEach l (fun j => setRb (Reg.evfChCfg (60 + j)) 13 true ∘ setRf (Reg.evfChCfg (60 + j)) 15 14 1) t).reg a = t.reg a := fun l => by
    induction l with
    | nil => exact fun _ _ => rfl
    | cons j l ih =>
      intro hl t
      have hne := he (60 + j) (by have := hl j List.mem_cons_self; omega)
      exact (ih (fun x hx => hl x (List.mem_cons_of_mem j hx)) _).trans ((setRb_reg_ne hne _ _ _).trans (setRf_reg_ne hne _ _ _ t))
  have hunit : ∀ (l : List Nat), (∀ j ∈ l, j < 4) → ∀ t : State, (forEach l engineUnit t).reg a = t.reg a := fun l => by
    induction l with
    | nil => exact fun _ _ => rfl
    | cons j l ih =>
      intro hl t
      have hj := hl j List.mem_cons_self
      exact (ih (fun x hx => hl x (List.mem_cons_of_mem j hx)) _).trans (engineUnit_reg (hc _ (by omega)) (hf j hj) t)
  rw [unitsClaimed, hchan _ (fun _ hj => List.mem_range.mp hj), claimRes_reg (by decide), setReg_reg_ne (hc _ (by decide)),
    hunit _ (fun _ hj => List.mem_range.mp hj)]

theorem unitsHeld_unitsClaimed (s : State) : UnitsHeld (unitsClaimed s) := by
  have hunits := forEach_establishes (P := fun n t => t.holder (0x60 + n) = 4 + n) engineUnit_holder (fun j hj k hk t h => by
    by_cases hjk : j = k
    · subst hjk
      exact engineUnit_holder j hj t
    · have hne : Reg.sysResClaim (0x60 + j) ≠ Reg.sysResClaim (0x60 + k) := by simp only [Reg.sysResClaim]; omega
      have hfe : Reg.sysResClaim (0x60 + j) ≠ Reg.feCvu k := by
        have := List.mem_range.mp hj
        simp only [Reg.sysResClaim, Reg.feCvu]
        omega
      rw [State.holder, State.rf, engineUnit_reg hne hfe, ← State.rf, ← State.holder, h]) s
  have hword : fld (wd (0 % 65536 * 65536 + 3 * 4096 + 4 % 4096)) 15 12 = 3 := by decide
  have hclaimed : UnitsHeld (claimRes 0x64 3 0 4 (forEach (List.range 4) engineUnit s)) := by
    rw [claimRes_reg (by decide)]
    refine ⟨fun n hn => ?_, ?_⟩
    · have hne : Reg.sysResClaim (0x60 + n) ≠ Reg.sysResClaim 0x64 := by
        have := List.mem_range.mp hn
        simp only [Reg.sysResClaim]
        omega
      rw [State.holder, State.rf, setReg_reg_ne hne, ← State.rf, ← State.holder, hunits n hn]
    · rw [State.holder, State.rf, setReg_reg_eq, hword]
  have hchan : ∀ (l : List Nat), ∀ t : State, UnitsHeld t →
      UnitsHeld (forEach l (fun j => setRb (Reg.evfChCfg (60 + j)) 13 true ∘ setRf (Reg.evfChCfg (60 + j)) 15 14 1) t) := fun l => by
    induction l with
    | nil => exact fun _ h => h
    | cons j l ih =>
      intro t h
      refine ih _ (h.kept fun i hi => ?_)
      have hne : Reg.sysResClaim i ≠ Reg.evfChCfg (60 + j) := by simp only [Reg.sysResClaim, Reg.evfChCfg]; omega
      exact (setRb_reg_ne hne _ _ _).trans (setRf_reg_ne hne _ _ _ t)
  exact hchan _ _ hclaimed

theorem bringUp_eq (s : State) :
    bringUp s = calKeep (Reg.crocusSet :: (List.range 4).map Reg.feCvu ++ (List.range 4).map (fun j => Reg.evfChCfg (60 + j)))
      (setReg Reg.crocusSet (wd s.populated) (unitsClaimed (enablePages (forEach (List.range 0x2c) (fun p => setReg (Reg.owner p) 0) s)))) := rfl

theorem calKeep_reg (l : List Nat) (s : State) : (calKeep l s).reg = s.reg ∧ (calKeep l s).boot = s.boot := ⟨rfl, rfl⟩

theorem unitsClaimed_boot (s : State) : (unitsClaimed s).boot = s.boot := by
  have hchan : ∀ (l : List Nat) (t : State), (forEach l (fun j => setRb (Reg.evfChCfg (60 + j)) 13 true ∘ setRf (Reg.evfChCfg (60 + j)) 15 14 1) t).boot =
      t.boot := fun l => by
    induction l with
    | nil => exact fun _ => rfl
    | cons j l ih => exact fun t => (ih _).trans rfl
  have hunit : ∀ (l : List Nat) (t : State), (forEach l engineUnit t).boot = t.boot := fun l => by
    induction l with
    | nil => exact fun _ => rfl
    | cons n l ih =>
      intro t
      refine (ih (engineUnit n t)).trans ?_
      rw [engineUnit, claimRes_reg (by omega)]
      rfl
  rw [unitsClaimed, hchan, claimRes_reg (by decide)]
  exact hunit _ s

theorem pagesOn_boot (s : State) : (enablePages (forEach (List.range 0x2c) (fun p => setReg (Reg.owner p) 0) s)).boot = s.boot := by
  have hpages : ∀ (l : List Nat) (t : State), (forEach l pageOn t).boot = t.boot := fun l => by
    induction l with
    | nil => exact fun _ => rfl
    | cons p l ih =>
      intro t
      refine (ih (pageOn p t)).trans ?_
      unfold pageOn sif
      split <;> rfl
  have hown : ∀ (l : List Nat) (t : State), (forEach l (fun p => setReg (Reg.owner p) 0) t).boot = t.boot := fun l => by
    induction l with
    | nil => exact fun _ => rfl
    | cons p l ih => exact fun t => (ih _).trans rfl
  rw [enablePages, (calKeep_reg _ _).2, hpages, hown]

/-- The pages are open and the units claimed. -/
theorem bringUp_shown (s : State) : PagesOpen (bringUp s) ∧ UnitsHeld (bringUp s) ∧ (bringUp s).boot = s.boot := by
  have hcrocus : ∀ a, a % 0x1000 = 0x08 ∨ a % 0x1000 = 0x24 → a ≠ Reg.crocusSet := fun a ha h => by rw [h] at ha; revert ha; decide
  rw [bringUp_eq]
  generalize hu : enablePages (forEach (List.range 0x2c) (fun p => setReg (Reg.owner p) 0) s) = u
  refine ⟨?_, ?_, ?_⟩
  · refine (hu ▸ pagesOpen_enablePages s : PagesOpen u).kept fun a ha => ?_
    rw [(calKeep_reg _ _).1, setReg_reg_ne (hcrocus a ha)]
    refine unitsClaimed_reg ?_ ?_ ?_ u
    · intro i hi h
      rw [h] at ha
      simp only [Reg.sysResClaim] at ha
      omega
    · intro n hn h
      rw [h] at ha
      simp only [Reg.feCvu] at ha
      omega
    · intro n hn h
      rw [h] at ha
      simp only [Reg.evfChCfg] at ha
      omega
  · refine (unitsHeld_unitsClaimed u).kept fun i hi => ?_
    rw [(calKeep_reg _ _).1]
    refine setReg_reg_ne ?_ _ _
    simp only [Reg.sysResClaim, Reg.crocusSet]
    omega
  · rw [(calKeep_reg _ _).2, setReg_boot, unitsClaimed_boot, ← hu, pagesOn_boot]

/-! ## READY -/

/-- READY is shown (R79). -/
def readyShown (s : State) : State :=
  irq Page.rst 0 (setReg Reg.rstBootTime (loWord s.now) (setRf Reg.rstBoot 31 24 0xff (setRf Reg.rstBoot 2 0 3 (setReg Reg.mboxState 0 (bringUp s)))))

/-- What the host finds at READY. -/
structure ReadyFound (t : State) : Prop where
  phase : t.boot.phase = .ready
  state : t.rf Reg.rstBoot 2 0 = 3
  step : t.rf Reg.rstBoot 31 24 = 0xff
  raw : t.rb (Reg.irqRaw Page.rst) 0 = true
  pages : PagesOpen t
  units : UnitsHeld t

theorem startReg_sysResClaim {i : Nat} (hi : i < 0x80) : startReg (Reg.sysResClaim i) = true := by
  have hpage := sysResClaim_page hi
  simp only [startReg, hpage, beq_self_eq_true, Bool.or_true, Bool.true_or]

theorem startReg_header {a : Nat} (ha : a % 0x1000 = 0x08 ∨ a % 0x1000 = 0x24) : startReg a = true := by
  rcases ha with h | h <;> simp [startReg, h]

theorem ReadyFound.kept {s t : State} (h : ReadyFound s) (hb : t.boot = s.boot) (hk : StartKept s t) : ReadyFound t :=
  ⟨(congrArg BootSt.phase hb).trans h.phase, by rw [State.rf, hk _ (by decide), ← State.rf, h.state],
    by rw [State.rf, hk _ (by decide), ← State.rf, h.step], by rw [rb_of_reg_eq (hk _ (by decide)), h.raw],
    h.pages.kept fun a ha => hk a (startReg_header ha), h.units.kept fun i hi => hk _ (startReg_sysResClaim hi)⟩

theorem readyShown_found {s : State} (h : s.boot.phase = .ready) : ReadyFound (readyShown s) := by
  obtain ⟨hpages, hunits, hboot⟩ := bringUp_shown s
  unfold readyShown
  generalize bringUp s = u at hpages hunits hboot
  have hset : SameRegs [Reg.rstBootTime, Reg.rstBoot, Reg.mboxState] u (setReg Reg.rstBootTime (loWord s.now) (setRf Reg.rstBoot 31 24 0xff
      (setRf Reg.rstBoot 2 0 3 (setReg Reg.mboxState 0 u)))) := fun a ha => by
    simp only [List.mem_cons, List.not_mem_nil, or_false, not_or] at ha
    rw [setReg_reg_ne ha.1, setRf_reg_ne ha.2.1, setRf_reg_ne ha.2.1, setReg_reg_ne ha.2.2]
  have hirq := (irq_onlyRegs Page.rst 0 (setReg Reg.rstBootTime (loWord s.now) (setRf Reg.rstBoot 31 24 0xff
      (setRf Reg.rstBoot 2 0 3 (setReg Reg.mboxState 0 u))))).1
  have hout : ∀ a, a % 0x1000 = 0x08 ∨ a % 0x1000 = 0x24 ∨ a / 0x1000 = Page.sys →
      a ∉ [Reg.irqRaw Page.rst, Reg.irqStat Page.rst] ∧ a ∉ [Reg.rstBootTime, Reg.rstBoot, Reg.mboxState] := fun a ha => by
    have hclosed : ∀ x ∈ [Reg.irqRaw Page.rst, Reg.irqStat Page.rst, Reg.rstBootTime, Reg.rstBoot, Reg.mboxState],
        x % 0x1000 ≠ 0x08 ∧ x % 0x1000 ≠ 0x24 ∧ x / 0x1000 ≠ Page.sys := by decide
    have hno : a ∉ [Reg.irqRaw Page.rst, Reg.irqStat Page.rst, Reg.rstBootTime, Reg.rstBoot, Reg.mboxState] := fun hm => by
      obtain ⟨h8, h24, hsys⟩ := hclosed a hm
      rcases ha with h | h | h
      · exact h8 h
      · exact h24 h
      · exact hsys h
    exact ⟨fun hm => hno (List.mem_append_left [Reg.rstBootTime, Reg.rstBoot, Reg.mboxState] hm),
      fun hm => hno (List.mem_append_right [Reg.irqRaw Page.rst, Reg.irqStat Page.rst] hm)⟩
  refine ⟨?_, ?_, ?_, irq_irqRaw (by decide) _, hpages.kept fun a ha => ?_, hunits.kept fun i hi => ?_⟩
  · rw [irq_boot]
    exact (congrArg BootSt.phase hboot).trans h
  · rw [State.rf, hirq _ (by decide), setReg_reg_ne (by decide), ← State.rf, setRf_rf_ne (by decide) (by decide)]
    exact setRf_rf_eq (by decide) _ _ _ _
  · rw [State.rf, hirq _ (by decide), setReg_reg_ne (by decide), ← State.rf]
    exact setRf_rf_eq (by decide) _ _ _ _
  · obtain ⟨h1, h2⟩ := hout a (ha.elim .inl fun h => .inr (.inl h))
    exact (hirq a h1).trans (hset a h2)
  · obtain ⟨h1, h2⟩ := hout _ (.inr (.inr (sysResClaim_page hi)))
    exact (hirq _ h1).trans (hset _ h2)

/-- The device is up: what the firmware tells once it runs, and the radio that goes to its idle state, leave READY as it is shown. -/
theorem readyEnd_found {s : State} (h : ReadyFound s) (a b c d e : Nat) :
    ReadyFound (settle (sif (mgtBack (logAdd a b c d e s)).boot.vddrf (radioIdle (mgtBack (logAdd a b c d e s)).now) (mgtBack (logAdd a b c d e s)))) := by
  have hlog : ReadyFound (logAdd a b c d e s) :=
    h.kept ((HollyKept.refl s).logAdd a b c d e).boot ((StartKept.refl s).logRec _)
  have hback := hlog.kept (mgtBack_boot _) (StartKept.refl _).mgtBack
  generalize mgtBack (logAdd a b c d e s) = v at hback
  have hradio : ReadyFound (sif v.boot.vddrf (radioIdle v.now) v) := by
    unfold sif
    split
    · exact hback.kept ((HollyKept.refl v).radioIdle v.now).boot ((StartKept.refl v).radioIdle v.now)
    · exact hback
  exact hradio.kept (settle_boot _) (StartKept.refl _).settle

/-- The state of READY. -/
theorem exec_ready {s : State} (k : Nat) (hs : s.boot.phase = .starting) (hr : (startRun (2 ^ 64) s).boot.phase = .starting)
    (hdog : s.rb Reg.dbgWdog 0 = false) : ∃ u : State, u.boot.phase = .ready ∧ exec (.ready k) s = .next (settle
      (sif (mgtBack (logAdd 0x02 Page.rst 1 ((readyShown u).reg Reg.rstBootFlags).toNat ((readyShown u).reg Reg.rstBootTime).toNat (readyShown u))).boot.vddrf
        (radioIdle (mgtBack (logAdd 0x02 Page.rst 1 ((readyShown u).reg Reg.rstBootFlags).toNat ((readyShown u).reg Reg.rstBootTime).toNat
          (readyShown u))).now)
        (mgtBack (logAdd 0x02 Page.rst 1 ((readyShown u).reg Reg.rstBootFlags).toNat ((readyShown u).reg Reg.rstBootTime).toNat (readyShown u))))) := by
  refine ⟨passTo k (modBoot (fun b => { b with phase := .ready, plan := none }) (startRun (2 ^ 64) s)), ?_, ?_⟩
  · rw [passTo_boot]
    rfl
  · change execReady k s = _
    unfold execReady
    generalize startRun (2 ^ 64) s = r at hr
    have hgo : ¬ (s.boot.phase ≠ .starting ∨ s.rb Reg.dbgWdog 0 = true) := by
      rw [hs, hdog]
      decide
    have hgo' : ¬ r.boot.phase ≠ .starting := not_not.mpr hr
    dsimp only
    rw [if_neg hgo, if_neg hgo']
    rfl

/-! ## The obligation -/

theorem modPlan_plan {s : State} {p : StartPlan} (h : s.boot.plan = some p) (f : StartPlan → StartPlan) : (modPlan f s).boot.plan = some (f p) :=
  congrArg (Option.map f) h

/-- Settles O22: the reference, READY and NO_IMAGE, each by what the steps of the start leave. -/
theorem startComplete : Obligations.StartComplete := by
  unfold Obligations.StartComplete
  refine ⟨fun s q m h => ?_, fun s k hs hr hdog => ?_, fun s k p hs hp hmain hrb hends hslot hdog => ?_⟩
  · obtain ⟨hphase, hnow, hregs, hmem⟩ := clocksLock_shown q s
    generalize hv : modBoot (fun b => { b with plan := some { meas := m, main := [(3, 0)] } }) (clocksLock q s) = v
    have hvboot : v.boot = { (clocksLock q s).boot with plan := some { meas := m, main := [(3, 0)] } } := by rw [← hv]; rfl
    have hvreg : v.reg = (clocksLock q s).reg := by rw [← hv]; rfl
    have hvnow : v.now = (clocksLock q s).now := by rw [← hv]; rfl
    have hvmem : v.mem = (clocksLock q s).mem := by rw [← hv]; rfl
    have hvplan : v.boot.plan = some { meas := m, main := [(3, 0)] } := by rw [hvboot]
    obtain ⟨e, l, heq⟩ := mainBegins_shown hvplan rfl
    refine ⟨stepsShown (modPlan (fun q => { q with ends := e, low := l }) v), by rw [exec_referenceQualified q m h, hv, heq], ?_⟩
    have honly := stepsShown_onlyRegs (modPlan (fun q => { q with ends := e, low := l }) v)
    have hphase' : (stepsShown (modPlan (fun q => { q with ends := e, low := l }) v)).boot.phase = .starting := by
      rw [boot_of_onlyRegs honly]
      exact (congrArg BootSt.phase hvboot).trans hphase
    refine ⟨hphase', by rw [State.started, hphase']; decide, by rw [State.isReady, hphase']; decide, ?_, ?_, fun a ha => ?_, fun a => ?_⟩
    · rw [State.now, time_of_onlyRegs honly]
      exact hvnow.trans hnow
    · exact stepsShown_main (p := { meas := m, main := [(3, 0)], ends := e, low := l })
        (modPlan_plan hvplan _) rfl
    · have hboot : a ∉ [Reg.rstBoot] := fun hm => ha (by rw [List.mem_singleton.mp hm]; simp)
      have hclk : a ∉ [Reg.clkRun, Reg.clkRef] := fun hm => ha (List.mem_append_left [Reg.rstBoot] hm)
      exact (honly.1 a hboot).trans ((congrFun hvreg a).trans (hregs a hclk))
    · rw [honly.2.1 a]
      exact sameBytes_of_mem (hvmem.trans hmem) a
  · obtain ⟨u, hphase, hexec⟩ := exec_ready k hs hr hdog
    have hfound := readyEnd_found (readyShown_found hphase) 0x02 Page.rst 1 ((readyShown u).reg Reg.rstBootFlags).toNat
      ((readyShown u).reg Reg.rstBootTime).toNat
    refine ⟨_, hexec, by rw [State.isReady, hfound.phase]; decide, hfound.state, hfound.step, hfound.raw, ?_, ?_, hfound.units.2⟩
    · refine List.all_eq_true.mpr fun p hp => ?_
      rw [State.rf, (hfound.pages p hp).1, (hfound.pages p hp).2]
      decide
    · refine List.all_eq_true.mpr fun n hn => ?_
      rw [hfound.units.1 n hn, beq_self_eq_true]
  · have hshown := startRun_noImage hp hmain hrb hends hslot
    have hexec : exec (.ready k) s = .next (startRun (2 ^ 64) s) := by
      change execReady k s = _
      unfold execReady
      generalize startRun (2 ^ 64) s = r at hshown
      have hgo : ¬ (s.boot.phase ≠ .starting ∨ s.rb Reg.dbgWdog 0 = true) := by
        rw [hs, hdog]
        decide
      have hend : r.boot.phase ≠ .starting := by
        rw [hshown.phase]
        decide
      dsimp only
      rw [if_neg hgo, if_pos hend]
    exact ⟨_, hexec, hshown.phase, hshown.state, hshown.owner, hshown.ctrl, hshown.raw⟩

end Sys2Proof.Proofs
end

section
/-! PROOFS. Refutations: the channel of a field engine's check is a number of any size, and past the last channel (7) its registers are those of
other pages, which the end of the check then writes (O32, O33, O43). -/

namespace Sys2Proof.Proofs
open Sys2Proof Sys2Proof.Machine

/-- An exchange of FE0 is in flight, with a check on channel `chan`, claimed for the frame where `spare`. -/
def checkedOn (chan : Nat) (spare : Bool) : State → State :=
  modEng 0 (fun e => { e with
    exch := some { item := ⟨0, 0, 0, 0, 0, 0, 0, [], 0, 0, none⟩, slot := 0, start := 0 }, check := some ⟨chan, spare, none, 0, []⟩ })

/-! ## The current limit of a coil (O32) -/

/-- FE0 drives COIL0 alone, a mismatch stops the field, and DRV_CNT stands for the claim of the check's channel, which reads as FE0's. -/
def limitedCoil : State :=
  checkedOn 0x3f38 true (setReg (Reg.sysResClaim 0) 0x4000 (setRf (Reg.coilMmCfg 0) 23 22 2 (setReg (Reg.coilDrvCnt 0) 0x4000
    (setRb (Reg.coilDriveStatus 0) 0 true Tests.up))))

-- Here and below, fact and refutation are elaborated in turn: each evaluates the model, and side by side they exceed the check's memory.
mutual

theorem exec_driverCurrentLimit_limitedCoil :
    ∃ u, exec (.driverCurrentLimit 0) limitedCoil = .next u ∧ u.rf (Reg.coilDrvCnt 0) 31 16 = 0 := ⟨_, rfl, by decide +kernel⟩

/-- Refutes O32: the limit stops the field, the exchange ends, and the release of its check's channel clears the DRV_CNT that has just counted. -/
theorem not_coilDriveComplete : ¬ Obligations.CoilDriveComplete := by
  unfold Obligations.CoilDriveComplete
  rintro ⟨-, -, -, hlimit, -⟩
  obtain ⟨t, ht, hcount, -⟩ := hlimit limitedCoil 0 (by decide +kernel) (by decide +kernel)
  obtain ⟨u, hu, hzero⟩ := exec_driverCurrentLimit_limitedCoil
  have hut : u = t := Host.Outcome.next.inj (hu.symm.trans ht)
  rw [hut] at hzero
  have hone : t.rf (Reg.coilDrvCnt 0) 31 16 = 1 := hcount.trans (by decide +kernel)
  exact absurd (hone.symm.trans hzero) (by decide)

end

/-! ## The coils of a set (O33) -/

/-- FE0's set holds COIL0, which it has claimed, and COIL1, which it has not; FE0_COILS stands for the claim of the check's channel, which
reads as FE0's. -/
def halfClaimedSet : State :=
  checkedOn 0x6f60 true (setReg (Reg.sysResClaim 0) 0x4000 (setReg (Reg.fwgtFeCoils 0) 0x4003
    (Tests.taking Agent.host (Reg.fwgtFeCoils 0) Tests.up)))

mutual

theorem exec_coilSetRemove_halfClaimedSet :
    ∃ u, exec (.coilSetRemove .host 0 1) halfClaimedSet = .next u ∧ u.coilSet 0 = 0 := ⟨_, rfl, by decide +kernel⟩

/-- Refutes O33: without COIL0 the engine drives no coil, its exchange ends, and the release of the check's channel clears the set, with COIL1
in it. -/
theorem not_fieldShapingComplete : ¬ Obligations.FieldShapingComplete := by
  unfold Obligations.FieldShapingComplete
  rintro ⟨-, hremove, -⟩
  obtain ⟨t, ht, hset, -⟩ := hremove halfClaimedSet .host 0 1 (by decide +kernel) (by decide +kernel) (by decide) (by decide +kernel)
  obtain ⟨u, hu, hzero⟩ := exec_coilSetRemove_halfClaimedSet
  have hut : u = t := Host.Outcome.next.inj (hu.symm.trans ht)
  rw [hut] at hzero
  have htwo : t.coilSet 0 = 2 := hset.trans (by decide +kernel)
  exact absurd (htwo.symm.trans hzero) (by decide)

end

/-! ## STOP of a player (O43) -/

/-- PL0 plays for the host and is to be held, and the status of the check's channel stands for LSP's ERR_CODE. -/
def stoppedPlayer : State :=
  checkedOn 124 false (setRb (Reg.lspPlCtrl 0) 0 true (Tests.taking Agent.host (Reg.lspPlCtrl 0) (setRb (Reg.lspPlStatus 0) 23 true
    (setReg (Reg.sysResClaim 0x18) (wd (4096 * agentClaimant Agent.host)) Tests.up))))

mutual

theorem exec_playerStop_stoppedPlayer :
    ∃ u, exec (.playerStop .host 0) stoppedPlayer = .next u ∧ u.rf (Reg.errCode Page.lsp) 7 0 ≠ Err.modeAbort := ⟨_, rfl, by decide +kernel⟩

/-- Refutes O43: STOP records MODE_ABORT (0x0B) at LSP, and the check that ends with the exchange clears the code's bit 0. -/
theorem not_playerControlComplete : ¬ Obligations.PlayerControlComplete := by
  unfold Obligations.PlayerControlComplete
  rintro ⟨-, hstop, -⟩
  obtain ⟨t, ht, -, -, -, hcode, -⟩ := hstop stoppedPlayer .host 0 (by decide +kernel) (by decide +kernel) (by decide +kernel)
    (by decide +kernel) (by decide +kernel)
  obtain ⟨u, hu, hne⟩ := exec_playerStop_stoppedPlayer
  have hut : u = t := Host.Outcome.next.inj (hu.symm.trans ht)
  rw [hut] at hne
  exact hne hcode

end

end Sys2Proof.Proofs
end

section
/-! PROOFS. A page that is released stays released through all that its block takes up with the release (R142, R144): one rule per operation of
the model, in the model's order, each put together from the rules of the operations that it calls (O12). -/

namespace Sys2Proof.Proofs
open Sys2Proof Sys2Proof.Machine Sys2Proof.Laws

/-! ## A released page -/

/-- Page `pg` is not quiesced, and no quiesce of it is asked for. -/
structure Released (pg : Nat) (s : State) : Prop where
  status : s.rb (Reg.status pg) 0 = false
  ctrl : s.rb (Reg.ctrl pg) 1 = false

variable {pg : Nat}

theorem Released.parts {s t : State} (h : Released pg s) (hr : t.regs = s.regs) : Released pg t :=
  ⟨(congrArg (bit · 0) (congrArg (Sparse.get regReset · (Reg.status pg)) hr)).trans h.status,
    (congrArg (bit · 1) (congrArg (Sparse.get regReset · (Reg.ctrl pg)) hr)).trans h.ctrl⟩

theorem Released.ite {c : Prop} [Decidable c] {s t : State} (hs : Released pg s) (ht : Released pg t) : Released pg (if c then s else t) := by
  split <;> assumption

theorem Released.ite_app {c : Prop} [Decidable c] {f g : State → State} {s : State} (hf : Released pg (f s)) (hg : Released pg (g s)) :
    Released pg ((if c then f else g) s) := by
  split <;> assumption

theorem Released.ite_snd {α : Type} {c : Prop} [Decidable c] {p q : α × State} (hp : Released pg p.2) (hq : Released pg q.2) :
    Released pg (if c then p else q).2 := by
  split <;> assumption

theorem Released.pair {α : Type} {x : α} {s : State} (h : Released pg s) : Released pg (x, s).2 := h

theorem Released.foldl {α : Type} {f : State → α → State} {s : State} (h : Released pg s) (hf : ∀ s a, Released pg s → Released pg (f s a))
    {xs : List α} : Released pg (xs.foldl f s) := by
  induction xs generalizing s with
  | nil => exact h
  | cons x xs ih => exact ih (hf s x h)

theorem Released.forEach {xs : List Nat} {f : Nat → State → State} {s : State} (h : Released pg s)
    (hf : ∀ k s, Released pg s → Released pg (f k s)) : Released pg (forEach xs f s) := h.foldl fun s k => hf k s

theorem Released.sif {c : Bool} {f : State → State} {s : State} (h : Released pg s) (hf : ∀ s, Released pg s → Released pg (f s)) :
    Released pg (sif c f s) := by
  unfold Machine.sif; exact .ite (hf s h) h

theorem Released.forEach_mem {xs : List Nat} {f : Nat → State → State} {s : State} (h : Released pg s)
    (hf : ∀ k ∈ xs, ∀ t, Released pg t → Released pg (f k t)) : Released pg (Machine.forEach xs f s) := by
  induction xs generalizing s with
  | nil => exact h
  | cons x xs ih => exact ih (hf x List.mem_cons_self s h) fun k hk => hf k (List.mem_cons_of_mem x hk)

/-! ## The registers other than CTRL and STATUS -/

/-- Register `a` is no page's CTRL or STATUS. -/
abbrev Aside (a : Nat) : Prop := a % 4096 ≠ 8 ∧ a % 4096 ≠ 12

theorem aside_coilChainCtrl (n : Nat) : Aside (Reg.coilChainCtrl n) := by unfold Reg.coilChainCtrl; omega
theorem aside_coilChainStatus (n : Nat) : Aside (Reg.coilChainStatus n) := by unfold Reg.coilChainStatus; omega
theorem aside_coilDriveStatus (n : Nat) : Aside (Reg.coilDriveStatus n) := by unfold Reg.coilDriveStatus; omega
theorem aside_coilMmMeas (n : Nat) : Aside (Reg.coilMmMeas n) := by unfold Reg.coilMmMeas; omega
theorem aside_coilOutCount (n : Nat) : Aside (Reg.coilOutCount n) := by unfold Reg.coilOutCount; omega
theorem aside_coilThrCtrl (n : Nat) : Aside (Reg.coilThrCtrl n) := by unfold Reg.coilThrCtrl; omega
theorem aside_coilThrStatus (n : Nat) : Aside (Reg.coilThrStatus n) := by unfold Reg.coilThrStatus; omega
theorem aside_cvuCCnt (c : Nat) : Aside (Reg.cvuCCnt c) := by unfold Reg.cvuCCnt; omega
theorem aside_cvuCResult (c : Nat) : Aside (Reg.cvuCResult c) := by unfold Reg.cvuCResult; omega
theorem aside_cvuCRun (c : Nat) : Aside (Reg.cvuCRun c) := by unfold Reg.cvuCRun; omega
theorem aside_cvuCStatus (c : Nat) : Aside (Reg.cvuCStatus c) := by unfold Reg.cvuCStatus; omega
theorem aside_errCode (p : Nat) : Aside (Reg.errCode p) := by unfold Reg.errCode; omega
theorem aside_errInfo (p : Nat) : Aside (Reg.errInfo p) := by unfold Reg.errInfo; omega
theorem aside_evfLutCellCfg (c : Nat) : Aside (Reg.evfLutCellCfg c) := by unfold Reg.evfLutCellCfg; omega
theorem aside_evfLutCellStatus (c : Nat) : Aside (Reg.evfLutCellStatus c) := by unfold Reg.evfLutCellStatus; omega
theorem aside_feErrCnt (n : Nat) : Aside (Reg.feErrCnt n) := by unfold Reg.feErrCnt; omega
theorem aside_feExchStatus (n : Nat) : Aside (Reg.feExchStatus n) := by unfold Reg.feExchStatus; omega
theorem aside_feGuardCnt (n : Nat) : Aside (Reg.feGuardCnt n) := by unfold Reg.feGuardCnt; omega
theorem aside_feLastFdt (n : Nat) : Aside (Reg.feLastFdt n) := by unfold Reg.feLastFdt; omega
theorem aside_ftbCadPeriod (g : Nat) : Aside (Reg.ftbCadPeriod g) := by unfold Reg.ftbCadPeriod; omega
theorem aside_ftbCadStatus (g : Nat) : Aside (Reg.ftbCadStatus g) := by unfold Reg.ftbCadStatus; omega
theorem aside_fwgtFeBank (n : Nat) : Aside (Reg.fwgtFeBank n) := by unfold Reg.fwgtFeBank; omega
theorem aside_fwgtFeCoils (n : Nat) : Aside (Reg.fwgtFeCoils n) := by unfold Reg.fwgtFeCoils; omega
theorem aside_irqRaw (p : Nat) : Aside (Reg.irqRaw p) := by unfold Reg.irqRaw; omega
theorem aside_irqStat (p : Nat) : Aside (Reg.irqStat p) := by unfold Reg.irqStat; omega
theorem aside_lspPlScoreId (k : Nat) : Aside (Reg.lspPlScoreId k) := by unfold Reg.lspPlScoreId; omega
theorem aside_lspPlSectCnt (k : Nat) : Aside (Reg.lspPlSectCnt k) := by unfold Reg.lspPlSectCnt; omega
theorem aside_lspPlStartLo (k : Nat) : Aside (Reg.lspPlStartLo k) := by unfold Reg.lspPlStartLo; omega
theorem aside_lspPlStatus (k : Nat) : Aside (Reg.lspPlStatus k) := by unfold Reg.lspPlStatus; omega
theorem aside_owner (p : Nat) : Aside (Reg.owner p) := by unfold Reg.owner; omega
theorem aside_stageCtrl (p : Nat) : Aside (Reg.stageCtrl p) := by unfold Reg.stageCtrl; omega
theorem aside_lspPlStartLo_hi (k : Nat) : Aside (Reg.lspPlStartLo k + 4) := by unfold Reg.lspPlStartLo; omega
theorem aside_cvuCCfg {c : Nat} (hc : c < 8) : Aside (Reg.cvuCCfg c) := by unfold Reg.cvuCCfg; omega
theorem aside_cvuCPoly {c : Nat} (hc : c < 8) : Aside (Reg.cvuCPoly c) := by unfold Reg.cvuCPoly; omega
theorem aside_cvuCInit {c : Nat} (hc : c < 8) : Aside (Reg.cvuCInit c) := by unfold Reg.cvuCInit; omega
theorem aside_cvuCXor {c : Nat} (hc : c < 8) : Aside (Reg.cvuCXor c) := by unfold Reg.cvuCXor; omega
theorem aside_evfGpCfg {n : Nat} (h : n < 16) : Aside (Reg.evfGpCfg n) := by unfold Reg.evfGpCfg; omega
theorem aside_logRec {w : Nat} (h : w < 8) : Aside (Reg.logRec w) := by unfold Reg.logRec; omega
theorem aside_rbTxCh {k : Nat} (h : k < 64) : Aside (Reg.rbTxCh k) := by unfold Reg.rbTxCh; omega
theorem aside_rbTxDuty {g : Nat} (h : g < 4) : Aside (Reg.rbTxDuty g) := by unfold Reg.rbTxDuty; omega
theorem aside_rbTxDutyUse {g : Nat} (h : g < 4) : Aside (Reg.rbTxDutyUse g) := by unfold Reg.rbTxDutyUse; omega
theorem aside_rbTxPa {k : Nat} (h : k < 32) : Aside (Reg.rbTxPa k) := by unfold Reg.rbTxPa; omega
theorem aside_sysResClaim {i : Nat} (h : i < 0x79) : Aside (Reg.sysResClaim i) := by unfold Reg.sysResClaim; omega
theorem aside_fwgtFeSwapCnt {n : Nat} (hn : n < 4) : Aside (Reg.fwgtFeSwapCnt n) := by unfold Reg.fwgtFeSwapCnt; omega

theorem bitsOf_lt {n m k : Nat} (h : k ∈ bitsOf n m) : k < n := List.mem_range.mp (List.mem_of_mem_filter h)

/-- No staged register is a CTRL or a STATUS. -/
theorem stagedRegs_aside_below : ∀ p < 0x2c, ∀ a ∈ stagedRegs p, Aside a := by decide +kernel

theorem rowsOf_above {p : Nat} (h : 0x2c ≤ p) : rowsOf p = [] := by
  unfold rowsOf
  repeat' rw [if_neg (by omega)]

theorem stagedRegs_aside {p a : Nat} (h : a ∈ stagedRegs p) : Aside a := by
  rcases Nat.lt_or_ge p 0x2c with hp | hp
  · exact stagedRegs_aside_below p hp a h
  · unfold stagedRegs at h
    rw [rowsOf_above hp] at h
    cases h

/-! ## Writes of registers -/

theorem Released.setReg {a : Nat} {w : Word} {s : State} (h : Released pg s) (ha : Aside a) : Released pg (setReg a w s) := by
  have hs : Reg.status pg ≠ a := fun e => ha.2 (by rw [← e]; unfold Reg.status; omega)
  have hc : Reg.ctrl pg ≠ a := fun e => ha.1 (by rw [← e]; unfold Reg.ctrl; omega)
  exact ⟨(congrArg (bit · 0) (setReg_reg_ne hs w s)).trans h.status, (congrArg (bit · 1) (setReg_reg_ne hc w s)).trans h.ctrl⟩

/-- A register that is cleared, whichever it is. -/
theorem Released.cleared {a : Nat} {s : State} (h : Released pg s) : Released pg (Machine.setReg a 0 s) := by
  have hclear : ∀ x j, s.rb x j = false → (Machine.setReg a 0 s).rb x j = false := by
    intro x j hx
    rcases eq_or_ne x a with rfl | hne
    · rw [State.rb, setReg_reg_eq]
      exact BitVec.getLsbD_zero
    · exact (congrArg (bit · j) (setReg_reg_ne hne 0 s)).trans hx
  exact ⟨hclear _ _ h.status, hclear _ _ h.ctrl⟩

theorem Released.setRf {a hi lo v : Nat} {s : State} (h : Released pg s) (ha : Aside a) : Released pg (setRf a hi lo v s) := h.setReg ha

theorem Released.addRf {a hi lo n : Nat} {s : State} (h : Released pg s) (ha : Aside a) : Released pg (addRf a hi lo n s) := h.setRf ha

theorem Released.setRb {a k : Nat} {b : Bool} {s : State} (h : Released pg s) (ha : Aside a) : Released pg (setRb a k b s) := h.setReg ha

theorem Released.setPair {a v : Nat} {s : State} (h : Released pg s) (ha : Aside a) (hb : Aside (a + 4)) : Released pg (setPair a v s) :=
  (h.setReg ha).setReg hb

/-- A bit that is 0 stays 0 where another bit is written, or this one to 0. -/
theorem setRb_keeps_clear {a x k j : Nat} {b : Bool} {s : State} (hj : j < 32) (h : s.rb x j = false) (hb : b = true → x = a → k ≠ j) :
    (Machine.setRb a k b s).rb x j = false := by
  rcases ne_or_eq x a with hx | rfl
  · exact (congrArg (bit · j) (setRb_reg_ne hx k b s)).trans h
  rcases ne_or_eq j k with hk | rfl
  · exact (setRb_rb_ne hj hk x b s).trans h
  · exact (setRb_rb_eq hj x b s).trans (Bool.eq_false_iff.mpr fun hset => hb hset rfl rfl)

/-- A bit of a page's CTRL, but for QUIESCE where it is set. -/
theorem Released.ctrlBit {p k : Nat} {b : Bool} {s : State} (h : Released pg s) (hk : k ≠ 1 ∨ b = false ∨ p ≠ pg) :
    Released pg (Machine.setRb (Reg.ctrl p) k b s) := by
  refine ⟨(congrArg (bit · 0) (setRb_reg_ne (by unfold Reg.status Reg.ctrl; omega) k b s)).trans h.status,
    setRb_keeps_clear (by decide) h.ctrl fun hb e => ?_⟩
  have hp : pg = p := by unfold Reg.ctrl at e; omega
  rcases hk with hk | hk | hk
  · exact hk
  · exact absurd (hb.symm.trans hk) (by decide)
  · exact absurd hp.symm hk

/-- A bit of a page's STATUS, but for QUIESCED where it is set. -/
theorem Released.statusBit {p k : Nat} {b : Bool} {s : State} (h : Released pg s) (hk : k ≠ 0 ∨ b = false ∨ p ≠ pg) :
    Released pg (Machine.setRb (Reg.status p) k b s) := by
  refine ⟨setRb_keeps_clear (by decide) h.status fun hb e => ?_,
    (congrArg (bit · 1) (setRb_reg_ne (by unfold Reg.status Reg.ctrl; omega) k b s)).trans h.ctrl⟩
  have hp : pg = p := by unfold Reg.status at e; omega
  rcases hk with hk | hk | hk
  · exact hk
  · exact absurd (hb.symm.trans hk) (by decide)
  · exact absurd hp.symm hk

/-! ## The operations of the model -/

theorem Released.setShade {a : Nat} {w : Word} {s : State} (h : Released pg s) : Released pg (setShade a w s) :=
  h.parts rfl

theorem Released.setByte {a : Nat} {b : Byte} {s : State} (h : Released pg s) : Released pg (setByte a b s) :=
  h.parts rfl

theorem Released.setBytes {a : Nat} {xs : List Byte} {s : State} (h : Released pg s) : Released pg (setBytes a xs s) := by
  induction xs generalizing a s with
  | nil => exact h
  | cons x xs ih => exact ih h.setByte

theorem Released.setCoil {n : Nat} {c : Coil} {s : State} (h : Released pg s) : Released pg (setCoil n c s) :=
  h.parts rfl

theorem Released.modCoil {n : Nat} {f : Coil → Coil} {s : State} (h : Released pg s) : Released pg (modCoil n f s) :=
  h.setCoil

theorem Released.setEng {n : Nat} {e : Eng} {s : State} (h : Released pg s) : Released pg (setEng n e s) :=
  h.parts rfl

theorem Released.modEng {n : Nat} {f : Eng → Eng} {s : State} (h : Released pg s) : Released pg (modEng n f s) :=
  h.setEng

theorem Released.setPlayer {k : Nat} {p : Player} {s : State} (h : Released pg s) : Released pg (setPlayer k p s) :=
  h.parts rfl

theorem Released.modPlayer {k : Nat} {f : Player → Player} {s : State} (h : Released pg s) : Released pg (modPlayer k f s) :=
  h.setPlayer

theorem Released.modSess {f : SessSt → SessSt} {s : State} (h : Released pg s) : Released pg (modSess f s) :=
  h.parts rfl

theorem Released.setMem {n a v : Nat} {s : State} (h : Released pg s) : Released pg (setMem n a v s) :=
  h.setBytes

theorem Released.setCtx {k o v : Nat} {s : State} (h : Released pg s) : Released pg (setCtx k o v s) :=
  h.setByte

theorem Released.setCtx16 {k o v : Nat} {s : State} (h : Released pg s) : Released pg (setCtx16 k o v s) :=
  h.setMem

theorem Released.incCtx16 {k o : Nat} {s : State} (h : Released pg s) : Released pg (incCtx16 k o s) :=
  h.setCtx16

theorem Released.nextFree {s : State} (h : Released pg s) : Released pg (nextFree s) :=
  h.parts rfl

theorem Released.advance {t : Nat} {s : State} (h : Released pg s) : Released pg (advance t s) :=
  h.parts rfl

theorem Released.modQueue {f : QueueSt → QueueSt} {s : State} (h : Released pg s) : Released pg (modQueue f s) :=
  h.parts rfl

theorem Released.modBoot {f : BootSt → BootSt} {s : State} (h : Released pg s) : Released pg (modBoot f s) :=
  h.parts rfl

theorem Released.modTime {f : TimeSt → TimeSt} {s : State} (h : Released pg s) : Released pg (modTime f s) :=
  h.parts rfl

theorem Released.modFab {f : FabricSt → FabricSt} {s : State} (h : Released pg s) : Released pg (modFab f s) :=
  h.parts rfl

theorem Released.irq {p k : Nat} {s : State} (h : Released pg s) : Released pg (irq p k s) :=
  Released.ite ((h.setRb (aside_irqRaw _)).setRb (aside_irqStat _)) (h.setRb (aside_irqRaw _))

theorem Released.irqLevel {p k : Nat} {b : Bool} {s : State} (h : Released pg s) : Released pg (irqLevel p k b s) :=
  Released.ite ((h.setRb (aside_irqRaw _)).setRb (aside_irqStat _)) (h.setRb (aside_irqRaw _))

theorem Released.faultIn {same : Bool} {cls p code : Nat} {s : State} (h : Released pg s) : Released pg (faultIn same cls p code s) :=
  (h.sif (fun _ h' => (h'.setRb (by decide)).irq)).sif (fun _ h' => ((h'.setReg (by decide)).setPair (by decide) (by decide)))

theorem Released.fault {cls p code : Nat} {s : State} (h : Released pg s) : Released pg (fault cls p code s) :=
  h.faultIn

theorem Released.faultOpt {cls : Option Nat} {p code : Nat} {s : State} (h : Released pg s) : Released pg (faultOpt cls p code s) := by
  unfold Machine.faultOpt
  split
  · exact h.fault
  · exact h

theorem Released.detailUsed {d : Nat} {s : State} (h : Released pg s) : Released pg (detailUsed d s) :=
  Released.ite h.nextFree h

theorem Released.noteFirst {p code info extra : Nat} {s : State} (h : Released pg s) : Released pg (noteFirst p code info extra s) :=
  ((h.detailUsed.setReg (aside_errCode _)).setReg (aside_errInfo _)).detailUsed

theorem Released.recErrAs {cls : Option Nat} {p code info extra : Nat} {s : State} (h : Released pg s) : Released pg (recErrAs cls p code
    info extra s) :=
  Released.faultOpt (Released.irq (Released.ite h.noteFirst (h.addRf (aside_errCode _))))

theorem Released.recErr {p code info extra : Nat} {s : State} (h : Released pg s) : Released pg (recErr p code info extra s) :=
  h.recErrAs

theorem Released.refusalErr {p code info extra : Nat} {s : State} (h : Released pg s) : Released pg (refusalErr p code info extra s) := by
  unfold Machine.refusalErr
  split
  · exact h.recErrAs.faultIn
  · exact h.recErrAs

theorem Released.recLate {p target actual : Nat} {s : State} (h : Released pg s) : Released pg (recLate p target actual s) :=
  h.recErr

theorem Released.dropLapsed {s : State} (h : Released pg s) : Released pg (dropLapsed s) :=
  h.modFab

theorem Released.publish {p t : Nat} {s : State} (h : Released pg s) : Released pg (publish p t s) :=
  h.dropLapsed.modFab

theorem Released.publishOn {p chan t : Nat} {s : State} (h : Released pg s) : Released pg (publishOn p chan t s) :=
  h.modFab

theorem Released.pageWork {p : Nat} {f : State → State} {s : State} (h : Released pg s) (hf : ∀ y0, Released pg y0 → Released pg (f y0)) : Released
    pg (pageWork p f s) :=
  Released.ite (hf _ h) h.refusalErr

theorem Released.holdLatch {s : State} (h : Released pg s) : Released pg (holdLatch s) :=
  Released.ite ((h.modQueue.setRb (by decide)).irq.addRf (by decide)) (Released.ite h.modQueue h)

theorem Released.attnLatch {s : State} (h : Released pg s) : Released pg (attnLatch s) :=
  Released.ite ((h.modQueue.setRb (by decide)).irq.addRf (by decide)) (Released.ite h.modQueue h)

theorem Released.holdPin {s : State} (h : Released pg s) : Released pg (holdPin s) :=
  Released.ite h.modQueue.publish h.modQueue

theorem Released.attnPin {s : State} (h : Released pg s) : Released pg (attnPin s) :=
  Released.ite h.modQueue.irqLevel.publish h.modQueue.irqLevel

theorem Released.settle {s : State} (h : Released pg s) : Released pg (settle s) :=
  h.modQueue.holdLatch.attnLatch.holdPin.attnPin.irqLevel

theorem Released.cellMark {c edge : Nat} {x2 : State} (h : Released pg x2) : Released pg (cellMark c edge x2) :=
  h.modFab

theorem Released.cellClaimed {c : Nat} {s : State} (h : Released pg s) : Released pg (cellClaimed c s) :=
  (h.setRb (aside_evfLutCellStatus _)).cellMark

theorem Released.claimRes {i claimant x2 detail : Nat} {s : State} (h : Released pg s) (hi : i < 0x79) :
    Released pg (claimRes i claimant x2 detail s) := (h.setReg (aside_sysResClaim hi)).sif fun _ h' => h'.cellClaimed

theorem Released.gpRelease {g : Nat} {s : State} (h : Released pg s) (hg : g < 16) : Released pg (gpRelease g s) :=
  (h.setRf (aside_evfGpCfg hg)).setShade.modFab

theorem Released.releaseRes {i : Nat} {s : State} (h : Released pg s) : Released pg (releaseRes i s) := by
  unfold Machine.releaseRes Machine.sif
  split
  · next hi =>
    have hlt : i - 0x68 < 16 := by
      have := of_decide_eq_true hi
      omega
    exact h.cleared.gpRelease hlt
  · exact h.cleared

theorem Released.releaseAll {p : Nat → Nat → Bool} {s : State} (h : Released pg s) : Released pg (releaseAll p s) :=
  h.forEach (fun _ _ h' => (Released.ite h'.releaseRes h'))

theorem Released.setSessState {k v : Nat} {s : State} (h : Released pg s) : Released pg (setSessState k v s) :=
  h.setCtx

theorem Released.useCount {s : State} (h : Released pg s) : Released pg (useCount s) :=
  (h.setRf (by decide)).setRf (by decide)

theorem Released.engineClaims {s : State} (h : Released pg s) : Released pg (engineClaims s) := by
  refine h.forEach_mem fun n hn t h' => ?_
  have hlt := List.mem_range.mp hn
  split
  · exact h'.claimRes (by omega)
  · exact h'

theorem Released.framesArea {k : Nat} {s : State} (h : Released pg s) : Released pg (framesArea k s) :=
  h.setBytes.parts rfl

theorem Released.freeBlocks {k : Nat} {s : State} (h : Released pg s) : Released pg (freeBlocks k s) :=
  Released.ite h h.modSess.framesArea

theorem Released.countResult {i : Item} {src : Nat} {s : State} (h : Released pg s) : Released pg (countResult i src s) := by
  unfold Machine.countResult
  split
  · exact h
  · exact (Released.ite h (Released.ite h.incCtx16 h.incCtx16))

theorem Released.closeSlot {x0 : Nat} {s : State} (h : Released pg s) : Released pg (closeSlot x0 s) :=
  h.modSess.releaseAll.setSessState.useCount.engineClaims

theorem Released.postedEnds {i : Item} {t : Nat} {s : State} (h : Released pg s) : Released pg (postedEnds i t s) :=
  Released.ite (h.modQueue.statusBit (.inl (by decide))).irq.publish (Released.ite h.closeSlot h)

theorem Released.putResult {i : Item} {src slot t : Nat} {s : State} (h : Released pg s) : Released pg (putResult i src slot t s) :=
  h.modQueue.countResult.freeBlocks.publish.faultOpt.postedEnds.settle

theorem Released.postResult {i : Item} {src slot : Nat} {s : State} (h : Released pg s) : Released pg (postResult i src slot s) :=
  Released.ite h.putResult h.modQueue

theorem Released.refuseFor {slot : Nat} {c : Item} {err d4 d5 : Nat} {s : State} (h : Released pg s) : Released pg (refuseFor slot c err d4 d5
    s) :=
  h.postResult

theorem Released.refuse {x0 : Item} {x1 x2 x3 : Nat} {x4 : State} (h : Released pg x4) : Released pg (refuse x0 x1 x2 x3 x4) :=
  h.refuseFor

theorem Released.dropApplied {a : Nat} {s : State} (h : Released pg s) : Released pg (dropApplied a s) :=
  h.parts rfl

theorem Released.dropStaged {p : Nat} {s : State} (h : Released pg s) : Released pg (dropStaged p s) :=
  h.forEach (fun _ _ h' => h'.dropApplied)

theorem Released.stagePlain {p : Nat} {only : Nat → Bool} {s : State} (h : Released pg s) : Released pg (stagePlain p only s) :=
  h.forEach_mem fun _ ha _ h' => .ite h' (h'.setReg (stagedRegs_aside (List.mem_of_mem_filter ha)))

theorem Released.stageReport {p : Nat} {s : State} (h : Released pg s) : Released pg (stageReport p s) :=
  (h.statusBit (.inl (by decide))).irq

theorem Released.heldRefresh {n : Nat} {s : State} (h : Released pg s) : Released pg (heldRefresh n s) :=
  h.setRf (aside_fwgtFeCoils _)

theorem Released.coilLeaves {n c : Nat} {s : State} (h : Released pg s) : Released pg (coilLeaves n c s) :=
  h.sif (fun _ h' => h'.modCoil)

theorem Released.floorMark {g : Nat} {s : State} (h : Released pg s) : Released pg (floorMark g s) :=
  Released.ite (h.forEach (fun _ _ h' => (Released.ite h'.modEng h'))) h

theorem Released.govShow {g : Nat} {s : State} (h : Released pg s) : Released pg (govShow g s) :=
  ((h.setReg (by decide)).setRf (by decide)).irqLevel

theorem Released.govReport {old g : Nat} {newly : List Nat} {s : State} (h : Released pg s) : Released pg (govReport old g newly s) :=
  Released.ite ((h.addRf (by decide)).sif (fun _ h' => (h'.addRf (by decide)))).irq.recErr h

theorem Released.govSet {g : Nat} {s : State} (h : Released pg s) : Released pg (govSet g s) :=
  Released.ite (h.parts rfl) (Released.ite h (h.parts rfl))

theorem Released.limitEnd {s : State} (h : Released pg s) : Released pg (limitEnd s) :=
  h.sif (fun _ h' => (h'.irqLevel.setReg (by decide)))

theorem Released.headFollow {c : Nat} {s : State} (h : Released pg s) : Released pg (headFollow c s) :=
  (h.setRb (aside_coilDriveStatus _)).irqLevel

theorem Released.govern {r : State} (h : Released pg r) : Released pg (govern r) :=
  Released.ite h (Released.forEach (Released.floorMark (Released.govReport (Released.govShow (Released.parts (h.limitEnd.forEach (fun _ _ h' =>
      h'.modCoil)).govSet rfl)))) (fun _ _ h' => h'.headFollow))

theorem Released.govDefer {b : Bool} {s : State} (h : Released pg s) : Released pg (govDefer b s) :=
  h.parts rfl

theorem Released.governAt {b : Nat} {s : State} (h : Released pg s) : Released pg (governAt b s) :=
  h.modTime.govern.modTime

theorem Released.passGov {t : Nat} {s : State} (h : Released pg s) : Released pg (passGov t s) :=
  Released.advance (Released.ite h (h.foldl (fun _ _ h' => h'.governAt)))

theorem Released.chainReset {n e : Nat} {s : State} (h : Released pg s) : Released pg (chainReset n e s) :=
  (h.modCoil.setRf (aside_coilThrStatus _)).setReg (aside_coilOutCount _)

theorem Released.chainStart {n e : Nat} {s : State} (h : Released pg s) : Released pg (chainStart n e s) :=
  ((h.modCoil.setRb (aside_coilChainStatus _)).setRf (aside_coilChainStatus _)).chainReset

theorem Released.chainEdge {n t : Nat} {s : State} (h : Released pg s) : Released pg (chainEdge n t s) := by
  unfold Machine.chainEdge
  split
  · exact h
  · exact (Released.ite h (Released.ite h.chainStart (h.modCoil.setRf (aside_coilChainStatus _)).chainReset))

theorem Released.chainsNow {s : State} (h : Released pg s) : Released pg (chainsNow s) :=
  h.forEach (fun _ _ h' => h'.chainEdge)

theorem Released.passTo {t : Nat} {s : State} (h : Released pg s) : Released pg (passTo t s) :=
  h.passGov.chainsNow

theorem Released.toCc {s : State} (h : Released pg s) : Released pg (toCc s) :=
  Released.ite h.passTo h

theorem Released.cmpFrom {k : Nat} {s : State} (h : Released pg s) : Released pg (cmpFrom k s) :=
  h.modTime

theorem Released.cadSet {g z next : Nat} {s : State} (h : Released pg s) : Released pg (cadSet g z next s) :=
  h.modTime

theorem Released.cadPublished {s : State} (h : Released pg s) : Released pg (cadPublished s) :=
  (h.forEach (fun _ _ h' => (h'.addRf (aside_ftbCadStatus _)))).modTime

theorem Released.cadPeriodInUse {g : Nat} {w : Word} {s : State} (h : Released pg s) : Released pg (cadPeriodInUse g w s) :=
  Released.ite (Released.ite (h.setReg (aside_ftbCadPeriod _)).cadSet (h.setReg (aside_ftbCadPeriod _)).cadSet) (h.setReg
      (aside_ftbCadPeriod _))

theorem Released.refuseLate {slot : Nat} {c : Item} {named first : Nat} {s : State} (h : Released pg s) : Released pg (refuseLate slot c named
    first s) :=
  h.postResult

theorem Released.markReaders {n edge : Nat} {s : State} (h : Released pg s) : Released pg (markReaders n edge s) :=
  h.forEach (fun _ _ h' => (Released.ite h'.cellMark h'))

theorem Released.pinSeen {n : Nat} {b : Bool} {t : Nat} {s : State} (h : Released pg s) : Released pg (pinSeen n b t s) :=
  Released.ite h ((h.modFab.setRb (by decide)).markReaders.sif (fun _ h' => h'.publish))

theorem Released.pinTurn {edge n : Nat} {s : State} (h : Released pg s) : Released pg (pinTurn edge n s) := by
  unfold Machine.pinTurn
  split
  · exact (Released.ite h.pinSeen h)
  · exact h

theorem Released.drivePin {n : Nat} {b : Bool} {edge : Nat} {r : State} (h : Released pg r) : Released pg (drivePin n b edge r) := by
  unfold Machine.drivePin
  exact h.pinTurn.modFab

theorem Released.gpFollow {n edge : Nat} {s : State} (h : Released pg s) : Released pg (gpFollow n edge s) :=
  Released.ite h.drivePin (Released.ite h.drivePin (Released.ite h.drivePin h.modFab))

theorem Released.cellChange {c : Nat} {b : Bool} {edge : Nat} {s : State} (h : Released pg s) : Released pg (cellChange c b edge s) :=
  (((h.markReaders.modFab.setRb (aside_evfLutCellStatus _)).setRb (by decide)).sif (fun _ h' => h'.publish)).forEach (fun _ _ h' =>
      (Released.ite h'.gpFollow h'))

theorem Released.setSince {c : Nat} {e : Option Nat} {s : State} (h : Released pg s) : Released pg (setSince c e s) :=
  h.modFab

theorem Released.cellFilter {c edge : Nat} {s : State} (h : Released pg s) : Released pg (cellFilter c edge s) := by
  unfold Machine.cellFilter
  split
  · exact (Released.ite h.setSince.cellChange h)
  · exact h

theorem Released.cellTake {c edge : Nat} {o : Bool} {s : State} (h : Released pg s) : Released pg (cellTake c edge o s) :=
  Released.ite h.setSince (Released.ite h.setSince.cellChange (Released.ite h h.setSince))

theorem Released.cellStep {c edge : Nat} {o : Bool} {s : State} (h : Released pg s) : Released pg (cellStep c edge o s) :=
  ((h.sif (fun _ h' => h'.cellMark)).setRb (aside_evfLutCellStatus _)).cellFilter.cellTake

theorem Released.cellUnmark {c edge : Nat} {x2 : State} (h : Released pg x2) : Released pg (cellUnmark c edge x2) :=
  h.modFab

theorem Released.cellTurn {edge c : Nat} {s : State} (h : Released pg s) : Released pg (cellTurn edge c s) :=
  Released.ite h.cellFilter.cellUnmark.cellStep h.cellFilter

theorem Released.cellsRun {edge n : Nat} {s : State} (h : Released pg s) : Released pg (cellsRun edge n s) := by
  induction n generalizing s with
  | zero => exact h
  | succ n ih =>
    unfold Machine.cellsRun
    split
    · exact .ite (ih ((h.forEach fun _ _ h' => h'.pinTurn).forEach fun _ _ h' => h'.cellTurn)) h
    · exact h

theorem Released.cellsTo {edge : Nat} {s : State} (h : Released pg s) : Released pg (cellsTo edge s) :=
  Released.ite h (Released.ite (h.forEach (fun _ _ h' => h'.pinTurn)) (by split; exacts [h.cellsRun, h]))

theorem Released.cellsNow {s : State} (h : Released pg s) : Released pg (cellsNow s) :=
  h.cellsTo

theorem Released.cellCfgInUse {c : Nat} {v : Word} {s : State} (h : Released pg s) : Released pg (cellCfgInUse c v s) :=
  ((h.cellsNow.cellFilter.setReg (aside_evfLutCellCfg _)).setRb (aside_evfLutCellStatus _)).setSince.cellMark

theorem Released.cellsWake {s : State} (h : Released pg s) : Released pg (cellsWake s) :=
  h.forEach (fun _ _ h' => h'.cellMark)

theorem Released.gpCfgInUse {n : Nat} {v : Word} {s : State} (h : Released pg s) (hn : n < 16) : Released pg (gpCfgInUse n v s) :=
  ((h.cellsNow.setReg (aside_evfGpCfg hn)).sif fun _ h' => h'.modFab).gpFollow

theorem Released.poolStore {k : Nat} {rx : List Byte} {s : State} (h : Released pg s) : Released pg (poolStore k rx s) :=
  (h.foldl (fun _ _ h' => h'.setBytes)).framesArea

theorem Released.cvuSetRun {c v : Nat} {s : State} (h : Released pg s) : Released pg (cvuSetRun c v s) :=
  (h.setReg (aside_cvuCRun _)).setReg (aside_cvuCResult _)

theorem Released.cvuFollow {c : Nat} {s : State} (h : Released pg s) : Released pg (cvuFollow c s) :=
  h.cvuSetRun

theorem Released.cvuLoadCfg {c : Nat} {w : Word} {s : State} (h : Released pg s) (hc : c < 8) : Released pg (cvuLoadCfg c w s) := by
  refine .cvuFollow ?_
  split
  · exact h.setReg (aside_cvuCCfg hc)
  · exact (((h.setReg (aside_cvuCCfg hc)).setReg (aside_cvuCPoly hc)).setReg (aside_cvuCInit hc)).setReg (aside_cvuCXor hc)

theorem Released.cvuDrop {c : Nat} {s : State} (h : Released pg s) : Released pg (cvuDrop c s) :=
  Released.ite (((h.addRf (aside_cvuCCnt _)).setRb (aside_cvuCStatus _)).sif (fun _ h' => (h'.setRb (by decide)))) h

theorem Released.cvuBegin {c : Nat} {s : State} (h : Released pg s) : Released pg (cvuBegin c s) :=
  ((h.cvuDrop.cvuSetRun.setRb (aside_cvuCStatus _)).setRb (aside_cvuCStatus _)).setRf (aside_cvuCStatus _)

theorem Released.cvuCheckedBegin {c : Nat} {s : State} (h : Released pg s) : Released pg (cvuCheckedBegin c s) := by
  unfold Machine.cvuCheckedBegin
  split
  · exact h.recErr
  · exact h.cvuBegin

theorem Released.cvuFeed {c : Nat} {xs : List Byte} {s : State} (h : Released pg s) : Released pg (cvuFeed c xs s) :=
  h.cvuSetRun.addRf (aside_cvuCStatus _)

theorem Released.cvuResume {c : Nat} {s : State} (h : Released pg s) : Released pg (cvuResume c s) :=
  Released.ite (Released.cvuCheckedBegin (h.parts rfl)) h

theorem Released.chqFollow {c : Nat} {s : State} (h : Released pg s) : Released pg (chqFollow c s) :=
  Released.ite (Released.ite h (h.setRb (by decide))) (h.setRb (by decide)).cvuResume

theorem Released.chainWaits {n e : Nat} {ws : List Word} {x : State} (h : Released pg x) : Released pg (chainWaits n e ws x) :=
  h.chainEdge.modCoil.chainEdge

theorem Released.chainFollow {n : Nat} {x : State} (h : Released pg x) : Released pg (chainFollow n x) :=
  Released.ite (Released.ite h.chainEdge h.chainEdge.modCoil.chainEdge) (h.chainEdge.modCoil.setRb (aside_coilChainStatus _))

theorem Released.chainCtrlInUse {n : Nat} {w : Word} {x : State} (h : Released pg x) : Released pg (chainCtrlInUse n w x) :=
  Released.ite (h.chainEdge.setReg (aside_coilChainCtrl _)).chainWaits (h.chainEdge.setReg (aside_coilChainCtrl _)).chainFollow

theorem Released.thrUnknown {n : Nat} {mag ph : Bool} {s : State} (h : Released pg s) : Released pg (thrUnknown n mag ph s) :=
  (h.sif (fun _ h' => (h'.modCoil.setRf (aside_coilThrStatus _)))).sif (fun _ h' => (h'.modCoil.setRf (aside_coilThrStatus _)))

theorem Released.thrCtrlInUse {n : Nat} {w : Word} {s : State} (h : Released pg s) : Released pg (thrCtrlInUse n w s) :=
  (h.setReg (aside_coilThrCtrl _)).thrUnknown

theorem Released.thrMarkInUse {n a : Nat} {w : Word} {s : State} (h : Released pg s) (ha : Aside a) :
    Released pg (thrMarkInUse n a w s) := (h.setReg ha).thrUnknown

theorem Released.mmAbandon {c : Nat} {s : State} (h : Released pg s) : Released pg (mmAbandon c s) :=
  Released.ite (h.modCoil.setRb (aside_coilMmMeas _)) h

theorem Released.startSection {k : Nat} {c : Section} {S slot : Nat} {s : State} (h : Released pg s) : Released pg (startSection k c S
    slot s) :=
  (((h.modPlayer.addRf (aside_lspPlSectCnt _)).setPair (aside_lspPlStartLo _) (aside_lspPlStartLo_hi _)).setRb (aside_lspPlStatus
      _)).setRf (aside_lspPlStatus _)

theorem Released.engErr {n e : Nat} {x2 : State} (h : Released pg x2) : Released pg (engErr n e x2) :=
  h.modEng

theorem Released.sectionErr {k slot e : Nat} {s : State} (h : Released pg s) : Released pg (sectionErr k slot e s) :=
  Released.ite h (Released.ite (Released.ite h.engErr h) (Released.ite (h.parts rfl) h))

theorem Released.stepRefused {k slot e index : Nat} {s : State} (h : Released pg s) : Released pg (stepRefused k slot e index s) :=
  h.irq.recErr.sectionErr

theorem Released.freeSteps {p : Nat} {s : State} (h : Released pg s) : Released pg (freeSteps p s) :=
  h.forEach (fun _ _ h' => h'.modPlayer)

theorem Released.faultsMet {p : Nat} {cls : Nat → Option Nat} {xs : List Nat} {s : State} (h : Released pg s) : Released pg (faultsMet p cls
    xs s) :=
  h.foldl (fun _ _ h' => h'.faultOpt)

theorem Released.frameDone {k : Nat} {s : State} (h : Released pg s) : Released pg (frameDone k s) :=
  h.sif (fun _ h' => h'.setSessState)

theorem Released.fcntUsed {k : Nat} {s : State} (h : Released pg s) : Released pg (fcntUsed k s) :=
  h.setMem

theorem Released.feEvent {n k t : Nat} {x3 : State} (h : Released pg x3) : Released pg (feEvent n k t x3) :=
  h.publish

theorem Released.fePhase {n v : Nat} {x2 : State} (h : Released pg x2) : Released pg (fePhase n v x2) :=
  h.setRf (aside_feExchStatus _)

theorem Released.modAir {n : Nat} {f : Air → Air} {x2 : State} (h : Released pg x2) : Released pg (modAir n f x2) :=
  h.modEng

theorem Released.modExch {n : Nat} {f : Exch → Exch} {x2 : State} (h : Released pg x2) : Released pg (modExch n f x2) :=
  h.modEng

theorem Released.loadFrameCfg {c : Nat} {slot : Option Nat} {pr : Nat} {cmp : Bool} {s : State} (h : Released pg s) (hc : c < 8) :
    Released pg (loadFrameCfg c slot pr cmp s) :=
  .ite ((((h.cvuLoadCfg hc).setReg (aside_cvuCPoly hc)).setReg (aside_cvuCInit hc)).setReg (aside_cvuCXor hc)) (h.cvuLoadCfg hc)

theorem Released.checkOpen {c : Nat} {slot : Option Nat} {pr : Nat} {cmp : Bool} {s : State} (h : Released pg s) (hc : c < 8) :
    Released pg (checkOpen c slot pr cmp s) :=
  .ite (h.loadFrameCfg hc).cvuCheckedBegin.cvuSetRun (h.loadFrameCfg hc).cvuCheckedBegin

/-- A field engine's checks run on one of the eight channels. -/
theorem engChan_lt {s : State} {n c : Nat} (h : s.engChan n = some c) : c < 8 := by
  unfold State.engChan at h
  dsimp only at h
  split at h
  · cases h
  split at h
  · cases h; exact fld_lt _ 2 0
  split at h
  · cases h; exact fld_lt _ 14 12
  · cases h

theorem Released.engOpen {n : Nat} {slot : Option Nat} {pr : Nat} {cmp : Bool} {bytes : List (Nat × Byte)} {s : State} (h : Released pg s) :
    Released pg (engOpen n slot pr cmp bytes s) := by
  unfold Machine.engOpen
  split
  · exact h
  · next c hchan =>
    have hc := engChan_lt hchan
    exact .modEng (.checkOpen (.ite h (h.claimRes (by omega))) hc)

theorem Released.engFree {n : Nat} {k : Check} {s : State} (h : Released pg s) : Released pg (engFree n k s) :=
  h.modEng.sif (fun _ h' => h'.releaseRes)

theorem Released.engDrop {n : Nat} {s : State} (h : Released pg s) : Released pg (engDrop n s) := by
  unfold Machine.engDrop
  dsimp only
  split
  · exact h.modEng
  · exact h.modEng.cvuDrop.engFree

theorem Released.linkShift {n t d : Nat} {s : State} (h : Released pg s) : Released pg (linkShift n t d s) :=
  Released.ite h.modPlayer h

theorem Released.engShift {n d : Nat} {s : State} (h : Released pg s) : Released pg (engShift n d s) :=
  h.modEng.modFab.linkShift

theorem Released.engFeed {n : Nat} {s : State} (h : Released pg s) : Released pg (engFeed n s) := by
  unfold Machine.engFeed
  dsimp only
  split
  · exact (by split; exacts [(Released.ite h (Released.ite h.engShift h.modEng.engOpen)), h])
  · exact (Released.ite (by split; exacts [(Released.ite h (Released.ite h.engShift h.modEng.engOpen)), h]) (Released.cvuFeed (Released.modEng
      (by split; exacts [(Released.ite h (Released.ite h.engShift h.modEng.engOpen)), h]))))

theorem Released.engSends {n st : Nat} {slot : Option Nat} {pr : Nat} {bytes : List (Nat × Byte)} {x5 : State} (h : Released pg x5) : Released
    pg (engSends n st slot pr bytes x5) :=
  h.modEng.engFeed

theorem Released.modRadio {f : RadioSt → RadioSt} {s : State} (h : Released pg s) : Released pg (modRadio f s) :=
  h.parts rfl

theorem Released.modRx {f : RxSt → RxSt} {s : State} (h : Released pg s) : Released pg (modRx f s) :=
  h.parts rfl

theorem Released.modLink {f : LinkSt → LinkSt} {s : State} (h : Released pg s) : Released pg (modLink f s) :=
  h.parts rfl

theorem Released.modEx {f : LinkEx → LinkEx} {x1 : State} (h : Released pg x1) : Released pg (modEx f x1) :=
  h.modLink

theorem Released.setLocked {b : Bool} {x1 : State} (h : Released pg x1) : Released pg (setLocked b x1) :=
  h.setRb (by decide)

theorem Released.searchCfg {t : Nat} {s : State} (h : Released pg s) : Released pg (searchCfg t s) := by
  unfold Machine.searchCfg
  exact (h.setRb (by decide)).modRx

theorem Released.lateSearch {t : Nat} {s : State} (h : Released pg s) : Released pg (lateSearch t s) := by
  unfold Machine.lateSearch
  split
  · exact h
  · exact (Released.ite h.modRx.recLate h)

theorem Released.setRbState {v t : Nat} {s : State} (h : Released pg s) : Released pg (setRbState v t s) :=
  Released.ite h (Released.ite ((h.setRf (by decide)).setRb (by decide)).irq.publish.searchCfg.lateSearch ((h.setRf (by decide)).setRb
      (by decide)).irq.publish)

theorem Released.dutyShow {g : Nat} {s : State} (h : Released pg s) (hg : g < 4) : Released pg (dutyShow g s) :=
  (h.setRf (aside_rbTxDutyUse hg)).setRb (by decide)

theorem Released.setBins {g : Nat} {xs : List Nat} {s : State} (h : Released pg s) (hg : g < 4) : Released pg (setBins g xs s) :=
  h.modRadio.dutyShow hg

theorem Released.clearBins {g : Nat} {s : State} (h : Released pg s) (hg : g < 4) : Released pg (clearBins g s) := h.modRadio.setBins hg

theorem Released.dutySettle {g : Nat} {s : State} (h : Released pg s) (hg : g < 4) : Released pg (dutySettle g s) :=
  .ite h (h.modRadio.setBins hg)

theorem Released.txRefused {cls code cause chan : Nat} {s : State} (h : Released pg s) : Released pg (txRefused cls code cause chan s) :=
  h.recErrAs.irq

theorem Released.txCheck {chan ask air : Nat} {s0 : State} (h : Released pg s0) : Released pg (txCheck chan ask air s0).2 := by
  have hd : Released pg (Machine.dutySettle (s0.rf (Reg.rbTxCh chan) 25 24) s0) := h.dutySettle (fld_lt _ 25 24)
  refine .ite_snd hd.nextFree.txRefused (.ite_snd (hd.txRefused.addRf (by decide)) ?_)
  split
  · exact hd.txRefused.addRf (by decide)
  · next k clamped _ =>
    have hu : Released pg (Machine.sif clamped (fun v => Machine.setRb Reg.rbTxStatus 8 true (Machine.irq Page.rbTx 1
        (Machine.addRf Reg.rbTxCnt 15 0 1 v))) (Machine.dutySettle (s0.rf (Reg.rbTxCh chan) 25 24) s0)) :=
      hd.sif fun _ h' => (h'.addRf (by decide)).irq.setRb (by decide)
    exact .ite_snd (hu.txRefused.addRf (by decide)).irq hu

theorem Released.startSynth {t : Nat} {s : State} (h : Released pg s) : Released pg (startSynth t s) :=
  (h.setLocked.modRadio.sif (fun _ h' => (h'.addRf (by decide)))).setRb (by decide)

theorem Released.stopSynth {s : State} (h : Released pg s) : Released pg (stopSynth s) :=
  h.modRadio.setLocked.setRb (by decide)

theorem Released.radioEnter {g t : Nat} {s : State} (h : Released pg s) : Released pg (radioEnter g t s) :=
  Released.ite (Released.startSynth (Released.ite h.setRbState (Released.ite h.setRbState (Released.ite h.setRbState h)))) (Released.ite h.setRbState
      (Released.ite h.setRbState (Released.ite h.setRbState h)))

theorem Released.radioMove {t : Nat} {s : State} (h : Released pg s) : Released pg (radioMove t s) := by
  unfold Machine.radioMove
  split
  · exact h
  · exact (Released.ite h.radioEnter.modRadio (by split; exacts [h.radioEnter.modRadio, (Released.ite h.radioEnter (h.radioEnter.sif (fun _
      h' => h'.stopSynth)).modRadio)]))

theorem Released.radioTo {g t : Nat} {s : State} (h : Released pg s) : Released pg (radioTo g t s) :=
  h.modRadio.radioMove

theorem Released.radioAct {q : RadioReq} {t : Nat} {r : State} (h : Released pg r) : Released pg (radioAct q t r) :=
  (((((h.modRadio.setRb (by decide)).setRf (by decide)).setRf (by decide)).setRf (by decide)).sif (fun _ h' =>
      h'.stopSynth)).modRadio.radioTo

theorem Released.radioAsk {q : RadioReq} {t : Nat} {s : State} (h : Released pg s) : Released pg (radioAsk q t s) :=
  Released.ite h (Released.ite (h.modRadio.setRb (by decide)) h.radioAct)

theorem Released.radioTake {q : RadioReq} {t : Nat} {s : State} (h : Released pg s) : Released pg (radioTake q t s) := by
  unfold Machine.radioTake
  split
  · exact h.radioAct
  · exact (Released.ite h.radioAct.recLate.sectionErr h.radioAct)

theorem Released.radioStandby {t : Nat} {s : State} (h : Released pg s) : Released pg (radioStandby t s) :=
  Released.ite (Released.ite h.modRadio.radioTo h.modRadio) (h.modRadio.sif (fun _ h' => h'.stopSynth)).setRbState

theorem Released.rampStart {x : RadioTx} {s : State} (h : Released pg s) : Released pg (rampStart x s) :=
  (h.modRadio.setRf (by decide)).setRbState

theorem Released.testCheck {x : RadioTx} {s : State} (h : Released pg s) : Released pg (testCheck x s).2 :=
  Released.ite_snd h h.txCheck

theorem Released.testRamp {t : Nat} {s : State} (h : Released pg s) : Released pg (testRamp t s) := by
  unfold Machine.testRamp
  split
  · exact h
  · next x _ =>
    have hc : Released pg (Machine.testCheck x s).2 := h.testCheck
    refine .ite ?_ h
    split <;> rename_i heq <;> rw [heq] at hc
    · exact (hc.sif fun _ h' => h'.setRbState).rampStart
    · exact hc.modRadio.radioTo

theorem Released.radioIdle {t : Nat} {s : State} (h : Released pg s) : Released pg (radioIdle t s) :=
  Released.ite h.radioAsk h

theorem Released.radioResume {t : Nat} {s : State} (h : Released pg s) : Released pg (radioResume t s) :=
  Released.ite h (Released.testRamp (by split; exacts [h.radioTake, h.radioIdle]))

theorem Released.wipe {i : Item} {k : Nat} {s : State} (h : Released pg s) : Released pg (wipe i k s) :=
  Released.ite h.poolStore h

theorem Released.windowsIdle {x0 : State} (h : Released pg x0) : Released pg (windowsIdle x0) :=
  h.modRx

theorem Released.closeLink {x : LinkEx} {o0 : LinkOut} {s : State} (h : Released pg s) : Released pg (closeLink x o0 s) :=
  (h.modLink.faultsMet.windowsIdle.wipe.postResult.sif (fun _ h' => h'.incCtx16)).frameDone

theorem Released.finishLink {o : LinkOut} {s : State} (h : Released pg s) : Released pg (finishLink o s) := by
  unfold Machine.finishLink
  split
  · exact h
  · exact (Released.ite (Released.ite h.closeLink h.faultsMet.modEx.incCtx16.windowsIdle) h.closeLink)

theorem Released.noPacket {outcome t : Nat} {s : State} (h : Released pg s) : Released pg (noPacket outcome t s) := by
  unfold Machine.noPacket
  split
  · exact h
  · exact (Released.ite h.finishLink h.finishLink)

theorem Released.wakeRoundEnd {x : LinkEx} {s : State} (h : Released pg s) : Released pg (wakeRoundEnd x s) :=
  Released.ite h.closeLink (Released.ite h.recErr.closeLink h.modEx)

theorem Released.linkSettle {s : State} (h : Released pg s) : Released pg (linkSettle s) := by
  unfold Machine.linkSettle
  split
  · exact h
  · exact (Released.ite h (Released.ite h.wakeRoundEnd (Released.ite h.closeLink h.noPacket)))

theorem Released.envelopeCuts {n st : Nat} {s : State} (h : Released pg s) : Released pg (envelopeCuts n st s) :=
  h.forEach (fun _ _ h' => (h'.sif (fun _ h1 => h1.mmAbandon)))

theorem Released.envelopeEnd {n : Nat} {s : State} (h : Released pg s) : Released pg (envelopeEnd n s) :=
  (h.forEach (fun _ _ h' => (h'.modCoil.setRf (aside_coilDriveStatus _)))).govern

theorem Released.sendFrame {n : Nat} {f : TxFrame} {slot : Option Nat} {rate floor waited t : Nat} {s : State} (h : Released pg s) :
    Released pg (sendFrame n f slot rate floor waited t s) :=
  ((h.sif (fun _ h' => (h'.recErr.irq.addRf (aside_feGuardCnt _)).engErr)).sif (fun _ h' =>
      h'.engSends)).envelopeCuts.linkShift.modAir.fePhase.feEvent.govern

theorem Released.stdSettle {n : Nat} {s : State} (h : Released pg s) : Released pg (stdSettle n s) :=
  Released.ite h.dropStaged.modEng.stagePlain.stageReport h

theorem Released.noStart {n : Nat} {s : State} (h : Released pg s) : Released pg (noStart n s) :=
  Released.ite h.modFab h

theorem Released.engIdle {n err : Nat} {s : State} (h : Released pg s) : Released pg (engIdle n err s) :=
  ((h.noStart.engDrop.modEng.setReg (aside_feExchStatus _)).sif (fun _ h' => h'.envelopeEnd)).stdSettle

theorem Released.halfDone {status err ts : Nat} {errs : List Nat} {s : State} (h : Released pg s) : Released pg (halfDone status err ts errs
    s) :=
  h.modEx.linkSettle

theorem Released.exchErr {n : Nat} {o : RxOut} {s : State} (h : Released pg s) : Released pg (exchErr n o s) :=
  h.sif (fun _ h' => h'.irq.feEvent)

theorem Released.setFdt {n fdt : Nat} {x2 : State} (h : Released pg x2) : Released pg (setFdt n fdt x2) :=
  h.setReg (aside_feLastFdt _)

theorem Released.saveBlockNr {x : Exch} {s : State} (h : Released pg s) : Released pg (saveBlockNr x s) :=
  h.sif (fun _ h' => h'.setCtx)

theorem Released.finishExch {n : Nat} {o : RxOut} {s : State} (h : Released pg s) : Released pg (finishExch n o s) := by
  unfold Machine.finishExch
  split
  · exact h
  · exact (Released.ite h.setFdt.exchErr.saveBlockNr.faultsMet.engIdle.halfDone
      (h.setFdt.exchErr.saveBlockNr.faultsMet.engIdle.postResult.sif (fun _ h' => h'.incCtx16)).frameDone)

theorem Released.noReplyCount {n status : Nat} {s : State} (h : Released pg s) : Released pg (noReplyCount n status s) :=
  Released.setFdt (Released.ite (h.addRf (aside_feErrCnt _)).irq (h.addRf (aside_feErrCnt _)))

theorem Released.rxCut {n t : Nat} {x2 : State} (h : Released pg x2) : Released pg (rxCut n t x2) :=
  h.modEng

theorem Released.engFault {n cause t : Nat} {s : State} (h : Released pg s) : Released pg (engFault n cause t s) :=
  h.rxCut.engErr.finishExch

theorem Released.turnaround {n : Nat} {s : State} (h : Released pg s) : Released pg (turnaround n s) := by
  unfold Machine.turnaround
  split
  · exact h
  · exact (Released.ite (by split; exacts [h.startSection, h.engFault]) h)

theorem Released.finishDisc {n : Nat} {d : Disc} {s : State} (h : Released pg s) : Released pg (finishDisc n d s) :=
  h.modEng.engIdle.postResult

theorem Released.startDisc {n : Nat} {s : State} (h : Released pg s) : Released pg (startDisc n s) := by
  unfold Machine.startDisc
  split
  · exact h
  · exact (Released.ite h (Released.ite h.modEng.refuse (Released.ite h.modEng.refuse (by split; exacts [h.modEng.refuse, h.modEng.refuseLate,
      (Released.startSection (Released.fePhase (Released.modEng (Released.ite h.modEng.nextFree h.modEng))))]))))

theorem Released.engSettle {n : Nat} {s : State} (h : Released pg s) : Released pg (engSettle n s) := by
  unfold Machine.engSettle
  split
  · exact (Released.ite h.noReplyCount.finishExch h)
  · exact (Released.ite h.finishDisc h)
  · exact h

theorem Released.exchSend {n floor waited t : Nat} {x : Exch} {s : State} (h : Released pg s) : Released pg (exchSend n floor waited t x s) :=
  Released.ite h.modExch.sendFrame h.modExch.sendFrame

theorem Released.firstRefused {n c : Nat} {s : State} (h : Released pg s) : Released pg (firstRefused n c s) := by
  unfold Machine.firstRefused
  split
  · exact h.engIdle.refuseFor.frameDone
  · exact h.modEng.engIdle.refuse
  · exact h

theorem Released.eofAct {n floor waited t sec : Nat} {s : State} (h : Released pg s) : Released pg (eofAct n floor waited t sec s) :=
  Released.ite h (h.modExch.sif (fun _ h' => h'.modEng)).sendFrame

theorem Released.txAct {n floor waited t : Nat} {i : Issued} {s : State} (h : Released pg s) : Released pg (txAct n floor waited t i s) :=
  Released.ite h.stepRefused (by split; exacts [h.firstRefused, (Released.ite h.eofAct (by split; exacts [(Released.ite h.exchSend h),
      (Released.ite h h.modEng.sendFrame), h]))])

theorem Released.openWindow {n : Nat} {i : Issued} {s : State} (h : Released pg s) : Released pg (openWindow n i s) := by
  unfold Machine.openWindow
  exact h.modAir

theorem Released.heldStep {n floor : Nat} {i : Issued} {s : State} (h : Released pg s) : Released pg (heldStep n floor i s) :=
  Released.ite h.modEng (Released.ite h.txAct h.openWindow)

theorem Released.serveWaits {n : Nat} {s : State} (h : Released pg s) : Released pg (serveWaits n s) := by
  unfold Machine.serveWaits
  split
  · exact h
  · exact (h.modEng.foldl (fun _ _ h' => h'.heldStep)).modEng

theorem Released.engAfter {n : Nat} {s : State} (h : Released pg s) : Released pg (engAfter n s) :=
  h.engSettle.serveWaits.startDisc

theorem Released.abortEngine {n cause t : Nat} {s : State} (h : Released pg s) : Released pg (abortEngine n cause t s) := by
  unfold Machine.abortEngine
  split
  · exact h.engFault.engAfter
  · exact h.rxCut.finishDisc.engAfter
  · exact h

theorem Released.takeRadio {k : Nat} {s : State} (h : Released pg s) : Released pg (takeRadio k s) := h.claimRes (by decide)

theorem Released.playRb {x : LinkEx} {c : Section} {S : Nat} {s : State} (h : Released pg s) : Released pg (playRb x c S s) :=
  h.modLink.takeRadio.startSection

theorem Released.playXb {n : Nat} {x : LinkEx} {c : Section} {c4 : Option Section} {S : Nat} {s : State} (h : Released pg s) : Released
    pg (playXb n x c c4 S s) := by
  unfold Machine.playXb
  split
  · exact (h.modLink.modEng.setReg (aside_feExchStatus _)).fcntUsed.startSection
  · exact (h.modLink.modEng.setReg (aside_feExchStatus _)).fcntUsed.startSection.takeRadio.startSection

theorem Released.linkStop {x : LinkEx} {e : Nat} {s : State} (h : Released pg s) : Released pg (linkStop x e s) :=
  h.closeLink

theorem Released.linkGo {s : State} (h : Released pg s) : Released pg (linkGo s) := by
  unfold Machine.linkGo
  split
  · exact h
  · exact (Released.ite h (Released.ite h.recErr.linkStop (Released.ite h.linkStop (Released.ite (Released.ite h (by split; exacts [h.linkStop,
      (Released.ite h (Released.ite h.linkStop (Released.ite h.linkStop h.playXb)))])) (Released.ite h (by split; exacts [h.linkStop, (Released.ite
      h.linkStop h.playRb)]))))))

theorem Released.pulseCut {c : Nat} {s : State} (h : Released pg s) : Released pg (pulseCut c s) :=
  Released.ite h (Released.ite (h.setRb (aside_coilMmMeas _)) (h.parts rfl))

theorem Released.crocusYield {c : Nat} {s : State} (h : Released pg s) : Released pg (crocusYield c s) := by
  refine .publish (.addRf (h.sif fun t h' => ?_) (by decide))
  exact h'.pulseCut.parts rfl

theorem Released.coilsAdd {n mask : Nat} {s : State} (h : Released pg s) : Released pg (coilsAdd n mask s) := by
  refine .heldRefresh (h.forEach_mem fun c hc t h' => .modCoil (.ite h' ?_))
  exact (h'.sif fun _ h1 => h1.crocusYield).claimRes (Nat.lt_trans (bitsOf_lt hc) (by decide))

theorem Released.coilsDrop {n mask : Nat} {s : State} (h : Released pg s) : Released pg (coilsDrop n mask s) :=
  Released.ite (h.forEach (fun _ _ h' => (Released.ite h'.coilLeaves.modCoil h'.coilLeaves.releaseRes))).heldRefresh.abortEngine (h.forEach
      (fun _ _ h' => (Released.ite h'.coilLeaves.modCoil h'.coilLeaves.releaseRes))).heldRefresh

theorem Released.feCoilsInUse {n : Nat} {w : Word} {s : State} (h : Released pg s) : Released pg (feCoilsInUse n w s) :=
  ((h.setRf (aside_fwgtFeCoils _)).setRb (aside_fwgtFeCoils _)).coilsDrop.coilsAdd.toCc.govern

theorem Released.coilsTake {n : Nat} {w : Word} {f : State → State} {s : State} (h : Released pg s) (hf : ∀ y0, Released pg y0 → Released pg (f
    y0)) : Released pg (coilsTake n w f s) :=
  Released.ite (h.pageWork (fun _ h' => h')) (by split; exacts [(Released.irq (Released.ite h.refusalErr h.refusalErr)), (hf _ h)])

theorem Released.setSel {n b : Nat} {s : State} (h : Released pg s) : Released pg (setSel n b s) :=
  (h.setRf (aside_fwgtFeBank _)).setShade

theorem Released.bankBits {n : Nat} {s : State} (h : Released pg s) : Released pg (bankBits n s) :=
  (h.setRb (aside_fwgtFeBank _)).setRb (aside_fwgtFeBank _)

theorem Released.fadeDone {n t : Nat} {s : State} (h : Released pg s) (hn : n < 4) : Released pg (fadeDone n t s) :=
  ((h.modEng.setRf (aside_fwgtFeBank _)).bankBits.addRf (aside_fwgtFeSwapCnt hn)).irq.publish.govern

theorem Released.swapStart {n t : Nat} {s : State} (h : Released pg s) (hn : n < 4) : Released pg (swapStart n t s) :=
  .ite (h.passTo.fadeDone hn) h.modEng.bankBits.govern

theorem Released.bankAccept {n b t : Nat} {s : State} (h : Released pg s) (hn : n < 4) : Released pg (bankAccept n b t s) :=
  .ite h.setSel (.ite h.setSel.modEng.bankBits (h.setSel.swapStart hn))

theorem Released.bankReject {n : Nat} {s : State} (h : Released pg s) (hn : n < 4) : Released pg (bankReject n s) :=
  (h.addRf (aside_fwgtFeSwapCnt hn)).irq.refusalErr

theorem Released.bankRequest {n b t : Nat} {no : State → State} {s : State} (h : Released pg s) (hn : n < 4)
    (hno : ∀ u, Released pg u → Released pg (no u)) : Released pg (bankRequest n b t no s) :=
  .ite (hno _ (h.bankReject hn)) (h.bankAccept hn)

theorem Released.feBankInUse {n : Nat} {w : Word} {s : State} (h : Released pg s) (hn : n < 4) : Released pg (feBankInUse n w s) := by
  have ht := (h.setRf (hi := 26) (lo := 16) (v := fld w 26 16) (aside_fwgtFeBank n)).setRb (k := 5) (b := bit w 5) (aside_fwgtFeBank n)
  exact .govern (.ite ht (ht.pageWork fun _ h' => h'.bankRequest hn fun _ h1 => h1.setSel))

theorem Released.swapNext {n t : Nat} {s : State} (h : Released pg s) (hn : n < 4) : Released pg (swapNext n t s) := by
  unfold Machine.swapNext
  split
  · exact h
  · exact .ite h (.ite h.modEng.bankBits (h.modEng.bankBits.swapStart hn))

theorem Released.swapSlots {k : Nat} {s : State} (h : Released pg s) : Released pg (swapSlots k s) :=
  (((h.modPlayer.setRf (aside_lspPlStatus _)).setRf (aside_lspPlStatus _)).addRf (aside_lspPlSectCnt _)).publish.irq.setReg
      (aside_lspPlScoreId _)

theorem Released.noSection {k : Nat} {s : State} (h : Released pg s) : Released pg (noSection k s) :=
  h.irq.recErr

theorem Released.startOwn {k : Nat} {c : Section} {S : Nat} {s : State} (h : Released pg s) : Released pg (startOwn k c S s) :=
  Released.ite h.startSection (Released.ite h.recErr h.takeRadio.startSection)

theorem Released.startTrigger {k S : Nat} {s : State} (h : Released pg s) : Released pg (startTrigger k S s) := by
  unfold Machine.startTrigger
  dsimp only
  split
  · exact (h.modPlayer.setRb (aside_lspPlStatus _)).startOwn
  · exact (h.modPlayer.setRb (aside_lspPlStatus _)).noSection

theorem Released.serveNext {k : Nat} {s : State} (h : Released pg s) : Released pg (serveNext k s) :=
  Released.ite h.turnaround.startDisc (Released.ite h.linkGo h)

theorem Released.playerIdle {k : Nat} {s : State} (h : Released pg s) : Released pg (playerIdle k s) :=
  Released.ite h (Released.ite ((h.sif (fun _ h' => h'.swapSlots)).setRb (aside_lspPlStatus _)) (Released.ite (Released.ite ((h.sif (fun
      _ h' => h'.swapSlots)).setRb (aside_lspPlStatus _)).startTrigger ((h.sif (fun _ h' => h'.swapSlots)).setRb (aside_lspPlStatus _)))
      (Released.serveNext (Released.ite ((h.sif (fun _ h' => h'.swapSlots)).setRb (aside_lspPlStatus _)).startTrigger ((h.sif (fun _ h'
      => h'.swapSlots)).setRb (aside_lspPlStatus _))))))

theorem Released.playerSwap {k : Nat} {s : State} (h : Released pg s) : Released pg (playerSwap k s) :=
  Released.ite (h.setRf (aside_lspPlStatus _)) h.refusalErr

theorem Released.modTag {f : TagSt → TagSt} {s : State} (h : Released pg s) : Released pg (modTag f s) :=
  h.parts rfl

theorem Released.setTag {a : Nat} {xs : List Byte} {x2 : State} (h : Released pg x2) : Released pg (setTag a xs x2) :=
  h.setBytes

theorem Released.setLeft {k n : Nat} {x2 : State} (h : Released pg x2) : Released pg (setLeft k n x2) :=
  h.setTag

theorem Released.setPw {k v : Nat} {x2 : State} (h : Released pg x2) : Released pg (setPw k v x2) :=
  h.setTag

theorem Released.publishNow {p : Nat} {s : State} (h : Released pg s) : Released pg (publishNow p s) :=
  Released.ite (Released.publish (Released.nextFree (h.parts rfl))) h.publish

theorem Released.onTagc {f : State → State} {s : State} (h : Released pg s) (hf : ∀ y0, Released pg y0 → Released pg (f y0)) : Released pg (onTagc
    f s) :=
  h.sif hf

theorem Released.copyBad {x0 : State} (h : Released pg x0) : Released pg (copyBad x0) :=
  h.onTagc (fun _ h' => h'.irq.fault)

theorem Released.wireBusy {a path : Nat} {s : State} (h : Released pg s) : Released pg (wireBusy a path s) :=
  (h.onTagc (fun _ h' => ((h'.setRb (by decide)).addRf (by decide)).irq.recErr)).modTag

theorem Released.busStop {x0 : State} (h : Released pg x0) : Released pg (busStop x0) :=
  h.modTag

theorem Released.i2cStop {out : List Word} {s : State} (h : Released pg s) : Released pg (i2cStop out s) :=
  Released.parts (h.busStop.onTagc (fun _ h' => h'.publishNow)) rfl

theorem Released.tagcIdle {s : State} (h : Released pg s) : Released pg (tagcIdle s) := h.statusBit (.inl (by decide))

theorem Released.wireExpire {op : WireOp} {s : State} (h : Released pg s) : Released pg (wireExpire op s) := by
  unfold Machine.wireExpire
  split
  · exact h.wireBusy.i2cStop
  · exact h.wireBusy.i2cStop
  · exact (h.wireBusy.parts rfl)
  · exact h.wireBusy
  · exact h.wireBusy.tagcIdle
  · exact h.wireBusy.tagcIdle
  · exact h.wireBusy.tagcIdle

theorem Released.writeCopy {k b v writes : Nat} {s : State} (h : Released pg s) : Released pg (writeCopy k b v writes s) :=
  Released.ite (Released.setTag (Released.ite h.setTag h)) (Released.ite h.setTag h)

theorem Released.hostInc {k amount : Nat} {s : State} (h : Released pg s) : Released pg (hostInc k amount s) := by
  unfold Machine.hostInc
  split
  · exact h.recErr.copyBad
  · exact (Released.ite h.recErr h.writeCopy)

theorem Released.hostPw {k limit : Nat} {v : Word} {s : State} (h : Released pg s) : Released pg (hostPw k limit v s) :=
  Released.ite h.recErr h.setPw.setTag.setLeft

theorem Released.i2cPut {a : Nat} {xs : List Byte} {acked : Nat} {s : State} (h : Released pg s) : Released pg (i2cPut a xs acked s).2 := by
  have hg : ∀ ys f, Released pg (Machine.modTag f (Machine.setTag a ys s)) := fun _ _ => h.setTag.modTag
  exact .ite_snd h.i2cStop (.ite_snd (h.onTagc fun _ h' => h'.setRb (by decide)).modTag.i2cStop (.ite_snd (hg _ _).i2cStop (.pair (hg _ _))))

theorem Released.i2cGet {a n : Nat} {got : List Byte} {s : State} (h : Released pg s) : Released pg (i2cGet a n got s).2 := by
  have hg : ∀ f, Released pg (Machine.modTag f s) := fun _ => h.modTag
  exact .ite_snd h.i2cStop (.ite_snd h.modTag.i2cStop (.ite_snd (hg _).i2cStop (.pair (hg _))))

theorem Released.granule {op : WireOp} {s : State} (h : Released pg s) : Released pg (granule op s).2 := by
  unfold Machine.granule
  split
  · exact h.i2cPut
  · exact h.i2cGet
  · exact (h.parts rfl)
  · exact (Released.ite (h.setRb (by decide)).recErr h.setTag)
  · exact (Released.tagcIdle (Released.setTag (Released.ite h.modTag h)))
  · exact h.hostPw.tagcIdle
  · exact h.hostInc.tagcIdle

theorem Released.wireWait {op : WireOp} {need : Option Nat} {x2 : State} (h : Released pg x2) : Released pg (wireWait op need x2) :=
  h.modTag

theorem Released.granules {n : Nat} {op : WireOp} {s : State} (h : Released pg s) : Released pg (granules n op s) := by
  induction n generalizing op s with
  | zero => exact h.wireWait
  | succ n ih =>
    have hg : Released pg (Machine.granule op s).2 := h.granule
    unfold Machine.granules
    split <;> rename_i heq <;> rw [heq] at hg
    · exact hg
    · exact ih hg

theorem Released.wireStart {n : Nat} {op : WireOp} {s : State} (h : Released pg s) : Released pg (wireStart n op s) :=
  Released.ite h.wireWait h.granules

theorem Released.cmdOver {e : Nat} {s : State} (h : Released pg s) : Released pg (cmdOver e s) :=
  h.modTag.foldl (fun _ _ h' => h'.wireExpire)

theorem Released.replyDone {c : FieldCmd} {s : State} (h : Released pg s) : Released pg (replyDone c s) := by
  unfold Machine.replyDone
  split
  · exact h.cmdOver
  · exact (h.cmdOver.onTagc (fun _ h' => (Released.ite_app ((h'.addRf (by decide)).addRf (by decide)).irq.publishNow ((h'.addRf (by
      decide)).addRf (by decide)).irq.publish)))

theorem Released.tagSettle {s : State} (h : Released pg s) : Released pg (tagSettle s) := by
  unfold Machine.tagSettle
  split
  · exact h
  · exact (Released.ite h.replyDone h)

theorem Released.cmpResume {k : Nat} {s : State} (h : Released pg s) : Released pg (cmpResume k s) :=
  Released.ite h.cmpFrom h

theorem Released.modNvm {f : NvmSt → NvmSt} {s : State} (h : Released pg s) : Released pg (modNvm f s) :=
  h.parts rfl

theorem Released.modMgt {f : MgtSt → MgtSt} {s : State} (h : Released pg s) : Released pg (modMgt f s) :=
  h.parts rfl

theorem Released.consoleAdd {xs : List Word} {s : State} (h : Released pg s) : Released pg (consoleAdd xs s) :=
  Released.ite h (Released.ite h.modMgt (h.addRf (by decide)))

theorem Released.logWrite {r : LogRec} {s : State} (h : Released pg s) : Released pg (logWrite r s) :=
  Released.ite h (Released.consoleAdd (Released.ite h.modNvm.irq.irq.publish h.modNvm.irq))

theorem Released.logFlush {s : State} (h : Released pg s) : Released pg (logFlush s) :=
  Released.ite (h.modMgt.foldl (fun _ _ h' => h'.logWrite)) h

theorem Released.logRec {r : LogRec} {s : State} (h : Released pg s) : Released pg (logRec r s) :=
  Released.ite h.logFlush.logWrite h.modMgt

theorem Released.logAdd {code source sev info detail : Nat} {s : State} (h : Released pg s) : Released pg (logAdd code source sev info detail
    s) :=
  h.logRec

theorem Released.selShow {s : State} (h : Released pg s) : Released pg (selShow s) := by
  have hrec : ∀ (l : List Word) t, Released pg t →
      Released pg (Machine.forEach (List.range 8) (fun w => Machine.setReg (Reg.logRec w) (l.getD w 0)) t) :=
    fun _ _ ht => ht.forEach_mem fun _ hw _ h' => h'.setReg (aside_logRec (List.mem_range.mp hw))
  exact .ite (hrec _ _ (h.setRb (by decide))) ((hrec _ _ (h.setRb (by decide))).addRf (by decide)).fault

theorem Released.selServe {s : State} (h : Released pg s) : Released pg (selServe s) :=
  Released.ite h.modMgt h.modMgt.selShow

theorem Released.takePages {ps : List Nat} {s : State} (h : Released pg s) : Released pg (takePages ps s).2 :=
  h.forEach (fun _ _ h' => (h'.setRf (aside_owner _)))

theorem Released.givePages {xs : List (Nat × Nat)} {s : State} (h : Released pg s) : Released pg (givePages xs s) :=
  h.foldl (fun _ _ h' => (Released.ite h' (h'.setRf (aside_owner _))))

theorem Released.calTold {err : Nat} {s : State} (h : Released pg s) : Released pg (calTold err s) :=
  Released.ite h.modMgt h

theorem Released.calEndAs {inj err : Nat} {s : State} (h : Released pg s) : Released pg (calEndAs inj err s) := by
  unfold Machine.calEndAs
  split
  · exact h
  · refine .govern (.irq (.faultOpt (.calTold (.logAdd (.setRb (.setRf (.givePages ?_) (by decide)) (by decide))))))
    exact (h.modMgt.forEach fun _ _ h' => .ite h'.releaseRes h').forEach fun _ _ h' => h'.statusBit (.inl (by decide))

theorem Released.calEnd {err : Nat} {x1 : State} (h : Released pg x1) : Released pg (calEnd err x1) :=
  h.calEndAs

theorem Released.protClear {s : State} (h : Released pg s) : Released pg (protClear s).2 :=
  Released.ite_snd h (by split; exacts [(Released.ite_snd (h.setReg (by decide)).logAdd.irqLevel.govern h), h])

theorem Released.loadReg {a : Nat} {w : Word} {s : State} (h : Released pg s) (ha : Aside a) : Released pg (loadReg a w s) :=
  (Released.ite h.setShade h).setReg ha

theorem Released.loadRegs {regs : List Nat} {ws : List Word} {s : State} (h : Released pg s) (hr : ∀ a ∈ regs, Aside a) :
    Released pg (loadRegs regs ws s) := by
  unfold Machine.loadRegs
  induction regs generalizing ws s with
  | nil => exact h
  | cons a regs ih =>
    cases ws with
    | nil => exact h
    | cons w ws => exact ih (h.loadReg (hr a List.mem_cons_self)) fun b hb => hr b (List.mem_cons_of_mem _ hb)

/-- A register image holds neither a CTRL nor a STATUS, and a weight image is one of the four engines. -/
theorem imageRegs_aside {typ target : Nat} {regs : List Nat} (h : imageRegs typ target = some regs) :
    (∀ a ∈ regs, Aside a) ∧ (typ = 0x10 → target < 4) := by
  unfold imageRegs at h
  split at h
  · next ht =>
    cases h
    refine ⟨fun a ha => ?_, fun _ => ht.2⟩
    rcases List.mem_append.mp ha with ha | ha
    · obtain ⟨c, hc, rfl⟩ := List.mem_map.mp ha
      have hlt := List.mem_range.mp hc
      have := ht.2
      unfold Reg.fwgtFeWa
      omega
    · obtain ⟨c, hc, rfl⟩ := List.mem_map.mp ha
      have hlt := List.mem_range.mp hc
      have := ht.2
      unfold Reg.fwgtFeWb
      omega
  split at h
  · next ht =>
    cases h
    exact ⟨by decide +kernel, fun h10 => absurd (h10.symm.trans ht.1) (by decide)⟩
  split at h
  · next ht =>
    cases h
    refine ⟨fun a ha => ?_, fun h10 => absurd (h10.symm.trans ht.1) (by decide)⟩
    obtain ⟨k, hk, rfl⟩ := List.mem_map.mp ha
    have hlt := List.mem_range.mp hk
    unfold Reg.coilPwrTable
    omega
  split at h
  · next ht =>
    cases h
    refine ⟨fun a ha => ?_, fun h10 => absurd (h10.symm.trans ht.1) (by decide)⟩
    obtain ⟨j, hj, rfl⟩ := List.mem_map.mp ha
    have hlt := List.mem_range.mp hj
    unfold Reg.coilProfStage
    omega
  · cases h

theorem Released.loadRegion {ws : List Word} {s : State} (h : Released pg s) : Released pg (loadRegion ws s) := by
  refine (Released.forEach_mem (Released.forEach_mem h fun g hg u h' => ?_) fun k hk u h' => ?_).setReg (by decide)
  · have hlt := List.mem_range.mp hg
    have hduty : Released pg (Machine.setReg (Reg.rbTxDuty g) (ws.getD (1 + g) 0) u) := h'.setReg (aside_rbTxDuty hlt)
    exact .ite (hduty.dutyShow hlt) (hduty.clearBins hlt)
  · exact h'.setReg (aside_rbTxCh (List.mem_range.mp hk))

theorem Released.loadPa {ws : List Word} {s : State} (h : Released pg s) : Released pg (loadPa ws s) :=
  h.forEach_mem fun _ hk _ h' => h'.setReg (aside_rbTxPa (List.mem_range.mp hk))

theorem Released.putScore {k b : Nat} {r : SetRec} {s t : State} (h : Released pg s) (ht : putScore k b r s = some t) : Released pg t := by
  unfold Machine.putScore at ht
  split at ht
  · cases ht
    exact h.setBytes
  · cases ht

theorem Released.modJob {f : Job → Job} {x1 : State} (h : Released pg x1) : Released pg (modJob f x1) :=
  h.modMgt

theorem Released.jobErr {e : Nat} {x1 : State} (h : Released pg x1) : Released pg (jobErr e x1) :=
  h.modJob

theorem Released.jobWords {ws : List Word} {x1 : State} (h : Released pg x1) : Released pg (jobWords ws x1) :=
  h.modJob

theorem Released.jobTake {ps : List Nat} {s : State} (h : Released pg s) : Released pg (jobTake ps s) :=
  h.takePages.modJob

theorem Released.tableShut {s : State} (h : Released pg s) (hpg : pg ∉ Machine.radioPages) : Released pg (tableShut s) := by
  refine .modJob (h.jobTake.forEach_mem fun p hp t h' => h'.ctrlBit (.inr (.inr ?_)))
  rintro rfl
  exact hpg (List.mem_of_mem_filter hp)

theorem Released.tableQuiet {s : State} (h : Released pg s) (hpg : pg ∉ Machine.radioPages) : Released pg (tableQuiet s) := by
  refine h.radioStandby.forEach_mem fun p hp t h' => .ite h' (h'.statusBit (.inr (.inr ?_))).irq
  rintro rfl
  exact hpg hp

theorem Released.tableOpen {s : State} (h : Released pg s) : Released pg (tableOpen s) := by
  unfold Machine.tableOpen
  split
  · exact h
  · exact .modJob (h.forEach fun _ _ h' => ((h'.ctrlBit (.inr (.inl rfl))).statusBit (.inr (.inl rfl))).freeSteps)

theorem Released.tableDrop {s : State} (h : Released pg s) : Released pg (tableDrop s) :=
  h.tableOpen.sif (fun _ h' => h'.radioResume)

theorem Released.applyFail {r : SetRec} {e : Nat} {s : State} (h : Released pg s) : Released pg (applyFail r e s) :=
  h.tableDrop.jobErr.faultOpt.logAdd

theorem Released.applyDone {r : SetRec} {ps : List Nat} {extra : Word} {s : State} (h : Released pg s) : Released pg (applyDone r ps extra s) :=
  h.jobWords.logAdd

theorem Released.applyScore {r : SetRec} {swap : Bool} {s : State} (h : Released pg s) : Released pg (applyScore r swap s) := by
  refine .ite h.applyFail ?_
  dsimp only
  split
  · exact h.applyFail
  · next heq =>
    have hu := (h.putScore heq).jobTake (ps := [Page.lsp])
    split
    · exact (hu.setRf (aside_lspPlStatus _)).irq.recErr.applyFail
    · have hv := (hu.setRf (hi := 19) (lo := 16) (v := 3) (aside_lspPlStatus (r.target % 8))).irq (p := Page.lsp) (k := 2)
      exact .ite (hv.claimRes (by omega)).playerSwap.playerIdle.applyDone.modJob hv.applyDone

theorem Released.applyWeights {r : SetRec} {regs : List Nat} {ws : List Word} {swap : Bool} {s : State} (h : Released pg s)
    (hr : ∀ a ∈ regs, Aside a) (hn : r.target < 4) : Released pg (applyWeights r regs ws swap s) := by
  have hhalf : ∀ k, ∀ a ∈ (regs.drop k).take 12, Aside a := fun k a ha => hr a (List.mem_of_mem_drop (List.mem_of_mem_take ha))
  exact .ite h.applyFail (.applyDone (.ite ((h.loadRegs (hhalf _)).jobTake.bankRequest hn fun _ h' => h') (h.loadRegs (hhalf _)).jobTake))

theorem Released.applyStaged {r : SetRec} {regs : List Nat} {ws : List Word} {arm : Bool} {s : State} (h : Released pg s)
    (hr : ∀ a ∈ regs, Aside a) : Released pg (applyStaged r regs ws arm s) := by
  have ht := (h.setRb (k := 0) (b := true) (aside_stageCtrl r.page)).jobTake (ps := [r.page])
  have hhalf : ∀ k, ∀ a ∈ (regs.drop k).take 3, Aside a := fun k a ha => hr a (List.mem_of_mem_drop (List.mem_of_mem_take ha))
  exact .applyDone (.sif (.ite (ht.loadRegs (hhalf _)).setShade (ht.foldl fun _ _ h' => h'.setShade)) fun _ h' => h'.setRb (aside_stageCtrl _))

theorem Released.applyTable {r : SetRec} {ws : List Word} {arg : Nat} {s : State} (h : Released pg s) (hpg : pg ∉ Machine.radioPages) :
    Released pg (applyTable r ws arg s) := by
  have ha : Released pg (if (s.mgt.job.bind Job.shut).isSome then s else Machine.tableShut s) := .ite h (h.tableShut hpg)
  refine .ite h.applyFail (.ite h.applyFail (.ite ha.modJob (.radioResume (.applyDone (.tableOpen ?_)))))
  exact .ite (ha.tableQuiet hpg).loadRegion (ha.tableQuiet hpg).loadPa

theorem Released.applyRecord {arg : Nat} {s : State} (h : Released pg s) (hpg : pg ∉ Machine.radioPages) : Released pg (applyRecord arg s) := by
  refine .ite h.applyFail (.ite h.modJob.jobTake ?_)
  split
  · next regs hregs =>
    obtain ⟨haside, htarget⟩ := imageRegs_aside hregs
    refine .ite h.applyFail ?_
    split
    · next htyp => exact h.applyWeights haside (htarget htyp)
    · exact h.applyStaged haside
  · split
    · exact h.applyScore
    · exact h.applyFail
    · exact h.applyTable hpg
    · exact h.applyTable hpg
    · exact h.applyFail

theorem Released.checkStore {s : State} (h : Released pg s) : Released pg (checkStore s) :=
  Released.ite h.jobErr.faultOpt h.jobWords

theorem Released.revertTrial {cause : Nat} {s : State} (h : Released pg s) : Released pg (revertTrial cause s) :=
  h.modNvm.modMgt.logAdd

/-- A register that the filter drops reads its default. -/
theorem sparse_get_filter_dropped {V : Type} {d : Nat → V} {f : Nat × V → Bool} {a : Nat} (ha : ∀ v, f (a, v) = false) (l : List (Nat × V)) :
    Sparse.get d (l.filter f) a = d a := by
  induction l with
  | nil => rfl
  | cons p l ih =>
    obtain ⟨b, v⟩ := p
    by_cases hb : b = a
    · subst hb
      simp only [List.filter_cons, ha, Bool.false_eq_true, if_false, ih]
    · cases hf : f (b, v) with
      | true => simp only [List.filter_cons, hf, if_true, Sparse.get, hb, if_false, ih]
      | false => simp only [List.filter_cons, hf, Bool.false_eq_true, if_false, ih]

theorem regReset_header {o : Nat} (p : Nat) (ho : o < 0x40) :
    regReset (p * 0x1000 + o) = if pageExists p then wd (headerReset p o) else 0 := by
  have hpage : (p * 0x1000 + o) / 0x1000 = p := by omega
  have hoff : (p * 0x1000 + o) % 0x1000 = o := by omega
  unfold regReset
  dsimp only
  rw [hpage, hoff]
  cases pageExists p
  · rfl
  · exact if_pos ho

/-- Neither a quiesce nor a request of one is in the Reset values. -/
theorem regReset_released (p : Nat) : bit (regReset (Reg.status p)) 0 = false ∧ bit (regReset (Reg.ctrl p)) 1 = false := by
  have hstatus : headerReset p 0xc = 0 := rfl
  have hctrl : headerReset p 0x8 = if pageFixed p then 1 else 0 := rfl
  unfold Reg.status Reg.ctrl
  rw [regReset_header p (by decide), regReset_header p (by decide), hstatus, hctrl]
  cases pageExists p <;> cases pageFixed p <;> exact ⟨by decide, by decide⟩

/-- A bit that is 0, in use and after reset, is 0 after registers have been forgotten. -/
theorem mgtClear_keeps_clear {a k : Nat} {s : State} (h : s.rb a k = false) (hr : bit (regReset a) k = false) :
    (Machine.mgtClear s).rb a k = false := by
  cases hkeep : decide (a < 0x25000) || decide (0x2a000 ≤ a) || a == Reg.sensProt || a == Reg.calCoilStatus || a == Reg.calRecInfo with
  | true => exact (congrArg (bit · k) (sparse_get_filter (V := Word) (fun _ => hkeep) s.regs)).trans h
  | false => exact (congrArg (bit · k) (sparse_get_filter_dropped (V := Word) (fun _ => hkeep) s.regs)).trans hr

/-- The management pages' registers are forgotten. -/
theorem Released.mgtClear {s : State} (h : Released pg s) : Released pg (mgtClear s) :=
  ⟨mgtClear_keeps_clear h.status (regReset_released pg).1, mgtClear_keeps_clear h.ctrl (regReset_released pg).2⟩

theorem Released.mgtPages {s : State} (h : Released pg s) : Released pg (mgtPages s) :=
  h.mgtClear.forEach fun _ _ h' => (h'.ctrlBit (.inl (by decide))).setRf (aside_owner _)

theorem Released.recCut {s : State} (h : Released pg s) : Released pg (recCut s) :=
  h.sif (fun _ h' => h'.modNvm)

theorem Released.hhReset {s0 : State} (h : Released pg s0) : Released pg (hhReset s0) :=
  Released.irqLevel (Released.releaseAll (Released.modMgt (Released.calEnd (Released.modBoot (Released.givePages (Released.modMgt (Released.mgtPages
      (Released.recCut (Released.ite h.tableDrop.modNvm h.tableDrop)))))))))

theorem Released.fwReset {s : State} (h : Released pg s) : Released pg (fwReset s) :=
  (h.setRb (by decide)).hhReset

theorem Released.fwSwitch {s : State} (h : Released pg s) : Released pg (fwSwitch s) :=
  Released.ite h.jobErr.faultOpt h.modNvm.publishOn.logAdd.fwReset

theorem Released.raiseRollback {svn : Nat} {s : State} (h : Released pg s) : Released pg (raiseRollback svn s) :=
  Released.ite h h.modNvm

theorem Released.fwConfirm {advance : Bool} {s : State} (h : Released pg s) : Released pg (fwConfirm advance s) :=
  Released.logAdd (Released.jobWords (Released.sif (by split; exacts [h.modNvm, h]) (fun _ h' => h'.raiseRollback)))

theorem Released.fwRevert {s : State} (h : Released pg s) : Released pg (fwRevert s) :=
  Released.ite h.revertTrial.fwReset h.jobErr.faultOpt

theorem Released.calRefuse {kind err x2 : Nat} {s : State} (h : Released pg s) : Released pg (calRefuse kind err x2 s) :=
  Released.faultOpt (Released.ite ((h.setRf (by decide)).setRf (by decide)) (((h.setRf (by decide)).setRf (by decide)).setRf (by decide)))

theorem Released.calStart {kind coils : Nat} {s : State} (h : Released pg s) : Released pg (calStart kind coils s) := by
  have hclaims := h.forEach_mem (xs := calUnits kind coils) (f := fun i => Machine.claimRes i 2 0 0) fun _ hi _ h' =>
    h'.claimRes (calUnits_lt hi)
  refine .govern (.forEach (.setReg (.modMgt (.sif (hclaims.takePages (ps := calPages kind coils)) fun _ h' => ?_)) (by decide)) fun _ _ h' => ?_)
  · exact h'.forEach fun _ _ h1 => h1.modCoil
  · exact h'.statusBit (.inl (by decide))

theorem Released.calMake {w : Word} {s : State} (h : Released pg s) : Released pg (calMake w s) :=
  Released.ite h.calRefuse (Released.ite h.calRefuse (Released.ite h.calRefuse (Released.ite h.calRefuse (by split; exacts [h.calRefuse,
      h.calStart]))))

theorem Released.calHold {w : Word} {own : Bool} {x2 : State} (h : Released pg x2) : Released pg (calHold w own x2) :=
  h.modMgt

theorem Released.calOwn {w : Word} {s : State} (h : Released pg s) : Released pg (calOwn w s) :=
  Released.ite h.calMake.modJob h.calMake.modJob

theorem Released.calRelease {s : State} (h : Released pg s) : Released pg (calRelease s) :=
  h.modMgt.foldl (fun _ _ h' => (Released.ite h'.calOwn h'.calMake))

theorem Released.mboxBusy {x0 : State} (h : Released pg x0) : Released pg (mboxBusy x0) :=
  h.refusalErr

theorem Released.getVersion {s : State} (h : Released pg s) : Released pg (getVersion s) :=
  h.jobWords

theorem Released.logNote {code : Nat} {info detail : Word} {s : State} (h : Released pg s) : Released pg (logNote code info detail s) :=
  Released.ite h.jobErr.faultOpt (Released.ite h.logAdd.nextFree.jobWords h.logAdd.jobWords)

theorem Released.calibrate {w : Word} {s : State} (h : Released pg s) : Released pg (calibrate w s) :=
  Released.ite h.modJob.calHold h.calOwn

theorem Released.tagUnlock {mask : Nat} {s : State} (h : Released pg s) : Released pg (tagUnlock mask s) :=
  (h.tagSettle.forEach (fun _ _ h' => h'.wireStart)).modJob.logAdd

theorem Released.mboxRun {code : Nat} {s : State} (h : Released pg s) (hpg : pg ∉ Machine.radioPages) : Released pg (mboxRun code s) := by
  unfold Machine.mboxRun
  split
  · exact h.getVersion
  · exact h.logNote
  · exact h.calibrate
  · exact h.applyRecord hpg
  · exact h.checkStore
  · exact h.fwSwitch
  · exact h.fwConfirm
  · exact h.fwRevert
  · exact h.tagUnlock
  · exact h.protClear.faultOpt.modJob

theorem Released.mboxStart {s : State} (h : Released pg s) (hpg : pg ∉ Machine.radioPages) : Released pg (mboxStart s) :=
  .ite ((h.modMgt.setReg (by decide)).mboxRun hpg) (h.modMgt.setReg (by decide)).jobErr.faultOpt

theorem Released.mboxGo {s : State} (h : Released pg s) (hpg : pg ∉ Machine.radioPages) : Released pg (mboxGo s) :=
  .ite h.mboxBusy (.ite h.refusalErr (.ite h.recErrAs (.ite h.modMgt (h.mboxStart hpg))))

theorem Released.mboxRelease {s : State} (h : Released pg s) (hpg : pg ∉ Machine.radioPages) : Released pg (mboxRelease s) :=
  .ite (h.modMgt.mboxGo hpg) h

theorem Released.stageCoils {add : Bool} {n : Nat} {s : State} (h : Released pg s) : Released pg (stageCoils add n s) :=
  Released.ite h (Released.ite h.feCoilsInUse (h.coilsTake (fun _ h' => h'.feCoilsInUse)))

theorem Released.stageReg {a : Nat} {s : State} (h : Released pg s) (ha : Aside a) (hs : stageSpecial a = true) :
    Released pg (stageReg a s) := by
  unfold stageSpecial at hs
  unfold Machine.stageReg
  refine .ite h ?_
  dsimp only at hs ⊢
  split
  · next hp =>
    rw [if_pos hp, Bool.and_eq_true, decide_eq_true_eq] at hs
    exact .ite (h.feBankInUse (by omega)) h
  split
  · next hp =>
    rw [if_neg (by rw [hp]; decide), if_neg (by rw [hp]; decide), if_pos hp, decide_eq_true_eq] at hs
    exact h.gpCfgInUse (by omega)
  exact .ite h.cellCfgInUse (.ite h.cadPeriodInUse (.ite h.chainCtrlInUse (.ite h.thrCtrlInUse (h.thrMarkInUse ha))))

theorem Released.stagePages {ps : List Nat} {s : State} (h : Released pg s) : Released pg (stagePages ps s) := by
  have hplain := (h.cellsNow.dropLapsed.govDefer (b := true)).forEach (xs := ps)
    (f := fun p => Machine.stagePlain p fun a => !stageSpecial a) fun _ _ h' => h'.stagePlain
  have hcoils := (hplain.sif (c := ps.contains Page.evf) (f := Machine.cellsWake) fun _ h' => h'.cellsWake).sif (c := ps.contains Page.fwgt)
    (f := fun v => Machine.forEach (List.range 4) (Machine.stageCoils true) (Machine.forEach (List.range 4) (Machine.stageCoils false) v))
    fun _ h' => (h'.forEach fun _ _ h1 => h1.stageCoils).forEach fun _ _ h1 => h1.stageCoils
  have hregs := hcoils.forEach (xs := ps) (f := fun p => Machine.forEach ((stagedRegs p).filter stageSpecial) Machine.stageReg) fun _ _ h' =>
    h'.forEach_mem fun _ ha _ h1 => h1.stageReg (stagedRegs_aside (List.mem_of_mem_filter ha)) (List.mem_filter.mp ha).2
  exact hregs.govDefer.sif fun _ h' => h'.govern

theorem Released.stageResume {p : Nat} {s : State} (h : Released pg s) : Released pg (stageResume p s) :=
  Released.ite h.stagePages.dropStaged h

theorem Released.chqAll {p : Nat} {s : State} (h : Released pg s) : Released pg (chqAll p s) :=
  Released.ite (h.forEach (fun _ _ h' => h'.chqFollow)) h

theorem resumeBlock_released {p : Nat} {s : State} (h : Released p s) : Released p (resumeBlock p s) := by
  unfold resumeBlock
  refine .ite h.settle (.ite h.cellsWake (.ite (h.forEach fun _ _ h' => h'.cmpResume).cadPublished (.ite (h.forEach fun _ _ h' => h'.playerIdle)
    (.ite (h.forEach_mem fun _ hn _ h' => h'.swapNext (List.mem_range.mp hn)) (.ite h.chqAll (.ite h.playerIdle (.ite h.chainFollow
      (.ite h.radioResume ?_))))))))
  split
  · next hp => exact h.mboxRelease (by rw [hp]; decide)
  · exact .ite (.ite h.selServe h) (.ite h.calRelease h)

/-- A page that is released is so still when its block has taken up its work. -/
theorem resume_released {p : Nat} {s : State} (h : Released p s) : Released p (resume p s) := resumeBlock_released h.stageResume

end Sys2Proof.Proofs
end

section
/-! PROOFS. CTRL and STATUS of a page (R133–R135, R142–R144): quiesce, release, disable and enable (O12). -/

namespace Sys2Proof.Proofs
open Sys2Proof Sys2Proof.Machine Sys2Proof.Laws

/-! ## What the boundary and the end of a claim leave -/

/-- Register `a` is none of CTRL, STATUS and IRQ_RAW of a page. -/
abbrev Offhead (a : Nat) : Prop := a % 4096 ≠ 8 ∧ a % 4096 ≠ 12 ∧ a % 4096 ≠ 16

/-- CTRL and STATUS of every page, the report of a quiesce, and the memory are as in `r`. The governor's own pages are left out for the report. -/
structure Steady (r s : State) : Prop where
  head : ∀ a, a % 4096 = 8 ∨ a % 4096 = 12 → s.reg a = r.reg a
  raw : ∀ p, p ≠ Page.fwgt → p ≠ Page.dbg → r.rb (Reg.irqRaw p) 30 = true → s.rb (Reg.irqRaw p) 30 = true
  mem : s.mem = r.mem

theorem Steady.refl (s : State) : Steady s s := ⟨fun _ _ => rfl, fun _ _ _ h => h, rfl⟩

section
variable {r s : State}

theorem Steady.ctrl (h : Steady r s) (p k : Nat) : s.rb (Reg.ctrl p) k = r.rb (Reg.ctrl p) k :=
  congrArg (bit · k) (h.head _ (.inl (by unfold Reg.ctrl; omega)))

theorem Steady.status (h : Steady r s) (p k : Nat) : s.rb (Reg.status p) k = r.rb (Reg.status p) k :=
  congrArg (bit · k) (h.head _ (.inr (by unfold Reg.status; omega)))

theorem Steady.eq (h : Steady r s) {t : State} (hr : t.regs = s.regs) (hm : t.mem = s.mem) : Steady r t := by
  have hreg : ∀ a, t.reg a = s.reg a := fun a => by rw [State.reg, hr, State.reg]
  exact ⟨fun a ha => (hreg a).trans (h.head a ha), fun p hf hd hp => (congrArg (bit · 30) (hreg _)).trans (h.raw p hf hd hp), hm.trans h.mem⟩

theorem Steady.setReg (h : Steady r s) {a : Nat} (ha : Offhead a) (w : Word) : Steady r (setReg a w s) := by
  obtain ⟨h8, h12, h16⟩ := ha
  refine ⟨fun x hx => (setReg_reg_ne (by rintro rfl; omega) w s).trans (h.head x hx), fun p hf hd hp => ?_, h.mem⟩
  have hne : Reg.irqRaw p ≠ a := by
    rintro rfl
    exact h16 (by unfold Reg.irqRaw; omega)
  exact (congrArg (bit · 30) (setReg_reg_ne hne w s)).trans (h.raw p hf hd hp)

theorem Steady.setRf (h : Steady r s) {a : Nat} (ha : Offhead a) (hi lo v : Nat) : Steady r (setRf a hi lo v s) := h.setReg ha _
theorem Steady.setRb (h : Steady r s) {a : Nat} (ha : Offhead a) (k : Nat) (b : Bool) : Steady r (setRb a k b s) := h.setReg ha _
theorem Steady.addRf (h : Steady r s) {a : Nat} (ha : Offhead a) (hi lo n : Nat) : Steady r (addRf a hi lo n s) := h.setReg ha _

theorem Steady.ite {c : Prop} [Decidable c] {t u : State} (ht : Steady r t) (hu : Steady r u) : Steady r (if c then t else u) := by
  split
  · exact ht
  · exact hu

theorem Steady.sif (h : Steady r s) {f : State → State} (c : Bool) (hf : ∀ t, Steady r t → Steady r (f t)) : Steady r (sif c f s) :=
  Steady.ite (hf s h) h

theorem Steady.forEach (h : Steady r s) {xs : List Nat} {f : Nat → State → State} (hf : ∀ k ∈ xs, ∀ t, Steady r t → Steady r (f k t)) :
    Steady r (forEach xs f s) := by
  induction xs generalizing s with
  | nil => exact h
  | cons x xs ih => exact ih (hf x List.mem_cons_self s h) fun k hk => hf k (List.mem_cons_of_mem x hk)

/-- A bit of IRQ_RAW, of which the report of a quiesce is only set. -/
theorem Steady.rawBit (h : Steady r s) (p : Nat) {k : Nat} {b : Bool} (hk : k ≠ 30 ∨ b = true) : Steady r (Machine.setRb (Reg.irqRaw p) k b s) := by
  refine ⟨fun x hx => (setRb_reg_ne (by rintro rfl; unfold Reg.irqRaw at hx; omega) k b s).trans (h.head x hx), fun q hf hd hq => ?_, h.mem⟩
  have hset := h.raw q hf hd hq
  rcases ne_or_eq (Reg.irqRaw q) (Reg.irqRaw p) with hne | heq
  · exact (congrArg (bit · 30) (setRb_reg_ne hne k b s)).trans hset
  rw [heq] at hset ⊢
  rcases ne_or_eq 30 k with hne | rfl
  · exact (setRb_rb_ne (by decide) hne _ b s).trans hset
  · exact (setRb_rb_eq (by decide) _ b s).trans (hk.resolve_left fun hne => hne rfl)

theorem Steady.irq (h : Steady r s) (p k : Nat) : Steady r (irq p k s) :=
  Steady.ite ((h.rawBit p (.inr rfl)).setRb (by unfold Reg.irqStat; omega) k true) (h.rawBit p (.inr rfl))

theorem Steady.irqLevel (h : Steady r s) (p : Nat) {k : Nat} (hk : k ≠ 30) (b : Bool) : Steady r (irqLevel p k b s) :=
  Steady.ite ((h.rawBit p (.inl hk)).setRb (by unfold Reg.irqStat; omega) k true) (h.rawBit p (.inl hk))

theorem Steady.publish (h : Steady r s) (p t : Nat) : Steady r (publish p t s) := h.eq rfl rfl
theorem Steady.modQueue (h : Steady r s) (f : QueueSt → QueueSt) : Steady r (modQueue f s) := h.eq rfl rfl
theorem Steady.modRadio (h : Steady r s) (f : RadioSt → RadioSt) : Steady r (modRadio f s) := h.eq rfl rfl
theorem Steady.modCoil (h : Steady r s) (n : Nat) (f : Coil → Coil) : Steady r (modCoil n f s) := h.eq rfl rfl

theorem Steady.modFab (h : Steady r s) (f : FabricSt → FabricSt) : Steady r (modFab f s) := h.eq rfl rfl
theorem Steady.modRx (h : Steady r s) (f : RxSt → RxSt) : Steady r (modRx f s) := h.eq rfl rfl
theorem Steady.modEng (h : Steady r s) (n : Nat) (f : Eng → Eng) : Steady r (modEng n f s) := h.eq rfl rfl

/-- The governor's pages take its registers, and the coils one bit each of two. -/
theorem Steady.govern (h : Steady r s) : Steady r (govern s) := by
  have htime := timeKept_govern s
  have hedge : ∀ a, a % 4096 = 8 ∨ a % 4096 = 12 → edgeReg a = false ∧ driveReg a = false := fun a ha => by
    rcases ha with ha | ha <;> simp [edgeReg, driveReg, ha, dbgOffsets, govOffsets, edgeOffsets]
  refine ⟨fun a ha => (htime.reg a (hedge a ha).1 (hedge a ha).2).trans (h.head a ha), fun p hf hd hp => ?_,
    (field_of_timeOnly State.mem (timeOnly_govern s) fun _ _ _ _ _ _ _ => rfl).trans h.mem⟩
  have hset := h.raw p hf hd hp
  by_cases hcoil : 0x10 ≤ p ∧ p < 0x1c
  · obtain ⟨c, rfl⟩ : ∃ c, p = Page.coil c := ⟨p - 0x10, by unfold Page.coil; omega⟩
    exact (htime.raw c (by unfold Page.coil at hcoil; omega) 30 (by decide) (by decide)).trans hset
  · have hpage : Reg.irqRaw p / 0x1000 = p := irqRaw_page p
    refine (congrArg (bit · 30) (htime.reg _ ?_ ?_)).trans hset
    · simp [edgeReg, hpage, hf, hd, hcoil]
    · simp [driveReg, hpage, hcoil]

/-- A fault shows in DBG. -/
theorem Steady.fault (h : Steady r s) (cls p code : Nat) : Steady r (fault cls p code s) := by
  unfold Machine.fault Machine.faultIn
  refine Steady.sif (h.sif _ fun t ht => (ht.setRb (a := Reg.dbgFaultSum) (by decide) cls true).irq Page.dbg 0) _ fun t ht => ?_
  have hfirst := ht.setReg (a := Reg.dbgFirst) (by decide) (wd (2 ^ 31 + cls * 2 ^ 24 + p * 2 ^ 16 + code * 2 ^ 8))
  exact (hfirst.setReg (a := Reg.dbgFirstTickLo) (by decide) _).setReg (a := Reg.dbgFirstTickLo + 4) (by decide) _

theorem Steady.faultOpt (h : Steady r s) (cls : Option Nat) (p code : Nat) : Steady r (faultOpt cls p code s) := by
  cases cls with
  | none => exact h
  | some c => exact h.fault c p code

theorem Steady.detailUsed (h : Steady r s) (d : Nat) : Steady r (detailUsed d s) := by
  unfold Machine.detailUsed
  split
  · exact h.eq (nextFree_regs s) (nextFree_mem s)
  · exact h

theorem offhead_errCode (p : Nat) : Offhead (Reg.errCode p) := by unfold Reg.errCode; omega
theorem offhead_errInfo (p : Nat) : Offhead (Reg.errInfo p) := by unfold Reg.errInfo; omega

theorem Steady.noteFirst (h : Steady r s) (p code info extra : Nat) : Steady r (noteFirst p code info extra s) := by
  have hcode := offhead_errCode p
  have hinfo := offhead_errInfo p
  unfold Machine.noteFirst
  refine Steady.detailUsed (Steady.setReg (Steady.setReg ?_ hcode _) hinfo _) extra
  exact h.detailUsed info

theorem Steady.recErr (h : Steady r s) (p code info extra : Nat) : Steady r (recErr p code info extra s) := by
  have hcode := offhead_errCode p
  have hnoted : Steady r (errNoted p code info extra s) := Steady.ite (h.noteFirst p code info extra) (h.addRf hcode 15 10 1)
  rw [recErr_eq]
  exact (hnoted.irq p 31).faultOpt _ p code

/-! ## QUEUE -/

theorem Steady.holdLatch (h : Steady r s) : Steady r (holdLatch s) :=
  Steady.ite ((((h.modQueue _).setRb (a := Reg.queueNotice) (by decide) 0 true).irq Page.queue 3).addRf (a := Reg.queueCrossCnt) (by decide) 15 0 1)
    (Steady.ite (h.modQueue _) h)

theorem Steady.attnLatch (h : Steady r s) : Steady r (attnLatch s) :=
  Steady.ite ((((h.modQueue _).setRb (a := Reg.queueNotice) (by decide) 1 true).irq Page.queue 4).addRf (a := Reg.queueCrossCnt) (by decide) 31 16 1)
    (Steady.ite (h.modQueue _) h)

theorem Steady.holdPin (h : Steady r s) : Steady r (holdPin s) := Steady.ite ((h.modQueue _).publish _ _) (h.modQueue _)

theorem Steady.attnPin (h : Steady r s) : Steady r (attnPin s) :=
  Steady.ite (((h.modQueue _).irqLevel Page.queue (by decide) _).publish _ _) ((h.modQueue _).irqLevel Page.queue (by decide) _)

theorem Steady.settle (h : Steady r s) : Steady r (settle s) :=
  (h.modQueue _).holdLatch.attnLatch.holdPin.attnPin.irqLevel Page.queue (by decide) _

/-! ## EVF and its cells -/

theorem Steady.discardHeld (h : Steady r s) : Steady r (discardHeld s) := by
  refine h.forEach fun n hn t ht => Steady.ite ?_ ht
  exact ((ht.modFab _).setRb (by have := List.mem_range.mp hn; unfold Reg.evfChStatus; omega) 2 _).addRf (a := Reg.evfDropCnt) (by decide) 31 16 1

theorem Steady.cellsShut (h : Steady r s) : Steady r (cellsShut s) :=
  ((h.modFab _).modFab _).addRf (a := Reg.evfDropCnt) (by decide) 15 0 _

/-! ## The chain of a coil -/

theorem Steady.chainReset (h : Steady r s) (n e : Nat) : Steady r (chainReset n e s) :=
  ((h.modCoil n _).setRf (by unfold Reg.coilThrStatus; omega) 3 0 0).setReg (by unfold Reg.coilOutCount; omega) 0

theorem Steady.chainEdge (h : Steady r s) (n t : Nat) : Steady r (chainEdge n t s) := by
  have hstatus : Offhead (Reg.coilChainStatus n) := by unfold Reg.coilChainStatus; omega
  unfold Machine.chainEdge
  split
  · exact h
  · exact Steady.ite h (Steady.ite ((((h.modCoil n _).setRb hstatus 0 true).setRf hstatus 2 2 _).chainReset n _)
      (((h.modCoil n _).setRf hstatus 2 2 _).chainReset n _))

theorem Steady.chainFollow (h : Steady r s) (n : Nat) : Steady r (chainFollow n s) := by
  have hstatus : Offhead (Reg.coilChainStatus n) := by unfold Reg.coilChainStatus; omega
  have he := h.chainEdge n s.now
  exact Steady.ite (Steady.ite he ((he.modCoil n _).chainEdge n _)) ((he.modCoil n _).setRb hstatus 0 false)

/-! ## The radio -/

theorem Steady.lateSearch (h : Steady r s) (t : Nat) : Steady r (lateSearch t s) := by
  unfold Machine.lateSearch
  split
  · exact h
  · exact Steady.ite ((h.modRx _).recErr Page.rbRx _ _ _) h

theorem Steady.setRbState (h : Steady r s) (v t : Nat) : Steady r (setRbState v t s) := by
  have hstate := (((h.setRf (a := Reg.rbSynState) (by decide) 3 0 v).setRb (a := Reg.rbTxStatus) (by decide) 0 (decide (6 ≤ v))).irq
    Page.rbSyn 4).publish 0xcd t
  exact Steady.ite h (Steady.ite (Steady.lateSearch ((hstate.setRb (a := Reg.rbRxAgcStatus) (by decide) 31 false).modRx _) t) hstate)

theorem Steady.stopSynth (h : Steady r s) : Steady r (stopSynth s) :=
  ((h.modRadio _).setRb (a := Reg.rbSynState) (by decide) 12 false).setRb (a := Reg.rbSynState) (by decide) 13 _

theorem Steady.startSynth (h : Steady r s) (t : Nat) : Steady r (startSynth t s) :=
  (((h.setRb (a := Reg.rbSynState) (by decide) 12 false).modRadio _).sif _ fun _ hu =>
    hu.addRf (a := Reg.rbSynCnt) (by decide) _ _ _).setRb (a := Reg.rbSynState) (by decide) 13 _

theorem Steady.radioEnter (h : Steady r s) (g t : Nat) : Steady r (radioEnter g t s) := by
  have hentered := Steady.ite (c := 3 ≤ g ∧ s.rbState = 2) (h.setRbState 3 t) (Steady.ite (c := g = 4 ∧ s.rbState = 5 ∧ s.rbLocked)
    (h.setRbState 4 t) (Steady.ite (c := 3 ≤ g ∧ (s.rbState = 4 ∨ s.rbState = 5) ∧ !s.rbLocked) (h.setRbState 3 t) h))
  exact Steady.ite (hentered.startSynth t) hentered

theorem Steady.radioMove (h : Steady r s) (t : Nat) : Steady r (radioMove t s) := by
  unfold Machine.radioMove
  split
  · exact h
  · refine Steady.ite ((h.radioEnter _ t).modRadio _) ?_
    split
    · exact (h.radioEnter _ t).modRadio _
    · exact Steady.ite (h.radioEnter _ t) (((h.radioEnter _ t).sif _ fun _ hu => hu.stopSynth).modRadio _)

theorem Steady.radioTo (h : Steady r s) (g t : Nat) : Steady r (radioTo g t s) := Steady.radioMove (h.modRadio _) t

theorem Steady.radioStandby (h : Steady r s) (t : Nat) : Steady r (radioStandby t s) :=
  Steady.ite (Steady.ite ((h.modRadio _).radioTo 2 t) (h.modRadio _)) (((h.modRadio _).sif _ fun _ hu => hu.stopSynth).setRbState 2 t)

theorem Steady.radioAct (h : Steady r s) (q : RadioReq) (t : Nat) : Steady r (radioAct q t s) := by
  have hasked := ((((h.modRadio fun r => { r with waiting := none }).setRb (a := Reg.rbSynState) (by decide) 14 false).setRf
    (a := Reg.rbSynState) (by decide) 9 4 q.chan).setRf (a := Reg.rbSynState) (by decide) 23 19 q.pa)
  exact Steady.radioTo (((hasked.setRf (a := Reg.rbSynState) (by decide) 18 15 _).sif _ fun _ hu => hu.stopSynth).modRadio _) _ t

theorem Steady.radioFreed (h : Steady r s) (was : Nat) : Steady r (radioFreed was s) := by
  refine Steady.ite (Steady.ite ?_ h) h
  exact Steady.ite h (Steady.ite ((h.modRadio _).setRb (a := Reg.rbSynState) (by decide) 14 true) (h.radioAct _ _))

/-! ## Claims -/

theorem Steady.releaseRes (h : Steady r s) {i : Nat} (hi : i < 0x79) : Steady r (releaseRes i s) := by
  have hclaim : Offhead (Reg.sysResClaim i) := by unfold Reg.sysResClaim; omega
  have hfree := h.setReg hclaim 0
  unfold Machine.releaseRes Machine.sif
  split
  · next hpin =>
    have hg : Offhead (Reg.evfGpCfg (i - 0x68)) := by
      have := of_decide_eq_true hpin
      unfold Reg.evfGpCfg
      omega
    exact Steady.eq (hfree.setRf hg 2 0 0) rfl rfl
  · exact hfree

theorem Steady.releaseAll (h : Steady r s) (f : Nat → Nat → Bool) : Steady r (releaseAll f s) :=
  h.forEach fun _ hi _ ht => Steady.ite (ht.releaseRes (List.mem_range.mp hi)) ht

theorem Steady.heldRefresh (h : Steady r s) (n : Nat) : Steady r (heldRefresh n s) := h.setRf (by unfold Reg.fwgtFeCoils; omega) 27 16 _

theorem Steady.coilFieldOff (h : Steady r s) (c : Nat) : Steady r (coilFieldOff c s) := by
  have hdrop : Steady r (Machine.mmAbandon c s) := Steady.ite ((h.modCoil c _).setRb (by unfold Reg.coilMmMeas; omega) 31 false) h
  exact (hdrop.modCoil c _).setRb (by unfold Reg.coilDriveStatus; omega) 0 false

theorem Steady.engineOff (h : Steady r s) (n : Nat) (l : List Nat) : Steady r (engineOff n l s) := by
  have hfield : Offhead (Reg.feFieldStatus n) := by unfold Reg.feFieldStatus; omega
  have hoff := h.forEach (xs := l) (f := fun c v => if v.coilOn c then Machine.coilFieldOff c v else v) fun c _ t ht =>
    Steady.ite (ht.coilFieldOff c) ht
  refine Steady.govern (Steady.setRb (hoff.sif _ fun t ht => ?_) hfield 30 _)
  exact (ht.modEng n _).setRb hfield 31 false

theorem Steady.feRelease (h : Steady r s) (n : Nat) : Steady r (feRelease n s) := by
  have hcoils := (h.engineOff n (s.heldCoils n)).forEach (xs := (Machine.engineOff n (s.heldCoils n) s).heldCoils n)
    (f := fun c u => Machine.modCoil c (fun x => { x with damped := false }) (coilLeaves n c u)) fun c _ t ht =>
    Steady.modCoil (ht.sif _ fun u hu => hu.modCoil c _) c _
  exact (hcoils.releaseAll _).heldRefresh n

theorem Steady.blockClaims (h : Steady r s) (p : Nat) : Steady r (blockClaims p s) :=
  Steady.ite (h.feRelease _) (Steady.ite ((h.releaseAll _).sif _ fun _ ht => ht.radioFreed 3) (Steady.ite (h.releaseAll _) h))

/-! ## What a block does on its boundary -/

theorem Steady.quiesceAct (h : Steady r s) (p : Nat) : Steady r (quiesceAct p s) :=
  Steady.ite h.settle (Steady.ite h.discardHeld (Steady.ite h.cellsShut (Steady.ite (h.chainFollow _) (Steady.ite (h.radioStandby _) h))))

/-! ## A quiesce that is asked for -/

theorem offhead_lspPlStatus (k : Nat) : Offhead (Reg.lspPlStatus k) := by unfold Reg.lspPlStatus; omega

theorem Steady.swapSlots (h : Steady r s) (k : Nat) : Steady r (swapSlots k s) := by
  have hshown := ((h.eq (t := Machine.modPlayer k (fun p => { p with emptied := false }) s) rfl rfl).setRf (offhead_lspPlStatus k) 19 16 3).setRf
    (offhead_lspPlStatus k) 20 20 (s.standbySlot k)
  have hcount := hshown.addRf (a := Reg.lspPlSectCnt k) (by unfold Reg.lspPlSectCnt; omega) 15 0 1
  exact ((hcount.publish _ _).irq Page.lsp 1).setReg (by unfold Reg.lspPlScoreId; omega) _

/-- An idle player is held while LSP is asked to quiesce (R313). -/
theorem Steady.playerIdle (h : Steady r s) (hq : r.rb (Reg.ctrl Page.lsp) 1 = true) (k : Nat) : Steady r (playerIdle k s) := by
  unfold Machine.playerIdle
  have hswap := h.sif (s.swapReady k) fun t ht => ht.swapSlots k
  refine Steady.ite h ?_
  have hhold : (Machine.sif (s.swapReady k) (Machine.swapSlots k) s).toHold k = true := by
    rw [State.toHold, (hswap.ctrl Page.lsp 1).trans hq, Bool.or_true, Bool.true_or]
  dsimp only
  rw [if_pos hhold]
  exact hswap.setRb (offhead_lspPlStatus k) 22 true

/-- A channel of CVU follows a quiesce that is asked for (R400). -/
theorem Steady.chqFollow (h : Steady r s) (hq : r.rb (Reg.ctrl Page.cvu) 1 = true) (c : Nat) : Steady r (chqFollow c s) := by
  have hask : s.chqAsked c = true := by rw [State.chqAsked, (h.ctrl Page.cvu 1).trans hq, Bool.or_true]
  unfold Machine.chqFollow
  rw [if_pos hask]
  exact Steady.ite h (h.setRb (a := Reg.cvuChq) (by decide) _ _)

theorem Steady.quiesceSet (h : Steady r s) {p : Nat} (hq : r.rb (Reg.ctrl p) 1 = true) : Steady r
    (if p = Page.lsp then Machine.forEach (List.range 8) Machine.playerIdle s else chqAll p s) := by
  split
  · next hp =>
    rw [hp] at hq
    exact h.forEach fun k _ _ ht => ht.playerIdle hq k
  · unfold chqAll
    split
    · next hp =>
      rw [hp] at hq
      exact h.forEach fun c _ _ ht => ht.chqFollow hq c
    · exact h

end

/-! ## A write of CTRL -/

/-- A write of CTRL that takes effect, SNAP_ARM aside. -/
theorem ctrlWrite_of_takes {s : State} {ag : Agent} {p : Nat} (h : s.takes ag (Reg.ctrl p)) (w : Word) :
    ctrlWrite ag p w s =
      (let t := setRb (Reg.ctrl p) 2 (bit w 2) s
      if pageFixed p then t
      else if !s.rb (Reg.ctrl p) 0 then
        if bit w 0 then chqAll p (setRb (Reg.status p) 0 true (setRb (Reg.ctrl p) 1 true (setRb (Reg.ctrl p) 0 true t)))
        else setRb (Reg.ctrl p) 1 (bit w 1) t
      else if bit w 0 then quiesceSet p (bit w 1) t
      else if s.rb (Reg.status p) 0 then blockClaims p (setRb (Reg.ctrl p) 1 (bit w 1) (setRb (Reg.ctrl p) 0 false t))
      else quiesceSet p (bit w 1) (refusalErr p Err.notQuiesced (writeInfo ag (Reg.ctrl p)) 0 t)) := by
  rw [ctrlWrite, hold_of_reaches h.1, guarded_of_takes h]

/-- CTRL with SNAP_ARM written back as it stands. -/
def armKept (p : Nat) (s : State) : State := setRb (Reg.ctrl p) 2 (s.rb (Reg.ctrl p) 2) s

theorem armKept_reg (p x : Nat) (s : State) : (armKept p s).reg x = s.reg x := setRb_self_reg _ _ x s

theorem armKept_rb (p x k : Nat) (s : State) : (armKept p s).rb x k = s.rb x k := congrArg (bit · k) (armKept_reg p x s)

theorem armKept_of_bit (p k : Nat) (b : Bool) {s : State} (hk : 2 ≠ k) :
    setRb (Reg.ctrl p) 2 (bit (setBit (s.reg (Reg.ctrl p)) k b) 2) s = armKept p s := by
  rw [bit_setBit_ne _ _ (by decide) hk, armKept, State.rb]

/-- On a page without a block no write of CTRL but SNAP_ARM has an effect (R134). -/
theorem ctrlWrite_fixed {s : State} {ag : Agent} {p k : Nat} (h : s.takes ag (Reg.ctrl p)) (hp : pageFixed p = true) (b : Bool) (hk : 2 ≠ k) :
    ctrlWrite ag p (setBit (s.reg (Reg.ctrl p)) k b) s = armKept p s := by
  rw [ctrlWrite_of_takes h]
  dsimp only
  rw [if_pos hp, armKept_of_bit p k b hk]

theorem ctrlWrite_quiesce {s : State} {ag : Agent} {p : Nat} (h : s.takes ag (Reg.ctrl p)) (hp : pageFixed p = false)
    (hen : s.rb (Reg.ctrl p) 0 = true) (b : Bool) :
    ctrlWrite ag p (setBit (s.reg (Reg.ctrl p)) 1 b) s = quiesceSet p b (armKept p s) := by
  have h0 : bit (setBit (s.reg (Reg.ctrl p)) 1 b) 0 = true := (bit_setBit_ne _ _ (by decide) (by decide)).trans hen
  have h1 : bit (setBit (s.reg (Reg.ctrl p)) 1 b) 1 = b := bit_setBit_eq _ _ (by decide)
  rw [ctrlWrite_of_takes h]
  dsimp only
  rw [hp, hen, h0, h1, armKept_of_bit p 1 b (by decide)]
  rfl

theorem ctrlWrite_disable {s : State} {ag : Agent} {p : Nat} (h : s.takes ag (Reg.ctrl p)) (hp : pageFixed p = false)
    (hen : s.rb (Reg.ctrl p) 0 = true) (hq : s.rb (Reg.status p) 0 = true) :
    ctrlWrite ag p (setBit (s.reg (Reg.ctrl p)) 0 false) s =
      blockClaims p (setRb (Reg.ctrl p) 1 (s.rb (Reg.ctrl p) 1) (setRb (Reg.ctrl p) 0 false (armKept p s))) := by
  obtain ⟨h0, h1, -⟩ := bit_ctrl_en_cleared (s.reg (Reg.ctrl p))
  rw [ctrlWrite_of_takes h]
  dsimp only
  rw [hp, hen, hq, h0, h1, armKept_of_bit p 0 false (by decide)]
  rfl

/-- An enabled block comes back quiesced (R135). -/
def enabledQuiet (p : Nat) (s : State) : State :=
  setRb (Reg.status p) 0 true (setRb (Reg.ctrl p) 1 true (setRb (Reg.ctrl p) 0 true (armKept p s)))

theorem ctrlWrite_enable {s : State} {ag : Agent} {p : Nat} (h : s.takes ag (Reg.ctrl p)) (hp : pageFixed p = false)
    (hen : s.rb (Reg.ctrl p) 0 = false) :
    ctrlWrite ag p (setBit (s.reg (Reg.ctrl p)) 0 true) s = chqAll p (enabledQuiet p s) := by
  have h0 : bit (setBit (s.reg (Reg.ctrl p)) 0 true) 0 = true := bit_setBit_eq _ _ (by decide)
  rw [ctrlWrite_of_takes h]
  dsimp only
  rw [hp, hen, h0, armKept_of_bit p 0 true (by decide)]
  rfl

end Sys2Proof.Proofs
end

section
/-! PROOFS. The control page's clauses, each from what the write of CTRL leaves (O12). -/

namespace Sys2Proof.Proofs
open Sys2Proof Sys2Proof.Machine Sys2Proof.Laws

/-! ## Quiesce -/

/-- A quiesce that is asked for leaves QUIESCE at 1, and the memory. -/
theorem quiesceSet_asked (p : Nat) (s : State) :
    (quiesceSet p true s).rb (Reg.ctrl p) 1 = true ∧ (quiesceSet p true s).rb (Reg.ctrl p) 0 = s.rb (Reg.ctrl p) 0 ∧
      (quiesceSet p true s).mem = s.mem := by
  by_cases hq : s.rb (Reg.ctrl p) 1 = true
  · have hsame := quiesceSet_of_same p s
    rw [hq] at hsame
    rw [hsame]
    exact ⟨hq, rfl, rfl⟩
  · have hset : (setRb (Reg.ctrl p) 1 true s).rb (Reg.ctrl p) 1 = true := setRb_rb_eq (by decide) _ _ _
    have hsteady := (Steady.refl (setRb (Reg.ctrl p) 1 true s)).quiesceSet hset
    have hfun : quiesceSet p true s = if p = Page.lsp then forEach (List.range 8) playerIdle (setRb (Reg.ctrl p) 1 true s)
        else chqAll p (setRb (Reg.ctrl p) 1 true s) := by
      unfold quiesceSet
      exact (if_neg fun h => hq h.symm).trans (if_pos rfl)
    rw [hfun]
    exact ⟨(hsteady.ctrl p 1).trans hset, (hsteady.ctrl p 0).trans (setRb_rb_ne (by decide) (by decide) _ _ _), hsteady.mem⟩

/-- A block's own work on its boundary keeps the report of the quiesce. -/
theorem quiesceAct_keeps_report {p : Nat} {s : State} (h : s.rb (Reg.irqRaw p) 30 = true) : (quiesceAct p s).rb (Reg.irqRaw p) 30 = true := by
  by_cases hf : p = Page.fwgt
  · subst hf
    exact h
  by_cases hd : p = Page.dbg
  · subst hd
    exact h
  exact ((Steady.refl s).quiesceAct p).raw p hf hd h

/-- The page is quiesced, and reports it. -/
theorem quiesced_shown (p : Nat) (s : State) :
    let t := quiesceAct p (irq p 30 (setRb (Reg.status p) 0 true s))
    t.rb (Reg.status p) 0 = true ∧ t.rb (Reg.irqRaw p) 30 = true ∧ t.mem = s.mem := by
  have hset : (setRb (Reg.status p) 0 true s).rb (Reg.status p) 0 = true := setRb_rb_eq (by decide) _ _ _
  have hsteady := ((Steady.refl (setRb (Reg.status p) 0 true s)).irq p 30).quiesceAct p
  exact ⟨(hsteady.status p 0).trans hset, quiesceAct_keeps_report (irq_irqRaw (by decide) _), hsteady.mem⟩

theorem sif_cellsNow_bytes (c : Bool) (s : State) : SameBytes s (sif c cellsNow s) :=
  ((within_refl fabricPages s).sif c fun _ h => h.cellsNow).2

/-! ## Release -/

/-- A page that is released is not quiesced, and stays so. -/
theorem quiesceSet_released {p : Nat} {s : State} (hq : s.rb (Reg.ctrl p) 1 = true) (hs : s.rb (Reg.status p) 0 = true) :
    Released p (quiesceSet p false s) := by
  have hctrl : (setRb (Reg.ctrl p) 1 false s).rb (Reg.ctrl p) 1 = false := setRb_rb_eq (by decide) _ _ _
  have hne : Reg.ctrl p ≠ Reg.status p := by unfold Reg.ctrl Reg.status; omega
  have hout : Released p (setRb (Reg.status p) 0 false (setRb (Reg.ctrl p) 1 false s)) :=
    ⟨setRb_rb_eq (by decide) _ _ _, (congrArg (bit · 1) (setRb_reg_ne hne 0 false _)).trans hctrl⟩
  have hfun : quiesceSet p false s = resume p (freeSteps p (setRb (Reg.status p) 0 false (setRb (Reg.ctrl p) 1 false s))) := by
    unfold quiesceSet
    dsimp only
    rw [hq, hs]
    rfl
  rw [hfun]
  exact resume_released hout.freeSteps

/-! ## Disable and enable -/

/-- A block that is disabled counts as quiesced. -/
theorem blockClaims_disabled (p : Nat) (b : Bool) (s : State) :
    let t := blockClaims p (setRb (Reg.ctrl p) 1 b (setRb (Reg.ctrl p) 0 false s))
    t.rb (Reg.ctrl p) 0 = false ∧ t.quiesced p = true ∧ t.mem = s.mem := by
  have hsteady := (Steady.refl (setRb (Reg.ctrl p) 1 b (setRb (Reg.ctrl p) 0 false s))).blockClaims p
  have hoff := (hsteady.ctrl p 0).trans ((setRb_rb_ne (by decide) (by decide) _ _ _).trans (setRb_rb_eq (by decide) _ _ _))
  exact ⟨hoff, by rw [State.quiesced, hoff, Bool.not_false, Bool.or_true], hsteady.mem⟩

theorem enabledQuiet_shown (p : Nat) (s : State) :
    (enabledQuiet p s).rb (Reg.ctrl p) 0 = true ∧ (enabledQuiet p s).rb (Reg.ctrl p) 1 = true ∧ (enabledQuiet p s).rb (Reg.status p) 0 = true := by
  have hne : Reg.ctrl p ≠ Reg.status p := by unfold Reg.ctrl Reg.status; omega
  have hctrl : ∀ k, (enabledQuiet p s).rb (Reg.ctrl p) k = (setRb (Reg.ctrl p) 1 true (setRb (Reg.ctrl p) 0 true (armKept p s))).rb (Reg.ctrl p) k :=
    fun k => congrArg (bit · k) (setRb_reg_ne hne 0 true _)
  exact ⟨(hctrl 0).trans ((setRb_rb_ne (by decide) (by decide) _ _ _).trans (setRb_rb_eq (by decide) _ _ _)),
    (hctrl 1).trans (setRb_rb_eq (by decide) _ _ _), setRb_rb_eq (by decide) _ _ _⟩

theorem armKept_onlyRegs (p : Nat) (s : State) : OnlyRegs [] s (armKept p s) := ⟨fun x _ => armKept_reg p x s, fun _ => rfl, rfl⟩

theorem enabledQuiet_onlyRegs (p : Nat) (s : State) : OnlyRegs [Reg.ctrl p, Reg.status p] s (enabledQuiet p s) :=
  onlyRegs_trans (onlyRegs_trans (onlyRegs_trans (onlyRegs_mono (List.nil_subset _) (armKept_onlyRegs p s)) (setRb_onlyRegs (by simp) _ _ _))
    (setRb_onlyRegs (by simp) _ _ _)) (setRb_onlyRegs (by simp) _ _ _)

/-- CVU stands quiesced, and its quiesce is asked for. -/
structure CvuQuiet (s : State) : Prop where
  ctrl : s.rb (Reg.ctrl Page.cvu) 1 = true
  status : s.rb (Reg.status Page.cvu) 0 = true

/-- While CVU is quiesced a channel is at work only for a frame that it has begun. -/
theorem chqFollow_quiet {s : State} (h : CvuQuiet s) (c : Nat) :
    chqFollow c s = if s.rb (Reg.cvuCStatus c) 0 then s else setRb Reg.cvuChq (16 + c) true s := by
  have hask : s.chqAsked c = true := by rw [State.chqAsked, h.ctrl, Bool.or_true]
  have hoff : s.cvuOff c = true := by rw [State.cvuOff, State.quiesced, h.status, Bool.true_or, Bool.or_true]
  have hat : s.chanAt c = s.rb (Reg.cvuCStatus c) 0 := by rw [State.chanAt, hoff, Bool.not_true, Bool.and_false, Bool.or_false]
  unfold chqFollow
  rw [if_pos hask, hat]

/-- The channels of a quiesced CVU: each has begun a frame or shows that it is quiesced. -/
structure ChannelsFollow (l : List Nat) (s t : State) : Prop where
  only : OnlyRegs [Reg.cvuChq] s t
  grows : ∀ j, j < 32 → s.rb Reg.cvuChq j = true → t.rb Reg.cvuChq j = true
  follow : ∀ c ∈ l, s.rb (Reg.cvuCStatus c) 0 = true ∨ t.rb Reg.cvuChq (16 + c) = true

theorem cvuQuiet_of_onlyRegs {s t : State} (h : CvuQuiet s) (ho : OnlyRegs [Reg.cvuChq] s t) : CvuQuiet t :=
  ⟨(congrArg (bit · 1) (ho.1 _ (by decide))).trans h.ctrl, (congrArg (bit · 0) (ho.1 _ (by decide))).trans h.status⟩

theorem channelsFollow {l : List Nat} (hl : ∀ c ∈ l, c < 8) {s : State} (h : CvuQuiet s) : ChannelsFollow l s (forEach l chqFollow s) := by
  induction l generalizing s with
  | nil => exact ⟨onlyRegs_refl _ s, fun _ _ hj => hj, fun _ hc => by cases hc⟩
  | cons c l ih =>
    have hc := hl c List.mem_cons_self
    have hstep : ChannelsFollow [c] s (chqFollow c s) := by
      rw [chqFollow_quiet h c]
      split
      · next hrun => exact ⟨onlyRegs_refl _ s, fun _ _ hj => hj, fun d hd => .inl (List.mem_singleton.mp hd ▸ hrun)⟩
      · have hset : (setRb Reg.cvuChq (16 + c) true s).rb Reg.cvuChq (16 + c) = true := setRb_rb_eq (by omega) _ _ _
        refine ⟨setRb_onlyRegs (by simp) _ _ s, fun j hj h => setRb_true_keeps_set _ hj h, fun d hd => .inr ?_⟩
        rw [List.mem_singleton.mp hd, hset]
    have hrest := ih (fun d hd => hl d (List.mem_cons_of_mem _ hd)) (cvuQuiet_of_onlyRegs h hstep.only)
    refine ⟨onlyRegs_trans hstep.only hrest.only, fun j hj hset => hrest.grows j hj (hstep.grows j hj hset), fun d hd => ?_⟩
    have hd8 := hl d hd
    rcases List.mem_cons.mp hd with hdc | hd'
    · exact (hstep.follow d (List.mem_singleton.mpr hdc)).imp_right (hrest.grows (16 + d) (by omega))
    · have hsame : (chqFollow c s).rb (Reg.cvuCStatus d) 0 = s.rb (Reg.cvuCStatus d) 0 :=
        congrArg (bit · 0) (hstep.only.1 _ (by simp only [Reg.cvuCStatus, Reg.cvuChq, List.mem_singleton]; omega))
      exact (hrest.follow d hd').imp_left hsame.symm.trans

theorem ChannelsFollow.ctrl {l : List Nat} {s t : State} (h : ChannelsFollow l s t) (p k : Nat) : t.rb (Reg.ctrl p) k = s.rb (Reg.ctrl p) k :=
  congrArg (bit · k) (h.only.1 _ (by simp only [Reg.ctrl, Reg.cvuChq, List.mem_singleton]; omega))

theorem ChannelsFollow.status {l : List Nat} {s t : State} (h : ChannelsFollow l s t) (p k : Nat) :
    t.rb (Reg.status p) k = s.rb (Reg.status p) k :=
  congrArg (bit · k) (h.only.1 _ (by simp only [Reg.status, Reg.cvuChq, List.mem_singleton]; omega))

theorem cvuQuiet_enabledQuiet {p : Nat} (hp : p = Page.cvu) (s : State) : CvuQuiet (enabledQuiet p s) := by
  subst hp
  obtain ⟨_, hctrl, hstatus⟩ := enabledQuiet_shown Page.cvu s
  exact ⟨hctrl, hstatus⟩

theorem enabledQuiet_cvuCStatus {p : Nat} (hp : p = Page.cvu) (c : Nat) (s : State) :
    (enabledQuiet p s).rb (Reg.cvuCStatus c) 0 = s.rb (Reg.cvuCStatus c) 0 := by
  subst hp
  refine congrArg (bit · 0) ((enabledQuiet_onlyRegs Page.cvu s).1 _ ?_)
  simp only [Reg.cvuCStatus, Reg.ctrl, Reg.status, Page.cvu, List.mem_cons, List.not_mem_nil, or_false]
  omega

theorem chanAt_of_running {s : State} {c : Nat} (h : s.rb (Reg.cvuCStatus c) 0 = true) : s.chanAt c = true := by
  rw [State.chanAt, h, Bool.true_or]

/-- Settles O12: each write of CTRL by the state it leaves; the release by what the block takes up with it, which asks for no quiesce of its
own page. -/
theorem pageControlComplete : Obligations.PageControlComplete := by
  unfold Obligations.PageControlComplete
  refine ⟨fun s ag p h hp hen => ?_, fun s p hq hen hs hup hb => ?_, fun s ag p h hp hen hq hs => ?_, fun s ag p h hp hen hs => ?_,
    fun s ag p h hp hen => ?_, fun s ag p h hp => ?_⟩
  · obtain ⟨h1, h0, hmem⟩ := quiesceSet_asked p (armKept p s)
    exact ⟨_, congrArg Host.Outcome.next (ctrlWrite_quiesce h hp hen true), h1, h0.trans ((armKept_rb p _ 0 s).trans hen), sameBytes_of_mem hmem⟩
  · obtain ⟨hstatus, hraw, hmem⟩ := quiesced_shown p (sif ((p : Nat) == Page.evfLut) cellsNow s)
    refine ⟨_, congrArg Host.Outcome.next (if_pos ?_), hstatus, hraw, fun a => ?_⟩
    · rw [hq, hen, hs, hup, hb]
      rfl
    · exact (sameBytes_of_mem hmem a).trans (sif_cellsNow_bytes _ s a)
  · have hout := quiesceSet_released (p := p) (s := armKept p s) ((armKept_rb p _ 1 s).trans hq) ((armKept_rb p _ 0 s).trans hs)
    exact ⟨_, congrArg Host.Outcome.next (ctrlWrite_quiesce h hp hen false), hout.status, hout.ctrl⟩
  · obtain ⟨h0, hquiet, hmem⟩ := blockClaims_disabled p (s.rb (Reg.ctrl p) 1) (armKept p s)
    exact ⟨_, congrArg Host.Outcome.next (ctrlWrite_disable h hp hen hs), h0, hquiet, sameBytes_of_mem hmem⟩
  · obtain ⟨h0, h1, hstatus⟩ := enabledQuiet_shown p s
    have honly := enabledQuiet_onlyRegs p s
    have hexec : exec (.blockEnable ag p) s = .next (chqAll p (enabledQuiet p s)) := congrArg Host.Outcome.next (ctrlWrite_enable h hp hen)
    by_cases hcvu : p.val = Page.cvu
    · have hfollow := channelsFollow (l := List.range 8) (fun _ => List.mem_range.mp) (cvuQuiet_enabledQuiet hcvu s)
      have hall : chqAll p (enabledQuiet p s) = forEach (List.range 8) chqFollow (enabledQuiet p s) := if_pos hcvu
      rw [← hall] at hfollow
      refine ⟨_, hexec, (hfollow.ctrl p 0).trans h0, (hfollow.ctrl p 1).trans h1, (hfollow.status p 0).trans hstatus, fun hne => absurd hcvu hne,
        fun _ => ⟨List.all_eq_true.mpr fun c hc => Bool.or_eq_true_iff.mpr ?_, ?_⟩⟩
      · exact (hfollow.follow c hc).imp_left fun hrun => chanAt_of_running ((enabledQuiet_cvuCStatus hcvu c s).symm.trans hrun)
      · exact onlyRegs_trans (onlyRegs_mono (by simp) honly) (onlyRegs_mono (by simp) hfollow.only)
    · have hall : chqAll p (enabledQuiet p s) = enabledQuiet p s := if_neg hcvu
      rw [hall] at hexec
      exact ⟨_, hexec, h0, h1, hstatus, fun _ => honly, fun hc => absurd hc hcvu⟩
  · have hfix : ∀ k b, 2 ≠ k → Host.Outcome.next (ctrlWrite ag p (setBit (s.reg (Reg.ctrl p)) k b) s) =
        (Host.Outcome.next (armKept p s) : Host.Outcome State Fault Refusal) := fun k b hk => congrArg _ (ctrlWrite_fixed h hp b hk)
    exact ⟨_, hfix 1 true (by decide), hfix 1 false (by decide), hfix 0 false (by decide), hfix 0 true (by decide), armKept_onlyRegs p s⟩

end Sys2Proof.Proofs
end
